-- ==== Sys2Proof/Word.lean ====
section
/-! DEFINITION. The plain word types of the module: bytes, 32-bit control words, byte strings. -/

namespace Sys2Proof

/-- One byte (R3, R4). -/
abbrev Byte := BitVec 8

/-- One control-space word, 32 bits wide (R33). -/
abbrev Word := BitVec 32

/-- A byte string: packets, records, table contents (R3: every multi-byte field in it is little-endian). -/
abbrev Bytes := List Byte

/-- A port P0–P63 (Table 0-4). -/
abbrev Port := Fin 64

/-- A bay B0–B15 (Table 0-4). -/
abbrev Bay := Fin 16

/-- A global lane 0–255 (Table 0-4). -/
abbrev Lane := Fin 256

/-- A Seam bundle SB0–SB3 (Table 0-4). -/
abbrev Bundle := Fin 4

/-- A slot channel SL0–SL15 (Table 0-4). -/
abbrev Chan := Fin 16

/-- A feed: 0 is FEED A, 1 is FEED B. -/
abbrev Feed := Fin 2

/-- A crossbar plane 0–4 (Table 0-4). -/
abbrev Plane := Fin 5

/-- A home slice 0–7 (Table 0-4). -/
abbrev Slice := Fin 8

/-- A 64-byte line of pool address space, numbered by pool address / 64. -/
abbrev Line := Nat

end Sys2Proof
end

