-- ==== Sys2Proof/Syntax.lean ====
section
/-! DEFINITION. The commands of the block: one constructor of `Instr` per row of spec/opcode_table.json, and the operand
types the rows take. A row with an opcode of Table 11-6 carries the requester's header and its raw parameter bytes; an
event row carries what the outside world supplies when the event happens. -/

namespace Sys2Proof

/-! ## Requesters (R455 to R464) -/

/-- The five privileges, lowest first (R461). -/
inductive Priv where
  | observe | tenant | operate | admin | factory
  deriving DecidableEq, Repr

/-- Management transports (R455, Table 14-7): the I3C and SMBus targets, MCTP over PCIe VDM of a USP, the management
PF's mailbox, and the twin partner's relay with the privilege it carries. -/
inductive Transport where
  | i3c | smbus | vdm (u : Port) | mailbox | partner (p : Priv)
  deriving DecidableEq, Repr

/-- A requester: transport and MCTP endpoint ID (or the USP of the mailbox). -/
structure Requester where
  transport : Transport
  source : Nat
  deriving DecidableEq, Repr

/-- What Acrak has of a command beside its parameters: requester, secured session, TAG and CONTEXT (R457). -/
structure Hdr where
  req : Requester
  session : Option Nat
  tag : BitVec 32
  context : BitVec 16
  deriving DecidableEq, Repr

/-- How an SPDM request arrives: MCTP from an endpoint, or the DOE mailbox of a function of USP `u` (R542). -/
inductive SpdmLink where
  | mctp (r : Requester)
  | doePf (u : Port)
  | doeMgmt
  | doeUsp (u : Port)
  deriving DecidableEq, Repr

/-- The SPDM 1.2 requests Hallmark answers (R539 to R542). The cryptography of the exchange lies in the operands of
`finish`: whether its checks pass, and, with mutual authentication, the hash of the root key and the leaf certificate of the
requester's chain. -/
inductive SpdmMsg where
  | getVersion | getCapabilities | negotiateAlgorithms
  | getDigests
  | getCertificate (slot : BitVec 8) (off len : Nat)
  | challenge (slot : BitVec 8) (nonce : Bytes)
  | getMeasurements (index : BitVec 8) (nonce : Bytes)
  | keyExchange (slot : BitVec 8) (mutAuth : Bool)
  | finish (session : Nat) (ok : Bool) (auth : Option (Bytes × Bytes))
  | heartbeat (session : Nat)
  | keyUpdate (session : Nat)
  | endSession (session : Nat)
  | other (code : BitVec 8)
  deriving DecidableEq, Repr

/-! ## Functions and host traffic -/

/-- A Mover function: the host PF of USP `u`, a VF by its global index, or the management PF (Table 4-1). -/
inductive Fn where
  | hostPf (u : Port) | vf (g : Fin 1024) | mgmtPf
  deriving DecidableEq, Repr

/-- A function of VCS u that a configuration request names (R311 to R313): the USP function, a vPPB, the host PF or a VF
by host-local index behind vPPB 0, the management PF, LD u.k, or the device a bindable vPPB is bound to. -/
inductive CfgTarget where
  | usp | vppb (v : Fin 32) | hostPf | vf (i : Fin 1024) | mgmtPf | ld (k : Fin 16) | bound (v : Fin 32)
  deriving DecidableEq, Repr

/-- CXL.mem request opcodes the chapters name (Table 3-3, R142). -/
inductive MemOp where
  | memRd | memRdData | memInv | memInvNT | memSpecRd | memWr | memWrPtl
  deriving DecidableEq, Repr

/-- SnpType of a request (Table 3-3). -/
inductive Snp where
  | noOp | snpData | snpInv | snpCur
  deriving DecidableEq, Repr

/-- MetaValue (Table 3-3): I, A, S. -/
inductive Meta where
  | i | a | s
  deriving DecidableEq, Repr

/-- A CXL.mem request as a port receives it: HPA, opcode, SnpType, MetaValue, requester's tag, data and byte mask of a write;
`spid` and `dpid` are those of a PBR message. -/
structure MemReq where
  op : MemOp
  snp : Snp
  mval : Option Meta
  hpa : Nat
  tag : Nat
  data : Bytes
  mask : BitVec 64
  poison : Bool
  pbr : Option (Nat × Nat)
  deriving DecidableEq, Repr

/-- Snoop responses a USP can send (R143). -/
inductive BiRsp where
  | i | s | e
  deriving DecidableEq, Repr

/-- Far atomic operations (R154). -/
inductive AtomOp where
  | fetchAdd | swap | cas
  deriving DecidableEq, Repr

/-- An AtomicOp as a USP receives it: operand size in bytes, HPA, operand, compare value, tag. -/
structure AtomReq where
  op : AtomOp
  size : Nat
  hpa : Nat
  operand : Nat
  compare : Nat
  tag : Nat
  deriving DecidableEq, Repr

/-- Pipelines that switch banks (R20, R26). -/
inductive Pipeline where
  | ingress (p : Port) | egress (p : Port) | slice (s : Slice) | mover | seam (s : Bundle)
  deriving DecidableEq, Repr

/-- An ERR_ message of a device. -/
inductive ErrMsg where
  | cor | nonfatal | fatal
  deriving DecidableEq, Repr

/-- Kinds of a CXL.io TLP that the ports tell apart (R320 to R323). -/
inductive TlpKind where
  | memRd | memWr | cfgRd | cfgWr | msg | errMsg (e : ErrMsg) | pmeAck | cpl | ioRd | ioWr | atomic
  deriving DecidableEq, Repr

/-- A CXL.io TLP: kind, address, routing ID it names (bus in bits 15:8), requester ID, SPID and DPID of a PBR port, tag, bytes of
header and payload, bytes a read asks for, RO attribute, received on an IDE stream, LD of an MLD, payload. -/
structure Tlp where
  kind : TlpKind
  addr : Nat
  rid : Nat
  reqId : Nat
  pbr : Option (Nat × Nat)
  tag : Nat
  bytes : Nat
  len : Nat
  ro : Bool
  ide : Bool
  ld : Option Nat
  data : Bytes
  deriving DecidableEq, Repr

/-- What a host writes to an HDM decoder when it sets Commit: base, size, interleave granularity
and ways as the CXL fields, DPA skip. -/
structure HdmWrite where
  base : Nat
  size : Nat
  ig : Nat
  iw : Nat
  skip : Nat
  deriving DecidableEq, Repr

/-- A host configuration write: function, register offset, byte enables, value, requester tag. -/
structure CfgWrite where
  target : CfgTarget
  offset : BitVec 12
  be : BitVec 4
  value : Word
  tag : Nat
  deriving DecidableEq, Repr

/-- A function with a multicast capability: the USP function or a vPPB (R336). -/
inductive McFn where
  | usp | vppb (v : Fin 32)
  deriving DecidableEq, Repr

/-- What answers a Mover chunk access (R192, R206): read data, an acknowledged write, an atomic's original value, a refusal
under a row of Table 2-3, poison, a host completion status, a timeout. -/
inductive ChunkRsp where
  | data (b : Bytes) | wrote (len : Nat) | atomic (orig : Nat) | row (n : Fin 10) (write : Bool) | poison
  | hostUr | hostCa | timeout | relocLine (poisoned : Bool)
  deriving DecidableEq, Repr

/-- An error the Mover's SRAM shows (R229). -/
inductive MoverSramError where
  | correctable | function (f : Fn) | shared
  deriving DecidableEq, Repr

/-- Tag-slot spaces of a port (R325). -/
inductive SlotKind where
  | mem | io
  deriving DecidableEq, Repr

/-- A completion a device or host sends to a module-originated request (R324 to R327). -/
structure DevCpl where
  kind : SlotKind
  slot : Nat
  gen : BitVec 4
  ok : Bool
  poison : Bool
  data : Bytes
  deriving DecidableEq, Repr

/-- What Acrak reads from a POOL device (R44 to R48). -/
structure DevIdent where
  cxlMem : Bool
  type3 : Bool
  serial : Nat
  capacity : Nat
  ok : Bool
  deriving DecidableEq, Repr

/-- Why one extent's relocation is aborted (R100, R101, R103). -/
inductive RelocAbort where
  | command | deviceLost | copyFailed | moverFault | targetFenced
  deriving DecidableEq, Repr

/-- The header of an ingot (Table 5-4). -/
structure IngotHdr where
  src : Fin 78
  dest : Fin 78
  q : Fin 8
  seq : BitVec 16
  first : Bool
  last : Bool
  len : Nat
  epoch : BitVec 16
  mc : Option (Fin 65)
  crcOk : Bool
  eccOk : Bool
  dup : Bool
  deriving DecidableEq, Repr

/-- How an IDE_KM exchange with a DSP's device ended (R335, R548): the device offers IDE and its chain ends at a root with this
hash, or it offers no IDE or the exchange failed. -/
inductive IdeKm where
  | offered (root : Bytes) | failed
  deriving DecidableEq, Repr

/-- What the two ends of a link settled when it came up (R346 to R348): lanes, rate code (Table 8-9), order, polarity of the port
lanes, CXL negotiated, 256-byte and latency-optimised flits supported by both ends, PCIe flit mode, L0p supported by both; how
the IDE_KM exchange that follows on a DSP ends. -/
structure LinkParams where
  width : Nat
  rate : Fin 6
  reversed : Bool
  polInv : BitVec 16
  cxl : Bool
  flit256 : Bool
  latencyOpt : Bool
  pcieFlit : Bool
  l0p : Bool
  ide : IdeKm
  deriving DecidableEq, Repr

/-- An AER error of a function (R330): its status bit, correctable or not, the header of the TLP concerned. -/
structure AerErr where
  bit : Fin 32
  correctable : Bool
  header : BitVec 128
  deriving DecidableEq, Repr

/-- A lane whose figure of merit Planish updates: a port lane, or lane `i` of a Seam bundle (16 is the spare). -/
inductive AnyLane where
  | port (n : Lane) | seam (b : Bundle) (i : Fin 17)
  deriving DecidableEq, Repr

/-- What an equalisation phase measured (R354, R356): the port FOM after a bypass, if one was used; the port FOM with each preset
in the order of R354; the coefficient settings then tried with their port FOM; the port lane with the lowest FOM at the end. -/
structure EqRun where
  bypass : Option (BitVec 8)
  presets : List (BitVec 8)
  steps : List (BitVec 18 × BitVec 8)
  lowLane : Fin 16
  deriving DecidableEq, Repr

/-- What a bundle's training step sees (R386 to R389): both ends report the next state on every lane for 64 blocks; TYPE and LANE_ID
received on each of the 17 lanes, BUNDLE_ID, TWIN_B; each lane's FOM where the step ends ADAPT. -/
structure SeamTrain where
  agree : Bool
  types : List (BitVec 8)
  lanes : List (BitVec 7)
  bundle : Bundle
  twinB : Bool
  foms : List (BitVec 8)
  deriving DecidableEq, Repr

/-- Why a bundle goes down (R393, R397): a lane lost while the spare is in use or failed, CK lost, sixteen resends without progress. -/
inductive BundleCause where
  | secondLane | ckLoss | stall
  deriving DecidableEq, Repr

/-- A device-side request to a port of the other twin (R401). -/
structure RelayReq where
  read : Bool
  dpa : Nat
  tag : Nat
  data : Bytes
  mask : BitVec 64
  mval : Option Meta
  poison : Bool
  deriving DecidableEq, Repr

/-- A request of a proxy slice to its home (R402, R403); `upper` says that it came by the upper half of the DPA space (row 3 of
Table 2-3). -/
structure ProxyReq where
  line : Nat
  upper : Bool
  op : MemOp
  snp : Snp
  mval : Option Meta
  tag : Nat
  data : Bytes
  mask : BitVec 64
  poison : Bool
  atom : Option AtomReq
  deriving DecidableEq, Repr

/-- What one twin tells the other of itself (R399, R550, Table 13-7): digest of its home map, no VALID extent in the other's half,
DSN, boot counter, alias key identifier, hash of the newest ledger entry, identity certificate. -/
structure TwinId where
  homeMap : Bytes
  clear : Bool
  dsn : Nat
  boot : Nat
  keyId : Bytes
  newest : Bytes
  cert : Bytes
  deriving DecidableEq, Repr

/-- A twin command that the primary applies to both modules (R398): TWIN_ENABLE, TWIN_DISABLE. -/
inductive TwinOp where
  | enable (me : TwinId) | disable
  deriving DecidableEq, Repr

/-- How the other twin answers: ready, with its identity; refused; not verified. -/
inductive TwinReply where
  | ok (me : TwinId) | conflict | denied
  deriving DecidableEq, Repr

/-- A message that crosses the Seam (Table 9-8). -/
inductive TwinMsg where
  | devReq (n : Port) (r : RelayReq)
  | devRsp (tag : Nat) (ok poison : Bool) (data : Bytes)
  | homeReq (r : ProxyReq)
  | homeRsp (tag row : Nat) (data : Option Bytes) (poison : Bool) (mval : Option Meta)
  | atomRsp (tag : Nat) (orig : Option Nat)
  | snp (line : Nat) (kind : Snp)
  | birsp (line : Nat) (r : BiRsp)
  | conflict (line : Nat)
  | conflictAck (line : Nat)
  | spare (b : Bundle) (i : Fin 16)
  | leaving
  | ask (op : TwinOp)
  | reply (r : TwinReply)
  | confirm (op : TwinOp)
  | group (g : Fin 1024) (on : Bool)
  | command (id : Nat) (priv : Priv) (pkt : Bytes)
  | response (id : Nat) (pkt : Bytes)
  | event (id : Nat) (pkt : Bytes)
  deriving DecidableEq, Repr

/-- A Seam frame (Table 9-6): stream, the messages of its valid slots, FSEQ, ACK, NAK, a credit return, and whether its CRC
passes. -/
structure SeamFrame where
  stream : Fin 4
  slots : List TwinMsg
  fseq : BitVec 16
  ack : BitVec 16
  nak : Bool
  credit : Option (Fin 8 × Nat)
  crcOk : Bool
  deriving DecidableEq, Repr

/-- What a read of an SRAM word found (R440 to R444). -/
inductive SramErr where
  | correctable | uncorrectable
  deriving DecidableEq, Repr

/-- Whose word it is (R445): an ingot or header of a flow (R269), a frame of a cached directory page (R171), an entry of the
policer and egress service table by its offset (R306), a fault history record (Table 12-8), any other word. -/
inductive SramOwner where
  | fabric (src dest : Fin 78) (q : Fin 8) (header : Bool)
  | dirFrame (i : Slice) (page : Nat) (both : Bool)
  | service (off : Nat)
  | history (j : Fin 64)
  | other
  deriving DecidableEq, Repr

/-- PTP messages (R562, R563): times in units of 2^-48 ns; `offset` is the measured master time less the shadow counter. -/
inductive PtpMsg where
  | announce (ident priority steps : Nat) (domain : Nat)
  | sync (ident : Nat) (domain : Nat) (offset : Int)
  | followUp (ident : Nat) (domain : Nat) (offset : Int)
  | delayResp (ident : Nat) (domain : Nat) (delay : Int)
  deriving DecidableEq, Repr

/-- Causes of source loss (R563). -/
inductive LossCause where
  | announceTimeout | syncTimeout | ppsMissing | offsets
  deriving DecidableEq, Repr

/-- An input that REC records besides commands (Table 14-7). -/
inductive TrInput where
  | event (source kind : BitVec 16) (data : Bytes)
  | timer (id : Nat) (armed : Nat)
  | device (port : Port) (tag status : BitVec 16) (data : Bytes)
  deriving DecidableEq, Repr

/-- Causes of a GAP record (Table 14-7). -/
inductive GapCause where
  | bufferRoom | badPage (first last : Nat)
  deriving DecidableEq, Repr

/-- How an on-device replay ends (R582). -/
inductive ReplayEnd where
  | last | failover | diverged (kind seq : Nat)
  deriving DecidableEq, Repr

/-- The 8 samples of each strap at a COLD start, bit 7 the last (R691, R692). -/
structure ColdInputs where
  twinId : BitVec 8
  testEnN : BitVec 8
  mgtAddr0 : BitVec 8
  mgtAddr1 : BitVec 8
  mgtAddr2 : BitVec 8
  ethMode : BitVec 8
  deriving DecidableEq, Repr

/-- What the tests of a start find (R272, R372, R442): the crossbar planes that pass their self-test, the pseudo-channels that train and
pass, the bays whose PLL locks. -/
structure StartTests where
  planes : BitVec 5
  channels : BitVec 32
  plls : BitVec 16
  deriving DecidableEq, Repr

/-- JTAG operations (R693). -/
inductive JtagOp where
  | bypass | idcode | samplePreload (cells : Bytes) | extest | extestPulse | extestTrain | clamp | highz | reset
  deriving DecidableEq, Repr

/-- A CXL.cache message, or a CXL.mem message of a PASS device, that only passes through the module (R52, R331): a response or a
request; from a device, the LD of an MLD it comes from; from a host, the vPPB it goes to; tag and length. -/
structure PassMsg where
  cache : Bool
  response : Bool
  peer : Option Nat
  tag : Nat
  bytes : Nat
  deriving DecidableEq, Repr

/-- The commands of the block, one constructor per row of the opcode table, in the table's order. -/
inductive Instr where
  /-- R480: Returns vendor, device, stepping, DSN, firmware slot versions and boot counter. -/
  | moduleIdentify (h : Hdr) (p : Bytes)
  /-- R480: Returns MOD_READY, lock, Touchstone, requester privilege, global epoch and every ss_STATUS. -/
  | moduleStatus (h : Hdr) (p : Bytes)
  /-- R474: Returns the kept final status of one of the requester's background commands, by TAG and CONTEXT. -/
  | cmdStatus (h : Hdr) (p : Bytes)
  /-- R480: Cancels a queued request of the requester, which then answers CONFLICT. -/
  | cmdCancel (h : Hdr) (p : Bytes)
  /-- R482: Runs an inner command packet on the twin partner at the lower of the requester's privilege and ADMIN. -/
  | partnerRelay (h : Hdr) (p : Bytes)
  /-- R607: Starts a WARM start when the module is not in safe state, Standby or a start. -/
  | moduleWarmReset (h : Hdr) (p : Bytes)
  /-- R599: Takes the module into Standby in the steps of Table 15-6. -/
  | moduleStandby (h : Hdr) (p : Bytes)
  /-- R611: Writes the journal buffer to flash and answers once it is there. -/
  | journalFlush (h : Hdr) (p : Bytes)
  /-- R611: Sets or withdraws the mark that empties the binding journal at the next start. -/
  | journalClear (h : Hdr) (p : Bytes)
  /-- R647: Returns PFE status, monitors, accumulator, last trip and rail voltages. -/
  | pfeInfo (h : Hdr) (p : Bytes)
  /-- R647: Switches to the other qualified feed under R622. -/
  | pfeSwitch (h : Hdr) (p : Bytes)
  /-- R647: Discharges VHU to 45 V into VBUS, recharges it and reports C_EST. -/
  | pfeHoldupTest (h : Hdr) (p : Bytes)
  /-- R674: Returns slot bus status and each channel's status, monitors and accumulator. -/
  | slotInfo (h : Hdr) (p : Bytes)
  /-- R656: Sets or clears a channel's power request, or clears its latch, subject to R664 and R668. -/
  | slotPower (h : Hdr) (p : Bytes)
  /-- R652: Binds a slot channel to a DSP or unbinds it. -/
  | slotBind (h : Hdr) (p : Bytes)
  /-- R674: Sets power and attention indicators of a module-controlled channel. -/
  | slotIndicator (h : Hdr) (p : Bytes)
  /-- R340: Returns roles, personalities, bindings and link state of every port. -/
  | portInfo (h : Hdr) (p : Bytes)
  /-- R309: Changes a port's role when R308 and R309 allow, retraining its link. -/
  | portRoleSet (h : Hdr) (p : Bytes)
  /-- R310: Sets VDM_MGMT and MGMT_USP of a USP. -/
  | portMgmtSet (h : Hdr) (p : Bytes)
  /-- R334: Replaces the set of global multicast groups allotted to a VCS. -/
  | mcGroupAllot (h : Hdr) (p : Bytes)
  /-- R340: Returns the port counters and AER status of the port's functions. -/
  | portStats (h : Hdr) (p : Bytes)
  /-- R378: Returns a bay's width, port and lane status, FOM, errors and test counts. -/
  | laneInfo (h : Hdr) (p : Bytes)
  /-- R345: Changes a bay's width, taking its links down and making its ports PASS DSPs. -/
  | bayWidthSet (h : Hdr) (p : Bytes)
  /-- R378: Retrains, retrains with equalisation, disables or enables a port link. -/
  | linkCtl (h : Hdr) (p : Bytes)
  /-- R367: Margins named lanes in timing and voltage as a background command. -/
  | laneMargin (h : Hdr) (p : Bytes)
  /-- R368: Starts or stops a test pattern mode on a disabled port. -/
  | laneTest (h : Hdr) (p : Bytes)
  /-- R410: Returns bundle, lane, stream and twin status. -/
  | seamInfo (h : Hdr) (p : Bytes)
  /-- R410: Retrains, disables or enables a Seam bundle. -/
  | seamBundleCtl (h : Hdr) (p : Bytes)
  /-- R399: Enables or resumes twin operation on both modules after partner verification. -/
  | twinEnable (h : Hdr) (p : Bytes)
  /-- R408: Flushes partner-held lines on both halves and clears ENABLED on both modules. -/
  | twinDisable (h : Hdr) (p : Bytes)
  /-- R410: Sets or clears a share group's SEM_TWIN_GRP bit on both modules. -/
  | twinGroupSet (h : Hdr) (p : Bytes)
  /-- R274: Returns healthy planes, spare, free ingots and group count. -/
  | xbrInfo (h : Hdr) (p : Bytes)
  /-- R257: Commits the ALL_OR_WAIT or PARTIAL policy of one multicast group. -/
  | xbrMcPolicySet (h : Hdr) (p : Bytes)
  /-- R274: Commits a plane map that replaces a named healthy plane by the spare. -/
  | xbrPlaneRetire (h : Hdr) (p : Bytes)
  /-- R274: Returns the fabric counters. -/
  | xbrStats (h : Hdr) (p : Bytes)
  /-- R303: Returns port rates, queue masks and the archive's record range. -/
  | schInfo (h : Hdr) (p : Bytes)
  /-- R304: Returns bytes of one telemetry record by sequence number. -/
  | schTelemRead (h : Hdr) (p : Bytes)
  /-- R297: Writes a range of telemetry records to a host buffer through the management PF. -/
  | schTelemExport (h : Hdr) (p : Bytes)
  /-- R303: Clears the open interval's histograms and sets CLEARED in its record. -/
  | schTelemClear (h : Hdr) (p : Bytes)
  /-- R303: Returns held requests and token counts per LD of a USP. -/
  | schHoldRead (h : Hdr) (p : Bytes)
  /-- R115: Returns pool counts, free slots and journal runs. -/
  | poolInfo (h : Hdr) (p : Bytes)
  /-- R42: Changes a DSP between PASS and POOL when unbound and unnamed by the pool tables. -/
  | dspPersonalitySet (h : Hdr) (p : Bytes)
  /-- R115: Replaces a USP's pool view unless a held extent would leave it. -/
  | poolViewSet (h : Hdr) (p : Bytes)
  /-- R91: Creates LD u.k, presented as a hot-add with no capacity. -/
  | ldCreate (h : Hdr) (p : Bytes)
  /-- R92: Removes an LD, releasing its extents first when FORCE is set. -/
  | ldDestroy (h : Hdr) (p : Bytes)
  /-- R83: Checks, zero-fills, journals and commits new extents, then sends Add Capacity. -/
  | extentGrant (h : Hdr) (p : Bytes)
  /-- R86: Requests release of extents from the host of an LD. -/
  | extentRelease (h : Hdr) (p : Bytes)
  /-- R115: Returns up to 512 active extent map entries. -/
  | extentRead (h : Hdr) (p : Bytes)
  /-- R59: Binds a DCD tag and member LDs to a share group, with forced removal when FORCE is set. -/
  | shareGroupSet (h : Hdr) (p : Bytes)
  /-- R94: Starts relocation of an extent list or a whole DSP to a destination. -/
  | relocateStart (h : Hdr) (p : Bytes)
  /-- R103: Aborts every relocation in progress, committing unfinished extents back to their sources. -/
  | relocateAbort (h : Hdr) (p : Bytes)
  /-- R115: Returns per-batch relocation progress. -/
  | relocateStatus (h : Hdr) (p : Bytes)
  /-- R77: Rebuilds a fenced mirror copy by the relocation steps and clears FENCED at the end commit. -/
  | mirrorResync (h : Hdr) (p : Bytes)
  /-- R180: Returns slice health, limits and cached and dirty page counts. -/
  | dirInfo (h : Hdr) (p : Bytes)
  /-- R180: Returns the directory entry, home slice and cached state of a pool address. -/
  | dirLineRead (h : Hdr) (p : Bytes)
  /-- R180: Returns the 16 entries of a directory set. -/
  | dirSetRead (h : Hdr) (p : Bytes)
  /-- R181: Invalidates every line with an entry in a 2 MiB-aligned range, leaving it all I. -/
  | dirRangeFlush (h : Hdr) (p : Bytes)
  /-- R162: Clears POISONED in the directory and extent map entries of a range. -/
  | dirPoisonClear (h : Hdr) (p : Bytes)
  /-- R180: Returns the directory counters per slice. -/
  | dirStats (h : Hdr) (p : Bytes)
  /-- R232: Returns healthy engines, free contexts, allotments and free VF indices. -/
  | movInfo (h : Hdr) (p : Bytes)
  /-- R185: Sets a host PF's VF allotment, reserving the lowest free global indices. -/
  | movAllotSet (h : Hdr) (p : Bytes)
  /-- R232: Writes the Mover host weight of a USP. -/
  | movHostWeightSet (h : Hdr) (p : Bytes)
  /-- R232: Returns ring state, generation, windows and counters of one function. -/
  | movFnRead (h : Hdr) (p : Bytes)
  /-- R217: Resets a named VF or host PF as a host FLR would. -/
  | movFnReset (h : Hdr) (p : Bytes)
  /-- R232: Returns bytes and descriptors per function and per engine. -/
  | movStats (h : Hdr) (p : Bytes)
  /-- R454: Returns regions, strengths, free pages and failed pseudo-channels. -/
  | vaultInfo (h : Hdr) (p : Bytes)
  /-- R454: Returns a raw corrected page with header, WSEQ and physical page. -/
  | vaultPageRead (h : Hdr) (p : Bytes)
  /-- R451: Sets a region's code strength for the next COLD or MODULE start. -/
  | vaultStrengthSet (h : Hdr) (p : Bytes)
  /-- R433: Sets Anneal periods and enable, and can start a pass at once. -/
  | vaultAnnealCtl (h : Hdr) (p : Bytes)
  /-- R439: Retires a named logical page. -/
  | vaultRetire (h : Hdr) (p : Bytes)
  /-- R454: Returns up to 512 retirement records. -/
  | vaultRetiredRead (h : Hdr) (p : Bytes)
  /-- R454: Returns the vault counters. -/
  | vaultStats (h : Hdr) (p : Bytes)
  /-- R519: Returns history pointers, FLT_STATUS, FLT_LOST and slots held. -/
  | faultInfo (h : Hdr) (p : Bytes)
  /-- R519: Returns fault records from the history ring. -/
  | faultHistRead (h : Hdr) (p : Bytes)
  /-- R494: Moves the history tail forward. -/
  | faultAck (h : Hdr) (p : Bytes)
  /-- R495: Returns per-source fault counters. -/
  | faultCountRead (h : Hdr) (p : Bytes)
  /-- R506: Enrols or removes a requester for fault notifications with a minimum class. -/
  | faultSubscribe (h : Hdr) (p : Bytes)
  /-- R519: Returns Quench slot state, grace left and counts. -/
  | quenchRead (h : Hdr) (p : Bytes)
  /-- R501: Moves a source from GRACE or QUENCHED to SETTLED, or to OBSERVE with no reversible action. -/
  | quenchAck (h : Hdr) (p : Bytes)
  /-- R501: Ends every reversible action of a source and returns it to OBSERVE. -/
  | quenchRelease (h : Hdr) (p : Bytes)
  /-- R511: Returns bytes of the flash fault-dump region or the loss buffer. -/
  | faultDumpRead (h : Hdr) (p : Bytes)
  /-- R511: Clears dump status and starts erasing dump sections 0 to 4. -/
  | faultDumpRelease (h : Hdr) (p : Bytes)
  /-- R508: Starts a MODULE reset from module safe state after any flush. -/
  | safeReset (h : Hdr) (p : Bytes)
  /-- R553: Returns Hallmark registers and firmware slot versions and validity. -/
  | hlmInfo (h : Hdr) (p : Bytes)
  /-- R553: Returns up to 7 ledger entries. -/
  | ledgerRead (h : Hdr) (p : Bytes)
  /-- R536: Declares ledger entries archived up to an index. -/
  | ledgerArchiveAck (h : Hdr) (p : Bytes)
  /-- R553: Returns bytes of the slot 0 certificate chain. -/
  | identityCertRead (h : Hdr) (p : Bytes)
  /-- R543: Erases the inactive firmware slot. -/
  | fwUpdateStart (h : Hdr) (p : Bytes)
  /-- R543: Programs a chunk of the inactive slot at an ascending offset. -/
  | fwUpdateWrite (h : Hdr) (p : Bytes)
  /-- R543: Verifies the written slot and writes an UPDATE entry on success. -/
  | fwUpdateVerify (h : Hdr) (p : Bytes)
  /-- R543: Marks the verified slot for trial, optionally starting a WARM reset at once. -/
  | fwActivate (h : Hdr) (p : Bytes)
  /-- R543: Commits the trial slot, raising the fused SVN minimum and blowing revocations. -/
  | fwCommit (h : Hdr) (p : Bytes)
  /-- R546: Locks configuration and writes a LOCK entry. -/
  | configLock (h : Hdr) (p : Bytes)
  /-- R546: Unlocks configuration and writes a LOCK entry. -/
  | configUnlock (h : Hdr) (p : Bytes)
  /-- R547: Writes or clears one management or device root hash. -/
  | rootSet (h : Hdr) (p : Bytes)
  /-- R553: Returns a DSP's IDE state, key set and time since re-key. -/
  | ideStatus (h : Hdr) (p : Bytes)
  /-- R586: Returns counter, quality, servo state, offset, F and selected master. -/
  | timeInfo (h : Hdr) (p : Bytes)
  /-- R586: Sets PTP profile, domain and IPv4 configuration. -/
  | timeCfg (h : Hdr) (p : Bytes)
  /-- R586: Sets the counter in state FREE and writes a TIME record. -/
  | timeSet (h : Hdr) (p : Bytes)
  /-- R586: Returns Transcript SEQ range, newest checkpoint and REC status. -/
  | transcriptInfo (h : Hdr) (p : Bytes)
  /-- R586: Returns bytes of one Transcript record. -/
  | transcriptRead (h : Hdr) (p : Bytes)
  /-- R586: Writes a SEQ range of records to a host buffer through the management PF. -/
  | transcriptExport (h : Hdr) (p : Bytes)
  /-- R578: Protects records from a SEQ onward, or thaws them writing GAP and MARK records. -/
  | transcriptFreeze (h : Hdr) (p : Bytes)
  /-- R575: Writes a checkpoint between two inputs. -/
  | transcriptCheckpoint (h : Hdr) (p : Bytes)
  /-- R582: Starts an on-device replay on the spare core from a checkpoint. -/
  | replayStart (h : Hdr) (p : Bytes)
  /-- R586: Returns on-device replay progress and divergence. -/
  | replayStatus (h : Hdr) (p : Bytes)
  /-- R583: Ends the running on-device replay. -/
  | replayAbort (h : Hdr) (p : Bytes)
  /-- R475: Returns control-space words, aperture words from the active bank. -/
  | regRead (h : Hdr) (p : Bytes)
  /-- R476: Checks every word then writes control-space words, optionally masked. -/
  | regWrite (h : Hdr) (p : Bytes)
  /-- R481: Returns bytes of a table's active or shadow bank with its tag. -/
  | tableRead (h : Hdr) (p : Bytes)
  /-- R477: Writes bytes into a management-written table's writable shadow. -/
  | tableWrite (h : Hdr) (p : Bytes)
  /-- R712: Checks and commits up to 16 tables, advancing the global epoch. -/
  | commit (h : Hdr) (p : Bytes)
  /-- R480: Returns global epoch, oldest stamped epoch and named tables' tags and shadow state. -/
  | epochRead (h : Hdr) (p : Bytes)
  /-- R515: Enters Touchstone on a valid signed token and writes a TOUCHSTONE entry. -/
  | touchstoneEnter (h : Hdr) (p : Bytes)
  /-- R517: Causes an injected fault COUNT times, DELAY apart, in Touchstone. -/
  | faultInject (h : Hdr) (p : Bytes)
  /-- R484: Executes a CXL FM API command of the supported sets with mapped return codes. -/
  | fmApiCommand (h : Hdr) (mctp : Bool) (opcode : BitVec 16) (p : Bytes)
  /-- R540: Answers an SPDM 1.2 request on an MCTP or DOE transport. -/
  | spdmRequest (link : SpdmLink) (m : SpdmMsg)
  /-- R224: Installs a migration key on a host PF by vendor-defined request in a secure session. -/
  | migrationKeyInstall (u : Port) (session : Nat) (keyId : Fin 8) (key : Bytes)
  /-- R548: Accepts IDE keys for a USP's streams as IDE_KM responder. -/
  | ideKmKeyReceive (u : Port) (session : Nat) (stream : Fin 5) (keySet : Fin 2) (key : Bytes)
  /-- R459: Checks a received command packet in order and queues, chains or executes it. -/
  | commandPacketReceive (r : Requester) (session : Option Nat) (pkt : Bytes)
  /-- R471: Discards a chain not ended within 100 ms, every command answering CONFLICT. -/
  | chainAssemblyTimeout (r : Requester) (context : BitVec 16)
  /-- R472: Sends the completion event of a finished background command. -/
  | backgroundCommandEnd (id : Nat)
  /-- R465: Submits the packet in the management PF mailbox request buffer. -/
  | mbxGo
  /-- R466: Frees the mailbox event buffer and loads the next held event. -/
  | mbxEvtAck
  /-- R114: A write of POL_DSP_CFG PERSONALITY, refused on a USP or absent port or against R42. -/
  | personalityWrite (h : Hdr) (p : Port) (v : BitVec 2)
  /-- R309: A write of PRT_PORT_CFG ROLE, accepted under R308 and R309. -/
  | roleWrite (h : Hdr) (p : Port) (v : BitVec 2)
  /-- R631: A breaker point write checked as the whole curve would stand. -/
  | breakerCurveWrite (h : Hdr) (addr : Word) (v : Word)
  /-- R6: A write to a control register with no behaviour of its own, per its access code and range. -/
  | registerWrite (h : Hdr) (addr : Word) (v : Word)
  /-- R200: Records a submission ring's new tail, or sets DB_ERR for an invalid value. -/
  | sqTailDb (f : Fn) (r : Fin 4) (tail : BitVec 16)
  /-- R200: Records consumed completion entries, or sets DB_ERR for an invalid value. -/
  | cqHeadDb (f : Fn) (head : BitVec 16)
  /-- R203: Enables a submission ring from head 0, or disables it discarding unopened descriptors. -/
  | sqEnableWrite (f : Fn) (r : Fin 4) (en : Bool)
  /-- R210: Enables a completion ring with PHASE 1, or clears EN when no SQ or descriptor is active. -/
  | cqEnableWrite (f : Fn) (en : Bool)
  /-- R225: Stops fetching for a VF and lets open descriptors finish, ending FROZEN. -/
  | migrationFreeze (u : Port) (vf : Fin 1024)
  /-- R225: Writes a frozen VF's 512-byte blob to MIG_ADDR. -/
  | migrationSave (u : Port) (vf : Fin 1024) (keyId : Fin 8) (dmaOk : Bool)
  /-- R226: Reads, checks and loads a blob into a VF, leaving it FROZEN. -/
  | migrationRestore (u : Port) (vf : Fin 1024) (blob : Bytes) (dmaOk : Bool)
  /-- R225: Resumes fetching on a frozen or freezing VF. -/
  | migrationResume (u : Port) (vf : Fin 1024)
  /-- R225: FREEZE ends with TIMEOUT after FREEZE_TO, leaving the VF FREEZING. -/
  | freezeTimeout (f : Fin 1024)
  /-- R187: Sets VF Enable within the allotment, or clears it resetting the PF's VFs. -/
  | vfEnableWrite (u : Port) (numVfs : BitVec 16) (en : Bool)
  /-- R217: Stops a Mover function, advances its generation and squashes unissued work. -/
  | initiateFlr (f : Fn)
  /-- R219: After 1 ms squashes outstanding requests of a resetting function and completes the FLR. -/
  | flrDrainEnd (f : Fn)
  /-- R214: Sends pending MSI-X messages of a vector when it is unmasked. -/
  | msixUnmask (f : Fn) (vector : Option (Fin 16))
  /-- R201: Fetches a descriptor in ring order from a function's submission rings. -/
  | descriptorFetch (f : Fn) (d : Bytes)
  /-- R202: Halts a ring whose descriptor fetch returned error or poison. -/
  | descriptorFetchError (f : Fn) (r : Fin 4)
  /-- R201: Opens a descriptor once a context, CQ entry and ordering allow, binding it to an engine. -/
  | descriptorOpen (f : Fn)
  /-- R197: Fills a free engine chunk slot by two-level deficit round robin. -/
  | chunkIssue (e : Fin 32)
  /-- R192: Takes the completion of a chunk's host or pooled accesses and its status. -/
  | chunkResponse (ctx : Nat) (addr : Nat) (rsp : ChunkRsp)
  /-- R207: Writes a completion record once every write of the descriptor is visible. -/
  | descriptorComplete (ctx : Nat)
  /-- R213: Sends one MSI-X message when pending events reach COUNT or TIME passes. -/
  | msixCoalesceTimer (f : Fn) (vector : Fin 16)
  /-- R227: Rebinds a failed engine's open descriptors and repeats them from their start. -/
  | engineFailure (e : Fin 32)
  /-- R229: Corrects Mover SRAM state, or resets a function or enters Mover safe state. -/
  | moverSramError (e : MoverSramError)
  /-- R57: A host sets Commit; the module validates the USP's decoders and commits or reports Error Not Committed. -/
  | hdmDecoderCommit (u : Port) (k : Fin 16) (d : Fin 4) (w : HdmWrite)
  /-- R319: A host configuration write, with HBR routing committed before its completion when it changes forwarding. -/
  | hostConfigWrite (u : Port) (w : CfgWrite)
  /-- R257: A host write to a multicast capability that the module commits into MEMBERS. -/
  | multicastCapWrite (u : Port) (fn : McFn) (enable : Bool) (receive : BitVec 64)
  /-- R655: A host Slot Control write of power or indicator control on a host-controlled channel. -/
  | slotControlWrite (u : Port) (vppb : Fin 32) (powerOff : Bool) (pwr : BitVec 2) (atn : BitVec 2)
  /-- R331: Host clears DPC Trigger Status, ending containment on a vPPB. -/
  | dpcStatusClear (u : Port) (vppb : Fin 32)
  /-- R333: Resets the secondary side of a vPPB by its kind. -/
  | secondaryBusReset (u : Port) (vppb : Fin 32)
  /-- R364: Host clears Link Disable on a bound vPPB, taking the port out of park. -/
  | linkDisableClear (u : Port) (vppb : Fin 32)
  /-- R598: A configuration request to a VCS function, answered with retry status until ready. -/
  | configRequest (u : Port) (t : CfgTarget) (offset : BitVec 12) (tag : Nat)
  /-- R61: A CXL.mem request decoded, checked by Table 2-3 and sent to its home slice. -/
  | cxlMemRequest (p : Port) (m : MemReq)
  /-- R319: A CXL.io TLP routed by HBR windows or PBR DPID. -/
  | cxlIoTlpReceive (p : Port) (t : Tlp)
  /-- R324: A CXL.io memory request to an HDM range completes UR or is discarded. -/
  | poolRangeIoRequest (u : Port) (write : Bool) (hpa : BitVec 64) (tag : Nat)
  /-- R323: An AtomicOp to a pooled range sent to the home as ATOM. -/
  | atomicopReceive (u : Port) (a : AtomReq)
  /-- R289: Releases the head of an LD's hold FIFO to the home when tokens are positive. -/
  | policerRelease (ld : Fin 1024)
  /-- R67: An extent map or mirror pair fetched from the vault releases its miss-hold slot. -/
  | extentMapMissFill (p : Port) (slot : Fin 64)
  /-- R122: A home slice admits one request per cycle by rotating priority. -/
  | sliceAdmit (i : Slice)
  /-- R136: A directory page read from the vault continues the waiting request. -/
  | dirCacheMissFill (i : Slice) (page : Nat)
  /-- R134: Writes the least recently updated dirty directory page to both vault copies. -/
  | dirtyPageWriteback (i : Slice)
  /-- R150: A snoop response reaches the home and ends its snoop. -/
  | birspReceive (u : Port) (line : Line) (r : BiRsp)
  /-- R150: An owner's write-back arrives and is forwarded and written to memory. -/
  | ownerWritebackReceive (u : Port) (line : Line) (tag : Nat) (mta : Meta) (data : Bytes)
  /-- R154: A BIConflict is answered with BIConflictAck under Table 3-5. -/
  | biconflictReceive (u : Port) (line : Line)
  /-- R151: A home transaction ends once snoops, memory writes and completion are done. -/
  | transactionEnd (i : Slice) (line : Line)
  /-- R138: A victim leaves the eviction buffer when its responses and writes complete. -/
  | evictionEnd (i : Slice) (line : Line)
  /-- R168: A snoop without response within SNP_TO is taken as BIRspI, poisoning an owned line. -/
  | snoopTimeout (u : Port) (line : Line)
  /-- R164: The background walk covering a lost port ends and its lost mask bit clears. -/
  | lostPortWalkEnd
  /-- R120: Slices release new-epoch requests when no earlier-epoch transaction remains. -/
  | homeMapHoldEnd
  /-- R170: Both copies of a directory page fail; its lines are invalidated and the page rewritten free. -/
  | dirPageDoubleFail (i : Slice) (page : Nat)
  /-- R172: A failed home slice is FATAL and its granules enter the safe state. -/
  | sliceFailure (i : Slice)
  /-- R328: A completion to a module-originated request is accepted or discarded by generation. -/
  | deviceCompletion (p : Port) (c : DevCpl)
  /-- R327: A module request times out, answering its requester and quarantining its slot. -/
  | moduleRequestTimeout (p : Port) (kind : SlotKind) (slot : Nat)
  /-- R328: A quarantined slot with no completion is freed when its limit runs a second time. -/
  | quarantineExpiry (p : Port) (kind : SlotKind) (slot : Nat)
  /-- R44: Acrak checks a POOL device, programs its decoder and checks its serial and capacity. -/
  | poolDeviceAccept (p : Port) (d : DevIdent)
  /-- R49: Every 100 ms Acrak reads corrected and uncorrected event records of POOL devices. -/
  | poolDeviceEventPoll (p : Port) (corrected : Nat) (uncorrected : Nat)
  /-- R49: An ERR_ message from a POOL device is reported from source 0x0A40 + n. -/
  | poolDeviceErrMessage (p : Port) (e : ErrMsg)
  /-- R110: The start-up hold ends and held requests take row 8 of Table 2-3. -/
  | startHoldExpiry
  /-- R83: After the last zero fill, journal record and change-list commit make the extents VALID. -/
  | fillComplete (id : Nat)
  /-- R86: After BI invalidations the release is journaled and committed. -/
  | releaseInvalidateEnd (id : Nat)
  /-- R88: A release request unanswered after 10 s completes with TIMEOUT. -/
  | releaseTimeout (id : Nat)
  /-- R86: A host's Release Dynamic Capacity starts the release sequence. -/
  | hostReleaseCapacity (ld : Fin 1024) (first : Nat) (count : Nat)
  /-- R98: After a batch's last descriptor the copy is journaled and the end commit made. -/
  | relocationBatchEnd (id : Nat)
  /-- R103: An extent's relocation is aborted and its entry committed back. -/
  | relocationExtentAbort (extent : Nat) (cause : RelocAbort)
  /-- R99: A slot is freed when no message stamped before the end commit remains. -/
  | relocationSlotFree (slot : Nat)
  /-- R79: The change list becomes writable once committed entries are in both vault copies. -/
  | changeListWritable
  /-- R105: A map page with both copies bad is rebuilt from the journal. -/
  | extentPageRebuild (page : Nat) (pairTable : Bool)
  /-- R90: A managed hot remove unbind completes with TIMEOUT after 60 s. -/
  | managedRemoveTimeout (u : Port) (vppb : Fin 32)
  /-- R108: The journal buffer is flushed to flash within 10 ms. -/
  | journalBufferFlush
  /-- R107: Acrak compacts the journal when it passes 75 % full. -/
  | journalCompaction
  /-- R20: A pipeline switches to the committed banks at its next message boundary. -/
  | pipelineBankSwitch (pl : Pipeline)
  /-- R26: A pipeline not switched within 10 µs holds its traffic and the switch is retried every 10 µs. -/
  | switchFailureTimeout (pl : Pipeline)
  /-- R23: When no earlier-epoch message remains, former active banks are refilled and made writable. -/
  | shadowRefill (tid : BitVec 16)
  /-- R23: A commit not issued by COMMIT, taken once its shadows are writable and the epoch window allows. -/
  | moduleCommit (id : Nat)
  /-- R241: A received message is promoted to the shared buffer under the dynamic threshold. -/
  | messagePromotion (src : Fin 78) (dest : Fin 78) (q : Fin 8)
  /-- R250: An output checks, stores or discards an ingot and acknowledges it. -/
  | ingotReceive (dest : Fin 78) (plane : Plane) (g : IngotHdr) (payload : Bytes)
  /-- R249: An unacknowledged ingot is resent on another plane and the plane probed. -/
  | ingotAckTimeout (src : Fin 78) (dest : Fin 78) (q : Fin 8) (seq : BitVec 16)
  /-- R252: An unacknowledged probe fails the plane and its ingots are resent. -/
  | planeProbeTimeout (plane : Plane)
  /-- R254: Each microsecond the spare plane is self-tested. -/
  | spareSelfTest (pass : Bool)
  /-- R260: A waiting back-invalidate multicast draws its copies from headroom. -/
  | headroomGrant (i : Slice)
  /-- R279: When an egress point can begin a message, SCH chooses the queue. -/
  | egressSelect (e : Fin 68)
  /-- R294: Every SAMPLE_US SCH bins depth and head delay of every egress queue. -/
  | telemetrySample
  /-- R295: Every EXPORT_MS SCH writes a telemetry record and clears the interval. -/
  | telemetryExportInterval (vaultOk : Bool)
  /-- R287: A port link comes up; shapers refill and credits flow. -/
  | linkUp (p : Port) (l : LinkParams)
  /-- R270: A port link goes down; messages are discarded or delivered and lost-port handling runs. -/
  | linkDown (p : Port)
  /-- R330: A function logs an error under AER and reports it to FLT. -/
  | aerError (p : Port) (fn : CfgTarget) (e : AerErr)
  /-- R331: DPC on a bindable vPPB contains the bound device's traffic. -/
  | dpcTrigger (u : Port) (vppb : Fin 32)
  /-- R90: A surprise unbind commits at once and completes outstanding requests. -/
  | surpriseHotRemove (u : Port) (vppb : Fin 32)
  /-- R336: A failed IDE check makes the stream Insecure and discards its traffic. -/
  | ideIntegrityFailure (p : Port)
  /-- R548: Every REKEY_H hours HLM programs the unused key set of a DSP and issues K_SET_GO. -/
  | ideRekeyTimer (p : Port)
  /-- R548: A REQUIRED DSP withholding credits retries IDE_KM every 10 s and at link-up. -/
  | ideRequiredRetry (p : Port) (r : IdeKm)
  /-- R604: A USP forwards PME_Turn_Off to bound PASS DSPs and acknowledges upstream. -/
  | pmeTurnOff (u : Port)
  /-- R604: PME_TO_Ack is sent upstream after 10 ms without every DSP's acknowledgement. -/
  | pmeAckTimeout (u : Port)
  /-- R603: After L1_IDLE_US of idleness the module requests ASPM L1 entry. -/
  | aspmL1Idle (p : Port)
  /-- R689: A USP's PERST_N deasserts or asserts, starting training or a PORT reset. -/
  | perstNEdge (p : Port) (level : Bool)
  /-- R333: A hot reset or link down of a USP resets its VCS configuration and commits empty routing. -/
  | portReset (u : Port)
  /-- R351: Every 256 ns Planish updates each lane's figure of merit. -/
  | fomUpdate (n : AnyLane) (fom : BitVec 8)
  /-- R352: A lane below FOM_ALERT for 1 ms raises a CORRECTED event. -/
  | fomAlert (n : Lane)
  /-- R357: A lane loses lock or its FOM stays below 16 and is retired. -/
  | laneLoss (n : Lane)
  /-- R354: The module evaluates partner presets and coefficients by port FOM. -/
  | equalisation (p : Port) (r : EqRun)
  /-- R362: A training attempt returns to Detect; eight in a row park the port. -/
  | trainingAttemptFail (p : Port)
  /-- R363: Every 100 ms a parked port runs receiver detection and one attempt. -/
  | parkedDetect (p : Port) (receiver : Bool)
  /-- R367: A host margining command runs, ending any LANE_MARGIN run on the port. -/
  | hostMarginCommand (n : Lane) (active : Bool)
  /-- R374: A bay PLL fails to lock or loses lock; its links go down. -/
  | bayPllLockLoss (b : Bay)
  /-- R374: Every 100 ms LNC tries to relock a bay PLL and trains its ports. -/
  | bayPllRelock (b : Bay) (locked : Bool)
  /-- R387: A bundle moves to its next training state after 64 blocks of agreement. -/
  | bundleStateAdvance (b : Bundle) (r : SeamTrain)
  /-- R389: A lane below FOM_TARGET requests one transmitter step, every 2 µs. -/
  | seamAdaptStep (b : Bundle) (i : Fin 17) (before : BitVec 8) (after : BitVec 8)
  /-- R392: A lost data lane is replaced by the spare, or the bundle goes down. -/
  | seamLaneLoss (b : Bundle) (i : Fin 17)
  /-- R392: A SPARE request makes the transmitter carry lane k on D16 from the next AM row. -/
  | seamSpareRequest (b : Bundle) (i : Fin 16)
  /-- R393: A bundle goes down on a second lane loss or CK loss and its stream moves. -/
  | bundleDown (b : Bundle) (cause : BundleCause)
  /-- R391: After RETRAIN_MS a down bundle retrains from RESET. -/
  | bundleRetrainTimer (b : Bundle)
  /-- R397: A Seam frame is accepted in sequence or discarded with NAK. -/
  | seamFrameReceive (b : Bundle) (f : SeamFrame)
  /-- R397: On NAK or ACK_TO a stream resends from its oldest unacknowledged frame. -/
  | seamResend (x : Fin 4) (nak : Bool)
  /-- R394: A moved stream returns to its own ACTIVE bundle once nothing is unacknowledged. -/
  | streamReturn (x : Fin 4)
  /-- R406: The twin partner is lost by timeout or LEAVING and the pair becomes SUSPENDED. -/
  | partnerLoss
  /-- R406: A LEAVING control message arrives from the partner. -/
  | leavingMessage
  /-- R401: A device-side request from the partner is relayed to a local DSP. -/
  | twinRelayedRequest (b : Bundle) (p : Port) (m : RelayReq)
  /-- R429: A client page read is decoded, corrected and checked, or returns a bus error. -/
  | vaultRead (page bits : Nat)
  /-- R424: A sub-page write merges into a Crucible buffer. -/
  | vaultSubpageWrite (page off : Nat) (data : Bytes) (bits : Nat)
  /-- R425: A full-page write is encoded and written, forming the page. -/
  | vaultFullPageWrite (page : Nat) (data : Bytes)
  /-- R426: A Crucible buffer is written back after CRU_HOLD, correction or need. -/
  | crucibleWriteback (page : Nat)
  /-- R434: Anneal reads the next formed page, correcting or retiring it. -/
  | annealRead (bits : Nat)
  /-- R435: A pass unfinished at its period's end sets OVERRUN. -/
  | annealOverrun
  /-- R436: A page is remapped to a target page and the retirement journaled. -/
  | pageRetirement (page : Nat)
  /-- R441: A failed pseudo-channel's channel is retired and its pages remapped. -/
  | pseudoChannelFailure (i : Fin 32)
  /-- R444: An SRAM read corrects a word, or on an uncorrectable one spares its row. -/
  | sramWordError (bank : Fin 512) (row : Fin 1024) (word : Fin 32) (e : SramErr) (owner : SramOwner)
  /-- R446: A row with correctable errors at 4 words is replaced by a spare row. -/
  | sramRowRepair (bank : Fin 512) (row : Fin 1024)
  /-- R446: A spare-bank copy completes and the bank is replaced. -/
  | sramBankCopyEnd (bank : Fin 512)
  /-- R448: Anneal reads every SRAM word once per SRAM_S. -/
  | sramAnnealPass
  /-- R490: FLT accepts an event, merges or records it, counts it and matches Quench. -/
  | fltEventAccept
  /-- R497: A promotion window ends before the count is reached and the count restarts. -/
  | promotionWindowExpiry (source : BitVec 16)
  /-- R500: A source's grace timer reaches 0 and its QUENCH set runs. -/
  | graceExpiry (source : BitVec 16)
  /-- R511: The fatal flush ends complete or incomplete, and any following reset begins. -/
  | flushEnd
  /-- R511: The release erase of dump sections ends and the completion event is sent. -/
  | dumpReleaseEraseEnd
  /-- R513: Lockstep cores mismatch; CMD self-tests and forms a new pair. -/
  | lockstepMismatch (core : Fin 3) (failA : Bool) (failB : Bool)
  /-- R478: The spare core resumes the management plane, answering unanswered requests HW_FAULT. -/
  | coreFailover
  /-- R524: The boot ROM selects and verifies a slot, measures Assays and writes the KEY entry. -/
  | bootRomStart (slotOkA : Bool) (slotOkB : Bool) (badRec : Option Nat)
  /-- R525: Stage 1 writes the BOOT entry and releases the main domain. -/
  | bootEntryWrite
  /-- R531: HLM writes a signed, hash-chained ledger entry, or queues it under HOLD. -/
  | ledgerEntryWrite
  /-- R538: A reclaimable block lets pending entries be written or a held boot resume. -/
  | ledgerBlockReclaim
  /-- R544: A trial boot without MOD_READY in 1,500 ms reverts to the committed slot. -/
  | trialBootDeadline
  /-- R542: A missed heartbeat ends an SPDM session. -/
  | spdmHeartbeatMiss (session : Nat)
  /-- R562: A PTP message is timestamped and used by BMCA and the servo. -/
  | ptpMessage (m : PtpMsg)
  /-- R564: A rising PPS_IN edge gives the servo a phase measurement. -/
  | ppsInEdge
  /-- R563: After 16 good measurements the servo locks, stepping the counter at the first lock. -/
  | servoLock
  /-- R567: TIM signals HLM to write the ANCHOR entry and REC a TIME record. -/
  | anchor
  /-- R563: Loss of the locked time source moves the servo to HOLDOVER. -/
  | sourceLoss (cause : LossCause)
  /-- R563: After HOLDOVER_S without a source the servo goes FREE and quality UNSYNC. -/
  | holdoverExpiry
  /-- R565: PPS_OUT is driven high at each whole second while enabled and traceable. -/
  | ppsOutSecond
  /-- R37: Loss of REFCLK or root PLL lock is FATAL and the counter moves to the standby oscillator. -/
  | rootPllFail
  /-- R568: REC assigns an input a SEQ and records it before Acrak takes it. -/
  | transcriptInput (i : TrInput)
  /-- R575: Every CHECKPOINT_MIN REC writes a checkpoint. -/
  | checkpointTimer
  /-- R577: REC writes a GAP record when buffer room returns or a read meets a bad page. -/
  | transcriptGap (g : GapCause)
  /-- R583: An on-device replay ends at its last SEQ or on failover, releasing pages. -/
  | replayEnd (r : ReplayEnd)
  /-- R569: An Acrak timer expires as a TIMER input. -/
  | acrakTimer (id : Nat) (armed : Nat)
  /-- R588: A feed returns after both were lost and the module runs the whole start chain. -/
  | coldStart (b : ColdInputs)
  /-- R589: MRST_N low takes the module into Standby. -/
  | mrstNFall
  /-- R589: MRST_N rising after a long enough pulse starts a MODULE start. -/
  | mrstNRise (lowNs : Nat)
  /-- R596: A MODULE start runs the start chain from the boot ROM. -/
  | moduleStart (trigger : BitVec 8) (source : BitVec 16)
  /-- R597: A WARM start prepares, keeping vault and SPC, then runs as a MODULE start. -/
  | warmStart (trigger : BitVec 8)
  /-- R608: Each start restores settings and tables from the binding journal in order. -/
  | journalRestore (t : StartTests)
  /-- R592: MOD_READY asserts when the BOOT entry, lock, every READY and the first checkpoint are done. -/
  | modReadyAssert
  /-- R618: A feed comparator crossing puts the feed in or out of range. -/
  | feedRangeChange (f : Feed) (tenthV : Nat)
  /-- R619: A feed in range for QUAL_MS becomes qualified. -/
  | feedQualified (f : Feed)
  /-- R622: PFE opens the active pair and closes the other break before make. -/
  | switchover
  /-- R621: After RETURN_MS of qualification PFE switches back to the preferred feed. -/
  | feedReturn
  /-- R623: More than 2 A toward a feed for 1 µs counts it out of range. -/
  | reverseCurrent (f : Feed)
  /-- R624: A pair that does not bring VBUS up within INRUSH_MAX marks the feed unusable. -/
  | feedCloseFail (f : Feed)
  /-- R625: Hold-up not ready after 5 s or estimated below 1,000 µF raises an event. -/
  | holdupChargeCheck (charge5s : Bool)
  /-- R626: With no qualified feed and VBUS at 8 V the module runs from VHU. -/
  | rideThrough
  /-- R627: VHU at 30 V or a trip raises imminent loss and turns the main rails off. -/
  | imminentLoss
  /-- R627: VHU at 20 V turns the standby domain off. -/
  | standbyDomainOff
  /-- R632: Every 1 µs the feed breaker accumulator is charged or decayed. -/
  | breakerEvaluation (tenthA : Nat)
  /-- R634: A feed trip opens the pair, blocks the other feed and raises imminent loss. -/
  | trip (cause : Fin 4)
  /-- R633: Current at FAST_TRIP opens the pair within 1 µs. -/
  | fastTrip (tenthA : Nat)
  /-- R630: VBUS not within 0.5 V of the feed within INRUSH_MAX trips with cause 3. -/
  | inrushTimeout
  /-- R635: After COOL_S a feed is retried or the trip latches. -/
  | coolDownEnd
  /-- R617: Both feeds below 7 V lose the supervisor's settings and latch. -/
  | supervisorPowerLoss
  /-- R640: A rail out of window for 5 µs is FATAL and turns the main rails off. -/
  | railFault (r : Fin 11)
  /-- R637: PWRGD_OUT asserts after rails in window and 1 ms of idle accumulator. -/
  | pwrgdQualify
  /-- R651: The slot bus leaves range, opening powered channels, or qualifies again. -/
  | slotBusRangeChange (tenthV : Nat) (qualified : Bool)
  /-- R657: Presence low for 200 ms becomes debounced present. -/
  | presenceDebounceEnd (n : Chan)
  /-- R665: A removal of a powered device opens the channel and clears its request. -/
  | slotRemoval (n : Chan)
  /-- R661: A 20 ms button press sets Attention Button Pressed or BTN. -/
  | attentionButtonPress (n : Chan)
  /-- R658: A channel closes under foldback when its request and conditions hold. -/
  | channelClose (n : Chan)
  /-- R658: A channel output that stays low below the foldback limit marks it unusable. -/
  | channelCloseFail (n : Chan)
  /-- R658: A channel output not near the bus within INRUSH_MAX_MS trips with cause 3. -/
  | channelInrushTimeout (n : Chan)
  /-- R660: Every 1 µs a channel's breaker accumulator is charged or decayed. -/
  | channelBreakerEvaluation (n : Chan) (tenthA : Nat)
  /-- R666: A channel trip opens the channel, clears its request and sets Power Fault Detected. -/
  | channelTrip (n : Chan) (cause : Fin 4)
  /-- R659: SL_PGOOD asserts after the output is near the bus and 1 ms of idle accumulator. -/
  | slPgoodQualify (n : Chan)
  /-- R659: SL_PERST_N deasserts 100 ms after SL_PGOOD asserts. -/
  | slPerstRelease (n : Chan)
  /-- R663: A cleared request asserts SL_PERST_N and opens the channel 100 µs later with discharge. -/
  | channelOpenRequest (n : Chan)
  /-- R667: After COOL_S a channel's debounce begins. -/
  | channelCoolDownEnd (n : Chan)
  /-- R705: The lid reaches the warning, asserting THERM_N, or falls to release. -/
  | thermalWarning (lid : Int)
  /-- R706: A lid or junction trip is FATAL and the module enters safe state gating clocks. -/
  | thermalTrip (sensor : Fin 33) (celsius : Int)
  /-- R702: No root PLL lock within 1 s of standby power is FATAL. -/
  | rootPllNoLock
  /-- R285: Every 10 ns each SCH token bucket (shaper, guard bucket, policer) gains its rate units up to its burst. -/
  | tokenRefill
  /-- R246: In each ingot slot of 2 FCLK cycles each active plane matches inputs to outputs and dispatches at most one ingot per input and output. -/
  | ingotSlot
  /-- R376: The link partner requests an L0p width change, which the module grants up to the widest width using no retired lane. -/
  | partnerL0pRequest (p : Port) (width : Nat)
  /-- R370: A LANE_TEST checker synchronises to the incoming pattern within 256 bits and sets PRBS lock. -/
  | prbsLock (n : Lane)
  /-- R385: A Seam data lane reaches block lock after 64 consecutive valid sync headers. -/
  | blockLock (b : Bundle) (i : Fin 17)
  /-- R390: The Seam spare lane loses block lock or its FOM lies below 16 for two updates and is marked failed. -/
  | seamSpareFailure (b : Bundle)
  /-- R625: VHU reaches 48.0 V, HU_READY sets and C_EST is computed from the charge time. -/
  | holdupCharged (chargeUs : Nat)
  /-- R630: VBUS comes within 0.5 V of the closed feed, LIMITING clears and the converters are allowed to start or the switchover completes. -/
  | inrushComplete
  /-- R657: SL_PRSNT_N[n] goes low, starting or restarting the 200 ms insertion debounce. -/
  | slPrsntNFall (n : Chan)
  /-- R663: 100 µs after the request clears, the channel opens, drops SL_PGOOD, starts the discharge and sets Command Completed. -/
  | channelSwitchOpen (n : Chan)
  /-- R83: A host answers an Add Capacity event; extents it does not accept are released by the Table 2-9 sequence. -/
  | hostAddCapacityResponse (ld : Fin 1024) (accepted : List (Nat × Nat))
  /-- R485: An I3C reset, an endpoint ID change or a PORT reset of the USP loses a management transport, discarding its queued requests. -/
  | transportLost (t : Transport)
  /-- R693: A JTAG TAP operation runs BYPASS, IDCODE, SAMPLE/PRELOAD, or the board-test instructions when TEST_EN_N was sampled low. -/
  | jtagTapOperation (op : JtagOp)
  /-- R517: DELAY µs after the previous injection, the next of COUNT injected faults is caused. -/
  | injectionDelayExpiry
  /-- R338: A CXL.cache message, or a CXL.mem response or snoop from a PASS device, is received and routed to its host. -/
  | passThroughCxlMessage (p : Port) (m : PassMsg)
  deriving DecidableEq, Repr

end Sys2Proof
end

