-- ==== Sys2Proof/Config.lean ====
section
/-! DEFINITION. What an implementation fixes and what the manual leaves open: constants with no body, so that no proof can
see a value of them. Each is named in the assumption log. -/

namespace Sys2Proof.Config

/-- A value the manual leaves open, one for each number of `State.fresh` (log 4). -/
opaque freeNat : Nat → Nat

/-- What a breaker point with TIME 0 adds to the accumulator: the manual's division has no result there (R632, log 4). -/
opaque zeroTimeStep : Nat

/-- A byte the manual leaves open (log 4). -/
opaque freeByte : Nat → BitVec 8

/-- What a device answers to an FM API request that the module passes on to it (R484, log 4). -/
opaque deviceReply : Nat → Bytes

/-- SHA-384, least significant byte first (log 5: the manual names the function and does not restate it). -/
opaque sha384 : Bytes → BitVec 384

/-- HMAC-SHA-384 under a key (log 5). -/
opaque hmac384 : Bytes → Bytes → BitVec 384

/-- The ECDSA P-384 signature of the identity key over a message, 96 bytes (R527; log 5). -/
opaque signIdentity : Bytes → BitVec 768

/-- The identity key's private scalar (R527; log 6). -/
opaque identityScalar : Bytes

/-- The alias public key that a derivation seed yields, SEC1 uncompressed (R528; log 5). -/
opaque aliasPublic : Bytes → Bytes

/-- The ECDSA P-384 signature over a message under the alias key with that public part (R530; log 5). -/
opaque signAlias : Bytes → Bytes → BitVec 768

/-- The alias certificate for a public key, with Assays, SVN and IMAGE_VER (R529; log 5). -/
opaque aliasCert : Bytes → List Bytes → Nat → Nat → Bytes

/-- The Assays of the image programmed at manufacture (R527; log 6). -/
opaque factoryAssays : List Bytes

/-- The header of the image programmed at manufacture (log 6). -/
opaque factoryHeader : Bytes

/-- The check of an image header's signature, and of its key against the fused hash of its KEY_INDEX (R522; log 5). -/
opaque imageSigned : Bytes → Bool

/-- The check of a Touchstone token's signature under the factory key (R549; log 5). -/
opaque tokenSigned : Bytes → Bool

/-- The unit's Device Serial Number (Table 7-4; log 6). -/
opaque deviceSerial : BitVec 64

/-- The unit's identity certificate (R527; log 6). -/
opaque identityCert : Bytes

/-- The check that a twin's certificate and evidence end at the Sorrath root (R550; log 5). -/
opaque twinVerified : Bytes → Bool

/-- The unit's chain from the Sorrath root to the identity certificate (R529; log 6). -/
opaque certChain : Bytes

/-- Bytes of one step table (log 7: the manual gives a step no layout). -/
opaque stepTableLen : Nat

/-- Byte of a step table: table ID, offset (log 7). -/
opaque stepByte : Nat → Nat → BitVec 8

/-- The parity bytes of a page under a code strength (R417: the manual gives no order of the bits in the code word; log 6). -/
opaque bchParity : Nat → Bytes → Bytes

/-- The EVENT record's kind code of each kind of event (log 8: Table 14-7 names the field and lists no codes). -/
opaque eventKind : Nat → Nat

/-- The timer ID a TIMER record carries for each of Acrak's timed limits (log 8). -/
opaque timerId : Nat → Nat

/-- Checkpoint data of Acrak's replay state beside the journal and the tags (R575; log 9). -/
opaque replayState : Nat → Bytes

/-- What the main domain has staged for section 4 of a fault dump (Table 12-6 gives no layout; log 4). -/
opaque dumpExtract : Nat → Bytes

end Sys2Proof.Config
end

