-- ==== Sys2Proof/Machine/Maps.lean ====
section
/-! DEFINITION. Sparse storage: a list of (key, value) pairs with strictly rising keys. It holds register fields, table
bytes and every large array of the module that a run touches sparsely; an absent key reads as the array's default. -/

namespace Sys2Proof.Machine

/-- A sparse array. Its canonical form is `SMap.wf`. -/
abbrev SMap (α : Type) := List (Nat × α)

/-- The value listed for key `k`. -/
def SMap.find {α : Type} : SMap α → Nat → Option α
  | [], _ => none
  | (j, v) :: m, k => if j = k then some v else SMap.find m k

/-- The value at `k`, or `d` when the key is not listed. -/
def SMap.get {α : Type} (m : SMap α) (k : Nat) (d : α) : α := (SMap.find m k).getD d

/-- Lists `v` for `k`, keeping the keys rising. -/
def SMap.put {α : Type} : SMap α → Nat → α → SMap α
  | [], k, v => [(k, v)]
  | (j, w) :: m, k, v =>
    if k < j then (k, v) :: (j, w) :: m
    else if k = j then (k, v) :: m
    else (j, w) :: SMap.put m k v

/-- Removes `k` from the list. -/
def SMap.del {α : Type} : SMap α → Nat → SMap α
  | [], _ => []
  | (j, w) :: m, k => if j = k then m else (j, w) :: SMap.del m k

/-- Stores `v` at `k` where an unlisted key reads as `d`: storing the default removes the entry. -/
def SMap.store {α : Type} [DecidableEq α] (m : SMap α) (k : Nat) (v d : α) : SMap α :=
  if v = d then SMap.del m k else SMap.put m k v

/-- Canonical form of a sparse array: the keys rise strictly. -/
abbrev SMap.wf {α : Type} (m : SMap α) : Prop := (m.map Prod.fst).Pairwise (· < ·)

/-- Applies `f` to the value at `k` (the default `d` when unlisted). -/
def SMap.modify {α : Type} [DecidableEq α] (m : SMap α) (k : Nat) (d : α) (f : α → α) : SMap α :=
  SMap.store m k (f (SMap.get m k d)) d

/-- Changes every listed value, keeping the keys. -/
def SMap.modAll {α : Type} (f : α → α) (m : SMap α) : SMap α := m.map (fun x => (x.1, f x.2))

/-- The numbers of a list, ascending, each once. -/
def sortNat (l : List Nat) : List Nat := (l.foldl (fun (m : SMap Unit) x => SMap.put m x ()) []).map Prod.fst

/-- A sparse byte array (Host.Cell pairs) is a `SMap Byte`; this reads `n` bytes from `a`. -/
def SMap.bytes (m : SMap Byte) (dflt : Nat → Byte) (a n : Nat) : Bytes :=
  (List.range n).map (fun i => SMap.get m (a + i) (dflt (a + i)))

/-- Writes a byte string at `a`, keeping the canonical form. -/
def SMap.write (m : SMap Byte) (dflt : Nat → Byte) : Nat → Bytes → SMap Byte
  | _, [] => m
  | a, b :: bs => SMap.write (SMap.store m a b (dflt a)) dflt (a + 1) bs

end Sys2Proof.Machine
end

