-- ==== Sys2Proof/Machine/Out.lean ====
section
/-! DEFINITION. What the module sends outside: packets, completions, snoops, requests to devices and hosts, forwarded
messages. -/

namespace Sys2Proof.Machine

/-- What a CXL.mem completion toward a USP carries (Table 2-3): the row that applied. -/
structure MemCpl where
  tag : Nat
  row : Nat
  data : Option Bytes
  poison : Bool
  mta : Option Meta
  deriving DecidableEq, Repr

/-- Completion statuses of CXL.io requests. -/
inductive CplStatus where
  | sc | ur | ca | crs
  deriving DecidableEq, Repr

/-- Everything the module sends outside, as one list, newest first. -/
inductive OutMsg where
  | packet (dst : Requester) (session : Option Nat) (bytes : Bytes)        -- a response packet (R457)
  | notify (dst : Requester) (bytes : Bytes)                              -- fault notification or completion event (R474, R506)
  | fmRsp (dst : Requester) (opcode tag rc : Nat) (payload : Bytes)       -- a response in the FM API MCTP binding (R484)
  | spdm (link : SpdmLink) (code : Nat) (body : Bytes)                   -- an SPDM response
  | memCpl (usp : Nat) (c : MemCpl)                                      -- CXL.mem completion to a host
  | biSnp (usp : Nat) (line : Nat) (kind : Snp)                          -- BISnp toward a USP or the partner (0x40)
  | biConflictAck (usp : Nat) (line : Nat)
  | ioCpl (usp : Nat) (tag : Nat) (st : CplStatus) (data : Bytes)        -- CXL.io completion to a host
  | atomCpl (usp : Nat) (tag : Nat) (st : CplStatus) (orig : Nat)
  | devRead (port slot gen dpa len : Nat)                                -- module read of a device copy
  | devWrite (port slot gen dpa : Nat) (data : Bytes) (mask : BitVec 64) (mta : Option Meta) (poison : Bool)
  | devCfg (port what : Nat) (data : Bytes)                              -- module configuration or mailbox access to a device
  | devFill (port dpa len : Nat)                                         -- zero fill of device bytes (Table 2-8)
  | hostRead (usp rid addr len slot : Nat)
  | hostWrite (usp rid addr : Nat) (data : Bytes)
  | msix (usp rid addr data : Nat)
  | tlp (port : Nat) (t : Tlp) (ep : Bool)                               -- a forwarded TLP, poisoned when `ep`
  | tlpNull (port : Nat) (t : Tlp)                                       -- the transmission of a TLP ends as nullified (R265, R266)
  | memFwd (port : Nat) (m : MemReq) (dpa : Nat)                         -- a forwarded CXL.mem request
  | passMsg (port : Nat) (m : PassMsg)
  | capacity (ld : Nat) (kind : Nat) (first count : Nat) (tag : Bytes)   -- DCD event record: 0 add, 1 release, 2 forced release
  | hotplug (usp vppb : Nat) (kind : Nat)                                -- hot-plug event of a vPPB
  | errMsg (usp : Nat) (fn : CfgTarget) (e : ErrMsg)
  | pmeAck (usp : Nat)
  | pmeOff (port : Nat)
  | aspmL1 (port : Nat)
  | ideKm (port : Nat) (what : Nat)
  | train (port : Nat)
  | eqRequest (port preset coeffs : Nat)
  | l0pRsp (port : Nat) (accept : Bool)
  | ingot (g : IngotHdr) (plane : Nat) (payload : Bytes)
  | ingotAck (src dest q seq : Nat) (dup : Bool)
  | probe (plane : Nat)
  | seamFrame (stream bundle : Nat) (f : SeamFrame)
  | seamCtl (bundle what arg : Nat)
  | vaultData (page : Nat) (res : Option Bytes)                          -- a client page read: data or a bus error
  | pps
  | ethernet (what : Nat)
  | jtag (tdo : Bytes)
  deriving DecidableEq, Repr

end Sys2Proof.Machine
end

