-- ==== Sys2Proof/Machine/Bits.lean ====
section
/-! DEFINITION. Byte order, bit fields and the CRC-32C of command packets. -/

namespace Sys2Proof.Machine

/-- The `n` little-endian bytes of `v` (R3); bits above them are dropped. -/
def leBytes : Nat → Nat → Bytes
  | 0, _ => []
  | n + 1, v => BitVec.ofNat 8 v :: leBytes n (v / 256)

/-- The number a little-endian byte string spells (R3). -/
def leNat : Bytes → Nat
  | [] => 0
  | b :: bs => b.toNat + 256 * leNat bs

/-- `len` bytes of `bs` from `off`, 0 where the string is shorter (R5: a reserved or missing byte reads 0). -/
def slice (bs : Bytes) (off len : Nat) : Bytes :=
  let t := (bs.drop off).take len
  t ++ List.replicate (len - t.length) 0

/-- The little-endian field of `len` bytes at byte `off`. -/
def fieldAt (bs : Bytes) (off len : Nat) : Nat := leNat (slice bs off len)

/-- Bits [lsb + width − 1 : lsb] of `v` (R4). -/
def bitsOf (v lsb width : Nat) : Nat := v / 2 ^ lsb % 2 ^ width

/-- Bit `i` of `v` (R4). -/
def bitOf (v i : Nat) : Bool := v / 2 ^ i % 2 == 1

/-- 1 for true. -/
def b2n (b : Bool) : Nat := if b then 1 else 0

/-- The byte string `bs` with `new` laid over it from `off`; the length is that of `bs`. -/
def overlayBytes (bs : Bytes) (off : Nat) (new : Bytes) : Bytes :=
  (bs.take off ++ new ++ bs.drop (off + new.length)).take bs.length

/-- The bit mask (as a Nat) of the indices in `is`. -/
def maskOf (is : List Nat) : Nat := is.foldl (fun m i => m ||| 2 ^ i) 0

/-- The indices below `n` whose bit is set in `m`, ascending. -/
def indicesOf (n m : Nat) : List Nat := (List.range n).filter (fun i => bitOf m i)

/-- The signed number that the `w`-bit two's-complement field `v` spells. -/
def signedOf (w v : Nat) : Int := if v < 2 ^ (w - 1) then (v : Int) else (v : Int) - 2 ^ w

/-- The `w`-bit two's-complement field of `v`, wrapping. -/
def unsignedOf (w : Nat) (v : Int) : Nat := (v % (2 ^ w : Int)).toNat

/-- Rounds up to a multiple of `m`. -/
def roundUp (n m : Nat) : Nat := (n + m - 1) / m * m

/-- One bit step of the reflected CRC-32C (polynomial 0x1EDC_6F41 reflected, R458). -/
def crcBit (c : BitVec 32) : BitVec 32 :=
  if c.getLsbD 0 then (c >>> 1) ^^^ 0x82F63B78#32 else c >>> 1

/-- One byte step of the reflected CRC-32C (R458). -/
def crcByte (c : BitVec 32) (b : Byte) : BitVec 32 :=
  crcBit (crcBit (crcBit (crcBit (crcBit (crcBit (crcBit (crcBit (c ^^^ b.setWidth 32))))))))

/-- CRC-32C of a byte string: initial value 0xFFFF_FFFF, final XOR 0xFFFF_FFFF (R458). -/
def crc32c (bs : Bytes) : BitVec 32 := (bs.foldl crcByte 0xFFFFFFFF#32) ^^^ 0xFFFFFFFF#32

end Sys2Proof.Machine
end

