-- ==== Sys2Proof/Machine/Regs.lean ====
section
/-! DEFINITION. The register fields of control space, one definition per field of the chapters' register tables:
subsystem, offset, stride of an array, bit position, width, access code (Table 0-3), reset value and range.
A field's index is the unit index its register table names (two-dimensional arrays are flattened by the stride). -/

namespace Sys2Proof.Machine

/-- The access codes of Table 0-3 (R6). -/
inductive Access where
  | ro | rw | rw1c | rws | rwl | wo
  deriving DecidableEq, Repr

/-- One register field (a row of a register table). -/
structure Field where
  ss : Nat
  off : Nat
  stride : Nat
  lsb : Nat
  width : Nat
  acc : Access
  reset : Nat → Nat
  lo : Nat
  hi : Nat

/-- Where the field of index `i` lives: control address × 32 + lsb. -/
def Field.key (f : Field) (i : Nat) : Nat := (f.ss * 0x1000000 + f.off + f.stride * i) * 32 + f.lsb

/-- The default strength codes of Table 10-1, as the codes of R418. -/
def dfltStrength (i : Nat) : Nat := [0, 2, 2, 3, 3, 3, 3, 1, 0, 0, 3, 1].getD i 0

namespace Reg

/-- Table 2-13: Enables the start-up hold of R110 -/
def POL_CTL_START_HOLD_EN : Field := ⟨10, 0x100, 0, 0, 1, .rws, fun _ => 1, 0, 1⟩

/-- Table 2-13: Hold in seconds, 0–10 -/
def POL_CTL_START_HOLD : Field := ⟨10, 0x100, 0, 4, 4, .rws, fun _ => 2, 0, 10⟩

/-- Table 2-14: Copy engines used for relocation, 1–32 -/
def POL_RELOC_CTL_ENGINES : Field := ⟨10, 0x104, 0, 0, 6, .rws, fun _ => 8, 1, 32⟩

/-- Table 2-14: Extents per batch, 1–512 -/
def POL_RELOC_CTL_BATCH : Field := ⟨10, 0x104, 0, 8, 10, .rws, fun _ => 64, 1, 512⟩

/-- Table 2-15: Slots in use -/
def POL_RELOC_STATUS_SLOTS_BUSY : Field := ⟨10, 0x108, 0, 0, 11, .ro, fun _ => 0, 0, 2047⟩

/-- Table 2-15: Engines running relocation legs -/
def POL_RELOC_STATUS_ENGINES_BUSY : Field := ⟨10, 0x108, 0, 16, 6, .ro, fun _ => 0, 0, 63⟩

/-- Table 2-15: A page rebuild is in progress -/
def POL_MAP_STATUS_REBUILDING : Field := ⟨10, 0x10C, 0, 0, 1, .ro, fun _ => 0, 0, 1⟩

/-- Table 2-15: Journal above 75 % -/
def POL_MAP_STATUS_JOURNAL_HIGH : Field := ⟨10, 0x10C, 0, 1, 1, .ro, fun _ => 0, 0, 1⟩

/-- Table 2-15: Change list writable -/
def POL_MAP_STATUS_CL_WRITABLE : Field := ⟨10, 0x10C, 0, 2, 1, .ro, fun _ => 1, 0, 1⟩

/-- Table 2-15: Extent runs in the journal -/
def POL_MAP_STATUS_RUNS : Field := ⟨10, 0x10C, 0, 8, 18, .ro, fun _ => 0, 0, 262143⟩

/-- Table 2-15: Extent-map cache hits, wrapping -/
def POL_CACHE_HIT : Field := ⟨10, 0x110, 0, 0, 32, .ro, fun _ => 0, 0, 4294967295⟩

/-- Table 2-15: Extent-map cache misses, wrapping -/
def POL_CACHE_MISS : Field := ⟨10, 0x114, 0, 0, 32, .ro, fun _ => 0, 0, 4294967295⟩

/-- Table 2-15: Selects pairs 65,536 × MP_WINDOW onward in the aperture -/
def POL_MP_WINDOW : Field := ⟨10, 0x118, 0, 0, 4, .rw, fun _ => 0, 0, 15⟩

/-- Table 2-16: 0b01 PASS; 0b10 POOL; other values refused with BAD_PARAM -/
def POL_DSP_CFG_PERSONALITY : Field := ⟨10, 0x200, 4, 0, 2, .rws, fun _ => 1, 1, 2⟩

/-- Table 2-16: POOL device accepted under R44 -/
def POL_DSP_CFG_DEVICE_OK : Field := ⟨10, 0x200, 4, 8, 1, .ro, fun _ => 0, 0, 1⟩

/-- Table 2-16: Link down -/
def POL_DSP_CFG_DOWN : Field := ⟨10, 0x200, 4, 9, 1, .ro, fun _ => 0, 0, 1⟩

/-- Table 3-8: Snoop timeout in ms, 1–250 -/
def DIR_CTL_SNP_TO : Field := ⟨9, 0x100, 0, 0, 8, .rws, fun _ => 10, 1, 250⟩

/-- Table 3-8: RD_S on I grants E -/
def DIR_CTL_RD_S_GRANT_E : Field := ⟨9, 0x100, 0, 8, 1, .rws, fun _ => 0, 0, 1⟩

/-- Table 3-8: Enables atomic chaining by R158 -/
def DIR_CTL_ATOM_CHAIN : Field := ⟨9, 0x100, 0, 9, 1, .rws, fun _ => 1, 0, 1⟩

/-- Table 3-9: k of R125, two's complement, −6 to +3 -/
def DIR_TRK_CTL_ALPHA_K : Field := ⟨9, 0x104, 0, 0, 4, .rws, fun _ => 0, 0, 15⟩

/-- Table 3-9: Write-only entries within each USP's 32, 4–16 -/
def DIR_TRK_CTL_WR_RESV : Field := ⟨9, 0x104, 0, 8, 5, .rws, fun _ => 8, 4, 16⟩

/-- Table 3-10: Arbiter pointer of R122 -/
def DIR_SLICE_STATUS_ARB_PTR : Field := ⟨9, 0x200, 4, 0, 7, .ro, fun _ => 0, 0, 127⟩

/-- Table 3-10: Retry queue occupancy, 0–256 -/
def DIR_SLICE_STATUS_RETRY_DEPTH : Field := ⟨9, 0x200, 4, 8, 9, .ro, fun _ => 0, 0, 511⟩

/-- Table 3-10: Eviction buffer occupancy, 0–64 -/
def DIR_SLICE_STATUS_EVB_DEPTH : Field := ⟨9, 0x200, 4, 17, 7, .ro, fun _ => 0, 0, 127⟩

/-- Table 3-10: Home map drain hold of R120 -/
def DIR_SLICE_STATUS_HOLD : Field := ⟨9, 0x200, 4, 24, 1, .ro, fun _ => 0, 0, 1⟩

/-- Table 3-10: Slice failed; its granules are in the safe state -/
def DIR_SLICE_STATUS_FAILED : Field := ⟨9, 0x200, 4, 25, 1, .ro, fun _ => 0, 0, 1⟩

/-- Table 3-11: Tracker entries held, 0–4,096 -/
def DIR_TRK_STATUS_IN_USE : Field := ⟨9, 0x220, 4, 0, 13, .ro, fun _ => 0, 0, 8191⟩

/-- Table 3-11: Free shared entries, 0–4,096. The value is 4,096 after a COLD start with an empty binding journal, since every port is then a DSP (R124, R307) -/
def DIR_TRK_STATUS_SHARED_FREE : Field := ⟨9, 0x220, 4, 13, 13, .ro, fun _ => 4096, 0, 8191⟩

/-- Table 3-12: A walk of R164, R170 or R175 is running -/
def DIR_WALK_STATUS_ACTIVE : Field := ⟨9, 0x240, 0, 0, 1, .ro, fun _ => 0, 0, 1⟩

/-- Table 3-12: Walk is in its further pass of R165 -/
def DIR_WALK_STATUS_EXTRA_PASS : Field := ⟨9, 0x240, 0, 1, 1, .ro, fun _ => 0, 0, 1⟩

/-- Table 3-12: Directory pages visited in units of 4,096, 0–256; 256 is the whole directory of 1 Mi pages per copy -/
def DIR_WALK_STATUS_PROGRESS : Field := ⟨9, 0x240, 0, 8, 9, .ro, fun _ => 0, 0, 511⟩

/-- Table 3-12: Lost mask, ports 0–31 -/
def DIR_LOST_LO : Field := ⟨9, 0x244, 0, 0, 32, .ro, fun _ => 0, 0, 4294967295⟩

/-- Table 3-12: Lost mask, ports 32–63 -/
def DIR_LOST_HI : Field := ⟨9, 0x248, 0, 0, 32, .ro, fun _ => 0, 0, 4294967295⟩

/-- Table 3-12: Twin partner in the lost mask -/
def DIR_LOST_TWIN : Field := ⟨9, 0x24C, 0, 0, 1, .ro, fun _ => 0, 0, 1⟩

/-- Table 3-12: Directory lookups, all slices, wrapping -/
def DIR_CNT_LOOKUP : Field := ⟨9, 0x300, 0, 0, 32, .ro, fun _ => 0, 0, 4294967295⟩

/-- Table 3-12: Directory cache misses, wrapping -/
def DIR_CNT_MISS : Field := ⟨9, 0x304, 0, 0, 32, .ro, fun _ => 0, 0, 4294967295⟩

/-- Table 3-12: BISnp messages sent, multicast copies counted singly, wrapping -/
def DIR_CNT_SNOOP : Field := ⟨9, 0x308, 0, 0, 32, .ro, fun _ => 0, 0, 4294967295⟩

/-- Table 3-12: Write-backs forwarded under R150, wrapping -/
def DIR_CNT_FORWARD : Field := ⟨9, 0x30C, 0, 0, 32, .ro, fun _ => 0, 0, 4294967295⟩

/-- Table 3-12: BIConflictAck sent, wrapping -/
def DIR_CNT_CONFLICT : Field := ⟨9, 0x310, 0, 0, 32, .ro, fun _ => 0, 0, 4294967295⟩

/-- Table 3-12: Victims evicted, wrapping -/
def DIR_CNT_EVICT : Field := ⟨9, 0x314, 0, 0, 32, .ro, fun _ => 0, 0, 4294967295⟩

/-- Table 3-12: Entries to retry queues, wrapping -/
def DIR_CNT_RETRY : Field := ⟨9, 0x318, 0, 0, 32, .ro, fun _ => 0, 0, 4294967295⟩

/-- Table 3-12: Anomalies of R147 and Table 3-5, wrapping -/
def DIR_CNT_ANOMALY : Field := ⟨9, 0x31C, 0, 0, 32, .ro, fun _ => 0, 0, 4294967295⟩

/-- Table 4-16: k of R195, two's complement, −6 to +3 -/
def MOV_CTL_ALPHA_K : Field := ⟨11, 0x100, 0, 0, 4, .rws, fun _ => 0, 0, 15⟩

/-- Table 4-16: FREEZE limit in ms, 1–100 -/
def MOV_CTL_FREEZE_TO : Field := ⟨11, 0x100, 0, 8, 7, .rws, fun _ => 10, 1, 100⟩

/-- Table 4-16: Bit e: engine e failed -/
def MOV_ENGINE_FAILED : Field := ⟨11, 0x104, 0, 0, 32, .ro, fun _ => 0, 0, 4294967295⟩

/-- Table 4-16: Contexts held -/
def MOV_CTX_STATUS_IN_USE : Field := ⟨11, 0x108, 0, 0, 12, .ro, fun _ => 0, 0, 4095⟩

/-- Table 4-16: Free shared contexts -/
def MOV_CTX_STATUS_SHARED_FREE : Field := ⟨11, 0x108, 0, 12, 12, .ro, fun _ => 0, 0, 4095⟩

/-- Table 4-16: R228 -/
def MOV_STATUS_DEGRADED : Field := ⟨11, 0x10C, 0, 0, 1, .ro, fun _ => 0, 0, 1⟩

/-- Table 4-16: Host weight of USP u, 1–255 -/
def MOV_HOST_WEIGHT_WEIGHT : Field := ⟨11, 0x200, 4, 0, 8, .rws, fun _ => 1, 1, 255⟩

/-- Table 4-16: Allotment of u's PF, 0–1,024 -/
def MOV_ALLOT_COUNT : Field := ⟨11, 0x300, 4, 0, 11, .ro, fun _ => 0, 0, 2047⟩

/-- Table 5-8: Enables cut-through by R262 -/
def XBR_CTL_CT_EN : Field := ⟨7, 0x100, 0, 0, 1, .rws, fun _ => 1, 0, 1⟩

/-- Table 5-8: Acknowledgement timeout in units of 10 ns, 4–64 -/
def XBR_CTL_ACK_TO : Field := ⟨7, 0x100, 0, 8, 8, .rws, fun _ => 16, 4, 64⟩

/-- Table 5-8: Header mismatches per plane per ms that fail the plane, 1–255 -/
def XBR_CTL_HDR_ERR_LIM : Field := ⟨7, 0x100, 0, 16, 8, .rws, fun _ => 8, 1, 255⟩

/-- Table 5-9: k of R242 for queue class Qq, two's complement, −6 to +3 -/
def XBR_DT_CTL_K_Q0 : Field := ⟨7, 0x104, 0, 0, 4, .rws, fun _ => 0, 0, 15⟩

/-- Table 5-9: k of R242 for queue class Qq, two's complement, −6 to +3 -/
def XBR_DT_CTL_K_Q1 : Field := ⟨7, 0x104, 0, 4, 4, .rws, fun _ => 0, 0, 15⟩

/-- Table 5-9: k of R242 for queue class Qq, two's complement, −6 to +3 -/
def XBR_DT_CTL_K_Q2 : Field := ⟨7, 0x104, 0, 8, 4, .rws, fun _ => 14, 0, 15⟩

/-- Table 5-9: k of R242 for queue class Qq, two's complement, −6 to +3 -/
def XBR_DT_CTL_K_Q3 : Field := ⟨7, 0x104, 0, 12, 4, .rws, fun _ => 14, 0, 15⟩

/-- Table 5-9: k of R242 for queue class Qq, two's complement, −6 to +3 -/
def XBR_DT_CTL_K_Q4 : Field := ⟨7, 0x104, 0, 16, 4, .rws, fun _ => 14, 0, 15⟩

/-- Table 5-9: k of R242 for queue class Qq, two's complement, −6 to +3 -/
def XBR_DT_CTL_K_Q5 : Field := ⟨7, 0x104, 0, 20, 4, .rws, fun _ => 14, 0, 15⟩

/-- Table 5-9: k of R242 for queue class Qq, two's complement, −6 to +3 -/
def XBR_DT_CTL_K_Q6 : Field := ⟨7, 0x104, 0, 24, 4, .rws, fun _ => 14, 0, 15⟩

/-- Table 5-9: k of R242 for queue class Qq, two's complement, −6 to +3 -/
def XBR_DT_CTL_K_Q7 : Field := ⟨7, 0x104, 0, 28, 4, .rws, fun _ => 14, 0, 15⟩

/-- Table 5-10: Bit p: plane p failed or retired -/
def XBR_PLANE_STATUS_FAILED : Field := ⟨7, 0x108, 0, 0, 5, .ro, fun _ => 0, 0, 31⟩

/-- Table 5-10: Bit p: plane p active -/
def XBR_PLANE_STATUS_ACTIVE : Field := ⟨7, 0x108, 0, 8, 5, .ro, fun _ => 15, 0, 31⟩

/-- Table 5-10: Spare plane; 7 when none -/
def XBR_PLANE_STATUS_SPARE : Field := ⟨7, 0x108, 0, 16, 3, .ro, fun _ => 4, 0, 7⟩

/-- Table 5-10: Free shared ingots -/
def XBR_BUF_STATUS_SHARED_FREE : Field := ⟨7, 0x10C, 0, 0, 20, .ro, fun _ => 0, 0, 1048575⟩

/-- Table 5-10: Free headroom ingots -/
def XBR_HR_STATUS_FREE : Field := ⟨7, 0x110, 0, 0, 15, .ro, fun _ => 16384, 0, 32767⟩

/-- Table 5-10: Ingots resent, wrapping -/
def XBR_CNT_RESEND : Field := ⟨7, 0x120, 0, 0, 32, .ro, fun _ => 0, 0, 4294967295⟩

/-- Table 5-10: Duplicate ingots discarded, wrapping -/
def XBR_CNT_DUP : Field := ⟨7, 0x124, 0, 0, 32, .ro, fun _ => 0, 0, 4294967295⟩

/-- Table 5-10: Header mismatches, wrapping -/
def XBR_CNT_HDR_ERR : Field := ⟨7, 0x128, 0, 0, 32, .ro, fun _ => 0, 0, 4294967295⟩

/-- Table 5-10: TLPs cut through, wrapping -/
def XBR_CNT_CT : Field := ⟨7, 0x12C, 0, 0, 32, .ro, fun _ => 0, 0, 4294967295⟩

/-- Table 5-10: TLPs nullified under R265, wrapping -/
def XBR_CNT_NULL : Field := ⟨7, 0x130, 0, 0, 32, .ro, fun _ => 0, 0, 4294967295⟩

/-- Table 5-10: TLPs sent again under R266, wrapping -/
def XBR_CNT_CT_REPLAY : Field := ⟨7, 0x134, 0, 0, 32, .ro, fun _ => 0, 0, 4294967295⟩

/-- Table 5-10: Copies to port d skipped under PARTIAL, wrapping -/
def XBR_MC_OVF : Field := ⟨7, 0x200, 4, 0, 32, .ro, fun _ => 0, 0, 4294967295⟩

/-- Table 5-10: Messages to port d discarded under R259 and R270, wrapping -/
def XBR_DISC : Field := ⟨7, 0x300, 4, 0, 32, .ro, fun _ => 0, 0, 4294967295⟩

/-- Table 6-8: Sampling and export enabled -/
def SCH_CTL_TELEM_EN : Field := ⟨8, 0x100, 0, 0, 1, .rws, fun _ => 1, 0, 1⟩

/-- Table 6-8: Sample period in µs, 1–1,000 -/
def SCH_CTL_SAMPLE_US : Field := ⟨8, 0x100, 0, 4, 10, .rws, fun _ => 10, 1, 1000⟩

/-- Table 6-8: Interval in ms, 1–10,000, a multiple of the sample period -/
def SCH_CTL_EXPORT_MS : Field := ⟨8, 0x100, 0, 16, 14, .rws, fun _ => 1000, 1, 10000⟩

/-- Table 6-8: R298; 0 disables -/
def SCH_LAT_ALERT_THRESH_US : Field := ⟨8, 0x104, 0, 0, 16, .rws, fun _ => 0, 0, 65535⟩

/-- Table 6-8: Consecutive samples, 1–255 -/
def SCH_LAT_ALERT_COUNT : Field := ⟨8, 0x104, 0, 16, 8, .rws, fun _ => 16, 1, 255⟩

/-- Table 6-8: Sequence number of the last record written -/
def SCH_TELEM_STATUS_SEQ : Field := ⟨8, 0x108, 0, 0, 32, .ro, fun _ => 0, 0, 4294967295⟩

/-- Table 6-8: R296 -/
def SCH_TELEM_STATUS_WRAPPED : Field := ⟨8, 0x10C, 0, 0, 1, .ro, fun _ => 0, 0, 1⟩

/-- Table 6-8: A record was dropped under R297 -/
def SCH_TELEM_STATUS_GAP : Field := ⟨8, 0x10C, 0, 1, 1, .rw1c, fun _ => 0, 0, 1⟩

/-- Table 6-8: Requests in USP p's hold, 0–128 -/
def SCH_HOLD_DEPTH : Field := ⟨8, 0x200, 4, 0, 8, .ro, fun _ => 0, 0, 255⟩

/-- Table 6-8: Hold full; R290 in force -/
def SCH_HOLD_FULL : Field := ⟨8, 0x200, 4, 8, 1, .ro, fun _ => 0, 0, 1⟩

/-- Table 7-8: 0b00 disabled, 0b01 USP, 0b10 DSP; 0b11 refused -/
def PRT_PORT_CFG_ROLE : Field := ⟨6, 0x100, 4, 0, 2, .rwl, fun _ => 2, 0, 2⟩

/-- Table 7-8: Port carries PBR flits -/
def PRT_PORT_CFG_PBR_EN : Field := ⟨6, 0x100, 4, 2, 1, .rws, fun _ => 0, 0, 1⟩

/-- Table 7-8: R310 -/
def PRT_PORT_CFG_VDM_MGMT : Field := ⟨6, 0x100, 4, 3, 1, .rwl, fun _ => 0, 0, 1⟩

/-- Table 7-8: R310; management PF on vPPB 1 -/
def PRT_PORT_CFG_MGMT_USP : Field := ⟨6, 0x100, 4, 4, 1, .rwl, fun _ => 0, 0, 1⟩

/-- Table 7-8: PBR port ID of this port -/
def PRT_PORT_CFG_PID : Field := ⟨6, 0x100, 4, 8, 12, .rws, fun _ => 0, 0, 4095⟩

/-- Table 7-8: CXL.mem timeout in units of 10 µs, 10–10,000 -/
def PRT_DSP_TO_DEV_TO : Field := ⟨6, 0x200, 4, 0, 14, .rws, fun _ => 200, 10, 10000⟩

/-- Table 7-8: CXL.mem slots in use or quarantined -/
def PRT_TAG_STATUS_MEM_USE : Field := ⟨6, 0x300, 4, 0, 13, .ro, fun _ => 0, 0, 8191⟩

/-- Table 7-8: Slots quarantined, both kinds -/
def PRT_TAG_STATUS_QUAR : Field := ⟨6, 0x300, 4, 13, 13, .ro, fun _ => 0, 0, 8191⟩

/-- Table 7-8: Timeouts under R327, wrapping -/
def PRT_CNT_CTO : Field := ⟨6, 0x400, 4, 0, 32, .ro, fun _ => 0, 0, 4294967295⟩

/-- Table 7-8: Completions discarded under R328, wrapping -/
def PRT_CNT_LATE : Field := ⟨6, 0x500, 4, 0, 32, .ro, fun _ => 0, 0, 4294967295⟩

/-- Table 8-9: 0b00 x16, 0b01 x8, 0b10 x4 -/
def LNC_BAY_CFG_WIDTH : Field := ⟨4, 0x100, 4, 0, 2, .ro, fun _ => 0, 0, 3⟩

/-- Table 8-9: Bay PLL locked -/
def LNC_BAY_CFG_PLL_LOCK : Field := ⟨4, 0x100, 4, 2, 1, .ro, fun _ => 0, 0, 1⟩

/-- Table 8-9: 0 2.5, 1 5, 2 8, 3 16, 4 32, 5 64 GT/s -/
def LNC_PORT_CTL_MAX_RATE : Field := ⟨4, 0x200, 4, 0, 3, .rws, fun _ => 5, 0, 5⟩

/-- Table 8-9: SRIS mode (R349) -/
def LNC_PORT_CTL_SRIS : Field := ⟨4, 0x200, 4, 3, 1, .rws, fun _ => 0, 0, 1⟩

/-- Table 8-9: L0p advertised and used -/
def LNC_PORT_CTL_L0P_EN : Field := ⟨4, 0x200, 4, 4, 1, .rws, fun _ => 1, 0, 1⟩

/-- Table 8-9: Latency-optimised flits preferred -/
def LNC_PORT_CTL_LOPT_EN : Field := ⟨4, 0x200, 4, 5, 1, .rws, fun _ => 1, 0, 1⟩

/-- Table 8-9: R356 -/
def LNC_PORT_CTL_EQ_BYPASS_EN : Field := ⟨4, 0x200, 4, 6, 1, .rws, fun _ => 1, 0, 1⟩

/-- Table 8-9: 1–255 -/
def LNC_PORT_CTL_EQ_MIN_FOM : Field := ⟨4, 0x200, 4, 8, 8, .rws, fun _ => 96, 1, 255⟩

/-- Table 8-9: 16–255 -/
def LNC_PORT_CTL_FOM_ALERT : Field := ⟨4, 0x200, 4, 16, 8, .rws, fun _ => 48, 16, 255⟩

/-- Table 8-9: 0 Detect, 1 Polling, 2 Configuration, 3 Recovery, 4 L0, 5 L0p, 6 L1, 7 L2, 8 Disabled, 9 Loopback, 10 Hot Reset, 11 Parked, 12 Test -/
def LNC_PORT_STATUS_LTSSM : Field := ⟨4, 0x300, 4, 0, 4, .ro, fun _ => 0, 0, 15⟩

/-- Table 8-9: Lanes in use -/
def LNC_PORT_STATUS_WIDTH : Field := ⟨4, 0x300, 4, 4, 5, .ro, fun _ => 0, 0, 31⟩

/-- Table 8-9: Code as MAX_RATE -/
def LNC_PORT_STATUS_RATE : Field := ⟨4, 0x300, 4, 9, 3, .ro, fun _ => 0, 0, 7⟩

/-- Table 8-9: 0 non-flit, 1 PCIe flit, 2 CXL 68-byte, 3 CXL 256-byte, 4 latency-optimised -/
def LNC_PORT_STATUS_FLIT : Field := ⟨4, 0x300, 4, 12, 3, .ro, fun _ => 0, 0, 7⟩

/-- Table 8-9: Reversed order -/
def LNC_PORT_STATUS_REVERSED : Field := ⟨4, 0x300, 4, 15, 1, .ro, fun _ => 0, 0, 1⟩

/-- Table 8-9: R363 -/
def LNC_PORT_STATUS_PARKED : Field := ⟨4, 0x300, 4, 16, 1, .ro, fun _ => 0, 0, 1⟩

/-- Table 8-9: CXL negotiated -/
def LNC_PORT_STATUS_CXL : Field := ⟨4, 0x300, 4, 17, 1, .ro, fun _ => 0, 0, 1⟩

/-- Table 8-9: Both ends support L0p -/
def LNC_PORT_STATUS_L0P : Field := ⟨4, 0x300, 4, 18, 1, .ro, fun _ => 0, 0, 1⟩

/-- Table 8-9: Consecutive failed attempts, 0–8 -/
def LNC_PORT_STATUS_FAIL_COUNT : Field := ⟨4, 0x300, 4, 24, 4, .ro, fun _ => 0, 0, 15⟩

/-- Table 8-9: Bit i: port lane i retired -/
def LNC_PORT_RETIRED : Field := ⟨4, 0x400, 4, 0, 16, .ro, fun _ => 0, 0, 65535⟩

/-- Table 8-9: Recovery entries, wrapping -/
def LNC_CNT_RECOV : Field := ⟨4, 0x500, 4, 0, 32, .ro, fun _ => 0, 0, 4294967295⟩

/-- Table 8-9: L0p width changes, wrapping -/
def LNC_CNT_L0P : Field := ⟨4, 0x600, 4, 0, 32, .ro, fun _ => 0, 0, 4294967295⟩

/-- Table 8-9: Clock recovery locked -/
def LNC_LANE_STATUS_LOCK : Field := ⟨4, 0x1000, 4, 0, 1, .ro, fun _ => 0, 0, 1⟩

/-- Table 8-9: Lane carries the link -/
def LNC_LANE_STATUS_IN_USE : Field := ⟨4, 0x1000, 4, 1, 1, .ro, fun _ => 0, 0, 1⟩

/-- Table 8-9: R360 -/
def LNC_LANE_STATUS_RETIRED : Field := ⟨4, 0x1000, 4, 2, 1, .ro, fun _ => 0, 0, 1⟩

/-- Table 8-9: Received polarity inverted -/
def LNC_LANE_STATUS_POL_INV : Field := ⟨4, 0x1000, 4, 3, 1, .ro, fun _ => 0, 0, 1⟩

/-- Table 8-9: Logical lane number -/
def LNC_LANE_STATUS_LOGICAL : Field := ⟨4, 0x1000, 4, 4, 4, .ro, fun _ => 0, 0, 15⟩

/-- Table 8-9: The module's transmitter preset; 0xF coefficients -/
def LNC_LANE_STATUS_TX_PRESET : Field := ⟨4, 0x1000, 4, 8, 4, .ro, fun _ => 4, 0, 15⟩

/-- Table 8-9: Preset last requested of the partner; 0xF coefficients -/
def LNC_LANE_STATUS_PARTNER_PRESET : Field := ⟨4, 0x1000, 4, 12, 4, .ro, fun _ => 0, 0, 15⟩

/-- Table 8-9: R351 -/
def LNC_LANE_STATUS_FOM : Field := ⟨4, 0x1000, 4, 16, 8, .ro, fun _ => 0, 0, 255⟩

/-- Table 8-9: Lowest FOM since link-up -/
def LNC_LANE_STATUS_FOM_MIN : Field := ⟨4, 0x1000, 4, 24, 8, .ro, fun _ => 0, 0, 255⟩

/-- Table 8-9: Receiver symbol errors, or FEC symbol corrections in flit mode, since link-up; wrapping -/
def LNC_LANE_ERR : Field := ⟨4, 0x1400, 4, 0, 32, .ro, fun _ => 0, 0, 4294967295⟩

/-- Table 9-10: R389, 16–255 -/
def SEM_CTL_FOM_TARGET : Field := ⟨5, 0x100, 0, 0, 8, .rws, fun _ => 160, 16, 255⟩

/-- Table 9-10: Units of 10 ns, 4–100 -/
def SEM_CTL_ACK_TO : Field := ⟨5, 0x100, 0, 8, 8, .rws, fun _ => 20, 4, 100⟩

/-- Table 9-10: ms, 1–255 -/
def SEM_CTL_RETRAIN_MS : Field := ⟨5, 0x100, 0, 16, 8, .rws, fun _ => 10, 1, 255⟩

/-- Table 9-10: µs, 10–10,000 -/
def SEM_TWIN_CTL_LOSS_US : Field := ⟨5, 0x104, 0, 0, 16, .rws, fun _ => 500, 10, 10000⟩

/-- Table 9-10: Twin operation enabled -/
def SEM_TWIN_STATUS_ENABLED : Field := ⟨5, 0x108, 0, 0, 1, .ro, fun _ => 0, 0, 1⟩

/-- Table 9-10: R406, R407 -/
def SEM_TWIN_STATUS_SUSPENDED : Field := ⟨5, 0x108, 0, 1, 1, .ro, fun _ => 0, 0, 1⟩

/-- Table 9-10: This module is Twin B -/
def SEM_TWIN_STATUS_TWIN_B : Field := ⟨5, 0x108, 0, 2, 1, .ro, fun _ => 0, 0, 1⟩

/-- Table 9-10: This module is primary -/
def SEM_TWIN_STATUS_PRIMARY : Field := ⟨5, 0x108, 0, 3, 1, .ro, fun _ => 0, 0, 1⟩

/-- Table 9-10: Table 9-4; 0x8 ACTIVE, 0x9 down -/
def SEM_BUNDLE_STATUS_STATE : Field := ⟨5, 0x200, 4, 0, 4, .ro, fun _ => 9, 0, 15⟩

/-- Table 9-10: R388 -/
def SEM_BUNDLE_STATUS_REVERSED : Field := ⟨5, 0x200, 4, 4, 1, .ro, fun _ => 0, 0, 1⟩

/-- Table 9-10: Map error -/
def SEM_BUNDLE_STATUS_ID_ERR : Field := ⟨5, 0x200, 4, 5, 1, .ro, fun _ => 0, 0, 1⟩

/-- Table 9-10: Lane the spare replaces -/
def SEM_BUNDLE_STATUS_SPARE_FOR : Field := ⟨5, 0x200, 4, 6, 5, .ro, fun _ => 31, 0, 31⟩

/-- Table 9-10: R390 -/
def SEM_BUNDLE_STATUS_SPARE_FAILED : Field := ⟨5, 0x200, 4, 11, 1, .ro, fun _ => 0, 0, 1⟩

/-- Table 9-10: CK present and in range -/
def SEM_BUNDLE_STATUS_CK_OK : Field := ⟨5, 0x200, 4, 12, 1, .ro, fun _ => 0, 0, 1⟩

/-- Table 9-10: Bit s: stream s carried -/
def SEM_BUNDLE_STATUS_STREAMS : Field := ⟨5, 0x200, 4, 16, 4, .ro, fun _ => 0, 0, 15⟩

/-- Table 9-10: Block lock, i = 0–16 -/
def SEM_LANE_STATUS_LOCK : Field := ⟨5, 0x400, 4, 0, 1, .ro, fun _ => 0, 0, 1⟩

/-- Table 9-10: R388 -/
def SEM_LANE_STATUS_POL_INV : Field := ⟨5, 0x400, 4, 1, 1, .ro, fun _ => 0, 0, 1⟩

/-- Table 9-10: Lost until the bundle retrains -/
def SEM_LANE_STATUS_LOST : Field := ⟨5, 0x400, 4, 2, 1, .ro, fun _ => 0, 0, 1⟩

/-- Table 9-10: R390 -/
def SEM_LANE_STATUS_FOM : Field := ⟨5, 0x400, 4, 8, 8, .ro, fun _ => 0, 0, 255⟩

/-- Table 9-10: Lowest FOM since ACTIVE -/
def SEM_LANE_STATUS_FOM_MIN : Field := ⟨5, 0x400, 4, 16, 8, .ro, fun _ => 0, 0, 255⟩

/-- Table 9-10: Frames failing CRC, wrapping -/
def SEM_CNT_CRC : Field := ⟨5, 0x600, 4, 0, 32, .ro, fun _ => 0, 0, 4294967295⟩

/-- Table 9-10: Frames resent, wrapping -/
def SEM_CNT_RESEND : Field := ⟨5, 0x610, 4, 0, 32, .ro, fun _ => 0, 0, 4294967295⟩

/-- Table 9-10: Bit i: share group 32j + i admits partner requests -/
def SEM_TWIN_GRP : Field := ⟨5, 0x700, 4, 0, 32, .ro, fun _ => 0, 0, 4294967295⟩

/-- Table 10-8: Hold in units of 10 ns, 1–255 -/
def VLT_CTL_CRU_HOLD : Field := ⟨12, 0x100, 0, 0, 8, .rws, fun _ => 100, 1, 255⟩

/-- Table 10-8: R429, 1–8 -/
def VLT_CTL_RETIRE_FRAC : Field := ⟨12, 0x100, 0, 8, 4, .rws, fun _ => 4, 1, 8⟩

/-- Table 10-8: R440, 1–255 -/
def VLT_CTL_CH_FAIL_LIM : Field := ⟨12, 0x100, 0, 16, 8, .rws, fun _ => 16, 1, 255⟩

/-- Table 10-8: Anneal enabled -/
def VLT_ANNEAL_EN : Field := ⟨12, 0x104, 0, 0, 1, .rws, fun _ => 1, 0, 1⟩

/-- Table 10-8: SRAM pass in s, 1–3,600 -/
def VLT_ANNEAL_SRAM_S : Field := ⟨12, 0x104, 0, 4, 12, .rws, fun _ => 60, 1, 3600⟩

/-- Table 10-8: Vault pass in min, 60–10,080 -/
def VLT_ANNEAL_PERIOD_MIN : Field := ⟨12, 0x104, 0, 16, 14, .rws, fun _ => 1440, 60, 10080⟩

/-- Table 10-8: Free reserve pages -/
def VLT_STATUS_RESERVE_FREE : Field := ⟨12, 0x108, 0, 0, 17, .ro, fun _ => 118428, 0, 131071⟩

/-- Table 10-8: R438 -/
def VLT_STATUS_RESERVE_OUT : Field := ⟨12, 0x108, 0, 17, 1, .ro, fun _ => 0, 0, 1⟩

/-- Table 10-8: R449 -/
def VLT_STATUS_READY : Field := ⟨12, 0x108, 0, 18, 1, .ro, fun _ => 0, 0, 1⟩

/-- Table 10-8: Free unallocated pages -/
def VLT_UNALLOC_FREE : Field := ⟨12, 0x10C, 0, 0, 21, .ro, fun _ => 1959448, 0, 2097151⟩

/-- Table 10-8: Bit i: pseudo-channel i failed -/
def VLT_PC_FAILED : Field := ⟨12, 0x110, 0, 0, 32, .ro, fun _ => 0, 0, 4294967295⟩

/-- Table 10-8: Pass progress in 1/256 -/
def VLT_ANNEAL_STATUS_PROGRESS : Field := ⟨12, 0x114, 0, 0, 8, .ro, fun _ => 0, 0, 255⟩

/-- Table 10-8: Completed passes, wrapping -/
def VLT_ANNEAL_STATUS_PASSES : Field := ⟨12, 0x114, 0, 8, 16, .ro, fun _ => 0, 0, 65535⟩

/-- Table 10-8: R435 -/
def VLT_ANNEAL_STATUS_OVERRUN : Field := ⟨12, 0x114, 0, 24, 1, .rw1c, fun _ => 0, 0, 1⟩

/-- Table 10-8: Pages corrected, wrapping -/
def VLT_CNT_CORR_PAGES : Field := ⟨12, 0x120, 0, 0, 32, .ro, fun _ => 0, 0, 4294967295⟩

/-- Table 10-8: Bits corrected, wrapping -/
def VLT_CNT_CORR_BITS : Field := ⟨12, 0x124, 0, 0, 32, .ro, fun _ => 0, 0, 4294967295⟩

/-- Table 10-8: Uncorrectable page reads, wrapping -/
def VLT_CNT_UNCORR : Field := ⟨12, 0x128, 0, 0, 32, .ro, fun _ => 0, 0, 4294967295⟩

/-- Table 10-8: Pages retired -/
def VLT_CNT_RETIRED : Field := ⟨12, 0x12C, 0, 0, 32, .ro, fun _ => 0, 0, 4294967295⟩

/-- Table 10-8: SRAM words corrected, wrapping -/
def VLT_CNT_SRAM_CORR : Field := ⟨12, 0x130, 0, 0, 32, .ro, fun _ => 0, 0, 4294967295⟩

/-- Table 10-8: SRAM uncorrectable words, wrapping -/
def VLT_CNT_SRAM_UNCORR : Field := ⟨12, 0x134, 0, 0, 32, .ro, fun _ => 0, 0, 4294967295⟩

/-- Table 10-8: 0–8 -/
def VLT_SRAM_STATUS_SPARE_BANKS_FREE : Field := ⟨12, 0x140, 0, 0, 4, .ro, fun _ => 8, 0, 15⟩

/-- Table 10-8: Spare rows in use -/
def VLT_SRAM_STATUS_ROWS_USED : Field := ⟨12, 0x140, 0, 4, 14, .ro, fun _ => 0, 0, 16383⟩

/-- Table 10-8: Region i = 1–11; R418, R451 -/
def VLT_REGION_CFG_STRENGTH : Field := ⟨12, 0x200, 4, 0, 3, .rws, dfltStrength, 0, 5⟩

/-- Table 12-10: R493; 0 disables merging -/
def FLT_CTL_MERGE_US : Field := ⟨15, 0x100, 0, 0, 16, .rws, fun _ => 1000, 0, 65535⟩

/-- Table 12-10: Class code 1–3 (R505) -/
def FLT_CTL_ALERT_MIN : Field := ⟨15, 0x100, 0, 16, 2, .rws, fun _ => 2, 1, 3⟩

/-- Table 12-10: R508 -/
def FLT_CTL_AUTO_RESET : Field := ⟨15, 0x100, 0, 18, 1, .rws, fun _ => 0, 0, 1⟩

/-- Table 12-10: R510 -/
def FLT_CTL_DUMP_OVERWRITE : Field := ⟨15, 0x100, 0, 19, 1, .rws, fun _ => 0, 0, 1⟩

/-- Table 12-10: Next record written -/
def FLT_HIST_HEAD_INDEX : Field := ⟨15, 0x104, 0, 0, 6, .ro, fun _ => 0, 0, 63⟩

/-- Table 12-10: Records written, wrapping -/
def FLT_HIST_HEAD_TOTAL : Field := ⟨15, 0x104, 0, 6, 26, .ro, fun _ => 0, 0, 67108863⟩

/-- Table 12-10: Oldest unacknowledged record -/
def FLT_HIST_TAIL_INDEX : Field := ⟨15, 0x108, 0, 0, 6, .ro, fun _ => 0, 0, 63⟩

/-- Table 12-10: 0–64 -/
def FLT_HIST_TAIL_UNREAD : Field := ⟨15, 0x108, 0, 6, 7, .ro, fun _ => 0, 0, 127⟩

/-- Table 12-10: R494 -/
def FLT_STATUS_OVERFLOW : Field := ⟨15, 0x10C, 0, 0, 1, .rw1c, fun _ => 0, 0, 1⟩

/-- Table 12-10: ALERT_N asserted -/
def FLT_STATUS_ALERT : Field := ⟨15, 0x10C, 0, 1, 1, .ro, fun _ => 0, 0, 1⟩

/-- Table 12-10: FAULT_N asserted -/
def FLT_STATUS_FAULT : Field := ⟨15, 0x10C, 0, 2, 1, .ro, fun _ => 0, 0, 1⟩

/-- Table 12-10: Module safe state -/
def FLT_STATUS_SAFE_MODULE : Field := ⟨15, 0x10C, 0, 3, 1, .ro, fun _ => 0, 0, 1⟩

/-- Table 12-10: Flush running -/
def FLT_STATUS_FLUSH_ACTIVE : Field := ⟨15, 0x10C, 0, 4, 1, .ro, fun _ => 0, 0, 1⟩

/-- Table 12-10: Region holds a dump -/
def FLT_STATUS_DUMP_VALID : Field := ⟨15, 0x10C, 0, 5, 1, .ro, fun _ => 0, 0, 1⟩

/-- Table 12-10: R511 -/
def FLT_STATUS_DUMP_INCOMPLETE : Field := ⟨15, 0x10C, 0, 6, 1, .ro, fun _ => 0, 0, 1⟩

/-- Table 12-10: R502 -/
def FLT_STATUS_SLOTS_FULL : Field := ⟨15, 0x10C, 0, 7, 1, .rw1c, fun _ => 0, 0, 1⟩

/-- Table 12-10: R516 -/
def FLT_STATUS_TOUCHSTONE : Field := ⟨15, 0x10C, 0, 8, 1, .ro, fun _ => 0, 0, 1⟩

/-- Table 12-10: TEST_EN_N sampled low at COLD -/
def FLT_STATUS_TEST_EN : Field := ⟨15, 0x10C, 0, 9, 1, .ro, fun _ => 0, 0, 1⟩

/-- Table 12-10: A loss copy was read at this COLD start (R496) -/
def FLT_STATUS_LOSS_VALID : Field := ⟨15, 0x10C, 0, 10, 1, .ro, fun _ => 0, 0, 1⟩

/-- Table 12-10: Unacknowledged records overwritten, wrapping -/
def FLT_LOST : Field := ⟨15, 0x110, 0, 0, 32, .ro, fun _ => 0, 0, 4294967295⟩

/-- Table 13-15: R546 -/
def HLM_STATUS_LOCKED : Field := ⟨14, 0x100, 0, 0, 1, .ro, fun _ => 0, 0, 1⟩

/-- Table 13-15: Running slot, 0 A, 1 B -/
def HLM_STATUS_SLOT : Field := ⟨14, 0x100, 0, 1, 1, .ro, fun _ => 0, 0, 1⟩

/-- Table 13-15: R544 -/
def HLM_STATUS_TRIAL : Field := ⟨14, 0x100, 0, 2, 1, .ro, fun _ => 0, 0, 1⟩

/-- Table 13-15: Table 13-9 -/
def HLM_STATUS_LEDGER_HOLD : Field := ⟨14, 0x100, 0, 3, 1, .ro, fun _ => 0, 0, 1⟩

/-- Table 13-15: R536 -/
def HLM_STATUS_LEDGER_LOW : Field := ⟨14, 0x100, 0, 4, 1, .ro, fun _ => 0, 0, 1⟩

/-- Table 13-15: 0–64 -/
def HLM_STATUS_SVN_MIN : Field := ⟨14, 0x100, 0, 8, 8, .ro, fun _ => 0, 0, 255⟩

/-- Table 13-15: Bit i: key index i revoked -/
def HLM_STATUS_REVOKED : Field := ⟨14, 0x100, 0, 16, 4, .ro, fun _ => 0, 0, 15⟩

/-- Table 13-15: R532 -/
def HLM_BOOT_COUNTER : Field := ⟨14, 0x104, 0, 0, 32, .ro, fun _ => 0, 0, 4294967295⟩

/-- Table 13-15: Index of the next entry -/
def HLM_LEDGER_HEAD : Field := ⟨14, 0x108, 0, 0, 32, .ro, fun _ => 0, 0, 4294967295⟩

/-- Table 13-15: Highest archived index plus 1 -/
def HLM_LEDGER_ARCHIVED : Field := ⟨14, 0x10C, 0, 0, 32, .ro, fun _ => 0, 0, 4294967295⟩

/-- Table 13-15: 0 HOLD, 1 CONTINUE -/
def HLM_LEDGER_CTL_POLICY : Field := ⟨14, 0x110, 0, 0, 1, .rwl, fun _ => 0, 0, 1⟩

/-- Table 13-15: Pending entries, 0–32 -/
def HLM_LEDGER_CTL_PENDING : Field := ⟨14, 0x110, 0, 8, 6, .ro, fun _ => 0, 0, 63⟩

/-- Table 13-15: SPDM sessions, 0–16 -/
def HLM_SESSIONS_OPEN : Field := ⟨14, 0x114, 0, 0, 5, .ro, fun _ => 0, 0, 31⟩

/-- Table 13-15: Table 13-13; 3 refused -/
def HLM_IDE_CFG_POLICY : Field := ⟨14, 0x200, 4, 0, 2, .rwl, fun _ => 0, 0, 2⟩

/-- Table 13-15: Hours, 0 never, 1–255 -/
def HLM_IDE_CFG_REKEY_H : Field := ⟨14, 0x200, 4, 8, 8, .rwl, fun _ => 24, 0, 255⟩

/-- Table 13-15: 0 none, 1 keyed, 2 insecure, 3 withheld -/
def HLM_IDE_CFG_STATE : Field := ⟨14, 0x200, 4, 16, 2, .ro, fun _ => 0, 0, 3⟩

/-- Table 14-10: PTP slave enabled -/
def TIM_CTL_PTP_EN : Field := ⟨16, 0x100, 0, 0, 1, .rws, fun _ => 1, 0, 1⟩

/-- Table 14-10: PPS_IN used as a source -/
def TIM_CTL_PPS_IN_EN : Field := ⟨16, 0x100, 0, 1, 1, .rws, fun _ => 0, 0, 1⟩

/-- Table 14-10: R565 -/
def TIM_CTL_PPS_OUT_EN : Field := ⟨16, 0x100, 0, 2, 1, .rws, fun _ => 0, 0, 1⟩

/-- Table 14-10: 0 PTP first, 1 PPS first -/
def TIM_CTL_SRC_PRIO : Field := ⟨16, 0x100, 0, 3, 1, .rws, fun _ => 0, 0, 1⟩

/-- Table 14-10: Table 14-3 -/
def TIM_CTL_PROFILE : Field := ⟨16, 0x100, 0, 4, 1, .rws, fun _ => 0, 0, 1⟩

/-- Table 14-10: ms, 1–200 -/
def TIM_CTL_PPS_OUT_WIDTH : Field := ⟨16, 0x100, 0, 8, 8, .rws, fun _ => 100, 1, 200⟩

/-- Table 14-10: ns, 10–100 -/
def TIM_SERVO_LOCK_NS : Field := ⟨16, 0x104, 0, 0, 10, .rws, fun _ => 50, 10, 100⟩

/-- Table 14-10: Units of 1 µs, 1–63 -/
def TIM_SERVO_STEP_NS : Field := ⟨16, 0x104, 0, 10, 6, .rws, fun _ => 1, 1, 63⟩

/-- Table 14-10: Holdover time in units of 2 s: HOLDOVER_S = 2 s × value for values 1–43,200 (2 s to 86,400 s); value 0 gives 1 s. The reset value 300 gives 600 s -/
def TIM_SERVO_HOLDOVER_S : Field := ⟨16, 0x104, 0, 16, 16, .rws, fun _ => 300, 0, 43200⟩

/-- Table 14-10: Table 14-1 -/
def TIM_STATUS_QUALITY : Field := ⟨16, 0x108, 0, 0, 4, .ro, fun _ => 0, 0, 15⟩

/-- Table 14-10: 0 FREE, 1 ACQUIRE, 2 LOCKED, 3 HOLDOVER -/
def TIM_STATUS_STATE : Field := ⟨16, 0x108, 0, 4, 2, .ro, fun _ => 0, 0, 3⟩

/-- Table 14-10: Source in use: 0 PTP, 1 PPS -/
def TIM_STATUS_SRC : Field := ⟨16, 0x108, 0, 6, 1, .ro, fun _ => 0, 0, 1⟩

/-- Table 14-10: ANCHOR written in this boot -/
def TIM_STATUS_ANCHORED : Field := ⟨16, 0x108, 0, 7, 1, .ro, fun _ => 0, 0, 1⟩

/-- Table 14-10: Last measured offset, ns, signed -/
def TIM_OFFSET : Field := ⟨16, 0x10C, 0, 0, 32, .ro, fun _ => 0, 0, 4294967295⟩

/-- Table 14-10: F in units of 0.001 ppb, signed -/
def TIM_FREQ_ADJ : Field := ⟨16, 0x110, 0, 0, 32, .ro, fun _ => 0, 0, 4294967295⟩

/-- Table 14-10: Egress correction, ns -/
def TIM_DELAY_COMP_TX_NS : Field := ⟨16, 0x114, 0, 0, 16, .rws, fun _ => 0, 0, 65535⟩

/-- Table 14-10: Ingress correction, ns -/
def TIM_DELAY_COMP_RX_NS : Field := ⟨16, 0x114, 0, 16, 16, .rws, fun _ => 0, 0, 65535⟩

/-- Table 14-10: R564, ns -/
def TIM_PPS_COMP_IN_NS : Field := ⟨16, 0x118, 0, 0, 16, .rws, fun _ => 0, 0, 65535⟩

/-- Table 14-10: R565, ns -/
def TIM_PPS_COMP_OUT_NS : Field := ⟨16, 0x118, 0, 16, 16, .rws, fun _ => 0, 0, 65535⟩

/-- Table 14-10: Minutes, 1–4,095 -/
def REC_CTL_CHECKPOINT_MIN : Field := ⟨17, 0x100, 0, 0, 12, .rwl, fun _ => 60, 1, 4095⟩

/-- Table 14-10: R578 -/
def REC_CTL_FREEZE_ON_FATAL : Field := ⟨17, 0x100, 0, 12, 1, .rwl, fun _ => 1, 0, 1⟩

/-- Table 14-10: R578 -/
def REC_STATUS_FROZEN : Field := ⟨17, 0x104, 0, 0, 1, .ro, fun _ => 0, 0, 1⟩

/-- Table 14-10: On-device replay running -/
def REC_STATUS_REPLAY : Field := ⟨17, 0x104, 0, 1, 1, .ro, fun _ => 0, 0, 1⟩

/-- Table 14-10: A GAP record was written -/
def REC_STATUS_GAP : Field := ⟨17, 0x104, 0, 2, 1, .rw1c, fun _ => 0, 0, 1⟩

/-- Table 14-10: Next SEQ [31:0] -/
def REC_NEXT_SEQ_LO : Field := ⟨17, 0x108, 0, 0, 32, .ro, fun _ => 0, 0, 4294967295⟩

/-- Table 14-10: Next SEQ [63:32] -/
def REC_NEXT_SEQ_HI : Field := ⟨17, 0x10C, 0, 0, 32, .ro, fun _ => 0, 0, 4294967295⟩

/-- Table 14-10: Oldest held SEQ [31:0] -/
def REC_OLDEST_SEQ_LO : Field := ⟨17, 0x110, 0, 0, 32, .ro, fun _ => 0, 0, 4294967295⟩

/-- Table 14-10: Oldest held SEQ [63:32] -/
def REC_OLDEST_SEQ_HI : Field := ⟨17, 0x114, 0, 0, 32, .ro, fun _ => 0, 0, 4294967295⟩

/-- Table 14-10: Inputs not recorded, wrapping -/
def REC_MISSED : Field := ⟨17, 0x118, 0, 0, 32, .ro, fun _ => 0, 0, 4294967295⟩

/-- Table 15-10: Last start or failover; codes of CAUSE byte 0 -/
def CLK_RST_CAUSE_KIND : Field := ⟨3, 0x100, 0, 0, 8, .ro, fun _ => 0, 0, 255⟩

/-- Table 15-10: Codes of CAUSE byte 1 -/
def CLK_RST_CAUSE_TRIGGER : Field := ⟨3, 0x100, 0, 8, 8, .ro, fun _ => 0, 0, 255⟩

/-- Table 15-10: Fault source ID, 0 if none -/
def CLK_RST_CAUSE_SOURCE : Field := ⟨3, 0x100, 0, 16, 16, .ro, fun _ => 0, 0, 65535⟩

/-- Table 15-10: Main-domain release, ms from trigger; 0xFFFF not reached -/
def CLK_START_TIME_RELEASE_MS : Field := ⟨3, 0x104, 0, 0, 16, .ro, fun _ => 65535, 0, 65535⟩

/-- Table 15-10: MOD_READY, ms from trigger; 0xFFFF not reached -/
def CLK_START_TIME_READY_MS : Field := ⟨3, 0x104, 0, 16, 16, .ro, fun _ => 65535, 0, 65535⟩

/-- Table 15-10: Bytes in the journal buffer, 0–65,536, always a multiple of 32 (R710) -/
def CLK_JOURNAL_BUF_BYTES : Field := ⟨3, 0x108, 0, 0, 17, .ro, fun _ => 0, 0, 131071⟩

/-- Table 15-10: Flush in progress -/
def CLK_JOURNAL_FLUSH_ACTIVE : Field := ⟨3, 0x108, 0, 17, 1, .ro, fun _ => 0, 0, 1⟩

/-- Table 15-10: 0 complete, 1 empty journal, 2 tail discarded, 3 stopped (R609) -/
def CLK_JOURNAL_RESTORE : Field := ⟨3, 0x108, 0, 18, 2, .ro, fun _ => 0, 0, 3⟩

/-- Table 15-10: JOURNAL_CLEAR in force for the next start -/
def CLK_JOURNAL_CLEAR_PEND : Field := ⟨3, 0x108, 0, 20, 1, .ro, fun _ => 0, 0, 1⟩

/-- Table 15-10: R603, µs, 8–255 -/
def CLK_LP_CTL_L1_IDLE_US : Field := ⟨3, 0x10C, 0, 0, 8, .rws, fun _ => 32, 8, 255⟩

/-- Table 15-10: L1.1 and L1.2 on PASS DSP links -/
def CLK_LP_CTL_DSP_L1SS_EN : Field := ⟨3, 0x10C, 0, 8, 1, .rws, fun _ => 0, 0, 1⟩

/-- Table 16-10: Preferred feed: 0 A, 1 B -/
def PFE_FEED_CTL_PRIO : Field := ⟨1, 0x100, 0, 0, 1, .rwl, fun _ => 0, 0, 1⟩

/-- Table 16-10: R621 -/
def PFE_FEED_CTL_RETURN_EN : Field := ⟨1, 0x100, 0, 1, 1, .rwl, fun _ => 1, 0, 1⟩

/-- Table 16-10: ms, 1–255 -/
def PFE_FEED_CTL_QUAL_MS : Field := ⟨1, 0x100, 0, 8, 8, .rwl, fun _ => 20, 1, 255⟩

/-- Table 16-10: ms, 0–65,535 -/
def PFE_FEED_CTL_RETURN_MS : Field := ⟨1, 0x100, 0, 16, 16, .rwl, fun _ => 1000, 0, 65535⟩

/-- Table 16-10: 0.1 V, 85–480 -/
def PFE_FEED_THR_UV_FALL : Field := ⟨1, 0x104, 4, 0, 10, .rwl, fun _ => 85, 85, 480⟩

/-- Table 16-10: 0.1 V, 2–50 -/
def PFE_FEED_THR_UV_HYST : Field := ⟨1, 0x104, 4, 10, 6, .rwl, fun _ => 3, 2, 50⟩

/-- Table 16-10: 0.1 V, 120–620; at least 2.0 V above UV_FALL + UV_HYST -/
def PFE_FEED_THR_OV_RISE : Field := ⟨1, 0x104, 4, 16, 10, .rwl, fun _ => 620, 120, 620⟩

/-- Table 16-10: 0.1 A, above I_LIM, at most 1,500 -/
def PFE_BKR_CTL_FAST_TRIP : Field := ⟨1, 0x10C, 0, 0, 12, .rwl, fun _ => 1250, 0, 1500⟩

/-- Table 16-10: 0.1 A, 100–1,400 -/
def PFE_BKR_CTL_I_LIM : Field := ⟨1, 0x10C, 0, 12, 12, .rwl, fun _ => 1100, 100, 1400⟩

/-- Table 16-10: W, 50–250 -/
def PFE_BKR_CTL_P_LIM : Field := ⟨1, 0x10C, 0, 24, 8, .rwl, fun _ => 200, 50, 250⟩

/-- Table 16-10: ms, 1–65,535 -/
def PFE_BKR_CTL2_DECAY_MS : Field := ⟨1, 0x110, 0, 0, 16, .rwl, fun _ => 1000, 1, 65535⟩

/-- Table 16-10: s, 1–60 -/
def PFE_BKR_CTL2_COOL_S : Field := ⟨1, 0x110, 0, 16, 6, .rwl, fun _ => 10, 1, 60⟩

/-- Table 16-10: 0 unlimited, 1–15 -/
def PFE_BKR_CTL2_RETRY_MAX : Field := ⟨1, 0x110, 0, 22, 4, .rwl, fun _ => 3, 0, 15⟩

/-- Table 16-10: R635 -/
def PFE_BKR_CTL2_RETRY_EN : Field := ⟨1, 0x110, 0, 26, 1, .rwl, fun _ => 1, 0, 1⟩

/-- Table 16-10: ms, 1–31 -/
def PFE_BKR_CTL2_INRUSH_MAX_MS : Field := ⟨1, 0x110, 0, 27, 5, .rwl, fun _ => 10, 1, 31⟩

/-- Table 16-10: 0.1 A -/
def PFE_BKR_PT_CURRENT : Field := ⟨1, 0x140, 4, 0, 12, .rwl, fun k => [720, 800, 900, 1000, 1100].getD k 0, 0, 4095⟩

/-- Table 16-10: In units of UNIT -/
def PFE_BKR_PT_TIME : Field := ⟨1, 0x140, 4, 12, 16, .rwl, fun k => [10000, 1000, 100, 10, 1].getD k 0, 0, 65535⟩

/-- Table 16-10: 0 1 µs, 1 10 µs, 2 100 µs, 3 1 ms -/
def PFE_BKR_PT_UNIT : Field := ⟨1, 0x140, 4, 28, 2, .rwl, fun k => if k ≤ 4 then 3 else 0, 0, 3⟩

/-- Table 16-10: Point in use -/
def PFE_BKR_PT_VALID : Field := ⟨1, 0x140, 4, 31, 1, .rwl, fun k => if k ≤ 4 then 1 else 0, 0, 1⟩

/-- Table 16-10: Qualified -/
def PFE_STATUS_FEED_A_OK : Field := ⟨1, 0x180, 0, 0, 1, .ro, fun _ => 0, 0, 1⟩

/-- Table 16-10: Qualified -/
def PFE_STATUS_FEED_B_OK : Field := ⟨1, 0x180, 0, 1, 1, .ro, fun _ => 0, 0, 1⟩

/-- Table 16-10: 0 A, 1 B -/
def PFE_STATUS_ACTIVE : Field := ⟨1, 0x180, 0, 2, 1, .ro, fun _ => 0, 0, 1⟩

/-- Table 16-10: R626 -/
def PFE_STATUS_ON_HOLDUP : Field := ⟨1, 0x180, 0, 3, 1, .ro, fun _ => 0, 0, 1⟩

/-- Table 16-10: R629 -/
def PFE_STATUS_LIMITING : Field := ⟨1, 0x180, 0, 4, 1, .ro, fun _ => 0, 0, 1⟩

/-- Table 16-10: R632 -/
def PFE_STATUS_ACC_IDLE : Field := ⟨1, 0x180, 0, 5, 1, .ro, fun _ => 1, 0, 1⟩

/-- Table 16-10: PWRGD_OUT asserted -/
def PFE_STATUS_PWRGD : Field := ⟨1, 0x180, 0, 6, 1, .ro, fun _ => 0, 0, 1⟩

/-- Table 16-10: Rails 0–7 on -/
def PFE_STATUS_MAIN_ON : Field := ⟨1, 0x180, 0, 7, 1, .ro, fun _ => 0, 0, 1⟩

/-- Table 16-10: R625 -/
def PFE_STATUS_HU_READY : Field := ⟨1, 0x180, 0, 8, 1, .ro, fun _ => 0, 0, 1⟩

/-- Table 16-10: Bit f: R624 -/
def PFE_STATUS_UNUSABLE : Field := ⟨1, 0x180, 0, 9, 2, .ro, fun _ => 0, 0, 3⟩

/-- Table 16-10: Accumulator; 2^32 is a trip -/
def PFE_ACC : Field := ⟨1, 0x184, 0, 0, 32, .ro, fun _ => 0, 0, 4294967295⟩

/-- Table 16-10: 20 mV units -/
def PFE_FEED_MON_VOLTS : Field := ⟨1, 0x188, 4, 0, 12, .ro, fun _ => 0, 0, 4095⟩

/-- Table 16-10: 0.1 A units -/
def PFE_FEED_MON_AMPS : Field := ⟨1, 0x188, 4, 16, 12, .ro, fun _ => 0, 0, 4095⟩

/-- Table 16-10: VHU, 20 mV units -/
def PFE_HU_VOLTS : Field := ⟨1, 0x190, 0, 0, 12, .ro, fun _ => 0, 0, 4095⟩

/-- Table 16-10: 10 µF units -/
def PFE_HU_C_EST : Field := ⟨1, 0x190, 0, 16, 12, .ro, fun _ => 0, 0, 4095⟩

/-- Table 16-10: 0 none, 1 fast, 2 curve, 3 inrush, 4 rail, 5 imminent loss -/
def PFE_LAST_TRIP_CAUSE : Field := ⟨1, 0x194, 0, 0, 4, .ro, fun _ => 0, 0, 15⟩

/-- Table 16-10: Rail index for cause 4 -/
def PFE_LAST_TRIP_RAIL : Field := ⟨1, 0x194, 0, 4, 4, .ro, fun _ => 0, 0, 15⟩

/-- Table 16-10: Active feed at the event -/
def PFE_LAST_TRIP_FEED : Field := ⟨1, 0x194, 0, 8, 1, .ro, fun _ => 0, 0, 1⟩

/-- Table 16-10: Trips in the last 10 minutes -/
def PFE_LAST_TRIP_COUNT : Field := ⟨1, 0x194, 0, 9, 4, .ro, fun _ => 0, 0, 15⟩

/-- Table 16-10: Cause valid -/
def PFE_LAST_TRIP_VALID : Field := ⟨1, 0x194, 0, 31, 1, .rw1c, fun _ => 0, 0, 1⟩

/-- Table 16-10: Rail voltage, mV -/
def PFE_RAIL_MV : Field := ⟨1, 0x200, 4, 0, 13, .ro, fun _ => 0, 0, 8191⟩

/-- Table 16-10: Table 16-6 -/
def PFE_RAIL_IN_WINDOW : Field := ⟨1, 0x200, 4, 13, 1, .ro, fun _ => 0, 0, 1⟩

/-- Table 17-6: 0.1 V, 80–130 -/
def SPC_BUS_CTL_UV_FALL : Field := ⟨2, 0x100, 0, 0, 10, .rwl, fun _ => 85, 80, 130⟩

/-- Table 17-6: 0.1 V, 2–20 -/
def SPC_BUS_CTL_UV_HYST : Field := ⟨2, 0x100, 0, 10, 6, .rwl, fun _ => 3, 2, 20⟩

/-- Table 17-6: 0.1 V, 110–150; at least 1.0 V above UV_FALL + UV_HYST -/
def SPC_BUS_CTL_OV_RISE : Field := ⟨2, 0x100, 0, 16, 10, .rwl, fun _ => 145, 110, 150⟩

/-- Table 17-6: ms, 1–63 -/
def SPC_BUS_CTL_QUAL_MS : Field := ⟨2, 0x100, 0, 26, 6, .rwl, fun _ => 20, 1, 63⟩

/-- Table 17-6: 20 mV units -/
def SPC_BUS_STATUS_VOLTS : Field := ⟨2, 0x104, 0, 0, 12, .ro, fun _ => 0, 0, 4095⟩

/-- Table 17-6: Qualified -/
def SPC_BUS_STATUS_OK : Field := ⟨2, 0x104, 0, 12, 1, .ro, fun _ => 0, 0, 1⟩

/-- Table 17-6: DSP index; 0x7F unbound (R652) -/
def SPC_CH_CFG_PORT : Field := ⟨2, 0x200, 4, 0, 7, .rws, fun n => 4 * n, 0, 127⟩

/-- Table 17-6: R656 -/
def SPC_CH_CFG_AUTO_POWER : Field := ⟨2, 0x200, 4, 7, 1, .rws, fun _ => 0, 0, 1⟩

/-- Table 17-6: s, 1–60 -/
def SPC_CH_CFG_COOL_S : Field := ⟨2, 0x200, 4, 8, 6, .rwl, fun _ => 10, 1, 60⟩

/-- Table 17-6: 0 never latches, 1–15 -/
def SPC_CH_CFG_RETRY_MAX : Field := ⟨2, 0x200, 4, 14, 4, .rwl, fun _ => 3, 0, 15⟩

/-- Table 17-6: ms, 1–63 -/
def SPC_CH_CFG_INRUSH_MAX_MS : Field := ⟨2, 0x200, 4, 18, 6, .rwl, fun _ => 50, 1, 63⟩

/-- Table 17-6: 0.1 A, 20–120 -/
def SPC_CH_LIM_I_LIM : Field := ⟨2, 0x300, 4, 0, 8, .rwl, fun _ => 100, 20, 120⟩

/-- Table 17-6: 0.1 A, above I_LIM, at most 200 -/
def SPC_CH_LIM_FAST_TRIP : Field := ⟨2, 0x300, 4, 8, 8, .rwl, fun _ => 150, 0, 200⟩

/-- Table 17-6: W, 10–120 -/
def SPC_CH_LIM_P_LIM : Field := ⟨2, 0x300, 4, 16, 8, .rwl, fun _ => 60, 10, 120⟩

/-- Table 17-6: ms, 1–65,535 -/
def SPC_CH_DECAY_DECAY_MS : Field := ⟨2, 0x380, 4, 0, 16, .rwl, fun _ => 1000, 1, 65535⟩

/-- Table 17-6: Debounced presence -/
def SPC_CH_STATUS_PRSNT : Field := ⟨2, 0x400, 4, 0, 1, .ro, fun _ => 0, 0, 1⟩

/-- Table 17-6: SL_PRSNT_N[n] low -/
def SPC_CH_STATUS_PRSNT_RAW : Field := ⟨2, 0x400, 4, 1, 1, .ro, fun _ => 0, 0, 1⟩

/-- Table 17-6: R656 -/
def SPC_CH_STATUS_REQ_ON : Field := ⟨2, 0x400, 4, 2, 1, .ro, fun _ => 0, 0, 1⟩

/-- Table 17-6: Switch closed -/
def SPC_CH_STATUS_ON : Field := ⟨2, 0x400, 4, 3, 1, .ro, fun _ => 0, 0, 1⟩

/-- Table 17-6: SL_PGOOD[n] asserted -/
def SPC_CH_STATUS_PGOOD : Field := ⟨2, 0x400, 4, 4, 1, .ro, fun _ => 0, 0, 1⟩

/-- Table 17-6: SL_PERST_N[n] asserted -/
def SPC_CH_STATUS_PERST : Field := ⟨2, 0x400, 4, 5, 1, .ro, fun _ => 1, 0, 1⟩

/-- Table 17-6: Carrying I_LIM -/
def SPC_CH_STATUS_LIMITING : Field := ⟨2, 0x400, 4, 6, 1, .ro, fun _ => 0, 0, 1⟩

/-- Table 17-6: Accumulator idle -/
def SPC_CH_STATUS_ACC_IDLE : Field := ⟨2, 0x400, 4, 7, 1, .ro, fun _ => 1, 0, 1⟩

/-- Table 17-6: R667 -/
def SPC_CH_STATUS_COOLING : Field := ⟨2, 0x400, 4, 8, 1, .ro, fun _ => 0, 0, 1⟩

/-- Table 17-6: R668 -/
def SPC_CH_STATUS_LATCHED : Field := ⟨2, 0x400, 4, 9, 1, .ro, fun _ => 0, 0, 1⟩

/-- Table 17-6: Failed close (R658) -/
def SPC_CH_STATUS_UNUSABLE : Field := ⟨2, 0x400, 4, 10, 1, .ro, fun _ => 0, 0, 1⟩

/-- Table 17-6: Host-controlled (R654) -/
def SPC_CH_STATUS_HOST : Field := ⟨2, 0x400, 4, 11, 1, .ro, fun _ => 0, 0, 1⟩

/-- Table 17-6: R661 -/
def SPC_CH_STATUS_BTN : Field := ⟨2, 0x400, 4, 12, 1, .rw1c, fun _ => 0, 0, 1⟩

/-- Table 17-6: Last trip, 1–3; 0 none -/
def SPC_CH_STATUS_TRIP_CAUSE : Field := ⟨2, 0x400, 4, 13, 3, .ro, fun _ => 0, 0, 7⟩

/-- Table 17-6: Trips in the last 10 minutes -/
def SPC_CH_STATUS_TRIPS : Field := ⟨2, 0x400, 4, 16, 4, .ro, fun _ => 0, 0, 15⟩

/-- Table 17-6: SL_OUT[n], 20 mV units -/
def SPC_CH_MON_VOLTS : Field := ⟨2, 0x500, 4, 0, 12, .ro, fun _ => 0, 0, 4095⟩

/-- Table 17-6: 10 mA units -/
def SPC_CH_MON_AMPS : Field := ⟨2, 0x500, 4, 16, 12, .ro, fun _ => 0, 0, 4095⟩

/-- Table 17-6: Accumulator; 2^32 is a trip -/
def SPC_CH_ACC : Field := ⟨2, 0x600, 4, 0, 32, .ro, fun _ => 0, 0, 4294967295⟩

/-- Table 17-6: 0b01 on, 0b10 blink, 0b11 off; 0b00 keeps; ignored while HOST -/
def SPC_CH_IND_PWR : Field := ⟨2, 0x700, 4, 0, 2, .rw, fun _ => 3, 0, 3⟩

/-- Table 17-6: As PWR -/
def SPC_CH_IND_ATN : Field := ⟨2, 0x700, 4, 2, 2, .rw, fun _ => 3, 0, 3⟩

/-- Table 17-6: Fields as PFE_BKR_PT (Table 16-10) -/
def SPC_BKR_PT_CURRENT : Field := ⟨2, 0x1000, 4, 0, 12, .rwl, fun i => [80, 90, 100].getD (i % 16) 0, 0, 4095⟩

/-- Table 17-6: Fields as PFE_BKR_PT (Table 16-10) -/
def SPC_BKR_PT_TIME : Field := ⟨2, 0x1000, 4, 12, 16, .rwl, fun i => [10000, 1000, 10].getD (i % 16) 0, 0, 65535⟩

/-- Table 17-6: Fields as PFE_BKR_PT (Table 16-10) -/
def SPC_BKR_PT_UNIT : Field := ⟨2, 0x1000, 4, 28, 2, .rwl, fun i => if i % 16 ≤ 2 then 3 else 0, 0, 3⟩

/-- Table 17-6: Fields as PFE_BKR_PT (Table 16-10) -/
def SPC_BKR_PT_VALID : Field := ⟨2, 0x1000, 4, 31, 1, .rwl, fun i => if i % 16 ≤ 2 then 1 else 0, 0, 1⟩

/-- Table 19-9: Lid temperature, °C, two's complement -/
def CLK_THERM_LID_C : Field := ⟨3, 0x110, 0, 0, 8, .ro, fun _ => 0, 0, 255⟩

/-- Table 19-9: Hottest junction, °C, two's complement -/
def CLK_THERM_JUNC_C : Field := ⟨3, 0x110, 0, 8, 8, .ro, fun _ => 0, 0, 255⟩

/-- Table 19-9: THERM_N asserted -/
def CLK_THERM_WARN : Field := ⟨3, 0x110, 0, 16, 1, .ro, fun _ => 0, 0, 1⟩

/-- Table 12-2: Quench entry (R498) -/
def FLT_QENTRY_SOURCE : Field := ⟨15, 0x1000, 16, 0, 16, .rwl, fun i => [1792, 1728, 2368, 2624, 3344, 0, 0].getD i 0, 0, 65535⟩

/-- Table 12-2: Quench entry (R498) -/
def FLT_QENTRY_MASK : Field := ⟨15, 0x1000, 16, 16, 16, .rwl, fun i => [65528, 65472, 65472, 65472, 65532, 0, 0].getD i 0, 0, 65535⟩

/-- Table 12-2: Quench entry (R498) -/
def FLT_QENTRY_VALID : Field := ⟨15, 0x1004, 16, 0, 1, .rwl, fun i => [1, 1, 1, 1, 1, 1, 1].getD i 0, 0, 1⟩

/-- Table 12-2: Quench entry (R498) -/
def FLT_QENTRY_CLASS_SEL : Field := ⟨15, 0x1004, 16, 1, 2, .rwl, fun i => [0, 2, 2, 1, 0, 3, 2].getD i 0, 0, 3⟩

/-- Table 12-2: Quench entry (R498) -/
def FLT_QENTRY_EVT : Field := ⟨15, 0x1004, 16, 8, 8, .rwl, fun i => [0, 0, 2, 0, 0, 0, 0].getD i 0, 0, 255⟩

/-- Table 12-2: Quench entry (R498) -/
def FLT_QENTRY_PROMOTE_N : Field := ⟨15, 0x1004, 16, 16, 8, .rwl, fun i => [0, 0, 0, 32].getD i 0, 0, 255⟩

/-- Table 12-2: Quench entry (R498) -/
def FLT_QENTRY_ESCALATE_N : Field := ⟨15, 0x1004, 16, 24, 8, .rwl, fun i => [0, 0, 2].getD i 0, 0, 255⟩

/-- Table 12-2: Quench entry (R498) -/
def FLT_QENTRY_GRACE_US : Field := ⟨15, 0x1008, 16, 0, 20, .rwl, fun i => [0, 0, 1000000].getD i 0, 0, 1048575⟩

/-- Table 12-2: Quench entry (R498) -/
def FLT_QENTRY_PROMOTE_WIN : Field := ⟨15, 0x1008, 16, 20, 12, .rwl, fun i => [0, 0, 0, 1000].getD i 0, 0, 4095⟩

/-- Table 12-2: Quench entry (R498) -/
def FLT_QENTRY_IMMEDIATE : Field := ⟨15, 0x100C, 16, 0, 8, .rwl, fun i => [9, 5, 1, 0, 1, 1, 1].getD i 0, 0, 255⟩

/-- Table 12-2: Quench entry (R498) -/
def FLT_QENTRY_QUENCH : Field := ⟨15, 0x100C, 16, 8, 8, .rwl, fun i => [].getD i 0, 0, 255⟩

/-- Table 12-2: Quench entry (R498) -/
def FLT_QENTRY_ESCALATE : Field := ⟨15, 0x100C, 16, 16, 8, .rwl, fun i => [0, 0, 4].getD i 0, 0, 255⟩

/-- Table 1-7: ss_STATUS.READY, indexed by subsystem ID. -/
def COMMON_READY : Field := ⟨0, 0x4, 0x1000000, 0, 1, .ro, fun _ => 0, 0, 1⟩

/-- Table 1-7: ss_STATUS.SAFE, indexed by subsystem ID. -/
def COMMON_SAFE : Field := ⟨0, 0x4, 0x1000000, 1, 1, .ro, fun _ => 0, 0, 1⟩

/-- Table 1-7: ss_STATUS.DEGRADED, indexed by subsystem ID. -/
def COMMON_DEGRADED : Field := ⟨0, 0x4, 0x1000000, 2, 1, .ro, fun _ => 0, 0, 1⟩

end Reg


/-- Part 1 of `regMap`. -/
def regMap1 : List (Field × Nat) :=
  [(Reg.POL_CTL_START_HOLD_EN, 1), (Reg.POL_CTL_START_HOLD, 1), (Reg.POL_RELOC_CTL_ENGINES, 1),
   (Reg.POL_RELOC_CTL_BATCH, 1), (Reg.POL_RELOC_STATUS_SLOTS_BUSY, 1), (Reg.POL_RELOC_STATUS_ENGINES_BUSY, 1),
   (Reg.POL_MAP_STATUS_REBUILDING, 1), (Reg.POL_MAP_STATUS_JOURNAL_HIGH, 1), (Reg.POL_MAP_STATUS_CL_WRITABLE, 1),
   (Reg.POL_MAP_STATUS_RUNS, 1), (Reg.POL_CACHE_HIT, 1), (Reg.POL_CACHE_MISS, 1),
   (Reg.POL_MP_WINDOW, 1), (Reg.POL_DSP_CFG_PERSONALITY, 64), (Reg.POL_DSP_CFG_DEVICE_OK, 64),
   (Reg.POL_DSP_CFG_DOWN, 64), (Reg.DIR_CTL_SNP_TO, 1), (Reg.DIR_CTL_RD_S_GRANT_E, 1),
   (Reg.DIR_CTL_ATOM_CHAIN, 1), (Reg.DIR_TRK_CTL_ALPHA_K, 1), (Reg.DIR_TRK_CTL_WR_RESV, 1),
   (Reg.DIR_SLICE_STATUS_ARB_PTR, 8), (Reg.DIR_SLICE_STATUS_RETRY_DEPTH, 8), (Reg.DIR_SLICE_STATUS_EVB_DEPTH, 8),
   (Reg.DIR_SLICE_STATUS_HOLD, 8), (Reg.DIR_SLICE_STATUS_FAILED, 8), (Reg.DIR_TRK_STATUS_IN_USE, 8),
   (Reg.DIR_TRK_STATUS_SHARED_FREE, 8), (Reg.DIR_WALK_STATUS_ACTIVE, 1), (Reg.DIR_WALK_STATUS_EXTRA_PASS, 1),
   (Reg.DIR_WALK_STATUS_PROGRESS, 1), (Reg.DIR_LOST_LO, 1), (Reg.DIR_LOST_HI, 1),
   (Reg.DIR_LOST_TWIN, 1), (Reg.DIR_CNT_LOOKUP, 1), (Reg.DIR_CNT_MISS, 1),
   (Reg.DIR_CNT_SNOOP, 1), (Reg.DIR_CNT_FORWARD, 1), (Reg.DIR_CNT_CONFLICT, 1),
   (Reg.DIR_CNT_EVICT, 1), (Reg.DIR_CNT_RETRY, 1), (Reg.DIR_CNT_ANOMALY, 1),
   (Reg.MOV_CTL_ALPHA_K, 1), (Reg.MOV_CTL_FREEZE_TO, 1), (Reg.MOV_ENGINE_FAILED, 1),
   (Reg.MOV_CTX_STATUS_IN_USE, 1), (Reg.MOV_CTX_STATUS_SHARED_FREE, 1), (Reg.MOV_STATUS_DEGRADED, 1),
   (Reg.MOV_HOST_WEIGHT_WEIGHT, 64), (Reg.MOV_ALLOT_COUNT, 64), (Reg.XBR_CTL_CT_EN, 1),
   (Reg.XBR_CTL_ACK_TO, 1), (Reg.XBR_CTL_HDR_ERR_LIM, 1), (Reg.XBR_DT_CTL_K_Q0, 1),
   (Reg.XBR_DT_CTL_K_Q1, 1), (Reg.XBR_DT_CTL_K_Q2, 1), (Reg.XBR_DT_CTL_K_Q3, 1),
   (Reg.XBR_DT_CTL_K_Q4, 1), (Reg.XBR_DT_CTL_K_Q5, 1), (Reg.XBR_DT_CTL_K_Q6, 1)]

/-- Part 2 of `regMap`. -/
def regMap2 : List (Field × Nat) :=
  [(Reg.XBR_DT_CTL_K_Q7, 1), (Reg.XBR_PLANE_STATUS_FAILED, 1), (Reg.XBR_PLANE_STATUS_ACTIVE, 1),
   (Reg.XBR_PLANE_STATUS_SPARE, 1), (Reg.XBR_BUF_STATUS_SHARED_FREE, 1), (Reg.XBR_HR_STATUS_FREE, 1),
   (Reg.XBR_CNT_RESEND, 1), (Reg.XBR_CNT_DUP, 1), (Reg.XBR_CNT_HDR_ERR, 1),
   (Reg.XBR_CNT_CT, 1), (Reg.XBR_CNT_NULL, 1), (Reg.XBR_CNT_CT_REPLAY, 1),
   (Reg.XBR_MC_OVF, 64), (Reg.XBR_DISC, 64), (Reg.SCH_CTL_TELEM_EN, 1),
   (Reg.SCH_CTL_SAMPLE_US, 1), (Reg.SCH_CTL_EXPORT_MS, 1), (Reg.SCH_LAT_ALERT_THRESH_US, 1),
   (Reg.SCH_LAT_ALERT_COUNT, 1), (Reg.SCH_TELEM_STATUS_SEQ, 1), (Reg.SCH_TELEM_STATUS_WRAPPED, 1),
   (Reg.SCH_TELEM_STATUS_GAP, 1), (Reg.SCH_HOLD_DEPTH, 64), (Reg.SCH_HOLD_FULL, 64),
   (Reg.PRT_PORT_CFG_ROLE, 64), (Reg.PRT_PORT_CFG_PBR_EN, 64), (Reg.PRT_PORT_CFG_VDM_MGMT, 64),
   (Reg.PRT_PORT_CFG_MGMT_USP, 64), (Reg.PRT_PORT_CFG_PID, 64), (Reg.PRT_DSP_TO_DEV_TO, 64),
   (Reg.PRT_TAG_STATUS_MEM_USE, 64), (Reg.PRT_TAG_STATUS_QUAR, 64), (Reg.PRT_CNT_CTO, 64),
   (Reg.PRT_CNT_LATE, 64), (Reg.LNC_BAY_CFG_WIDTH, 16), (Reg.LNC_BAY_CFG_PLL_LOCK, 16),
   (Reg.LNC_PORT_CTL_MAX_RATE, 64), (Reg.LNC_PORT_CTL_SRIS, 64), (Reg.LNC_PORT_CTL_L0P_EN, 64),
   (Reg.LNC_PORT_CTL_LOPT_EN, 64), (Reg.LNC_PORT_CTL_EQ_BYPASS_EN, 64), (Reg.LNC_PORT_CTL_EQ_MIN_FOM, 64),
   (Reg.LNC_PORT_CTL_FOM_ALERT, 64), (Reg.LNC_PORT_STATUS_LTSSM, 64), (Reg.LNC_PORT_STATUS_WIDTH, 64),
   (Reg.LNC_PORT_STATUS_RATE, 64), (Reg.LNC_PORT_STATUS_FLIT, 64), (Reg.LNC_PORT_STATUS_REVERSED, 64),
   (Reg.LNC_PORT_STATUS_PARKED, 64), (Reg.LNC_PORT_STATUS_CXL, 64), (Reg.LNC_PORT_STATUS_L0P, 64),
   (Reg.LNC_PORT_STATUS_FAIL_COUNT, 64), (Reg.LNC_PORT_RETIRED, 64), (Reg.LNC_CNT_RECOV, 64),
   (Reg.LNC_CNT_L0P, 64), (Reg.LNC_LANE_STATUS_LOCK, 256), (Reg.LNC_LANE_STATUS_IN_USE, 256),
   (Reg.LNC_LANE_STATUS_RETIRED, 256), (Reg.LNC_LANE_STATUS_POL_INV, 256), (Reg.LNC_LANE_STATUS_LOGICAL, 256)]

/-- Part 3 of `regMap`. -/
def regMap3 : List (Field × Nat) :=
  [(Reg.LNC_LANE_STATUS_TX_PRESET, 256), (Reg.LNC_LANE_STATUS_PARTNER_PRESET, 256), (Reg.LNC_LANE_STATUS_FOM, 256),
   (Reg.LNC_LANE_STATUS_FOM_MIN, 256), (Reg.LNC_LANE_ERR, 256), (Reg.SEM_CTL_FOM_TARGET, 1),
   (Reg.SEM_CTL_ACK_TO, 1), (Reg.SEM_CTL_RETRAIN_MS, 1), (Reg.SEM_TWIN_CTL_LOSS_US, 1),
   (Reg.SEM_TWIN_STATUS_ENABLED, 1), (Reg.SEM_TWIN_STATUS_SUSPENDED, 1), (Reg.SEM_TWIN_STATUS_TWIN_B, 1),
   (Reg.SEM_TWIN_STATUS_PRIMARY, 1), (Reg.SEM_BUNDLE_STATUS_STATE, 4), (Reg.SEM_BUNDLE_STATUS_REVERSED, 4),
   (Reg.SEM_BUNDLE_STATUS_ID_ERR, 4), (Reg.SEM_BUNDLE_STATUS_SPARE_FOR, 4), (Reg.SEM_BUNDLE_STATUS_SPARE_FAILED, 4),
   (Reg.SEM_BUNDLE_STATUS_CK_OK, 4), (Reg.SEM_BUNDLE_STATUS_STREAMS, 4), (Reg.SEM_LANE_STATUS_LOCK, 128),
   (Reg.SEM_LANE_STATUS_POL_INV, 128), (Reg.SEM_LANE_STATUS_LOST, 128), (Reg.SEM_LANE_STATUS_FOM, 128),
   (Reg.SEM_LANE_STATUS_FOM_MIN, 128), (Reg.SEM_CNT_CRC, 4), (Reg.SEM_CNT_RESEND, 4),
   (Reg.SEM_TWIN_GRP, 8), (Reg.VLT_CTL_CRU_HOLD, 1), (Reg.VLT_CTL_RETIRE_FRAC, 1),
   (Reg.VLT_CTL_CH_FAIL_LIM, 1), (Reg.VLT_ANNEAL_EN, 1), (Reg.VLT_ANNEAL_SRAM_S, 1),
   (Reg.VLT_ANNEAL_PERIOD_MIN, 1), (Reg.VLT_STATUS_RESERVE_FREE, 1), (Reg.VLT_STATUS_RESERVE_OUT, 1),
   (Reg.VLT_STATUS_READY, 1), (Reg.VLT_UNALLOC_FREE, 1), (Reg.VLT_PC_FAILED, 1),
   (Reg.VLT_ANNEAL_STATUS_PROGRESS, 1), (Reg.VLT_ANNEAL_STATUS_PASSES, 1), (Reg.VLT_ANNEAL_STATUS_OVERRUN, 1),
   (Reg.VLT_CNT_CORR_PAGES, 1), (Reg.VLT_CNT_CORR_BITS, 1), (Reg.VLT_CNT_UNCORR, 1),
   (Reg.VLT_CNT_RETIRED, 1), (Reg.VLT_CNT_SRAM_CORR, 1), (Reg.VLT_CNT_SRAM_UNCORR, 1),
   (Reg.VLT_SRAM_STATUS_SPARE_BANKS_FREE, 1), (Reg.VLT_SRAM_STATUS_ROWS_USED, 1), (Reg.VLT_REGION_CFG_STRENGTH, 12),
   (Reg.FLT_CTL_MERGE_US, 1), (Reg.FLT_CTL_ALERT_MIN, 1), (Reg.FLT_CTL_AUTO_RESET, 1),
   (Reg.FLT_CTL_DUMP_OVERWRITE, 1), (Reg.FLT_HIST_HEAD_INDEX, 1), (Reg.FLT_HIST_HEAD_TOTAL, 1),
   (Reg.FLT_HIST_TAIL_INDEX, 1), (Reg.FLT_HIST_TAIL_UNREAD, 1), (Reg.FLT_STATUS_OVERFLOW, 1)]

/-- Part 4 of `regMap`. -/
def regMap4 : List (Field × Nat) :=
  [(Reg.FLT_STATUS_ALERT, 1), (Reg.FLT_STATUS_FAULT, 1), (Reg.FLT_STATUS_SAFE_MODULE, 1),
   (Reg.FLT_STATUS_FLUSH_ACTIVE, 1), (Reg.FLT_STATUS_DUMP_VALID, 1), (Reg.FLT_STATUS_DUMP_INCOMPLETE, 1),
   (Reg.FLT_STATUS_SLOTS_FULL, 1), (Reg.FLT_STATUS_TOUCHSTONE, 1), (Reg.FLT_STATUS_TEST_EN, 1),
   (Reg.FLT_STATUS_LOSS_VALID, 1), (Reg.FLT_LOST, 1), (Reg.HLM_STATUS_LOCKED, 1),
   (Reg.HLM_STATUS_SLOT, 1), (Reg.HLM_STATUS_TRIAL, 1), (Reg.HLM_STATUS_LEDGER_HOLD, 1),
   (Reg.HLM_STATUS_LEDGER_LOW, 1), (Reg.HLM_STATUS_SVN_MIN, 1), (Reg.HLM_STATUS_REVOKED, 1),
   (Reg.HLM_BOOT_COUNTER, 1), (Reg.HLM_LEDGER_HEAD, 1), (Reg.HLM_LEDGER_ARCHIVED, 1),
   (Reg.HLM_LEDGER_CTL_POLICY, 1), (Reg.HLM_LEDGER_CTL_PENDING, 1), (Reg.HLM_SESSIONS_OPEN, 1),
   (Reg.HLM_IDE_CFG_POLICY, 64), (Reg.HLM_IDE_CFG_REKEY_H, 64), (Reg.HLM_IDE_CFG_STATE, 64),
   (Reg.TIM_CTL_PTP_EN, 1), (Reg.TIM_CTL_PPS_IN_EN, 1), (Reg.TIM_CTL_PPS_OUT_EN, 1),
   (Reg.TIM_CTL_SRC_PRIO, 1), (Reg.TIM_CTL_PROFILE, 1), (Reg.TIM_CTL_PPS_OUT_WIDTH, 1),
   (Reg.TIM_SERVO_LOCK_NS, 1), (Reg.TIM_SERVO_STEP_NS, 1), (Reg.TIM_SERVO_HOLDOVER_S, 1),
   (Reg.TIM_STATUS_QUALITY, 1), (Reg.TIM_STATUS_STATE, 1), (Reg.TIM_STATUS_SRC, 1),
   (Reg.TIM_STATUS_ANCHORED, 1), (Reg.TIM_OFFSET, 1), (Reg.TIM_FREQ_ADJ, 1),
   (Reg.TIM_DELAY_COMP_TX_NS, 1), (Reg.TIM_DELAY_COMP_RX_NS, 1), (Reg.TIM_PPS_COMP_IN_NS, 1),
   (Reg.TIM_PPS_COMP_OUT_NS, 1), (Reg.REC_CTL_CHECKPOINT_MIN, 1), (Reg.REC_CTL_FREEZE_ON_FATAL, 1),
   (Reg.REC_STATUS_FROZEN, 1), (Reg.REC_STATUS_REPLAY, 1), (Reg.REC_STATUS_GAP, 1),
   (Reg.REC_NEXT_SEQ_LO, 1), (Reg.REC_NEXT_SEQ_HI, 1), (Reg.REC_OLDEST_SEQ_LO, 1),
   (Reg.REC_OLDEST_SEQ_HI, 1), (Reg.REC_MISSED, 1), (Reg.CLK_RST_CAUSE_KIND, 1),
   (Reg.CLK_RST_CAUSE_TRIGGER, 1), (Reg.CLK_RST_CAUSE_SOURCE, 1), (Reg.CLK_START_TIME_RELEASE_MS, 1)]

/-- Part 5 of `regMap`. -/
def regMap5 : List (Field × Nat) :=
  [(Reg.CLK_START_TIME_READY_MS, 1), (Reg.CLK_JOURNAL_BUF_BYTES, 1), (Reg.CLK_JOURNAL_FLUSH_ACTIVE, 1),
   (Reg.CLK_JOURNAL_RESTORE, 1), (Reg.CLK_JOURNAL_CLEAR_PEND, 1), (Reg.CLK_LP_CTL_L1_IDLE_US, 1),
   (Reg.CLK_LP_CTL_DSP_L1SS_EN, 1), (Reg.PFE_FEED_CTL_PRIO, 1), (Reg.PFE_FEED_CTL_RETURN_EN, 1),
   (Reg.PFE_FEED_CTL_QUAL_MS, 1), (Reg.PFE_FEED_CTL_RETURN_MS, 1), (Reg.PFE_FEED_THR_UV_FALL, 2),
   (Reg.PFE_FEED_THR_UV_HYST, 2), (Reg.PFE_FEED_THR_OV_RISE, 2), (Reg.PFE_BKR_CTL_FAST_TRIP, 1),
   (Reg.PFE_BKR_CTL_I_LIM, 1), (Reg.PFE_BKR_CTL_P_LIM, 1), (Reg.PFE_BKR_CTL2_DECAY_MS, 1),
   (Reg.PFE_BKR_CTL2_COOL_S, 1), (Reg.PFE_BKR_CTL2_RETRY_MAX, 1), (Reg.PFE_BKR_CTL2_RETRY_EN, 1),
   (Reg.PFE_BKR_CTL2_INRUSH_MAX_MS, 1), (Reg.PFE_BKR_PT_CURRENT, 16), (Reg.PFE_BKR_PT_TIME, 16),
   (Reg.PFE_BKR_PT_UNIT, 16), (Reg.PFE_BKR_PT_VALID, 16), (Reg.PFE_STATUS_FEED_A_OK, 1),
   (Reg.PFE_STATUS_FEED_B_OK, 1), (Reg.PFE_STATUS_ACTIVE, 1), (Reg.PFE_STATUS_ON_HOLDUP, 1),
   (Reg.PFE_STATUS_LIMITING, 1), (Reg.PFE_STATUS_ACC_IDLE, 1), (Reg.PFE_STATUS_PWRGD, 1),
   (Reg.PFE_STATUS_MAIN_ON, 1), (Reg.PFE_STATUS_HU_READY, 1), (Reg.PFE_STATUS_UNUSABLE, 1),
   (Reg.PFE_ACC, 1), (Reg.PFE_FEED_MON_VOLTS, 2), (Reg.PFE_FEED_MON_AMPS, 2),
   (Reg.PFE_HU_VOLTS, 1), (Reg.PFE_HU_C_EST, 1), (Reg.PFE_LAST_TRIP_CAUSE, 1),
   (Reg.PFE_LAST_TRIP_RAIL, 1), (Reg.PFE_LAST_TRIP_FEED, 1), (Reg.PFE_LAST_TRIP_COUNT, 1),
   (Reg.PFE_LAST_TRIP_VALID, 1), (Reg.PFE_RAIL_MV, 11), (Reg.PFE_RAIL_IN_WINDOW, 11),
   (Reg.SPC_BUS_CTL_UV_FALL, 1), (Reg.SPC_BUS_CTL_UV_HYST, 1), (Reg.SPC_BUS_CTL_OV_RISE, 1),
   (Reg.SPC_BUS_CTL_QUAL_MS, 1), (Reg.SPC_BUS_STATUS_VOLTS, 1), (Reg.SPC_BUS_STATUS_OK, 1),
   (Reg.SPC_CH_CFG_PORT, 16), (Reg.SPC_CH_CFG_AUTO_POWER, 16), (Reg.SPC_CH_CFG_COOL_S, 16),
   (Reg.SPC_CH_CFG_RETRY_MAX, 16), (Reg.SPC_CH_CFG_INRUSH_MAX_MS, 16), (Reg.SPC_CH_LIM_I_LIM, 16)]

/-- Part 6 of `regMap`. -/
def regMap6 : List (Field × Nat) :=
  [(Reg.SPC_CH_LIM_FAST_TRIP, 16), (Reg.SPC_CH_LIM_P_LIM, 16), (Reg.SPC_CH_DECAY_DECAY_MS, 16),
   (Reg.SPC_CH_STATUS_PRSNT, 16), (Reg.SPC_CH_STATUS_PRSNT_RAW, 16), (Reg.SPC_CH_STATUS_REQ_ON, 16),
   (Reg.SPC_CH_STATUS_ON, 16), (Reg.SPC_CH_STATUS_PGOOD, 16), (Reg.SPC_CH_STATUS_PERST, 16),
   (Reg.SPC_CH_STATUS_LIMITING, 16), (Reg.SPC_CH_STATUS_ACC_IDLE, 16), (Reg.SPC_CH_STATUS_COOLING, 16),
   (Reg.SPC_CH_STATUS_LATCHED, 16), (Reg.SPC_CH_STATUS_UNUSABLE, 16), (Reg.SPC_CH_STATUS_HOST, 16),
   (Reg.SPC_CH_STATUS_BTN, 16), (Reg.SPC_CH_STATUS_TRIP_CAUSE, 16), (Reg.SPC_CH_STATUS_TRIPS, 16),
   (Reg.SPC_CH_MON_VOLTS, 16), (Reg.SPC_CH_MON_AMPS, 16), (Reg.SPC_CH_ACC, 16),
   (Reg.SPC_CH_IND_PWR, 16), (Reg.SPC_CH_IND_ATN, 16), (Reg.SPC_BKR_PT_CURRENT, 256),
   (Reg.SPC_BKR_PT_TIME, 256), (Reg.SPC_BKR_PT_UNIT, 256), (Reg.SPC_BKR_PT_VALID, 256),
   (Reg.CLK_THERM_LID_C, 1), (Reg.CLK_THERM_JUNC_C, 1), (Reg.CLK_THERM_WARN, 1),
   (Reg.FLT_QENTRY_SOURCE, 256), (Reg.FLT_QENTRY_MASK, 256), (Reg.FLT_QENTRY_VALID, 256),
   (Reg.FLT_QENTRY_CLASS_SEL, 256), (Reg.FLT_QENTRY_EVT, 256), (Reg.FLT_QENTRY_PROMOTE_N, 256),
   (Reg.FLT_QENTRY_ESCALATE_N, 256), (Reg.FLT_QENTRY_GRACE_US, 256), (Reg.FLT_QENTRY_PROMOTE_WIN, 256),
   (Reg.FLT_QENTRY_IMMEDIATE, 256), (Reg.FLT_QENTRY_QUENCH, 256), (Reg.FLT_QENTRY_ESCALATE, 256),
   (Reg.COMMON_READY, 19), (Reg.COMMON_SAFE, 19), (Reg.COMMON_DEGRADED, 19)]

/-- Every field of control space with the number of its indices. -/
def regMap : List (Field × Nat) := regMap1 ++ regMap2 ++ regMap3 ++ regMap4 ++ regMap5 ++ regMap6

end Sys2Proof.Machine
end

