-- ==== Sys2Proof/Machine/TypesCtl.lean ====
section
/-! DEFINITION. The internal state of the standby-domain and control-plane subsystems that no register field holds:
feeds and rails, slot channels, starts and journal, command processor, Hallmark, fault collector, time unit,
Transcript recorder, test access port. Plain data throughout. -/

namespace Sys2Proof.Machine

/-! ## Feed front end (PFE) -/

/-- One feed input (R618 to R624); FEED_x_OK (qualified) and UNUSABLE are register fields. -/
structure FeedState where
  tenthV : Nat          -- last voltage the monitor reported, 0.1 V
  uvOk : Bool           -- above the undervoltage threshold (R618)
  ovOk : Bool           -- below the overvoltage threshold (R618)
  everRange : Bool      -- the feed has been at 7 V or more (R617, R635)
  deriving DecidableEq, Repr

/-- Feed switches, bus, hold-up, breaker and rails (chapter "Feed front end and module power"). -/
structure Pfe where
  feeds : List FeedState        -- FEED A, FEED B
  closed : Option Feed          -- the pair that is closed; never both (R621)
  vbusUp : Bool                 -- VBUS within 0.5 V of the closed feed, or held by ride-through (R630, R626)
  want : Option Feed            -- the feed a switchover that has been asked for goes to (R622)
  settling : Bool               -- a pair is closed and VBUS is not yet within 0.5 V of its feed (R624, R630)
  coolDown : Bool               -- both feeds held off after a trip (R635)
  latched : Bool                -- the trip is latched (R635)
  imminent : Bool               -- imminent loss raised; no feed closes before standby turn-off (R627)
  standbyOn : Bool              -- standby rails up (R641)
  pwrgdQual : Bool              -- a PWRGD_OUT qualification window is running (R637)
  charging : Bool               -- the hold-up charger runs (R625)
  pendReport : Option (BitVec 32)  -- PFE_LAST_TRIP to be reported at the next start (R636)
  tripTicks : List Nat          -- model-clock ticks of the trips in the last 10 minutes (R635)
  holdupTest : Option Nat       -- PFE_HOLDUP_TEST running, its background command
  deriving DecidableEq, Repr

/-! ## Slot power channels (SPC) -/

/-- One slot channel; its status bits are the fields of SPC_CH_STATUS[n]. -/
structure ChanState where
  debounce : Bool        -- the 200 ms insertion debounce runs (R657)
  openPend : Bool        -- request cleared; the switch opens 100 µs later (R663)
  discharge : Bool       -- the 1.0 A sink is on (R663)
  perstPend : Bool       -- SL_PGOOD asserted; SL_PERST_N deasserts 100 ms later (R659)
  lastPwr : Nat          -- code last driven on SL_PWRIND[n] (R662)
  lastAtn : Nat          -- code last driven on SL_ATNIND[n] (R662)
  tripTicks : List Nat   -- model-clock ticks of the trips in the last 10 minutes (R668)
  deriving DecidableEq, Repr

/-! ## Starts, resets and the binding journal (CLK) -/

/-- Where the start chain stands (Table 15-2). -/
inductive Phase where
  | off          -- standby domain unpowered
  | boot         -- standby domain up; boot ROM to run (R524)
  | ledgerHold   -- waiting in Standby for a reclaimable ledger block (Table 13-9)
  | recovery     -- no bootable slot (R543)
  | keyed        -- KEY entry written, BOOT entry not yet (R525)
  | released     -- BOOT entry written, main domain released; restore to run (R608)
  | restored     -- journal restored; MOD_READY not yet asserted
  | ready        -- MOD_READY asserted
  | standby      -- commanded Standby or MRST_N low (R599, R601)
  deriving DecidableEq, Repr

/-- A start that has been asked for and has not begun: kind and trigger codes of Table 13-6, fault source. -/
structure StartReq where
  kind : Nat
  trigger : Nat
  source : Nat
  deriving DecidableEq, Repr

/-- One record of the binding journal (R106 to R109, R608, R710). The manual leaves the record kinds and payload
layout to Acrak; the model keeps each record as typed data. -/
inductive JRec where
  | field (key : Nat) (v : Nat)                     -- a RWS or RWL field (R608 step 3)
  | bayWidth (b : Nat) (w : Nat)
  | serial (p : Nat) (sn : Nat)                     -- serial number and capacity of R48
  | vppb (u v : Nat) (bind : Option (Nat × Nat))     -- binding of vPPB v of VCS u to a port and LD (R89)
  | ldCreate (ld : Nat)
  | ldDestroy (ld : Nat)
  | table (tid : Nat) (words : List (Nat × List (BitVec 8)))   -- committed 8-byte words of a table, by offset (R713)
  | group (g : Nat) (tag : List (BitVec 8)) (members : List Nat)
  | run (first count : Nat) (entry : Nat)            -- a run of extents whose PAGE rises by one (R83, R106)
  | reloc (id : Nat) (extent : Nat) (dst : Nat) (copyOf : Option (Nat × Nat))   -- an open relocation (R109); the pair and copy it replaces
  | relocEnd (id : Nat)
  | allot (u : Nat) (vfs : List Nat)
  | mcAllot (u : Nat) (mask : Nat)
  | twin (enabled suspended : Bool) (partner : Option TwinId)
  | twinGroup (g : Nat) (on : Bool)
  | lock (on : Bool)
  | mgmtRoot (slot : Nat) (h : List (BitVec 8))
  | devRoot (slot : Nat) (h : List (BitVec 8))
  | archived (n : Nat)
  | retire (logical physical : Nat) (lost : Bool)
  | sramRow (bank row : Nat)
  | sramBank (bank spare : Nat)
  | pcFail (pcs : Nat)
  | clear (on : Bool)                                 -- JOURNAL_CLEAR's mark, set or withdrawn (R611)
  deriving DecidableEq, Repr

/-- The binding journal (R106 to R109, R608 to R611). -/
structure Journal where
  flash : List JRec        -- records programmed, oldest first
  buf : List JRec          -- the standby-domain buffer, oldest first, 32 B a record
  bad : Option Nat         -- the first record that failed its check when this start read it (R609)
  deriving DecidableEq, Repr

/-- Start chain and reset distribution. -/
structure Clk where
  phase : Phase
  startPend : Option StartReq
  warm : Bool               -- the start in progress is WARM
  startTick : Nat           -- cycle of its trigger
  mrstLow : Bool            -- MRST_N is low
  commanded : Bool          -- Standby was commanded (R601)
  bootWritten : Bool        -- the BOOT entry of this start is written (R592)
  lockApplied : Bool        -- the configuration lock is re-applied (R592)
  startRecord : Bool        -- START record written (R592)
  checkpointed : Bool       -- first checkpoint written (R592)
  rootPll : Bool            -- root PLL locked (R36)
  modReady : Bool           -- the MOD_READY land
  thermN : Bool             -- THERM_N asserted
  gated : Bool              -- main-domain clocks gated by a thermal trip (R706)
  deriving DecidableEq, Repr

/-! ## Command processor (CMD) -/

/-- A request that a transport has queued (R467, R470). -/
structure Queued where
  req : Requester
  session : Option Nat
  pkt : Bytes
  seq : Nat                 -- SEQ of its COMMAND record
  deriving DecidableEq, Repr

/-- What Acrak takes next as one unit: a single command or an ended chain (R470). -/
structure Job where
  cmds : List Queued
  urgent : Bool
  deriving DecidableEq, Repr

/-- An open chain of one requester and CONTEXT (R470, R471). -/
structure Chain where
  req : Requester
  context : Nat
  cmds : List Queued
  deriving DecidableEq, Repr

/-- A background command in progress (R472, R473). `result` is set once its work has ended. -/
structure Background where
  id : Nat
  req : Requester
  session : Option Nat
  opcode : Nat
  tag : Nat
  context : Nat
  seq : Nat
  params : Bytes
  journaled : Bool                      -- progress is in the binding journal (R478)
  result : Option (Nat × Bytes)
  dropped : Bool                        -- its transport is lost; the event stays for CMD_STATUS (R485)
  deriving DecidableEq, Repr

/-- A kept background outcome (R474). -/
structure Kept where
  req : Requester
  tag : Nat
  context : Nat
  opcode : Nat
  status : Nat
  deriving DecidableEq, Repr

/-- The management PF mailbox (R465, R466, Table 11-4). -/
structure Mailbox where
  intEn : Bool
  busy : Bool
  done : Bool
  evtLost : Bool
  reqLen : Nat
  reqBuf : Bytes
  rsp : Option Bytes
  evt : Option Bytes
  held : List Bytes
  deriving DecidableEq, Repr

/-- Command processor. -/
structure Cmd where
  jobs : List Job                       -- queued, oldest first
  chains : List Chain
  lastReq : Option Requester            -- last requester served, for the rotation of R468
  bg : List Background
  nextBg : Nat
  kept : List Kept                      -- newest first, at most 256
  mbx : Mailbox
  subs : List (Requester × Nat)         -- FAULT_SUBSCRIBE enrolments with their minimum class (R506)
  heldNotify : List (Requester × Bytes) -- notifications held during CORE_FAILOVER (R506)
  cores : List Bool                     -- which of the three command cores are healthy (R513)
  pair : List Nat                       -- cores of the lockstep pair (one without lockstep)
  failover : Option Nat                 -- CORE_FAILOVER in progress: the failed core (R513)
  fmBackground : Option (Nat × Nat)      -- FM API background operation: opcode and return code (R484)
  deriving DecidableEq, Repr

/-! ## Hallmark (HLM) -/

/-- What a firmware slot holds (R522, R523, R543). -/
structure FwSlot where
  factory : Bool                        -- holds the image programmed at manufacture, whose bytes the manual does not give
  image : SMap (BitVec 8)               -- programmed bytes; unprogrammed flash reads 0xFF
  written : Nat                         -- end of the last FW_UPDATE_WRITE
  valid : Bool
  imageVer : Nat
  svn : Nat
  keyIndex : Nat
  revoke : Nat
  deriving DecidableEq, Repr

/-- A ledger entry that has been formed and not programmed (R530, R538): KIND and further FLAGS, CAUSE, ASSAY area, TIME, QUALITY,
boot counter, configuration digest. -/
structure LedgerReq where
  kind : Nat
  flags : Nat
  cause : Bytes
  area : Bytes
  time : Nat
  quality : Nat
  boot : Nat
  config : Bytes
  deriving DecidableEq, Repr

/-- An occasion of Table 13-8 whose entry is not yet formed: KIND, further FLAGS, CAUSE, ASSAY area, and the TIME where it is not that of
forming (R567). -/
structure Occasion where
  kind : Nat
  flags : Nat
  cause : Bytes
  area : Bytes
  time : Option Nat
  deriving DecidableEq, Repr

/-- An open SPDM session (R462, R542). -/
structure Session where
  id : Nat
  link : SpdmLink
  opened : Bool                         -- FINISH has been accepted
  leaf : Bytes                          -- the requester's leaf certificate, empty without mutual authentication
  admin : Bool                          -- authenticated against a management root
  factory : Bool                        -- opened in Touchstone on I3C or SMBus
  deriving DecidableEq, Repr

/-- One IDE stream's keys (R335, R548): which key set is in use and what was programmed. -/
structure IdeStream where
  keySet : Nat
  keys : List (Nat × Bytes)              -- key set, key
  rekeyTick : Nat
  deriving DecidableEq, Repr

/-- Hallmark. -/
structure Hlm where
  ledger : SMap Bytes                   -- written entries, 512 B each, by INDEX
  torn : List Nat                       -- indices holding a torn entry (R535)
  due : List Occasion                   -- oldest first
  pend : List LedgerReq                 -- pending queue under HOLD (R538)
  dropped : Nat                         -- entries dropped under R538 and not yet reported
  gapLost : Option (Nat × Nat × Bytes)   -- block erased unarchived: first, last index, hash (R537)
  lowCrossed : Bool                     -- below the LEDGER_LOW mark (R536)
  slots : List FwSlot                   -- slot A, slot B
  committed : Nat                       -- committed slot
  target : Option Nat                   -- slot that FW_UPDATE_START erased last
  trialSlot : Option Nat                -- slot on trial
  trialBegun : Bool                     -- the trial boot has begun (R544)
  trialNext : Option Nat                -- slot that FW_ACTIVATE marked during another slot's trial
  reverted : Bool                       -- this start reverted the trial
  verifying : Option (Nat × Nat)         -- FW_UPDATE_VERIFY: background id, slot
  aliasPub : Bytes                      -- alias public key, SEC1 uncompressed (R528)
  keyId : Bytes                         -- its identifier (R529)
  assays : List Bytes                   -- ASSAY[0..4] of the running boot
  mgmtRoots : List Bytes                -- two hashes, 48 zero bytes when empty (R547)
  devRoots : List Bytes                 -- four hashes
  sessions : List Session
  nextSession : Nat
  ide : SMap IdeStream                  -- streams by 8 × port + stream (R335)
  migKeys : List (Nat × Nat × Bytes)     -- migration keys by host PF, key ID (R224)
  touchExit : Bool                      -- this COLD start left Touchstone (R549)
  deriving DecidableEq, Repr

/-! ## Fault collector (FLT) -/

/-- An event that waits for acceptance (R490). -/
structure FltEvent where
  src : Nat
  cls : Nat
  evt : Nat
  ctx : Bytes                           -- context bytes 24–31
  syn : Bytes                           -- syndrome bytes 17–23
  injected : Bool
  tick : Nat                            -- cycle of detection
  count : Nat                           -- identical events it stands for (pending repeat count)
  openOp : Bool                         -- one of the walks whose events count in one record (R493)
  ended : Bool                          -- that walk has ended since
  deriving DecidableEq, Repr

/-- A fault record (Table 12-1); TIME is the counter in units of 2^-48 ns. -/
structure FltRec where
  time : Nat
  src : Nat
  cls : Nat
  quality : Nat
  promoted : Bool
  injected : Bool
  repeats : Nat
  evt : Nat
  syn : Bytes
  ctx : Bytes
  tick : Nat
  openOp : Bool
  deriving DecidableEq, Repr

/-- A reversible Quench action in force (Table 12-3): FENCE_LD, ISOLATE_PORT, HOLD_TRAFFIC, ASSERT_FAULT_N. -/
inductive Hold where
  | fenceLd (ld : Nat)
  | isolate (p : Nat)
  | holdTraffic (p : Nat)
  | faultN
  deriving DecidableEq, Repr

/-- States of a Quench slot (R500). -/
inductive QState where
  | observe | grace | quenched | settled
  deriving DecidableEq, Repr

/-- A Quench slot (R500): state, matched entry, timers, counts, the reversible actions it holds. -/
structure QSlot where
  src : Nat
  state : QState
  entry : Nat
  graceTick : Nat                       -- cycle at which the grace timer was loaded
  esc : Nat
  promo : Nat                           -- promotion count, 0 when none runs
  holds : List Hold
  age : Nat                             -- allocation order, for R502
  deriving DecidableEq, Repr

/-- A fault dump (Table 12-6, Table 12-14) as the flush has it. -/
structure Dump where
  trigger : FltRec
  boot : Nat
  after : Nat                           -- FATAL events after the trigger
  sizes : List Nat
  sections : List Bytes                 -- sections 1 to 4
  ended : Bool                          -- header bytes 12–15 and 48–111 are programmed
  complete : Bool
  deriving DecidableEq, Repr

/-- A running fatal flush (R510, R511). -/
structure Flush where
  trigger : FltRec
  waits : Bool                          -- waits for the release erase to end
  noMain : Bool                         -- the main domain was or went down; ends incomplete
  injected : Bool
  thenReset : Option StartReq           -- the reset that follows its end (R508)
  deriving DecidableEq, Repr

/-- An injection in progress (R517). -/
structure Injection where
  kind : Nat
  left : Nat
  delay : Nat
  arg : Bytes
  deriving DecidableEq, Repr

/-- Fault collector. -/
structure Flt where
  waiting : List FltEvent
  hist : SMap FltRec                    -- ring of 64, by index
  counts : SMap Nat                     -- FLT_CNT[id]
  slots : SMap QSlot                    -- 256 Quench slots, by index
  nextAge : Nat
  slotless : List (Nat × Hold)           -- actions run without a slot (R502), with their source
  safeSlices : Nat                      -- mask of slices whose granules are in the safe state (R507)
  safeMover : Bool
  safePorts : List Nat                  -- ports held by their own safe state
  safeFault : Bool                      -- a safe state holds FAULT_N, or has left it asserted until the main domain is up (R503, R505)
  flush : Option Flush
  dump : Option Dump                    -- what flash sections 0–4 hold
  lossSlot : Option Bytes               -- flash section 5: the 4 KiB history copy
  lossBuf : Option Bytes                -- the standby-domain buffer of R496
  erase : Option Nat                    -- release erase running, its background command (R511)
  inject : List Injection
  vaultInject : List (Nat × Nat)         -- VAULT_BITS injections: logical page, bit count (Table 12-9)
  hchkInject : List Nat                 -- HCHK injections: plane
  cplDropInject : List Nat              -- COMPLETION_DROP injections: port
  cplDropped : List (Nat × Nat)          -- the requests whose completion was swallowed: port, slot (CXL.io slots from 4,096)
  deriving DecidableEq, Repr

/-! ## Time unit (TIM) and Transcript recorder (REC) -/

/-- A master seen in Announce messages (R562). -/
structure Master where
  ident : Nat                           -- clockIdentity
  priority : Nat                        -- the best master clock algorithm's ordering value
  count : Nat                           -- Announce messages received from it
  steps : Nat                           -- stepsRemoved
  deriving DecidableEq, Repr

/-- Time unit; quality, state, source, offset, F are register fields. -/
structure Tim where
  counter : Nat                         -- units of 2^-48 ns
  oscillator : Bool                     -- runs from the standby oscillator (R561)
  lockedOnce : Bool                     -- a lock has happened in this boot
  secondsKnown : Bool                   -- seconds known for PPS (R564)
  shadow : Int                          -- shadow counter less counter, units of 2^-48 ns (R563)
  good : Nat                            -- consecutive measurements within LOCK_NS
  bad : Nat                             -- consecutive measurements beyond 4 × LOCK_NS
  slewing : Bool
  pathDelay : Int                       -- last measured path delay, units of 2^-48 ns
  shadowSet : Bool                      -- the shadow counter has been set to master time (Table 14-6 step 5)
  anchor : Option (Nat × Nat × Nat)      -- anchor signalled and not yet written: TIME record kind, value before, value after
  masters : List Master
  master : Option Master
  domain : Nat
  ipv4 : Nat
  mask : Nat
  gateway : Nat
  ethMode : Bool                        -- strap: SGMII
  mgtAddr : Nat                         -- strap MGT_ADDR[2:0]
  ppsDiscard : Bool                     -- PPS measurement discarded for this second (Table 14-9)
  ppsOut : Bool                         -- PPS_OUT driven high in this second (R565)
  deriving DecidableEq, Repr

/-- A Transcript record (Tables 14-5 and 14-7). -/
structure TRec where
  typ : Nat
  flags : Nat
  seq : Nat
  time : Nat
  quality : Nat
  epoch : Nat
  boot : Nat
  payload : Bytes
  bad : Bool                            -- lies in an uncorrectable vault page (R577)
  deriving DecidableEq, Repr

/-- An on-device replay (R580 to R583). -/
structure Replay where
  bgId : Nat
  first : Nat
  last : Nat
  done : Nat
  commits : Nat
  deriving DecidableEq, Repr

/-- Transcript recorder. -/
structure Rec where
  next : Nat                            -- next SEQ
  oldest : Nat
  records : List TRec                   -- newest first
  bytes : Nat                           -- bytes the held records occupy in the ring
  chain : Bytes                         -- 48-byte chain value (R573)
  frozen : Option Nat                   -- first protected SEQ (R578)
  replay : Option Replay
  lastReplay : Option (Nat × Nat × Nat × Nat)   -- divergence kind, records done, commits, divergence SEQ
  bufBytes : Nat                        -- bytes waiting for the vault, at most 256 KiB (R576)
  gapFrom : Option Nat                  -- SEQ at which recording stopped
  gapCount : Nat                        -- inputs missed since
  gapCause : Nat
  checkpoint : Option Nat               -- SEQ of the newest complete checkpoint
  deriving DecidableEq, Repr

/-! ## Test access port (MGT) -/

/-- The JTAG TAP (R693). -/
structure Jtag where
  boundary : Bytes                      -- boundary-scan cells last preloaded
  driving : Bool                        -- EXTEST, EXTEST_PULSE, EXTEST_TRAIN or CLAMP drives the lands
  highz : Bool
  deriving DecidableEq, Repr

end Sys2Proof.Machine
end

