-- ==== Sys2Proof/Machine/TypesData.lean ====
section
/-! DEFINITION. The internal state of the data-path subsystems that no register field holds: committed tables and
the commit engine, pool manager, coherence home, ports, Mover, fabric core, scheduler, lanes, Seam, vault. Plain data. -/

namespace Sys2Proof.Machine

/-! ## Committed tables and the commit engine (R17 to R30) -/

/-- One committed table: two banks of bytes with their tags (R18, R23). `former` says that the shadow holds the former
active bank, read-only until refilled. -/
structure TableSt where
  active : SMap (BitVec 8)
  shadow : SMap (BitVec 8)
  tag : Nat
  formerTag : Nat
  former : Bool
  deriving DecidableEq, Repr

/-- What follows a module commit once every affected pipeline has switched. -/
inductive After where
  | nothing
  | grant (id : Nat)                     -- Add Capacity events (Table 2-8 step 5)
  | release (id : Nat)                   -- Table 2-9 step 4
  | relocStart (batch : Nat)             -- R94: the descriptors are posted
  | relocEnd (batch : Nat)               -- R98
  | relocAbort (extents : List Nat)      -- Table 2-11
  | hdm (u : Nat) (decoders : List Nat)   -- Committed is set in decoders 4k + d (R57)
  | route (u : Nat) (tag : Nat)           -- the configuration write's completion (R319)
  | portReset (u : Nat)                  -- empty HBR routing committed (R333, R598)
  | bind (id : Nat)                      -- a binding change (R89)
  | bg (id : Nat) (reply : List (BitVec 8))  -- a background command ends with SUCCESS
  deriving DecidableEq, Repr

/-- An accepted commit that some pipeline has not switched to yet (R20, R25, R26). -/
structure PendCommit where
  epoch : Nat
  tables : List Nat
  waiting : List Pipeline       -- not yet switched
  after : After
  deriving DecidableEq, Repr

/-- A module commit that waits for a writable shadow or for the epoch window (R23, R27). -/
structure ModCommit where
  id : Nat
  origin : Nat                  -- Table 14-7: 0 Acrak, 1 Quench, 2 host configuration
  writes : List (Nat × Nat × Bytes)   -- table, offset, bytes
  extents : List (Nat × Nat)     -- change list: extent index, entry
  after : After
  deriving DecidableEq, Repr

/-- A command whose answer waits (R25: a COMMIT whose pipelines have not all switched; R217: MOV_FN_RESET). -/
inductive WaitFor where
  | commit (epoch : Nat) (own : Bool)      -- the pipelines of an accepted commit; `own`: a COMMIT command's, whose response carries the epoch
  | fnReset (fn : Nat)
  | modCommit (id : Nat)
  | relay (id : Nat)
  deriving DecidableEq, Repr

/-- A foreground command that has executed and not answered yet, with the rest of its chain. -/
structure Waiting where
  req : Requester
  session : Option Nat
  opcode : Nat
  tag : Nat
  context : Nat
  seq : Nat
  what : WaitFor
  rest : List Queued
  dropped : Bool                -- its transport is lost; no response is sent (R485)
  deriving DecidableEq, Repr

/-- Commit engine and tables. -/
structure Tbl where
  epoch : Nat                   -- the global epoch (R19)
  tables : SMap TableSt          -- by table ID (Table 11-5)
  pend : List PendCommit         -- oldest first
  held : List Pipeline           -- pipelines that take no further message (R26)
  modq : List ModCommit          -- module commits waiting, oldest first
  nextMod : Nat
  recent : List (Nat × List Nat × Bytes)   -- last 256 commit records: epoch, tables, digest
  waits : List Waiting
  deriving DecidableEq, Repr

/-! ## Pool manager (POL) -/

/-- A POOL device behind a DSP (R44 to R48). -/
structure PoolDev where
  serial : Nat
  pages : Nat                   -- capacity used, in 2 MiB pages
  known : Bool                  -- a serial number is recorded
  acrakFail : Bool              -- the device failed R44 (R47)
  deriving DecidableEq, Repr

/-- A relocation in a slot (R94 to R103). -/
structure Reloc where
  ctx : Option Nat               -- the Mover context that runs its descriptor
  aborting : Bool                -- its abort commit is under way
  slot : Nat
  extent : Nat
  origEntry : Nat               -- the extent's entry before the start commit
  origPair : Option (Nat × Nat)  -- mirrored source: pair index, copy that is replaced (R100)
  dstCopy : Nat                 -- destination copy word
  srcCopy : Nat                 -- source copy word
  dstEntry : Nat                -- the entry after the end commit
  written : List Nat            -- lines whose written bit is set (R95)
  poison : List Nat             -- lines whose poison bit is set (R96)
  staged : SMap (List (BitVec 8))   -- staging area: lines read in leg 1, by line of the extent
  leg : Nat                     -- 0 not begun, 1, 2, 3 descriptor complete, 4 end commit under way
  bgId : Nat
  batch : Nat
  freeAt : Option Nat           -- end commit's epoch; the slot frees when no earlier stamp remains (R99)
  deriving DecidableEq, Repr

/-- One relocation of a command's list, not yet started. -/
structure RelocItem where
  extent : Nat
  copy : Option Nat             -- copy to replace of a mirrored extent
  target : Nat
  il : Bool
  page : Nat
  deriving DecidableEq, Repr

/-- A RELOCATE_START or MIRROR_RESYNC in progress (R102). -/
structure RelocCmd where
  bgId : Nat
  todo : List RelocItem
  batches : Nat
  batchesDone : Nat
  moved : Nat
  aborted : Nat
  current : Option Nat          -- the batch running
  deriving DecidableEq, Repr

/-- A grant whose extents are being filled (Table 2-8). -/
structure Grant where
  id : Nat
  bgId : Option Nat
  lds : List Nat                -- receiving LDs
  entries : List (Nat × Nat)     -- extent index, entry
  fills : Nat                   -- fills not yet complete
  mod : Option Nat              -- module commit under way
  offered : Bool                -- Add Capacity sent; a host's response is awaited (Table 2-8 step 6)
  deriving DecidableEq, Repr

/-- A release or membership change in progress (Table 2-9, R59, R92). -/
structure Release where
  id : Nat
  bgId : Option Nat
  ld : Nat
  extents : List Nat            -- private extents to invalidate
  waitHost : Bool               -- release asked of the host, not answered (R88)
  destroy : Bool                -- LD_DESTROY with FORCE (R92)
  leavers : List (Nat × Nat)     -- LD and group of each membership that ends
  joiners : List (Nat × Nat)     -- LD and group of each membership that begins
  asked : Nat × Nat              -- first extent and count of the release request
  deriving DecidableEq, Repr

/-- A bind, unbind, LD_CREATE or LD_DESTROY queued on a USP (R93). -/
structure BindOp where
  usp : Nat
  bgId : Nat
  opcode : Nat
  params : Bytes
  managed : Bool                -- managed hot remove waiting for slot power off (R90)
  linkDown : Bool               -- waiting for link down (R90)
  started : Bool                -- it is the one that runs (R93)
  deriving DecidableEq, Repr

/-- A request in a port's miss hold (R67, R68). -/
structure MissHold where
  port : Nat
  slot : Nat
  usp : Nat
  req : MemReq
  ld : Nat
  dpa : Nat
  extent : Nat
  pair : Option Nat             -- waits for this mirror pair; otherwise for the extent's entry
  stamp : Nat
  deriving DecidableEq, Repr

/-- Pool manager. -/
structure Pol where
  map : SMap Nat                 -- extent map, 64-bit entries by extent index; unlisted reads 0 (R63)
  retained : List (Nat × Nat × Nat)   -- R79: epoch of the commit, extent index, former value
  staged : List (Nat × Nat)      -- change list staged and not yet committed (R81)
  lds : List Nat                 -- LDs created, index 16u + k
  groupTags : SMap Bytes         -- DCD tags of share groups
  devices : SMap PoolDev
  startHold : Bool               -- the start-up hold runs (R110)
  held : List MissHold           -- requests held by R110
  relocs : List Reloc
  relocCmds : List RelocCmd
  nextBatch : Nat
  abortBg : Option Nat           -- RELOCATE_ABORT in progress
  grants : List Grant
  releases : List Release
  nextId : Nat
  bindOps : List BindOp
  mapCache : SMap (List Nat)      -- extent-map cache: indices per set of 16 ways (R66)
  pairCache : SMap (List Nat)     -- mirror-pair cache: 2 × pair + bank per set (R68)
  misses : List MissHold
  badPages : List (Nat × Bool)    -- map pages with both vault copies bad (R105): page, pair table
  deriving DecidableEq, Repr

/-! ## Coherence home (DIR) -/

/-- States of a directory entry (Table 3-1). -/
inductive DState where
  | i | s | e | snpO | snpV | evict | fill
  deriving DecidableEq, Repr

/-- A directory entry (Table 3-1); `stable` is the state it had before a transaction began (R130). -/
structure DirEntry where
  tag : Nat
  state : DState
  stable : DState
  pinned : Bool
  poisoned : Bool
  owner : Nat                    -- port index, 0x40 for the twin partner
  sharers : Nat                  -- bit u for port u
  twin : Bool
  age : Nat
  deriving DecidableEq, Repr

/-- Request categories (Table 3-3). -/
inductive Cat where
  | rdS | rdO | rdNc | invO | wr | wb | atom | relocWr
  deriving DecidableEq, Repr

/-- How a home request holds its tracker entry (R124, R125). -/
inductive Track where
  | none | write | reserved | shared
  deriving DecidableEq, Repr

/-- A request at a home slice. `src` is its attachment index (Table 1-2); `usp` the requesting USP port, 0x40 the twin
partner, none for the Mover and the command processor. -/
structure HomeReq where
  src : Nat
  usp : Option Nat
  line : Nat
  op : MemOp
  snp : Snp
  mval : Option Meta
  tag : Nat
  data : Bytes
  mask : BitVec 64
  poison : Bool
  atom : Option AtomReq
  ctx : Option Nat               -- Mover context
  relocSlot : Option Nat         -- relocation leg-2 write
  ld : Nat
  entry : Nat                    -- extent map entry of its lookup
  stamp : Nat
  track : Track
  owned : Bool := false          -- a write that came while the directory recorded its USP as the line's owner (R141)
  deriving DecidableEq, Repr

/-- An access to a device copy that a transaction waits for. -/
structure DevAcc where
  port : Nat                     -- target index (R51)
  copy : Nat                     -- 0 or 1
  isRead : Bool
  second : Bool                  -- re-read of R74 or R76
  deriving DecidableEq, Repr

/-- An active transaction (R123, R144, R151). -/
structure Txn where
  req : HomeReq
  cat : Cat
  way : Option Nat               -- directory way it holds
  snoops : Nat                   -- ports whose response is outstanding (mask)
  twinSnoop : Bool               -- the twin partner's response is outstanding
  ownerSnoop : Option Nat        -- the owner a snoop went to
  rspS : Bool                    -- the owner answered BIRspS
  accs : List DevAcc
  data : Option Bytes            -- latest data for the requester
  poison : Bool                  -- that data is poisoned
  wback : Bool                   -- a write-back supplied it
  heldData : Option (Bytes × BitVec 64 × Option Meta)   -- a write held in the data buffer (Table 3-5)
  answered : Bool                -- the requester's completion is sent
  wrote : Bool                   -- the memory writes are issued
  needData : Bool                -- waits for read data
  original : Bytes               -- atomic: original value
  chainLeft : Nat                -- further atomics the chain may take (R158)
  chained : List (HomeReq × Bytes)   -- atomics executed in the chain with their originals
  failed : Bool                  -- an atomic that is refused
  lostOwner : Bool               -- the owner was lost or did not answer: the line's contents are lost (R163, R168)
  badCopy : Option Nat           -- copy to rewrite after R74's second read
  poisonLine : Bool              -- the line's entry was I with POISONED set (R161)
  row : Nat                      -- the row of Table 2-3 it is answered under
  granted : Option Meta          -- what the home of a line of the partner's half granted (R403)
  cmpTo : Option (Nat × Nat)      -- the owner whose write-back has been taken, and its tag
  deriving DecidableEq, Repr

/-- An eviction-buffer entry (R138). -/
structure Evict where
  line : Nat
  owner : Option Nat
  snoops : Nat
  twinSnoop : Bool
  entry : Nat
  stamp : Nat
  accs : List DevAcc
  data : Option Bytes
  twin : Option Snp              -- the home snoop of a line of the partner's half that it serves (R403)
  rsp : Option BiRsp             -- the owner's response
  flush : Bool                   -- a flush of DIR_RANGE_FLUSH, a release or R170, not a victim
  asked : Nat                    -- ports asked to give the line up (mask)
  askedTwin : Bool
  lostOwner : Bool               -- the owner was lost or did not answer
  op : Nat                       -- the operation it belongs to
  deriving DecidableEq, Repr

/-- One home slice. -/
structure SliceSt where
  srcQ : List HomeReq            -- source queues, oldest first over all sources
  retry : List HomeReq
  txns : List Txn
  lineQ : List HomeReq           -- requests waiting for a locked line, in admission order
  evb : List Evict
  cached : List Nat              -- cached directory pages, most recently used first (R133)
  dirty : List Nat               -- dirty pages, most recently used first (R134)
  missing : List (Nat × HomeReq)  -- directory page being read (R136)
  heldWb : List HomeReq          -- owners' writes held for a transaction that has not snooped yet (Table 3-5)
  heldStamp : Option Nat         -- home map hold: epoch of the commit (R120)
  cnt : List Nat                 -- counters of Table 3-12 for this slice
  deriving DecidableEq, Repr

/-- A directory walk (R164, R165, R170, R175). -/
structure Walk where
  ports : Nat                    -- ports covered by this walk (mask)
  twin : Bool
  late : Nat                     -- ports that joined during the walk
  lateTwin : Bool
  extra : Bool
  deriving DecidableEq, Repr

/-- An operation that takes lines back from their holders: DIR_RANGE_FLUSH, step 2 of a release, R170. -/
structure FlushOp where
  op : Nat
  ranges : List (Nat × Nat)       -- first line, number of lines
  usp : Option Nat               -- toward this USP only
  bgId : Option Nat              -- the command it ends
  release : Option Nat           -- the release it serves
  page : Option Nat              -- R170: the directory page
  twin : Bool                    -- the flush of TWIN_DISABLE (R408)
  deriving DecidableEq, Repr

/-- Coherence home. -/
structure Dir where
  entries : SMap DirEntry         -- by 16 × set + way; unlisted is a free way
  slices : SMap SliceSt
  walk : Option Walk
  flushes : List FlushOp
  nextOp : Nat
  deriving DecidableEq, Repr

/-! ## Ports (PRT) -/

/-- Who waits for a completion of a module-originated request (R324, R325). -/
inductive SlotUser where
  | home (slice line copy : Nat)
  | evict (slice line copy : Nat)
  | mover (ctx addr : Nat)
  | acrak (what : Nat)
  | relay (stream tag : Nat)      -- a request relayed for the twin partner (R403)
  deriving DecidableEq, Repr

/-- An access to a device copy: what is sent, and who waits for it. -/
structure DevReq where
  port : Nat                     -- target index (R51)
  user : SlotUser
  dpa : Nat
  isRead : Bool
  data : Bytes
  mask : BitVec 64
  mta : Option Meta
  poison : Bool
  deriving DecidableEq, Repr

/-- One tag slot (R325): generation, use, quarantine. -/
structure TagSlot where
  gen : Nat
  user : Option SlotUser
  quar : Bool
  dpa : Nat
  isRead : Bool
  deriving DecidableEq, Repr

/-- Why a port withholds receive credits. -/
inductive Withhold where
  | memMiss | startHold | lostMask | quench | pipeline | ide | polFull | homeQueue | notReady | reserve
  deriving DecidableEq, Repr

/-- A test that LANE_TEST started (R368, R369). -/
structure LaneTest where
  mode : Nat
  pattern : Nat
  rate : Nat
  user : Nat
  deriving DecidableEq, Repr

/-- A port's link layer and protocol state beside its register fields. -/
structure PortSt where
  up : Bool                      -- link in L0 (or L0p)
  disabledBy : List Nat          -- reasons the link is held in Disabled: 0 LINK_CTL, 1 Quench, 2 safe state, 3 DPC, 4 removal, 5 start, 6 pll
  withhold : List Withhold
  perst : Bool                   -- the PERST_N[p] land is high (deasserted)
  crs : Bool                     -- configuration requests get Retry Status (R598)
  l1 : Bool
  pmePend : List Nat             -- DSPs whose PME_TO_Ack is awaited (R604)
  memUp : Bool                   -- CXL.mem credits flow (R166)
  outReqs : List (Nat × Nat × Nat)   -- PASS: outstanding non-posted requests: kind (0 io, 1 mem), requester USP, tag
  ideInsecure : Bool
  lanesRev : Bool
  testMode : Option LaneTest      -- LANE_TEST running
  margin : Option Nat            -- LANE_MARGIN running, its background command
  hostMargin : List Nat          -- port lanes a host is margining
  trainPend : Bool               -- training has been asked for
  deriving DecidableEq, Repr

/-- Binding of a bindable vPPB (R89): port and LD of an MLD. -/
structure Bind where
  port : Nat
  ldId : Option Nat
  deriving DecidableEq, Repr

/-- The AER status of a function: Uncorrectable and Correctable Error Status, Header Log (R330). -/
structure AerSt where
  unc : Nat
  cor : Nat
  hdr : Nat
  deriving DecidableEq, Repr

/-- Ports and hierarchies. -/
structure Prt where
  ports : SMap PortSt
  memSlots : SMap TagSlot         -- by 4096 × port + slot
  ioSlots : SMap TagSlot          -- by 1024 × port + slot
  issueQ : List DevReq            -- accesses that wait for a free CXL.mem slot, oldest first (R329)
  binds : SMap Bind               -- by 32 × USP + vPPB
  cfg : SMap (BitVec 8)           -- configuration space bytes that differ from their reset value, by function × 4096 + offset
  dpc : List Nat                  -- vPPBs (32 × USP + vPPB) in containment (R331)
  aer : SMap AerSt                -- AER status by function
  hdm : SMap (Bool × Bool)        -- Committed and Error Not Committed of decoders, by 64 × USP + 4k + d
  slotStat : SMap Nat             -- Slot Status change bits of bindable vPPBs, by 32 × USP + vPPB
  routes : List (Nat × Nat)       -- configuration writes whose completion waits for a routing commit: USP, tag
  mcAllot : SMap Nat              -- multicast groups allotted to a VCS (mask)
  deriving DecidableEq, Repr

/-! ## Mover (MOV) -/

/-- A submission ring of a function. -/
structure Sq where
  base : Nat
  en : Bool
  log2 : Nat
  head : Nat
  tail : Nat
  fetchErr : Bool
  dbErr : Bool
  halted : Bool                  -- halted by R202 until EN is cleared and set again
  fetched : List (Nat × Bytes)    -- descriptors fetched and not opened: sequence, 64 bytes
  deriving DecidableEq, Repr

/-- One MSI-X vector. -/
structure Vec where
  addr : Nat
  data : Nat
  masked : Bool
  pba : Bool
  events : Nat                   -- events pending under coalescing (R213)
  deriving DecidableEq, Repr

/-- A VF administration entry (Table 4-9). -/
structure VfAdmin where
  weight : Nat
  wins : List (Nat × Nat × Nat × Bool)   -- HPA base, size, k, VALID
  deriving DecidableEq, Repr

/-- A Mover function: host PF (key 0x8000 + u) or VF (its global index). -/
structure FnSt where
  gen : Nat
  sqs : List Sq
  cqBase : Nat
  cqEn : Bool
  cqLog2 : Nat
  cqVector : Nat
  cqTail : Nat
  cqPhase : Bool
  cqHead : Nat
  cqDbErr : Bool
  cqReserved : Nat               -- CQ entries reserved for open descriptors
  coalCount : Nat
  coalTime : Nat
  errVector : Nat
  errReset : Bool
  freezing : Bool
  frozen : Bool
  flr : Bool                     -- reset in progress (R217)
  funcMask : Bool
  vecs : List Vec
  nextSq : Nat                   -- rotation of R201
  nextSeq : Nat                  -- descriptor sequence
  bytesMoved : Nat
  descDone : Nat
  pfWeight : Nat                 -- PF_CTL.WEIGHT
  migBusy : Bool                 -- of a host PF: a migration operation runs
  migResult : Nat                -- of a host PF: RESULT of the last operation
  migVf : Nat                    -- of a host PF: MIG_CTL.VF, OP, KEY_ID, MIG_ADDR
  migOp : Nat
  migKey : Nat
  migAddr : Nat
  deriving DecidableEq, Repr

/-- A request of a chunk whose answer is outstanding: the address its answer names (a pool line's address or a host address),
where its bytes lie in the descriptor's range, and how many. -/
structure ChAcc where
  key : Nat
  pool : Bool
  isRead : Bool
  off : Nat
  len : Nat
  deriving DecidableEq, Repr

/-- A context: one descriptor in execution (R195, R196). -/
structure Ctx where
  id : Nat
  fn : Nat                       -- function key; 0xFFFF the management PF
  gen : Nat
  sq : Nat
  seq : Nat
  desc : Bytes
  engine : Nat
  next : Nat                     -- bytes for which a chunk has been issued
  chunks : List (Nat × Nat)       -- chunks in flight: offset, length
  accs : List ChAcc              -- requests outstanding
  fail : Option (Nat × Nat)       -- the first failing chunk's offset and its status (Table 4-7)
  result : Nat                   -- ATOMIC: original value
  squashed : Bool
  leg : Nat                      -- RELOCATE: 1 or 2, the leg that runs; otherwise 0
  shared : Bool                  -- took a shared context
  deriving DecidableEq, Repr

/-- Mover. -/
structure Mov where
  fns : SMap FnSt
  admin : SMap VfAdmin            -- by 1024 × USP + host-local index
  allot : SMap (List Nat)         -- global VF indices of each host PF
  numVfs : SMap Nat
  vfEnable : List Nat             -- USPs whose PF has VF Enable set
  ctxs : List Ctx
  nextCtx : Nat
  dh : SMap Nat                   -- engine × 128 + host (64 the management PF): deficit (R197)
  df : SMap Nat                   -- engine × 65536 + function: deficit
  cur : SMap Nat                  -- engine × 128 + host: current function
  curHost : SMap Nat              -- engine: host in service
  engBytes : SMap Nat
  mgmtBytes : Nat
  mig : SMap (Nat × Nat)          -- FREEZE started: by function, tick
  pfPend : List (Nat × Bytes)     -- management PF descriptors waiting for a context: id, bytes
  rsps : List (Nat × Nat × ChunkRsp)   -- answers of home slices to pooled accesses: context, address, answer
  deriving DecidableEq, Repr

/-! ## Fabric core (XBR) -/

/-- A message of the fabric: source and destination attachments, queue, byte count, ingots, epoch stamp; multicast group (64 is
a back-invalidate multicast); PBAR when its ordering barrier applies; drawn from headroom; a payload error was met; what the
output transmits; cut through, its ingots still to come (R262); its output discards it (R265, R269). -/
structure Msg where
  src : Nat
  dest : Nat
  q : Nat
  len : Nat
  ingots : Nat
  epoch : Nat
  mc : Option Nat
  pbar : Option Nat
  hr : Bool
  perr : Bool
  body : OutMsg
  ct : Bool := false
  gone : Bool := false
  deriving DecidableEq, Repr

/-- A cut-through TLP that its output transmits while ingots of it are still to come: its flow, the TLP, ended as nullified
(R264, R266). -/
structure Cut where
  flow : Nat
  msg : Msg
  nulled : Bool
  deriving DecidableEq, Repr

/-- An ingot an input retains until it is acknowledged (R249): the plane it went by, whether it is charged to the
reservation. -/
structure Ingot where
  hdr : IngotHdr
  plane : Nat
  resv : Bool
  deriving DecidableEq, Repr

/-- A back-invalidate multicast that waits for headroom (R260). -/
structure McWait where
  slice : Nat
  copies : List Msg
  deriving DecidableEq, Repr

/-- Fabric core. Keys: a flow is (78 × source + destination) × 8 + queue. -/
structure Xbr where
  resv : SMap (List Msg)          -- reservation FIFOs, by flow
  queues : SMap (List Msg)        -- promoted messages, by flow
  shared : SMap Nat               -- shared ingots held, by flow
  nextSeq : SMap Nat              -- next SEQ, by flow
  sentOff : SMap Nat              -- ingots of the head message already dispatched, by flow
  inflight : SMap (List Msg)      -- messages wholly dispatched and not released, by flow
  retained : List Ingot
  expect : SMap Nat               -- next SEQ an output releases, by flow
  stored : List IngotHdr          -- ingots an output holds ahead of a gap (R251)
  egress : SMap (List Msg)        -- messages released at an output, by 8 × output + queue
  posted : SMap Nat               -- Q5 messages entered, by 78 × source + destination (R268)
  postedOut : SMap Nat            -- Q5 messages transmitted, by 78 × source + destination
  headroom : SMap Nat             -- headroom ingots held, by 78 × slice + destination
  mcWaits : List McWait
  cuts : List Cut
  probes : List Nat               -- planes with a probe outstanding
  hdrErrs : SMap (List Nat)       -- ticks of a plane's header mismatches
  rotIn : SMap Nat                -- rotating pointer of an output over inputs, by 78 × plane + output
  rotOut : SMap Nat               -- rotating pointer of an input over outputs, by 78 × plane + input
  rotQ : SMap Nat                 -- queue of Q2 to Q7 an input requested last toward an output, by 78 × input + output
  headAt : SMap Nat               -- tick at which the present head of an egress queue became head
  headIn : SMap Nat               -- tick at which the present head of an input queue became head
  deriving DecidableEq, Repr

/-! ## Scheduler and telemetry (SCH) -/

/-- A telemetry record kept in the archive: its first 32 bytes, the samples of the interval, the 144-byte entries of queues that
were not idle throughout. -/
structure TelemRec where
  seq : Nat
  head : Bytes
  samples : Nat
  entries : SMap Bytes
  deriving DecidableEq, Repr

/-- A request held by a policer (R287). -/
structure Held where
  ld : Nat
  cost : Nat
  req : HomeReq
  deriving DecidableEq, Repr

/-- Scheduler. Keys: an egress queue is 8 × egress point + queue; tokens count tenths of a byte, an unlisted bucket is full. -/
structure Sch where
  deficits : SMap Nat             -- by egress queue
  rotor : SMap Nat                -- queue of Q2 to Q7 in service, by egress point
  shaper : SMap Int               -- by egress queue
  guard : SMap Int                -- by egress queue, Q0 and Q1
  policer : SMap Int              -- by LD
  holds : SMap (List Held)        -- hold FIFOs by USP
  hist : SMap Nat                 -- histogram bins above bin 0: (egress queue × 2 + kind) × 16 + bin
  maxDepth : SMap Nat
  maxDelay : SMap Nat
  charged : SMap Nat              -- bytes charged by egress queue in the interval
  samples : Nat
  cleared : Bool
  gap : Bool
  alert : SMap Nat                -- consecutive samples above the alert level, by egress queue
  alerted : List Nat              -- egress points that raised an alert in the interval
  archive : List TelemRec         -- newest first, ring of R296
  nextRec : Nat
  deriving DecidableEq, Repr

/-! ## Lanes (LNC) -/

/-- Lane state that no register field holds. -/
structure LaneSt where
  below16 : Nat                  -- consecutive FOM updates below 16 (R357)
  seen : Bool                    -- a FOM has been updated since link-up (R351)
  alerted : Bool                 -- the alert of R352 is raised for this link-up
  testOn : Bool                  -- a LANE_TEST runs on the lane
  lockTick : Option Nat          -- cycle at which its checker set PRBS lock (R370)
  compared : Nat                 -- PRBS bits compared by the test that ended last
  coeffs : Nat                   -- coefficients last requested of the partner
  deriving DecidableEq, Repr

/-- Lanes. -/
structure Lnc where
  lanes : SMap LaneSt
  margin : List (Nat × Nat)       -- LANE_MARGIN: background id, lane
  trained : SMap Nat              -- width a port's link trained at, before any L0p narrowing
  deriving DecidableEq, Repr

/-! ## Seam and twin (SEM) -/

/-- A Seam stream (R394 to R397). -/
structure Stream where
  unacked : List SeamFrame        -- frames sent and not acknowledged, oldest first
  nextF : Nat                     -- FSEQ of the next frame sent
  expectF : Nat                   -- FSEQ that is accepted next
  resends : Nat                   -- consecutive resends without progress
  onBundle : Option Nat           -- the bundle that carries it
  waiting : List (Nat × TwinMsg)   -- messages not yet framed, with their queue class, oldest first
  nakDue : Bool                   -- the next frame sent carries NAK
  nakSeen : Bool                  -- the other twin has sent NAK
  credits : List Nat              -- ingots that may be sent, by queue class
  owed : List Nat                 -- ingots whose credit has not been returned, by queue class
  crcTick : Option Nat            -- cycle of the last CRC event (one per millisecond)
  deriving DecidableEq, Repr

/-- A Seam bundle's detail beside its registers. -/
structure BundleSt where
  disabled : Bool
  spareTx : Option Nat            -- lane that the transmitter's spare carries
  adapt : SMap Nat                -- TX_REQ requests made, by lane
  deriving DecidableEq, Repr

/-- A request across the Seam that is not answered: who waits, whether it reads, target index (128 for the home of a line of the
other half), stream. -/
structure TwinAsk where
  user : SlotUser
  isRead : Bool
  port : Nat
  stream : Nat
  deriving DecidableEq, Repr

/-- A twin command in progress on this module: its background command where this module accepted it; TWIN_ENABLE or
TWIN_DISABLE; the directory flush of TWIN_DISABLE has ended. -/
structure TwinRun where
  bgId : Option Nat
  enable : Bool
  flushed : Bool
  deriving DecidableEq, Repr

/-- Seam and twin. -/
structure Sem where
  streams : SMap Stream
  bundles : SMap BundleSt
  partner : Option TwinId          -- what the other twin last told of itself
  lost : Bool                      -- the partner has been lost since this module's start
  inbox : List (Nat × Port × RelayReq)   -- device-side requests received and not yet relayed: stream, port, request
  asks : SMap TwinAsk              -- by tag
  snps : List (Nat × Snp)          -- home snoops that wait for their line: line, kind
  run : Option TwinRun
  relays : SMap (Requester × Nat × Nat)   -- commands relayed to the partner: requester, TAG, CONTEXT
  nextRelay : Nat
  deriving DecidableEq, Repr

/-! ## Vault (VLT) -/

/-- A logical page of the vault (R419 to R422): its formed bit, write sequence, data, bits in error in the stack, consecutive passes
in which Anneal corrected it. -/
structure VPage where
  formed : Bool
  wseq : Nat
  data : SMap (BitVec 8)
  errBits : Nat
  anneal : Nat
  deriving DecidableEq, Repr

/-- A Crucible buffer (R424): its page and the cycle of its last merge. -/
structure CruBuf where
  page : Nat
  tick : Nat
  deriving DecidableEq, Repr

/-- An SRAM bank (R444 to R447): rows replaced by spare rows, words with a correctable error by row, a copy to a spare bank runs,
times it has been replaced. -/
structure BankSt where
  sparedRows : List Nat
  correctable : SMap (List Nat)
  copying : Bool
  replaced : Nat
  deriving DecidableEq, Repr

/-- Vault and SRAM. -/
structure Vlt where
  pages : SMap VPage              -- by logical page
  crucible : List CruBuf          -- longest unmerged first, at most 256
  remaps : List (Nat × Nat × Bool)   -- retirements, newest first: logical page, physical page, LOST
  due : List (Nat × Bool)          -- pages to be retired: logical page, contents lost
  annealPos : Nat                 -- next logical page of the pass
  annealRunning : Bool
  banks : SMap BankSt
  flips : List (Nat × Nat × Nat × Nat)   -- injected SRAM bit flips not read yet: bank, row, word, bits
  corrTick : Option Nat           -- cycle of the last event of corrected pages (one per millisecond)
  sramTick : Option Nat           -- cycle of the last event of corrected words (one per millisecond)
  strengths : List Nat            -- STRENGTH of each region in force, by region ID
  deriving DecidableEq, Repr

end Sys2Proof.Machine
end

