-- ==== Sys2Proof/Machine/State.lean ====
section
/-! DEFINITION. The state of the block: everything the manual gives the module, the queue of waiting commands, and the
list of what the module has sent outside; the named reasons a step can stop; the state at reset. Plain data. -/

namespace Sys2Proof.Machine

/-- Slot bus and channels (SPC). -/
structure Spc where
  chans : SMap ChanState
  busTenthV : Nat               -- SLOT_BUS, 0.1 V
  uvOk : Bool                   -- the bus is above its undervoltage threshold (R650)
  ovOk : Bool                   -- the bus is below its overvoltage threshold
  deriving DecidableEq, Repr

/-- The state of the block. -/
structure State where
  pending : List Instr          -- commands that wait, first in first out
  out : List OutMsg             -- what the module has sent, newest first
  regs : SMap Nat               -- register fields that differ from their reset value, by `Field.key`
  tick : Nat                    -- KCLK cycles the idle step has counted
  fresh : Nat                   -- the model's own counter of free values (log 4)
  pfe : Pfe
  spc : Spc
  clk : Clk
  jnl : Journal
  cmd : Cmd
  hlm : Hlm
  flt : Flt
  tim : Tim
  trec : Rec
  jtag : Jtag
  tbl : Tbl
  pol : Pol
  dir : Dir
  prt : Prt
  mov : Mov
  xbr : Xbr
  sch : Sch
  lnc : Lnc
  sem : Sem
  vlt : Vlt
  deriving DecidableEq, Repr

/-- Why a step stops with a fault. No meaning of this model raises one: every error of the manual is a next state in which
the error is reported (safe). -/
inductive Fault where
  /-- Raised by nobody; it keeps the type of reasons closed and named (safe). -/
  | unreachable
  deriving DecidableEq, Repr

/-- Why a command is refused. -/
inductive Refusal where
  /-- Raised by an arm of `exec` that has no meaning yet (safe: no claim about that command can be proved). -/
  | notModelled (mnemonic : String)
  deriving DecidableEq, Repr

/-! ## Default values of sparse arrays -/

/-- A hash slot that holds nothing: 48 zero bytes. -/
def zeroHash : Bytes := List.replicate 48 0

/-- A slot channel at reset (chapter "Slot power channels and hot plug"). -/
def ChanState.dflt : ChanState :=
  { debounce := false, openPend := false, discharge := true, perstPend := false,
    lastPwr := 3, lastAtn := 3, tripTicks := [] }

/-- A Mover submission ring at reset (Table 4-8: LOG2_DEPTH 6). -/
def Sq.dflt : Sq :=
  { base := 0, en := false, log2 := 6, head := 0, tail := 0, fetchErr := false, dbErr := false, halted := false,
    fetched := [] }

/-- An MSI-X vector at reset: masked. -/
def Vec.dflt : Vec := { addr := 0, data := 0, masked := true, pba := false, events := 0 }

/-- A Mover function at reset (Table 4-8); a host PF has 16 vectors, a VF 4. -/
def FnSt.dflt (nvec : Nat) : FnSt :=
  { gen := 0, sqs := List.replicate 4 Sq.dflt, cqBase := 0, cqEn := false, cqLog2 := 6, cqVector := 0, cqTail := 0,
    cqPhase := true, cqHead := 0, cqDbErr := false, cqReserved := 0, coalCount := 0, coalTime := 0, errVector := 0,
    errReset := false, freezing := false, frozen := false, flr := false, funcMask := false,
    vecs := List.replicate nvec Vec.dflt, nextSq := 0, nextSeq := 0, bytesMoved := 0, descDone := 0, pfWeight := 1,
    migBusy := false, migResult := 0, migVf := 0, migOp := 0, migKey := 0, migAddr := 0 }

/-- A VF administration entry at reset (Table 4-9). -/
def VfAdmin.dflt : VfAdmin := { weight := 1, wins := List.replicate 4 (0, 0, 0, false) }

/-- A port whose link is down. -/
def PortSt.dflt : PortSt :=
  { up := false, disabledBy := [], withhold := [], perst := false, crs := true, l1 := false, pmePend := [],
    memUp := false, outReqs := [], ideInsecure := false, lanesRev := false, testMode := none, margin := none,
    hostMargin := [], trainPend := false }

/-- A function whose AER structure has logged nothing. -/
def AerSt.dflt : AerSt := { unc := 0, cor := 0, hdr := 0 }

/-- A free tag slot. -/
def TagSlot.dflt : TagSlot := { gen := 0, user := none, quar := false, dpa := 0, isRead := false }

/-- A home slice with nothing in it. -/
def SliceSt.dflt : SliceSt :=
  { srcQ := [], retry := [], txns := [], lineQ := [], evb := [], cached := [], dirty := [], missing := [],
    heldWb := [], heldStamp := none, cnt := List.replicate 12 0 }

/-- A free directory way. -/
def DirEntry.dflt : DirEntry :=
  { tag := 0, state := .i, stable := .i, pinned := false, poisoned := false, owner := 0, sharers := 0, twin := false, age := 0 }

/-- A committed table at reset: both banks at their default contents, tag 0x0000 (R19). -/
def TableSt.dflt : TableSt := { active := [], shadow := [], tag := 0, formerTag := 0, former := false }

/-- A lane at reset. -/
def LaneSt.dflt : LaneSt :=
  { below16 := 0, seen := false, alerted := false, testOn := false, lockTick := none, compared := 0, coeffs := 0 }

/-- A Seam stream at reset. -/
def Stream.dflt : Stream :=
  { unacked := [], nextF := 0, expectF := 0, resends := 0, onBundle := none, waiting := [], nakDue := false, nakSeen := false,
    credits := List.replicate 8 128, owed := List.replicate 8 0, crcTick := none }

/-- A Seam bundle at reset. -/
def BundleSt.dflt : BundleSt := { disabled := false, spareTx := none, adapt := [] }

/-- A vault page that nothing has formed (R420). -/
def VPage.dflt : VPage := { formed := false, wseq := 0, data := [], errBits := 0, anneal := 0 }

/-- An SRAM bank at reset. -/
def BankSt.dflt : BankSt := { sparedRows := [], correctable := [], copying := false, replaced := 0 }

/-- A share of IDE state at reset. -/
def IdeStream.dflt : IdeStream := { keySet := 0, keys := [], rekeyTick := 0 }

/-- A Quench slot that is free. -/
def QSlot.dflt : QSlot :=
  { src := 0, state := .observe, entry := 0, graceTick := 0, esc := 0, promo := 0, holds := [], age := 0 }

/-! ## Subsystems at reset -/

/-- Feeds below 7 V, switches open, rails down. -/
def Pfe.reset : Pfe :=
  { feeds := List.replicate 2 { tenthV := 0, uvOk := false, ovOk := true, everRange := false }, closed := none, vbusUp := false,
    want := none, settling := false, coolDown := false, latched := false, imminent := false, standbyOn := false, pwrgdQual := false,
    charging := false, pendReport := none, tripTicks := [], holdupTest := none }

/-- Slot channels open. -/
def Spc.reset : Spc := { chans := [], busTenthV := 0, uvOk := false, ovOk := true }

/-- Unpowered: the start chain has not begun. -/
def Clk.reset : Clk :=
  { phase := .off, startPend := none, warm := false, startTick := 0, mrstLow := false, commanded := false, bootWritten := false,
    lockApplied := false, startRecord := false, checkpointed := false, rootPll := false, modReady := false,
    thermN := false, gated := false }

/-- An empty binding journal. -/
def Journal.reset : Journal := { flash := [], buf := [], bad := none }

/-- The management mailbox at reset (Table 11-4). -/
def Mailbox.reset : Mailbox :=
  { intEn := false, busy := false, done := false, evtLost := false, reqLen := 0, reqBuf := [],
    rsp := none, evt := none, held := [] }

/-- Three healthy cores, two of them in lockstep; nothing queued. -/
def Cmd.reset : Cmd :=
  { jobs := [], chains := [], lastReq := none, bg := [], nextBg := 1, kept := [], mbx := Mailbox.reset, subs := [],
    heldNotify := [], cores := [true, true, true], pair := [0, 1], failover := none, fmBackground := none }

/-- A firmware slot whose flash is erased. -/
def FwSlot.empty : FwSlot :=
  { factory := false, image := [], written := 0, valid := false, imageVer := 0, svn := 0, keyIndex := 0, revoke := 0 }

/-- No ledger entry, no session, no key. -/
def Hlm.reset : Hlm :=
  { ledger := [], torn := [], due := [], pend := [], dropped := 0, gapLost := none, lowCrossed := false,
    slots := [{ FwSlot.empty with factory := true, valid := true }, FwSlot.empty], committed := 0, target := none, trialSlot := none, trialBegun := false, trialNext := none, reverted := false,
    verifying := none, aliasPub := [], keyId := [], assays := List.replicate 5 zeroHash, mgmtRoots := List.replicate 2 zeroHash,
    devRoots := List.replicate 4 zeroHash, sessions := [], nextSession := 1, ide := [], migKeys := [], touchExit := false }

/-- No event, no history. -/
def Flt.reset : Flt :=
  { waiting := [], hist := [], counts := [], slots := [], nextAge := 0, slotless := [], safeSlices := 0,
    safeMover := false, safePorts := [], safeFault := false, flush := none, dump := none, lossSlot := none, lossBuf := none,
    erase := none, inject := [], vaultInject := [], hchkInject := [], cplDropInject := [], cplDropped := [] }

/-- The counter at 0 and untraceable. -/
def Tim.reset : Tim :=
  { counter := 0, oscillator := false, lockedOnce := false, secondsKnown := false, shadow := 0, good := 0, bad := 0,
    slewing := false, pathDelay := 0, shadowSet := false, anchor := none, masters := [], master := none, domain := 0, ipv4 := 0, mask := 0, gateway := 0, ethMode := false,
    mgtAddr := 0, ppsDiscard := false, ppsOut := false }

/-- An empty Transcript. -/
def Rec.reset : Rec :=
  { next := 0, oldest := 0, records := [], bytes := 0, chain := zeroHash, frozen := none, replay := none,
    lastReplay := none, bufBytes := 0, gapFrom := none, gapCount := 0, gapCause := 0, checkpoint := none }

/-- TAP idle. -/
def Jtag.reset : Jtag := { boundary := [], driving := false, highz := false }

/-- Epoch 0x0000, every table at its default (R19). -/
def Tbl.reset : Tbl := { epoch := 0, tables := [], pend := [], held := [], modq := [], nextMod := 1, recent := [], waits := [] }

/-- No extent, no LD, no device. -/
def Pol.reset : Pol :=
  { map := [], retained := [], staged := [], lds := [], groupTags := [], devices := [], startHold := false, held := [],
    relocs := [], relocCmds := [], nextBatch := 0, abortBg := none, grants := [], releases := [], nextId := 1, bindOps := [], mapCache := [],
    pairCache := [], misses := [], badPages := [] }

/-- An empty directory. -/
def Dir.reset : Dir := { entries := [], slices := [], walk := none, flushes := [], nextOp := 1 }

/-- Links down, nothing bound. -/
def Prt.reset : Prt :=
  { ports := [], memSlots := [], ioSlots := [], issueQ := [], binds := [], cfg := [], dpc := [], aer := [], hdm := [], slotStat := [], routes := [],
    mcAllot := [] }

/-- No function active. -/
def Mov.reset : Mov :=
  { fns := [], admin := [], allot := [], numVfs := [], vfEnable := [], ctxs := [], nextCtx := 1, dh := [], df := [],
    cur := [], curHost := [], engBytes := [], mgmtBytes := 0, mig := [], pfPend := [], rsps := [] }

/-- An empty fabric. -/
def Xbr.reset : Xbr :=
  { resv := [], queues := [], shared := [], nextSeq := [], sentOff := [], inflight := [], retained := [], expect := [], stored := [],
    egress := [], posted := [], postedOut := [], headroom := [], mcWaits := [], cuts := [], probes := [], hdrErrs := [], rotIn := [],
    rotOut := [], rotQ := [], headAt := [], headIn := [] }

/-- No traffic, no telemetry. -/
def Sch.reset : Sch :=
  { deficits := [], rotor := [], shaper := [], guard := [], policer := [], holds := [], hist := [], maxDepth := [],
    maxDelay := [], charged := [], samples := 0, cleared := false, gap := false, alert := [], alerted := [], archive := [], nextRec := 0 }

/-- Lanes untrained. -/
def Lnc.reset : Lnc := { lanes := [], margin := [], trained := [] }

/-- Bundles in reset, no partner. -/
def Sem.reset : Sem :=
  { streams := [], bundles := [], partner := none, lost := false, inbox := [], asks := [], snps := [], run := none, relays := [],
    nextRelay := 0 }

/-- No page formed. -/
def Vlt.reset : Vlt :=
  { pages := [], crucible := [], remaps := [], due := [], annealPos := 0, annealRunning := false, banks := [], flips := [], corrTick := none,
    sramTick := none, strengths := (List.range 12).map dfltStrength }

/-- The module right after reset: the standby domain has not been powered (log 1), every register field at the Reset column
of its table, memory and queues empty. -/
def State.reset : State :=
  { pending := [], out := [], regs := [], tick := 0, fresh := 0, pfe := Pfe.reset, spc := Spc.reset, clk := Clk.reset,
    jnl := Journal.reset, cmd := Cmd.reset, hlm := Hlm.reset, flt := Flt.reset, tim := Tim.reset, trec := Rec.reset,
    jtag := Jtag.reset, tbl := Tbl.reset, pol := Pol.reset, dir := Dir.reset, prt := Prt.reset, mov := Mov.reset,
    xbr := Xbr.reset, sch := Sch.reset, lnc := Lnc.reset, sem := Sem.reset, vlt := Vlt.reset }

end Sys2Proof.Machine
end

