-- ==== Sys2Proof/Machine/Ops.lean ====
section
/-! DEFINITION. The operations every meaning shares: register fields, what goes out, free values, time, units, raising an
event, the Transcript, the binding journal, table bytes and the commit engine. -/

namespace Sys2Proof.Machine

/-! ## Register fields -/

/-- Field `f` of index `i`. -/
def State.get (s : State) (f : Field) (i : Nat := 0) : Nat := SMap.get s.regs (f.key i) (f.reset i)

/-- Stores `v` (as many bits as the field has) in field `f` of index `i`. -/
def State.set (s : State) (f : Field) (i : Nat) (v : Nat) : State :=
  { s with regs := SMap.store s.regs (f.key i) (v % 2 ^ f.width) (f.reset i) }

/-- A one-bit field as a Bool. -/
def State.flag (s : State) (f : Field) (i : Nat := 0) : Bool := s.get f i % 2 == 1

/-- Stores a one-bit field. -/
def State.setFlag (s : State) (f : Field) (i : Nat) (b : Bool) : State := s.set f i (b2n b)

/-- Adds to a wrapping counter field. -/
def State.bump (s : State) (f : Field) (i : Nat) (n : Nat := 1) : State := s.set f i (s.get f i + n)

/-! ## What goes out, free values -/

/-- Sends a message outside. -/
def State.emit (s : State) (m : OutMsg) : State := { s with out := m :: s.out }

/-- Sends several messages, the first one first. -/
def State.emits (s : State) (ms : List OutMsg) : State := { s with out := ms.reverse ++ s.out }

/-- A value the manual leaves open. -/
def State.free (s : State) : Nat := Config.freeNat s.fresh

/-- The state after a free value has been drawn. -/
def State.drawn (s : State) : State := { s with fresh := s.fresh + 1 }

/-! ## Lists -/

/-- Replaces the first element that `p` selects by its image. -/
def updFirst {α : Type} (p : α → Bool) (f : α → α) : List α → List α
  | [] => []
  | a :: l => if p a then f a :: l else a :: updFirst p f l

/-- Removes the first element that `p` selects. -/
def delFirst {α : Type} (p : α → Bool) : List α → List α
  | [] => []
  | a :: l => if p a then l else a :: delFirst p l

/-- Adds an element that the list does not hold yet. -/
def addNew {α : Type} [DecidableEq α] (a : α) (l : List α) : List α := if a ∈ l then l else l ++ [a]

/-- Applies `f` for every element in order. -/
def forEach {α β : Type} (l : List α) (f : α → β → β) (b : β) : β := l.foldl (fun b a => f a b) b

/-- The 48 bytes of a digest, most significant byte first. -/
def digestBytes (d : BitVec 384) : Bytes := (leBytes 48 d.toNat).reverse

/-- SHA-384 of a byte string as 48 bytes (log 5). -/
def sha (b : Bytes) : Bytes := digestBytes (Config.sha384 b)

/-! ## Time (R556 to R558) -/

/-- The 12 bytes of a timestamp: seconds, nanoseconds, fraction (R556); `t` counts 2^-48 ns. -/
def timeBytes (t : Nat) : Bytes :=
  let ns := t / 2 ^ 48
  leBytes 2 (t / 2 ^ 32 % 2 ^ 16) ++ leBytes 4 (ns % 1000000000) ++ leBytes 6 (ns / 1000000000)

/-- The counter that a 12-byte timestamp spells. -/
def timeOf (b : Bytes) : Nat :=
  (fieldAt b 6 6 * 1000000000 + fieldAt b 2 4) * 2 ^ 48 + fieldAt b 0 2 * 2 ^ 32

/-- The timestamp of this cycle. -/
def State.now (s : State) : Bytes := timeBytes s.tim.counter

/-- The quality code of this cycle (R557). -/
def State.quality (s : State) : Nat := s.get Reg.TIM_STATUS_QUALITY

/-- KCLK cycles of a time in microseconds (1.25 ns a cycle, Table 1-8). -/
def cyclesUs (us : Nat) : Nat := 800 * us

/-- The increment of one KCLK cycle, 1.25 ns × (1 + F), in units of 2^-48 ns (R558); F counts 0.001 ppb. -/
def State.increment (s : State) : Nat :=
  let f := signedOf 32 (s.get Reg.TIM_FREQ_ADJ)
  (((5 * 2 ^ 46 : Int) * (1000000000000 + f)) / 1000000000000).toNat

/-! ## Units (R10, R11, Table 1-1) -/

/-- Port `p` is present: its bay's width uses the index (R11). -/
def State.present (s : State) (p : Nat) : Bool :=
  p < 64 && (match s.get Reg.LNC_BAY_CFG_WIDTH (p / 4) with
    | 0 => p % 4 == 0
    | 1 => p % 2 == 0
    | 2 => true
    | _ => false)

/-- The present ports, ascending. -/
def State.presentPorts (s : State) : List Nat := (List.range 64).filter s.present

/-- Port `p` is a present USP. -/
def State.isUsp (s : State) (p : Nat) : Bool := s.present p && s.get Reg.PRT_PORT_CFG_ROLE p == 1

/-- Port `p` is a present DSP. -/
def State.isDsp (s : State) (p : Nat) : Bool := s.present p && s.get Reg.PRT_PORT_CFG_ROLE p == 2

/-- Port `p` is a DSP in POOL personality (R41). -/
def State.isPool (s : State) (p : Nat) : Bool := s.isDsp p && s.get Reg.POL_DSP_CFG_PERSONALITY p == 2

/-- The present USPs, ascending. -/
def State.usps (s : State) : List Nat := (List.range 64).filter s.isUsp

/-- The USP that carries the management PF (R310). -/
def State.mgmtUsp (s : State) : Option Nat := s.usps.find? (fun u => s.flag Reg.PRT_PORT_CFG_MGMT_USP u)

/-- LD u.k exists (R91). -/
def State.hasLd (s : State) (ld : Nat) : Bool := ld ∈ s.pol.lds

/-- The lanes that port `p` owns: a bay's lanes split by its width (R11, Table 0-4). -/
def State.portLanes (s : State) (p : Nat) : List Nat :=
  match s.get Reg.LNC_BAY_CFG_WIDTH (p / 4) with
  | 0 => (List.range 16).map (fun i => 16 * (p / 4) + i)
  | 1 => (List.range 8).map (fun i => 16 * (p / 4) + 4 * (p % 4) + i)
  | _ => (List.range 4).map (fun i => 4 * p + i)

/-- Subsystem IDs of the standby domain (Table 1-1). -/
def standbyIds : List Nat := [0x01, 0x03, 0x0D, 0x0E, 0x0F, 0x10, 0x12]

/-- The main domain is powered and out of reset (Table 15-2). -/
def State.mainUp (s : State) : Bool :=
  match s.clk.phase with
  | .released | .restored | .ready => true
  | _ => false

/-- A start is running (R588). -/
def State.starting (s : State) : Bool :=
  match s.clk.phase with
  | .boot | .ledgerHold | .recovery | .keyed | .released | .restored => true
  | _ => false

/-- Pipeline `pl` did not switch in time: it takes no further message (R26). -/
def State.pipeHeld (s : State) (pl : Pipeline) : Bool := s.tbl.held.contains pl

/-- A state of `PortSt`. -/
def State.port (s : State) (p : Nat) : PortSt := SMap.get s.prt.ports p PortSt.dflt

/-- Changes the state of port `p`. -/
def State.modPort (s : State) (p : Nat) (f : PortSt → PortSt) : State :=
  { s with prt := { s.prt with ports := SMap.modify s.prt.ports p PortSt.dflt f } }

/-- Withholds receive credits of port `p` for reason `w`. -/
def State.withhold (s : State) (p : Nat) (w : Withhold) : State :=
  s.modPort p (fun x => { x with withhold := addNew w x.withhold })

/-- Ends reason `w` for withholding credits of port `p`. -/
def State.unhold (s : State) (p : Nat) (w : Withhold) : State :=
  s.modPort p (fun x => { x with withhold := x.withhold.filter (· ≠ w) })

/-- A link in L1 returns to L0 when something crosses it (R603). -/
def State.wake (s : State) (p : Nat) : State :=
  if (s.port p).l1 then (s.modPort p (fun x => { x with l1 := false })).set Reg.LNC_PORT_STATUS_LTSSM p 4 else s

/-! ## Faults (R487 to R491) -/

/-- The eight context bytes of an event: those given, padded with zeros (Table 12-1). -/
def ctx8 (b : Bytes) : Bytes := slice b 0 8

/-- Two events are identical for the pending repeat count (R490). -/
def FltEvent.same (e w : FltEvent) : Bool :=
  w.src == e.src && w.cls == e.cls && w.evt == e.evt && w.ctx == e.ctx && w.syn == e.syn && w.injected == e.injected && w.ended == e.ended

/-- Adds an event to those that wait for acceptance; an identical event already waiting counts once more (R490). -/
def State.raise (s : State) (e : FltEvent) : State :=
  let ws := if s.flt.waiting.any e.same then updFirst e.same (fun w => { w with count := w.count + e.count }) s.flt.waiting
    else s.flt.waiting ++ [e]
  { s with flt := { s.flt with waiting := ws } }

/-- Marks as injected every event that `f` raises (R517). -/
def State.asInjected (s : State) (f : State → State) : State :=
  let t := f { s with flt := { s.flt with waiting := [] } }
  t.flt.waiting.foldl (fun s e => s.raise { e with injected := true }) { t with flt := { t.flt with waiting := s.flt.waiting } }

/-- Class codes (R488). -/
def corrected : Nat := 1
/-- Class code CONTAINED (R488). -/
def contained : Nat := 2
/-- Class code FATAL (R488). -/
def fatal : Nat := 3

/-- Reports an event: source ID, class, event code, context and syndrome bytes. -/
def State.report (s : State) (src cls evt : Nat) (ctx : Bytes) (syn : Bytes := []) : State :=
  s.raise { src := src, cls := cls, evt := evt, ctx := ctx8 ctx, syn := slice syn 0 7, injected := false, tick := s.tick,
            count := 1, openOp := false, ended := false }

/-- Reports an event that counts in one record while its operation is open (R493). -/
def State.reportOpen (s : State) (src cls evt : Nat) (ctx : Bytes) : State :=
  s.raise { src := src, cls := cls, evt := evt, ctx := ctx8 ctx, syn := slice [] 0 7, injected := false, tick := s.tick,
            count := 1, openOp := true, ended := false }

/-- Reports an event of the row's source with index `i`, context byte 24 the index (Table 12-1). -/
def State.reportIx (s : State) (base i cls evt : Nat) : State := s.report (base + i) cls evt [BitVec.ofNat 8 i]

/-- A byte of a number. -/
def byte (n : Nat) : Byte := BitVec.ofNat 8 n

/-! ## The Transcript (R568 to R578) -/

/-- Bytes of the Transcript region (Table 1-10). -/
def transcriptBytes : Nat := 8 * 2 ^ 30

/-- The length of a record: header and payload, padded to 16 bytes (R570). -/
def TRec.len (r : TRec) : Nat := roundUp (32 + r.payload.length) 16

/-- The bytes of a record (Table 14-5). -/
def TRec.toBytes (r : TRec) : Bytes :=
  slice (leBytes 1 r.typ ++ leBytes 1 r.flags ++ leBytes 2 (r.len / 16) ++ leBytes 8 r.seq ++ timeBytes r.time
    ++ leBytes 1 r.quality ++ [0] ++ leBytes 2 r.epoch ++ leBytes 4 r.boot ++ r.payload) 0 r.len

/-- Drops the oldest records (at the end of the list) until `need` bytes fit; `fuel` is the number of records. -/
def dropOldest : Nat → Nat → List TRec → Nat → List TRec × Nat
  | 0, _, l, b => (l, b)
  | fuel + 1, need, l, b =>
    if b + need ≤ transcriptBytes then (l, b)
    else match l.getLast? with
      | none => (l, b)
      | some r => dropOldest fuel need l.dropLast (b - r.len)

/-- The first protected SEQ: of a freeze, of a running replay, or the earlier of both (R578, R582). -/
def Rec.guarded (t : Rec) : Option Nat :=
  match t.frozen, t.replay with
  | none, none => none
  | some f, none => some f
  | none, some r => some r.first
  | some f, some r => some (min f r.first)

/-- The 256 KiB input buffer cannot take `need` more bytes, or a gap opened by it has not been closed (R576, R577). -/
def Rec.full (t : Rec) (need : Nat) : Bool :=
  decide (262144 < t.bufBytes + need) || (t.gapFrom.isSome && t.gapCause == 2)

/-- Writing `need` bytes would overwrite a protected record (R578). -/
def Rec.blocked (t : Rec) (need : Nat) : Bool :=
  match t.guarded with
  | none => false
  | some f =>
    let r := dropOldest t.records.length need t.records t.bytes
    t.records.any (fun x => f ≤ x.seq && !(r.1.any (fun y => y.seq == x.seq)))

/-- REC gives an input a SEQ and records it; while the buffer is full or the head meets a protected record, it counts the
input instead (R569, R577, R578). REC is unpowered while the main domain is down (R14). -/
def State.record (s : State) (typ flags : Nat) (payload : Bytes) : State :=
  let t := s.trec
  let r : TRec := { typ := typ, flags := flags, seq := t.next, time := s.tim.counter, quality := s.quality,
                    epoch := s.tbl.epoch, boot := s.get Reg.HLM_BOOT_COUNTER, payload := payload, bad := false }
  if !s.mainUp then s
  else if t.full r.len || t.blocked r.len then
    let t' := { t with next := t.next + 1, gapCount := t.gapCount + 1,
                       gapFrom := some (t.gapFrom.getD t.next), gapCause := if t.full r.len then 2 else 3 }
    { (s.bump Reg.REC_MISSED 0) with trec := t' }
  else
    let d := dropOldest t.records.length r.len t.records t.bytes
    let recs := r :: d.1
    let cp := t.checkpoint.bind (fun c => if recs.any (fun x => x.seq == c) then some c else none)
    let t' := { t with next := t.next + 1, records := recs, bytes := d.2 + r.len, bufBytes := t.bufBytes + r.len,
                       oldest := (recs.getLast?.map TRec.seq).getD t.next, checkpoint := cp }
    { s with trec := t' }

/-- An EVENT record: source ID, kind, bytes (Table 14-7, R572). -/
def State.recordEvent (s : State) (src kind : Nat) (data : Bytes) (injected : Bool := false) : State :=
  s.record 0x06 (if injected then 2 else 0)
    (leBytes 2 src ++ leBytes 2 (Config.eventKind kind) ++ leBytes 2 (min data.length 64) ++ [0, 0] ++ data.take 64)

/-- A TIME record (Table 14-7). -/
def State.recordTime (s : State) (kind q0 q1 before after : Nat) : State :=
  s.record 0x0B 0 (leBytes 1 kind ++ leBytes 1 q0 ++ leBytes 1 q1 ++ [0, 0, 0, 0, 0] ++ timeBytes before ++ timeBytes after)

/-- A MARK record (Table 14-7). -/
def State.recordMark (s : State) (kind seq : Nat) : State :=
  s.record 0x0D 0 (leBytes 1 kind ++ List.replicate 7 0 ++ leBytes 8 seq)

/-- A GAP record and its event (R577). -/
def State.recordGap (s : State) (first last cause missed : Nat) : State :=
  ((s.record 0x0C 0 (leBytes 8 first ++ leBytes 8 last ++ leBytes 1 cause ++ [0, 0, 0] ++ leBytes 4 missed)).setFlag
    Reg.REC_STATUS_GAP 0 true).report 0x1100 contained 0 []

/-! ## The binding journal (R106 to R109, R710) -/

/-- Payload bytes of an item; the manual leaves the layouts to Acrak (R710, log 10). -/
def JRec.size : JRec → Nat
  | .field _ _ => 12
  | .bayWidth _ _ => 2
  | .serial _ _ => 13
  | .vppb _ _ _ => 6
  | .ldCreate _ | .ldDestroy _ => 2
  | .table _ w => 2 + 12 * w.length
  | .group _ t _ => 2 + t.length + 128
  | .run _ _ _ => 16
  | .reloc _ _ _ _ => 19
  | .relocEnd _ => 4
  | .allot _ v => 1 + 2 * v.length
  | .mcAllot _ _ => 9
  | .twin _ _ p => 2 + (match p with | none => 0 | some x => 12 + x.keyId.length + x.newest.length)
  | .twinGroup _ _ => 3
  | .lock _ => 1
  | .mgmtRoot _ h => 1 + h.length
  | .devRoot _ h => 1 + h.length
  | .archived _ => 4
  | .retire _ _ _ => 9
  | .sramRow _ _ | .sramBank _ _ => 4
  | .pcFail _ => 4
  | .clear _ => 1

/-- Records of 32 B that an item takes: 22 payload bytes each (R710). -/
def JRec.parts (r : JRec) : Nat := max 1 ((r.size + 21) / 22)

/-- Bytes in the journal buffer (CLK_JOURNAL.BUF_BYTES). -/
def Journal.bufBytes (j : Journal) : Nat := 32 * (j.buf.map JRec.parts).sum

/-- Programs the buffer into flash (R108). -/
def Journal.flushed (j : Journal) : Journal := { j with flash := j.flash ++ j.buf, buf := [] }

/-- Writes an item to the journal buffer; a buffer without room for it is flushed first (R108, log 10). -/
def State.journal (s : State) (r : JRec) : State :=
  let j := if 65536 < s.jnl.bufBytes + 32 * r.parts then s.jnl.flushed else s.jnl
  { s with jnl := { j with buf := j.buf ++ [r] } }

/-- Stores a field that the journal keeps, and journals it (Table 15-5: RWS and RWL fields). -/
def State.setJ (s : State) (f : Field) (i v : Nat) : State :=
  (s.set f i v).journal (.field (f.key i) (v % 2 ^ f.width))

/-- Writes several items. -/
def State.journals (s : State) (rs : List JRec) : State := forEach rs (fun r s => s.journal r) s

/-- Extent runs in the journal, flash and buffer together (MAP_STATUS.RUNS). -/
def Journal.runs (j : Journal) : Nat :=
  ((j.flash ++ j.buf).filter (fun r => match r with | .run _ _ _ => true | _ => false)).length

/-! ## Ledger occasions (R531) -/

/-- An occasion of Table 13-8: HLM is to write an entry of this KIND, with further FLAGS, CAUSE and ASSAY area. -/
def State.ledge (s : State) (kind flags : Nat) (cause area : Bytes) : State :=
  { s with hlm := { s.hlm with due := s.hlm.due ++ [{ kind := kind, flags := flags, cause := cause, area := area, time := none }] } }

/-- As `ledge`, with the TIME the entry is to carry (R567). -/
def State.ledgeAt (s : State) (kind : Nat) (area : Bytes) (time : Nat) : State :=
  { s with hlm := { s.hlm with due := s.hlm.due ++ [{ kind := kind, flags := 0, cause := leBytes 4 0, area := area, time := some time }] } }

/-- Asks for a start: kind and trigger of Table 13-6, fault source (R588). -/
def State.askStart (s : State) (kind trigger source : Nat) : State :=
  { s with clk := { s.clk with startPend := some { kind := kind, trigger := trigger, source := source } } }

/-! ## Waiting answers and module commits that other parts share -/

/-- Adds a module commit to the end of the engine's queue (R23); `after` follows it. -/
def State.moduleCommit (s : State) (origin : Nat) (writes : List (Nat × Nat × Bytes)) (extents : List (Nat × Nat))
    (after : After) : State :=
  let m : ModCommit := { id := s.tbl.nextMod, origin := origin, writes := writes, extents := extents, after := after }
  { s with tbl := { s.tbl with modq := s.tbl.modq ++ [m], nextMod := s.tbl.nextMod + 1 } }

/-- Adds a Quench commit ahead of every other module commit (R29). -/
def State.quenchCommit (s : State) (writes : List (Nat × Nat × Bytes)) : State :=
  let m : ModCommit := { id := s.tbl.nextMod, origin := 1, writes := writes, extents := [], after := .nothing }
  { s with tbl := { s.tbl with modq := m :: s.tbl.modq, nextMod := s.tbl.nextMod + 1 } }

end Sys2Proof.Machine
end

