-- ==== Sys2Proof/Machine/SeamBase.lean ====
section
/-! DEFINITION. The Seam's streams and what crosses them: framing, credits, moving between bundles, requests to the other twin
and the halves of the pool (R394 to R404). -/

namespace Sys2Proof.Machine

/-- Changes Seam and twin. -/
def State.modSem (s : State) (f : Sem → Sem) : State := { s with sem := f s.sem }

/-- Stream `x`. -/
def State.stream (s : State) (x : Nat) : Stream := SMap.get s.sem.streams x Stream.dflt

/-- Changes stream `x`. -/
def State.modStream (s : State) (x : Nat) (f : Stream → Stream) : State :=
  s.modSem (fun m => { m with streams := SMap.modify m.streams x Stream.dflt f })

/-- Bundle `b` is ACTIVE (Table 9-10). -/
def State.bundleUp (s : State) (b : Nat) : Bool := s.get Reg.SEM_BUNDLE_STATUS_STATE b == 8

/-- The ACTIVE bundles, ascending. -/
def State.bundlesUp (s : State) : List Nat := (List.range 4).filter s.bundleUp

/-- Streams that bundle `b` carries. -/
def State.carried (s : State) (b : Nat) : List Nat := (List.range 4).filter (fun x => (s.stream x).onBundle == some b)

/-- The stream has an ACTIVE bundle. -/
def State.streamUp (s : State) (x : Nat) : Bool :=
  match (s.stream x).onBundle with
  | some b => s.bundleUp b
  | none => false

/-! ## Framing (R395 to R397) -/

/-- Ingots that a message takes (Table 5-2): two for one that carries a line. -/
def twinIngots : TwinMsg → Nat
  | .devReq _ r => if r.read then 1 else 2
  | .devRsp _ _ _ data => if data.isEmpty then 1 else 2
  | .homeReq r => if r.data.isEmpty then 1 else 2
  | .homeRsp _ _ data _ _ => if data.isSome then 2 else 1
  | .command _ _ k | .response _ k | .event _ k => max 1 ((k.length + 63) / 64)
  | _ => 1

/-- The head of a stream's queue has the credit it needs (R396). -/
def Stream.mayFrame (x : Stream) (m : Nat × TwinMsg) : Bool := twinIngots m.2 ≤ x.credits.getD m.1 0

/-- Up to three messages from the head of the queue that credit allows, with the stream that is left. -/
def Stream.fill : Nat → Stream → List TwinMsg × Stream
  | 0, x => ([], x)
  | n + 1, x =>
    match x.waiting with
    | [] => ([], x)
    | m :: l =>
      if x.mayFrame m then
        let r := Stream.fill n { x with waiting := l, credits := x.credits.modify m.1 (· - twinIngots m.2) }
        (m.2 :: r.1, r.2)
      else ([], x)

/-- The next frame of a stream: its messages, FSEQ, ACK, NAK and one credit return; the frame is kept until it is acknowledged. -/
def Stream.frame (x : Stream) (n : Nat) : SeamFrame × Stream :=
  let r := x.fill 3
  let q := (List.range 8).find? (fun q => 0 < x.owed.getD q 0)
  let f : SeamFrame :=
    { stream := Fin.ofNat 4 n, slots := r.1, fseq := BitVec.ofNat 16 x.nextF, ack := BitVec.ofNat 16 (x.expectF + 65535),
      nak := x.nakDue, credit := q.map (fun q => (Fin.ofNat 8 q, x.owed.getD q 0)), crcOk := true }
  (f, { r.2 with nextF := (x.nextF + 1) % 65536, nakDue := false, unacked := x.unacked ++ [f],
                 owed := match q with
                   | some q => x.owed.set q 0
                   | none => x.owed })

/-- Sends one frame of stream `n`. -/
def State.sendFrame (s : State) (n b : Nat) : State :=
  let r := (s.stream n).frame n
  (s.modStream n (fun _ => r.2)).emit (.seamFrame n b r.1)

/-- Frames what waits on stream `n`, at most `fuel` frames, while its bundle is ACTIVE and fewer than 85 frames are
unacknowledged (Table 9-7). -/
def State.pumpStream (s : State) (n : Nat) : Nat → State
  | 0 => s
  | fuel + 1 =>
    let x := s.stream n
    match x.onBundle, x.waiting with
    | some b, m :: _ =>
      if s.bundleUp b && !s.pipeHeld (.seam (Fin.ofNat 4 n)) && decide (x.unacked.length < 85) && x.mayFrame m then (s.sendFrame n b).pumpStream n fuel else s
    | _, _ => s

/-- Sends what waits on stream `n`. -/
def State.pump (s : State) (n : Nat) : State := s.pumpStream n (s.stream n).waiting.length

/-- A message for the other twin joins stream `n` in queue class `q` (R404). -/
def State.twinSend (s : State) (n q : Nat) (m : TwinMsg) : State :=
  (s.modStream n (fun x => { x with waiting := x.waiting ++ [(q, m)] })).pump n

/-- Seam control and relayed commands go on the lowest stream that a bundle carries (Table 9-8); with none they are lost. -/
def State.ctlSend (s : State) (m : TwinMsg) : State :=
  match (List.range 4).find? s.streamUp with
  | some n => s.twinSend n 7 m
  | none => s

/-! ## Streams and bundles (R394) -/

/-- SEM_BUNDLE_STATUS.STREAMS of every bundle. -/
def State.showStreams (s : State) : State :=
  forEach (List.range 4) (fun b s => s.set Reg.SEM_BUNDLE_STATUS_STREAMS b (maskOf (s.carried b))) s

/-- The ACTIVE bundle that carries the fewest streams, the lowest index on a tie. -/
def State.leastBundle (s : State) : Option Nat :=
  s.bundlesUp.foldl (fun (a : Option Nat) b =>
    match a with
    | none => some b
    | some c => if (s.carried b).length < (s.carried c).length then some b else a) none

/-- Every stream whose bundle is not ACTIVE moves: to its own bundle when that is ACTIVE, otherwise to the one that carries the
fewest; with none ACTIVE it holds its traffic. -/
def State.placeStreams (s : State) : State :=
  let s := forEach (List.range 4) (fun x s =>
    if s.streamUp x then s
    else
      let s := s.modStream x (fun y => { y with onBundle := none })
      let b := if s.bundleUp x then some x else s.leastBundle
      s.modStream x (fun y => { y with onBundle := b })) s
  forEach (List.range 4) (fun x s => s.pump x) s.showStreams

/-! ## The halves of the pool (R400 to R403) -/

/-- The pair is in operation: enabled and not suspended. -/
def State.twinOn (s : State) : Bool := s.flag Reg.SEM_TWIN_STATUS_ENABLED && !s.flag Reg.SEM_TWIN_STATUS_SUSPENDED

/-- The extent lies in the partner's half while twin operation is enabled: pool address bit 44 names the home (R400). -/
def State.partnerExtent (s : State) (x : Nat) : Bool :=
  s.flag Reg.SEM_TWIN_STATUS_ENABLED && bitOf x 23 != s.flag Reg.SEM_TWIN_STATUS_TWIN_B

/-- The line lies in the partner's half. -/
def State.partnerLine (s : State) (line : Nat) : Bool := s.partnerExtent (line / 32768)

/-- The target index that stands for the home of a line of the partner's half. -/
def homeTarget : Nat := 128

/-- A tag of a request across the Seam: bits [15:13] name the slice (R404, Table 9-8). -/
def State.twinTag (s : State) (slice : Nat) : Nat :=
  ((List.range 8192).find? (fun k => (SMap.find s.sem.asks (8192 * slice + k)).isNone)).getD 0 + 8192 * slice

/-- Notes who waits for the answer to a tag. -/
def State.ask (s : State) (tag : Nat) (a : TwinAsk) : State := s.modSem (fun m => { m with asks := SMap.put m.asks tag a })

/-- The slice that a waiting user belongs to. -/
def SlotUser.slice : SlotUser → Nat
  | .home i _ _ => i
  | .evict i _ _ => i
  | _ => 0

/-- Issues an access to a device copy behind a port of the other twin (R401), or the write of a line of its half (R403). -/
def State.twinDev (s : State) (q : DevReq) : State :=
  let i := q.user.slice
  let tag := s.twinTag i
  let x := if q.port = homeTarget then i % 4 else q.port % 4
  let s := s.ask tag { user := q.user, isRead := q.isRead, port := q.port, stream := x }
  if q.port = homeTarget then
    s.twinSend x 2 (.homeReq { line := q.dpa / 64, upper := true, op := if q.mask = BitVec.allOnes 64 then .memWr else .memWrPtl,
                               snp := .noOp, mval := q.mta, tag := tag, data := q.data, mask := q.mask, poison := q.poison, atom := none })
  else
    s.twinSend x 2 (.devReq (Fin.ofNat 64 q.port) { read := q.isRead, dpa := q.dpa, tag := tag, data := q.data, mask := q.mask, mval := q.mta,
                                                    poison := q.poison })

/-- A request of a proxy slice that passes to the home (R403). -/
def State.proxyAsk (s : State) (user : SlotUser) (r : ProxyReq) : State :=
  let i := user.slice
  let tag := s.twinTag i
  let s := s.ask tag { user := user, isRead := true, port := homeTarget, stream := i % 4 }
  s.twinSend (i % 4) 2 (.homeReq { r with tag := tag })

end Sys2Proof.Machine
end

