-- ==== Sys2Proof/Machine/Tables.lean ====
section
/-! DEFINITION. The committed tables (R17 to R30): their sizes, default contents and reserved bits, the lookups by epoch
stamp, the layouts of entries that many parts read, and the commit engine. -/

namespace Sys2Proof.Machine

/-! ## Table IDs, sizes and contents (Table 11-5) -/

/-- The byte length of table `tid`; `none` for an unassigned table ID. -/
def tblLen (tid : Nat) : Option Nat :=
  if 0x0500 ≤ tid ∧ tid < 0x0504 then some Config.stepTableLen
  else if 0x0600 ≤ tid ∧ tid < 0x0680 then some Config.stepTableLen
  else if 0x0680 ≤ tid ∧ tid < 0x06C0 then some 0x400
  else if tid = 0x06C0 then some 0x4000
  else if tid = 0x0700 then some 4
  else if tid = 0x0701 then some 0x400
  else if tid = 0x0800 then some 0x84000
  else if tid = 0x0900 then some 0x1000
  else if 0x0910 ≤ tid ∧ tid < 0x0918 then some Config.stepTableLen
  else if 0x0A00 ≤ tid ∧ tid < 0x0A40 then some 0x2000
  else if tid = 0x0A40 then some 0x8000
  else if tid = 0x0A41 then some 0x1000000
  else if tid = 0x0A42 then some 0x8000000
  else if tid = 0x0B00 then some Config.stepTableLen
  else none

/-- The ID names a table. -/
def tblAssigned (tid : Nat) : Bool := (tblLen tid).isSome

/-- Management software may write and commit the table (Table 11-5). -/
def tblManaged (tid : Nat) : Bool := tid == 0x06C0 || tid == 0x0800 || tid == 0x0900 || tid == 0x0A40 || tid == 0x0A41

/-- The table is a step table. -/
def tblStep (tid : Nat) : Bool :=
  (0x0500 ≤ tid && tid < 0x0504) || (0x0600 ≤ tid && tid < 0x0680) || (0x0910 ≤ tid && tid < 0x0918) || tid == 0x0B00

/-- The table's accepted commits are journaled (R713). -/
def tblJournaled (tid : Nat) : Bool :=
  (0x0A00 ≤ tid && tid < 0x0A40) || tid == 0x0A40 || tid == 0x0A41 || tid == 0x0900 || tid == 0x0800 || tid == 0x0701
    || tid == 0x06C0

/-- Reset bytes of the policer and egress service table (Tables 6-6 and 6-7). -/
def schDefault (off : Nat) : Byte :=
  if off < 0x2200 then
    let q := off / 16 % 8
    match off % 16 with
    | 0 => byte ([0, 0, 8, 4, 4, 4, 2, 2].getD q 0)
    | 1 => if q < 4 then 8 else 24
    | 2 => if q < 2 then 2 else 0
    | 3 => if q < 2 then 50 else 0
    | 5 => 0x50
    | 10 => 1
    | 13 => if q < 2 then 0x20 else 0
    | _ => 0
  else if 0x80000 ≤ off then
    match off % 16 with
    | 4 => 100
    | 9 => 0x10
    | _ => 0
  else 0

/-- The byte a table holds where nothing has been written: the contents of a COLD start with an empty journal. -/
def tblDefault (tid off : Nat) : Byte :=
  if tblStep tid then Config.stepByte tid off
  else if tid = 0x0700 then byte (0x80 + off)
  else if tid = 0x0800 then schDefault off
  else if tid = 0x0900 then byte (0x80 + off % 8)
  else 0

/-- The bits of a byte that a table stores; reserved bits read 0 (R5, R69). -/
def tblMask (tid off : Nat) : Byte :=
  if tid = 0x06C0 then (if off % 4 = 2 then 0x0F else if off % 4 = 3 then 0 else 0xFF)
  else if tid = 0x0900 then 0x87
  else if tid = 0x0A40 then
    (let o := off % 128
     if (1 ≤ o ∧ o < 4) ∨ 72 ≤ o then 0 else if 8 ≤ o ∧ o % 4 = 3 then 0x7F else 0xFF)
  else if tid = 0x0A41 then (let o := off % 8
     if o = 5 then 0x7F else if 5 < o then 0 else 0xFF)
  else if tid = 0x0800 then
    (if off < 0x2200 then (if off % 16 = 2 then 0x03 else 0xFF)
     else if off < 0x80000 then 0
     else match off % 16 with
       | 0 => 0x07
       | 1 | 2 | 3 | 12 | 13 | 14 | 15 => 0
       | _ => 0xFF)
  else 0xFF

/-- The state of table `tid`. -/
def State.table (s : State) (tid : Nat) : TableSt := SMap.get s.tbl.tables tid TableSt.dflt

/-- Changes the state of a table. -/
def State.setTable (s : State) (tid : Nat) (t : TableSt) : State :=
  { s with tbl := { s.tbl with tables := SMap.store s.tbl.tables tid t TableSt.dflt } }

/-- The shadow may be written (R23). -/
def State.writable (s : State) (tid : Nat) : Bool := !(s.table tid).former

/-- Bytes of the active bank. -/
def State.active (s : State) (tid off len : Nat) : Bytes :=
  SMap.bytes (s.table tid).active (tblDefault tid) off len

/-- Bytes of the shadow bank. -/
def State.shadow (s : State) (tid off len : Nat) : Bytes :=
  SMap.bytes (s.table tid).shadow (tblDefault tid) off len

/-- Epoch `e` lies before epoch `t` (modulo 2^16, R27). -/
def earlier (e t : Nat) : Bool := let d := (t + 65536 - e % 65536) % 65536; 0 < d && d < 32768

/-- Bytes of the bank that was active at the epoch `stamp` (R22): the former bank while it is kept and the stamp lies before
the table's tag, the active bank otherwise. -/
def State.lookup (s : State) (tid stamp off len : Nat) : Bytes :=
  let t := s.table tid
  if t.former && earlier stamp t.tag then SMap.bytes t.shadow (tblDefault tid) off len
  else SMap.bytes t.active (tblDefault tid) off len

/-- Lays `bs` over a bank at `off`, reserved bits cleared. -/
def bankWrite (tid : Nat) (bank : SMap Byte) (off : Nat) (bs : Bytes) : SMap Byte :=
  SMap.write bank (tblDefault tid) off (bs.zipIdx.map (fun x => x.1 &&& tblMask tid (off + x.2)))

/-- Writes the shadow of a table. -/
def State.writeShadow (s : State) (tid off : Nat) (bs : Bytes) : State :=
  let t := s.table tid
  s.setTable tid { t with shadow := bankWrite tid t.shadow off bs }

/-- Writes both banks of a table: a fence, a relocation slot's pair, a restored table (R75, R94, R608). -/
def State.writeBoth (s : State) (tid off : Nat) (bs : Bytes) : State :=
  let t := s.table tid
  s.setTable tid { t with active := bankWrite tid t.active off bs, shadow := bankWrite tid t.shadow off bs }

/-! ## Extent map entries (Table 2-4) and copy words (Table 2-6) -/

/-- VALID of an extent map entry. -/
def entValid (e : Nat) : Bool := bitOf e 0
/-- SHARED. -/
def entShared (e : Nat) : Bool := bitOf e 1
/-- MIRRORED. -/
def entMirrored (e : Nat) : Bool := bitOf e 2
/-- RELOCATING. -/
def entReloc (e : Nat) : Bool := bitOf e 3
/-- POISONED. -/
def entPoisoned (e : Nat) : Bool := bitOf e 4
/-- READ_ONLY. -/
def entReadOnly (e : Nat) : Bool := bitOf e 5
/-- OWNER: LD index or share group. -/
def entOwner (e : Nat) : Nat := bitsOf e 6 10
/-- IL. -/
def entIl (e : Nat) : Bool := bitOf e 16
/-- TARGET. -/
def entTarget (e : Nat) : Nat := bitsOf e 17 7
/-- PAGE. -/
def entPage (e : Nat) : Nat := bitsOf e 24 24

/-- Sets bit `i` of a number to `b`. -/
def putBit (e i : Nat) (b : Bool) : Nat := if bitOf e i then (if b then e else e - 2 ^ i) else (if b then e + 2 ^ i else e)

/-- Stores `v` in bits [lsb + w − 1 : lsb]. -/
def putBits (e lsb w v : Nat) : Nat := e - bitsOf e lsb w * 2 ^ lsb + v % 2 ^ w * 2 ^ lsb

/-- VALID of a copy word. -/
def cwValid (c : Nat) : Bool := bitOf c 0
/-- IL of a copy word. -/
def cwIl (c : Nat) : Bool := bitOf c 1
/-- TARGET of a copy word. -/
def cwTarget (c : Nat) : Nat := bitsOf c 2 8
/-- PAGE of a copy word. -/
def cwPage (c : Nat) : Nat := bitsOf c 10 24
/-- STATE of a copy word: 0 IN_SYNC, 1 FILLING, 2 FENCED. -/
def cwState (c : Nat) : Nat := bitsOf c 34 2
/-- SLOT of a copy word. -/
def cwSlot (c : Nat) : Nat := bitsOf c 36 11

/-- A copy word of Table 2-6. -/
def cwMake (il : Bool) (target page state slot : Nat) : Nat :=
  1 + b2n il * 2 + target % 256 * 4 + page % 2 ^ 24 * 2 ^ 10 + state % 4 * 2 ^ 34 + slot % 2048 * 2 ^ 36

/-- The entry of extent `x` in the active map. -/
def State.entry (s : State) (x : Nat) : Nat := SMap.get s.pol.map x 0

/-- The entry under which a proxy slice holds a line of the partner's half: VALID and SHARED (R402, R403). -/
def proxyEntry : Nat := 3

/-- The entry of extent `x` as a message stamped `stamp` sees it: the retained value of the earliest later commit (R79); an extent
of the partner's half has its entry there (R402). -/
def State.entryAt (s : State) (x stamp : Nat) : Nat :=
  let rs := s.pol.retained.filter (fun r => r.2.1 == x && earlier stamp r.1)
  if s.partnerExtent x then proxyEntry
  else match rs.foldl (fun (a : Option (Nat × Nat)) r =>
      match a with
      | none => some (r.1, r.2.2)
      | some b => if earlier r.1 b.1 then some (r.1, r.2.2) else some b) none with
  | some r => r.2
  | none => s.entry x

/-- Copy word `c` of mirror pair `i` in the active bank. -/
def State.copyWord (s : State) (i c : Nat) : Nat := leNat (s.active 0x0A41 (16 * i + 8 * c) 8)

/-- Copy word `c` of mirror pair `i` by epoch stamp. -/
def State.copyWordAt (s : State) (i c stamp : Nat) : Nat := leNat (s.lookup 0x0A41 stamp (16 * i + 8 * c) 8)

/-- The first pair index of the relocation slots (R72). -/
def relocPairBase : Nat := 1046536

/-- WAYS code of interleave set `i`, read from 128 entry bytes. -/
def isetWays (b : Bytes) : Nat := fieldAt b 0 1
/-- LENGTH of an interleave set. -/
def isetLength (b : Bytes) : Nat := fieldAt b 4 4
/-- Target index of way `w`. -/
def isetTarget (b : Bytes) (w : Nat) : Nat := bitsOf (fieldAt b (8 + 4 * w) 4) 24 7
/-- Base device page of way `w`. -/
def isetBase (b : Bytes) (w : Nat) : Nat := bitsOf (fieldAt b (8 + 4 * w) 4) 0 24

/-- The VALID extents with their entries, ascending. -/
def State.validExtents (s : State) : List (Nat × Nat) := s.pol.map.filter (fun x => entValid x.2)

/-- A VALID extent references mirror pair `i`. -/
def State.pairUsed (s : State) (i : Nat) : Bool :=
  s.validExtents.any (fun x => entMirrored x.2 && entPage x.2 == i)

/-- The mirror pairs that VALID extents reference. -/
def State.pairsUsed (s : State) : List Nat :=
  ((s.validExtents.filter (fun x => entMirrored x.2)).map (fun x => entPage x.2)).dedup

/-- A VALID extent, or a VALID copy word of a referenced pair, names interleave set `i`. -/
def State.isetUsed (s : State) (i : Nat) : Bool :=
  s.validExtents.any (fun x => !entMirrored x.2 && entIl x.2 && entTarget x.2 == i) ||
  s.pairsUsed.any (fun p => [0, 1].any (fun c =>
    let w := s.copyWord p c
    cwValid w && cwIl w && cwTarget w == i))

/-- Interleave set `i` has a way on target index `n` (R42). -/
def State.isetNames (s : State) (i n : Nat) : Bool :=
  let b := s.active 0x0A40 (128 * i) 128
  isetWays b != 0 && (List.range (2 ^ isetWays b)).any (fun w => isetTarget b w == n)

/-- The pool tables name DSP `n` (R42). -/
def State.poolNames (s : State) (n : Nat) : Bool :=
  s.validExtents.any (fun x => !entMirrored x.2 && !entIl x.2 && entTarget x.2 == n) ||
  (List.range 256).any (fun i => s.isetNames i n) ||
  s.pairsUsed.any (fun p => [0, 1].any (fun c =>
    let w := s.copyWord p c
    cwValid w && !cwIl w && cwTarget w == n))

/-! ## HDM decode table (Table 2-2) and pool view (R52) -/

/-- LD index 16u + k is a member of share group `g`, by epoch stamp (R58). -/
def State.memberAt (s : State) (ld g stamp : Nat) : Bool :=
  bitOf (leNat (s.lookup (0x0A00 + ld / 16) stamp (0x800 + 128 * (ld % 16) + g / 8) 1)) (g % 8)

/-- LD index 16u + k is a member of share group `g`. -/
def State.member (s : State) (ld g : Nat) : Bool :=
  bitOf (leNat (s.active (0x0A00 + ld / 16) (0x800 + 128 * (ld % 16) + g / 8) 1)) (g % 8)

/-- The member LDs of share group `g`. -/
def State.members (s : State) (g : Nat) : List Nat := s.pol.lds.filter (fun ld => s.member ld g)

/-- Target index `t` lies in USP `u`'s pool view, by epoch stamp (R52). -/
def State.inViewAt (s : State) (u t stamp : Nat) : Bool :=
  (s.lookup (0x0A00 + u) stamp 0x1000 16).any (fun b => b.toNat == 0x80 + t)

/-- Target index `t` lies in USP `u`'s pool view. -/
def State.inView (s : State) (u t : Nat) : Bool :=
  (s.active (0x0A00 + u) 0x1000 16).any (fun b => b.toNat == 0x80 + t)

/-! ## Epoch stamps (R22, R23) -/

/-- Stamps of the requests a slice holds. -/
def SliceSt.stamps (x : SliceSt) : List Nat :=
  x.srcQ.map HomeReq.stamp ++ x.retry.map HomeReq.stamp ++ x.txns.map (fun t => t.req.stamp) ++ x.lineQ.map HomeReq.stamp
    ++ x.missing.map (fun m => m.2.stamp)

/-- The epochs stamped on messages anywhere in the module. -/
def State.stamps (s : State) : List Nat :=
  (s.dir.slices.map (fun x => x.2.stamps)).flatten ++ s.pol.misses.map MissHold.stamp ++ s.pol.held.map MissHold.stamp
    ++ (s.sch.holds.map (fun h => h.2.map (fun r => r.req.stamp))).flatten
    ++ (s.xbr.resv.map (fun q => q.2.map Msg.epoch)).flatten ++ (s.xbr.queues.map (fun q => q.2.map Msg.epoch)).flatten
    ++ (s.xbr.egress.map (fun q => q.2.map Msg.epoch)).flatten
    ++ (s.xbr.inflight.map (fun q => q.2.map Msg.epoch)).flatten ++ (s.xbr.mcWaits.map (fun m => m.copies.map Msg.epoch)).flatten

/-- How many commits epoch `e` lies before the global epoch. -/
def State.ageOf (s : State) (e : Nat) : Nat := (s.tbl.epoch + 65536 - e % 65536) % 65536

/-- The oldest epoch still stamped on a message; the global epoch when no message is stamped (EPOCH_READ). -/
def State.oldestStamp (s : State) : Nat :=
  s.stamps.foldl (fun o e => if s.ageOf o < s.ageOf e then e else o) s.tbl.epoch

/-- The epoch window admits one more commit (R27): the new epoch would lie less than 32,768 past the oldest stamp. -/
def State.windowOk (s : State) : Bool := decide (s.ageOf s.oldestStamp + 1 < 32768)

/-- The epoch a lookup of pipeline `pl` stamps: the one before the oldest commit that `pl` has not switched to (R20, R22). -/
def State.stampOf (s : State) (pl : Pipeline) : Nat :=
  match s.tbl.pend.find? (fun c => pl ∈ c.waiting) with
  | some c => (c.epoch + 65535) % 65536
  | none => s.tbl.epoch

/-! ## Crossbar planes (R246, R253, R272) -/

/-- The plane of active slot `j` in the plane map (R273). -/
def State.planeSlot (s : State) (j : Nat) : Option Nat :=
  let b := fieldAt (s.active 0x0700 j 1) 0 1
  if bitOf b 7 ∧ b % 8 < 5 then some (b % 8) else none

/-- Plane `p` has failed or been retired. -/
def State.planeFailed (s : State) (p : Nat) : Bool := bitOf (s.get Reg.XBR_PLANE_STATUS_FAILED) p

/-- The planes that carry traffic: those of the plane map that have not failed. -/
def State.activePlanes (s : State) : List Nat := ((List.range 4).filterMap s.planeSlot).filter (fun p => !s.planeFailed p)

/-- The spare: the lowest healthy plane outside the plane map. -/
def State.sparePlane (s : State) : Option Nat :=
  (List.range 5).find? (fun p => !s.planeFailed p && !((List.range 4).filterMap s.planeSlot).contains p)

/-- Healthy planes (Table 5-4). -/
def State.healthyPlanes (s : State) : Nat := ((List.range 5).filter (fun p => !s.planeFailed p)).length

/-! ## The commit engine (R19 to R30, R712, R713) -/

/-- The port of a pipeline is out of service: its link is down or it is held in Disabled (R26). -/
def State.outOfService (s : State) (p : Nat) : Bool := !(s.port p).up

/-- The pipelines whose lookups a table's change affects (R20; log 11). -/
def State.affectedBy (s : State) (tid : Nat) : List Pipeline :=
  let up := (List.finRange 64).filter (fun p => s.present p.val && !s.outOfService p.val)
  let usps := up.filter (fun p => s.isUsp p.val)
  let slices := (List.finRange 8).filter (fun i => !s.flag Reg.DIR_SLICE_STATUS_FAILED i.val)
  if 0x0500 ≤ tid ∧ tid < 0x0504 then ((List.finRange 4).filter (fun b => 0x0500 + b.val == tid)).map Pipeline.seam
  else if 0x0600 ≤ tid ∧ tid < 0x0640 then (up.filter (fun p => 0x0600 + p.val == tid)).map Pipeline.ingress
  else if 0x0640 ≤ tid ∧ tid < 0x0680 then (up.filter (fun p => 0x0640 + p.val == tid)).map Pipeline.egress
  else if 0x0680 ≤ tid ∧ tid < 0x06C0 then
    (up.filter (fun p => 0x0680 + p.val == tid ||
      s.prt.binds.any (fun b => b.1 / 32 + 0x0680 == tid && b.2.port == p.val))).map Pipeline.ingress
  else if tid = 0x06C0 then (up.filter (fun p => s.flag Reg.PRT_PORT_CFG_PBR_EN p.val)).map Pipeline.ingress
  else if tid = 0x0700 ∨ tid = 0x0701 then up.map Pipeline.ingress ++ slices.map Pipeline.slice ++ [.mover]
  else if tid = 0x0800 then up.map Pipeline.egress ++ usps.map Pipeline.ingress
  else if tid = 0x0900 then usps.map Pipeline.ingress ++ [.mover]
  else if 0x0910 ≤ tid ∧ tid < 0x0918 then (slices.filter (fun i => 0x0910 + i.val == tid)).map Pipeline.slice
  else if 0x0A00 ≤ tid ∧ tid < 0x0A40 then (usps.filter (fun p => 0x0A00 + p.val == tid)).map Pipeline.ingress
  else if 0x0A40 ≤ tid ∧ tid ≤ 0x0A42 then
    (usps.filter (fun p => s.pol.lds.any (fun ld => ld / 16 == p.val))).map Pipeline.ingress
  else if tid = 0x0B00 then [.mover]
  else []

/-- The 8-byte words of a table that the commit changes, ascending, with their new values (R573). -/
def State.changedWords (s : State) (tid : Nat) : List (Nat × Bytes) :=
  let t := s.table tid
  let ws := sortNat (t.active.map (fun (c : Nat × Byte) => c.1 / 8) ++ t.shadow.map (fun (c : Nat × Byte) => c.1 / 8))
  (ws.filter (fun w => s.active tid (8 * w) 8 ≠ s.shadow tid (8 * w) 8)).map (fun w => (8 * w, s.shadow tid (8 * w) 8))

/-- The digest body of a table (R573). -/
def digestBody (tid : Nat) (ws : List (Nat × Bytes)) : Bytes :=
  leBytes 2 tid ++ leBytes 4 ws.length ++ (ws.map (fun w => leBytes 4 w.1 ++ w.2)).flatten

/-- The digest body of the extent map's change list (R573). -/
def extentBody (xs : List (Nat × Nat)) : Bytes :=
  leBytes 2 0x0A42 ++ leBytes 4 xs.length ++ (xs.map (fun x => leBytes 4 x.1 ++ leBytes 8 x.2)).flatten

/-- Records a commit submitted to the engine and extends the digest chain (R573, R574). `tags` are the tables named with the
tags expected; `result` is the status; `body` is empty for a refused commit. -/
def State.recordCommit (s : State) (origin : Nat) (tags : List (Nat × Nat)) (result : Nat) (body : Bytes) : State :=
  let d := sha (s.trec.chain ++ leBytes 2 s.tbl.epoch ++ leBytes 1 tags.length ++ leBytes 2 result ++ body)
  let s := { s with trec := { s.trec with chain := d },
                    tbl := { s.tbl with recent := ((s.tbl.epoch, tags.map Prod.fst, d) :: s.tbl.recent).take 256 } }
  s.record 0x09 0 (leBytes 1 origin ++ leBytes 1 tags.length ++ leBytes 2 result ++ leBytes 2 s.tbl.epoch ++ [0, 0] ++ d
    ++ (tags.map (fun t => leBytes 2 t.1 ++ leBytes 2 t.2)).flatten)

/-- Swaps the banks of a table under the new epoch (R19, R23). -/
def TableSt.swap (t : TableSt) (e : Nat) : TableSt :=
  { active := t.shadow, shadow := t.active, tag := e, formerTag := t.tag, former := true }

/-- Applies a change list under epoch `e`: the former values are retained, the entries carry the epoch (R79, Table 2-4). -/
def Pol.applyChanges (p : Pol) (e : Nat) (xs : List (Nat × Nat)) : Pol :=
  forEach xs (fun x p => { p with retained := p.retained ++ [(e, x.1, SMap.get p.map x.1 0)],
                                  map := SMap.store p.map x.1 (if x.2 = 0 then 0 else putBits x.2 48 16 e) 0 }) p

/-- Every slice holds the requests of the new epoch (R120). -/
def State.holdSlices (s : State) (e : Nat) : State :=
  { s with dir := { s.dir with slices := forEach (List.range 8) (fun i m =>
      SMap.modify m i SliceSt.dflt (fun x => { x with heldStamp := some e })) s.dir.slices } }

/-- The engine accepts a commit: the epoch advances, committed entries are journaled, the commit is recorded, the banks swap
and the affected pipelines are asked to switch (R19, R20, R23, R30, R713). -/
def State.accept (s : State) (origin : Nat) (tids : List Nat) (extents : List (Nat × Nat)) (after : After) : State :=
  let tids := sortNat tids
  let e := (s.tbl.epoch + 1) % 65536
  let words := tids.map (fun t => (t, s.changedWords t))
  let tags := tids.map (fun t => (t, (s.table t).tag)) ++
    (if extents = [] then [] else [(0x0A42, (s.table 0x0A42).tag)])
  let body := (words.map (fun w => digestBody w.1 w.2)).flatten ++
    (if extents = [] then [] else extentBody (extents.foldl (fun (m : SMap Nat) x => SMap.put m x.1 x.2) []))
  let s := { s with tbl := { s.tbl with epoch := e } }
  let s := s.journals ((words.filter (fun w => tblJournaled w.1 && !w.2.isEmpty)).map (fun w => JRec.table w.1 w.2))
  let s := s.recordCommit origin tags 0 body
  let s := forEach tids (fun t s => s.setTable t ((s.table t).swap e)) s
  let s := if extents = [] then s else
    { (s.setTable 0x0A42 { s.table 0x0A42 with tag := e }) with pol := s.pol.applyChanges e extents }
  let s := if extents = [] then s else s.setFlag Reg.POL_MAP_STATUS_CL_WRITABLE 0 false
  let s := if 0x0900 ∈ tids then s.holdSlices e else s
  let pls := ((tids ++ (if extents = [] then [] else [0x0A42])).map s.affectedBy).flatten.dedup
  let c : PendCommit := { epoch := e, tables := tids, waiting := pls, after := after }
  { s with tbl := { s.tbl with pend := s.tbl.pend ++ [c] } }

/-- A module commit may be taken: every shadow it names is writable, the change list is, and the window allows (R23, R27). -/
def State.modReady (s : State) (m : ModCommit) : Bool :=
  m.writes.all (fun w => s.writable w.1) && (m.extents.isEmpty || s.flag Reg.POL_MAP_STATUS_CL_WRITABLE) && s.windowOk

/-- The shadow that a module commit takes to the engine: the active contents with its writes; what others had staged is
overwritten (Table 11-9). -/
def State.stageModule (s : State) (m : ModCommit) : State :=
  let s := forEach (m.writes.map (fun w => w.1)).dedup
    (fun t s => s.setTable t { s.table t with shadow := (s.table t).active }) s
  forEach m.writes (fun w s => s.writeShadow w.1 w.2.1 w.2.2) s

/-- Takes a module commit: staged, accepted, its change-list entries no longer staged. -/
def State.takeModule (s : State) (m : ModCommit) : State :=
  let s := { s with tbl := { s.tbl with modq := delFirst (fun x => x.id == m.id) s.tbl.modq } }
  let s := s.stageModule m
  let s := { s with pol := { s.pol with staged := s.pol.staged.filter (fun x => !(m.extents.any (fun y => y.1 == x.1))) } }
  s.accept m.origin ((m.writes.map (fun w => w.1))) m.extents m.after

/-- The ranges of a service entry, 16 bytes, of queue `q` (Table 6-6). -/
def schEntryOk (q : Nat) (b : Bytes) : Bool :=
  let w := fieldAt b 0 1; let pct := fieldAt b 3 1; let rate := fieldAt b 4 4
  let burst := fieldAt b 8 4; let guard := fieldAt b 12 4
  (q < 2 || 1 ≤ w) && (2 ≤ q || (1 ≤ pct && pct ≤ 100 && 64 ≤ guard && guard ≤ 2 ^ 20)) &&
    1 ≤ rate && rate ≤ 20480 && 64 ≤ burst && burst ≤ 2 ^ 24

/-- The ranges of a policer entry (Table 6-7, R300). -/
def policerOk (b : Bytes) : Bool :=
  let m := bitsOf (fieldAt b 0 1) 1 2; let rate := fieldAt b 4 4; let burst := fieldAt b 8 4
  m ≤ 2 && 1 ≤ rate && rate ≤ 20480 && 64 ≤ burst && burst ≤ 2 ^ 24

/-- A target index can be named: local, or a twin port while twin operation is enabled (R51). -/
def State.targetOk (s : State) (t : Nat) : Bool := t < 64 || (t < 128 && s.flag Reg.SEM_TWIN_STATUS_ENABLED)

/-- An interleave set entry's staged contents are in range (R69, R51). -/
def State.isetOk (s : State) (b : Bytes) : Bool :=
  let w := isetWays b
  w ≤ 4 && (w == 0 || (isetLength b % 2 ^ w == 0 && (List.range (2 ^ w)).all (fun i => s.targetOk (isetTarget b i))))

/-- A staged copy word is in range: no reserved STATE, no FENCED or FILLING that the active bank does not hold (R77, R51). -/
def State.cwOk (s : State) (old new : Nat) : Bool :=
  cwState new != 3 && (cwState new == 0 || cwState new == cwState old) &&
    (!cwValid new || cwIl new || s.targetOk (cwTarget new))

/-- The entries of `size` bytes in which the staged contents differ from the active ones. -/
def State.changedEntries (s : State) (tid size : Nat) : List Nat :=
  ((s.changedWords tid).map (fun w => w.1 / size)).dedup

/-- The bytes of a policer entry that the staged contents change name a port that is not a USP (R300). -/
def State.stagedOk (s : State) (tid : Nat) : Bool :=
  if tid = 0x0800 then
    (s.changedEntries tid 16).all (fun i =>
      if i < 0x220 then schEntryOk (i % 8) (s.shadow tid (16 * i) 16)
      else policerOk (s.shadow tid (16 * i) 16) && s.isUsp ((i - 0x8000) / 16))
  else if tid = 0x0A40 then (s.changedEntries tid 128).all (fun i => s.isetOk (s.shadow tid (128 * i) 128))
  else if tid = 0x0A41 then
    (s.changedEntries tid 8).all (fun i => s.cwOk (leNat (s.active tid (8 * i) 8)) (leNat (s.shadow tid (8 * i) 8)))
  else true

/-- The rules on what a commit may change (R80, R119, R400): step 5 of R712. -/
def State.changeOk (s : State) (tid : Nat) : Bool :=
  if tid = 0x0900 then !s.flag Reg.SEM_TWIN_STATUS_ENABLED && ((s.changedWords tid).isEmpty || !(s.validExtents.any (fun x => entShared x.2)))
  else if tid = 0x0A40 then (s.changedEntries tid 128).all (fun i => !s.isetUsed i)
  else if tid = 0x0A41 then (s.changedEntries tid 16).all (fun i => !s.pairUsed i)
  else true

/-- A pipeline switches: it leaves the waiting list of every commit (R20). -/
def State.switchPipeline (s : State) (pl : Pipeline) : State :=
  { s with tbl := { s.tbl with pend := s.tbl.pend.map (fun c => { c with waiting := c.waiting.filter (· ≠ pl) }),
                               held := s.tbl.held.filter (· ≠ pl) } }

end Sys2Proof.Machine
end

