-- ==== Sys2Proof/Machine/Flags.lean ====
section
/-! DEFINITION. Status flags and counts that are computed from the state they report, and the reading of control space:
register words, the common blocks, the overlays of FLT and the table apertures (R31 to R35, R711). -/

namespace Sys2Proof.Machine

/-- `f` is the field that `g` names, whatever the index. -/
def Field.is (f g : Field) : Bool := f.ss == g.ss && f.off == g.off && f.lsb == g.lsb

/-- Identical units of each subsystem (Table 1-7). -/
def unitCount (ss : Nat) : Nat :=
  [0, 2, 16, 1, 16, 4, 64, 5, 68, 8, 1, 32, 32, 3, 1, 1, 1, 1, 1].getD ss 0

/-- FLT holds an unacknowledged record from subsystem `ss` (Table 1-7). -/
def State.fltPend (s : State) (ss : Nat) : Bool :=
  let t := s.get Reg.FLT_HIST_TAIL_INDEX
  (List.range (s.get Reg.FLT_HIST_TAIL_UNREAD)).any (fun k =>
    ((SMap.find s.flt.hist ((t + k) % 64)).map (fun r => r.src / 256 == ss)).getD false)

/-- The highest bank tag among subsystem `ss`'s tables (Table 1-7). -/
def State.lastTag (s : State) (ss : Nat) : Nat :=
  ((s.tbl.tables.filter (fun t => t.1 / 256 == ss)).map (fun t => t.2.tag)).foldl max 0

/-- Bytes of the binding journal in flash (Table 1-11: 8 MiB). -/
def Journal.flashBytes (j : Journal) : Nat := 32 * (j.flash.map JRec.parts).sum

/-- The journal is above 75 % full (R107). -/
def Journal.high (j : Journal) : Bool := 3 * 8 * 2 ^ 20 < 4 * j.flashBytes

/-- Contexts reserved for allotted VFs, host PFs and the management PF (R195). -/
def State.reservedCtx (s : State) : Nat := (s.mov.allot.map (fun a => a.2.length)).sum + s.usps.length + 64

/-- Free shared contexts (R195). -/
def State.sharedCtxFree (s : State) : Nat :=
  2048 - s.reservedCtx - (s.mov.ctxs.filter (fun c => c.shared)).length

/-- The state of home slice `i`. -/
def State.homeSlice (s : State) (i : Nat) : SliceSt := SMap.get s.dir.slices i SliceSt.dflt

/-- Requests that hold a tracker entry of slice `i` in class `t`. -/
def SliceSt.tracked (x : SliceSt) (t : Track) : Nat :=
  ((x.retry ++ x.txns.map Txn.req ++ (x.txns.map (fun t => t.chained.map Prod.fst)).flatten ++ x.lineQ
    ++ x.missing.map Prod.snd).filter (fun r => r.track == t)).length

/-- Shared tracker entries of a slice: 4,096 less 32 for each USP (R124, Table 3-11). -/
def State.sharedTrackers (s : State) : Nat := 4096 - 32 * s.usps.length

/-- Slots of a port's tag space in use or quarantined. -/
def slotsOf (m : SMap TagSlot) (size p : Nat) (f : TagSlot → Bool) : Nat :=
  (m.filter (fun x => x.1 / size == p && f x.2)).length

/-- Ingots of the shared buffer that are held (R239). -/
def State.sharedHeld (s : State) : Nat := (s.xbr.shared.map Prod.snd).sum

/-- Ingots of the shared buffer: 702,976, and 768 more for each absent port (R239). -/
def State.sharedSize (s : State) : Nat := 702976 + 768 * (64 - s.presentPorts.length)

/-- Channel `n` is host-controlled: its port is a PASS DSP bound to a vPPB as an SLD or PCIe device (R654). -/
def State.hostChan (s : State) (n : Nat) : Bool :=
  let p := s.get Reg.SPC_CH_CFG_PORT n
  s.isDsp p && !s.isPool p && s.prt.binds.any (fun b => b.2.port == p && b.2.ldId.isNone)

/-- A safe state is in force in some scope of subsystem `ss` (Table 1-7, R507). -/
def State.isSafe (s : State) (ss : Nat) : Bool :=
  s.flag Reg.FLT_STATUS_SAFE_MODULE || (ss == 0x06 && !s.flt.safePorts.isEmpty) || (ss == 0x09 && s.flt.safeSlices != 0)
    || (ss == 0x0B && s.flt.safeMover)

/-- A spare unit of subsystem `ss` is in use or a unit is retired (Table 1-7). -/
def State.isDegraded (s : State) (ss : Nat) : Bool :=
  match ss with
  | 0x04 => (List.range 256).any (fun n => s.flag Reg.LNC_LANE_STATUS_RETIRED n)
  | 0x05 => (List.range 4).any (fun b => s.get Reg.SEM_BUNDLE_STATUS_SPARE_FOR b != 0x1F)
  | 0x07 => s.get Reg.XBR_PLANE_STATUS_FAILED != 0
  | 0x09 => (List.range 8).any (fun i => s.flag Reg.DIR_SLICE_STATUS_FAILED i)
  | 0x0B => s.get Reg.MOV_ENGINE_FAILED != 0
  | 0x0C => s.get Reg.VLT_PC_FAILED != 0 || s.get Reg.VLT_SRAM_STATUS_SPARE_BANKS_FREE < 8
  | 0x0D => s.cmd.cores.any (fun c => !c)
  | _ => false

/-- Unacknowledged records (R494). -/
def State.unread (s : State) : List FltRec :=
  let t := s.get Reg.FLT_HIST_TAIL_INDEX
  (List.range (s.get Reg.FLT_HIST_TAIL_UNREAD)).filterMap (fun k => SMap.find s.flt.hist ((t + k) % 64))

/-- ALERT_N (R505). -/
def State.alertN (s : State) : Bool := s.unread.any (fun r => s.get Reg.FLT_CTL_ALERT_MIN ≤ r.cls)

/-- FAULT_N (R505). -/
def State.faultN (s : State) : Bool :=
  s.flt.safeFault || s.flt.slots.any (fun q => q.2.holds.contains .faultN) || s.flt.slotless.any (fun h => h.2 == .faultN)

/-- Fields whose value is computed from the state they report (R711). -/
def State.computed (s : State) (f : Field) (i : Nat) : Option Nat :=
  if f.is Reg.CLK_JOURNAL_BUF_BYTES then some s.jnl.bufBytes
  else if f.is Reg.POL_RELOC_STATUS_SLOTS_BUSY then some s.pol.relocs.length
  else if f.is Reg.POL_RELOC_STATUS_ENGINES_BUSY then
    some ((s.mov.ctxs.filter (fun c => c.leg != 0)).map Ctx.engine).dedup.length
  else if f.is Reg.POL_MAP_STATUS_JOURNAL_HIGH then some (b2n s.jnl.high)
  else if f.is Reg.POL_MAP_STATUS_REBUILDING then some (b2n (!s.pol.badPages.isEmpty))
  else if f.is Reg.POL_MAP_STATUS_RUNS then some s.jnl.runs
  else if f.is Reg.POL_DSP_CFG_DOWN then some (b2n (s.isDsp i && !(s.port i).up))
  else if f.is Reg.DIR_SLICE_STATUS_RETRY_DEPTH then some (s.homeSlice i).retry.length
  else if f.is Reg.DIR_SLICE_STATUS_EVB_DEPTH then some (s.homeSlice i).evb.length
  else if f.is Reg.DIR_SLICE_STATUS_HOLD then some (b2n (s.homeSlice i).heldStamp.isSome)
  else if f.is Reg.DIR_TRK_STATUS_IN_USE then
    some ((s.homeSlice i).tracked .write + (s.homeSlice i).tracked .reserved + (s.homeSlice i).tracked .shared)
  else if f.is Reg.DIR_TRK_STATUS_SHARED_FREE then some (s.sharedTrackers - (s.homeSlice i).tracked .shared)
  else if f.is Reg.DIR_WALK_STATUS_ACTIVE then some (b2n (s.dir.walk.isSome || s.dir.flushes.any (fun o => o.page.isSome)))
  else if f.is Reg.DIR_WALK_STATUS_EXTRA_PASS then some (b2n ((s.dir.walk.map Walk.extra).getD false))
  else if f.is Reg.MOV_CTX_STATUS_IN_USE then some s.mov.ctxs.length
  else if f.is Reg.MOV_CTX_STATUS_SHARED_FREE then some s.sharedCtxFree
  else if f.is Reg.MOV_ALLOT_COUNT then some (SMap.get s.mov.allot i []).length
  else if f.is Reg.XBR_PLANE_STATUS_ACTIVE then some (maskOf s.activePlanes)
  else if f.is Reg.XBR_PLANE_STATUS_SPARE then some (s.sparePlane.getD 7)
  else if f.is Reg.XBR_BUF_STATUS_SHARED_FREE then some (s.sharedSize - s.sharedHeld)
  else if f.is Reg.XBR_HR_STATUS_FREE then some (16384 - (s.xbr.headroom.map Prod.snd).sum)
  else if f.is Reg.SCH_HOLD_DEPTH then some (min 128 (SMap.get s.sch.holds i []).length)
  else if f.is Reg.SCH_HOLD_FULL then some (b2n (128 ≤ (SMap.get s.sch.holds i []).length))
  else if f.is Reg.PRT_TAG_STATUS_MEM_USE then some (slotsOf s.prt.memSlots 4096 i (fun x => x.user.isSome || x.quar))
  else if f.is Reg.PRT_TAG_STATUS_QUAR then
    some (slotsOf s.prt.memSlots 4096 i TagSlot.quar + slotsOf s.prt.ioSlots 1024 i TagSlot.quar)
  else if f.is Reg.SPC_CH_MON_VOLTS then (if s.flag Reg.SPC_CH_STATUS_ON i then some (Config.freeNat (s.fresh + i)) else none)
  else if f.is Reg.SPC_CH_STATUS_HOST then some (b2n (s.hostChan i))
  else if f.is Reg.HLM_LEDGER_CTL_PENDING then some s.hlm.pend.length
  else if f.is Reg.HLM_SESSIONS_OPEN then some s.hlm.sessions.length
  else if f.is Reg.FLT_STATUS_ALERT then some (b2n s.alertN)
  else if f.is Reg.FLT_STATUS_FAULT then some (b2n s.faultN)
  else if f.is Reg.FLT_STATUS_FLUSH_ACTIVE then some (b2n ((s.flt.flush.map (fun x => !x.waits)).getD false))
  else if f.is Reg.FLT_STATUS_DUMP_VALID then some (b2n (s.flt.dump.isSome && s.flt.flush.isNone))
  else if f.is Reg.FLT_STATUS_DUMP_INCOMPLETE then some (b2n (s.flt.flush.isNone && (s.flt.dump.map (fun d => !d.complete)).getD false))
  else if f.is Reg.FLT_STATUS_LOSS_VALID then some (b2n s.flt.lossBuf.isSome)
  else if f.is Reg.COMMON_SAFE then some (b2n (s.isSafe i))
  else if f.is Reg.COMMON_DEGRADED then some (b2n (s.isDegraded i))
  else if f.is Reg.REC_NEXT_SEQ_LO then some (s.trec.next % 2 ^ 32)
  else if f.is Reg.REC_NEXT_SEQ_HI then some (s.trec.next / 2 ^ 32)
  else if f.is Reg.REC_OLDEST_SEQ_LO then some (s.trec.oldest % 2 ^ 32)
  else if f.is Reg.REC_OLDEST_SEQ_HI then some (s.trec.oldest / 2 ^ 32)
  else none

/-- The value a read of field `f` of index `i` returns. -/
def State.val (s : State) (f : Field) (i : Nat := 0) : Nat := ((s.computed f i).getD (s.get f i)) % 2 ^ f.width

/-- The fields at control address `a` with their indices. -/
def fieldsAt (a : Nat) : List (Field × Nat) :=
  regMap.filterMap (fun x =>
    let base := x.1.ss * 0x1000000 + x.1.off
    if a < base then none
    else if x.1.stride = 0 then (if a = base then some (x.1, 0) else none)
    else if (a - base) % x.1.stride = 0 ∧ (a - base) / x.1.stride < x.2 then some (x.1, (a - base) / x.1.stride)
    else none)

/-- Codes of a slot state (Table 12-10). -/
def qstateCode : QState → Nat
  | .observe => 0
  | .grace => 1
  | .quenched => 2
  | .settled => 3

/-- The word of FLT_QSLOT[i] (Table 12-10). -/
def State.qslotWord (s : State) (i : Nat) : Nat :=
  match SMap.find s.flt.slots i with
  | none => 0
  | some q => q.src + qstateCode q.state * 2 ^ 16 + q.entry * 2 ^ 18

/-- The 32 bytes of a fault record (Table 12-1). -/
def FltRec.toBytes (r : FltRec) : Bytes :=
  timeBytes r.time ++ leBytes 2 r.src ++ leBytes 1 (r.cls + 4 * r.quality + 64 * b2n r.promoted + 128 * b2n r.injected)
    ++ leBytes 1 r.repeats ++ leBytes 1 r.evt ++ slice r.syn 0 7 ++ slice r.ctx 0 8

/-- The 32 bytes of history record `j`; zero where none has been written. -/
def State.histBytes (s : State) (j : Nat) : Bytes :=
  match SMap.find s.flt.hist j with
  | none => List.replicate 32 0
  | some r => r.toBytes

/-- A byte range of a table aperture as a table ID and an offset (Table 11-5); the pair aperture is moved by MP_WINDOW. -/
def State.aperture (s : State) (a : Nat) : Option (Nat × Nat) :=
  let o := a % 0x1000000
  if o < 0x800000 then none
  else match a / 0x1000000 with
    | 0x06 => if o < 0x804000 then some (0x06C0, o - 0x800000)
              else if 0x810000 ≤ o ∧ o < 0x820000 then some (0x0680 + (o - 0x810000) / 0x400, (o - 0x810000) % 0x400)
              else none
    | 0x07 => if o < 0x800004 then some (0x0700, o - 0x800000)
              else if 0x801000 ≤ o ∧ o < 0x801400 then some (0x0701, o - 0x801000) else none
    | 0x08 => if o < 0x884000 then some (0x0800, o - 0x800000) else none
    | 0x09 => if o < 0x801000 then some (0x0900, o - 0x800000) else none
    | 0x0A => if o < 0x880000 then some (0x0A00 + (o - 0x800000) / 0x2000, (o - 0x800000) % 0x2000)
              else if o < 0x888000 then some (0x0A40, o - 0x880000)
              else if 0x900000 ≤ o ∧ o < 0xA00000 then
                some (0x0A41, o - 0x900000 + 0x100000 * s.get Reg.POL_MP_WINDOW)
              else none
    | _ => none

/-- The control address lies in an assigned window (R33). -/
def assigned (a : Nat) : Bool := 1 ≤ a / 0x1000000 && a / 0x1000000 ≤ 0x12

/-- The word a read of control address `a` returns (R33 to R35). -/
def State.word (s : State) (a : Nat) : Nat :=
  let ss := a / 0x1000000
  let o := a % 0x1000000
  if o = 0 then ss + 0x2000 + unitCount ss * 2 ^ 16
  else if o = 4 then
    s.val Reg.COMMON_READY ss + 2 * s.val Reg.COMMON_SAFE ss + 4 * s.val Reg.COMMON_DEGRADED ss + 8 * b2n (s.fltPend ss)
  else if o = 8 then s.lastTag ss
  else if ss = 0x0F ∧ 0x800 ≤ o ∧ o < 0xC00 then s.qslotWord ((o - 0x800) / 4)
  else if ss = 0x0F ∧ 0x4000 ≤ o ∧ o < 0x4800 then fieldAt (s.histBytes ((o - 0x4000) / 32)) (o % 32) 4
  else if ss = 0x0F ∧ 0x10000 ≤ o ∧ o < 0x50000 then SMap.get s.flt.counts ((o - 0x10000) / 4) 0
  else match s.aperture a with
    | some (tid, off) => leNat (s.active tid off 4)
    | none => (fieldsAt a).foldl (fun w x => w + s.val x.1 x.2 * 2 ^ x.1.lsb) 0

/-- `n` words from address `a`, as bytes. -/
def State.words (s : State) (a n : Nat) : Bytes := ((List.range n).map (fun k => leBytes 4 (s.word (a + 4 * k)))).flatten

/-- ss_STATUS words of subsystems 0x01 to 0x12. -/
def State.statusWords (s : State) : Bytes := ((List.range 18).map (fun k => leBytes 4 (s.word ((k + 1) * 0x1000000 + 4)))).flatten

end Sys2Proof.Machine
end

