-- ==== Sys2Proof/Machine/Operands.lean ====
section
/-! DEFINITION. The operand forms of commands: parameter fields, unit operands and what makes one invalid, packets and
their framing (R457, R458). -/

namespace Sys2Proof.Machine

/-! ## Parameter fields -/

/-- One byte of the parameters. -/
def p8 (p : Bytes) (off : Nat) : Nat := fieldAt p off 1
/-- Two bytes. -/
def p16 (p : Bytes) (off : Nat) : Nat := fieldAt p off 2
/-- Four bytes. -/
def p32 (p : Bytes) (off : Nat) : Nat := fieldAt p off 4
/-- Eight bytes. -/
def p64 (p : Bytes) (off : Nat) : Nat := fieldAt p off 8

/-- The first check that fails, as the offset of the offending field. -/
def firstBad : List (Bool × Nat) → Option Nat
  | [] => none
  | (ok, off) :: l => if ok then firstBad l else some off

/-- A check of a field of a command, with the offset it answers when it fails. -/
def need (ok : Bool) (off : Nat) : Bool × Nat := (ok, off)

/-- The offset that stands for the header (R460). -/
def headerOffset : Nat := 0xFFFFFFFF

/-- Parameters of exactly `n` bytes. -/
def lenIs (n : Nat) (p : Bytes) : Option Nat := if p.length = n then none else some headerOffset

/-- Parameters of `lo` to `hi` bytes. -/
def lenIn (lo hi : Nat) (p : Bytes) : Option Nat := if lo ≤ p.length ∧ p.length ≤ hi then none else some headerOffset

/-! ## Status codes (Table 11-2) -/

/-- SUCCESS -/
def stSuccess : Nat := 0x0000
/-- STARTED -/
def stStarted : Nat := 0x0001
/-- BAD_OPCODE -/
def stBadOpcode : Nat := 0x0101
/-- BAD_LENGTH -/
def stBadLength : Nat := 0x0102
/-- BAD_CHECK -/
def stBadCheck : Nat := 0x0103
/-- BAD_PARAM -/
def stBadParam : Nat := 0x0104
/-- DENIED -/
def stDenied : Nat := 0x0201
/-- LOCKED -/
def stLocked : Nat := 0x0202
/-- CONFLICT -/
def stConflict : Nat := 0x0301
/-- EPOCH_STALE -/
def stEpochStale : Nat := 0x0302
/-- NO_RESOURCE -/
def stNoResource : Nat := 0x0401
/-- HW_FAULT -/
def stHwFault : Nat := 0x0501
/-- TIMEOUT -/
def stTimeout : Nat := 0x0502

/-! ## Packets (R457, R458) -/

/-- Zero bytes up to a multiple of 4. -/
def pad4 (b : Bytes) : Bytes := b ++ List.replicate (roundUp b.length 4 - b.length) 0

/-- A command packet: header (Table 11-1), parameters, padding, trailer. -/
def mkPacket (flags opcode tag context status : Nat) (body : Bytes) : Bytes :=
  let b := leBytes 1 1 ++ leBytes 1 flags ++ leBytes 2 opcode ++ leBytes 4 tag ++ leBytes 2 body.length ++ leBytes 2 context
    ++ leBytes 2 status ++ [0, 0] ++ pad4 body
  b ++ leBytes 4 (crc32c b).toNat

/-- OPCODE of a packet. -/
def pktOpcode (k : Bytes) : Nat := fieldAt k 2 2
/-- TAG of a packet. -/
def pktTag (k : Bytes) : Nat := fieldAt k 4 4
/-- PLEN of a packet. -/
def pktPlen (k : Bytes) : Nat := fieldAt k 8 2
/-- CONTEXT of a packet. -/
def pktContext (k : Bytes) : Nat := fieldAt k 10 2
/-- FLAGS of a packet. -/
def pktFlags (k : Bytes) : Nat := fieldAt k 1 1
/-- Parameters of a packet, without the padding. -/
def pktParams (k : Bytes) : Bytes := slice k 16 (pktPlen k)

/-- Framing checks of a request, steps 1 to 3 of R459: the status of the first that fails. -/
def framing (k : Bytes) : Option Nat :=
  if k.length ≠ 20 + roundUp (pktPlen k) 4 ∨ 4096 < pktPlen k then some stBadLength
  else if leNat (k.drop (k.length - 4)) ≠ (crc32c (k.take (k.length - 4))).toNat then some stBadCheck
  else if fieldAt k 0 1 ≠ 1 ∨ bitsOf (pktFlags k) 0 2 ≠ 0 ∨ bitsOf (pktFlags k) 4 4 ≠ 0 ∨ fieldAt k 12 4 ≠ 0 then
    some stBadParam
  else none

/-! ## Unit operands -/

/-- An LD operand 16u + k names an LD of a USP (R483). -/
def State.ldOperand (s : State) (ld : Nat) : Bool := ld < 1024 && s.isUsp (ld / 16)

/-- Vendor ID (R316). -/
def vendorId : Nat := 0x1F9A

/-- The routing ID of a Mover function's requests and of other functions' messages is what the host assigned; the model
names a function by its VCS and kind: host PF 0, VF j is j, management PF 0x8000, LD k is 0x9000 + k. -/
def fnCode : CfgTarget → Nat
  | .usp => 0xA000
  | .vppb v => 0xB000 + v.val
  | .hostPf => 0
  | .vf i => i.val + 1
  | .mgmtPf => 0x8000
  | .ld k => 0x9000 + k.val
  | .bound v => 0xC000 + v.val

end Sys2Proof.Machine
end

