-- ==== Sys2Proof/Machine/Cmd.lean ====
section
/-! DEFINITION. How Acrak executes one command: privilege, lock, parameter and state checks in the order of R459, the
response, and its records in the Transcript (R457 to R478). Each command is a `CmdSpec`. -/

namespace Sys2Proof.Machine

/-- How a command's own work ends. -/
inductive CmdResult where
  | done (reply : Bytes) (s : State)                -- SUCCESS
  | started (s : State) (journaled : Bool)           -- STARTED; the background command has the number `s.cmd.nextBg`
  | finished (s : State) (status : Nat) (reply : Bytes)   -- STARTED, with work that has already ended
  | bad (off : Nat)                                 -- BAD_PARAM at a field
  | fail (status : Nat)                             -- another status; nothing takes effect (R459)
  | failed (status : Nat) (s : State)                -- an error after an effect the chapter states (HW_FAULT of R577)
  | waits (w : WaitFor) (s : State)                  -- answers later

/-- A command of the opcode map: opcode, privilege (and what it is where it depends on the transport and the state, R543, R547), subsystem whose range it is in, PLEN check, objects it names (the USPs
they belong to, for TENANT), a further ground for DENIED, whether it would change a locked setting, the check of its parameters, its work. -/
structure CmdSpec where
  opcode : Nat
  priv : Priv
  privAt : Hdr → State → Priv := fun _ _ => priv
  sub : Nat
  len : Bytes → Option Nat
  objects : Bytes → State → List Nat := fun _ _ => []
  locks : Bytes → State → Bool := fun _ _ => false
  deny : Hdr → Bytes → State → Bool := fun _ _ _ => false
  check : Hdr → Bytes → State → Option Nat := fun _ _ _ => none
  run : Hdr → Bytes → State → CmdResult

/-- Rank of a privilege (R463). -/
def privRank : Priv → Nat
  | .observe => 0
  | .tenant => 0
  | .operate => 1
  | .admin => 2
  | .factory => 3

/-- Codes of MODULE_STATUS (Table 11-7). -/
def privCode : Priv → Nat
  | .observe => 0
  | .tenant => 1
  | .operate => 2
  | .admin => 3
  | .factory => 4

/-- Transport codes of a COMMAND record (Table 14-7). -/
def transportCode : Transport → Nat
  | .i3c => 0
  | .smbus => 1
  | .vdm _ => 2
  | .mailbox => 3
  | .partner _ => 4

/-- I3C or SMBus. -/
def transportWired : Transport → Bool
  | .i3c => true
  | .smbus => true
  | _ => false

/-- An SPDM session on that link carries the packets of that requester (Table 11-3). -/
def linkCarries : SpdmLink → Requester → Bool
  | .mctp r, q => r == q
  | .doeMgmt, q => decide (q.transport = .mailbox)
  | _, _ => false

/-- The open session that carries a request. -/
def State.sessionOf (s : State) (h : Hdr) : Option Session :=
  h.session.bind (fun id => s.hlm.sessions.find? (fun x => x.id == id && x.opened && linkCarries x.link h.req))

/-- The privilege of a secure session's packets (R462). -/
def State.sessionPriv (s : State) (h : Hdr) : Priv :=
  match s.sessionOf h with
  | none => .operate
  | some x => if x.factory && s.flag Reg.FLT_STATUS_TOUCHSTONE then .factory else if x.admin then .admin else .operate

/-- The privilege a request runs at (Table 11-3, R462). -/
def State.privOf (s : State) (h : Hdr) : Priv :=
  match h.req.transport with
  | .vdm u => if s.flag Reg.PRT_PORT_CFG_VDM_MGMT u.val then s.sessionPriv h else .tenant
  | .partner p => if p = .factory then .admin else p
  | _ => s.sessionPriv h

/-- The requester may issue the command (R463): TENANT may name only objects of its own USP. -/
def State.mayIssue (s : State) (c : CmdSpec) (h : Hdr) (p : Bytes) : Bool :=
  match s.privOf h with
  | .tenant =>
    (match h.req.transport with
     | .vdm u => decide (c.privAt h s = .observe) && !(c.objects p s).isEmpty && (c.objects p s).all (fun o => o == u.val)
     | _ => false)
  | q => privRank (c.privAt h s) ≤ privRank q

/-- The command's opcode range belongs to a standby-domain subsystem (R600). -/
def CmdSpec.standby (c : CmdSpec) : Bool := c.sub ∈ standbyIds

/-- The module serves the command in its present state (R507, R594, R600; log 12). -/
def State.serves (s : State) (c : CmdSpec) (h : Hdr) : Bool :=
  let wired := transportWired h.req.transport
  if s.clk.phase ≠ .off ∧ s.flag Reg.FLT_STATUS_SAFE_MODULE then
    ((decide (c.priv = .observe) && (c.standby || s.mainUp)) || c.opcode == 0xC822) && wired
  else match s.clk.phase with
  | .off => false
  | .boot | .keyed => decide (c.priv = .observe) && c.standby && wired
  | .ledgerHold => ((decide (c.priv = .observe) && c.standby) || c.opcode == 0xC902) && wired
  | .recovery => [0xC000, 0xC001, 0xC901, 0xC910, 0xC911, 0xC912, 0xC913, 0xC914].contains c.opcode
  | .standby | .released | .restored => c.standby
  | .ready => true

/-- The 4-byte reply that names an offending field (R460). -/
def offsetReply (off : Nat) : Bytes := leBytes 4 off

/-- Steps 5 to 9 of R459: how the command ends, with the state it leaves. -/
def CmdSpec.outcome (c : CmdSpec) (h : Hdr) (p : Bytes) (s : State) : CmdResult :=
  if !s.mayIssue c h p || c.deny h p s then .fail stDenied
  else if c.locks p s && s.flag Reg.HLM_STATUS_LOCKED then .fail stLocked
  else match c.check h p s with
    | some off => .bad off
    | none =>
      if !s.serves c h then .fail stConflict
      else match c.run h p s with
        | .started s' j => if 16 ≤ s.cmd.bg.length then .fail stNoResource else .started s' j
        | .finished s' st r => if 16 ≤ s.cmd.bg.length then .fail stNoResource else .finished s' st r
        | r => r

/-- Changes the command processor. -/
def State.modCmd (s : State) (f : Cmd → Cmd) : State := { s with cmd := f s.cmd }

/-- The RESPONSE record of a command (Table 14-7). -/
def State.recordResponse (s : State) (seq status : Nat) (reply : Bytes) : State :=
  s.record 0x04 0 (leBytes 8 seq ++ leBytes 2 status ++ leBytes 2 reply.length ++ [0, 0, 0, 0] ++ sha reply)

/-- Mailbox interrupt vector `v` of the management PF: sent, or pending while its vector or the function is masked or the function
is in D3hot (R465, Table 15-8). -/
def State.mbxIrq (s : State) (v : Nat) : State :=
  let u := s.mgmtUsp.getD 0
  let x := SMap.get s.mov.fns 0xFFFF (FnSt.dflt 16)
  let w := x.vecs.getD v Vec.dflt
  let d3 := (SMap.get s.prt.cfg ((2048 * u + 34) * 4096 + 0x44) 0).toNat % 4 == 3
  let bus := (SMap.get s.prt.cfg ((2048 * u + 2) * 4096 + 0x19) 0).toNat
  if !s.cmd.mbx.intEn then s
  else if w.masked || x.funcMask || d3 then
    let y := { x with vecs := x.vecs.modify v (fun z => { z with pba := true }) }
    { s with mov := { s.mov with fns := SMap.put s.mov.fns 0xFFFF y } }
  else s.emit (.msix u (256 * bus) w.addr w.data)

/-- Sends a response packet to its requester; a mailbox request's response goes to the response
buffer, a relayed command's to the partner (R461, R465, R482). -/
def State.sendPacket (s : State) (req : Requester) (session : Option Nat) (k : Bytes) : State :=
  match req.transport, session with
  | .mailbox, none =>
    (s.modCmd (fun c => { c with mbx := { c.mbx with busy := false, done := true, rsp := some k } })).mbxIrq 0
  | .partner _, _ => s.ctlSend (.response req.source k)
  | _, _ => s.emit (.packet req session k)

/-- Answers a command: response packet and RESPONSE record (R460, R571). -/
def State.answer (s : State) (req : Requester) (session : Option Nat) (opcode tag context seq status : Nat) (reply : Bytes) :
    State :=
  let flags := if status = stStarted then 3 else 1
  (s.sendPacket req session (mkPacket flags opcode tag context status reply)).recordResponse seq status reply

/-- Gives a background command that has just begun its entry (R472, R473). -/
def State.beginBg (s : State) (c : CmdSpec) (h : Hdr) (p : Bytes) (seq : Nat) (j : Bool) : State :=
  let b : Background :=
    { id := s.cmd.nextBg, req := h.req, session := h.session, opcode := c.opcode, tag := h.tag.toNat,
      context := h.context.toNat, seq := seq, params := p, journaled := j, result := none,
      dropped := false }
  s.modCmd (fun m => { m with nextBg := m.nextBg + 1, bg := m.bg ++ [b] })

/-- Sets the outcome of background command `id`: its completion event follows (BACKGROUND_COMMAND_END). -/
def State.endBg (s : State) (id status : Nat) (reply : Bytes) : State :=
  let upd := updFirst (fun b : Background => b.id == id && b.result.isNone)
    (fun b => { b with result := some (status, reply) }) s.cmd.bg
  s.modCmd (fun m => { m with bg := upd })

/-- As `endBg`, for work that may have no background command. -/
def State.endBg? (s : State) (id : Option Nat) (status : Nat) (reply : Bytes) : State :=
  match id with
  | none => s
  | some i => s.endBg i status reply

/-- Runs a command whose COMMAND record has the number `seq`, and answers it; the second component is the status (STARTED for
one that waits). -/
def CmdSpec.exec (c : CmdSpec) (h : Hdr) (p : Bytes) (seq : Nat) (s : State) : State × Nat :=
  let ans := fun (s : State) (status : Nat) (reply : Bytes) =>
    (s.answer h.req h.session c.opcode h.tag.toNat h.context.toNat seq status reply, status)
  match c.len p with
  | some off => ans s stBadLength (offsetReply off)
  | none =>
    match c.outcome h p s with
    | .done reply s' => ans s' stSuccess reply
    | .started s' j => ans (s'.beginBg c h p seq j) stStarted []
    | .finished s' st r => ans ((s'.beginBg c h p seq false).endBg s'.cmd.nextBg st r) stStarted []
    | .bad off => ans s stBadParam (offsetReply off)
    | .fail st => ans s st []
    | .failed st s' => ans s' st []
    | .waits w s' =>
      let x : Waiting := { req := h.req, session := h.session, opcode := c.opcode, tag := h.tag.toNat,
                           context := h.context.toNat, seq := seq, what := w, rest := [], dropped := false }
      ({ s' with tbl := { s'.tbl with waits := s'.tbl.waits ++ [x] } }, stSuccess)

/-- The COMMAND record of a command: transport, privilege, source, the packet (Table 14-7, R571); commands of OBSERVE
privilege carry SKIP_REPLAY, FW_UPDATE_WRITE's data is elided. -/
def State.recordCommand (s : State) (h : Hdr) (skip : Bool) (packet : Bytes) : State :=
  let elide : Bool := pktOpcode packet == 0xC911
  let ps := pktParams packet
  let body := if elide then
      packet.take 16 ++ ps.take 4 ++ leBytes 4 (ps.length - 8) ++ sha (ps.drop 8)
    else packet
  s.record 0x03 ((if elide then 1 else 0) + (if skip then 4 else 0))
    (leBytes 1 (transportCode h.req.transport) ++ leBytes 1 (privCode (s.privOf h)) ++ leBytes 2 h.req.source ++ [0, 0, 0, 0] ++ body)

/-- Executes a command that Acrak takes directly: COMMAND record, checks, work, response. An unpowered module takes none. -/
def CmdSpec.direct (c : CmdSpec) (h : Hdr) (p : Bytes) (s : State) : Host.Outcome State Fault Refusal :=
  .next (if s.clk.phase = .off then s else
    let pkt := mkPacket 0 c.opcode h.tag.toNat h.context.toNat 0 p
    (c.exec h p s.trec.next (s.recordCommand h (c.priv == .observe) pkt)).1)

/-- Answers the commands that wait for what `p` selects. The rest of each one's chain goes on as the next unit, or answers
CONFLICT when the status is an error (R470). -/
def State.answerWaits (s : State) (p : WaitFor → Bool) (status : Nat) (reply : Bytes) : State :=
  let ws := s.tbl.waits.filter (fun x => p x.what)
  let s := { s with tbl := { s.tbl with waits := s.tbl.waits.filter (fun x => !p x.what) } }
  forEach ws (fun x s =>
    let s := if x.dropped then s.recordResponse x.seq status reply
      else s.answer x.req x.session x.opcode x.tag x.context x.seq status reply
    if status = stSuccess ∨ status = stStarted then
      (if x.rest.isEmpty then s else s.modCmd (fun c => { c with jobs := { cmds := x.rest, urgent := true } :: c.jobs }))
    else forEach x.rest (fun q s =>
      s.answer q.req q.session (pktOpcode q.pkt) (pktTag q.pkt) (pktContext q.pkt) q.seq stConflict []) s) s

end Sys2Proof.Machine
end

