-- ==== Sys2Proof/Machine/PoolBase.lean ====
section
/-! DEFINITION. Where a pooled line lies (interleave sets, mirror pairs), accesses to device copies with their tag slots,
fences, and the abort of one extent's relocation (R65 to R77, R94 to R103, R325 to R329). -/

namespace Sys2Proof.Machine

/-! ## Places -/

/-- Lines of an extent (R95). -/
def linesPerExtent : Nat := 32768

/-- The extent of a line. -/
def extentOf (line : Nat) : Nat := line / linesPerExtent

/-- Bytes of a device page. -/
def pageBytes : Nat := 0x200000

/-- Target index and device address of offset `o` in set page `p` of an interleave set (R71). -/
def isetPlace (b : Bytes) (p o : Nat) : Nat × Nat :=
  let a := p * pageBytes + o
  let stripe := a / 4096
  let ways := 2 ^ isetWays b
  let w := stripe % ways
  (isetTarget b w, isetBase b w * pageBytes + stripe / ways * 4096 + a % 4096)

/-- Target index and device address that an entry or copy word gives offset `o`; none for a set that is unused or too short
(R70). -/
def State.place (s : State) (il : Bool) (target page o stamp : Nat) : Option (Nat × Nat) :=
  if il then
    let b := s.lookup 0x0A40 stamp (128 * target) 128
    if isetWays b = 0 ∨ isetLength b ≤ page then none else some (isetPlace b page o)
  else some (target, page * pageBytes + o)

/-- A copy of a line: copy number, STATE of its copy word, target index, device address. -/
structure Copy where
  no : Nat
  state : Nat
  port : Nat
  dpa : Nat
  slot : Nat
  deriving DecidableEq, Repr

/-- The copies of a line under an extent map entry, ascending; a proxy slice has a line's home in place of a copy (R403). -/
def State.copies (s : State) (e line stamp : Nat) : List Copy :=
  let o := line % linesPerExtent * 64
  if s.partnerLine line then
    (if s.twinOn then [{ no := 0, state := 0, port := homeTarget, dpa := 64 * line, slot := 0 }] else [])
  else if entMirrored e then
    [0, 1].filterMap (fun c =>
      let w := s.copyWordAt (entPage e) c stamp
      if cwValid w then
        (s.place (cwIl w) (cwTarget w) (cwPage w) o stamp).map (fun x =>
          { no := c, state := cwState w, port := x.1, dpa := x.2, slot := cwSlot w })
      else none)
  else ((s.place (entIl e) (entTarget e) (entPage e) o stamp).map (fun (x : Nat × Nat) =>
    ({ no := 0, state := 0, port := x.1, dpa := x.2, slot := 0 } : Copy))).toList

/-- The copy a read is served from (Table 2-7). -/
def State.readCopy (s : State) (e line stamp : Nat) : Option Copy :=
  let cs := (s.copies e line stamp).filter (fun c => c.state == 0)
  if entMirrored e ∧ ¬ entReloc e then
    match cs.find? (fun c => c.no == line / 64 % 2) with
    | some c => some c
    | none => cs.head?
  else cs.find? (fun c => c.no == 0)

/-- The copies a write goes to (Table 2-7). -/
def State.writeCopies (s : State) (e line stamp : Nat) : List Copy :=
  (s.copies e line stamp).filter (fun c => c.state == 0 || (entReloc e && c.state == 1))

/-- The FILLING copy of a relocating extent (RELOC_WR of Table 3-4). -/
def State.fillingCopies (s : State) (e line stamp : Nat) : List Copy :=
  (s.copies e line stamp).filter (fun c => c.state == 1)

/-! ## Tag slots (R325 to R329) -/

/-- A CXL.mem tag slot. -/
def State.memSlot (s : State) (p k : Nat) : TagSlot := SMap.get s.prt.memSlots (4096 * p + k) TagSlot.dflt

/-- Stores a CXL.mem tag slot. -/
def State.setMemSlot (s : State) (p k : Nat) (x : TagSlot) : State :=
  { s with prt := { s.prt with memSlots := SMap.store s.prt.memSlots (4096 * p + k) x TagSlot.dflt } }

/-- A CXL.io tag slot. -/
def State.ioSlot (s : State) (p k : Nat) : TagSlot := SMap.get s.prt.ioSlots (1024 * p + k) TagSlot.dflt

/-- Stores a CXL.io tag slot. -/
def State.setIoSlot (s : State) (p k : Nat) (x : TagSlot) : State :=
  { s with prt := { s.prt with ioSlots := SMap.store s.prt.ioSlots (1024 * p + k) x TagSlot.dflt } }

/-- The lowest free CXL.mem slot of a port. -/
def State.freeMem (s : State) (p : Nat) : Option Nat :=
  (List.range 4096).find? (fun k => (s.memSlot p k).user.isNone && !(s.memSlot p k).quar)

/-- Sends an access toward its device under slot `k` (R325). -/
def State.sendDev (s : State) (q : DevReq) (k : Nat) : State :=
  let x := s.memSlot q.port k
  let s := s.setMemSlot q.port k { x with user := some q.user, dpa := q.dpa, isRead := q.isRead }
  if q.isRead then s.emit (.devRead q.port k x.gen q.dpa 64)
  else s.emit (.devWrite q.port k x.gen q.dpa q.data q.mask q.mta q.poison)

/-- Issues an access, or lets it wait for a free slot (R329); one to the other twin crosses the Seam (R401). -/
def State.issueDev (s : State) (q : DevReq) : State :=
  if 64 ≤ q.port then s.twinDev q
  else match s.freeMem q.port with
  | some k => s.sendDev q k
  | none => { s with prt := { s.prt with issueQ := s.prt.issueQ ++ [q] } }

/-- Issues what waits for a slot of port `p`, the oldest first. -/
def State.pumpDev (s : State) (p : Nat) : State :=
  match s.prt.issueQ.find? (fun q => q.port == p), s.freeMem p with
  | some q, some k =>
    { s with prt := { s.prt with issueQ := delFirst (fun x => x.port == p) s.prt.issueQ } }.sendDev q k
  | _, _ => s

/-- Ends Acrak's own request on a port: its slot is free again. -/
def State.freeAcrak (s : State) (p : Nat) : State :=
  { s with prt := { s.prt with ioSlots := s.prt.ioSlots.map (fun x =>
      match x.2.user with
      | some (.acrak _) => if x.1 / 1024 = p then (x.1, { x.2 with user := none }) else x
      | _ => x) } }

/-- All ones: a full-line write (R148). -/
def fullMask : BitVec 64 := BitVec.allOnes 64

/-- The bytes of `new` selected by the mask over `old`. -/
def mergeLine (old new : Bytes) (mask : BitVec 64) : Bytes :=
  (List.range 64).map (fun i => if mask.getLsbD i then new.getD i 0 else old.getD i 0)

/-! ## Faults of POOL devices -/

/-- The LD and the pool address, as context bytes (R61; log 15). -/
def ctxLd (ld line : Nat) : Bytes := leBytes 2 ld ++ leBytes 6 (line * 64)

/-- Reports an event of the POOL device behind target `t`; context byte 31 tells a twin port (R117). -/
def State.reportDsp (s : State) (t cls evt : Nat) (ctx : Bytes) : State :=
  s.report (0x0A40 + t % 64) cls evt (slice ctx 0 7 ++ [if 64 ≤ t then 1 else (ctx8 ctx).getD 7 0])

/-! ## Fences (R75) -/

/-- Fences copy `c` of mirror pair `p` in both banks; the next lookup sees it. Only an IN_SYNC copy is fenced. -/
def State.fence (s : State) (p c : Nat) : State :=
  let w := s.copyWord p c
  if cwValid w && cwState w == 0 then
    let bs := leBytes 8 (putBits w 34 2 2)
    let s := s.writeBoth 0x0A41 (16 * p + 8 * c) bs
    let s := s.journal (.table 0x0A41 [(16 * p + 8 * c, bs)])
    (s.record 0x0A 0 (leBytes 4 p ++ leBytes 1 c)).report 0x0A81 corrected 1 (leBytes 4 p ++ leBytes 1 c)
  else s

/-! ## Abort of one extent's relocation (R100, R103) -/

/-- The relocation of extent `x` that has not ended. -/
def State.relocOf (s : State) (x : Nat) : Option Reloc :=
  s.pol.relocs.find? (fun r => r.extent == x && r.freeAt.isNone && !r.aborting)

/-- Changes the relocation in a slot. -/
def State.modReloc (s : State) (slot : Nat) (f : Reloc → Reloc) : State :=
  { s with pol := { s.pol with relocs := s.pol.relocs.map (fun r => if r.slot = slot then f r else r) } }

/-- Aborts the relocation of an extent: its descriptor is squashed and its entry is committed back, with POISONED set where
no copy holds current data; a replaced copy of a mirrored source returns FENCED. -/
def State.abortReloc (s : State) (r : Reloc) (lost : Bool) : State :=
  let s := s.modReloc r.slot (fun r => { r with aborting := true })
  let s := match r.ctx with
    | none => s
    | some c => { s with mov := { s.mov with ctxs := s.mov.ctxs.filter (fun (x : Ctx) => x.id != c) } }
  let s := match r.origPair with
    | some (p, c) => if lost then s else s.fence p c
    | none => s
  let e := if lost then putBit r.origEntry 4 true else r.origEntry
  let s := s.journals [.relocEnd r.slot, .run r.extent 1 e]
  s.moduleCommit 0 [] [(r.extent, e)] (.relocAbort [r.extent])

/-- A relocation whose destination failed (Table 2-11): CORRECTED 0x0A82. -/
def State.destFailed (s : State) (r : Reloc) : State :=
  (s.abortReloc r false).report 0x0A82 corrected 0 (leBytes 4 r.extent)

/-- A relocation whose source, or whose staying copy, is lost (Table 2-11). -/
def State.sourceFailed (s : State) (r : Reloc) : State :=
  let t := if cwIl r.srcCopy then 0 else cwTarget r.srcCopy
  (s.abortReloc r true).reportDsp t contained (if r.origPair.isSome then 7 else 6) (leBytes 4 r.extent)

end Sys2Proof.Machine
end

