-- ==== Sys2Proof/Machine/CfgSpace.lean ====
section
/-! DEFINITION. Configuration spaces of the functions of a VCS: identity, capability lists, module-chosen values, the
windows a host writes, and the HBR routing entries they give (R311 to R319, Tables 7-1 to 7-4). -/

namespace Sys2Proof.Machine

/-! ## Functions of a VCS (R311 to R313) -/

/-- The index of a function within its VCS. -/
def cfgIndex : CfgTarget → Nat
  | .usp => 0
  | .vppb v => 1 + v.val
  | .hostPf => 33
  | .mgmtPf => 34
  | .ld k => 35 + k.val
  | .bound v => 64 + v.val
  | .vf i => 128 + i.val

/-- The address of a byte of a function's configuration space in `Prt.cfg`. -/
def cfgAddr (u : Nat) (t : CfgTarget) (off : Nat) : Nat := (2048 * u + cfgIndex t) * 4096 + off

/-- A vPPB that can be bound (Table 7-1). -/
def bindable (v : Nat) : Bool := 18 ≤ v && v < 32

/-- What bindable vPPB `v` of VCS `u` is bound to. -/
def State.bindOf (s : State) (u v : Nat) : Option Bind := SMap.find s.prt.binds (32 * u + v)

/-- VFs that USP `u`'s host has enabled (R187). -/
def State.vfsOn (s : State) (u : Nat) : Nat := if u ∈ s.mov.vfEnable then SMap.get s.mov.numVfs u 0 else 0

/-- The function responds to configuration requests (R311 to R314); the bus range of VFs is checked beside it. -/
def State.cfgPresent (s : State) (u : Nat) : CfgTarget → Bool
  | .usp => s.isUsp u
  | .vppb v => s.isUsp u && (v.val != 1 || s.flag Reg.PRT_PORT_CFG_MGMT_USP u)
  | .hostPf => s.isUsp u
  | .mgmtPf => s.isUsp u && s.flag Reg.PRT_PORT_CFG_MGMT_USP u
  | .ld k => s.hasLd (16 * u + k.val)
  | .vf i => decide (i.val < s.vfsOn u)
  | .bound v => s.isUsp u && (s.bindOf u v.val).isSome

/-! ## Identity and capabilities (Tables 7-2 to 7-4; capability IDs and field places of PCIe Base, log 17) -/

/-- Device ID, class code, Device/Port Type of a function (Table 7-2). -/
def cfgIdent : CfgTarget → Nat × Nat × Nat
  | .usp => (0xC960, 0x060400, 5)
  | .vppb _ => (0xC961, 0x060400, 6)
  | .hostPf => (0xC962, 0x088000, 0)
  | .vf _ => (0xC963, 0x088000, 0)
  | .mgmtPf => (0xC964, 0x088000, 0)
  | .ld _ => (0xC965, 0x050210, 0)
  | .bound _ => (0, 0, 0)

/-- Offsets and IDs of a function's capabilities, ascending (Table 7-3). -/
def stdCaps : CfgTarget → List (Nat × Nat)
  | .usp => [(0x40, 0x01), (0x70, 0x10)]
  | .vppb _ => [(0x40, 0x01), (0x48, 0x05), (0x70, 0x10)]
  | .hostPf => [(0x40, 0x01), (0x48, 0x11), (0x70, 0x10)]
  | .vf _ => [(0x48, 0x11), (0x70, 0x10)]
  | .mgmtPf => [(0x40, 0x01), (0x48, 0x11), (0x70, 0x10)]
  | .ld _ => [(0x40, 0x01), (0x48, 0x11), (0x70, 0x10)]
  | .bound _ => []

/-- Offsets and IDs of a function's extended capabilities, ascending (Table 7-3). -/
def extCaps : CfgTarget → List (Nat × Nat)
  | .usp => [(0x100, 0x01), (0x150, 0x03), (0x160, 0x19), (0x190, 0x25), (0x1A0, 0x26), (0x1E0, 0x2A), (0x210, 0x31),
      (0x240, 0x27), (0x290, 0x32), (0x2B0, 0x2F), (0x2C0, 0x12), (0x2F0, 0x2E), (0x310, 0x23), (0x330, 0x23), (0x360, 0x23),
      (0x370, 0x23), (0x3C0, 0x0B), (0x400, 0x30)]
  | .vppb v => if bindable v.val then
      [(0x100, 0x01), (0x150, 0x0D), (0x160, 0x1D), (0x1C0, 0x19), (0x1F0, 0x25), (0x200, 0x26), (0x240, 0x2A), (0x270, 0x31),
        (0x2A0, 0x27), (0x2F0, 0x32), (0x310, 0x2F), (0x320, 0x12), (0x350, 0x23), (0x370, 0x23), (0x3A0, 0x23)]
      else [(0x100, 0x01), (0x150, 0x23)]
  | .hostPf => [(0x100, 0x01), (0x150, 0x03), (0x160, 0x0E), (0x170, 0x10), (0x1B0, 0x22), (0x1C0, 0x2E)]
  | .vf _ => [(0x100, 0x01), (0x150, 0x0E), (0x160, 0x22)]
  | .mgmtPf => [(0x100, 0x01), (0x150, 0x03), (0x160, 0x22), (0x170, 0x2E), (0x190, 0x0B)]
  | .ld _ => [(0x100, 0x01), (0x150, 0x03), (0x160, 0x2E), (0x180, 0x23), (0x1C0, 0x23)]
  | .bound _ => []

/-- Headers of a capability list: each names the offset of the next, 0 at the end (R317). -/
def capHeaders (ext : Bool) : List (Nat × Nat) → List (Nat × Nat × Nat)
  | [] => []
  | (o, id) :: rest =>
    let next := (rest.head?.map Prod.fst).getD 0
    (if ext then (o, 4, id + 2 ^ 16 + next * 2 ^ 20) else (o, 2, id + next * 256)) :: capHeaders ext rest

/-- Type 1 header. -/
def isBridge : CfgTarget → Bool
  | .usp => true
  | .vppb _ => true
  | _ => false

/-- The function that a multicast capability belongs to. -/
def mcTarget : McFn → CfgTarget
  | .usp => .usp
  | .vppb v => .vppb v

/-- Offset of its Multicast capability (Table 7-3). -/
def mcCap : McFn → Nat
  | .usp => 0x2C0
  | .vppb _ => 0x320

/-- Local multicast groups of VCS `u` (R334). -/
def State.mcGroups (s : State) (u : Nat) : List Nat := indicesOf 64 (SMap.get s.prt.mcAllot u 0)

/-- vPPB `v` has a device behind it (R314). -/
def State.vppbPresent (s : State) (u v : Nat) : Bool :=
  if bindable v then (s.bindOf u v).isSome else if 2 ≤ v then s.hasLd (16 * u + v - 2) else true

/-- Fields of a function's configuration space that do not read 0 at reset: offset, bytes, value. -/
def State.cfgFixed (s : State) (u : Nat) (t : CfgTarget) : List (Nat × Nat × Nat) :=
  let id := cfgIdent t
  let dsn : Nat := Config.deviceSerial.toNat
  let common : List (Nat × Nat × Nat) :=
    [(0x00, 2, if (match t with | .vf _ => true | _ => false) then 0xFFFF else vendorId),
     (0x02, 2, if (match t with | .vf _ => true | _ => false) then 0xFFFF else id.1), (0x06, 2, 0x10),
     (0x08, 4, 0x20 + id.2.1 * 256), (0x0E, 1, b2n (isBridge t)), (0x34, 1, if (stdCaps t).head?.map Prod.fst == some 0x48 then 0x48 else 0x40)]
    ++ capHeaders false (stdCaps t) ++ capHeaders true (extCaps t)
    ++ [(0x72, 2, 2 + id.2.2 * 16), (0x74, 4, 2 + (if isBridge t then 0 else 2 ^ 28)), (0x78, 2, 0x2810)]
  let dev2 := 15 + 16 + 2 ^ 16 + 2 ^ 17 + (if isBridge t then 64 else 0)
    + (match t with
       | .vppb v => if v.val = 0 then 32 else 0
       | .ld _ => 0x380
       | _ => 0)
  let own : List (Nat × Nat × Nat) := match t with
    | .usp => [(0x154, 8, dsn), (0x2C4, 2, (s.mcGroups u).length - 1)]
    | .vppb v => if bindable v.val then
        [(0x324, 2, (s.mcGroups u).length - 1), (0x88, 2, 0x07C0), (0x154, 2, 0x5F)]
        else []
    | .hostPf => [(0x10, 4, 4), (0x18, 4, 4), (0x4A, 2, 15), (0x4C, 4, 0x2000), (0x50, 4, 0x3000), (0x154, 8, dsn), (0x184, 2, 1), (0x186, 2, 1), (0x18A, 2, 0xC963), (0x18C, 4, 1),
        (0x190, 4, 1), (0x194, 4, 4), (0x1B4, 4, 2 ^ 31), (0x1B8, 4, 62 + 3 * 512)]
    | .vf _ => [(0x4A, 2, 3), (0x4C, 4, 0x2000), (0x50, 4, 0x3000), (0x164, 4, 2 ^ 31), (0x168, 4, 62 + 3 * 512)]
    | .mgmtPf => [(0x10, 4, 4), (0x4A, 2, 1), (0x4C, 4, 0x8000), (0x50, 4, 0x9000), (0x154, 8, dsn), (0x164, 4, 2 ^ 31), (0x168, 4, 62 + 3 * 512)]
    | .ld k => [(0x154, 8, dsn / 65536 * 65536 + 0x8000 + 16 * u + k.val)]
    | .bound _ => []
  common ++ [(0x94, 4, dev2), (0x10C, 4, 0x00462030), (0x108, 4, 0x00400000), (0x114, 4, 0xE000)] ++ own

/-- The byte that a list of fields gives an offset. -/
def fieldByte (fs : List (Nat × Nat × Nat)) (off : Nat) : Byte :=
  match fs.find? (fun (f : Nat × Nat × Nat) => f.1 ≤ off && off < f.1 + f.2.1) with
  | some f => byte (f.2.2 / 256 ^ (off - f.1))
  | none => 0

/-- The host-controlled slot channel behind bindable vPPB `v` (R654). -/
def State.slotOf (s : State) (u v : Nat) : Option Nat :=
  match s.bindOf u v with
  | some b => if b.ldId.isNone then (List.range 16).find? (fun n => s.get Reg.SPC_CH_CFG_PORT n == b.port) else none
  | none => none

/-- Slot Capabilities of a bindable vPPB (R315, Table 17-1). -/
def State.slotCaps (s : State) (u v : Nat) : Nat :=
  if ((s.bindOf u v).bind Bind.ldId).isSome then 0x58
  else 0x5B + (match s.slotOf u v with
    | some n => 90 * 128 + (n + 1) * 2 ^ 19
    | none => 0)

/-- AER status of function index `f` of VCS `u`. -/
def State.aerOf (s : State) (u f : Nat) : AerSt := SMap.get s.prt.aer (2048 * u + f) AerSt.dflt

/-- AER status of a function as configuration fields. -/
def State.aerLive (s : State) (u : Nat) (t : CfgTarget) : List (Nat × Nat × Nat) :=
  match SMap.find s.prt.aer (2048 * u + cfgIndex t) with
  | some x => [(0x104, 4, x.unc), (0x110, 4, x.cor), (0x11C, 16, x.hdr)]
  | none => []

/-- Link Status of a port's link: speed, width, Data Link Layer Link Active. -/
def State.linkStatus (s : State) (p : Nat) : Nat :=
  if (s.port p).up then s.get Reg.LNC_PORT_STATUS_RATE p + 1 + 16 * s.get Reg.LNC_PORT_STATUS_WIDTH p + 0x2000 else 0

/-- Fields that report the state of the module: TotalVFs and InitialVFs the allotment, NumVFs, VF Enable (R187), presence, link,
slot and containment state of a vPPB (R314, R331, Table 17-1), AER status. -/
def State.cfgLive (s : State) (u : Nat) (t : CfgTarget) : List (Nat × Nat × Nat) :=
  s.aerLive u t ++ (match t with
  | .hostPf =>
    let n := (SMap.get s.mov.allot u []).length
    [(0x17C, 2, n), (0x17E, 2, n), (0x180, 2, SMap.get s.mov.numVfs u 0), (0x178, 1, b2n (s.mov.vfEnable.contains u))]
  | .vppb v =>
    if bindable v.val then
      let st := SMap.get s.prt.slotStat (32 * u + v.val) 0
      let here : Bool := match s.slotOf u v.val with
        | some n => s.flag Reg.SPC_CH_STATUS_PRSNT n
        | none => (s.bindOf u v.val).isSome
      let ctl := (SMap.get s.prt.cfg (cfgAddr u t 0x89) (0x07 : Byte)).toNat
      [(0x84, 4, s.slotCaps u v.val), (0x8A, 2, st + (if here then 0x40 else 0)),
       (0x82, 2, match s.bindOf u v.val with
         | some b => if b.ldId.isNone then s.linkStatus b.port else 0
         | none => 0),
       (0x168, 1, b2n (s.prt.dpc.contains (32 * u + v.val)))]
      ++ (match s.slotOf u v.val with
          | some n => [(0x89, 1, putBits ctl 2 1 (1 - s.get Reg.SPC_CH_STATUS_REQ_ON n))]
          | none => [])
    else
      [(0x8A, 1, if s.vppbPresent u v.val then 0x40 else 0), (0x82, 2, if s.vppbPresent u v.val then 0x2106 else 0)]
  | .usp => [(0x82, 2, s.linkStatus u)]
  | _ => [])

/-- A byte of a function's configuration space: live, written by the host, or its reset value. -/
def State.cfgByte (s : State) (u : Nat) (t : CfgTarget) (off : Nat) : Byte :=
  let live := s.cfgLive u t
  if live.any (fun f => f.1 ≤ off && off < f.1 + f.2.1) then fieldByte live off
  else SMap.get s.prt.cfg (cfgAddr u t off) (fieldByte (s.cfgFixed u t) off)

/-- `n` bytes of configuration space as a number. -/
def State.cfgRead (s : State) (u : Nat) (t : CfgTarget) (off n : Nat) : Nat :=
  leNat ((List.range n).map (fun i => s.cfgByte u t (off + i)))

/-- Writable bits of a bridge function's header and PCI Express structures. -/
def bridgeWritable : List (Nat × Nat × Nat) :=
  [(0x04, 2, 0x547), (0x0C, 1, 0xFF), (0x18, 4, 0x00FFFFFF), (0x20, 4, 0xFFF0FFF0), (0x24, 4, 0xFFF0FFF0), (0x28, 8, 2 ^ 64 - 1),
    (0x3C, 1, 0xFF), (0x3E, 2, 0x7F), (0x44, 2, 0x103), (0x78, 2, 0x78FF), (0x80, 2, 0x0FFB), (0x88, 2, 0x1FFF), (0x98, 2, 0x17FF), (0x10C, 4, 2 ^ 32 - 1), (0x108, 4, 2 ^ 32 - 1), (0x114, 4, 2 ^ 32 - 1)]

/-- Writable bits of a Multicast capability at `c`. -/
def mcWritable (c : Nat) : List (Nat × Nat × Nat) :=
  [(c + 6, 2, 0x803F), (c + 8, 8, 2 ^ 64 - 2 ^ 12 + 63), (c + 0x10, 8, 2 ^ 64 - 1), (c + 0x18, 8, 2 ^ 64 - 1), (c + 0x20, 8, 2 ^ 64 - 1)]

/-- Bits that a host may write: offset, bytes, mask (PCIe Base, log 17). -/
def cfgWritable : CfgTarget → List (Nat × Nat × Nat)
  | .usp => bridgeWritable ++ mcWritable 0x2C0
  | .vppb v => bridgeWritable ++ (if bindable v.val then mcWritable 0x320 ++ [(0x156, 2, 0x5F), (0x166, 2, 0x00BF)] else [])
  | .hostPf => [(0x04, 2, 0x546), (0x0C, 1, 0xFF), (0x10, 4, 0xFFFF0000), (0x14, 4, 2 ^ 32 - 1), (0x18, 4, 0xFFFE0000), (0x1C, 4, 2 ^ 32 - 1),
      (0x3C, 1, 0xFF), (0x44, 2, 0x103), (0x4A, 2, 0xC000), (0x78, 2, 0x78FF), (0x98, 2, 0x17FF), (0x10C, 4, 2 ^ 32 - 1), (0x108, 4, 2 ^ 32 - 1),
      (0x178, 2, 0x18), (0x194, 4, 0xFFFFC000), (0x198, 4, 2 ^ 32 - 1)]
  | .vf _ => [(0x04, 2, 0x004), (0x4A, 2, 0xC000), (0x78, 2, 0x00FF), (0x10C, 4, 2 ^ 32 - 1), (0x108, 4, 2 ^ 32 - 1)]
  | .mgmtPf => [(0x04, 2, 0x546), (0x0C, 1, 0xFF), (0x10, 4, 0xFFFF0000), (0x14, 4, 2 ^ 32 - 1), (0x3C, 1, 0xFF), (0x44, 2, 0x103), (0x4A, 2, 0xC000),
      (0x78, 2, 0x78FF), (0x98, 2, 0x17FF)]
  | .ld _ => [(0x04, 2, 0x546), (0x0C, 1, 0xFF), (0x10, 8, 2 ^ 64 - 2 ^ 16), (0x3C, 1, 0xFF), (0x44, 2, 0x103), (0x4A, 2, 0xC000), (0x78, 2, 0x78FF), (0x98, 2, 0x17FF)]
  | .bound _ => []

/-- The mask of writable bits of a byte. -/
def cfgMask (t : CfgTarget) (off : Nat) : Byte := fieldByte (cfgWritable t) off

/-- Stores a byte of configuration space under its writable bits. -/
def State.cfgStore (s : State) (u : Nat) (t : CfgTarget) (off : Nat) (v : Byte) : State :=
  let d := fieldByte (s.cfgFixed u t) off
  let old := SMap.get s.prt.cfg (cfgAddr u t off) d
  let m := cfgMask t off
  { s with prt := { s.prt with cfg := SMap.store s.prt.cfg (cfgAddr u t off) ((old &&& ~~~m) ||| (v &&& m)) d } }

/-- Stores a word under byte enables. -/
def State.cfgWrite (s : State) (u : Nat) (t : CfgTarget) (off : Nat) (be : BitVec 4) (v : Word) : State :=
  forEach (List.range 4) (fun i s => if be.getLsbD i then s.cfgStore u t (off + i) (byte (v.toNat / 256 ^ i)) else s) s

/-- Returns every configuration register of VCS `u` to its reset value (R333). -/
def State.cfgReset (s : State) (u : Nat) : State :=
  { s with prt := { s.prt with cfg := s.prt.cfg.filter (fun (c : Nat × Byte) => c.1 / (2048 * 4096) != u) } }

/-- Returns one function's configuration registers to their reset values. -/
def State.cfgResetFn (s : State) (u : Nat) (t : CfgTarget) : State :=
  { s with prt := { s.prt with cfg := s.prt.cfg.filter (fun (c : Nat × Byte) => c.1 / 4096 != 2048 * u + cfgIndex t) } }

/-! ## HBR routing (R319; log 18: the manual gives the entries no layout) -/

/-- Table ID of a VCS's HBR routing. -/
def hbrTable (u : Nat) : Nat := 0x0680 + u

/-- The 24-byte routing entry of a vPPB: Secondary and Subordinate Bus Number, memory and prefetchable windows, Bridge Control,
Command, and its binding: port + 1, LD of an MLD + 1 (0 for none). -/
def State.hbrEntry (s : State) (u : Nat) (t : CfgTarget) : Bytes :=
  leBytes 2 (s.cfgRead u t 0x19 2) ++ leBytes 16 (s.cfgRead u t 0x20 16) ++ leBytes 2 (s.cfgRead u t 0x3E 2)
    ++ leBytes 2 (s.cfgRead u t 0x04 2) ++ (match t with
        | .vppb v => (match s.bindOf u v.val with
          | some b => [byte (b.port + 1), byte ((b.ldId.map (· + 1)).getD 0)]
          | none => [0, 0])
        | _ => [0, 0])

/-- All routing entries of VCS `u`: the USP function, then vPPBs 0 to 31. -/
def State.hbrBytes (s : State) (u : Nat) : Bytes :=
  s.hbrEntry u .usp ++ ((List.finRange 32).map (fun v => s.hbrEntry u (.vppb v))).flatten

/-- A routing entry as it is looked up. -/
structure HbrEntry where
  sec : Nat
  sub : Nat
  memBase : Nat
  memLimit : Nat
  pfBase : Nat
  pfLimit : Nat
  bridgeCtl : Nat
  command : Nat
  bound : Option Bind
  deriving DecidableEq, Repr

/-- The entry that 24 bytes spell: windows in bytes, of the 1 MiB granularity of a bridge. -/
def hbrOf (b : Bytes) : HbrEntry :=
  { sec := fieldAt b 0 1, sub := fieldAt b 1 1, memBase := fieldAt b 2 2 / 16 * 2 ^ 20, memLimit := fieldAt b 4 2 / 16 * 2 ^ 20 + 0xFFFFF,
    pfBase := fieldAt b 6 2 / 16 * 2 ^ 20 + fieldAt b 10 4 * 2 ^ 32, pfLimit := fieldAt b 8 2 / 16 * 2 ^ 20 + 0xFFFFF + fieldAt b 14 4 * 2 ^ 32,
    bridgeCtl := fieldAt b 18 2, command := fieldAt b 20 2,
    bound := if fieldAt b 22 1 = 0 then none
      else some { port := fieldAt b 22 1 - 1, ldId := if fieldAt b 23 1 = 0 then none else some (fieldAt b 23 1 - 1) } }

/-- Routing entry of vPPB `v` of VCS `u` by epoch stamp. -/
def State.hbrAt (s : State) (u v stamp : Nat) : HbrEntry := hbrOf (s.lookup (hbrTable u) stamp (24 * (v + 1)) 24)

/-- A window of the entry claims a memory address. -/
def HbrEntry.claims (e : HbrEntry) (a : Nat) : Bool :=
  bitOf e.command 1 && ((e.memBase ≤ a && a ≤ e.memLimit) || (e.pfBase ≤ a && a ≤ e.pfLimit))

/-- The entry's bus range holds a bus number. -/
def HbrEntry.hasBus (e : HbrEntry) (b : Nat) : Bool := 0 < e.sec && e.sec ≤ b && b ≤ e.sub

/-- Commits the routing entries of VCS `u` (R319). -/
def State.commitRoutes (s : State) (u : Nat) (after : After) : State :=
  s.moduleCommit 2 [(hbrTable u, 0, s.hbrBytes u)] [] after

/-- Bits that change forwarding: bus numbers, windows, Bridge Control, Command. -/
def changesRoute (off : Nat) : Bool :=
  (0x18 ≤ off && off < 0x1C) || (0x20 ≤ off && off < 0x30) || off == 0x3C || off == 0x04

/-- The routing ID of the host PF of USP `u` as the host assigned it: vPPB 0's secondary bus, function 0. -/
def State.pfRid (s : State) (u : Nat) : Nat := s.cfgRead u (.vppb 0) 0x19 1 * 256

/-- The routing ID of VF `j` (host-local index `j`) lies in vPPB 0's bus range (R313). -/
def State.vfReachable (s : State) (u j : Nat) : Bool := (s.pfRid u + j + 1) / 256 ≤ s.cfgRead u (.vppb 0) 0x1A 1

end Sys2Proof.Machine
end

