-- ==== Sys2Proof/Machine/XbrBase.lean ====
section
/-! DEFINITION. The fabric's queues: flows, reservations, the dynamic threshold, headroom, and how a message enters (R235 to
R245, R256 to R261). -/

namespace Sys2Proof.Machine

/-- Changes the fabric core. -/
def State.modXbr (s : State) (f : Xbr → Xbr) : State := { s with xbr := f s.xbr }

/-- Key of a flow. -/
def flow (src dest q : Nat) : Nat := (78 * src + dest) * 8 + q

/-- Source attachment of a flow. -/
def flowSrc (k : Nat) : Nat := k / 8 / 78
/-- Destination attachment of a flow. -/
def flowDest (k : Nat) : Nat := k / 8 % 78
/-- Queue of a flow. -/
def flowQ (k : Nat) : Nat := k % 8

/-- Attachment of home slice `i` (Table 1-2). -/
def sliceAtt (i : Nat) : Nat := 64 + i
/-- Attachment of Seam bundle `b`. -/
def seamAtt (b : Nat) : Nat := 73 + b

/-- Ingots of a message of `n` bytes. -/
def ingotsOf (n : Nat) : Nat := max 1 ((n + 63) / 64)

/-- K_Q[q] of R242. -/
def State.kq (s : State) (q : Nat) : Nat :=
  s.get ([Reg.XBR_DT_CTL_K_Q0, Reg.XBR_DT_CTL_K_Q1, Reg.XBR_DT_CTL_K_Q2, Reg.XBR_DT_CTL_K_Q3, Reg.XBR_DT_CTL_K_Q4,
    Reg.XBR_DT_CTL_K_Q5, Reg.XBR_DT_CTL_K_Q6, Reg.XBR_DT_CTL_K_Q7].getD q Reg.XBR_DT_CTL_K_Q7)

/-- S < 2^k × F with k in two's complement (R195, R242). -/
def alphaTest (k st free : Nat) : Bool :=
  if k < 8 then decide (st < 2 ^ k * free) else decide (st * 2 ^ (16 - k) < free)

/-- R242 for `n` ingots taken one after another by a queue that holds `st`, with `free` shared ingots free. -/
def takeShared (k : Nat) : Nat → Nat → Nat → Bool
  | 0, _, _ => true
  | n + 1, st, free => alphaTest k st free && takeShared k n (st + 1) (free - 1)

/-- Shared ingots that are free (R239). -/
def State.sharedFree (s : State) : Nat := s.sharedSize - s.sharedHeld

/-- Messages of a flow that its reservation holds. -/
def State.resvOf (s : State) (k : Nat) : List Msg := SMap.get s.xbr.resv k []
/-- Promoted messages of a flow. -/
def State.queueOf (s : State) (k : Nat) : List Msg := SMap.get s.xbr.queues k []
/-- Shared ingots of a flow. -/
def State.sharedOf (s : State) (k : Nat) : Nat := SMap.get s.xbr.shared k 0

/-- Stores a flow's reservation FIFO. -/
def State.setResv (s : State) (k : Nat) (l : List Msg) : State := s.modXbr (fun x => { x with resv := SMap.store x.resv k l [] })
/-- Stores a flow's promoted queue. -/
def State.setQueue (s : State) (k : Nat) (l : List Msg) : State := s.modXbr (fun x => { x with queues := SMap.store x.queues k l [] })
/-- Stores a flow's shared count. -/
def State.setShared (s : State) (k n : Nat) : State := s.modXbr (fun x => { x with shared := SMap.store x.shared k n 0 })

/-- Ingots charged to a source's reservation: messages in it, and ingots dispatched from it that are not acknowledged (R241). -/
def State.resvUse (s : State) (src : Nat) : Nat :=
  ((s.xbr.resv.filter (fun x => flowSrc x.1 == src)).map (fun x => (x.2.map Msg.ingots).sum)).sum
    + (s.xbr.retained.filter (fun g => g.resv && g.hdr.src.val == src)).length

/-- A port whose reservation is full withholds credits; one with room does not (R244). -/
def State.creditCheck (s : State) (src : Nat) : State :=
  if src < 64 then (if 512 ≤ s.resvUse src then s.withhold src .reserve else s.unhold src .reserve) else s

/-- Notes the tick at which an input queue's head became head (R294). -/
def State.noteHead (s : State) (k : Nat) : State := s.modXbr (fun x => { x with headIn := SMap.put x.headIn k s.tick })

/-- The flow holds no message. -/
def State.flowEmpty (s : State) (k : Nat) : Bool := (s.resvOf k).isEmpty && (s.queueOf k).isEmpty

/-- Q5 messages that have entered from a source toward a destination (R268). -/
def State.postedIn (s : State) (src dest : Nat) : Nat := SMap.get s.xbr.posted (78 * src + dest) 0

/-- The copies of a message with their PBAR: Q5 messages count, messages with PB_VALID take the count (R268). -/
def State.stampPbar (s : State) (m : Msg) (pb : Bool) : State × Msg :=
  let n := s.postedIn m.src m.dest
  let s := if m.q = 5 then s.modXbr (fun x => { x with posted := SMap.put x.posted (78 * m.src + m.dest) ((n + 1) % 65536) }) else s
  (s, { m with pbar := if pb then some n else none })

/-- A Q5 message of a source is transmitted, or discarded, at its output (R268). -/
def State.postedDone (s : State) (src dest q : Nat) : State :=
  let n := (SMap.get s.xbr.postedOut (78 * src + dest) 0 + 1) % 65536
  if q = 5 then s.modXbr (fun x => { x with postedOut := SMap.put x.postedOut (78 * src + dest) n }) else s

/-- A message enters the reservation of its source (R241, R245). -/
def State.enterMsg (s : State) (m : Msg) (pb : Bool) : State :=
  let k := flow m.src m.dest m.q
  let s := if s.flowEmpty k then s.noteHead k else s
  let x := if m.mc.isSome then (s, m) else s.stampPbar m pb
  (x.1.setResv k (s.resvOf k ++ [x.2])).creditCheck m.src

/-- A promoted message of a flow. -/
def State.pushQueue (s : State) (m : Msg) : State :=
  let k := flow m.src m.dest m.q
  let s := if s.flowEmpty k then s.noteHead k else s
  let x := s.stampPbar m m.pbar.isSome
  x.1.setQueue k (s.queueOf k ++ [x.2])

/-- Promotes a copy: shared ingots, or headroom ingots of its slice. -/
def State.promote (s : State) (m : Msg) : State :=
  let k := flow m.src m.dest m.q
  let s := if m.hr then
      let h := 78 * (m.src - 64) + m.dest
      s.modXbr (fun x => { x with headroom := SMap.put x.headroom h (SMap.get x.headroom h 0 + m.ingots) })
    else s.setShared k (s.sharedOf k + m.ingots)
  s.pushQueue m

/-- R242 passes for every one of some copies of one source, taken in order. -/
def State.allPass (s : State) : List Msg → Bool
  | [] => true
  | m :: ms =>
    let k := flow m.src m.dest m.q
    takeShared (s.kq m.q) m.ingots (s.sharedOf k) s.sharedFree
      && (s.setShared k (s.sharedOf k + m.ingots)).allPass ms

/-- Headroom ingots that slice `i` holds. -/
def State.headroomOf (s : State) (i : Nat) : Nat := ((s.xbr.headroom.filter (fun h => h.1 / 78 == i)).map Prod.snd).sum

/-- The headroom supplies every copy (R260): at most 2,048 ingots of the slice, 64 toward one destination. -/
def State.headroomFor (s : State) (i : Nat) (ms : List Msg) : Bool :=
  let n := (ms.map Msg.ingots).sum
  decide (s.headroomOf i + n ≤ 2048) && decide ((s.xbr.headroom.map Prod.snd).sum + n ≤ 16384)
    && ms.all (fun m => SMap.get s.xbr.headroom (78 * i + m.dest) 0 + m.ingots ≤ 64)

/-- Back-invalidate snoops of home slice `i` to some ports: all copies promoted, or all drawn from headroom; a multicast that
neither supplies waits, a single snoop stays in the slice's reservation (R245, R260). -/
def State.sendSnoops (s : State) (i : Nat) (ports : List Nat) (line : Nat) (kind : Snp) : State :=
  let mc := if ports.length < 2 then none else some 64
  let ms : List Msg := ports.map (fun u =>
    { src := sliceAtt i, dest := u, q := 0, len := 16, ingots := 1, epoch := s.tbl.epoch, mc := mc, pbar := none, hr := false,
      perr := false, body := .biSnp u line kind })
  if ms.isEmpty then s
  else if s.allPass ms then forEach ms (fun m s => s.promote m) s
  else if s.headroomFor i ms then forEach ms (fun m s => s.promote { m with hr := true }) s
  else if mc.isSome then s.modXbr (fun x => { x with mcWaits := x.mcWaits ++ [{ slice := i, copies := ms }] })
  else forEach ms (fun m s => s.enterMsg m false) s

end Sys2Proof.Machine
end

