-- ==== Sys2Proof/Machine/HomeBase.lean ====
section
/-! DEFINITION. The parts of a home slice: the home map, directory entries and their cache, trackers, snoops, answers to
requesters, victims (R118 to R140, R163). -/

namespace Sys2Proof.Machine

/-! ## The twin -/

/-- What this module tells the other twin of itself (R399, R550, Table 13-7). -/
def State.twinId (s : State) : TwinId :=
  let b := !s.flag Reg.SEM_TWIN_STATUS_TWIN_B
  { homeMap := sha (s.active 0x0900 0 4096), clear := !s.pol.map.any (fun x => bitOf x.2 0 && bitOf x.1 23 == b), dsn := Config.deviceSerial.toNat,
    boot := s.get Reg.HLM_BOOT_COUNTER, keyId := s.hlm.keyId,
    newest := (s.hlm.ledger.getLast?.map (fun (e : Nat × Bytes) => sha e.2)).getD zeroHash, cert := Config.identityCert }

/-! ## Slices -/

/-- Stores the state of slice `i`. -/
def State.setHome (s : State) (i : Nat) (x : SliceSt) : State :=
  { s with dir := { s.dir with slices := SMap.store s.dir.slices i x SliceSt.dflt } }

/-- Changes the state of slice `i`. -/
def State.modHome (s : State) (i : Nat) (f : SliceSt → SliceSt) : State := s.setHome i (f (s.homeSlice i))

/-- The home slice of a line by epoch stamp; none where the home map entry is not VALID (R118). -/
def State.homeAt (s : State) (line stamp : Nat) : Option Nat :=
  let b := leNat (s.lookup 0x0900 stamp (line / 64 % 4096) 1)
  if bitOf b 7 then some (b % 8) else none

/-- The counters of Table 3-12, in order. -/
def dirCounters : List Field :=
  [Reg.DIR_CNT_LOOKUP, Reg.DIR_CNT_MISS, Reg.DIR_CNT_SNOOP, Reg.DIR_CNT_FORWARD, Reg.DIR_CNT_CONFLICT, Reg.DIR_CNT_EVICT,
   Reg.DIR_CNT_RETRY, Reg.DIR_CNT_ANOMALY]

/-- Counts `n` in counter `k` of Table 3-12, for the slice and for all slices. -/
def State.countDir (s : State) (i k : Nat) (n : Nat := 1) : State :=
  let s := s.modHome i (fun x => { x with cnt := x.cnt.set k ((x.cnt.getD k 0 + n) % 2 ^ 32) })
  match dirCounters[k]? with
  | some f => s.bump f 0 n
  | none => s

/-- A protocol anomaly (R147, Table 3-5). -/
def State.anomaly (s : State) (i : Nat) : State := (s.countDir i 7).report (0x0910 + i) corrected 0 []

/-! ## The lost mask (R163) -/

/-- The lost mask of the ports. -/
def State.lostMask (s : State) : Nat := s.get Reg.DIR_LOST_LO + 2 ^ 32 * s.get Reg.DIR_LOST_HI

/-- Party `u` is lost: a port 0–63, or 0x40 the twin partner. -/
def State.isLost (s : State) (u : Nat) : Bool := if u = 0x40 then s.flag Reg.DIR_LOST_TWIN else bitOf s.lostMask u

/-- The source of a party's events: 0x0940 + u, or 0x0980 for the twin partner. -/
def partySource (u : Nat) : Nat := if u = 0x40 then 0x0980 else 0x0940 + u

/-! ## Directory entries (R129 to R132) -/

/-- The directory set of a line. -/
def setOf (line : Nat) : Nat := line % 2 ^ 23
/-- The tag of a line. -/
def tagOf (line : Nat) : Nat := line / 2 ^ 23
/-- The line of an entry. -/
def lineOf (set tag : Nat) : Nat := tag * 2 ^ 23 + set
/-- The directory page of a line: eight sets. -/
def pageOf (line : Nat) : Nat := setOf line / 8

/-- The entry in a way of a set. -/
def State.way (s : State) (set w : Nat) : DirEntry := SMap.get s.dir.entries (16 * set + w) DirEntry.dflt

/-- A free way (R131). -/
def DirEntry.isFree (e : DirEntry) : Bool := e.state == .i && !e.poisoned && !e.pinned

/-- Marks the directory page of a line dirty and most recently used (R133). -/
def State.touchPage (s : State) (i page : Nat) : State :=
  s.modHome i (fun x => { x with dirty := page :: x.dirty.filter (· ≠ page), cached := page :: x.cached.filter (· ≠ page) })

/-- Stores a directory entry. -/
def State.setWay (s : State) (i set w : Nat) (e : DirEntry) : State :=
  let s := { s with dir := { s.dir with entries := SMap.store s.dir.entries (16 * set + w) e DirEntry.dflt } }
  s.touchPage i (set / 8)

/-- The way that holds a line. -/
def State.findWay (s : State) (line : Nat) : Option Nat :=
  (List.range 16).find? (fun w =>
    let e := s.way (setOf line) w
    !e.isFree && e.tag == tagOf line)

/-- Applies R163 to an entry. -/
def State.scrub (s : State) (e : DirEntry) : DirEntry :=
  if e.state = .e then
    (if s.isLost e.owner then { e with state := .i, stable := .i, poisoned := true, owner := 0 } else e)
  else if e.state = .s then
    let m := maskOf ((indicesOf 64 e.sharers).filter (fun u => !s.isLost u))
    let t := e.twin && !s.isLost 0x40
    if m = 0 ∧ !t then { DirEntry.dflt with pinned := e.pinned, tag := e.tag } else { e with sharers := m, twin := t }
  else e

/-- The set's ages after a lookup that hit way `w`, or an allocation (R132). -/
def State.ageSet (s : State) (i set w : Nat) (hit : Bool) : State :=
  let s := if hit then
      forEach ((List.range 16).filter (fun v => v != w && !(s.way set v).isFree))
        (fun v s => s.setWay i set v { s.way set v with age := min 255 ((s.way set v).age + 1) }) s
    else s
  s.setWay i set w { s.way set w with age := 0 }

/-- Sharers of an entry as parties. -/
def DirEntry.parties (e : DirEntry) : List Nat := indicesOf 64 e.sharers ++ (if e.twin then [0x40] else [])

/-- The entry with exactly these parties as sharers; none leaves a free way. -/
def DirEntry.shared (e : DirEntry) (ps : List Nat) : DirEntry :=
  if ps = [] then DirEntry.dflt
  else { e with state := .s, stable := .s, pinned := false, poisoned := false, owner := 0,
                sharers := maskOf (ps.filter (· < 64)), twin := ps.contains 0x40 }

/-- The entry owned by party `u`. -/
def DirEntry.owned (e : DirEntry) (u : Nat) : DirEntry :=
  { e with state := .e, stable := .e, pinned := false, poisoned := false, owner := u, sharers := 0, twin := false }

/-- The entry of a line whose contents are lost. -/
def DirEntry.lost (e : DirEntry) : DirEntry :=
  { e with state := .i, stable := .i, pinned := false, poisoned := true, owner := 0, sharers := 0, twin := false }

/-- The 16 bytes of an entry (Table 3-1). -/
def DirEntry.toBytes (e : DirEntry) : Bytes :=
  let st := match e.state with
    | .i => 0 | .s => 1 | .e => 2 | .snpO => 4 | .snpV => 5 | .evict => 6 | .fill => 7
  leBytes 16 (e.tag % 2 ^ 16 + st * 2 ^ 16 + b2n e.pinned * 2 ^ 19 + b2n e.poisoned * 2 ^ 20 + e.owner % 256 * 2 ^ 24
    + e.sharers % 2 ^ 64 * 2 ^ 32 + b2n e.twin * 2 ^ 96 + e.age % 256 * 2 ^ 97)

/-! ## Line locks and trackers (R123 to R126) -/

/-- The line is locked: an active transaction, a request that waits for its directory page or in the retry queue, a victim. -/
def SliceSt.locked (x : SliceSt) (line : Nat) : Bool :=
  x.txns.any (fun t => t.req.line == line) || x.missing.any (fun m => m.2.line == line)
    || x.retry.any (fun r => r.line == line) || x.evb.any (fun e => e.line == line)

/-- Tracker entries of class `t` that source `a` holds in a slice. -/
def SliceSt.held (x : SliceSt) (a : Nat) (t : Track) : Nat :=
  ((x.retry ++ x.txns.map Txn.req ++ (x.txns.map (fun t => t.chained.map Prod.fst)).flatten ++ x.lineQ
    ++ x.missing.map Prod.snd).filter (fun r => r.track == t && r.src == a)).length

/-- A CXL.mem write. -/
def isWriteOp : MemOp → Bool
  | MemOp.memWr => true
  | MemOp.memWrPtl => true
  | _ => false

/-- The tracker entry a request takes: reserved for its USP, or a shared one under R125; none when it must wait. -/
def State.takeTrack (s : State) (i : Nat) (r : HomeReq) : Option Track :=
  let x := s.homeSlice i
  let wr := s.get Reg.DIR_TRK_CTL_WR_RESV
  let own := r.src < 64 && s.isUsp r.src
  let isWr := isWriteOp r.op && r.atom.isNone
  if own && isWr && decide (x.held r.src .write < wr) then some .write
  else if own && decide (x.held r.src .reserved < 32 - wr) then some .reserved
  else if alphaTest (s.get Reg.DIR_TRK_CTL_ALPHA_K) (x.held r.src .shared) (s.sharedTrackers - x.tracked .shared) then
    some .shared
  else none

/-! ## Snoops and answers -/

/-- Sends a CXL.mem completion to a USP's host, or across the Seam to the proxy slice that its tag names (Table 9-8). -/
def State.toHost (s : State) (u : Nat) (c : MemCpl) : State :=
  if u = 0x40 then s.twinSend (c.tag / 8192 % 4) 1 (.homeRsp c.tag c.row c.data c.poison c.mta) else s.emit (.memCpl u c)

/-- Sends one single-line snoop to each party that is not lost (R143); answers the ports asked and whether the partner was. -/
def State.snoop (s : State) (i : Nat) (parties : List Nat) (line : Nat) (kind : Snp) : State × Nat × Bool :=
  let ps := parties.filter (fun u => !s.isLost u)
  let s := if ps.contains 0x40 then s.twinSend (i % 4) 0 (.snp line kind) else s
  let s := s.sendSnoops i (ps.filter (· < 64)) line kind
  let s := if ps = [] then s else s.countDir i 2 ps.length
  (s, maskOf (ps.filter (· < 64)), ps.contains 0x40)

/-- Sends a request's answer; one toward a lost port is discarded (R163). `grant` is the caching state granted. -/
def State.answerHome (s : State) (r : HomeReq) (row : Nat) (data : Option Bytes) (poison : Bool) (grant : Option Meta) :
    State :=
  match r.usp, r.ctx with
  | some u, _ =>
    if s.isLost u then s
    else s.toHost u { tag := r.tag, row := row, data := data, poison := poison, mta := grant }
  | none, some c =>
    let rsp : ChunkRsp := match data with
      | some b => if row ≠ 9 then .row (Fin.ofNat 10 row) false else if poison then .poison else .data b
      | none => if row ≠ 9 then .row (Fin.ofNat 10 row) true else .wrote 64
    let a := r.line * 64
    { s with mov := { s.mov with rsps := s.mov.rsps ++ [(c, a, rsp)] } }
  | none, none => s

/-- Answers an atomic with its original value, or with an abort (R157, R160). -/
def State.answerAtom (s : State) (r : HomeReq) (a : AtomReq) (orig : Option Nat) : State :=
  match r.ctx with
  | some c =>
    let rsp : ChunkRsp := match orig with
      | some v => .atomic v
      | none => .row 6 true
    { s with mov := { s.mov with rsps := s.mov.rsps ++ [(c, a.hpa, rsp)] } }
  | none =>
    match r.usp with
    | none => s
    | some u =>
      if s.isLost u then s
      else if u = 0x40 then s.twinSend (r.tag / 8192 % 4) 1 (.atomRsp r.tag orig)
      else match orig with
        | some v => s.emit (.atomCpl u a.tag .sc v)
        | none => s.emit (.atomCpl u a.tag .ca 0)

/-- Reports a request refused for lost contents (R160, R161): evt 3 a poisoned read or discarded write, 4 an atomic. -/
def State.reportPoison (s : State) (r : HomeReq) (evt : Nat) : State :=
  match r.usp with
  | some u => s.report (partySource u) contained (if u = 0x40 then 0 else evt) (ctxLd r.ld r.line)
  | none => if evt = 4 then s.report 0x0990 contained 0 (ctxLd r.ld r.line) else s

/-! ## Atomics (R156 to R160) -/

/-- The new value of the operand of an atomic (R156). -/
def atomValue (a : AtomReq) (orig : Nat) : Nat :=
  match a.op with
  | .fetchAdd => (orig + a.operand) % 2 ^ (8 * a.size)
  | .swap => a.operand % 2 ^ (8 * a.size)
  | .cas => if orig = a.compare % 2 ^ (8 * a.size) then a.operand % 2 ^ (8 * a.size) else orig

/-- Executes an atomic on a line: the original value and the new line. -/
def atomLine (a : AtomReq) (b : Bytes) : Nat × Bytes :=
  let o := fieldAt b (a.hpa % 64) a.size
  (o, overlayBytes b (a.hpa % 64) (leBytes a.size (atomValue a o)))

/-! ## Categories (Table 3-3) -/

/-- The category of a request; `owner` says that the directory records its USP as the line's owner. -/
def HomeReq.category (r : HomeReq) (owner : Bool) : Cat :=
  if r.relocSlot.isSome then .relocWr
  else if r.atom.isSome then .atom
  else if isWriteOp r.op then (if owner && r.usp.isSome then .wb else .wr)
  else if r.usp.isNone then .rdNc
  else match r.op with
    | .memInv | .memInvNT => .invO
    | _ =>
      if r.snp = .snpData ∨ r.mval = some .s then .rdS
      else if r.snp = .snpInv then .rdO
      else .rdNc

/-- A transaction that has just become active. -/
def Txn.start (r : HomeReq) (c : Cat) : Txn :=
  { req := r, cat := c, way := none, snoops := 0, twinSnoop := false, ownerSnoop := none, rspS := false, accs := [],
    data := none, poison := false, wback := false, heldData := none, answered := false, wrote := false, needData := false,
    original := [], chainLeft := 15, chained := [], failed := false, lostOwner := false, badCopy := none,
    poisonLine := false, row := 9, granted := none, cmpTo := none }

/-- The request reads memory before it can be answered or computed. -/
def Cat.reads : Cat → Bool
  | .rdS | .rdO | .rdNc | .atom => true
  | _ => false

/-! ## Device accesses of a transaction -/

/-- Issues a read of a line's copy for a transaction or a victim. -/
def State.readDev (s : State) (user : Nat → SlotUser) (c : Copy) : State :=
  s.issueDev { port := c.port, user := user c.no, dpa := c.dpa, isRead := true, data := [], mask := fullMask, mta := none,
               poison := false }

/-- Issues a write to each of a line's copies. -/
def State.writeDevs (s : State) (user : Nat → SlotUser) (cs : List Copy) (data : Bytes) (mask : BitVec 64) (mta : Option Meta)
    (poison : Bool) : State :=
  forEach cs (fun c s => s.issueDev { port := c.port, user := user c.no, dpa := c.dpa, isRead := false, data := data,
                                      mask := mask, mta := mta, poison := poison }) s

/-- The access records of copies. -/
def accsOf (cs : List Copy) (isRead second : Bool) : List DevAcc :=
  cs.map (fun c => { port := c.port, copy := c.no, isRead := isRead, second := second })

/-- Sets the written bit of a line of a relocating extent, before the device writes (R95). -/
def State.noteWrite (s : State) (e line stamp : Nat) : State :=
  if entReloc e then
    match (s.fillingCopies e line stamp).head? with
    | some c => s.modReloc c.slot (fun r => { r with written := addNew (line % linesPerExtent) r.written })
    | none => s
  else s

/-! ## Victims (R137 to R140) -/

/-- Rank of a way as a victim: kind, inverse age, sharers, way; the least is chosen. -/
def DirEntry.victimRank (e : DirEntry) : Option (Nat × Nat × Nat) :=
  if e.pinned then none
  else if e.state = .i ∧ e.poisoned then some (1, 255 - e.age, 0)
  else if e.state = .s then some (2, 255 - e.age, e.parties.length)
  else if e.state = .e then some (3, 255 - e.age, 0)
  else none

/-- Lexicographic order of ranks. -/
def rankLt (a b : Nat × Nat × Nat) : Bool :=
  a.1 < b.1 || (a.1 == b.1 && (a.2.1 < b.2.1 || (a.2.1 == b.2.1 && a.2.2 < b.2.2)))

/-- The victim way of a set (R137 steps 2 to 4). -/
def State.victim (s : State) (set : Nat) : Option Nat :=
  ((List.range 16).foldl (fun (best : Option (Nat × (Nat × Nat × Nat))) w =>
    match (s.way set w).victimRank, best with
    | none, b => b
    | some r, none => some (w, r)
    | some r, some b => if rankLt r b.2 then some (w, r) else some b) none).map Prod.fst

/-- The lowest free way of a set (R137 step 1). -/
def State.freeWay (s : State) (set : Nat) : Option Nat := (List.range 16).find? (fun w => (s.way set w).isFree)

/-- Starts the eviction of an entry: snoops of an S or E victim, the poisoned write of a POISONED one (R138, R140). A
poisoned victim's way is taken at once as well (log 16). -/
def State.evict (s : State) (i : Nat) (line : Nat) (e : DirEntry) (stamp op : Nat) : State :=
  let e := s.scrub e
  let x := s.entryAt (extentOf line) stamp
  if e.poisoned then
    let cs := s.writeCopies x line stamp
    let ev : Evict :=
      { line := line, owner := none, snoops := 0, twinSnoop := false, entry := x, stamp := stamp, accs := accsOf cs false false,
        data := none, twin := none, rsp := none, flush := false, asked := 0, askedTwin := false, lostOwner := false, op := op }
    let s := s.modHome i (fun h => { h with evb := h.evb ++ [ev] })
    s.writeDevs (fun c => .evict i line c) cs (List.replicate 64 0) fullMask none true
  else
    let ps := if e.state = .e then [e.owner] else e.parties
    let r := s.snoop i ps line .snpInv
    let ev : Evict :=
      { line := line, owner := if e.state = .e then some e.owner else none, snoops := r.2.1, twinSnoop := r.2.2, entry := x,
        stamp := stamp, accs := [], data := none, twin := none, rsp := none, flush := false, asked := r.2.1, askedTwin := r.2.2, lostOwner := false, op := op }
    r.1.modHome i (fun h => { h with evb := h.evb ++ [ev] })

/-- What a request for a new entry gets: a way, after a victim where one is needed; none puts it in the retry queue (R127). -/
def State.allocWay (s : State) (i line stamp : Nat) : Option (Nat × State) :=
  let set := setOf line
  match s.freeWay set with
  | some w => some (w, s)
  | none =>
    match s.victim set with
    | none => none
    | some w =>
      if 64 ≤ (s.homeSlice i).evb.length then none
      else
        let e := s.way set w
        some (w, s.evict i (lineOf set e.tag) e stamp 0)

end Sys2Proof.Machine
end

