-- ==== Sys2Proof/Machine/Home.lean ====
section
/-! DEFINITION. Home transactions (R141 to R161): start, device answers, snoop answers, end; evictions, flushes, lost
ports; the directory's commands. -/

namespace Sys2Proof.Machine

/-! ## Transactions -/

/-- The transaction that holds a line. -/
def State.txnOf (s : State) (i line : Nat) : Option Txn := (s.homeSlice i).txns.find? (fun t => t.req.line == line)

/-- Changes the transaction that holds a line. -/
def State.modTxn (s : State) (i line : Nat) (f : Txn → Txn) : State :=
  s.modHome i (fun x => { x with txns := updFirst (fun t : Txn => t.req.line == line) f x.txns })

/-- Every snoop response has arrived. -/
def Txn.snooped (t : Txn) : Bool := t.snoops == 0 && !t.twinSnoop

/-- A read of a copy is outstanding. -/
def Txn.reading (t : Txn) : Bool := t.accs.any DevAcc.isRead

/-- The line's contents are lost to this transaction: its owner is lost and sent no write-back. -/
def Txn.noData (t : Txn) : Bool := t.lostOwner && !t.wback

/-- The 64 zero bytes that stand for lost data. -/
def zeroLine : Bytes := List.replicate 64 0

/-- What a proxy slice asks the home for: RD_S or RD_O for a memory read, RD_NC, INV_O and ATOM unchanged (R403). -/
def Txn.toProxy (t : Txn) : ProxyReq :=
  let r := t.req
  { line := r.line, upper := true, op := if t.cat = .invO then .memInv else .memRd,
    snp := match t.cat with
      | .rdS => .snpData
      | .rdO | .invO => .snpInv
      | _ => .snpCur,
    mval := none, tag := 0, data := [], mask := fullMask, poison := false, atom := r.atom }

/-- Issues the memory read of a transaction; a line none of whose copies can be read yields poison. -/
def State.txnRead (s : State) (i : Nat) (t : Txn) : State :=
  let r := t.req
  match s.readCopy r.entry r.line r.stamp with
  | none => s.modTxn i r.line (fun t => { t with data := some zeroLine, poison := true })
  | some c =>
    let s := s.modTxn i r.line (fun t => { t with accs := t.accs ++ accsOf [c] true false })
    if c.port = homeTarget then s.proxyAsk (.home i r.line c.no) (t.toProxy) else s.readDev (fun k => .home i r.line k) c

/-- Issues a transaction's memory write to every copy a write must reach (Table 2-7), after the written bit (R95). -/
def State.txnWrite (s : State) (i : Nat) (t : Txn) (data : Bytes) (mask : BitVec 64) (mta : Option Meta) : State :=
  let r := t.req
  let cs := s.writeCopies r.entry r.line r.stamp
  let s := s.noteWrite r.entry r.line r.stamp
  let s := s.modTxn i r.line (fun t => { t with accs := t.accs ++ accsOf cs false false })
  s.writeDevs (fun k => .home i r.line k) cs data mask mta r.poison

/-- The leg-2 write of a line: the FILLING copy only, skipped when the written bit is set, poisoned when the poison bit is
(R97). -/
def State.txnReloc (s : State) (i : Nat) (t : Txn) : State :=
  let r := t.req
  let l := s.pol.relocs.find? (fun x => r.relocSlot == some x.slot)
  let off := r.line % linesPerExtent
  let skip := (l.map (fun x => x.written.contains off)).getD true
  let bad := (l.map (fun x => x.poison.contains off)).getD false
  let cs := if skip then [] else s.fillingCopies r.entry r.line r.stamp
  let s := s.modTxn i r.line (fun t => { t with wrote := true, accs := t.accs ++ accsOf cs false false })
  s.writeDevs (fun k => .home i r.line k) cs r.data fullMask none bad

/-- The state the flow grants, as the answer carries it (R150). -/
def State.grantOf (s : State) (t : Txn) : Option Meta :=
  match t.way with
  | none => none
  | some w =>
    if t.poisonLine then none
    else match t.cat with
    | .rdS =>
      if (s.way (setOf t.req.line) w).stable = .i ∧ s.flag Reg.DIR_CTL_RD_S_GRANT_E ∧ t.granted ≠ some .s then some .a else some .s
    | .rdO | .invO => some .a
    | _ => none

/-- The answer of a read or ownership request. -/
def State.answerRead (s : State) (i : Nat) (t : Txn) : State :=
  let r := t.req
  let lost := t.noData
  let s := s.modTxn i r.line (fun t => { t with answered := true })
  let s := if lost then s.reportPoison r 3 else s
  let grant := if lost then none else s.grantOf t
  if t.cat = .invO then s.answerHome r (if lost then 6 else t.row) (if lost then some zeroLine else none) lost grant
  else s.answerHome r (if lost then 6 else t.row) (some (if lost then zeroLine else t.data.getD zeroLine)) (t.poison || lost) grant

/-- Takes the atomics queued for the line as continuations, up to 16 in a row; another request ends the chain (R158). -/
def chainAtoms (line : Nat) : Nat → Bytes → List HomeReq → List (HomeReq × Bytes) × Bytes × List HomeReq
  | 0, b, q => ([], b, q)
  | n + 1, b, q =>
    match q.find? (fun r => r.line == line) with
    | none => ([], b, q)
    | some r =>
      match r.atom with
      | none => ([], b, q)
      | some a =>
        let x := atomLine a b
        let y := chainAtoms line n x.2 (delFirst (fun r => r.line == line) q)
        ((r, leBytes 16 x.1) :: y.1, y.2.1, y.2.2)

/-- Computes an atomic on the latest data, with its chain, and issues the write of the line (R157, R158). -/
def State.txnAtom (s : State) (i : Nat) (t : Txn) (a : AtomReq) : State :=
  let b := t.data.getD zeroLine
  let x := atomLine a b
  let q := (s.homeSlice i).lineQ
  let y := if s.flag Reg.DIR_CTL_ATOM_CHAIN then chainAtoms t.req.line t.chainLeft x.2 q else ([], x.2, q)
  let s := s.modHome i (fun h => { h with lineQ := y.2.2 })
  let t' := { t with wrote := true, original := leBytes 16 x.1, chained := y.1 }
  let s := s.modTxn i t.req.line (fun u => { u with wrote := true, original := t'.original, chained := t'.chained })
  s.txnWrite i t' y.2.1 fullMask none

/-- The originals of an atomic and its chain, in queue order (R158); an abort of one that was refused. -/
def State.answerAtoms (s : State) (i : Nat) (t : Txn) : State :=
  let s := s.modTxn i t.req.line (fun t => { t with answered := true })
  let own := match t.req.atom with
    | none => s
    | some a => s.answerAtom t.req a (if t.failed then none else some (leNat t.original))
  let own := if t.failed then own.reportPoison t.req 4 else own
  forEach t.chained (fun c s => match c.1.atom with
    | none => s
    | some a => s.answerAtom c.1 a (some (leNat c.2))) own

/-- First part of a transaction's progress: the accesses that can be issued now. -/
def State.settleIssue (s : State) (i line : Nat) : State :=
  match s.txnOf i line with
  | none => s
  | some t =>
    if t.answered || t.poisonLine && t.cat != .wr then s
    else match t.cat with
      | .rdS | .rdO | .rdNc =>
        if t.snooped && t.data.isNone && !t.reading && t.accs.isEmpty && !t.noData then s.txnRead i t else s
      | .invO =>
        if s.partnerLine line && t.snooped && t.data.isNone && t.accs.isEmpty && !t.noData then s.txnRead i t else s
      | .wr | .wb =>
        if t.snooped && !t.wrote && t.accs.isEmpty then
          let r := t.req
          if t.noData && r.mask != fullMask then s.modTxn i line (fun t => { t with wrote := true, failed := true })
          else
            let s := s.modTxn i line (fun t => { t with wrote := true })
            match t.wback, t.data with
            | true, some b => s.txnWrite i t (mergeLine b r.data r.mask) fullMask r.mval
            | _, _ => s.txnWrite i t r.data r.mask r.mval
        else s
      | .atom =>
        if !t.snooped || t.wrote || !t.accs.isEmpty then s
        else if t.noData || t.poison then s.modTxn i line (fun t => { t with wrote := true, failed := true })
        else if s.partnerLine line then (s.modTxn i line (fun t => { t with wrote := true })).txnRead i t
        else match t.data, t.req.atom with
          | none, _ => s.txnRead i t
          | some _, some a => s.txnAtom i t a
          | some _, none => s
      | .relocWr => if t.wrote then s else s.txnReloc i t

/-- Second part: the answer that can be sent now. -/
def State.settleAnswer (s : State) (i line : Nat) : State :=
  match s.txnOf i line with
  | none => s
  | some t =>
    if t.answered then s
    else match t.cat with
      | .rdS | .rdO | .rdNc => if t.snooped && (t.data.isSome || t.noData) && !t.reading then s.answerRead i t else s
      | .invO => if t.snooped && (!s.partnerLine line || t.data.isSome || t.noData) then s.answerRead i t else s
      | .wr | .wb =>
        if t.wrote && t.accs.isEmpty then
          let s := s.modTxn i line (fun t => { t with answered := true })
          let s := if t.failed then s.reportPoison t.req 3 else s
          s.answerHome t.req t.row none false (if t.req.mval = some .s then some .s else none)
        else s
      | .atom => if t.wrote && t.accs.isEmpty then s.answerAtoms i t else s
      | .relocWr =>
        if t.wrote && t.accs.isEmpty then
          (s.modTxn i line (fun t => { t with answered := true })).answerHome t.req 9 none false none
        else s

/-- Progress of the transaction that holds a line. -/
def State.settle (s : State) (i line : Nat) : State :=
  (((s.settleIssue i line).settleIssue i line).settleAnswer i line)

/-! ## The start of a transaction -/

/-- Adds a transaction to the slice. -/
def State.addTxn (s : State) (i : Nat) (t : Txn) : State := s.modHome i (fun x => { x with txns := x.txns ++ [t] })

/-- A request to a private extent: line lock and order, no directory (R121). -/
def State.beginPrivate (s : State) (i : Nat) (r : HomeReq) : State :=
  (s.addTxn i (Txn.start r (r.category false))).settle i r.line

/-- A request that meets a POISONED line (R160, R161). -/
def State.beginPoisoned (s : State) (i : Nat) (r : HomeReq) (w : Nat) : State :=
  let t := { Txn.start r (r.category false) with way := some w, poisonLine := true }
  let s := s.addTxn i t
  match t.cat with
  | .rdS | .rdO | .rdNc | .invO =>
    ((s.modTxn i r.line (fun t => { t with answered := true })).reportPoison r 3).answerHome r 6 (some zeroLine) true none
  | .wr | .wb =>
    if r.mask = fullMask then s.settle i r.line
    else ((s.modTxn i r.line (fun t => { t with answered := true })).reportPoison r 3).answerHome r 6 none false none
  | .atom => s.answerAtoms i { t with failed := true }
  | .relocWr => s.settle i r.line

/-- The parties that a flow snoops, and whether the owner is among them (Table 3-4). -/
def DirEntry.toSnoop (e : DirEntry) (c : Cat) (r : HomeReq) : List Nat × Bool :=
  let other := e.parties.filter (fun u => some u != r.usp)
  match c, e.state with
  | .rdS, .e => if r.usp = some e.owner then ([], false) else ([e.owner], true)
  | .rdNc, .e => if r.usp = some e.owner then ([], false) else ([e.owner], true)
  | .rdO, .e | .invO, .e | .wr, .e => if r.usp = some e.owner then ([], false) else ([e.owner], true)
  | .atom, .e => ([e.owner], true)
  | .rdO, .s | .invO, .s | .wr, .s => (other, false)
  | .atom, .s => (e.parties, false)
  | _, _ => ([], false)

/-- The snoop a category sends (Table 3-4). -/
def Cat.snoopKind : Cat → Snp
  | .rdS => .snpData
  | .rdNc => .snpCur
  | _ => .snpInv

/-- Takes a write of the owner as a snoop's data (R150): memory write, Cmp to the owner, data to the requester. A proxy slice writes
to the home; where its requester is to own the line it asks the home again, since the write gives up the proxy's ownership
(R403). -/
def State.ownerData (s : State) (i : Nat) (t : Txn) (tag u : Nat) (mta : Meta) (data : Bytes) (mask : BitVec 64) : State :=
  let line := t.req.line
  let full := mask == fullMask
  let again := s.partnerLine line && (t.cat == .rdO || t.cat == .invO || t.cat == .atom)
  let s := if full then
      s.modTxn i line (fun t => { t with wback := true, data := if again then none else some data, cmpTo := some (u, tag) })
    else s.modTxn i line (fun t => { t with cmpTo := some (u, tag) })
  let s := s.countDir i 3
  let w : Txn := { t with req := { t.req with poison := false } }
  let proxy := s.partnerLine line
  let stay := t.cat == .rdS || t.cat == .rdNc
  let s := s.txnWrite i w data mask (some (if proxy && stay then .s else mta))
  let s := if s.isLost u then s else s.toHost u { tag := tag, row := 9, data := none, poison := false, mta := none }
  let now := full && !again && (mta = .i || ((t.cat = .rdS || t.cat = .rdNc) && mta = .s))
  match s.txnOf i line with
  | none => s
  | some t' =>
    if now && !t'.answered && (t'.cat = .rdS || t'.cat = .rdO || t'.cat = .rdNc) then s.answerRead i t' else s

/-- Takes a write of party `u` to a line that the slice holds or has queued: a snoop to `u` takes it as its data (Table 3-5). -/
def SliceSt.pullWrite (x : SliceSt) (u line : Nat) : Option (HomeReq × SliceSt) :=
  let p := fun (r : HomeReq) => r.line == line && r.usp == some u && isWriteOp r.op && r.atom.isNone
  match x.heldWb.find? p, x.lineQ.find? p, x.srcQ.find? p with
  | some r, _, _ => some (r, { x with heldWb := delFirst p x.heldWb })
  | none, some r, _ => some (r, { x with lineQ := delFirst p x.lineQ })
  | none, none, some r => some (r, { x with srcQ := delFirst p x.srcQ })
  | none, none, none => none

/-- A WB whose USP no longer owns the line when it becomes active is taken as a WR, an anomaly (R147). -/
def State.noteAnomaly (s : State) (i : Nat) (r : HomeReq) (c : Cat) : State := if r.owned && c == .wr then s.anomaly i else s

/-- A request to a shared extent whose directory page is cached: the flow of Table 3-4. None puts it in the retry queue. -/
def State.beginShared (s : State) (i : Nat) (r : HomeReq) : Option State :=
  let s := s.countDir i 0
  let set := setOf r.line
  let s := match s.findWay r.line with
    | none => s
    | some w =>
      let e := s.way set w
      let e' := s.scrub e
      let s := if e'.poisoned && !e.poisoned then s.reportOpen (partySource e.owner) contained (if e.owner = 0x40 then 0 else 1)
          (ctxLd r.ld r.line) else s
      if e' = e then s else s.setWay i set w e'
  match s.findWay r.line with
  | some w =>
    let e := s.way set w
    if e.poisoned ∧ r.relocSlot.isNone then some (s.beginPoisoned i r w)
    else
      let s := s.ageSet i set w true
      let c := r.category (decide (e.state = .e ∧ r.usp = some e.owner))
      let q := e.toSnoop c r
      let st := if q.2 then DState.snpO else if q.1 ≠ [] then .snpV else .fill
      let s := s.setWay i set w { s.way set w with state := st, stable := e.state, pinned := true }
      let k := s.snoop i q.1 r.line c.snoopKind
      let own := q.2 && (k.2.1 != 0 || k.2.2)
      let t := { Txn.start r c with
                 way := some w, snoops := k.2.1, twinSnoop := k.2.2, ownerSnoop := if own then some e.owner else none,
                 lostOwner := q.2 && !own }
      let s := (k.1.addTxn i t).noteAnomaly i r c
      let s := match if own then (s.homeSlice i).pullWrite e.owner r.line else none with
        | some h => (s.setHome i h.2).ownerData i t h.1.tag e.owner (h.1.mval.getD .i) h.1.data h.1.mask
        | none => s
      some (s.settle i r.line)
  | none =>
    let c := r.category false
    match c with
    | .rdS | .rdO | .invO =>
      match s.allocWay i r.line r.stamp with
      | none => none
      | some (w, s) =>
        let s := s.setWay i set w { DirEntry.dflt with tag := tagOf r.line, state := .fill, stable := .i, pinned := true }
        let s := s.addTxn i { Txn.start r c with way := some w }
        some (s.settle i r.line)
    | _ => some (((s.addTxn i (Txn.start r c)).noteAnomaly i r c).settle i r.line)

/-- A directory page is under the recovery of R170. -/
def State.pageHeld (s : State) (page : Nat) : Bool := s.dir.flushes.any (fun o => o.page == some page)

/-- A request becomes active: it may wait for its directory page (R136) or for a dirty page's write (R134). None puts it in
the retry queue (R127, R170). -/
def State.activate (s : State) (i : Nat) (r : HomeReq) : Option State :=
  if !entShared r.entry then some (s.beginPrivate i r)
  else
    let x := s.homeSlice i
    let pg := pageOf r.line
    if s.pageHeld pg then none
    else if pg ∉ x.cached then some ((s.countDir i 1).modHome i (fun x => { x with missing := x.missing ++ [(pg, r)] }))
    else if pg ∉ x.dirty ∧ 512 ≤ x.dirty.length then some (s.modHome i (fun x => { x with missing := x.missing ++ [(pg, r)] }))
    else s.beginShared i r

/-- Puts a request in the retry queue (R127). -/
def State.toRetry (s : State) (i : Nat) (r : HomeReq) : State :=
  (s.countDir i 6).modHome i (fun x => { x with retry := x.retry ++ [r] })

/-- A request that already holds its tracker entry becomes active, or waits in the retry queue. -/
def State.resume (s : State) (i : Nat) (r : HomeReq) : State := (s.activate i r).getD (s.toRetry i r)

/-! ## Flushes (DIR_RANGE_FLUSH, releases, R170) -/

/-- The line lies in a range of the operation. -/
def FlushOp.covers (o : FlushOp) (line : Nat) : Bool := o.ranges.any (fun r => r.1 ≤ line && line < r.1 + r.2)

/-- The directory entries that an operation has still to take: way key and line. -/
def State.flushLines (s : State) (o : FlushOp) : List (Nat × Nat) :=
  s.dir.entries.filterMap (fun (k, e) =>
    let line := lineOf (k / 16) e.tag
    let holds := match o.usp with
      | none => true
      | some u => e.owner == u && (e.state == .e || e.stable == .e) || (if u = 0x40 then e.twin else bitOf e.sharers u)
    if o.page.isNone && o.covers line && (e.state == .s || e.state == .e || e.pinned) && holds then some (k, line) else none)

/-- Takes one line back for an operation, when it is not locked and the eviction buffer has room. -/
def State.flushLine (s : State) (o : FlushOp) (k line : Nat) : State :=
  match s.homeAt line s.tbl.epoch with
  | none => s
  | some i =>
    let x := s.homeSlice i
    let e := SMap.get s.dir.entries k DirEntry.dflt
    if x.locked line || 64 ≤ x.evb.length || e.pinned then s
    else
      let own := if e.state = .e then some e.owner else none
      let ps := match o.usp with
        | none => if e.state = .e then [e.owner] else e.parties
        | some u => [u]
      let q := s.snoop i ps line .snpInv
      let lost := own.isSome && q.2.1 == 0 && !q.2.2
      let s := q.1.setWay i (k / 16) (k % 16) { e with state := .evict, stable := e.state, pinned := true }
      let ev : Evict :=
        { line := line, owner := own, snoops := q.2.1, twinSnoop := q.2.2, entry := s.entryAt (extentOf line) s.tbl.epoch, stamp := s.tbl.epoch,
          accs := [], data := none, twin := none, rsp := none, flush := true, asked := maskOf (ps.filter (· < 64)), askedTwin := ps.contains 0x40,
          lostOwner := lost, op := o.op }
      s.modHome i (fun h => { h with evb := h.evb ++ [ev] })

/-- The operation still has lines in the eviction buffers. -/
def State.flushBusy (s : State) (o : FlushOp) : Bool :=
  s.dir.slices.any (fun x => x.2.evb.any (fun e => e.flush && e.op == o.op))

/-- The directory flush of TWIN_DISABLE has ended (R408): the module that accepted the command asks the other one to do the same,
that one answers. -/
def State.flushedTwin (s : State) (twin : Bool) : State :=
  match s.sem.run with
  | none => s
  | some r =>
    if !twin then s
    else
      let s := s.modSem (fun m => { m with run := some { r with flushed := true } })
      if r.bgId.isSome then s.ctlSend (.ask .disable) else s.ctlSend (.reply (.ok s.twinId))

/-- Starts what the operations can start, and ends those that have nothing left: a command's outcome, a page rewritten free. -/
def State.pumpFlush (s : State) : State :=
  let s := forEach s.dir.flushes (fun o s => forEach (s.flushLines o) (fun x s => s.flushLine o x.1 x.2) s) s
  forEach s.dir.flushes (fun o s =>
    if s.flushBusy o || !(s.flushLines o).isEmpty || o.release.isSome then s
    else
      let s := { s with dir := { s.dir with flushes := s.dir.flushes.filter (fun x => x.op != o.op) } }
      let s := (s.endBg? o.bgId stSuccess []).flushedTwin o.twin
      match o.page with
      | none => s
      | some pg => forEach (List.range 128) (fun k s =>
          if (s.way (8 * pg + k / 16) (k % 16)).pinned then s
          else { s with dir := { s.dir with entries := SMap.del s.dir.entries (16 * (8 * pg) + k) } }) s) s

/-- The release's invalidations are complete (R86). -/
def State.releaseClear (s : State) (id : Nat) : Bool :=
  s.dir.flushes.all (fun o => o.release != some id || (!s.flushBusy o && (s.flushLines o).isEmpty))

/-- Starts an operation. -/
def State.startFlush (s : State) (ranges : List (Nat × Nat)) (usp bg rel : Option Nat) (twin : Bool := false) : State :=
  let o : FlushOp := { op := s.dir.nextOp, ranges := ranges, usp := usp, bgId := bg, release := rel, page := none, twin := twin }
  let s := { s with dir := { s.dir with flushes := s.dir.flushes ++ [o], nextOp := s.dir.nextOp + 1 } }
  s.pumpFlush

/-! ## The end of a transaction or an eviction -/

/-- Removes a lost requester from the entry that its own transaction leaves (R163). -/
def State.dropLost (s : State) (e : DirEntry) (u : Option Nat) : DirEntry :=
  match u with
  | none => e
  | some u =>
    if !s.isLost u then e
    else if e.state = .e ∧ e.owner = u then DirEntry.dflt
    else if e.state = .s then e.shared (e.parties.filter (· ≠ u)) else e

/-- The directory entry at the end of a transaction (Table 3-4, R161, R168). -/
def State.finalEntry (s : State) (t : Txn) (e : DirEntry) : DirEntry :=
  let keep := if e.stable = .s ∧ e.parties = [] then DirEntry.dflt else { e with state := e.stable, pinned := false }
  let r := t.req.usp
  if t.poisonLine then (if (t.cat = .wr ∨ t.cat = .wb) ∧ t.req.mask = fullMask then DirEntry.dflt else keep)
  else if t.noData then (if t.cat = .wr ∧ t.req.mask = fullMask then DirEntry.dflt else if t.cat = .relocWr then keep else e.lost)
  else s.dropLost (match t.cat, r with
    | .rdS, some u =>
      (match e.stable with
       | .s => e.shared ((e.parties.filter (· ≠ u)) ++ [u])
       | .e => if e.owner ≠ u ∧ t.rspS then e.shared [e.owner, u] else e.shared [u]
       | _ => if s.flag Reg.DIR_CTL_RD_S_GRANT_E ∧ t.granted ≠ some .s then e.owned u else e.shared [u])
    | .rdO, some u => e.owned u
    | .invO, some u => e.owned u
    | .wr, _ => DirEntry.dflt
    | .atom, _ => DirEntry.dflt
    | .wb, some u => if t.req.mval = some .s then e.shared [u] else DirEntry.dflt
    | _, _ => keep) r

/-- The next request that waits for a line becomes active (R123). -/
def State.nextFor (s : State) (i line : Nat) : State :=
  if (s.homeSlice i).locked line then s
  else match (s.homeSlice i).lineQ.find? (fun r => r.line == line) with
    | none => s
    | some r => (s.modHome i (fun x => { x with lineQ := delFirst (fun q => q.line == line) x.lineQ })).resume i r

/-- Changes a victim. -/
def State.modEvict (s : State) (i line : Nat) (f : Evict → Evict) : State :=
  s.modHome i (fun x => { x with evb := updFirst (fun e : Evict => e.line == line) f x.evb })

/-- The victim of a line. -/
def State.evictOf (s : State) (i line : Nat) : Option Evict := (s.homeSlice i).evb.find? (fun e => e.line == line)

/-- A victim's owner is lost without a write-back: the line is written poisoned to every copy, as R140 writes a poisoned
victim; a flushed line keeps its entry, which becomes POISONED (R163, R168). -/
def State.evictLost (s : State) (i : Nat) (e : Evict) : State :=
  let s := s.modEvict i e.line (fun e => { e with lostOwner := true })
  if e.flush then s
  else
    let cs := s.writeCopies e.entry e.line e.stamp
    (s.modEvict i e.line (fun e => { e with accs := e.accs ++ accsOf cs false false })).writeDevs (fun c => .evict i e.line c) cs
      zeroLine fullMask none true

/-- The entry that a flush leaves; a home snoop's takes from it what the snoop takes (R403), and a transaction that holds the line
keeps its way. -/
def DirEntry.flushed (e : DirEntry) (v : Evict) (held : Bool) : DirEntry :=
  let keep := fun (x : DirEntry) => if held then { x with tag := e.tag, stable := x.state, state := .fill, pinned := true } else x
  let e := { e with state := e.stable, pinned := false }
  match v.twin with
  | some .snpInv => keep DirEntry.dflt
  | some .snpData => keep (match v.owner, v.rsp with
    | some u, some .s => e.shared [u]
    | _, _ => DirEntry.dflt)
  | some _ => keep (match v.owner, v.rsp with
    | some _, some .e => e
    | some u, some .s => e.shared [u]
    | some _, _ => DirEntry.dflt
    | none, _ => e)
  | none =>
  if v.lostOwner ∧ v.data.isNone ∧ e.state = .e then e.lost
  else if e.state = .s then
    e.shared (e.parties.filter (fun u => !(if u = 0x40 then v.askedTwin else bitOf v.asked u)))
  else DirEntry.dflt

/-- A home snoop of a line of the partner's half (R403): the proxy slice snoops its own holders first. A line without holders here, or
whose transaction has taken them back and waits for the home, is answered at once; a line otherwise locked keeps the snoop
waiting. -/
def State.proxySnoop (s : State) (line : Nat) (kind : Snp) : State :=
  let x := fun (r : BiRsp) => s.twinSend ((s.homeAt line s.tbl.epoch).getD 0 % 4) 0 (.birsp line r)
  match s.homeAt line s.tbl.epoch, s.findWay line with
  | some i, some w =>
    let e := s.way (setOf line) w
    let st := if e.pinned then e.stable else e.state
    let ps := if st = .e then [e.owner] else if st = .s then e.parties else []
    let home := ((s.txnOf i line).map (fun t => t.snooped && t.accs.any (fun a => a.port == homeTarget))).getD false
    let gone := home && ((s.txnOf i line).map (fun t => t.cat == .rdO || t.cat == .invO || t.cat == .atom || t.cat == .wr || t.cat == .wb)).getD false
    if ps.isEmpty || gone then x .i
    else if kind = .snpData && st = .s then x .s
    else if kind = .snpCur && st = .s then x .s
    else if (s.homeSlice i).locked line && !home then s.modSem (fun m => { m with snps := m.snps ++ [(line, kind)] })
    else
      let q := s.snoop i ps line kind
      let s := if e.pinned then q.1 else q.1.setWay i (setOf line) w { e with state := .evict, stable := e.state, pinned := true }
      let ev : Evict :=
        { line := line, owner := if st = .e then some e.owner else none, snoops := q.2.1, twinSnoop := q.2.2, entry := proxyEntry,
          stamp := s.tbl.epoch, accs := [], data := none, twin := some kind, rsp := none, flush := true, asked := q.2.1, askedTwin := false,
          lostOwner := false, op := 0 }
      s.modHome i (fun h => { h with evb := h.evb ++ [ev] })
  | _, _ => x .i

/-- The answer to a home snoop, from what is left of the line's holders here (R403). -/
def Evict.proxyRsp (v : Evict) (k : Snp) : BiRsp :=
  match k with
  | .snpInv => .i
  | .snpData => if v.owner.isSome && v.rsp == some .s then .s else .i
  | _ => if v.owner.isSome then v.rsp.getD .i else .s

/-- Answers a home snoop whose local snoops and write-back are complete. -/
def State.proxyDone (s : State) (v : Evict) : State :=
  match v.twin with
  | none => s
  | some k => s.twinSend ((s.homeAt v.line s.tbl.epoch).getD 0 % 4) 0 (.birsp v.line (v.proxyRsp k))

/-- Takes up the home snoops that waited for a line (R403). -/
def State.pumpSnps (s : State) (line : Nat) : State :=
  match s.sem.snps.find? (fun x => x.1 == line) with
  | none => s
  | some x => (s.modSem (fun m => { m with snps := delFirst (fun y => y.1 == line) m.snps })).proxySnoop x.1 x.2

/-- R151: a transaction whose snoops, writes and answer are done releases its line and its tracker entry. -/
def execTransactionEnd (i : Slice) (line : Line) (s : State) : Host.Outcome State Fault Refusal :=
  .next (match s.txnOf i.val line with
    | none => s
    | some t =>
      if t.snooped && t.accs.isEmpty && t.answered then
        let set := setOf line
        let s := match t.way with
          | none => s
          | some w =>
            let e := s.finalEntry t (s.way set w)
            (s.setWay i.val set w e)
        let s := s.modHome i.val (fun x => { x with txns := delFirst (fun t : Txn => t.req.line == line) x.txns })
        ((s.pumpFlush).nextFor i.val line).pumpSnps line
      else s)

/-- R138: a victim leaves the eviction buffer once its responses and its memory writes are complete. -/
def execEvictionEnd (i : Slice) (line : Line) (s : State) : Host.Outcome State Fault Refusal :=
  .next (match s.evictOf i.val line with
    | none => s
    | some v =>
      if v.snoops = 0 ∧ v.twinSnoop = false ∧ v.accs = [] then
        let s := s.modHome i.val (fun x => { x with evb := delFirst (fun e : Evict => e.line == line) x.evb })
        let s := if v.flush then
            match s.findWay line with
            | none => s
            | some w => s.setWay i.val (setOf line) w ((s.way (setOf line) w).flushed v (s.txnOf i.val line).isSome)
          else s.countDir i.val 5
        (((s.proxyDone v).pumpFlush).nextFor i.val line).pumpSnps line
      else s)

/-! ## Admission (R122 to R128) -/

/-- The slice whose transaction, or whose eviction buffer, waits for party `u` on a line. -/
def State.snoopedBy (s : State) (u line : Nat) : Option (Nat × Bool) :=
  let asks := fun (m : Nat) (tw : Bool) => if u = 0x40 then tw else bitOf m u
  (List.range 8).findSome? (fun i =>
    if ((s.txnOf i line).map (fun t => asks t.snoops t.twinSnoop)).getD false then some (i, true)
    else if ((s.evictOf i line).map (fun v => asks v.snoops v.twinSnoop)).getD false then some (i, false)
    else none)

/-- Takes a write as the data of a victim's snoop (R138): memory write and Cmp. -/
def State.evictData (s : State) (i : Nat) (v : Evict) (tag u : Nat) (mta : Meta) (data : Bytes) (mask : BitVec 64) : State :=
  let cs := s.writeCopies v.entry v.line v.stamp
  let s := s.modEvict i v.line (fun v => { v with data := some data, accs := v.accs ++ accsOf cs false false })
  let s := (s.countDir i 3).noteWrite v.entry v.line v.stamp
  let s := s.writeDevs (fun c => .evict i v.line c) cs data mask (some mta) false
  if s.isLost u then s else s.toHost u { tag := tag, row := 9, data := none, poison := false, mta := none }

/-- Takes a write from party `u` that meets an outstanding snoop to it (Table 3-5); none when there is no such snoop. -/
def State.takeWriteback (s : State) (u line tag : Nat) (mta : Meta) (data : Bytes) (mask : BitVec 64) : Option State :=
  match s.snoopedBy u line with
  | some (i, true) =>
    (s.txnOf i line).bind (fun t =>
      if t.ownerSnoop = some u then some ((s.ownerData i t tag u mta data mask).settle i line) else none)
  | some (i, false) => (s.evictOf i line).map (fun v => s.evictData i v tag u mta data mask)
  | none => none

/-- The party owns the line in the directory. -/
def State.ownsLine (s : State) (u line : Nat) : Bool :=
  match s.findWay line with
  | none => false
  | some w =>
    let e := s.way (setOf line) w
    e.owner == u && (e.state == .e || (e.pinned && e.stable == .e))

/-- Answers a request of a granule in the safe state (R507) as a poisoned line. -/
def State.answerSafe (s : State) (r : HomeReq) : State :=
  match r.atom with
  | some a => (s.answerAtom r a none).reportPoison r 4
  | none =>
    (s.answerHome r 6 (if isWriteOp r.op then none else some zeroLine) (!isWriteOp r.op) none).reportPoison r 3

/-- A request reaches home slice `i`: a write that meets its snoop is that snoop's data; one for a line whose transaction has
not snooped yet is held for it; everything else joins the source queue. -/
def State.arrive (s : State) (i : Nat) (r : HomeReq) : State :=
  if bitOf s.flt.safeSlices i || s.flag Reg.DIR_SLICE_STATUS_FAILED i then s.answerSafe r
  else
    let wr := isWriteOp r.op && r.atom.isNone && entShared r.entry
    let taken := match r.usp with
      | some u => if wr then s.takeWriteback u r.line r.tag (r.mval.getD .i) r.data r.mask else none
      | none => none
    match taken with
    | some s' => s'
    | none =>
      let waits := (s.homeSlice i).missing.any (fun m => m.2.line == r.line && m.2.usp != r.usp)
        || (s.homeSlice i).retry.any (fun m => m.line == r.line && m.usp != r.usp)
      let owns := (r.usp.map (fun u => s.ownsLine u r.line)).getD false
      if wr && waits && owns then s.modHome i (fun x => { x with heldWb := x.heldWb ++ [r] })
      else s.modHome i (fun x => { x with srcQ := x.srcQ ++ [{ r with owned := wr && owns }] })

/-- A request carries an epoch that the home map hold keeps back (R120). -/
def SliceSt.holdsBack (x : SliceSt) (r : HomeReq) : Bool :=
  match x.heldStamp with
  | none => false
  | some e => !earlier r.stamp e

/-- Atomics in a slice's two units (R159). -/
def SliceSt.atoms (x : SliceSt) : Nat := (x.txns.filter (fun t => t.cat == .atom)).length

/-- A write at the head of a source queue whose USP has been snooped meanwhile: it is that snoop's data, and takes no tracker entry
(Table 3-5). -/
def State.lateWrite (s : State) (i : Nat) (r : HomeReq) : Option State :=
  if isWriteOp r.op && r.atom.isNone && entShared r.entry then
    let s := s.modHome i (fun x => { x with srcQ := delFirst (fun q => decide (q = r)) x.srcQ })
    r.usp.bind (fun u => s.takeWriteback u r.line r.tag (r.mval.getD .i) r.data r.mask)
  else none

/-- Admits the head of a source queue: its tracker entry, then the line lock or the line's queue. None: it stays. -/
def State.takeRequest (s : State) (i : Nat) (r : HomeReq) : Option State :=
  let x := s.homeSlice i
  if (s.lateWrite i r).isSome then s.lateWrite i r
  else if x.holdsBack r || (r.atom.isSome && 32 ≤ x.atoms) then none
  else match s.takeTrack i r with
    | none => none
    | some t =>
      let r' := { r with track := t }
      let s := s.modHome i (fun x => { x with srcQ := delFirst (fun q => decide (q = r)) x.srcQ })
      if x.locked r.line || x.lineQ.any (fun q => q.line == r.line) then
        some (s.modHome i (fun x => { x with lineQ := x.lineQ ++ [r'] }))
      else match s.activate i r' with
        | some s' => some s'
        | none => if 256 ≤ x.retry.length then none else some (s.toRetry i r')

/-- The heads of the source queues from attachment index `p` on, wrapping after 77. -/
def SliceSt.heads (x : SliceSt) (p : Nat) : List HomeReq :=
  ((List.range 78).map (fun k => (p + k) % 78)).filterMap (fun a => x.srcQ.find? (fun r => r.src == a))

/-- The first of these requests that can be admitted. -/
def State.admitFirst (s : State) (i : Nat) : List HomeReq → Option (Nat × State)
  | [] => none
  | r :: rs => match s.takeRequest i r with
    | some s' => some (r.src, s')
    | none => s.admitFirst i rs

/-- R122: a slice admits at most one request: the head of the retry queue when it can proceed, otherwise the first source at
or after ARB_PTR whose head can. -/
def execSliceAdmit (i : Slice) (s : State) : Host.Outcome State Fault Refusal :=
  let x := s.homeSlice i.val
  .next (if !s.mainUp ∨ s.flag Reg.DIR_SLICE_STATUS_FAILED i.val then s else
    match x.retry.head?.bind (fun r =>
        (s.modHome i.val (fun x => { x with retry := x.retry.drop 1 })).activate i.val r) with
    | some s' => s'
    | none =>
      if s.pipeHeld (.slice i) then s
      else match s.admitFirst i.val (x.heads (s.get Reg.DIR_SLICE_STATUS_ARB_PTR i.val)) with
      | some (a, s') => s'.set Reg.DIR_SLICE_STATUS_ARB_PTR i.val ((a + 1) % 78)
      | none => s)

/-! ## The directory cache (R133 to R136) -/

/-- Continues the requests that wait for a page. -/
def State.continuePage (s : State) (i page : Nat) : State :=
  let rs := ((s.homeSlice i).missing.filter (fun m => m.1 == page)).map Prod.snd
  let s := s.modHome i (fun x => { x with missing := x.missing.filter (fun m => m.1 != page) })
  forEach rs (fun r s => s.resume i r) s

/-- A page holds a pinned entry. -/
def State.pagePinned (s : State) (page : Nat) : Bool :=
  (List.range 128).any (fun k => (s.way (8 * page + k / 16) (k % 16)).pinned)

/-- Makes room for one more page: the least recently used page without a pinned entry leaves, written first when dirty (R135). -/
def State.cacheRoom (s : State) (i : Nat) : State :=
  let x := s.homeSlice i
  if x.cached.length + x.dirty.length < 2048 then s
  else match x.cached.reverse.find? (fun p => !s.pagePinned p) with
    | none => s
    | some p => s.modHome i (fun x => { x with cached := x.cached.filter (· ≠ p), dirty := x.dirty.filter (· ≠ p) })

/-- R136: a directory page arrives from the vault; the requests that wait for it continue. -/
def execDirCacheMissFill (i : Slice) (page : Nat) (s : State) : Host.Outcome State Fault Refusal :=
  .next (if (s.homeSlice i.val).missing.any (fun m => m.1 == page) ∧ page ∉ (s.homeSlice i.val).cached then
      let s := (s.cacheRoom i.val).modHome i.val (fun x => { x with cached := page :: x.cached })
      s.continuePage i.val page
    else s)

/-- R134: at 512 dirty pages the least recently updated one is written to both vault copies; the requests that wait for a
page to become dirty continue. -/
def execDirtyPageWriteback (i : Slice) (s : State) : Host.Outcome State Fault Refusal :=
  let x := s.homeSlice i.val
  .next (if x.dirty.length < 512 then s else
    let s := s.modHome i.val (fun x => { x with dirty := x.dirty.dropLast })
    match (x.missing.find? (fun m => x.cached.contains m.1)).map Prod.fst with
    | none => s
    | some p => s.continuePage i.val p)

/-! ## Snoop responses and conflicts (R150, R153 to R155) -/

/-- The response that ends party `u`'s snoop of a transaction: `none` for one that never came (R163, R168). -/
def State.snoopEnd (s : State) (i : Nat) (t : Txn) (u : Nat) (r : Option BiRsp) : State :=
  let own := t.ownerSnoop == some u
  let lost := r.isNone && own && !t.wback
  let s := s.modTxn i t.req.line (fun t =>
    { t with snoops := if u = 0x40 then t.snoops else maskOf ((indicesOf 64 t.snoops).filter (· ≠ u)),
             twinSnoop := t.twinSnoop && u != 0x40,
             ownerSnoop := if own then none else t.ownerSnoop,
             rspS := t.rspS || (own && r == some .s),
             lostOwner := t.lostOwner || lost })
  s.settle i t.req.line

/-- The same for a victim. -/
def State.evictSnoopEnd (s : State) (i : Nat) (v : Evict) (u : Nat) (r : Option BiRsp) : State :=
  let s := s.modEvict i v.line (fun v =>
    { v with snoops := if u = 0x40 then v.snoops else maskOf ((indicesOf 64 v.snoops).filter (· ≠ u)),
             twinSnoop := v.twinSnoop && u != 0x40,
             rsp := if v.owner == some u then r else v.rsp })
  if r.isNone && v.owner == some u && v.data.isNone then s.evictLost i v else s

/-- The state a response may report to a snoop (Table 3-5). -/
def permitted (k : Snp) (r : BiRsp) : Bool :=
  match k, r with
  | _, .i => true
  | .snpData, .s => true
  | .snpCur, _ => true
  | _, _ => false

/-- A snoop response of a port or of the twin partner. -/
def State.biRsp (s : State) (u line : Nat) (r : BiRsp) : State :=
  match s.snoopedBy u line with
  | some (i, true) =>
    (match s.txnOf i line with
     | none => s
     | some t => if permitted t.cat.snoopKind r then s.snoopEnd i t u (some r) else (s.anomaly i).snoopEnd i t u (some .i))
  | some (i, false) =>
    (match s.evictOf i line with
     | none => s
     | some v => (if permitted (v.twin.getD .snpInv) r then s else s.anomaly i).evictSnoopEnd i v u
         (some (if permitted (v.twin.getD .snpInv) r then r else .i)))
  | none =>
    let i := (s.homeAt line s.tbl.epoch).getD 0
    if s.flag Reg.DIR_SLICE_STATUS_FAILED i then s else s.anomaly i

/-- R150, Table 3-5: a snoop response reaches the home. -/
def execBirspReceive (u : Port) (line : Line) (r : BiRsp) (s : State) : Host.Outcome State Fault Refusal :=
  .next (s.biRsp u.val line r)

/-- R150: the owner's write-back arrives while its snoop is outstanding. -/
def execOwnerWritebackReceive (u : Port) (line : Line) (tag : Nat) (mta : Meta) (data : Bytes) (s : State) :
    Host.Outcome State Fault Refusal :=
  .next ((s.takeWriteback u.val line tag mta (slice data 0 64) fullMask).getD s)

/-- Table 3-5, R155: a BIConflict is answered at once. -/
def execBiconflictReceive (u : Port) (line : Line) (s : State) : Host.Outcome State Fault Refusal :=
  .next ((s.countDir ((s.homeAt line s.tbl.epoch).getD 0) 4).emit (.biConflictAck u.val line))

/-- R168: a snoop without a response within SNP_TO. -/
def execSnoopTimeout (u : Port) (line : Line) (s : State) : Host.Outcome State Fault Refusal :=
  .next (match s.snoopedBy u.val line with
    | none => s
    | some (i, true) =>
      (match s.txnOf i line with
       | none => s
       | some t => (s.report (partySource u.val) contained 2 (byte i :: leBytes 6 (line * 64))).snoopEnd i t u.val none)
    | some (i, false) =>
      (match s.evictOf i line with
       | none => s
       | some v => (s.report (partySource u.val) contained 2 (byte i :: leBytes 6 (line * 64))).evictSnoopEnd i v u.val none))

/-! ## Device answers (R74 to R76, R327) -/

/-- The read of another copy of a mirrored line after one failed: the copy and the state. -/
def State.secondRead (s : State) (i : Nat) (t : Txn) (no : Nat) : Option State :=
  let r := t.req
  let cs := (s.copies r.entry r.line r.stamp).filter (fun c => c.state == 0 && c.no != no)
  match cs with
  | [] => none
  | c :: _ =>
    some ((s.modTxn i r.line (fun t => { t with accs := t.accs ++ accsOf [c] true true })).readDev (fun k => .home i r.line k) c)

/-- A device access of a transaction or a victim has ended: with data, with poison, or failed (error or timeout). -/
def State.homeDev (s : State) (i line no : Nat) (isRead ok poison : Bool) (data : Bytes) : State :=
  match s.txnOf i line with
  | none => s
  | some t =>
    let r := t.req
    let mirrored := entMirrored r.entry
    let acc := t.accs.find? (fun a => a.copy == no && a.isRead == isRead)
    let port := (acc.map DevAcc.port).getD 0
    let second := (acc.map DevAcc.second).getD false
    let s := s.modTxn i line (fun t => { t with accs := delFirst (fun a => a.copy == no && a.isRead == isRead) t.accs })
    let s :=
      if isRead then
        if ok && !poison then
          let s := s.modTxn i line (fun t => { t with data := some data, poison := false })
          match t.badCopy with
          | none => s
          | some b =>
            let cs := (s.copies r.entry line r.stamp).filter (fun c => c.no == b)
            let s := s.modTxn i line (fun t => { t with badCopy := none, accs := t.accs ++ accsOf cs false false })
            let s := s.writeDevs (fun k => .home i line k) cs data fullMask none false
            forEach cs (fun c s => s.reportDsp c.port corrected 2 (ctxLd r.ld line)) s
        else
          let s := if !ok && mirrored then s.fence (entPage r.entry) no else s
          let lost := s.modTxn i line (fun t => { t with data := some (if ok then data else zeroLine), poison := true })
          if mirrored && !second then
            let s := if ok then s.modTxn i line (fun t => { t with badCopy := some no }) else s
            (s.secondRead i t no).getD lost
          else lost
      else if ok then s
      else if entReloc r.entry && no == 1 then
        match s.relocOf (extentOf line) with
        | some x => s.destFailed x
        | none => s
      else if mirrored then s.fence (entPage r.entry) no
      else s
    let _ := port
    s.settle i line

/-- A device write of a victim has ended. -/
def State.evictDev (s : State) (i line no : Nat) (ok : Bool) : State :=
  match s.evictOf i line with
  | none => s
  | some v =>
    let s := s.modEvict i line (fun v => { v with accs := delFirst (fun a => a.copy == no) v.accs })
    if ok then s
    else if entReloc v.entry && no == 1 then
      match s.relocOf (extentOf line) with
      | some x => s.destFailed x
      | none => s
    else if entMirrored v.entry then s.fence (entPage v.entry) no
    else s

/-! ## Lost ports (R163 to R167) -/

/-- The lost mask's bit of a party. -/
def State.setLost (s : State) (u : Nat) (b : Bool) : State :=
  if u = 0x40 then s.setFlag Reg.DIR_LOST_TWIN 0 b
  else
    let m := if b then s.lostMask ||| 2 ^ u else maskOf ((indicesOf 64 s.lostMask).filter (· ≠ u))
    (s.set Reg.DIR_LOST_LO 0 m).set Reg.DIR_LOST_HI 0 (m / 2 ^ 32)

/-- A party is lost (R163): its bit is set in the lost mask, its outstanding snoops end without data, a walk begins or takes
it up (R164, R165); a port's CXL.mem credits are withheld (R166). -/
def State.loseParty (s : State) (u : Nat) : State :=
  if s.isLost u then s
  else
    let s := s.setLost u true
    let s := if u < 64 then (s.withhold u .lostMask).modPort u (fun p => { p with memUp := false }) else s
    let w := match s.dir.walk with
      | none => { ports := if u < 64 then 2 ^ u else 0, twin := u == 0x40, late := 0, lateTwin := false, extra := false : Walk }
      | some w => { w with late := if u < 64 then w.late ||| 2 ^ u else w.late, lateTwin := w.lateTwin || u == 0x40 }
    let s := { s with dir := { s.dir with walk := some w } }.set Reg.DIR_WALK_STATUS_PROGRESS 0 0
    forEach (List.range 8) (fun i s =>
      let s := forEach (s.homeSlice i).txns (fun t s =>
        match s.txnOf i t.req.line with
        | none => s
        | some t =>
          if (if u = 0x40 then t.twinSnoop else bitOf t.snoops u) then
            let s := if t.ownerSnoop = some u ∧ t.wback = false then
                s.reportOpen (partySource u) contained (if u = 0x40 then 0 else 1) (ctxLd t.req.ld t.req.line) else s
            s.snoopEnd i t u none
          else s) s
      forEach (s.homeSlice i).evb (fun v s =>
        if (if u = 0x40 then v.twinSnoop else bitOf v.snoops u) then
          let s := if v.owner = some u ∧ v.data = none then
              s.reportOpen (partySource u) contained (if u = 0x40 then 0 else 1) (ctxLd 0 v.line) else s
          s.evictSnoopEnd i v u none
        else s) s) s

/-- Applies R163 to every entry of the directory (R164): sharer bits of a pinned entry clear, and its transaction does the rest; each line
turned POISONED counts (R167). -/
def State.walkAll (s : State) : State :=
  forEach s.dir.entries (fun (k, e) s =>
    if e.pinned then
      let e' := { e with sharers := maskOf ((indicesOf 64 e.sharers).filter (fun u => !s.isLost u)), twin := e.twin && !s.isLost 0x40 }
      if e' = e then s else { s with dir := { s.dir with entries := SMap.store s.dir.entries k e' DirEntry.dflt } }
    else
      let e' := s.scrub e
      if e' = e then s
      else
        let s := if e'.poisoned && !e.poisoned then
            s.reportOpen (partySource e.owner) contained (if e.owner = 0x40 then 0 else 1) (ctxLd 0 (lineOf (k / 16) e.tag))
          else s
        { s with dir := { s.dir with entries := SMap.store s.dir.entries k e' DirEntry.dflt } }) s

/-- Ends the count of an operation whose events share one record (R493). -/
def State.closeOpen (s : State) (srcs : List Nat) : State :=
  { s with flt := { s.flt with
      waiting := s.flt.waiting.map (fun e => if e.openOp ∧ e.src ∈ srcs then { e with ended := true } else e),
      hist := SMap.modAll (fun (r : FltRec) => if r.openOp ∧ r.src ∈ srcs then { r with openOp := false } else r) s.flt.hist } }

/-- A slice has not completed a request of party `u` (R163). -/
def SliceSt.asks (x : SliceSt) (u : Nat) : Bool :=
  (x.srcQ ++ x.retry ++ x.missing.map Prod.snd ++ x.lineQ ++ x.txns.map Txn.req).any (fun r => r.usp == some u)

/-- R164, R165: the walk ends, once the slices have completed the covered parties' own transactions (R163). Ports that joined during it are covered by one further pass; the covered ports leave the lost
mask and their CXL.mem credits flow again. -/
def execLostPortWalkEnd (s : State) : Host.Outcome State Fault Refusal :=
  .next (match s.dir.walk with
    | none => s
    | some w =>
      let ps := indicesOf 64 w.ports ++ (if w.twin then [0x40] else [])
      if s.dir.slices.any (fun x => ps.any x.2.asks) then s else
      let s := s.walkAll
      let s := forEach ps (fun u s => s.setLost u false) s
      let s := forEach (indicesOf 64 w.ports) (fun u s => (s.unhold u .lostMask).modPort u (fun p => { p with memUp := p.up })) s
      let s := s.closeOpen (ps.map partySource)
      let next : Option Walk := if w.late = 0 ∧ w.lateTwin = false then none
        else some { ports := w.late, twin := w.lateTwin, late := 0, lateTwin := false, extra := true }
      let s := { s with dir := { s.dir with walk := next } }
      if next.isNone then s.set Reg.DIR_WALK_STATUS_PROGRESS 0 256 else s)

/-- R120: the slices release the requests of the new epoch once no transaction of an earlier one is open. -/
def execHomeMapHoldEnd (s : State) : Host.Outcome State Fault Refusal :=
  let open' := fun (e : Nat) => (List.range 8).any (fun i =>
    let x := s.homeSlice i
    (x.txns.map Txn.req ++ x.retry ++ x.lineQ ++ x.missing.map Prod.snd ++ x.srcQ).any (fun r => earlier r.stamp e))
  .next (forEach (List.range 8) (fun i t =>
    match (s.homeSlice i).heldStamp with
    | some e => if open' e then t else t.modHome i (fun x => { x with heldStamp := none })
    | none => t) s)

/-- A directory page has no good copy left: one BISnpInv multicast goes out for every line of its sets in a VALID shared extent,
to the USPs of the group's member LDs and to the twin partner (R170). -/
def State.dirPageDouble (s : State) (i page : Nat) : State :=
  if 1048576 ≤ page ∨ s.pageHeld page then s else
    let base := 8 * page
    let exts := (s.validExtents.filter (fun x => entShared x.2 && x.1 % 256 == base / linesPerExtent))
    let o : FlushOp := { op := s.dir.nextOp, ranges := [], usp := none, bgId := none, release := none, page := some page, twin := false }
    let s := { s with dir := { s.dir with flushes := s.dir.flushes ++ [o], nextOp := s.dir.nextOp + 1 } }
    let s := forEach exts (fun x s => forEach (List.range 8) (fun k s =>
      let line := x.1 * linesPerExtent + base % linesPerExtent + k
      let usps := ((s.members (entOwner x.2)).map (· / 16)).dedup
      let ps := usps ++ (if s.flag Reg.SEM_TWIN_STATUS_ENABLED then [0x40] else [])
      let q := s.snoop i ps line .snpInv
      let ev : Evict :=
        { line := line, owner := none, snoops := q.2.1, twinSnoop := q.2.2, entry := x.2, stamp := s.tbl.epoch, accs := [],
          data := none, twin := none, rsp := none, flush := true, asked := q.2.1, askedTwin := q.2.2, lostOwner := false, op := o.op }
      q.1.modHome i (fun h => { h with evb := h.evb ++ [ev] })) s) s
    s.pumpFlush

/-- R170: both vault copies of a directory page fail; the page is rewritten free at the end. -/
def execDirPageDoubleFail (i : Slice) (page : Nat) (s : State) : Host.Outcome State Fault Refusal :=
  .next (if 1048576 ≤ page ∨ s.pageHeld page then s else
    (s.report (0x0908 + i.val) contained 1 (leBytes 4 page)).dirPageDouble i.val page)

/-- The requests that a slice holds and has not answered, with the atomics chained to them. -/
def SliceSt.unanswered (x : SliceSt) : List HomeReq :=
  ((x.txns.filter (fun t => !t.answered)).map (fun t => t.req :: t.chained.map Prod.fst)).flatten ++ x.retry ++ x.missing.map Prod.snd
    ++ x.lineQ ++ x.heldWb ++ x.srcQ

/-- A slice is gone: what it holds is answered with poison or abort, its granules' directory state is lost (R172, R507). -/
def State.loseSlice (s : State) (i : Nat) : State :=
  let rs := (s.homeSlice i).unanswered
  let s := s.modHome i (fun x => { SliceSt.dflt with cnt := x.cnt })
  let s := { s with dir := { s.dir with entries := s.dir.entries.filter (fun (c : Nat × DirEntry) =>
    s.homeAt (lineOf (c.1 / 16) c.2.tag) s.tbl.epoch != some i) } }
  (forEach rs (fun r s => s.answerSafe r) s).pumpFlush

/-- R172: a failed home slice cannot be masked; its open transactions end poisoned or aborted, its directory state is lost. -/
def execSliceFailure (i : Slice) (s : State) : Host.Outcome State Fault Refusal :=
  .next (if s.flag Reg.DIR_SLICE_STATUS_FAILED i.val then s else
    ((s.setFlag Reg.DIR_SLICE_STATUS_FAILED i.val true).loseSlice i.val).report (0x0900 + i.val) fatal 0 [byte i.val])

/-! ## Commands of Table 3-13 -/

/-- DIR_INFO (0xC500). -/
def specDirInfo : CmdSpec :=
  { opcode := 0xC500, priv := .observe, sub := 0x09, len := lenIs 0,
    run := fun _ _ s =>
      let ok := maskOf ((List.range 8).filter (fun i => !s.flag Reg.DIR_SLICE_STATUS_FAILED i))
      let n := fun (f : SliceSt → Nat) => ((List.range 8).map (fun i => f (s.homeSlice i))).sum
      .done ([8, byte ok, 0, 0] ++ leBytes 4 (n (fun x => x.cached.length)) ++ leBytes 4 (n (fun x => x.dirty.length))) s }

/-- DIR_INFO: R180. -/
def execDirInfo (h : Hdr) (p : Bytes) (s : State) : Host.Outcome State Fault Refusal := specDirInfo.direct h p s

/-- DIR_LINE_READ (0xC501). -/
def specDirLineRead : CmdSpec :=
  { opcode := 0xC501, priv := .observe, sub := 0x09, len := lenIs 8,
    check := fun _ p _ => firstBad [need (p64 p 0 < 2 ^ 45) 0],
    run := fun _ p s =>
      let line := p64 p 0 / 64
      let e := match s.findWay line with
        | some w => (s.way (setOf line) w).toBytes
        | none => List.replicate 16 0
      let i := (s.homeAt line s.tbl.epoch).getD (leNat (s.active 0x0900 (line / 64 % 4096) 1) % 8)
      .done (e ++ [byte i, byte (b2n ((s.homeSlice i).cached.contains (pageOf line)))]) s }

/-- DIR_LINE_READ: R180. -/
def execDirLineRead (h : Hdr) (p : Bytes) (s : State) : Host.Outcome State Fault Refusal := specDirLineRead.direct h p s

/-- DIR_SET_READ (0xC502). -/
def specDirSetRead : CmdSpec :=
  { opcode := 0xC502, priv := .observe, sub := 0x09, len := lenIs 4,
    check := fun _ p _ => firstBad [need (p32 p 0 < 2 ^ 23) 0],
    run := fun _ p s => .done ((List.range 16).map (fun w => (s.way (p32 p 0) w).toBytes)).flatten s }

/-- DIR_SET_READ: R180. -/
def execDirSetRead (h : Hdr) (p : Bytes) (s : State) : Host.Outcome State Fault Refusal := specDirSetRead.direct h p s

/-- The checks of a 2 MiB-aligned pool range: address and extent count. -/
def rangeCheck (p : Bytes) : Option Nat :=
  firstBad [need (p64 p 0 % pageBytes == 0 && p64 p 0 < 2 ^ 45) 0,
            need (1 ≤ p32 p 8 && p64 p 0 / pageBytes + p32 p 8 ≤ 2 ^ 24) 8]

/-- The range includes a RELOCATING extent (R181). -/
def State.rangeRelocating (s : State) (p : Bytes) : Bool :=
  let x := p64 p 0 / pageBytes
  s.validExtents.any (fun e => x ≤ e.1 && e.1 < x + p32 p 8 && entReloc e.2)

/-- DIR_RANGE_FLUSH (0xC510). -/
def specDirRangeFlush : CmdSpec :=
  { opcode := 0xC510, priv := .operate, sub := 0x09, len := lenIs 12, check := fun _ p _ => rangeCheck p,
    run := fun _ p s =>
      if s.rangeRelocating p then .fail stConflict
      else
        let r := [(p64 p 0 / 64, p32 p 8 * linesPerExtent)]
        let o : FlushOp := { op := s.dir.nextOp, ranges := r, usp := none, bgId := none, release := none, page := none, twin := false }
        if (s.flushLines o).isEmpty then .finished s stSuccess []
        else .started (s.startFlush r none (some s.cmd.nextBg) none) false }

/-- DIR_RANGE_FLUSH: R180, R181. -/
def execDirRangeFlush (h : Hdr) (p : Bytes) (s : State) : Host.Outcome State Fault Refusal := specDirRangeFlush.direct h p s

/-- DIR_POISON_CLEAR (0xC511): directory entries of the range, and the map entries through a change list (R162). -/
def specDirPoisonClear : CmdSpec :=
  { opcode := 0xC511, priv := .admin, sub := 0x09, len := lenIs 12, check := fun _ p _ => rangeCheck p,
    run := fun _ p s =>
      if s.rangeRelocating p then .fail stConflict
      else
        let x := p64 p 0 / pageBytes
        let n := p32 p 8
        let clr := s.dir.entries.map (fun (k, e) =>
          let l := lineOf (k / 16) e.tag
          if e.poisoned && decide (x ≤ extentOf l ∧ extentOf l < x + n) then
            (k, if e.pinned then { e with poisoned := false } else DirEntry.dflt)
          else (k, e))
        let s := { s with dir := { s.dir with entries := clr.filter (fun c => c.2 ≠ DirEntry.dflt) } }
        let xs : List (Nat × Nat) := (s.validExtents.filter (fun e => x ≤ e.1 && e.1 < x + n && entPoisoned e.2)).map
          (fun e => (e.1, putBit e.2 4 false))
        if xs.isEmpty then .finished s stSuccess []
        else
          let s := s.journals (xs.map (fun e => .run e.1 1 e.2))
          .started (s.moduleCommit 0 [] xs (.bg s.cmd.nextBg [])) false }

/-- DIR_POISON_CLEAR: R180, R181. -/
def execDirPoisonClear (h : Hdr) (p : Bytes) (s : State) : Host.Outcome State Fault Refusal := specDirPoisonClear.direct h p s

/-- DIR_STATS (0xC520). -/
def specDirStats : CmdSpec :=
  { opcode := 0xC520, priv := .observe, sub := 0x09, len := lenIs 0,
    run := fun _ _ s =>
      .done ((List.range 8).map (fun i => ((List.range 8).map (fun k => leBytes 4 ((s.homeSlice i).cnt.getD k 0))).flatten)).flatten s }

/-- DIR_STATS: R180. -/
def execDirStats (h : Hdr) (p : Bytes) (s : State) : Host.Outcome State Fault Refusal := specDirStats.direct h p s

end Sys2Proof.Machine
end

