-- ==== Sys2Proof/Machine/Pool.lean ====
section
/-! DEFINITION. Pooled memory: host address decode, the order of Table 2-3, miss holds, policing, device acceptance, grants,
releases, logical devices and their commands (R41 to R93, R110). -/

namespace Sys2Proof.Machine

/-- Changes the pool manager. -/
def State.modPol (s : State) (f : Pol → Pol) : State := { s with pol := f s.pol }

/-! ## HDM decode (R56, R60) -/

/-- A decoder of Table 2-2. -/
structure Decoder where
  base : Nat
  size : Nat
  dpa : Nat
  iw : Nat
  ig : Nat
  valid : Bool
  deriving DecidableEq, Repr

/-- The decoder that 32 table bytes spell. -/
def decoderOf (b : Bytes) : Decoder :=
  { base := fieldAt b 0 8, size := fieldAt b 8 8, dpa := fieldAt b 16 8, iw := fieldAt b 24 1, ig := fieldAt b 25 1,
    valid := bitOf (fieldAt b 26 1) 0 }

/-- The 32 bytes of a decoder. -/
def Decoder.toBytes (d : Decoder) : Bytes :=
  leBytes 8 d.base ++ leBytes 8 d.size ++ leBytes 8 d.dpa ++ leBytes 1 d.iw ++ leBytes 1 d.ig ++ leBytes 1 (b2n d.valid)
    ++ List.replicate 5 0

/-- Decoder `i` = 4k + d of USP `u` by epoch stamp. -/
def State.decoderAt (s : State) (u i stamp : Nat) : Decoder := decoderOf (s.lookup (0x0A00 + u) stamp (32 * i) 32)

/-- The decoder covers the address. -/
def Decoder.covers (d : Decoder) (hpa : Nat) : Bool := d.valid && d.base ≤ hpa && hpa < d.base + d.size

/-- The DPA of an address under the CXL decoder rules: the way bits above the granularity leave (R56). -/
def Decoder.toDpa (d : Decoder) (hpa : Nat) : Nat :=
  let o := hpa - d.base
  let g := 256 * 2 ^ d.ig
  d.dpa + o / (g * 2 ^ d.iw) * g + o % g

/-- The LD and DPA of a host address at USP `u` by epoch stamp. -/
def State.decodeHpa (s : State) (u hpa stamp : Nat) : Option (Nat × Nat) :=
  (List.range 64).findSome? (fun i =>
    let d := s.decoderAt u i stamp
    if d.covers hpa then some (16 * u + i / 4, d.toDpa hpa) else none)

/-! ## Table 2-3 -/

/-- Target `t` can be reached: a local DSP whose link is up and whose device is accepted, or a port of a partner that is there. -/
def State.targetUp (s : State) (t : Nat) : Bool :=
  if t < 64 then (s.port t).up && s.flag Reg.POL_DSP_CFG_DEVICE_OK t && s.isPool t
  else s.twinOn

/-- A copy of the entry names an interleave set that is unused, or a page beyond its set (R70). -/
def State.badSet (s : State) (e stamp : Nat) : Bool :=
  let unused := fun (i : Nat) => isetWays (s.lookup 0x0A40 stamp (128 * i) 128) == 0
  if entMirrored e then
    [0, 1].any (fun c =>
      let w := s.copyWordAt (entPage e) c stamp
      cwValid w && cwIl w && unused (cwTarget w))
  else entIl e && (unused (entTarget e) || isetLength (s.lookup 0x0A40 stamp (128 * entTarget e) 128) ≤ entPage e)

/-- The Quench actions in force, of every slot and of those that hold no slot. -/
def State.quenchHolds (s : State) : List Hold :=
  (s.flt.slots.map (fun (q : Nat × QSlot) => q.2.holds)).flatten ++ s.flt.slotless.map Prod.snd

/-- The LD is fenced by Quench (Table 12-3). -/
def State.ldFenced (s : State) (ld : Nat) : Bool := s.quenchHolds.contains (.fenceLd ld)

/-- The row of Table 2-3 that a request takes, and for row 8 the target it names. For a line of the partner's half only row 1 is
checked here (R402); without the partner it takes row 8 (R406). -/
def State.poolRow (s : State) (ld dpa stamp : Nat) (write : Bool) : Nat × Nat :=
  let line := dpa % 2 ^ 45 / 64
  let e := s.entryAt (extentOf line) stamp
  let cs := s.copies e line stamp
  if 2 ^ 46 ≤ dpa ∨ s.ldFenced ld then (1, 0)
  else if s.partnerLine line then (if s.twinOn then (9, homeTarget) else (8, 64))
  else if !entValid e || s.badSet e stamp then (2, 0)
  else if entShared e != decide (2 ^ 45 ≤ dpa) then (3, 0)
  else if (if entShared e then !s.memberAt ld (entOwner e) stamp else entOwner e != ld) then (4, 0)
  else if !cs.all (fun c => s.inViewAt (ld / 16) c.port stamp) then (5, 0)
  else if entPoisoned e then (6, 0)
  else if write && entReadOnly e then (7, 0)
  else
    let rd := s.readCopy e line stamp
    match rd with
    | none => (8, ((cs.head?).map Copy.port).getD 0)
    | some c => if (cs.filter (fun x => x.state == 0)).any (fun x => s.targetUp x.port) then (9, c.port) else (8, c.port)

/-- Completes a refused request (Table 2-3): poison for a read, completion without effect for a write; an atomic aborts
(R160). -/
def State.refuse (s : State) (usp row ld target : Nat) (m : MemReq) (line : Nat) (atom : Option AtomReq) : State :=
  match atom with
  | some a => (s.emit (.atomCpl usp a.tag .ca 0)).report (0x0940 + usp) contained 4 (ctxLd ld line)
  | none =>
    let w := isWriteOp m.op
    let s := s.emit (.memCpl usp { tag := m.tag, row := if row = 9 then 1 else row, data := if w then none else some zeroLine, poison := !w, mta := none })
    if row = 8 then s.reportDsp target contained 3 (ctxLd ld line)
    else s.report (0x0A00 + ld / 16) contained (if row = 9 then 8 else row) (ctxLd ld line)

/-! ## Policing (R288 to R291) -/

/-- The policer entry of LD `ld` (Table 6-7). -/
def State.policerEntry (s : State) (ld : Nat) : Bytes := s.active 0x0800 (0x80000 + 16 * ld) 16

/-- The policer's burst, tenths of a byte. -/
def policerBurst (b : Bytes) : Int := 10 * fieldAt b 8 4

/-- A policer's token count; it stands at its burst until it is charged (R287). -/
def State.policerTokens (s : State) (ld : Nat) : Int := SMap.get s.sch.policer ld (policerBurst (s.policerEntry ld))

/-- Charges `n` bytes to a bucket of this burst (R285). -/
def chargeTokens (tokens burst : Int) (n : Nat) : Int := max (tokens - 10 * n) (-burst)

/-- Charges a policer 64 B. -/
def State.chargePolicer (s : State) (ld : Nat) : State :=
  let b := policerBurst (s.policerEntry ld)
  { s with sch := { s.sch with policer := SMap.put s.sch.policer ld (chargeTokens (s.policerTokens ld) b 64) } }

/-- The request is charged to the LD's policer: Req and RwD by MODE (R288). -/
def policerCharges (b : Bytes) (write : Bool) : Bool :=
  bitOf (fieldAt b 0 1) 0 && (match bitsOf (fieldAt b 0 1) 1 2 with
    | 0 => true
    | 1 => !write
    | _ => write)

/-- Sends a request to its home slice; a home map entry that is not VALID completes it as row 1 does (R118). -/
def State.sendHome (s : State) (usp : Nat) (m : MemReq) (r : HomeReq) : State :=
  match s.homeAt r.line r.stamp with
  | some i => s.arrive i r
  | none => s.refuse usp 9 r.ld 0 m r.line r.atom

/-- The request as a CXL.mem message, to answer it. -/
def HomeReq.message (r : HomeReq) : MemReq :=
  { op := r.op, snp := r.snp, mval := r.mval, hpa := 0, tag := r.tag, data := r.data, mask := r.mask, poison := r.poison, pbr := none }

/-- The held requests of a USP, all LDs, oldest first. -/
def State.holdOf (s : State) (u : Nat) : List Held := SMap.get s.sch.holds u []

/-- Stores a USP's hold. -/
def State.setHold (s : State) (u : Nat) (l : List Held) : State :=
  { s with sch := { s.sch with holds := SMap.store s.sch.holds u l [] } }

/-- Passes a request by its LD's policer (R289, R290): charged and sent, or held. Beyond 128 it stays in the reservation and
the port's CXL.mem request credits are withheld. -/
def State.police (s : State) (u : Nat) (m : MemReq) (r : HomeReq) : State :=
  let b := s.policerEntry r.ld
  if r.atom.isNone && policerCharges b (isWriteOp r.op) then
    if s.policerTokens r.ld ≤ 0 ∨ (s.holdOf u).any (fun h => h.ld == r.ld) then
      let full := decide (128 ≤ (s.holdOf u).length)
      let s := s.setHold u (s.holdOf u ++ [{ ld := r.ld, cost := 64, req := r }])
      if full then s.withhold u .polFull else s
    else (s.chargePolicer r.ld).sendHome u m r
  else s.sendHome u m r

/-- R289: SCH releases the head of an LD's FIFO once its tokens are positive, and charges it. -/
def execPolicerRelease (ld : Fin 1024) (s : State) : Host.Outcome State Fault Refusal :=
  let u := ld.val / 16
  .next (if s.policerTokens ld.val ≤ 0 ∧ bitOf (fieldAt (s.policerEntry ld.val) 0 1) 0 then s else
    match (s.holdOf u).find? (fun h => h.ld == ld.val) with
    | none => s
    | some h =>
      let s := s.setHold u (delFirst (fun x => x.ld == ld.val) (s.holdOf u))
      let s := if (s.holdOf u).length ≤ 128 then s.unhold u .polFull else s
      (s.chargePolicer ld.val).sendHome u h.req.message h.req)

/-! ## Caches and miss holds (R66 to R68) -/

/-- Key `k` is in a 16-way cache set. -/
def cacheHit (c : SMap (List Nat)) (set k : Nat) : Bool := (SMap.get c set []).contains k

/-- Brings key `k` into its set, the least recently used one leaving. -/
def cacheTouch (c : SMap (List Nat)) (set k : Nat) : SMap (List Nat) :=
  SMap.put c set ((k :: (SMap.get c set []).filter (· ≠ k)).take 16)

/-- The set and the key of a mirror pair in its cache: the pair with its bank (R68). -/
def State.pairKey (s : State) (p stamp : Nat) : Nat × Nat :=
  (p % 16384, 2 * p + b2n ((s.table 0x0A41).former && earlier stamp (s.table 0x0A41).tag))

/-- A lookup of an extent's entry hits the extent-map cache. -/
def State.mapHit (s : State) (x : Nat) : Bool := cacheHit s.pol.mapCache (x % 65536) x

/-- The mirror pair that a lookup needs and that is not cached. -/
def State.pairMiss (s : State) (e stamp : Nat) : Option Nat :=
  if entValid e && entMirrored e then
    let k := s.pairKey (entPage e) stamp
    if cacheHit s.pol.pairCache k.1 k.2 then none else some (entPage e)
  else none

/-- The lowest free miss-hold slot of a port. -/
def State.missSlot (s : State) (p : Nat) : Option Nat :=
  (List.range 64).find? (fun k => !s.pol.misses.any (fun h => h.port == p && h.slot == k))

/-- A copy of the request's line that is not fenced lies on a POOL DSP that has not completed device acceptance (R110). -/
def State.awaitsDevice (s : State) (dpa stamp : Nat) : Bool :=
  let line := dpa % 2 ^ 45 / 64
  (s.copies (s.entryAt (extentOf line) stamp) line stamp).any (fun c =>
    c.state != 2 && c.port < 64 && s.isPool c.port && !s.flag Reg.POL_DSP_CFG_DEVICE_OK c.port)

/-- R110: a request that passes rows 1 to 7 waits for a device while the start-up hold runs. -/
def State.startHeld (s : State) (row dpa stamp : Nat) : Bool :=
  s.pol.startHold && (row == 8 || row == 9) && s.awaitsDevice dpa stamp

/-- The home request of a decoded CXL.mem request. -/
def State.homeReq (s : State) (src usp ld dpa stamp : Nat) (m : MemReq) (atom : Option AtomReq) : HomeReq :=
  let line := dpa % 2 ^ 45 / 64
  { src := src, usp := some usp, line := line, op := m.op, snp := m.snp, mval := m.mval, tag := m.tag, data := m.data,
    mask := if m.op = .memWr then fullMask else m.mask, poison := m.poison, atom := atom, ctx := none, relocSlot := none,
    ld := ld, entry := s.entryAt (extentOf line) stamp, stamp := stamp, track := .none }

/-- The checks of Table 2-3 on a request whose entry and pair are at hand; it is refused, held by R110, or sent on. -/
def State.admitPool (s : State) (p ld dpa stamp : Nat) (m : MemReq) (atom : Option AtomReq) : State :=
  let row := s.poolRow ld dpa stamp (isWriteOp m.op || atom.isSome)
  if s.startHeld row.1 dpa stamp && atom.isNone then
    let h : MissHold := { port := p, slot := 64, usp := p, req := m, ld := ld, dpa := dpa, extent := extentOf (dpa % 2 ^ 45 / 64),
                          pair := none, stamp := stamp }
    (s.modPol (fun x => { x with held := x.held ++ [h] })).withhold p .startHold
  else if row.1 = 9 then s.police p m (s.homeReq p p ld dpa stamp m atom)
  else s.refuse p row.1 ld row.2 m (dpa % 2 ^ 45 / 64) atom

/-- A request with its LD and DPA at ingress port `p`: the map lookups through their caches, a miss waiting in a miss-hold
slot (R67, R68), then Table 2-3. -/
def State.lookupPool (s : State) (p ld dpa stamp : Nat) (m : MemReq) (atom : Option AtomReq) : State :=
  let line := dpa % 2 ^ 45 / 64
  let x := extentOf line
  if 2 ^ 46 ≤ dpa then s.refuse p 1 ld 0 m line atom
  else
    let hit := s.mapHit x
    let s := if s.partnerLine line then s else if hit then s.bump Reg.POL_CACHE_HIT 0 else s.bump Reg.POL_CACHE_MISS 0
    let pm := s.pairMiss (s.entryAt x stamp) stamp
    if s.partnerLine line || (hit && pm.isNone) then s.admitPool p ld dpa stamp m atom
    else if atom.isSome then
      let k := s.pairKey (entPage (s.entryAt x stamp)) stamp
      let s := s.modPol (fun q => { q with mapCache := cacheTouch q.mapCache (x % 65536) x,
                                           pairCache := if pm.isSome then cacheTouch q.pairCache k.1 k.2 else q.pairCache })
      s.admitPool p ld dpa stamp m atom
    else match s.missSlot p with
      | none => s.withhold p .memMiss
      | some k =>
        let h : MissHold := { port := p, slot := k, usp := p, req := m, ld := ld, dpa := dpa, extent := x,
                              pair := if hit then pm else none, stamp := stamp }
        let s := s.modPol (fun q => { q with misses := q.misses ++ [h] })
        if (s.missSlot p).isNone then s.withhold p .memMiss else s

/-- R67, R68, R105: the entry or pair that a miss-hold slot waits for arrives; on a page with both copies bad it waits for the
rebuild. -/
def execExtentMapMissFill (p : Port) (slot : Fin 64) (s : State) : Host.Outcome State Fault Refusal :=
  .next (match s.pol.misses.find? (fun h => h.port == p.val && h.slot == slot.val) with
    | none => s
    | some h =>
      let bad := match h.pair with
        | some q => s.pol.badPages.contains (q / 128, true)
        | none => s.pol.badPages.contains (h.extent / 256, false)
      if bad then s
      else
        let gone := fun (q : Pol) =>
          { q with misses := delFirst (fun x => x.port == p.val && x.slot == slot.val) q.misses }
        match h.pair with
        | some q =>
          let k := s.pairKey q h.stamp
          let s := s.modPol (fun x => { gone x with pairCache := cacheTouch x.pairCache k.1 k.2 })
          (s.unhold p.val .memMiss).admitPool p.val h.ld h.dpa h.stamp h.req none
        | none =>
          let s := s.modPol (fun x => { x with mapCache := cacheTouch x.mapCache (h.extent % 65536) h.extent })
          match s.pairMiss (s.entryAt h.extent h.stamp) h.stamp with
          | some q =>
            let ms := updFirst (fun y : MissHold => y.port == p.val && y.slot == slot.val)
              (fun y => { y with pair := some q }) s.pol.misses
            s.modPol (fun x => { x with misses := ms })
          | none => ((s.modPol gone).unhold p.val .memMiss).admitPool p.val h.ld h.dpa h.stamp h.req none)

/-- R110: the hold ends; what it held takes row 8, or is served where the device has been accepted. -/
def State.endStartHold (s : State) : State :=
  let hs := s.pol.held
  let s := s.modPol (fun x => { x with startHold := false, held := [] })
  let s := forEach (hs.map MissHold.port).dedup (fun p s => s.unhold p .startHold) s
  forEach hs (fun h s => s.admitPool h.port h.ld h.dpa h.stamp h.req none) s

/-- R110: START_HOLD has passed. -/
def execStartHoldExpiry (s : State) : Host.Outcome State Fault Refusal :=
  .next (if s.pol.startHold then s.endStartHold else s)

/-! ## POOL devices (R44 to R49) -/

/-- A copy given by IL, target and page lies on DSP `n`, directly or by a way of its interleave set (R42). -/
def State.copyOn (s : State) (il : Bool) (target n : Nat) : Bool := if il then s.isetNames target n else target == n

/-- The extents whose only copy lies on DSP `n`. -/
def State.soleOn (s : State) (n : Nat) : List (Nat × Nat) :=
  s.validExtents.filter (fun x => !entMirrored x.2 && s.copyOn (entIl x.2) (entTarget x.2) n)

/-- The mirror copies of referenced pairs on DSP `n`. -/
def State.mirrorsOn (s : State) (n : Nat) : List (Nat × Nat) :=
  (s.pairsUsed.map (fun p => [0, 1].filterMap (fun c =>
    let w := s.copyWord p c
    if cwValid w && s.copyOn (cwIl w) (cwTarget w) n then some (p, c) else none))).flatten

/-- Pages of DSP `n` up to the highest in use. -/
def State.pagesUsed (s : State) (n : Nat) : Nat :=
  let reach := fun (il : Bool) (target page : Nat) =>
    if il then
      let b := s.active 0x0A40 (128 * target) 128
      let w := 2 ^ isetWays b
      ((List.range w).filter (fun i => isetTarget b i == n)).foldl (fun m i => max m (isetBase b i + page / w + 1)) 0
    else if target = n then page + 1 else 0
  let a := (s.validExtents.filter (fun x => !entMirrored x.2)).foldl
    (fun m x => max m (reach (entIl x.2) (entTarget x.2) (entPage x.2))) 0
  (s.pairsUsed).foldl (fun m p => [0, 1].foldl (fun m c =>
    let w := s.copyWord p c
    if cwValid w then max m (reach (cwIl w) (cwTarget w) (cwPage w)) else m) m) a

/-- What is known of the device behind DSP `n`. -/
def State.poolDev (s : State) (n : Nat) : PoolDev :=
  SMap.get s.pol.devices n { serial := 0, pages := 0, known := false, acrakFail := false }

/-- Records the device behind DSP `n`. -/
def State.setPoolDev (s : State) (n : Nat) (d : PoolDev) : State :=
  s.modPol (fun p => { p with devices := SMap.put p.devices n d })

/-- R44 to R48: Acrak checks the device, programs its decoder and compares its serial number and capacity. -/
def execPoolDeviceAccept (p : Port) (d : DevIdent) (s : State) : Host.Outcome State Fault Refusal :=
  let n := p.val
  .next (if !s.isPool n ∨ !(s.port n).up ∨ s.flag Reg.POL_DSP_CFG_DEVICE_OK n then s
    else
    let s := (s.freeAcrak n).record 0x08 0 (leBytes 1 n ++ [0] ++ leBytes 2 0 ++ leBytes 2 0 ++ leBytes 2 16 ++ leBytes 8 d.serial ++ leBytes 8 d.capacity)
    if !d.ok || !d.cxlMem || !d.type3 || decide (d.capacity < pageBytes) then
      ((s.recordEvent (0x0A40 + n) 4 [0]).setPoolDev n { s.poolDev n with acrakFail := true }).reportDsp n contained 1 []
    else
      let s := s.recordEvent (0x0A40 + n) 4 [1]
      let pages := min (d.capacity / pageBytes) (2 ^ 24)
      let old := s.poolDev n
      let changed := (old.known && old.serial != d.serial) || decide (pages < s.pagesUsed n)
      let s := s.setPoolDev n { serial := d.serial, pages := pages, known := true, acrakFail := false }
      let s := if old.known && old.serial == d.serial && old.pages == pages then s
        else s.journal (.serial n (d.serial % 2 ^ 64 + pages * 2 ^ 64))
      let s := s.emit (.devCfg n 0 (leBytes 8 0 ++ leBytes 8 (pages * pageBytes)))
      let s := if changed then
          let xs := (s.soleOn n).map (fun x => (x.1, putBit x.2 4 true))
          let s := forEach (s.mirrorsOn n) (fun c s => s.fence c.1 c.2) s
          let s := s.reportDsp n contained 2 []
          if xs.isEmpty then s
          else (s.journals (xs.map (fun x => JRec.run x.1 1 x.2))).moduleCommit 0 [] xs .nothing
        else s
      let s := s.setFlag Reg.POL_DSP_CFG_DEVICE_OK n true
      let hs := s.pol.held.filter (fun h => !s.awaitsDevice h.dpa h.stamp)
      let s := s.modPol (fun x => { x with held := x.held.filter (fun h => !(hs.contains h)) })
      let s := forEach ((hs.map MissHold.port).dedup.filter (fun q => !s.pol.held.any (fun h => h.port == q)))
        (fun q s => s.unhold q .startHold) s
      forEach hs (fun h s => s.admitPool h.port h.ld h.dpa h.stamp h.req none) s)

/-- `k` equal events, each counted (R490, R493). -/
def repeatN (k : Nat) (f : State → State) (s : State) : State := (List.range k).foldl (fun s _ => f s) s

/-- R49: Acrak reads the device's event log every 100 ms. -/
def execPoolDeviceEventPoll (p : Port) (cor unc : Nat) (s : State) : Host.Outcome State Fault Refusal :=
  .next (if s.isPool p.val && s.flag Reg.POL_DSP_CFG_DEVICE_OK p.val then
      repeatN unc (fun s => s.reportDsp p.val contained 4 []) (repeatN cor (fun s => s.reportDsp p.val corrected 1 []) s)
    else s)

/-- R49: an ERR_ message of a POOL device. -/
def execPoolDeviceErrMessage (p : Port) (e : ErrMsg) (s : State) : Host.Outcome State Fault Refusal :=
  .next (if s.isPool p.val then
      match e with
      | .cor => s.reportDsp p.val corrected 1 []
      | .nonfatal => s.reportDsp p.val contained 4 []
      | .fatal => s.reportDsp p.val contained 4 []
    else s)

end Sys2Proof.Machine
end

