-- ==== Sys2Proof/Machine/Transcript.lean ====
section
/-! DEFINITION. The Transcript recorder's commands and events (R568 to R586): reads, exports, freezes, checkpoints, gaps, replay. -/

namespace Sys2Proof.Machine

/-- Changes the recorder. -/
def State.modRec (s : State) (f : Rec → Rec) : State := { s with trec := f s.trec }

/-- The record with number `q`, if the ring holds it. -/
def Rec.at (t : Rec) (q : Nat) : Option TRec := t.records.find? (fun r => r.seq == q)

/-- Pieces of at most `n` bytes; `fuel` bounds their number. -/
def pieces (n : Nat) : Nat → Bytes → List Bytes
  | 0, _ => []
  | fuel + 1, b => if b.isEmpty then [] else b.take n :: pieces n fuel (b.drop n)

/-- Checkpoint data: the journal, the active tag of every table and the epoch, Acrak's replay state (R575). The journal's and
the replay state's bytes belong to Acrak (R710, log 9). -/
def State.checkpointData (s : State) : Bytes :=
  leBytes 2 s.tbl.epoch ++ (s.tbl.tables.map (fun t => leBytes 2 t.1 ++ leBytes 2 t.2.tag)).flatten ++ Config.replayState s.fresh

/-- Writes a checkpoint: the journal buffer is flushed first, then the parts; the newest checkpoint is the one whose parts are
all in the ring (R575). The parts are written as the vault takes them. -/
def State.checkpoint (s : State) : State :=
  let s := { s with jnl := s.jnl.flushed }
  let d := s.checkpointData
  let s := s.drawn
  let n := 1 + (d.length - 4088 + 4135) / 4136
  let first := s.trec.next
  let s := s.record 0x02 0 (leBytes 2 0 ++ leBytes 2 n ++ [0, 0, 0, 0] ++ s.trec.chain ++ d.take 4088)
  let ps := pieces 4136 2304 (d.drop 4088)
  let s := forEach (ps.zipIdx 1) (fun x s => { s with trec := { s.trec with bufBytes := 0 } }.record 0x02 0 (leBytes 2 x.2 ++ leBytes 2 n ++ [0, 0, 0, 0] ++ x.1)) s
  let whole := (List.range n).all (fun k => (s.trec.at (first + k)).isSome)
  if whole then s.modRec (fun t => { t with checkpoint := some first }) else s

/-- Adds the GAP record for inputs that went unrecorded (R577, R578). -/
def State.closeGap (s : State) (cause : Nat) : State :=
  match s.trec.gapFrom with
  | none => s
  | some f =>
    let last := s.trec.next - 1
    let n := s.trec.gapCount
    let s := s.modRec (fun t => { t with gapFrom := none, gapCount := 0, gapCause := 0 })
    s.recordGap f last cause n

/-! ## Commands of Table 14-11 -/

/-- TRANSCRIPT_INFO (0xCB00). -/
def specTranscriptInfo : CmdSpec :=
  { opcode := 0xCB00, priv := .observe, sub := 0x11, len := lenIs 0,
    run := fun _ _ s =>
      .done (leBytes 8 s.trec.oldest ++ leBytes 8 s.trec.next ++ leBytes 8 (s.trec.checkpoint.getD (2 ^ 64 - 1))
        ++ s.words 0x11000104 1 ++ leBytes 4 (s.get Reg.REC_MISSED)) s }

/-- TRANSCRIPT_INFO: R586. -/
def execTranscriptInfo (h : Hdr) (p : Bytes) (s : State) : Host.Outcome State Fault Refusal := specTranscriptInfo.direct h p s

/-- TRANSCRIPT_READ (0xCB01): bytes of one record; HW_FAULT for a record in an uncorrectable page (R577). -/
def specTranscriptRead : CmdSpec :=
  { opcode := 0xCB01, priv := .observe, sub := 0x11, len := lenIs 16,
    check := fun _ p s =>
      let q := p64 p 0; let off := p32 p 8; let n := p32 p 12
      let r := s.trec.at q
      firstBad [need r.isSome 0, need (4 ≤ n && n ≤ 4064) 12, need (off + n ≤ ((r.map TRec.len).getD 0)) 8],
    run := fun _ p s =>
      match s.trec.at (p64 p 0) with
      | none => .bad 0
      | some r => if r.bad then .fail stHwFault else .done (slice r.toBytes (p32 p 8) (p32 p 12)) s }

/-- TRANSCRIPT_READ: R586. -/
def execTranscriptRead (h : Hdr) (p : Bytes) (s : State) : Host.Outcome State Fault Refusal := specTranscriptRead.direct h p s

/-- Writes bytes to a host buffer as the management PF does (TRANSCRIPT_EXPORT, SCH_TELEM_EXPORT). -/
def State.exportBytes (s : State) (addr : Nat) (bs : Bytes) : State :=
  s.emit (.hostWrite ((s.mgmtUsp).getD 0) 0x8000 addr bs)

/-- TRANSCRIPT_EXPORT (0xCB02): the records of a range, in order, to a host buffer; it stops with HW_FAULT at a lost record. -/
def specTranscriptExport : CmdSpec :=
  { opcode := 0xCB02, priv := .operate, sub := 0x11, len := lenIs 24,
    check := fun _ p s =>
      let a := p64 p 0; let b := p64 p 8
      firstBad [need (s.trec.oldest ≤ a && a < s.trec.next) 0, need (a ≤ b && b < s.trec.next) 8, need (p64 p 16 % 4096 == 0) 16],
    run := fun _ p s =>
      if s.mgmtUsp.isNone then .fail stConflict
      else
        let rs := (s.trec.records.filter (fun r => p64 p 0 ≤ r.seq && r.seq ≤ p64 p 8)).reverse
        let good := rs.takeWhile (fun r => !r.bad)
        let bs := (good.map TRec.toBytes).flatten
        let s := s.exportBytes (p64 p 16) bs
        if good.length = rs.length then .finished s stSuccess (leBytes 8 bs.length) else .finished s stHwFault [] }

/-- TRANSCRIPT_EXPORT: R586. -/
def execTranscriptExport (h : Hdr) (p : Bytes) (s : State) : Host.Outcome State Fault Refusal := specTranscriptExport.direct h p s

/-- TRANSCRIPT_FREEZE (0xCB03): protects the records from a SEQ onward, or thaws them (R578). -/
def specTranscriptFreeze : CmdSpec :=
  { opcode := 0xCB03, priv := .operate, sub := 0x11, len := lenIs 16,
    run := fun _ p s =>
      let q := p64 p 8
      if bitOf (p8 p 0) 0 then
        let s := (s.modRec (fun t => { t with frozen := some q })).setFlag Reg.REC_STATUS_FROZEN 0 true
        .done [] (s.recordMark 1 q)
      else
        let s := s.modRec (fun t => { t with frozen := none })
        let s := (s.setFlag Reg.REC_STATUS_FROZEN 0 false).closeGap 3
        .done [] (s.recordMark 2 q) }

/-- TRANSCRIPT_FREEZE: R578. -/
def execTranscriptFreeze (h : Hdr) (p : Bytes) (s : State) : Host.Outcome State Fault Refusal := specTranscriptFreeze.direct h p s

/-- TRANSCRIPT_CHECKPOINT (0xCB04): R575. -/
def specTranscriptCheckpoint : CmdSpec :=
  { opcode := 0xCB04, priv := .operate, sub := 0x11, len := lenIs 0,
    run := fun _ _ s => .finished s.checkpoint stSuccess (leBytes 8 s.trec.next) }

/-- TRANSCRIPT_CHECKPOINT: R586. -/
def execTranscriptCheckpoint (h : Hdr) (p : Bytes) (s : State) : Host.Outcome State Fault Refusal :=
  specTranscriptCheckpoint.direct h p s

/-- The START record that a replay from SEQ `q` names: the newest one not after it. -/
def Rec.startOf (t : Rec) (q : Nat) : Option TRec := t.records.find? (fun r => r.typ == 0x01 && decide (r.seq ≤ q))

/-- The Assays of a START record agree with those of the running boot (R582). -/
def State.sameImage (s : State) (r : TRec) : Bool :=
  slice r.payload 4 48 == s.hlm.assays.getD 2 [] && slice r.payload 52 48 == s.hlm.assays.getD 3 []

/-- REPLAY_START (0xCB10): R582. -/
def specReplayStart : CmdSpec :=
  { opcode := 0xCB10, priv := .operate, sub := 0x11, len := lenIs 16,
    check := fun _ p s =>
      let a := p64 p 0; let b := p64 p 8
      firstBad [need (match s.trec.at a with | some r => r.typ == 0x02 && fieldAt r.payload 0 2 == 0 | none => false) 0,
                need (a ≤ b && b < s.trec.next) 8],
    run := fun _ p s =>
      let a := p64 p 0
      if !(s.cmd.cores.all id) || s.trec.replay.isSome || !((s.trec.startOf a).map s.sameImage).getD false then .fail stConflict
      else if s.get Reg.VLT_UNALLOC_FREE < 131072 then .fail stNoResource
      else
        let r : Replay := { bgId := s.cmd.nextBg, first := a, last := p64 p 8, done := 0, commits := 0 }
        let s := (s.modRec (fun t => { t with replay := some r })).setFlag Reg.REC_STATUS_REPLAY 0 true
        let s := s.set Reg.VLT_UNALLOC_FREE 0 (s.get Reg.VLT_UNALLOC_FREE - 131072)
        .started (s.recordMark 3 a) false }

/-- REPLAY_START: R586. -/
def execReplayStart (h : Hdr) (p : Bytes) (s : State) : Host.Outcome State Fault Refusal := specReplayStart.direct h p s

/-- REPLAY_STATUS (0xCB11). -/
def specReplayStatus : CmdSpec :=
  { opcode := 0xCB11, priv := .observe, sub := 0x11, len := lenIs 0,
    run := fun _ _ s =>
      let r := match s.trec.replay with
        | some r => (0, r.done, r.commits, 0)
        | none => s.trec.lastReplay.getD (0, 0, 0, 0)
      .done (leBytes 1 (b2n s.trec.replay.isSome) ++ leBytes 1 r.1 ++ List.replicate 6 0 ++ leBytes 8 r.2.1 ++ leBytes 8 r.2.2.1
        ++ leBytes 8 r.2.2.2) s }

/-- REPLAY_STATUS: R586. -/
def execReplayStatus (h : Hdr) (p : Bytes) (s : State) : Host.Outcome State Fault Refusal := specReplayStatus.direct h p s

/-- Ends the running replay: pages released, MARK record, outcome of REPLAY_START (R583). -/
def State.endReplay (s : State) (r : Replay) (kind done commits seq status : Nat) : State :=
  let s := s.modRec (fun t => { t with replay := none, lastReplay := some (kind, done, commits, seq) })
  let s := s.setFlag Reg.REC_STATUS_REPLAY 0 false
  let s := s.set Reg.VLT_UNALLOC_FREE 0 (s.get Reg.VLT_UNALLOC_FREE + 131072)
  let s := if kind ≠ 0 ∧ kind ≠ 6 then s.report 0x1101 contained 0 (leBytes 8 seq) else s
  (s.recordMark 4 r.last).endBg r.bgId status []

/-- REPLAY_ABORT (0xCB12): the replay's own outcome is CONFLICT, as Table 11-2 gives for a cancellation (log 14). -/
def specReplayAbort : CmdSpec :=
  { opcode := 0xCB12, priv := .operate, sub := 0x11, len := lenIs 0,
    run := fun _ _ s =>
      match s.trec.replay with
      | none => .fail stConflict
      | some r => .done [] (s.endReplay r 0 r.done r.commits 0 stConflict) }

/-- REPLAY_ABORT: R586. -/
def execReplayAbort (h : Hdr) (p : Bytes) (s : State) : Host.Outcome State Fault Refusal := specReplayAbort.direct h p s

/-! ## Events -/

/-- R583: a replay ends at the last SEQ of its range, at a divergence, or because CMD needs the spare core. A GAP record in the
range is the divergence GAP (Table 14-8). -/
def execReplayEnd (r : ReplayEnd) (s : State) : Host.Outcome State Fault Refusal :=
  .next (match s.trec.replay with
    | none => s
    | some x =>
      let rs := s.trec.records.filter (fun y => x.first ≤ y.seq && y.seq ≤ x.last)
      let n := rs.length
      let c := (rs.filter (fun y => y.typ == 0x09)).length
      match r with
      | .failover => s.endReplay x 0 x.done x.commits 0 stHwFault
      | .diverged k q => s.endReplay x (k % 8) x.done x.commits q stSuccess
      | .last =>
        match rs.find? (fun y => y.typ == 0x0C) with
        | some g => s.endReplay x 6 n c g.seq stSuccess
        | none => s.endReplay x 0 n c 0 stSuccess)

/-- R569: REC gives an input its SEQ and records it before Acrak takes it. -/
def execTranscriptInput (i : TrInput) (s : State) : Host.Outcome State Fault Refusal :=
  .next (match i with
    | .event src kind d => s.record 0x06 0 (leBytes 2 src.toNat ++ leBytes 2 kind.toNat ++ leBytes 2 (min d.length 64) ++ [0, 0] ++ d.take 64)
    | .timer id armed => s.record 0x07 0 (leBytes 4 id ++ [0, 0, 0, 0] ++ leBytes 8 armed)
    | .device p tag st d => s.record 0x08 0 (leBytes 1 p.val ++ [0] ++ leBytes 2 tag.toNat ++ leBytes 2 st.toNat
        ++ leBytes 2 (min d.length 4096) ++ d.take 4096))

/-- R569: an Acrak timer expires; the expiry is a TIMER input that names the SEQ of the input that armed it. -/
def execAcrakTimer (id armed : Nat) (s : State) : Host.Outcome State Fault Refusal :=
  .next (s.record 0x07 0 (leBytes 4 id ++ [0, 0, 0, 0] ++ leBytes 8 armed))

/-- The TIMER input with which one of Acrak's timed limits ends (R569; log 8). -/
def State.timerInput (s : State) (which : Nat) : State :=
  s.record 0x07 0 (leBytes 4 (Config.timerId which) ++ [0, 0, 0, 0] ++ leBytes 8 s.trec.next)

/-- R575: every CHECKPOINT_MIN minutes. -/
def execCheckpointTimer (s : State) : Host.Outcome State Fault Refusal :=
  .next (if s.clk.phase = .ready then s.checkpoint else s)

/-- R577: the input buffer has room again, or a read met an uncorrectable page. -/
def execTranscriptGap (g : GapCause) (s : State) : Host.Outcome State Fault Refusal :=
  .next (match g with
    | .bufferRoom =>
      if s.trec.gapFrom.isSome && s.trec.gapCause == 2 then (s.modRec (fun t => { t with bufBytes := 0 })).closeGap 2 else s
    | .badPage a b =>
      if s.trec.records.any (fun r => a ≤ r.seq && r.seq ≤ b) then
        let rs := s.trec.records.map (fun r => if a ≤ r.seq ∧ r.seq ≤ b then { r with bad := true } else r)
        let s := s.modRec (fun t => { t with records := rs })
        s.recordGap a b 1 0
      else s)

end Sys2Proof.Machine
end

