-- ==== Sys2Proof/Machine/PoolCmd.lean ====
section
/-! DEFINITION. Granting and releasing capacity, share groups and pool views (R58, R59, R78 to R88, R115), with their commands. -/

namespace Sys2Proof.Machine

/-! ## Runs of extents -/

/-- Ascending numbers as runs: first and count. -/
def runsOf : List Nat → List (Nat × Nat)
  | [] => []
  | x :: xs =>
    match runsOf xs with
    | [] => [(x, 1)]
    | (f, n) :: rs => if f = x + 1 then (x, n + 1) :: rs else (x, 1) :: (f, n) :: rs

/-- Runs of the extent map: consecutive indices, same attributes, PAGE rising by one (R106). -/
def mapRuns : List (Nat × Nat) → Nat
  | [] => 0
  | [_] => 1
  | a :: b :: m =>
    (if b.1 = a.1 + 1 ∧ b.2 % 2 ^ 48 = a.2 % 2 ^ 48 + 2 ^ 24 then 0 else 1) + mapRuns (b :: m)

/-- The DCD tag of a share group. -/
def State.groupTag (s : State) (g : Nat) : Bytes := SMap.get s.pol.groupTags g (List.replicate 16 0)

/-- The VALID extents that share group `g` carries. -/
def State.groupExtents (s : State) (g : Nat) : List Nat :=
  (s.validExtents.filter (fun x => entShared x.2 && entOwner x.2 == g)).map Prod.fst

/-- DCD events of one kind for extents of an LD: one record for each run (R55). -/
def State.offer (s : State) (ld kind : Nat) (xs : List Nat) (tag : Bytes) : State :=
  s.emits ((runsOf xs).map (fun r => OutMsg.capacity ld kind r.1 r.2 tag))

/-- LD `ld` holds extent `x` (R86, R92). -/
def State.holdsExtent (s : State) (ld x : Nat) : Bool :=
  let e := s.entry x
  entValid e && (if entShared e then s.member ld (entOwner e) else entOwner e == ld)

/-- A change of extent `x` waits for its commit (R81). -/
def State.stagedExtent (s : State) (x : Nat) : Bool :=
  s.pol.staged.any (fun e => e.1 == x) || s.tbl.modq.any (fun m => m.extents.any (fun e => e.1 == x))
    || s.pol.grants.any (fun g => !g.offered && g.entries.any (fun e => e.1 == x))
    || s.pol.releases.any (fun r => !r.waitHost && r.extents.contains x)

/-! ## Membership (R58) -/

/-- The bytes of the HDM decode tables that membership changes write, one for each byte touched. -/
def State.memberWrites (s : State) (chg : List (Nat × Nat × Bool)) : List (Nat × Nat × Bytes) :=
  let key := fun (c : Nat × Nat × Bool) => (0x0A00 + c.1 / 16, 0x800 + 128 * (c.1 % 16) + c.2.1 / 8)
  ((chg.map key).dedup).map (fun (k : Nat × Nat) =>
    let v := (chg.filter (fun c => key c = k)).foldl (fun v c => putBit v (c.2.1 % 8) c.2.2) (leNat (s.active k.1 k.2 1))
    (k.1, k.2, [byte v]))

/-- The member mask of a group as journaled. -/
def State.groupRecord (s : State) (g : Nat) (ms : List Nat) : JRec := .group g (s.groupTag g) ms

/-! ## Releases (Table 2-9) -/

/-- Changes release `id`. -/
def State.dropRelease (s : State) (id : Nat) : State :=
  s.modPol (fun p => { p with releases := p.releases.filter (fun r => r.id != id) })

/-- The relocations of extents that are released are aborted: the release's own commit follows, and ends them (Table 2-11). -/
def State.dropRelocs (s : State) (xs : List Nat) : State :=
  forEach xs (fun x s => match s.relocOf x with
    | none => s
    | some r =>
      let s := s.modReloc r.slot (fun r => { r with aborting := true })
      let s := s.journal (.relocEnd r.slot)
      { s with mov := { s.mov with ctxs := s.mov.ctxs.filter (fun (c : Ctx) => some c.id != r.ctx) } }) s

/-- Steps 3 and 4 of Table 2-9: journal records, then the commit. A group whose last member leaves gives up its extents. -/
def State.commitRelease (s : State) (r : Release) : State :=
  let gone := ((r.leavers.map Prod.snd).dedup.filter (fun g =>
    (s.members g).all (fun m => r.leavers.contains (m, g)) && !r.joiners.any (fun j => j.2 == g)))
  let xs := r.extents ++ (gone.map s.groupExtents).flatten
  let s := s.dropRelocs xs
  let chg := r.leavers.map (fun l => (l.1, l.2, false)) ++ r.joiners.map (fun l => (l.1, l.2, true))
  let gs := (chg.map (fun c => c.2.1)).dedup
  let s := s.journals ((runsOf xs).map (fun x => JRec.run x.1 x.2 0))
  let s := s.journals (gs.map (fun g => s.groupRecord g
    ((s.members g).filter (fun m => !r.leavers.contains (m, g)) ++ (r.joiners.filter (fun j => j.2 == g)).map Prod.fst)))
  let s := if r.destroy then s.journal (.ldDestroy r.ld) else s
  let off := if r.destroy then [(0x0A00 + r.ld / 16, 128 * (r.ld % 16), List.replicate 128 (0 : Byte))] else []
  s.moduleCommit 0 (off ++ s.memberWrites chg) (xs.map (fun x => (x, 0))) (.release r.id)

/-- Starts a release: step 2 of Table 2-9 toward each leaving LD's USP, unless another member LD of that USP stays; then
steps 3 and 4. `inval` is clear for a release without step 2. -/
def State.startRelease (s : State) (r : Release) (inval : Bool) : State :=
  let s := s.modPol (fun p => { p with releases := p.releases ++ [r] })
  let stays := fun (l : Nat × Nat) => (s.members l.2).any (fun m => m / 16 == l.1 / 16 && !r.leavers.contains (m, l.2))
  let need := if inval then r.leavers.filter (fun l => !stays l) else []
  let s := forEach need (fun l s =>
    let rs := (s.groupExtents l.2).map (fun x => (x * linesPerExtent, linesPerExtent))
    let o : FlushOp := { op := 0, ranges := rs, usp := some (l.1 / 16), bgId := none, release := some r.id, page := none, twin := false }
    if (s.flushLines o).isEmpty then s else s.startFlush rs (some (l.1 / 16)) none (some r.id)) s
  if s.dir.flushes.any (fun o => o.release == some r.id) then s else s.commitRelease r

/-- A release waits for BI invalidations. -/
def State.invalidating (s : State) (id : Nat) : Bool := s.dir.flushes.any (fun o => o.release == some id)

/-- R86: the BI invalidations of step 2 are complete; the release is journaled and committed. -/
def execReleaseInvalidateEnd (id : Nat) (s : State) : Host.Outcome State Fault Refusal :=
  .next (match s.pol.releases.find? (fun r => r.id == id) with
    | none => s
    | some r =>
      if s.invalidating id && s.releaseClear id then
        let s := { s with dir := { s.dir with flushes := s.dir.flushes.filter (fun o => o.release != some id) } }
        s.commitRelease r
      else s)

/-- A new release of extents by an LD: a shared extent makes the LD leave the extent's group (R86). -/
def State.releaseOf (s : State) (ld : Nat) (xs : List Nat) (bg : Option Nat) (asked : Nat × Nat) : Release :=
  let gs := ((xs.filter (fun x => entShared (s.entry x))).map (fun x => entOwner (s.entry x))).dedup
  { id := s.pol.nextId, bgId := bg, ld := ld, extents := xs.filter (fun x => !entShared (s.entry x)), waitHost := false,
    destroy := false, leavers := gs.map (fun g => (ld, g)), joiners := [], asked := asked }

/-- Takes the next operation number. -/
def State.bumpId (s : State) : State := s.modPol (fun p => { p with nextId := p.nextId + 1 })

/-- R86, R88: the host releases extents of an LD, on its own or as asked; a list that names an extent the LD does not hold is
refused and changes nothing. -/
def execHostReleaseCapacity (ld : Fin 1024) (first count : Nat) (s : State) : Host.Outcome State Fault Refusal :=
  let xs := (List.range count).map (first + ·)
  .next (if count = 0 ∨ 4096 < count ∨ !(xs.all (fun x => s.holdsExtent ld.val x && !s.stagedExtent x)) then s else
    let w := s.pol.releases.find? (fun r => r.ld == ld.val && r.waitHost && r.asked.1 ≤ first
      && first + count ≤ r.asked.1 + r.asked.2)
    let s := match w with
      | some r => s.dropRelease r.id
      | none => s
    s.bumpId.startRelease (s.releaseOf ld.val xs (w.bind Release.bgId) (first, count)) true)

/-- R88: a release request unanswered for 10 s: the extents stay granted. -/
def execReleaseTimeout (id : Nat) (s : State) : Host.Outcome State Fault Refusal :=
  .next (match s.pol.releases.find? (fun r => r.id == id && r.waitHost) with
    | none => s
    | some r => ((s.timerInput 0).dropRelease id).endBg? r.bgId stTimeout [])

/-! ## Grants (Table 2-8) -/

/-- One run of an EXTENT_GRANT: first extent, count, entry. -/
structure GrantRun where
  first : Nat
  count : Nat
  entry : Nat
  deriving DecidableEq, Repr

/-- The entries a run makes: VALID, OWNER as the command names, PAGE rising by one (Table 11-8). -/
def GrantRun.entries (r : GrantRun) (owner : Nat) : List (Nat × Nat) :=
  (List.range r.count).map (fun i =>
    (r.first + i, putBits (putBits (putBits (putBit r.entry 0 true) 6 10 owner) 24 24 (entPage r.entry + i)) 48 16 0))

/-- What makes a run malformed, as the offset of the field within its 16 bytes (R64, R51, R65, R72, R400). -/
def State.grantBad (s : State) (r : GrantRun) : Option Nat :=
  firstBad [need (r.first < 2 ^ 24 && !s.partnerExtent r.first && !s.partnerExtent (r.first + r.count - 1)) 0, need (1 ≤ r.count && r.first + r.count ≤ 2 ^ 24) 4,
    need (!entReloc r.entry && (entMirrored r.entry || entIl r.entry || s.targetOk (entTarget r.entry))
      && (!entMirrored r.entry || entPage r.entry + r.count ≤ relocPairBase)
      && entPage r.entry + r.count ≤ 2 ^ 24) 8]

/-- The targets that an entry reaches in the active tables; none where it reaches no device (R85). -/
def State.entryTargets (s : State) (e : Nat) : Option (List Nat) :=
  let set := fun (i page : Nat) =>
    let b := s.active 0x0A40 (128 * i) 128
    if isetWays b = 0 ∨ isetLength b ≤ page then none else some ((List.range (2 ^ isetWays b)).map (isetTarget b))
  let word := fun (w : Nat) => if cwIl w then set (cwTarget w) (cwPage w) else some [cwTarget w]
  if entMirrored e then
    let ws := ([0, 1].map (s.copyWord (entPage e))).filter cwValid
    if ws.isEmpty ∨ (ws.any (fun w => (word w).isNone)) then none else some ((ws.filterMap word).flatten)
  else if entIl e then set (entTarget e) (entPage e) else some [entTarget e]

/-- The LDs that receive extents of an entry. -/
def State.receivers (s : State) (e owner : Nat) : List Nat := if entShared e then s.members owner else [owner]

/-- The runs of the extent map once these entries are in it (R106, R107). -/
def State.runsWith (s : State) (es : List (Nat × Nat)) : Nat :=
  mapRuns (es.foldl (fun (m : SMap Nat) e => SMap.put m e.1 e.2) s.pol.map)

/-- The status of a grant that cannot be made (R85, R107, R116). -/
def State.grantRefused (s : State) (es : List (Nat × Nat)) (noLd : Bool) : Option Nat :=
  let xs := es.map Prod.fst
  if noLd || !xs.Nodup || xs.any (fun x => entValid (s.entry x) || s.stagedExtent x) then some stConflict
  else if es.any (fun e => match s.entryTargets e.2 with
      | none => true
      | some ts => (s.receivers e.2 (entOwner e.2)).any (fun ld => !ts.all (s.inView (ld / 16)))) then some stConflict
  else if 4096 < es.length ∨ 196608 < s.runsWith es then some stNoResource
  else none

/-- Step 3 and 4 of Table 2-8: journal, then the change list commit. -/
def State.commitGrant (s : State) (g : Grant) (runs : List GrantRun) (owner : Nat) : State :=
  let s := s.journals (runs.map (fun r => JRec.run r.first r.count (putBits (putBit r.entry 0 true) 6 10 owner)))
  s.moduleCommit 0 [] g.entries (.grant g.id)

/-- The runs of a granted list. -/
def runsOfEntries (es : List (Nat × Nat)) : List GrantRun := es.map (fun e => { first := e.1, count := 1, entry := e.2 })

/-- R83: after the last zero fill the grant is journaled and committed. The fills of each copy's pages go out here. -/
def execFillComplete (id : Nat) (s : State) : Host.Outcome State Fault Refusal :=
  .next (match s.pol.grants.find? (fun g => g.id == id && g.fills != 0) with
    | none => s
    | some g =>
      let s := forEach g.entries (fun e s =>
        forEach (s.copies e.2 (e.1 * linesPerExtent) s.tbl.epoch) (fun c s => s.emit (.devFill c.port c.dpa pageBytes)) s) s
      let s := s.modPol (fun p => { p with grants := updFirst (fun x : Grant => x.id == id) (fun x => { x with fills := 0 }) p.grants })
      s.commitGrant g (runsOfEntries g.entries) (entOwner ((g.entries.head?.map Prod.snd).getD 0)))

/-- The end of a grant's commit: Add Capacity to each receiving LD (Table 2-8 step 5). -/
def State.finishGrant (s : State) (id : Nat) : State :=
  match s.pol.grants.find? (fun g => g.id == id) with
  | none => s
  | some g =>
    let s := forEach g.lds (fun ld s =>
      let mine := (g.entries.filter (fun e => (s.receivers e.2 (entOwner e.2)).contains ld))
      let tag := match mine with
        | e :: _ => if entShared e.2 then s.groupTag (entOwner e.2) else List.replicate 16 0
        | [] => []
      s.offer ld 0 (mine.map Prod.fst) tag) s
    let s := s.modPol (fun p => { p with grants := updFirst (fun x : Grant => x.id == id) (fun x => { x with offered := true }) p.grants })
    s.endBg? g.bgId stSuccess []

/-- The end of a release's commit: notices to leaving LDs for the groups' other extents, Add Capacity to joining ones. -/
def State.finishRelease (s : State) (id : Nat) : State :=
  match s.pol.releases.find? (fun r => r.id == id) with
  | none => s
  | some r =>
    let s := forEach (r.leavers.filter (fun l => !(r.destroy && l.1 == r.ld))) (fun l s =>
      s.offer l.1 2 ((s.groupExtents l.2).filter (fun x => !(r.asked.1 ≤ x && x < r.asked.1 + r.asked.2))) (s.groupTag l.2)) s
    let s := forEach r.joiners (fun l s => s.offer l.1 0 (s.groupExtents l.2) (s.groupTag l.2)) s
    (s.dropRelease id).endBg? r.bgId stSuccess []

/-- R83 step 6: the host answers an Add Capacity event; what it does not accept is released without step 2. -/
def execHostAddCapacityResponse (ld : Fin 1024) (accepted : List (Nat × Nat)) (s : State) : Host.Outcome State Fault Refusal :=
  .next (match s.pol.grants.find? (fun g => g.offered && g.lds.contains ld.val) with
    | none => s
    | some g =>
      let mine := (g.entries.filter (fun e => s.holdsExtent ld.val e.1)).map Prod.fst
      let no := mine.filter (fun x => !accepted.any (fun a => a.1 ≤ x && x < a.1 + a.2) && !s.stagedExtent x)
      let upd := (updFirst (fun x : Grant => x.id == g.id) (fun x => { x with lds := x.lds.filter (· ≠ ld.val) }) s.pol.grants).filter
        (fun x => !(x.offered && x.lds.isEmpty))
      let s := s.modPol (fun p => { p with grants := upd })
      if no.isEmpty then s
      else s.bumpId.startRelease (s.releaseOf ld.val no none ((no.head?).getD 0, no.length)) false)

/-- R79: the committed entries are in both vault copies; the change list is writable again. -/
def execChangeListWritable (s : State) : Host.Outcome State Fault Refusal :=
  .next (s.setFlag Reg.POL_MAP_STATUS_CL_WRITABLE 0 true)

/-- R105: a page with both copies bad has been rebuilt from the journal; the lookups that wait on it continue. -/
def execExtentPageRebuild (page : Nat) (pairTable : Bool) (s : State) : Host.Outcome State Fault Refusal :=
  .next ((s.modPol (fun p => { p with badPages := p.badPages.filter (· ≠ (page, pairTable)) })).report
    (if pairTable then 0x0A81 else 0x0A80) contained 0 (leBytes 4 page))

/-! ## Commands of Table 2-17 -/

/-- POOL_INFO (0xC400). -/
def specPoolInfo : CmdSpec :=
  { opcode := 0xC400, priv := .observe, sub := 0x0A, len := lenIs 0,
    run := fun _ _ s =>
      let sets := ((List.range 256).filter (fun i => isetWays (s.active 0x0A40 (128 * i) 128) != 0)).length
      .done (leBytes 4 s.validExtents.length ++ leBytes 4 (2040 - s.pol.relocs.length) ++ leBytes 4 s.jnl.runs
        ++ leBytes 4 s.pol.lds.length ++ leBytes 4 s.pairsUsed.length ++ leBytes 2 sets ++ leBytes 2 s.pol.groupTags.length) s }

/-- POOL_INFO: R115. -/
def execPoolInfo (h : Hdr) (p : Bytes) (s : State) : Host.Outcome State Fault Refusal := specPoolInfo.direct h p s

/-- POOL_VIEW_SET (0xC402): CONFLICT if a held extent would leave the view. -/
def specPoolViewSet : CmdSpec :=
  { opcode := 0xC402, priv := .admin, sub := 0x0A, len := lenIs 32, objects := fun p _ => [p8 p 0],
    check := fun _ p s => firstBad ([need (s.isUsp (p8 p 0)) 0] ++ (List.range 16).map (fun i =>
      need (!bitOf (p8 p (16 + i)) 7 || s.targetOk (p8 p (16 + i) % 128)) (16 + i))),
    run := fun _ p s =>
      let u := p8 p 0
      let v := slice p 16 16
      let held := s.validExtents.filter (fun x => s.pol.lds.any (fun ld => ld / 16 == u && s.holdsExtent ld x.1))
      if held.any (fun x => !((s.entryTargets x.2).getD []).all (fun t => v.any (fun b => b.toNat == 0x80 + t))) then .fail stConflict
      else .waits (.modCommit s.tbl.nextMod) (s.moduleCommit 0 [(0x0A00 + u, 0x1000, v)] [] .nothing) }

/-- POOL_VIEW_SET: R115. -/
def execPoolViewSet (h : Hdr) (p : Bytes) (s : State) : Host.Outcome State Fault Refusal := specPoolViewSet.direct h p s

/-- Run `r` of an EXTENT_GRANT. -/
def grantRun (p : Bytes) (r : Nat) : GrantRun :=
  { first := p32 p (16 + 16 * r), count := p32 p (20 + 16 * r), entry := p64 p (24 + 16 * r) }

/-- The runs of an EXTENT_GRANT. -/
def grantRuns (p : Bytes) : List GrantRun := (List.range (p16 p 0)).map (grantRun p)

/-- EXTENT_GRANT (0xC420): NO_FILL needs ADMIN (R84). -/
def specExtentGrant : CmdSpec :=
  { opcode := 0xC420, priv := .operate, sub := 0x0A,
    len := fun p => if p.length < 16 then some headerOffset
      else if p.length = 16 + 16 * p16 p 0 then none else some 0,
    objects := fun p _ => [p16 p 4 / 16],
    deny := fun h p s => bitOf (p8 p 2) 0 && privRank (s.privOf h) < 2,
    check := fun _ p s =>
      firstBad ([need (1 ≤ p16 p 0 && p16 p 0 ≤ 255) 0,
        need ((grantRuns p).all (fun r => entShared r.entry) || s.ldOperand (p16 p 4)) 4, need (p16 p 4 < 1024) 4] ++
        (List.range (p16 p 0)).map (fun r => match s.grantBad (grantRun p r) with
          | some o => need false (16 + 16 * r + o)
          | none => need true 0)),
    run := fun _ p s =>
      let owner := p16 p 4
      let runs := grantRuns p
      let es := (runs.map (fun r => r.entries owner)).flatten
      let noLd := runs.any (fun r => !entShared r.entry) && !s.hasLd owner
      match s.grantRefused es noLd with
      | some st => .fail st
      | none =>
        let lds := ((es.map (fun e => s.receivers e.2 owner)).flatten).dedup
        let nofill := bitOf (p8 p 2) 0
        let g : Grant := { id := s.pol.nextId, bgId := some s.cmd.nextBg, lds := lds, entries := es,
                           fills := if nofill then 0 else es.length, mod := none, offered := false }
        let s := s.bumpId.modPol (fun q => { q with grants := q.grants ++ [g] })
        .started (if nofill then s.commitGrant g runs owner else s) true }

/-- EXTENT_GRANT: R83 to R85. -/
def execExtentGrant (h : Hdr) (p : Bytes) (s : State) : Host.Outcome State Fault Refusal := specExtentGrant.direct h p s

/-- EXTENT_RELEASE (0xC421): asks the host; CONFLICT for an extent that the LD does not hold (R86). -/
def specExtentRelease : CmdSpec :=
  { opcode := 0xC421, priv := .operate, sub := 0x0A, len := lenIs 12, objects := fun p _ => [p16 p 0 / 16],
    check := fun _ p s => firstBad [need (s.ldOperand (p16 p 0)) 0, need (p32 p 4 < 2 ^ 24) 4,
      need (1 ≤ p32 p 8 && p32 p 4 + p32 p 8 ≤ 2 ^ 24) 8],
    run := fun _ p s =>
      let ld := p16 p 0
      let held := s.validExtents.filter (fun x => p32 p 4 ≤ x.1 && x.1 < p32 p 4 + p32 p 8 && s.holdsExtent ld x.1)
      if held.length ≠ p32 p 8 ∨ held.any (fun x => s.stagedExtent x.1) then .fail stConflict
      else if 4096 < p32 p 8 then .fail stNoResource
      else
        let r : Release := { id := s.pol.nextId, bgId := some s.cmd.nextBg, ld := ld, extents := [], waitHost := true,
                             destroy := false, leavers := [], joiners := [], asked := (p32 p 4, p32 p 8) }
        let s := s.bumpId.modPol (fun q => { q with releases := q.releases ++ [r] })
        .started (s.emit (.capacity ld 1 (p32 p 4) (p32 p 8) [])) true }

/-- EXTENT_RELEASE: R86, R88. -/
def execExtentRelease (h : Hdr) (p : Bytes) (s : State) : Host.Outcome State Fault Refusal := specExtentRelease.direct h p s

/-- EXTENT_READ (0xC422): entries of the active map. -/
def specExtentRead : CmdSpec :=
  { opcode := 0xC422, priv := .observe, sub := 0x0A, len := lenIs 6,
    check := fun _ p _ => firstBad [need (p32 p 0 < 2 ^ 24) 0, need (1 ≤ p16 p 4 && p16 p 4 ≤ 512 && p32 p 0 + p16 p 4 ≤ 2 ^ 24) 4],
    run := fun _ p s => .done ((List.range (p16 p 4)).map (fun i => leBytes 8 (s.entry (p32 p 0 + i)))).flatten s }

/-- EXTENT_READ: R115. -/
def execExtentRead (h : Hdr) (p : Bytes) (s : State) : Host.Outcome State Fault Refusal := specExtentRead.direct h p s

/-- SHARE_GROUP_SET (0xC423): R59. -/
def specShareGroupSet : CmdSpec :=
  { opcode := 0xC423, priv := .operate, sub := 0x0A, len := lenIs 160,
    check := fun _ p _ => firstBad [need (p16 p 0 < 1024) 0],
    run := fun _ p s =>
      let g := p16 p 0
      let want := indicesOf 1024 (fieldAt p 32 128)
      let tag := slice p 16 16
      let have' := s.members g
      let used := !(s.groupExtents g).isEmpty
      let leave := have'.filter (fun m => !want.contains m)
      let enter := want.filter (fun m => !have'.contains m)
      if !want.all s.hasLd then .fail stConflict
      else if used && tag != s.groupTag g then .fail stConflict
      else if used && !leave.isEmpty && !bitOf (p8 p 2) 0 then .fail stConflict
      else if (s.groupExtents g).any s.stagedExtent then .fail stConflict
      else
        let r : Release := { id := s.pol.nextId, bgId := none, ld := (leave.head?).getD 0, extents := [], waitHost := false,
                             destroy := false, leavers := leave.map (fun m => (m, g)), joiners := enter.map (fun m => (m, g)),
                             asked := (0, 0) }
        let s := s.bumpId.modPol (fun q => { q with groupTags := SMap.put q.groupTags g tag })
        if leave.isEmpty && enter.isEmpty then .done [] (s.journal (s.groupRecord g want)) else
        let next := s.tbl.nextMod
        let bg := s.cmd.nextBg
        let s1 := s.startRelease { r with bgId := some bg } true
        if s1.invalidating r.id then .started s1 true
        else .waits (.modCommit next) (s.startRelease r true) }

/-- SHARE_GROUP_SET: R59. -/
def execShareGroupSet (h : Hdr) (p : Bytes) (s : State) : Host.Outcome State Fault Refusal := specShareGroupSet.direct h p s

end Sys2Proof.Machine
end

