-- ==== Sys2Proof/Machine/Reloc.lean ====
section
/-! DEFINITION. Live relocation: batches, the start and the end commit, aborts, slots, and its commands (R94 to R103, R715). -/

namespace Sys2Proof.Machine

/-- Relocation slots (Table 2-18). -/
def relocSlots : Nat := 2040

/-- The lowest free slot. -/
def State.freeSlot (s : State) : Option Nat :=
  (List.range relocSlots).find? (fun k => !s.pol.relocs.any (fun r => r.slot == k))

/-- The word of copy `c` of an extent's source: its single target, or the pair's copy that stays (R100). -/
def State.sourceWord (s : State) (e : Nat) (copy : Option Nat) : Nat :=
  match copy with
  | none => cwMake (entIl e) (entTarget e) (entPage e) 0 0
  | some c => putBits (s.copyWord (entPage e) (1 - c)) 34 2 0

/-- The entry of an extent once it has moved: an unmirrored one points at the destination (R98). -/
def RelocItem.moved (i : RelocItem) (e : Nat) : Nat :=
  match i.copy with
  | some _ => putBit e 3 false
  | none => putBits (putBits (putBit e 16 i.il) 17 7 i.target) 24 24 i.page

/-- The relocation of one list item in a slot (R94). -/
def State.makeReloc (s : State) (slot batch bg : Nat) (i : RelocItem) : Reloc :=
  let e := s.entry i.extent
  let dst := cwMake i.il i.target i.page 1 slot
  { ctx := none, aborting := false, slot := slot, extent := i.extent, origEntry := e,
    origPair := i.copy.map (fun c => (entPage e, c)), dstCopy := dst, srcCopy := s.sourceWord e i.copy, dstEntry := i.moved e,
    written := [], poison := [], staged := [], leg := 0, bgId := bg, batch := batch, freeAt := none }

/-- The entry of an extent while it is relocated: MIRRORED, RELOCATING, its pair the slot's (R94). -/
def Reloc.during (r : Reloc) : Nat :=
  putBits (putBit (putBit r.origEntry 2 true) 3 true) 24 24 (relocPairBase + r.slot)

/-- Starts one item: pair written in both banks, record journaled. -/
def State.beginReloc (s : State) (r : Reloc) : State :=
  let p := relocPairBase + r.slot
  let s := s.writeBoth 0x0A41 (16 * p) (leBytes 8 r.srcCopy ++ leBytes 8 r.dstCopy)
  let s := s.journal (.reloc r.slot r.extent r.dstCopy r.origPair)
  s.modPol (fun q => { q with relocs := q.relocs ++ [r] })

/-- Starts items until the list or the slots end; answers those that did not start. An extent that is being relocated waits
for a later batch (R715). -/
def State.beginItems (s : State) (batch bg : Nat) : List RelocItem → State × List RelocItem
  | [] => (s, [])
  | i :: is =>
    if s.pol.relocs.any (fun r => r.extent == i.extent && r.freeAt.isNone) then
      let x := s.beginItems batch bg is
      (x.1, i :: x.2)
    else match s.freeSlot with
    | none => (s, i :: is)
    | some k => (s.beginReloc (s.makeReloc k batch bg i)).beginItems batch bg is

/-- Starts the next batch, commands in rotation, when none runs (R102): one start commit for the batch. -/
def State.startBatch (s : State) : State :=
  if s.pol.relocCmds.any (fun c => c.current.isSome) then s
  else match s.pol.relocCmds.find? (fun c => !c.todo.isEmpty) with
    | none => s
    | some c =>
      let n := s.get Reg.POL_RELOC_CTL_BATCH
      let b := s.pol.nextBatch
      let x := s.beginItems b c.bgId (c.todo.take n)
      let rs := x.1.pol.relocs.filter (fun r => r.batch == b)
      if rs.isEmpty then s
      else
        let c' := { c with todo := x.2 ++ c.todo.drop n, current := some b }
        let s := x.1.modPol (fun p =>
          { p with nextBatch := b + 1, relocCmds := p.relocCmds.filter (fun y => y.bgId != c.bgId) ++ [c'] })
        s.moduleCommit 0 [] (rs.map (fun r => (r.extent, r.during))) (.relocStart b)

/-- Ends the commands whose list is done, with the extents moved and aborted; RELOCATE_ABORT ends with the last of them. -/
def State.endRelocCmds (s : State) : State :=
  let done := s.pol.relocCmds.filter (fun c => c.todo.isEmpty && c.current.isNone)
  let s := s.modPol (fun p => { p with relocCmds := p.relocCmds.filter (fun c => !(c.todo.isEmpty && c.current.isNone)) })
  let s := forEach done (fun c s => s.endBg c.bgId stSuccess (leBytes 4 c.moved ++ leBytes 4 c.aborted)) s
  if s.pol.relocCmds.isEmpty then (s.endBg? s.pol.abortBg stSuccess []).modPol (fun p => { p with abortBg := none }) else s

/-- A batch all of whose relocations have ended leaves its command; the next batch starts. -/
def State.closeBatch (s : State) (b : Nat) : State :=
  if s.pol.relocs.any (fun r => r.batch == b && r.freeAt.isNone) then s
  else
    let cs := s.pol.relocCmds.map (fun c => if c.current = some b then { c with current := none, batchesDone := c.batchesDone + 1 } else c)
    ((s.modPol (fun p => { p with relocCmds := cs })).endRelocCmds).startBatch

/-- The start commit is complete: the descriptors of the batch are posted on the management PF (R190). -/
def State.postBatch (s : State) (b : Nat) : State :=
  let rs := s.pol.relocs.filter (fun r => r.batch == b && r.leg == 0 && !r.aborting)
  let ds := rs.map (fun r => (r.slot, leBytes 1 5 ++ List.replicate 15 0 ++ leBytes 8 r.extent ++ leBytes 8 r.slot ++ List.replicate 32 0))
  let s := { s with mov := { s.mov with pfPend := s.mov.pfPend ++ ds } }
  s.modPol (fun p => { p with relocs := p.relocs.map (fun r => if r.batch = b ∧ r.leg = 0 then { r with leg := 1 } else r) })

/-- R98: after the last descriptor of the batch the copies are journaled, and one commit ends the batch. -/
def execRelocationBatchEnd (id : Nat) (s : State) : Host.Outcome State Fault Refusal :=
  let rs := s.pol.relocs.filter (fun r => r.batch == id && r.freeAt.isNone && !r.aborting)
  .next (if rs.isEmpty ∨ !(rs.all (fun r => r.leg == 3)) then s else
    let pair := fun (r : Reloc) => (r.origPair.map (fun (x : Nat × Nat) =>
      JRec.table 0x0A41 [(16 * x.1 + 8 * x.2, leBytes 8 (putBits (putBits r.dstCopy 34 2 0) 36 11 0))])).toList
    let s := s.journals ((rs.map (fun r => pair r ++ [JRec.run r.extent 1 r.dstEntry, JRec.relocEnd r.slot])).flatten)
    let s := s.modPol (fun p =>
      { p with relocs := p.relocs.map (fun r => if r.batch = id ∧ r.leg = 3 then { r with leg := 4 } else r) })
    let ws := rs.filterMap (fun r => r.origPair.map (fun (x : Nat × Nat) =>
      (0x0A41, 16 * x.1 + 8 * x.2, leBytes 8 (putBits (putBits r.dstCopy 34 2 0) 36 11 0))))
    s.moduleCommit 0 ws (rs.map (fun r => (r.extent, r.dstEntry))) (.relocEnd id))

/-- The end commit is complete: the extents count as moved, their slots free when no earlier stamp remains (R99). -/
def State.finishBatch (s : State) (b : Nat) : State :=
  let n := (s.pol.relocs.filter (fun r => r.batch == b && r.leg == 4)).length
  let cs := s.pol.relocCmds.map (fun c => if c.current = some b then { c with moved := c.moved + n } else c)
  let rs := s.pol.relocs.map (fun r => if r.batch = b ∧ r.leg = 4 then { r with freeAt := some s.tbl.epoch } else r)
  (s.modPol (fun p => { p with relocCmds := cs, relocs := rs })).closeBatch b

/-- An abort commit is complete. -/
def State.finishAbort (s : State) (xs : List Nat) : State :=
  let gone := s.pol.relocs.filter (fun r => xs.contains r.extent && r.aborting && r.freeAt.isNone)
  let rs := s.pol.relocs.map (fun r =>
    if xs.contains r.extent && r.aborting && r.freeAt.isNone then { r with freeAt := some s.tbl.epoch } else r)
  let cs := s.pol.relocCmds.map (fun c =>
    { c with aborted := c.aborted + (gone.filter (fun r => c.current == some r.batch)).length })
  let s := s.modPol (fun p => { p with relocs := rs, relocCmds := cs })
  forEach (gone.map Reloc.batch).dedup (fun b s => s.closeBatch b) s

/-- R100, R101, R103: an extent's relocation is aborted for one of the causes of Table 2-11. -/
def execRelocationExtentAbort (x : Nat) (cause : RelocAbort) (s : State) : Host.Outcome State Fault Refusal :=
  .next (match s.relocOf x with
    | none => s
    | some r =>
      if 4 ≤ r.leg then s
      else match cause with
        | .command => s.abortReloc r false
        | .deviceLost => s.sourceFailed r
        | .copyFailed => s.destFailed r
        | .moverFault => s.abortReloc r false
        | .targetFenced => s.destFailed r)

/-- R99: a slot is free when no message stamped before the end commit remains. -/
def execRelocationSlotFree (slot : Nat) (s : State) : Host.Outcome State Fault Refusal :=
  .next (match s.pol.relocs.find? (fun r => r.slot == slot) with
    | none => s
    | some r =>
      match r.freeAt with
      | none => s
      | some e =>
        if s.stamps.any (fun t => earlier t e) then s
        else (s.modPol (fun p => { p with relocs := p.relocs.filter (fun q => q.slot != slot) })).startBatch)

/-! ## Commands -/

/-- A destination can be named: a local or twin target, or an interleave set within the range its form reaches (R51, R65). -/
def State.destOk (s : State) (il : Bool) (target : Nat) (pair : Bool) : Bool :=
  if il then (if pair then target < 256 else target < 128) else s.targetOk target

/-- A destination page lies beyond its set, or its set is unused. -/
def State.destBeyond (s : State) (il : Bool) (target page : Nat) : Bool :=
  if il then
    let b := s.active 0x0A40 (128 * target) 128
    isetWays b == 0 || isetLength b ≤ page
  else target < 64 && decide ((s.poolDev target).known ∧ (s.poolDev target).pages ≤ page)

/-- The copy of a mirrored extent that stays is IN_SYNC (R100). -/
def State.staysInSync (s : State) (e : Nat) (copy : Option Nat) : Bool :=
  match copy with
  | none => true
  | some c => let w := s.copyWord (entPage e) (1 - c); cwValid w && cwState w == 0

/-- An item cannot start: not VALID, RELOCATING, staged, its staying copy not IN_SYNC, its destination beyond its set. -/
def State.itemConflict (s : State) (i : RelocItem) : Bool :=
  let e := s.entry i.extent
  !entValid e || entReloc e || s.stagedExtent i.extent || !s.staysInSync e i.copy || s.destBeyond i.il i.target i.page

/-- Adds a relocation command and starts what can start. -/
def State.addReloc (s : State) (items : List RelocItem) : State :=
  let n := max 1 (s.get Reg.POL_RELOC_CTL_BATCH)
  let c : RelocCmd := { bgId := s.cmd.nextBg, todo := items, batches := (items.length + n - 1) / n, batchesDone := 0, moved := 0,
                        aborted := 0, current := none }
  (s.modPol (fun p => { p with relocCmds := p.relocCmds ++ [c] })).startBatch

/-- Item `i` of a list RELOCATE_START. -/
def listItem (s : State) (p : Bytes) (i : Nat) : RelocItem :=
  let b := 16 + 16 * i
  let x := p32 p b
  { extent := x, copy := if entMirrored (s.entry x) then some (b2n (bitOf (p8 p (b + 9)) 1)) else none, target := p8 p (b + 8),
    il := bitOf (p8 p (b + 9)) 0, page := p32 p (b + 4) }

/-- The relocations of a whole-DSP RELOCATE_START: extent and the copy to replace; both copies on the DSP give two, copy 1
first, copy 0 in a later batch (R715). -/
def State.wholeDsp (s : State) (n : Nat) : List (Nat × Option Nat) × List (Nat × Option Nat) :=
  let on := fun (e c : Nat) =>
    let w := s.copyWord (entPage e) c
    cwValid w && s.copyOn (cwIl w) (cwTarget w) n
  let first := s.validExtents.filterMap (fun x =>
    if entMirrored x.2 then
      (if on x.2 1 then some (x.1, some 1) else if on x.2 0 then some (x.1, some 0) else none)
    else if s.copyOn (entIl x.2) (entTarget x.2) n then some (x.1, none) else none)
  let later := s.validExtents.filterMap (fun x =>
    if entMirrored x.2 && on x.2 1 && on x.2 0 then some (x.1, some 0) else none)
  (first, later)

/-- The items of a whole-DSP RELOCATE_START, each with the next destination page. -/
def State.wholeItems (s : State) (p : Bytes) : List RelocItem :=
  let w := s.wholeDsp (p8 p 1)
  ((w.1 ++ w.2).zipIdx).map (fun x =>
    { extent := x.1.1, copy := x.1.2, target := p8 p 4, il := bitOf (p8 p 5) 0, page := p32 p 8 + x.2 })

/-- A page outside the extents' bounds. -/
def pageFits (n : Nat) : Bool := n < 2 ^ 24

/-- RELOCATE_START (0xC430): an extent list, or a whole DSP (R715); a list beyond the slots takes NO_RESOURCE (Table 2-11). -/
def specRelocateStart : CmdSpec :=
  { opcode := 0xC430, priv := .operate, sub := 0x0A,
    len := fun p => if p8 p 0 = 0 then (if p.length = 16 + 16 * p16 p 2 then none else if p.length < 16 then some headerOffset else some 2)
      else if p.length = 12 ∨ p.length = 16 then none else some headerOffset,
    check := fun _ p s =>
      if p8 p 0 = 0 then
        firstBad ([need (1 ≤ p16 p 2 && p16 p 2 ≤ 255) 2] ++ ((List.range (p16 p 2)).map (fun i =>
          let x := listItem s p i
          let b := 16 + 16 * i
          [need (x.extent < 2 ^ 24) b, need (pageFits x.page) (b + 4), need (s.destOk x.il x.target x.copy.isSome) (b + 8)])).flatten)
      else firstBad [need (p8 p 0 == 1) 0, need (s.isPool (p8 p 1)) 1, need (s.destOk (bitOf (p8 p 5) 0) (p8 p 4) ((s.wholeItems p).all (fun i => i.copy.isSome))) 4,
        need (pageFits (p32 p 8)) 8],
    run := fun _ p s =>
      let items := if p8 p 0 = 0 then (List.range (p16 p 2)).map (listItem s p) else s.wholeItems p
      let twice := p8 p 0 == 0 && !(items.map RelocItem.extent).Nodup
      if twice || items.any s.itemConflict then .fail stConflict
      else if relocSlots < items.length ∨ 196608 < s.runsWith ((items.filter (fun i => i.copy.isNone)).map (fun i => (i.extent, i.moved (s.entry i.extent)))) then .fail stNoResource
      else if items.isEmpty then .finished s stSuccess (List.replicate 8 0)
      else .started (s.addReloc items) true }

/-- RELOCATE_START: R94, R100, R715. -/
def execRelocateStart (h : Hdr) (p : Bytes) (s : State) : Host.Outcome State Fault Refusal := specRelocateStart.direct h p s

/-- RELOCATE_ABORT (0xC431): every unfinished extent is committed back to its source (Table 2-11). -/
def specRelocateAbort : CmdSpec :=
  { opcode := 0xC431, priv := .operate, sub := 0x0A, len := lenIs 0,
    run := fun _ _ s =>
      if s.pol.relocCmds.isEmpty || s.pol.abortBg.isSome then .fail stConflict
      else
        let s := s.modPol (fun p => { p with abortBg := some s.cmd.nextBg, relocCmds := p.relocCmds.map (fun c =>
          { c with aborted := c.aborted + c.todo.length, todo := [] }) })
        let s := forEach (s.pol.relocs.filter (fun r => r.freeAt.isNone && !r.aborting && r.leg < 4)) (fun r s => s.abortReloc r false) s
        .started s.endRelocCmds true }

/-- RELOCATE_ABORT: R103. -/
def execRelocateAbort (h : Hdr) (p : Bytes) (s : State) : Host.Outcome State Fault Refusal := specRelocateAbort.direct h p s

/-- RELOCATE_STATUS (0xC432): the sums over the commands in progress. -/
def specRelocateStatus : CmdSpec :=
  { opcode := 0xC432, priv := .observe, sub := 0x0A, len := lenIs 0,
    run := fun _ _ s =>
      let n := fun (f : RelocCmd → Nat) => leBytes 4 (s.pol.relocCmds.map f).sum
      .done (n RelocCmd.batchesDone ++ n RelocCmd.batches ++ n RelocCmd.moved ++ n RelocCmd.aborted ++ leBytes 4 s.pol.relocs.length) s }

/-- RELOCATE_STATUS: R115. -/
def execRelocateStatus (h : Hdr) (p : Bytes) (s : State) : Host.Outcome State Fault Refusal := specRelocateStatus.direct h p s

/-- MIRROR_RESYNC (0xC433): rebuilds a fenced copy by the relocation steps (R77). -/
def specMirrorResync : CmdSpec :=
  { opcode := 0xC433, priv := .operate, sub := 0x0A, len := lenIs 12,
    check := fun _ p s => firstBad [need (p32 p 0 < relocPairBase) 0, need (p8 p 4 ≤ 1) 4,
      need (s.destOk (bitOf (p8 p 6) 0) (p8 p 5) true) 5, need (pageFits (p32 p 8)) 8],
    run := fun _ p s =>
      let c := p8 p 4
      let xs := s.validExtents.filter (fun x => entMirrored x.2 && entPage x.2 == p32 p 0)
      let items : List RelocItem := xs.map (fun x =>
        { extent := x.1, copy := some c, target := p8 p 5, il := bitOf (p8 p 6) 0, page := p32 p 8 })
      if items.isEmpty ∨ cwState (s.copyWord (p32 p 0) c) ≠ 2 ∨ items.any s.itemConflict then .fail stConflict
      else .started (s.addReloc items) true }

/-- MIRROR_RESYNC: R77, R115. -/
def execMirrorResync (h : Hdr) (p : Bytes) (s : State) : Host.Outcome State Fault Refusal := specMirrorResync.direct h p s

end Sys2Proof.Machine
end

