-- ==== Sys2Proof/Machine/MoverBase.lean ====
section
/-! DEFINITION. Mover functions: their state, address resolution, BAR registers, interrupts, completion records, chunk
accesses and function resets (R184 to R222). -/

namespace Sys2Proof.Machine

/-! ## Functions (R184 to R190) -/

/-- Key of the management PF. -/
def mgmtKey : Nat := 0xFFFF

/-- Key of a function: a VF's global index, 0x8000 + u for a host PF. -/
def fnKey : Fn → Nat
  | .hostPf u => 0x8000 + u.val
  | .vf g => g.val
  | .mgmtPf => mgmtKey

/-- The key names a VF. -/
def isVf (k : Nat) : Bool := k < 0x8000

/-- MSI-X vectors of a function (Table 4-1). -/
def fnVectors (k : Nat) : Nat := if isVf k then 4 else 16

/-- A function's state. -/
def State.fn (s : State) (k : Nat) : FnSt := SMap.get s.mov.fns k (FnSt.dflt (fnVectors k))

/-- Changes the Mover. -/
def State.modMov (s : State) (f : Mov → Mov) : State := { s with mov := f s.mov }

/-- Stores a function's state. -/
def State.setFn (s : State) (k : Nat) (x : FnSt) : State :=
  s.modMov (fun m => { m with fns := SMap.store m.fns k x (FnSt.dflt (fnVectors k)) })

/-- Changes a function's state. -/
def State.modFn (s : State) (k : Nat) (f : FnSt → FnSt) : State := s.setFn k (f (s.fn k))

/-- The USP of a function: a host PF's own, that of the allotment which holds a VF. -/
def State.fnUsp (s : State) (k : Nat) : Option Nat :=
  if isVf k then (s.mov.allot.find? (fun a => a.2.contains k)).map Prod.fst
  else if k < 0x8040 then some (k - 0x8000) else none

/-- Host-local index of a VF (R188). -/
def State.fnLocal (s : State) (k : Nat) : Nat :=
  match s.fnUsp k with
  | some u => (SMap.get s.mov.allot u []).findIdx (fun g => g == k)
  | none => 0

/-- The global index of VF `i` of USP `u` (R188). -/
def State.vfGlobal (s : State) (u i : Nat) : Option Nat := (SMap.get s.mov.allot u [])[i]?

/-- The function exists toward its host: a present USP's PF, a VF that VF Enable and NumVFs cover. -/
def State.fnLive (s : State) (k : Nat) : Bool :=
  match s.fnUsp k with
  | none => false
  | some u => s.isUsp u && (!isVf k || decide (s.fnLocal k < s.vfsOn u))

/-- Host PF `u` is in D3hot (Table 15-7): its Power State. -/
def State.pfD3 (s : State) (u : Nat) : Bool := s.cfgRead u .hostPf 0x44 1 % 4 == 3

/-- The Mover is in the safe state, its own or the module's (R229, R507). -/
def State.moverSafe (s : State) : Bool := s.flt.safeMover || s.flag Reg.FLT_STATUS_SAFE_MODULE

/-- The function may issue requests: live, no reset running, Mover not in its safe state, its link up, a VF inside vPPB 0's
bus range (R217, R507, R313). -/
def State.fnRuns (s : State) (k : Nat) : Bool :=
  match s.fnUsp k with
  | none => false
  | some u => s.fnLive k && !(s.fn k).flr && !s.moverSafe && (s.port u).up && (!isVf k || s.vfReachable u (s.fnLocal k))

/-- Routing ID of a function's requests (R313). -/
def State.fnRid (s : State) (k : Nat) : Nat :=
  match s.fnUsp k with
  | none => 0
  | some u => s.pfRid u + (if isVf k then s.fnLocal k + 1 else 0)

/-- A VF administration entry (Table 4-9). -/
def State.vfAdmin (s : State) (u i : Nat) : VfAdmin := SMap.get s.mov.admin (1024 * u + i) VfAdmin.dflt

/-- A function's weight (R197). -/
def State.fnWeight (s : State) (k : Nat) : Nat :=
  if k = mgmtKey then 1
  else if isVf k then (s.vfAdmin ((s.fnUsp k).getD 0) (s.fnLocal k)).weight
  else (s.fn k).pfWeight

/-- Open descriptors of a function. -/
def State.fnCtxs (s : State) (k : Nat) : List Ctx := s.mov.ctxs.filter (fun c => c.fn == k && !c.squashed)

/-! ## Rings (R199, R200) -/

/-- Ring `r` of a function. -/
def FnSt.sq (x : FnSt) (r : Nat) : Sq := x.sqs.getD r Sq.dflt

/-- Changes a ring. -/
def FnSt.modSq (x : FnSt) (r : Nat) (f : Sq → Sq) : FnSt := { x with sqs := x.sqs.modify r f }

/-- Entries of a ring. -/
def Sq.depth (q : Sq) : Nat := 2 ^ q.log2

/-- Distance from `a` forward to `b` in a ring of `n` entries. -/
def ringDist (n a b : Nat) : Nat := (b + n - a % n) % n

/-- R200: records a tail; a value outside the ring, or one that would place more than depth − 1 descriptors between head and
tail counted forward past the old tail, sets DB_ERR (log 19). -/
def Sq.doorbell (q : Sq) (v : Nat) : Sq :=
  if q.depth ≤ v ∨ q.depth - 1 < ringDist q.depth q.head q.tail + ringDist q.depth q.tail v then { q with dbErr := true }
  else { q with tail := v }

/-- Entries of the completion ring that hold records the host has not consumed. -/
def FnSt.cqUsed (x : FnSt) : Nat := ringDist (2 ^ x.cqLog2) x.cqHead x.cqTail

/-- R200 for the completion ring: the head moves forward, at most to the tail. -/
def FnSt.cqDoorbell (x : FnSt) (v : Nat) : FnSt :=
  if 2 ^ x.cqLog2 ≤ v ∨ x.cqUsed < ringDist (2 ^ x.cqLog2) x.cqHead v then { x with cqDbErr := true } else { x with cqHead := v }

/-- A free completion ring entry can be reserved (R201). -/
def FnSt.cqRoom (x : FnSt) : Bool := x.cqEn && decide (x.cqUsed + x.cqReserved < 2 ^ x.cqLog2 - 1)

/-- A submission ring is enabled or a descriptor is open. -/
def State.fnActive (s : State) (k : Nat) : Bool := (s.fn k).sqs.any Sq.en || !(s.fnCtxs k).isEmpty

/-- R199, R202, R203: enables a ring from head 0 when it is aligned to its size, or disables it and discards what it has
fetched and not opened. -/
def Sq.enable (q : Sq) (on : Bool) : Sq :=
  if on then
    if q.en ∨ q.base % (64 * q.depth) ≠ 0 then q else { q with en := true, head := 0, halted := false, fetched := [] }
  else { q with en := false, halted := false, fetched := [] }

/-- R199, R203, R210: enables the completion ring with PHASE 1 when it is aligned, or disables it while nothing of the function
is active. -/
def State.cqEnable (s : State) (k : Nat) (on : Bool) : State :=
  let x := s.fn k
  if on then
    if x.cqEn ∨ x.cqBase % (32 * 2 ^ x.cqLog2) ≠ 0 then s
    else s.setFn k { x with cqEn := true, cqPhase := true, cqTail := 0, cqHead := 0 }
  else if s.fnActive k then s else s.setFn k { x with cqEn := false }

/-! ## Interrupts (R212 to R214) -/

/-- Vector `v` of a function. -/
def FnSt.vec (x : FnSt) (v : Nat) : Vec := x.vecs.getD v Vec.dflt

/-- Changes a vector. -/
def FnSt.modVec (x : FnSt) (v : Nat) (f : Vec → Vec) : FnSt := { x with vecs := x.vecs.modify v f }

/-- Messages are held as pending: FREEZING or FROZEN (Table 4-12), or the PF in D3hot (Table 15-7). -/
def State.fnHolds (s : State) (k : Nat) : Bool :=
  (s.fn k).freezing || (s.fn k).frozen || s.pfD3 ((s.fnUsp k).getD 0)

/-- Sends one MSI-X message, or sets the pending bit of a masked vector. -/
def State.sendVec (s : State) (k v : Nat) : State :=
  let x := s.fn k
  let w := x.vec v
  let s := s.setFn k (x.modVec v (fun w => { w with events := 0 }))
  if w.masked || x.funcMask || s.fnHolds k then s.setFn k ((s.fn k).modVec v (fun w => { w with pba := true }))
  else s.emit (.msix ((s.fnUsp k).getD 0) (s.fnRid k) w.addr w.data)

/-- One interrupt event of a vector: its message goes out at COUNT events (R213). -/
def State.vecEvent (s : State) (k v : Nat) : State :=
  let x := s.fn k
  let n := (x.vec v).events + 1
  let s := s.setFn k (x.modVec v (fun w => { w with events := n }))
  if max 1 x.coalCount ≤ n then s.sendVec k v else s

/-- Sends what is pending of a vector that is no longer masked. -/
def State.flushVec (s : State) (k v : Nat) : State :=
  let x := s.fn k
  let w := x.vec v
  if w.pba && !w.masked && !x.funcMask && !s.fnHolds k then
    (s.setFn k (x.modVec v (fun w => { w with pba := false }))).emit (.msix ((s.fnUsp k).getD 0) (s.fnRid k) w.addr w.data)
  else s

/-- Sends what is pending of every vector of a function. -/
def State.flushVecs (s : State) (k : Nat) : State := forEach (List.range (fnVectors k)) (fun v s => s.flushVec k v) s

/-! ## Address resolution (Table 4-2) -/

/-- Where a range of a descriptor lies. -/
inductive Where where
  | pool (ld dpa : Nat)
  | refused                      -- the LD a window names is fenced or has no decoder there
  | window
  | host
  deriving DecidableEq, Repr

/-- A committed decoder of USP `u` meets the range. -/
def State.meetsDecoder (s : State) (u a n stamp : Nat) : Bool :=
  (List.range 64).any (fun i =>
    let d := s.decoderAt u i stamp
    d.valid && decide (d.base < a + n) && decide (a < d.base + d.size))

/-- The decoder of LD `ld` that covers the whole range. -/
def State.ldDecoder (s : State) (ld a n stamp : Nat) : Option Decoder :=
  (List.range 4).findSome? (fun j =>
    let d := s.decoderAt (ld / 16) (4 * (ld % 16) + j) stamp
    if d.covers a && d.covers (a + n - 1) then some d else none)

/-- The VALID pool window of a VF that holds the range: its LD index. -/
def VfAdmin.window (x : VfAdmin) (a n : Nat) : Option Nat :=
  (x.wins.find? (fun (w : Nat × Nat × Nat × Bool) =>
    let b := w.1 / 2 ^ 21 * 2 ^ 21
    let z := w.2.1 / 2 ^ 21 * 2 ^ 21
    w.2.2.2 && decide (b ≤ a) && decide (a + n ≤ b + z))).map (fun w => w.2.2.1)

/-- Table 4-2 for a range of a function's descriptor, at the Mover's epoch. -/
def State.resolve (s : State) (k a n : Nat) : Where :=
  let st := s.stampOf .mover
  match s.fnUsp k with
  | none => .window
  | some u =>
    let win := if isVf k then (s.vfAdmin u (s.fnLocal k)).window a n else none
    match win with
    | some j =>
      (match s.ldDecoder (16 * u + j) a n st with
       | some d => .pool (16 * u + j) (d.toDpa a)
       | none => .refused)
    | none =>
      if !isVf k then
        match (List.range 16).findSome? (fun j => (s.ldDecoder (16 * u + j) a n st).map (fun d => (16 * u + j, d.toDpa a))) with
        | some x => .pool x.1 x.2
        | none => if s.meetsDecoder u a n st then .window else .host
      else if s.meetsDecoder u a n st then .window else .host

/-! ## Descriptors (R204, R205) -/

/-- OPCODE of a descriptor. -/
def dOp (d : Bytes) : Nat := fieldAt d 0 1
/-- ORDERED flag. -/
def dOrdered (d : Bytes) : Bool := bitOf (fieldAt d 1 1) 1
/-- LENGTH. -/
def dLen (d : Bytes) : Nat := fieldAt d 8 4
/-- SRC. -/
def dSrc (d : Bytes) : Nat := fieldAt d 16 8
/-- DST. -/
def dDst (d : Bytes) : Nat := fieldAt d 24 8

/-- Bytes that a descriptor moves: a FENCE or NOP none, a RELOCATE one extent per leg. -/
def dBytes (d : Bytes) : Nat :=
  match dOp d with
  | 1 | 2 | 3 => dLen d
  | 5 => pageBytes
  | _ => 0

/-- Completion status codes (Table 4-7) that descriptors meet when they open. -/
def stBadDesc : Nat := 1

/-- The condition of Table 4-5 that a descriptor breaks, or WINDOW when its first chunk takes row 3 of Table 4-2. -/
def State.descCheck (s : State) (k : Nat) (d : Bytes) : Nat :=
  let n := dLen d
  let badLen := n = 0 ∨ 2 ^ 30 < n
  match dOp d with
  | 0 | 4 => 0
  | 1 =>
    if badLen then stBadDesc
    else
      let c := min n (4096 - dDst d % 4096)
      let a := s.resolve k (dSrc d) c
      let b := s.resolve k (dDst d) c
      let meet := fun (x y : Nat) => decide (x < y + n) && decide (y < x + n)
      let overlap := match a, b with
        | .host, .host => meet (dSrc d) (dDst d)
        | .pool _ x, .pool _ y => meet (x % 2 ^ 45) (y % 2 ^ 45)
        | _, _ => false
      if overlap then 3 else if a = .window ∨ b = .window then 4 else 0
  | 2 => if badLen then stBadDesc else if s.resolve k (dDst d) (min n (4096 - dDst d % 4096)) = .window then 4 else 0
  | 3 =>
    let sub := fieldAt d 2 1
    let okLen := match sub with
      | 0 | 1 => n == 4 || n == 8
      | 2 => n == 4 || n == 8 || n == 16
      | _ => false
    if !okLen ∨ dDst d % n ≠ 0 then stBadDesc
    else match s.resolve k (dDst d) n with
      | .host => stBadDesc
      | .window => 4
      | _ => 0
  | 5 => if k = mgmtKey then 0 else 2
  | _ => stBadDesc

/-! ## Accesses of a chunk -/

/-- Changes a context. -/
def State.modCtx (s : State) (id : Nat) (f : Ctx → Ctx) : State :=
  s.modMov (fun m => { m with ctxs := m.ctxs.map (fun c => if c.id = id then f c else c) })

/-- The context of a descriptor. -/
def State.ctx? (s : State) (id : Nat) : Option Ctx := s.mov.ctxs.find? (fun c => c.id == id)

/-- Marks a chunk as failing: the lowest failing offset keeps its status (R211). -/
def State.failChunk (s : State) (id off status : Nat) : State :=
  s.modCtx id (fun c => match c.fail with
    | none => { c with fail := some (off, status) }
    | some f => if off < f.1 then { c with fail := some (off, status) } else c)

/-- The pieces of a range that each lie in one 64-byte line: offset from the start, length. -/
def linePieces : Nat → Nat → Nat → List (Nat × Nat)
  | 0, _, _ => []
  | fuel + 1, a, n => if n = 0 then [] else
    let c := min n (64 - a % 64)
    (0, c) :: (linePieces fuel (a + c) (n - c)).map (fun x => (x.1 + c, x.2))

/-- The pieces of a host read: at most 512 B, none crossing a 512-byte boundary (R195). -/
def hostPieces : Nat → Nat → Nat → Nat → List (Nat × Nat)
  | 0, _, _, _ => []
  | fuel + 1, lim, a, n => if n = 0 then [] else
    let c := min n (lim - a % lim)
    (0, c) :: (hostPieces fuel lim (a + c) (n - c)).map (fun x => (x.1 + c, x.2))

/-- Reports a pooled access that Table 2-3 refuses (R192). -/
def State.reportRow (s : State) (ld row target line : Nat) : State :=
  if row = 8 then s.reportDsp target contained 3 (ctxLd ld line)
  else s.report (0x0A00 + ld / 16) contained (if row = 9 then 8 else row) (ctxLd ld line)

/-- The status that a refused row gives a descriptor: any refusal of an ATOMIC is R160's, of other accesses R192's. -/
def rowStatus (op row : Nat) (write : Bool) : Nat :=
  if op = 3 then 10
  else if !write ∧ (row = 6 ∨ row = 8) then 6 else 5

/-- Adds an outstanding request to a context. -/
def State.addAcc (s : State) (id : Nat) (a : ChAcc) : State := s.modCtx id (fun c => { c with accs := c.accs ++ [a] })

/-- One pooled access of a chunk at descriptor offset `off` (chunk offset `chunk`): Table 2-3, then the line's home slice. -/
def State.moverPool (s : State) (c : Ctx) (chunk off ld dpa n : Nat) (op : MemOp) (data : Bytes) (atom : Option AtomReq) :
    State :=
  let st := s.stampOf .mover
  let wr := isWriteOp op || atom.isSome
  let line := dpa % 2 ^ 45 / 64
  let row := s.poolRow ld dpa st wr
  let refuse := fun (s : State) (r : Nat × Nat) =>
    (if atom.isSome then s.report 0x0990 contained 0 (ctxLd ld line) else s.reportRow ld r.1 r.2 line).failChunk c.id chunk
      (rowStatus (dOp c.desc) r.1 wr)
  if row.1 ≠ 9 then refuse s row
  else match s.homeAt line st with
    | none => refuse s (9, 0)
    | some i =>
      let mask := maskOf ((List.range n).map (fun j => dpa % 64 + j))
      let r : HomeReq :=
        { src := 72, usp := none, line := line, op := op, snp := .noOp, mval := none, tag := 0,
          data := List.replicate (dpa % 64) 0 ++ slice data 0 n ++ List.replicate (64 - dpa % 64 - n) 0,
          mask := BitVec.ofNat 64 mask, poison := false, atom := atom, ctx := some c.id, relocSlot := none, ld := ld,
          entry := s.entryAt (extentOf line) st, stamp := st, track := .none }
      let key := match atom with
        | some a => a.hpa
        | none => line * 64
      (s.addAcc c.id { key := key, pool := true, isRead := !isWriteOp op && atom.isNone, off := off, len := n }).arrive i r

/-- The USP's lowest free CXL.io slot. -/
def State.freeIo (s : State) (p : Nat) : Option Nat :=
  (List.range 1024).find? (fun k => (s.ioSlot p k).user.isNone && !(s.ioSlot p k).quar)

/-- One host read of a chunk, under a CXL.io tag slot of the USP (R193, R325). -/
def State.moverHostRead (s : State) (c : Ctx) (u a off n : Nat) : State :=
  let s := s.addAcc c.id { key := a, pool := false, isRead := true, off := off, len := n }
  match s.freeIo u with
  | some k =>
    let x := s.ioSlot u k
    ((s.wake u).setIoSlot u k { x with user := some (.mover c.id a), dpa := a, isRead := true }).emit (.hostRead u (s.fnRid c.fn) a n k)
  | none => s

/-- Writes bytes of a chunk at descriptor offset `off`: pooled pieces to their home slices, host bytes as posted writes; after
a link down a host write fails (Table 4-7). -/
def State.moverWrite (s : State) (c : Ctx) (chunk off : Nat) (b : Bytes) : State :=
  let a := dDst c.desc + off
  match s.resolve c.fn a b.length with
  | .pool ld dpa =>
    forEach (linePieces 80 dpa b.length) (fun (x : Nat × Nat) s =>
      s.moverPool c chunk (off + x.1) ld (dpa + x.1) x.2
        (if x.2 = 64 then MemOp.memWr else MemOp.memWrPtl) ((b.drop x.1).take x.2) none) s
  | .refused => (s.report (0x0A00 + (s.fnUsp c.fn).getD 0) contained 1 (leBytes 2 c.fn)).failChunk c.id chunk 5
  | .window => s.failChunk c.id chunk 4
  | .host =>
    let u := (s.fnUsp c.fn).getD 0
    if (s.port u).up then s.emit (.hostWrite u (s.fnRid c.fn) a b)
    else (s.report 0x0B20 contained 3 (leBytes 2 c.fn)).failChunk c.id chunk 8

/-- The read limit of a function: Max_Read_Request_Size, at most 512 B (Table 7-4). -/
def State.readLimit (s : State) (k : Nat) : Nat :=
  min 512 (128 * 2 ^ (bitsOf (s.cfgRead ((s.fnUsp k).getD 0) .hostPf 0x78 2) 12 3))

/-- Reads the source bytes of a chunk. -/
def State.moverRead (s : State) (c : Ctx) (chunk n : Nat) : State :=
  let a := dSrc c.desc + chunk
  match s.resolve c.fn a n with
  | .pool ld dpa =>
    forEach (linePieces 80 dpa n) (fun (x : Nat × Nat) s =>
      s.moverPool c chunk (chunk + x.1) ld (dpa + x.1) x.2 MemOp.memRd [] none) s
  | .refused => (s.report (0x0A00 + (s.fnUsp c.fn).getD 0) contained 1 (leBytes 2 c.fn)).failChunk c.id chunk 5
  | .window => s.failChunk c.id chunk 4
  | .host =>
    forEach (hostPieces 4096 (s.readLimit c.fn) a n) (fun (x : Nat × Nat) s =>
      s.moverHostRead c ((s.fnUsp c.fn).getD 0) (a + x.1) (chunk + x.1) x.2) s

/-- The bytes a FILL writes: byte (a − DST) mod 16 of OPERAND (Table 4-5). -/
def fillBytes (d : Bytes) (off n : Nat) : Bytes := (List.range n).map (fun j => (slice d 32 16).getD ((off + j) % 16) 0)

/-- The atomic of an ATOMIC descriptor on pool address `a` (Table 4-5). -/
def descAtom (d : Bytes) (a : Nat) : AtomReq :=
  { op := match fieldAt d 2 1 with
      | 0 => .fetchAdd
      | 1 => .swap
      | _ => .cas,
    size := dLen d, hpa := a, operand := fieldAt d 32 16, compare := fieldAt d 48 16, tag := 0 }

/-! ## Relocation descriptors (R95 to R101) -/

/-- The relocation in the slot that a RELOCATE descriptor names. -/
def State.descReloc (s : State) (c : Ctx) : Option Reloc :=
  s.pol.relocs.find? (fun r => r.slot == dDst c.desc % 2048 && r.freeAt.isNone && !r.aborting)

/-- Both ends are interleave sets of equal WAYS and LENGTH, and the line's place is the same in both (R101). -/
def State.relocSame (s : State) (r : Reloc) (line : Nat) : Bool :=
  if cwIl r.srcCopy && cwIl r.dstCopy then
    let a := s.active 0x0A40 (128 * cwTarget r.srcCopy) 128
    let b := s.active 0x0A40 (128 * cwTarget r.dstCopy) 128
    let o := line % linesPerExtent * 64
    isetWays a == isetWays b && isetLength a == isetLength b
      && isetPlace a (cwPage r.srcCopy) o == isetPlace b (cwPage r.dstCopy) o
  else false

/-- Leg 1 of one line: a device read of copy 0. -/
def State.relocRead (s : State) (c : Ctx) (r : Reloc) (off : Nat) : State :=
  let line := r.extent * linesPerExtent + off / 64
  if s.relocSame r line then s
  else match s.place (cwIl r.srcCopy) (cwTarget r.srcCopy) (cwPage r.srcCopy) off (s.stampOf .mover) with
    | none => s
    | some (p, dpa) =>
      (s.addAcc c.id { key := line * 64, pool := true, isRead := true, off := off, len := 64 }).issueDev
        { port := p, user := .mover c.id (line * 64), dpa := dpa, isRead := true, data := [], mask := fullMask, mta := none, poison := false }

/-- Leg 2 of one line: the staged bytes to the line's home slice. -/
def State.relocWrite (s : State) (c : Ctx) (r : Reloc) (off : Nat) : State :=
  let line := r.extent * linesPerExtent + off / 64
  let st := s.stampOf .mover
  if s.relocSame r line then s
  else match s.homeAt line st with
    | none => s.failChunk c.id off 5
    | some i =>
      let q : HomeReq :=
        { src := 72, usp := none, line := line, op := .memWr, snp := .noOp, mval := none, tag := 0,
          data := SMap.get r.staged (off / 64) (List.replicate 64 0), mask := fullMask, poison := false, atom := none,
          ctx := some c.id, relocSlot := some r.slot, ld := 0, entry := s.entryAt (extentOf line) st, stamp := st, track := .none }
      (s.addAcc c.id { key := line * 64, pool := true, isRead := false, off := off, len := 64 }).arrive i q

/-- The line of leg 1 has come: staged, or its poison bit set and a CONTAINED event recorded (R96, Table 2-11). -/
def State.relocStage (s : State) (c : Ctx) (off : Nat) (poison : Bool) (b : Bytes) : State :=
  match s.descReloc c with
  | none => s
  | some r =>
    let n := off / 64
    let s := s.modReloc r.slot (fun r => { r with staged := SMap.put r.staged n (slice b 0 64),
                                                  poison := if poison then addNew n r.poison else r.poison })
    if poison then
      let p := (s.place (cwIl r.srcCopy) (cwTarget r.srcCopy) (cwPage r.srcCopy) off (s.stampOf .mover)).map Prod.fst
      s.reportDsp (p.getD 0) contained 5 (leBytes 4 r.extent)
    else s

/-! ## Chunks (R196 to R198) -/

/-- Issues the next chunk of a context: it ends at the 4 KiB boundary of its destination and at the end of the descriptor.
Answers its bytes. -/
def State.issueChunk (s : State) (c : Ctx) : State × Nat :=
  let off := c.next
  let n := min (dBytes c.desc - off) (4096 - (if dOp c.desc = 5 then off else dDst c.desc + off) % 4096)
  let s := s.modCtx c.id (fun c => { c with next := off + n, chunks := c.chunks ++ [(off, n)] })
  let s := match dOp c.desc with
    | 1 => s.moverRead c off n
    | 2 => s.moverWrite c off off (fillBytes c.desc off n)
    | 3 =>
      (match s.resolve c.fn (dDst c.desc) n with
       | .pool ld dpa => s.moverPool c off off ld dpa n .memRd [] (some (descAtom c.desc (dpa % 2 ^ 45)))
       | .window => s.failChunk c.id off 4
       | .host => s.failChunk c.id off stBadDesc
       | .refused => (s.report 0x0990 contained 0 (leBytes 2 c.fn)).failChunk c.id off 5)
    | _ =>
      (match s.descReloc c with
       | none => s
       | some r => forEach (List.range (n / 64)) (fun j s =>
           if c.leg = 1 then s.relocRead c r (off + 64 * j) else s.relocWrite c r (off + 64 * j)) s)
  (s, n)

/-- Drops the chunks that have no request outstanding; counts the bytes of those that have not failed. -/
def State.closeChunks (s : State) (id : Nat) : State :=
  match s.ctx? id with
  | none => s
  | some c =>
    let busy := fun (x : Nat × Nat) => c.accs.any (fun a => x.1 ≤ a.off && a.off < x.1 + x.2)
    let failed := fun (x : Nat × Nat) => (c.fail.map (fun f => f.1 == x.1)).getD false
    let gone := c.chunks.filter (fun x => !busy x)
    let n := ((gone.filter (fun x => !failed x)).map Prod.snd).sum
    let s := s.modCtx id (fun c => { c with chunks := c.chunks.filter busy })
    let s := if c.fn = mgmtKey then s.modMov (fun m => { m with mgmtBytes := m.mgmtBytes + n })
      else s.modFn c.fn (fun x => { x with bytesMoved := (x.bytesMoved + n) % 2 ^ 64 })
    let s := s.modMov (fun m => { m with engBytes := SMap.put m.engBytes c.engine ((SMap.get m.engBytes c.engine 0 + n) % 2 ^ 64) })
    s.modCtx id (fun c => if c.leg = 1 ∧ c.fail.isNone ∧ c.chunks.isEmpty ∧ c.next = dBytes c.desc then { c with leg := 2, next := 0 } else c)

/-- The chunk of a descriptor offset. -/
def Ctx.chunkAt (c : Ctx) (off : Nat) : Nat :=
  ((c.chunks.find? (fun x => x.1 ≤ off && off < x.1 + x.2)).map Prod.fst).getD off

/-- An answer to a request of a chunk (R192, Table 4-7). A squashed context discards it (R218). -/
def State.chunkAnswer (s : State) (id addr : Nat) (rsp : ChunkRsp) : State :=
  match s.ctx? id with
  | none => s
  | some c =>
    let rd := match rsp with
      | .wrote _ => false
      | .row _ w => !w
      | .atomic _ => false
      | _ => true
    let atom := dOp c.desc == 3
    match c.accs.find? (fun a => a.key == addr && (a.isRead == rd || atom)) with
    | none => s
    | some a =>
      let s := s.modCtx id (fun c => { c with accs := delFirst (fun x => x == a) c.accs })
      let chunk := c.chunkAt a.off
      let s := if c.squashed then s
        else if c.leg = 1 ∧ dOp c.desc = 5 then
          (match rsp with
           | .data b => s.relocStage c a.off false b
           | .relocLine p => s.relocStage c a.off p []
           | .poison => s.relocStage c a.off true []
           | _ => s.relocStage c a.off true [])
        else match rsp with
          | .data b =>
            let b := if a.pool then slice b ((match s.resolve c.fn (dSrc c.desc + a.off) a.len with
                | .pool _ dpa => dpa
                | _ => dSrc c.desc + a.off) % 64) a.len else slice b 0 a.len
            s.moverWrite c chunk a.off b
          | .wrote _ => s
          | .atomic v => s.modCtx id (fun c => { c with result := v })
          | .row n w =>
            let st := rowStatus (dOp c.desc) n.val w
            s.failChunk id chunk st
          | .poison => s.failChunk id chunk (rowStatus (dOp c.desc) 6 false)
          | .hostUr => (s.report 0x0B20 contained 1 (leBytes 2 c.fn)).failChunk id chunk 7
          | .hostCa => (s.report 0x0B20 contained 1 (leBytes 2 c.fn)).failChunk id chunk 7
          | .timeout => s.failChunk id chunk 9
          | .relocLine _ => s
      s.closeChunks id

/-! ## Function resets (R217 to R222) -/

/-- A function's contexts are squashed and its fetched descriptors discarded; the generation advances (R217). A migration of
the function ends with BAD_STATE (Table 4-15). -/
def State.flrStart (s : State) (k : Nat) : State :=
  let x := s.fn k
  let s := s.setFn k { x with flr := true, gen := (x.gen + 1) % 256, sqs := x.sqs.map (fun q => { q with fetched := [] }) }
  let s := s.modMov (fun m => { m with ctxs := m.ctxs.map (fun c =>
    if c.fn = k then { c with squashed := true, next := dBytes c.desc } else c) })
  match s.fnUsp k with
  | none => s
  | some u =>
    let pf := s.fn (0x8000 + u)
    if pf.migBusy && s.vfGlobal u pf.migVf == some k then s.setFn (0x8000 + u) { pf with migBusy := false, migResult := 1 } else s

/-- Frees the CXL.io slots of a squashed context: each takes a new generation and is quarantined (R219, R329). -/
def State.squashSlots (s : State) (id : Nat) : State :=
  let mine := fun (x : TagSlot) => match x.user with
    | some (.mover c _) => c == id
    | _ => false
  { s with prt := { s.prt with ioSlots := SMap.modAll (fun x =>
      if mine x then { x with user := none, quar := true, gen := (x.gen + 1) % 256 } else x) s.prt.ioSlots } }

/-- The drain ends (R219, R220): what is outstanding is squashed with one event, registers and MSI-X return to reset values. -/
def State.flrEnd (s : State) (k : Nat) : State :=
  let cs := s.mov.ctxs.filter (fun c => c.fn == k)
  let n := (cs.map (fun c => c.accs.length)).sum
  let s := if n = 0 then s else s.report 0x0B22 contained 0 (leBytes 2 k) (leBytes 4 n)
  let s := forEach cs (fun c s => s.squashSlots c.id) s
  let s := s.modMov (fun m => { m with ctxs := m.ctxs.filter (fun c => c.fn != k) })
  let x := s.fn k
  let s := s.setFn k { FnSt.dflt (fnVectors k) with gen := x.gen, errReset := x.errReset, bytesMoved := x.bytesMoved, descDone := x.descDone }
  s.answerWaits (fun w => w == .fnReset k) stSuccess []

/-- The functions that a reset of function `k` covers: a host PF with all of its VFs (R222). -/
def State.flrSet (s : State) (k : Nat) : List Nat :=
  if isVf k then [k]
  else if k = mgmtKey then []
  else k :: SMap.get s.mov.allot (k - 0x8000) []

/-- Begins the reset of a function, a host PF with its VFs and VF Enable (R217, R222). -/
def State.initiateFlr (s : State) (k : Nat) : State :=
  let s := forEach (s.flrSet k) (fun j s => (s.modFn j (fun x => { x with errReset := false })).flrStart j) s
  if isVf k ∨ k = mgmtKey then s
  else
    let u := k - 0x8000
    let s := { s with hlm := { s.hlm with sessions := s.hlm.sessions.filter (fun x => decide (x.link ≠ SpdmLink.doePf (Fin.ofNat 64 u))) } }
    s.modMov (fun m => { m with vfEnable := m.vfEnable.filter (· ≠ u) })

/-- R223: a PORT reset of USP `u` resets the PF and its VFs at once and erases the PF's migration keys. -/
def State.moverPortReset (s : State) (u : Nat) : State :=
  let s := s.initiateFlr (0x8000 + u)
  let s := forEach (s.flrSet (0x8000 + u)) (fun j s => s.flrEnd j) s
  { s with hlm := { s.hlm with migKeys := s.hlm.migKeys.filter (fun k => k.1 != u) } }

/-- Table 4-11: every function, context and key reset at a WARM, MODULE or COLD start. -/
def State.moverReset (s : State) : State :=
  let s := s.modMov (fun m => { Mov.reset with allot := m.allot })
  { s with hlm := { s.hlm with migKeys := [] } }

end Sys2Proof.Machine
end

