-- ==== Sys2Proof/Machine/Mover.lean ====
section
/-! DEFINITION. The Mover's commands and events: rings, descriptors, chunks, function resets, migration, engine failures
(R184 to R234). -/

namespace Sys2Proof.Machine

/-! ## Rings and doorbells -/

/-- R200: a write of SQ_TAIL_DB[r]; ignored while a reset runs. -/
def execSqTailDb (f : Fn) (r : Fin 4) (tail : BitVec 16) (s : State) : Host.Outcome State Fault Refusal :=
  let k := fnKey f
  .next (if s.fnLive k && !(s.fn k).flr then s.modFn k (fun x => x.modSq r.val (fun q => q.doorbell tail.toNat)) else s)

/-- R200: a write of CQ_HEAD_DB. -/
def execCqHeadDb (f : Fn) (head : BitVec 16) (s : State) : Host.Outcome State Fault Refusal :=
  let k := fnKey f
  .next (if s.fnLive k && !(s.fn k).flr then s.modFn k (fun x => x.cqDoorbell head.toNat) else s)

/-- A FREEZE ends once nothing of the function is open or fetched (Table 4-12). -/
def State.freezeEnd (s : State) (k : Nat) : State :=
  let x := s.fn k
  if x.freezing && !x.frozen && (s.fnCtxs k).isEmpty && x.sqs.all (fun q => q.fetched.isEmpty) then
    let s := s.setFn k { x with freezing := false, frozen := true }
    match s.fnUsp k with
    | none => s
    | some u => s.modFn (0x8000 + u) (fun p =>
        if p.migBusy && p.migOp == 0 && s.vfGlobal u p.migVf == some k then { p with migBusy := false, migResult := 0 } else p)
  else s

/-- R199, R202, R203: a write of SQ_CTL[r].EN. Clearing it may leave a FREEZE nothing to wait for (Table 4-12). -/
def execSqEnableWrite (f : Fn) (r : Fin 4) (en : Bool) (s : State) : Host.Outcome State Fault Refusal :=
  let k := fnKey f
  .next (if s.fnLive k && !(s.fn k).flr then
      let s := s.modFn k (fun x => x.modSq r.val (fun q => q.enable en))
      if en then s else s.freezeEnd k
    else s)

/-- R199, R203, R210: a write of CQ_CTL.EN. -/
def execCqEnableWrite (f : Fn) (en : Bool) (s : State) : Host.Outcome State Fault Refusal :=
  let k := fnKey f
  .next (if s.fnLive k && !(s.fn k).flr then s.cqEnable k en else s)

/-! ## Fetching and opening -/

/-- The ring that the rotation serves next: enabled, not halted, not empty (R201). -/
def FnSt.fetchRing (x : FnSt) : Option Nat :=
  ((List.range 4).map (fun i => (x.nextSq + i) % 4)).find? (fun r =>
    let q := x.sq r
    q.en && !q.halted && q.head != q.tail)

/-- The function fetches: it runs and is not FREEZING or FROZEN. -/
def State.fnFetches (s : State) (k : Nat) : Bool := s.fnRuns k && !(s.fn k).freezing && !(s.fn k).frozen

/-- R201: the descriptor that the host's memory returned joins its ring's fetched descriptors; the head moves on. -/
def execDescriptorFetch (f : Fn) (d : Bytes) (s : State) : Host.Outcome State Fault Refusal :=
  let k := fnKey f
  let x := s.fn k
  .next (if !s.fnFetches k then s else
    match x.fetchRing with
    | none => s
    | some r =>
      let q := x.sq r
      let s := s.emit (.hostRead ((s.fnUsp k).getD 0) (s.fnRid k) (q.base + 64 * q.head) 64 1024)
      let q' := { q with head := (q.head + 1) % q.depth, fetched := q.fetched ++ [(x.nextSeq, slice d 0 64)] }
      s.setFn k { x.modSq r (fun _ => q') with nextSq := (r + 1) % 4, nextSeq := x.nextSeq + 1 })

/-- R202: the fetch of ring `r` failed; the ring halts. -/
def execDescriptorFetchError (f : Fn) (r : Fin 4) (s : State) : Host.Outcome State Fault Refusal :=
  let k := fnKey f
  let q := (s.fn k).sq r.val
  .next (if s.fnFetches k && q.en && !q.halted && q.head != q.tail then
      let s := s.modFn k (fun x => x.modSq r.val (fun q => { q with halted := true, fetchErr := true }))
      (s.report 0x0B21 contained 0 (leBytes 2 k)).vecEvent k (s.fn k).errVector
    else s)

/-- Contexts reserved for a function (R195). -/
def fnReserved (k : Nat) : Nat := if k = mgmtKey then 64 else 1

/-- A context is available to a function: a reserved one (false) or a shared one (true) (R195). -/
def State.ctxFor (s : State) (k : Nat) : Option Bool :=
  let mine := s.mov.ctxs.filter (fun c => c.fn == k)
  let own := (mine.filter (fun c => !c.shared)).length
  let sh := (mine.filter (fun c => c.shared)).length
  if 64 ≤ mine.length then none
  else if own < fnReserved k then some false
  else if alphaTest (s.get Reg.MOV_CTL_ALPHA_K) sh s.sharedCtxFree then some true else none

/-- Engine `e` is healthy. -/
def State.engineOk (s : State) (e : Nat) : Bool := !bitOf (s.get Reg.MOV_ENGINE_FAILED) e

/-- Contexts bound to an engine. -/
def State.bound (s : State) (e : Nat) : Nat := (s.mov.ctxs.filter (fun c => c.engine == e)).length

/-- The least loaded of some engines, the lowest on a tie (R196). -/
def State.leastLoaded (s : State) (es : List Nat) : Option Nat :=
  es.foldl (fun best e => match best with
    | none => some e
    | some b => if s.bound e < s.bound b then some e else some b) none

/-- Engines that a function's descriptor may take: the management PF stays on POL_RELOC_CTL.ENGINES of them (R102). -/
def State.enginesFor (s : State) (k : Nat) : List Nat :=
  let ok := (List.range 32).filter s.engineOk
  let used := ok.filter (fun e => s.mov.ctxs.any (fun c => c.fn == mgmtKey && c.engine == e))
  if k = mgmtKey ∧ s.get Reg.POL_RELOC_CTL_ENGINES ≤ used.length then used else ok

/-- A context for a descriptor that opens: a broken condition is its status at once (R205). -/
def State.newCtx (s : State) (k sq seq e : Nat) (d : Bytes) (shared : Bool) : Ctx :=
  let st := s.descCheck k d
  { id := s.mov.nextCtx, fn := k, gen := (s.fn k).gen, sq := sq, seq := seq, desc := d, engine := e,
    next := if st = 0 then 0 else dBytes d, chunks := [], accs := [], fail := if st = 0 then none else some (0, st), result := 0,
    squashed := false, leg := if st = 0 ∧ dOp d = 5 then 1 else 0, shared := shared }

/-- Adds an open context. -/
def State.openCtx (s : State) (c : Ctx) : State := s.modMov (fun m => { m with ctxs := m.ctxs ++ [c], nextCtx := m.nextCtx + 1 })

/-- Sequence numbers of FENCE descriptors of a function that have not completed (R206). -/
def State.fences (s : State) (k : Nat) : List Nat :=
  ((s.fnCtxs k).filter (fun c => dOp c.desc == 4)).map Ctx.seq
    ++ (((s.fn k).sqs.map Sq.fetched).flatten.filter (fun x => dOp x.2 == 4)).map Prod.fst

/-- The head descriptor of ring `r` may open (R206). -/
def State.mayOpen (s : State) (k r : Nat) (x : Nat × Bytes) : Bool :=
  (!dOrdered x.2 || !(s.fnCtxs k).any (fun c => c.sq == r)) && !(s.fences k).any (fun q => q < x.1)

/-- The ring whose head opens next: of those that may open, the one fetched first. -/
def State.openRing (s : State) (k : Nat) : Option (Nat × Nat × Bytes) :=
  (List.range 4).foldl (fun (best : Option (Nat × Nat × Bytes)) r =>
    match ((s.fn k).sq r).fetched.head? with
    | none => best
    | some x =>
      if !s.mayOpen k r x then best
      else match best with
        | none => some (r, x)
        | some b => if x.1 < b.2.1 then some (r, x) else some b) none

/-- R201, R195, R196, R206: a fetched descriptor opens when a context, a completion ring entry and its ordering allow; on the
management PF the next descriptor that Acrak has posted (R190). -/
def execDescriptorOpen (f : Fn) (s : State) : Host.Outcome State Fault Refusal :=
  let k := fnKey f
  .next (if s.pipeHeld .mover then s else match s.ctxFor k, s.leastLoaded (s.enginesFor k) with
    | some sh, some e =>
      if k = mgmtKey then
        if s.moverSafe then s
        else match s.mov.pfPend with
          | [] => s
          | (slot, d) :: rest =>
            let c := s.newCtx k 0 slot e d sh
            let s := s.modMov (fun m => { m with pfPend := rest })
            if (s.descReloc c).isNone then s
            else (s.openCtx c).modReloc slot (fun r => { r with ctx := some c.id })
      else if !s.fnRuns k || s.pfD3 ((s.fnUsp k).getD 0) || !(s.fn k).cqRoom then s
      else match s.openRing k with
        | none => s
        | some (r, q, d) =>
          let c := s.newCtx k r q e d sh
          let s := s.modFn k (fun x =>
            { x.modSq r (fun y => { y with fetched := y.fetched.tail }) with cqReserved := x.cqReserved + 1 })
          s.openCtx c
    | _, _ => s)

/-! ## Chunks -/

/-- The host that a function counts under in the round robin: its USP, 64 for the management PF (R197). -/
def State.hostOf (s : State) (k : Nat) : Nat := if k = mgmtKey then 64 else (s.fnUsp k).getD 64

/-- Weight of a host (R197). -/
def State.hostWeight (s : State) (h : Nat) : Nat := if h = 64 then 255 else s.get Reg.MOV_HOST_WEIGHT_WEIGHT h

/-- Room for the host reads of one chunk in the USP's CXL.io tag space (R329). -/
def State.readRoom (s : State) (c : Ctx) : Bool :=
  match s.fnUsp c.fn with
  | none => true
  | some u => decide (slotsOf s.prt.ioSlots 1024 u (fun x => x.user.isSome || x.quar) + 40 ≤ 1024)

/-- A context has a chunk ready (R197, R198). -/
def State.chunkReady (s : State) (c : Ctx) : Bool :=
  !c.squashed && c.fail.isNone && decide (c.next < dBytes c.desc) && !s.moverSafe
    && (c.fn == mgmtKey || (s.fnRuns c.fn && s.readRoom c))

/-- Contexts of an engine with a chunk ready, oldest first. -/
def State.readyCtxs (s : State) (e : Nat) : List Ctx := s.mov.ctxs.filter (fun c => c.engine == e && s.chunkReady c)

/-- The next of some numbers after `cur` in rotation. -/
def nextAfter (l : List Nat) (cur : Nat) : Nat :=
  let up := l.filter (fun x => cur < x)
  (if up.isEmpty then l else up).foldl min 0x1FFFF

/-- Chunks in flight on an engine. -/
def State.inFlight (s : State) (e : Nat) : Nat := ((s.mov.ctxs.filter (fun c => c.engine == e)).map (fun c => c.chunks.length)).sum

/-- Credit of a host on an engine. -/
def Mov.hostCredit (m : Mov) (e h : Nat) : Nat := SMap.get m.dh (128 * e + h) 0
/-- Credit of a function on an engine. -/
def Mov.fnCredit (m : Mov) (e f : Nat) : Nat := SMap.get m.df (65536 * e + f) 0
/-- Sets the credit of a host. -/
def Mov.setHostCredit (m : Mov) (e h v : Nat) : Mov := { m with dh := SMap.store m.dh (128 * e + h) v 0 }
/-- Sets the credit of a function. -/
def Mov.setFnCredit (m : Mov) (e f v : Nat) : Mov := { m with df := SMap.store m.df (65536 * e + f) v 0 }

/-- The host whose turn it is: the one in service while it has credit and a chunk ready, else the next one, which gains its
quantum (R197). -/
def State.turnHost (s : State) (e : Nat) (hosts : List Nat) : Nat × State :=
  let h0 := SMap.get s.mov.curHost e 0xFF
  if hosts.contains h0 && decide (4096 ≤ s.mov.hostCredit e h0) then (h0, s)
  else
    let h := nextAfter hosts h0
    (h, s.modMov (fun m =>
      let m := if hosts.contains h0 then m else m.setHostCredit e h0 0
      { m.setHostCredit e h (m.hostCredit e h + s.hostWeight h * 4096) with curHost := SMap.put m.curHost e h }))

/-- The function of host `h` whose turn it is (R197). -/
def State.turnFn (s : State) (e h : Nat) (fs : List Nat) : Nat × State :=
  let f0 := SMap.get s.mov.cur (128 * e + h) 0xFFFF
  if fs.contains f0 && decide (4096 ≤ s.mov.fnCredit e f0) then (f0, s)
  else
    let f := nextAfter fs f0
    (f, s.modMov (fun m =>
      let m := if fs.contains f0 then m else m.setFnCredit e f0 0
      { m.setFnCredit e f (m.fnCredit e f + s.fnWeight f * 4096) with cur := SMap.put m.cur (128 * e + h) f }))

/-- R196 to R198: engine `e` fills a free chunk slot by the two-level deficit round robin. -/
def execChunkIssue (e : Fin 32) (s : State) : Host.Outcome State Fault Refusal :=
  let e := e.val
  let rs := s.readyCtxs e
  .next (if rs.isEmpty ∨ !s.engineOk e ∨ 16 ≤ s.inFlight e ∨ s.pipeHeld .mover then s else
    let th := s.turnHost e ((rs.map (fun c => s.hostOf c.fn)).dedup)
    let h := th.1
    let tf := th.2.turnFn e h (((rs.filter (fun c => s.hostOf c.fn == h)).map Ctx.fn).dedup)
    let f := tf.1
    match rs.find? (fun c => c.fn == f) with
    | none => s
    | some c =>
      let x := tf.2.issueChunk c
      let s := x.1.closeChunks c.id
      let s := s.modMov (fun m => (m.setFnCredit e f (m.fnCredit e f - x.2)).setHostCredit e h (m.hostCredit e h - x.2))
      let left := s.readyCtxs e
      let s := if left.any (fun c => c.fn == f) then s else s.modMov (fun m => m.setFnCredit e f 0)
      if left.any (fun c => s.hostOf c.fn == h) then s else s.modMov (fun m => m.setHostCredit e h 0))

/-- The host slot of a Mover read. -/
def State.hostSlot (s : State) (id addr : Nat) : Option (Nat × TagSlot) :=
  s.prt.ioSlots.find? (fun x => x.2.user == some (.mover id addr))

/-- R192: the answer to an access of a chunk. A pooled access takes the answer its home slice gave; a host access the one that
the host's completion carries. -/
def execChunkResponse (id addr : Nat) (rsp : ChunkRsp) (s : State) : Host.Outcome State Fault Refusal :=
  .next (match s.mov.rsps.find? (fun x => x.1 == id && x.2.1 == addr) with
    | some x =>
      (s.modMov (fun m => { m with rsps := delFirst (fun y => y.1 == id && y.2.1 == addr) m.rsps })).chunkAnswer id addr x.2.2
    | none =>
      match s.hostSlot id addr with
      | some x =>
        let slot := { x.2 with user := none }
        { s with prt := { s.prt with ioSlots := SMap.store s.prt.ioSlots x.1 slot TagSlot.dflt } }.chunkAnswer id addr rsp
      | none => s)

/-! ## Completion -/

/-- The descriptor has no work left (R205, R207). -/
def State.descDone (s : State) (c : Ctx) : Bool :=
  !c.squashed && c.accs.isEmpty && c.chunks.isEmpty && (c.fail.isSome || dBytes c.desc ≤ c.next)
    && (dOp c.desc != 5 || c.fail.isSome || c.leg == 2)
    && (dOp c.desc != 4 || !((s.fnCtxs c.fn).any (fun x => x.seq < c.seq)
        || ((s.fn c.fn).sqs.map Sq.fetched).flatten.any (fun x => x.1 < c.seq)))

/-- The completion record (Table 4-6). -/
def Ctx.record (c : Ctx) (phase : Bool) : Bytes :=
  let st := (c.fail.map Prod.snd).getD 0
  let bytes := match c.fail with
    | some f => f.1
    | none => dBytes c.desc
  let res := match c.fail with
    | some f => leBytes 8 (dDst c.desc + f.1) ++ leBytes 8 0
    | none => leBytes 16 c.result
  slice c.desc 4 4 ++ leBytes 1 st ++ leBytes 1 (c.sq + 128 * b2n phase) ++ leBytes 1 c.gen ++ [0] ++ leBytes 8 bytes ++ res

/-- Writes a completion record at the tail of the ring, which advances; PHASE inverts on each pass (R209, R210). -/
def State.writeRecord (s : State) (k : Nat) (c : Ctx) : State :=
  let x := s.fn k
  let u := (s.fnUsp k).getD 0
  let s := if (s.port u).up then s.emit (.hostWrite u (s.fnRid k) (x.cqBase + 32 * x.cqTail) (c.record x.cqPhase)) else s
  let t := (x.cqTail + 1) % 2 ^ x.cqLog2
  s.setFn k { x with cqTail := t, cqPhase := if t = 0 then !x.cqPhase else x.cqPhase }

/-- R207 to R212: a descriptor completes: record, interrupt, statistics. A RELOCATE reports to its relocation (R98, R103). -/
def execDescriptorComplete (id : Nat) (s : State) : Host.Outcome State Fault Refusal :=
  .next (match s.ctx? id with
    | none => s
    | some c =>
      if !s.descDone c then s
      else
        let r := s.descReloc c
        let s := s.modMov (fun m => { m with ctxs := m.ctxs.filter (fun x => x.id != id) })
        if c.fn = mgmtKey then
          match r with
          | none => s
          | some r => if c.fail.isSome then s.abortReloc r false else s.modReloc r.slot (fun r => { r with leg := 3, ctx := none })
        else
          let k := c.fn
          let st := (c.fail.map Prod.snd).getD 0
          let s := s.modFn k (fun x => { x with cqReserved := x.cqReserved - 1, descDone := (x.descDone + 1) % 2 ^ 64 })
          let s := if bitOf (fieldAt c.desc 1 1) 2 ∧ st = 0 then s else s.writeRecord k c
          let s := if bitOf (fieldAt c.desc 1 1) 0 ∨ st ≠ 0 then s.vecEvent k (s.fn k).cqVector else s
          s.freezeEnd k)

/-- R213: TIME has passed since the oldest pending event. -/
def execMsixCoalesceTimer (f : Fn) (vector : Fin 16) (s : State) : Host.Outcome State Fault Refusal :=
  let k := fnKey f
  .next (if 0 < ((s.fn k).vec vector.val).events ∧ (s.fn k).coalTime ≠ 0 then s.sendVec k vector.val else s)

/-- R214: a vector, or the whole function, is unmasked: what is pending is sent. -/
def execMsixUnmask (f : Fn) (vector : Option (Fin 16)) (s : State) : Host.Outcome State Fault Refusal :=
  let k := fnKey f
  .next (if !s.fnLive k then s else
    match vector with
    | some v => (s.modFn k (fun x => x.modVec v.val (fun w => { w with masked := false }))).flushVec k v.val
    | none => (s.modFn k (fun x => { x with funcMask := false })).flushVecs k)

/-! ## Function resets -/

/-- R217, R222: the host writes Initiate Function Level Reset. -/
def execInitiateFlr (f : Fn) (s : State) : Host.Outcome State Fault Refusal :=
  let k := fnKey f
  .next (if s.fnLive k && !(s.fn k).flr then s.initiateFlr k else s)

/-- R219, R220: the drain of a resetting function ends; a host PF's VFs end with it (R222). -/
def execFlrDrainEnd (f : Fn) (s : State) : Host.Outcome State Fault Refusal :=
  let k := fnKey f
  .next (if (s.fn k).flr then forEach ((s.flrSet k).filter (fun j => (s.fn j).flr)) (fun j s => s.flrEnd j) s else s)

/-- R187, R222: a write of NumVFs and VF Enable. -/
def execVfEnableWrite (u : Port) (numVfs : BitVec 16) (en : Bool) (s : State) : Host.Outcome State Fault Refusal :=
  let u := u.val
  let on := s.mov.vfEnable.contains u
  .next (if !s.isUsp u then s
    else if on then (if en then s else s.initiateFlr (0x8000 + u))
    else
      let n := numVfs.toNat
      let s := s.modMov (fun m => { m with numVfs := SMap.store m.numVfs u n 0 })
      if en ∧ 0 < n ∧ n ≤ (SMap.get s.mov.allot u []).length then s.modMov (fun m => { m with vfEnable := addNew u m.vfEnable }) else s)

/-! ## Migration (R224 to R226) -/

/-- Ends a migration operation of host PF `u`. -/
def State.migEnd (s : State) (u result : Nat) : State :=
  s.modFn (0x8000 + u) (fun p => { p with migBusy := false, migResult := result })

/-- Records what the GO write names. -/
def State.migGo (s : State) (u vf op : Nat) : State :=
  s.modFn (0x8000 + u) (fun p => { p with migVf := vf, migOp := op, migBusy := true })

/-- The VF that a migration operation names, when its host has enabled it. -/
def State.migVf? (s : State) (u i : Nat) : Option Nat := if i < s.vfsOn u then s.vfGlobal u i else none

/-- R225: FREEZE. -/
def execMigrationFreeze (u : Port) (vf : Fin 1024) (s : State) : Host.Outcome State Fault Refusal :=
  let u := u.val
  .next (if !s.isUsp u ∨ (s.fn (0x8000 + u)).migBusy then s else
    let s := s.migGo u vf.val 0
    match s.migVf? u vf.val with
    | none => s.migEnd u 1
    | some k =>
      let x := s.fn k
      if x.freezing || x.frozen || x.flr then s.migEnd u 1
      else (s.setFn k { x with freezing := true }).freezeEnd k)

/-- R225: FREEZE_TO has passed: TIMEOUT, the VF stays FREEZING. -/
def execFreezeTimeout (f : Fin 1024) (s : State) : Host.Outcome State Fault Refusal :=
  .next (match s.fnUsp f.val with
    | none => s
    | some u =>
      let p := s.fn (0x8000 + u)
      if (s.fn f.val).freezing && p.migBusy && p.migOp == 0 && s.vfGlobal u p.migVf == some f.val then s.migEnd u 2 else s)

/-- A migration key (R224). -/
def State.migKey? (s : State) (u id : Nat) : Option Bytes := (s.hlm.migKeys.find? (fun k => k.1 == u && k.2.1 == id)).map (fun k => k.2.2)

/-- MAGIC of a migration blob (Table 4-14). -/
def blobMagic : Nat := 0x564D5A43

/-- One ring in the blob, 32 B (Table 4-14; the places inside it are the model's, log 20). -/
def Sq.toBlob (q : Sq) : Bytes :=
  leBytes 8 q.base ++ leBytes 1 q.log2 ++ leBytes 1 (b2n q.en) ++ leBytes 2 q.head ++ leBytes 2 q.tail
    ++ leBytes 1 (b2n q.fetchErr + 2 * b2n q.dbErr + 4 * b2n q.halted) ++ List.replicate 17 0

/-- A ring from the blob. -/
def Sq.ofBlob (b : Bytes) : Sq :=
  let e := fieldAt b 14 1
  { base := fieldAt b 0 8, en := fieldAt b 9 1 % 2 == 1, log2 := fieldAt b 8 1, head := fieldAt b 10 2, tail := fieldAt b 12 2,
    fetchErr := bitOf e 0, dbErr := bitOf e 1, halted := bitOf e 2, fetched := [] }

/-- One MSI-X table entry, 16 B (R214). -/
def Vec.toBytes (v : Vec) : Bytes := leBytes 8 v.addr ++ leBytes 4 v.data ++ leBytes 4 (b2n v.masked)

/-- Bytes 0 to 463 of a blob. -/
def State.blobBody (s : State) (k keyId : Nat) : Bytes :=
  let x := s.fn k
  slice (leBytes 4 blobMagic ++ leBytes 2 1 ++ leBytes 2 512 ++ leBytes 8 Config.deviceSerial.toNat
    ++ leBytes 4 (s.get Reg.HLM_BOOT_COUNTER) ++ leBytes 1 keyId ++ leBytes 1 x.gen ++ leBytes 2 k ++ leBytes 8 0
    ++ (x.sqs.map Sq.toBlob).flatten
    ++ (leBytes 8 x.cqBase ++ leBytes 1 x.cqLog2 ++ leBytes 1 (b2n x.cqEn) ++ leBytes 1 x.cqVector ++ leBytes 1 (b2n x.cqPhase)
      ++ leBytes 2 x.cqTail ++ leBytes 2 x.cqHead ++ leBytes 1 x.coalCount ++ [0] ++ leBytes 2 x.coalTime
      ++ leBytes 4 ((x.vecs.map Vec.events).sum) ++ leBytes 4 0 ++ leBytes 4 0)
    ++ (x.vecs.map Vec.toBytes).flatten
    ++ leBytes 4 (maskOf ((List.range 4).filter (fun i => (x.vec i).pba))) ++ leBytes 4 (b2n x.funcMask)
    ++ leBytes 4 x.errVector ++ leBytes 4 (b2n x.errReset)) 0 464

/-- R225: SAVE writes the blob to MIG_ADDR by bus-master writes; a write that fails ends with DMA_ERR. -/
def execMigrationSave (u : Port) (vf : Fin 1024) (keyId : Fin 8) (dmaOk : Bool) (s : State) : Host.Outcome State Fault Refusal :=
  let u := u.val
  .next (if !s.isUsp u ∨ (s.fn (0x8000 + u)).migBusy then s else
    let s := (s.migGo u vf.val 1).modFn (0x8000 + u) (fun p => { p with migKey := keyId.val })
    match s.migVf? u vf.val with
    | none => s.migEnd u 1
    | some k =>
      if !(s.fn k).frozen || (s.fn k).flr then s.migEnd u 1
      else match s.migKey? u keyId.val with
        | none => s.migEnd u 3
        | some key =>
          if !dmaOk then s.migEnd u 6
          else
            let b := s.blobBody k keyId.val
            (s.emit (.hostWrite u (s.pfRid u) (s.fn (0x8000 + u)).migAddr (b ++ digestBytes (Config.hmac384 key b)))).migEnd u 0)

/-- The function state that a blob spells, under generation `gen`. -/
def FnSt.ofBlob (x : FnSt) (b : Bytes) : FnSt :=
  { x with
    sqs := (List.range 4).map (fun r => Sq.ofBlob (slice b (32 + 32 * r) 32)), cqBase := fieldAt b 160 8, cqLog2 := fieldAt b 168 1,
    cqEn := fieldAt b 169 1 % 2 == 1, cqVector := fieldAt b 170 1, cqPhase := fieldAt b 171 1 % 2 == 1, cqTail := fieldAt b 172 2,
    cqHead := fieldAt b 174 2, coalCount := fieldAt b 176 1, coalTime := fieldAt b 178 2, cqDbErr := false, cqReserved := 0,
    vecs := (List.range 4).map (fun v =>
      { addr := fieldAt b (192 + 16 * v) 8, data := fieldAt b (200 + 16 * v) 4, masked := fieldAt b (204 + 16 * v) 1 % 2 == 1,
        pba := bitOf (fieldAt b 256 4) v, events := if v = fieldAt b 170 1 then fieldAt b 180 4 else 0 }),
    funcMask := fieldAt b 260 1 % 2 == 1, errVector := fieldAt b 264 4 % 4, errReset := fieldAt b 268 1 % 2 == 1,
    gen := (x.gen + 1) % 256, freezing := false, frozen := true }

/-- R226: RESTORE loads a blob that passes every check, and leaves the VF FROZEN. -/
def execMigrationRestore (u : Port) (vf : Fin 1024) (blob : Bytes) (dmaOk : Bool) (s : State) : Host.Outcome State Fault Refusal :=
  let u := u.val
  .next (if !s.isUsp u ∨ (s.fn (0x8000 + u)).migBusy then s else
    let s := s.migGo u vf.val 2
    match s.migVf? u vf.val with
    | none => s.migEnd u 1
    | some k =>
      let x := s.fn k
      if x.sqs.any Sq.en || x.cqEn || x.flr then s.migEnd u 1
      else
      let s := s.emit (.hostRead u (s.pfRid u) (s.fn (0x8000 + u)).migAddr 512 1024)
      if !dmaOk then s.migEnd u 6
      else if fieldAt blob 0 4 ≠ blobMagic ∨ fieldAt blob 4 2 ≠ 1 ∨ fieldAt blob 8 8 ≠ Config.deviceSerial.toNat
          ∨ fieldAt blob 16 4 ≠ s.get Reg.HLM_BOOT_COUNTER then s.migEnd u 5
      else match s.migKey? u (fieldAt blob 20 1) with
        | none => s.migEnd u 3
        | some key =>
          if slice blob 464 48 ≠ digestBytes (Config.hmac384 key (slice blob 0 464)) then
            (s.migEnd u 4).report 0x0B23 contained 0 (leBytes 2 k)
          else (s.setFn k (x.ofBlob blob)).migEnd u 0)

/-- R225: RESUME: fetching continues from each ring's head. -/
def execMigrationResume (u : Port) (vf : Fin 1024) (s : State) : Host.Outcome State Fault Refusal :=
  let u := u.val
  .next (if !s.isUsp u ∨ (s.fn (0x8000 + u)).migBusy then s else
    let s := s.migGo u vf.val 3
    match s.migVf? u vf.val with
    | none => s.migEnd u 1
    | some k =>
      let x := s.fn k
      if (x.frozen || x.freezing) && !x.flr then
        ((s.setFn k { x with freezing := false, frozen := false }).flushVecs k).migEnd u 0
      else s.migEnd u 1)

/-! ## Engine and SRAM failures (R227 to R229) -/

/-- Binds a descriptor of a failed engine to another: repeated from its start under a new context number, so that answers to
its first run are discarded; an ATOMIC already issued keeps its request; one of a resetting function is not repeated. -/
def State.rebind (s : State) (c : Ctx) : State :=
  if c.squashed then s
  else match s.leastLoaded (s.enginesFor c.fn) with
    | none => s
    | some e =>
      if dOp c.desc = 3 ∧ 0 < c.next then s.modCtx c.id (fun c => { c with engine := e })
      else
        let d := { s.newCtx c.fn c.sq c.seq e c.desc c.shared with gen := c.gen }
        let s := s.modMov (fun m => { m with ctxs := m.ctxs.filter (fun x => x.id != c.id) })
        let s := s.openCtx d
        if c.fn = mgmtKey then s.modReloc c.seq (fun r => if r.ctx = some c.id then { r with ctx := some d.id } else r) else s

/-- R227, R228: a copy engine fails. -/
def execEngineFailure (e : Fin 32) (s : State) : Host.Outcome State Fault Refusal :=
  .next (if !s.engineOk e.val then s else
    let s := s.set Reg.MOV_ENGINE_FAILED 0 (s.get Reg.MOV_ENGINE_FAILED + 2 ^ e.val)
    let s := s.setFlag Reg.MOV_STATUS_DEGRADED 0 true
    let s := s.report (0x0B00 + e.val) corrected 0 [byte e.val]
    forEach (s.mov.ctxs.filter (fun c => c.engine == e.val)) (fun c s => s.rebind c) s)

/-- R229: an SRAM error in Mover state. -/
def execMoverSramError (e : MoverSramError) (s : State) : Host.Outcome State Fault Refusal :=
  .next (match e with
    | .correctable => s
    | .function f =>
      let k := fnKey f
      let s := s.report 0x0B30 contained 0 (leBytes 2 k)
      if k = mgmtKey then forEach (s.fnCtxs k) (fun c s => s.failChunk c.id c.next 8) s
      else (s.modFn k (fun x => { x with errReset := true })).flrStart k
    | .shared =>
      s.report 0x0B31 fatal 0 [])

/-! ## BAR0 and BAR2 (Tables 4-8, 4-9, 4-13) -/

/-- A 32-bit word of a function's BAR0; write-only and reserved words read 0. -/
def State.barWord (s : State) (k off : Nat) : Nat :=
  let x := s.fn k
  let q := x.sq ((off - 0x40) / 16)
  if off = 0 then (if isVf k then k + s.fnLocal k * 2 ^ 10 else 0) + x.gen * 2 ^ 20
  else if off = 4 then b2n (s.fnActive k) + 2 * b2n x.freezing + 4 * b2n x.frozen + 8 * b2n x.errReset
  else if off = 8 then x.errVector
  else if 0x40 ≤ off ∧ off < 0x80 then
    (match off % 16 with
     | 0 => q.base % 2 ^ 32
     | 4 => q.base / 2 ^ 32
     | 8 => b2n q.en + q.log2 * 256
     | _ => q.head + 2 ^ 16 * b2n q.fetchErr + 2 ^ 17 * b2n q.dbErr)
  else if off = 0x80 then x.cqBase % 2 ^ 32
  else if off = 0x84 then x.cqBase / 2 ^ 32
  else if off = 0x88 then b2n x.cqEn + x.cqLog2 * 256 + x.cqVector * 2 ^ 16
  else if off = 0x8C then x.cqTail + 2 ^ 16 * b2n x.cqPhase + 2 ^ 17 * b2n x.cqDbErr
  else if off = 0x90 then x.coalCount + x.coalTime * 256
  else if off = 0x400 ∧ !isVf k then x.migVf + x.migOp * 2 ^ 12 + x.migKey * 2 ^ 16
  else if off = 0x404 ∧ !isVf k then x.migAddr % 2 ^ 32
  else if off = 0x408 ∧ !isVf k then x.migAddr / 2 ^ 32
  else if off = 0x40C ∧ !isVf k then b2n x.migBusy + x.migResult * 16
  else if off = 0x410 ∧ !isVf k then x.pfWeight
  else if 0x2000 ≤ off ∧ off < 0x2000 + 16 * fnVectors k then fieldAt ((x.vec ((off - 0x2000) / 16)).toBytes) (off % 16) 4
  else if off = 0x3000 then maskOf ((List.range (fnVectors k)).filter (fun i => (x.vec i).pba))
  else 0

/-- Replaces the low or the high half of a 64-bit value. -/
def setHalf (old : Nat) (hi : Bool) (v : Nat) : Nat := if hi then old % 2 ^ 32 + v * 2 ^ 32 else old / 2 ^ 32 * 2 ^ 32 + v

/-- A host write of an MSI-X table word; clearing the mask sends what is pending (R214). -/
def State.vecWrite (s : State) (k v off w : Nat) : State :=
  let f : Vec → Vec := fun x => match off with
    | 0 => { x with addr := setHalf x.addr false (w / 4 * 4) }
    | 4 => { x with addr := setHalf x.addr true w }
    | 8 => { x with data := w }
    | _ => { x with masked := w % 2 == 1 }
  (s.modFn k (fun x => x.modVec v f)).flushVec k v

/-- The body of a meaning's next state. -/
def nextOf (s : State) (o : Host.Outcome State Fault Refusal) : State :=
  match o with
  | .next t => t
  | _ => s

/-- A 32-bit host write to a function's BAR0 (Tables 4-8 and 4-13). Doorbells are ignored while a reset runs. -/
def State.barWrite (s : State) (k off v : Nat) : State :=
  let x := s.fn k
  let r := (off - 0x40) / 16
  if x.flr then s
  else if off = 4 then (if bitOf v 3 then s.setFn k { x with errReset := false } else s)
  else if off = 8 then s.setFn k { x with errVector := v % 4 }
  else if 0x40 ≤ off ∧ off < 0x80 then
    s.setFn k (x.modSq r (fun q => match off % 16 with
      | 0 => if q.en then q else { q with base := setHalf q.base false (v / 64 * 64) }
      | 4 => if q.en then q else { q with base := setHalf q.base true v }
      | 8 =>
        let n := bitsOf v 8 5
        let q := if q.en ∨ n < 6 ∨ 16 < n then q else { q with log2 := n }
        q.enable (bitOf v 0)
      | _ => { q with fetchErr := q.fetchErr && !bitOf v 16, dbErr := q.dbErr && !bitOf v 17 }))
  else if off = 0x80 then (if x.cqEn then s else s.setFn k { x with cqBase := setHalf x.cqBase false (v / 32 * 32) })
  else if off = 0x84 then (if x.cqEn then s else s.setFn k { x with cqBase := setHalf x.cqBase true v })
  else if off = 0x88 then
    let n := bitsOf v 8 5
    let vec := bitsOf v 16 (if isVf k then 2 else 4)
    let x := { x with cqVector := vec, cqLog2 := if x.cqEn ∨ n < 6 ∨ 16 < n then x.cqLog2 else n }
    (s.setFn k x).cqEnable k (bitOf v 0)
  else if off = 0x8C then s.setFn k { x with cqDbErr := x.cqDbErr && !bitOf v 17 }
  else if off = 0x90 then s.setFn k { x with coalCount := v % 256, coalTime := bitsOf v 8 16 }
  else if 0x1000 ≤ off ∧ off < 0x1020 ∧ off % 8 = 0 then s.setFn k (x.modSq ((off - 0x1000) / 8) (fun q => q.doorbell (v % 2 ^ 16)))
  else if off = 0x1040 then s.setFn k (x.cqDoorbell (v % 2 ^ 16))
  else if 0x2000 ≤ off ∧ off < 0x2000 + 16 * fnVectors k then s.vecWrite k ((off - 0x2000) / 16) (off % 16) v
  else if isVf k then s
  else
    let u := k - 0x8000
    if off = 0x404 then s.setFn k { x with migAddr := setHalf x.migAddr false (v / 4096 * 4096) }
    else if off = 0x408 then s.setFn k { x with migAddr := setHalf x.migAddr true v }
    else if off = 0x410 then (if v % 256 = 0 then s else s.setFn k { x with pfWeight := v % 256 })
    else if off = 0x400 then
      if x.migBusy then s
      else
        let vf := v % 1024
        let s := s.setFn k { x with migVf := vf, migOp := bitsOf v 12 2, migKey := bitsOf v 16 3 }
        if !bitOf v 31 ∨ 64 ≤ u then s
        else match bitsOf v 12 2 with
          | 0 => nextOf s (execMigrationFreeze (Fin.ofNat 64 u) (Fin.ofNat 1024 vf) s)
          | 1 => nextOf s (execMigrationSave (Fin.ofNat 64 u) (Fin.ofNat 1024 vf) (Fin.ofNat 8 (bitsOf v 16 3)) true s)
          | 3 => nextOf s (execMigrationResume (Fin.ofNat 64 u) (Fin.ofNat 1024 vf) s)
          | _ => s
    else s

/-- The 128 bytes of a VF administration entry (Table 4-9). -/
def VfAdmin.toBytes (a : VfAdmin) : Bytes :=
  slice (leBytes 1 a.weight ++ List.replicate 7 0 ++ (a.wins.map (fun (w : Nat × Nat × Nat × Bool) =>
    leBytes 8 w.1 ++ leBytes 7 w.2.1 ++ leBytes 1 (w.2.2.1 + 128 * b2n w.2.2.2))).flatten) 0 128

/-- The entry that 128 bytes spell; a WEIGHT of 0 stores 1. -/
def VfAdmin.ofBytes (b : Bytes) : VfAdmin :=
  { weight := max 1 (fieldAt b 0 1), wins := (List.range 4).map (fun w =>
      (fieldAt b (8 + 16 * w) 8, fieldAt b (16 + 16 * w) 7, bitsOf (fieldAt b (23 + 16 * w) 1) 0 4, bitOf (fieldAt b (23 + 16 * w) 1) 7)) }

/-- A host write into the VF administration table of PF `u` (R216). -/
def State.adminWrite (s : State) (u off : Nat) (b : Bytes) : State :=
  let i := off / 128
  let a := VfAdmin.ofBytes (overlayBytes (s.vfAdmin u i).toBytes (off % 128) b)
  s.modMov (fun m => { m with admin := SMap.store m.admin (1024 * u + i) a VfAdmin.dflt })

/-! ## Commands (R232) -/

/-- A function operand: VF 0 to 1,023, or 0x8000 + u for a host PF. -/
def State.fnOperand (s : State) (k : Nat) : Bool := k < 1024 || (0x8000 ≤ k && k < 0x8040 && s.isUsp (k - 0x8000))

/-- VF indices that no allotment holds. -/
def State.freeVfs (s : State) : List Nat :=
  let used := (s.mov.allot.map Prod.snd).flatten
  (List.range 1024).filter (fun g => !used.contains g)

/-- MOV_INFO (0xC600). -/
def specMovInfo : CmdSpec :=
  { opcode := 0xC600, priv := .observe, sub := 0x0B, len := lenIs 0,
    run := fun _ _ s =>
      .done (leBytes 4 (2 ^ 32 - 1 - s.get Reg.MOV_ENGINE_FAILED) ++ leBytes 2 (2048 - s.mov.ctxs.length) ++ leBytes 2 s.freeVfs.length
        ++ ((List.range 64).map (fun u => leBytes 2 (SMap.get s.mov.allot u []).length)).flatten) s }

/-- MOV_INFO: R232. -/
def execMovInfo (h : Hdr) (p : Bytes) (s : State) : Host.Outcome State Fault Refusal := specMovInfo.direct h p s

/-- MOV_ALLOT_SET (0xC601): R185, R186, R189. -/
def specMovAllotSet : CmdSpec :=
  { opcode := 0xC601, priv := .admin, sub := 0x0B, len := lenIs 4,
    check := fun _ p s => firstBad [need (s.isUsp (p8 p 0)) 0, need (p16 p 2 ≤ 1024) 2],
    run := fun _ p s =>
      let u := p8 p 0
      let n := p16 p 2
      let others := s.mov.allot.filter (fun a => a.1 != u)
      let used := (others.map Prod.snd).flatten
      let free := (List.range 1024).filter (fun g => !used.contains g)
      if s.mov.vfEnable.contains u then .fail stConflict
      else if free.length < n then .fail stNoResource
      else
        let g := free.take n
        .done [] ((s.modMov (fun m => { m with allot := SMap.store m.allot u g [] })).journal (.allot u g)) }

/-- MOV_ALLOT_SET: R185. -/
def execMovAllotSet (h : Hdr) (p : Bytes) (s : State) : Host.Outcome State Fault Refusal := specMovAllotSet.direct h p s

/-- MOV_HOST_WEIGHT_SET (0xC602). -/
def specMovHostWeightSet : CmdSpec :=
  { opcode := 0xC602, priv := .operate, sub := 0x0B, len := lenIs 2,
    check := fun _ p s => firstBad [need (s.isUsp (p8 p 0)) 0, need (1 ≤ p8 p 1) 1],
    run := fun _ p s =>
      .done [] ((s.set Reg.MOV_HOST_WEIGHT_WEIGHT (p8 p 0) (p8 p 1)).journal
        (.field (Reg.MOV_HOST_WEIGHT_WEIGHT.key (p8 p 0)) (p8 p 1))) }

/-- MOV_HOST_WEIGHT_SET: R232. -/
def execMovHostWeightSet (h : Hdr) (p : Bytes) (s : State) : Host.Outcome State Fault Refusal := specMovHostWeightSet.direct h p s

/-- MOV_FN_READ (0xC603). -/
def specMovFnRead : CmdSpec :=
  { opcode := 0xC603, priv := .observe, sub := 0x0B, len := lenIs 2, objects := fun p s => ((s.fnUsp (p16 p 0))).toList,
    check := fun _ p s => firstBad [need (s.fnOperand (p16 p 0)) 0],
    run := fun _ p s =>
      let k := p16 p 0
      let x := s.fn k
      let adm := if isVf k then (match s.fnUsp k with
          | some u => (s.vfAdmin u (s.fnLocal k)).toBytes
          | none => VfAdmin.dflt.toBytes) else List.replicate 128 0
      .done (((List.range 64).map (fun i => leBytes 4 (s.barWord k (4 * i)))).flatten ++ adm ++ leBytes 8 x.bytesMoved
        ++ leBytes 8 x.descDone) s }

/-- MOV_FN_READ: R232. -/
def execMovFnRead (h : Hdr) (p : Bytes) (s : State) : Host.Outcome State Fault Refusal := specMovFnRead.direct h p s

/-- MOV_FN_RESET (0xC610): answers when the reset completes. A function that exists toward no host has nothing to reset. -/
def specMovFnReset : CmdSpec :=
  { opcode := 0xC610, priv := .operate, sub := 0x0B, len := lenIs 2,
    check := fun _ p s => firstBad [need (s.fnOperand (p16 p 0)) 0],
    run := fun _ p s =>
      let k := p16 p 0
      if (s.fn k).flr then .waits (.fnReset k) s
      else if !s.fnLive k then .done [] s
      else .waits (.fnReset k) (s.initiateFlr k) }

/-- MOV_FN_RESET: R217 to R220. -/
def execMovFnReset (h : Hdr) (p : Bytes) (s : State) : Host.Outcome State Fault Refusal := specMovFnReset.direct h p s

/-- MOV_STATS (0xC620). -/
def specMovStats : CmdSpec :=
  { opcode := 0xC620, priv := .observe, sub := 0x0B, len := lenIs 4,
    objects := fun p s => (List.range (p16 p 2)).map (fun i => (s.fnUsp (p16 p 0 + i)).getD 64),
    check := fun _ p _ =>
      let k := p16 p 0
      let n := p16 p 2
      firstBad [need (k < 1024 || (0x8000 ≤ k && k < 0x8040)) 0,
        need (1 ≤ n && n ≤ 240 && (if k < 1024 then k + n ≤ 1024 else k + n ≤ 0x8040)) 2],
    run := fun _ p s =>
      .done (((List.range 32).map (fun e => leBytes 8 (SMap.get s.mov.engBytes e 0))).flatten
        ++ ((List.range (p16 p 2)).map (fun i =>
          let x := s.fn (p16 p 0 + i)
          leBytes 8 x.bytesMoved ++ leBytes 8 x.descDone)).flatten) s }

/-- MOV_STATS: R232. -/
def execMovStats (h : Hdr) (p : Bytes) (s : State) : Host.Outcome State Fault Refusal := specMovStats.direct h p s

end Sys2Proof.Machine
end

