-- ==== Sys2Proof/Machine/Receive.lean ====
section
/-! DEFINITION. Receiving command packets: the checks that precede execution, the queues of the transports, chains, the
management PF mailbox, the loss of a transport (R457 to R474, R485). -/

namespace Sys2Proof.Machine

/-- The assigned vendor opcodes with their privileges (Tables 11-7, 11-8 and the chapters' command tables); PARTNER_RELAY takes its
inner packet's. -/
def opTable : List (Nat × Priv) :=
  [(0xC000, .observe), (0xC001, .observe), (0xC002, .observe), (0xC003, .observe), (0xC004, .observe),
    (0xC010, .admin), (0xC011, .admin), (0xC012, .operate), (0xC013, .admin), (0xC100, .observe), (0xC101, .operate),
    (0xC102, .admin), (0xC110, .observe), (0xC111, .operate), (0xC112, .admin), (0xC113, .operate),
    (0xC200, .observe), (0xC201, .admin), (0xC202, .admin), (0xC203, .operate), (0xC204, .observe),
    (0xC210, .observe), (0xC211, .admin), (0xC212, .operate), (0xC213, .operate)] ++
  [(0xC214, .operate), (0xC220, .observe), (0xC221, .operate), (0xC222, .admin), (0xC223, .admin),
    (0xC224, .operate), (0xC300, .observe), (0xC301, .operate), (0xC302, .admin), (0xC303, .observe),
    (0xC310, .observe), (0xC311, .observe), (0xC312, .operate), (0xC313, .operate), (0xC314, .observe),
    (0xC400, .observe), (0xC401, .admin), (0xC402, .admin), (0xC410, .operate), (0xC411, .operate),
    (0xC420, .operate), (0xC421, .operate), (0xC422, .observe), (0xC423, .operate), (0xC430, .operate)] ++
  [(0xC431, .operate), (0xC432, .observe), (0xC433, .operate), (0xC500, .observe), (0xC501, .observe),
    (0xC502, .observe), (0xC510, .operate), (0xC511, .admin), (0xC520, .observe), (0xC600, .observe),
    (0xC601, .admin), (0xC602, .operate), (0xC603, .observe), (0xC610, .operate), (0xC620, .observe),
    (0xC700, .observe), (0xC701, .admin), (0xC702, .admin), (0xC703, .operate), (0xC704, .admin), (0xC705, .observe),
    (0xC706, .observe), (0xC800, .observe), (0xC801, .observe), (0xC802, .operate)] ++
  [(0xC803, .observe), (0xC804, .operate), (0xC810, .observe), (0xC811, .operate), (0xC812, .operate),
    (0xC820, .observe), (0xC821, .admin), (0xC822, .admin), (0xC900, .observe), (0xC901, .observe),
    (0xC902, .operate), (0xC903, .observe), (0xC910, .admin), (0xC911, .admin), (0xC912, .admin), (0xC913, .admin),
    (0xC914, .admin), (0xC920, .admin), (0xC921, .admin), (0xC922, .admin), (0xC930, .observe), (0xCA00, .observe),
    (0xCA01, .operate), (0xCA02, .admin), (0xCB00, .observe)] ++
  [(0xCB01, .observe), (0xCB02, .operate), (0xCB03, .operate), (0xCB04, .operate), (0xCB10, .operate),
    (0xCB11, .observe), (0xCB12, .operate), (0xCC00, .observe), (0xCC01, .operate), (0xCC10, .observe),
    (0xCC11, .operate), (0xCC20, .operate), (0xCC21, .observe), (0xCF00, .operate), (0xCF10, .factory)]

/-- The FM API opcodes of the supported sets with their privileges: physical switch, virtual switch, MLD port, DCD management, and
Background Operation Status (R484; the CXL 3.1 codes, log 24). -/
def fmTable : List (Nat × Priv) :=
  [(0x0002, .operate), (0x5100, .observe), (0x5101, .observe), (0x5102, .admin), (0x5103, .admin), (0x5200, .observe), (0x5201, .operate),
   (0x5202, .operate), (0x5203, .operate), (0x5300, .operate), (0x5301, .operate), (0x5302, .operate), (0x5600, .observe),
   (0x5601, .observe), (0x5602, .operate), (0x5603, .observe), (0x5604, .operate), (0x5605, .operate)]

/-- The privilege of an assigned opcode (step 4 of R459). -/
def opPriv (op : Nat) : Option Priv := ((opTable ++ fmTable).find? (fun e => e.1 == op)).map Prod.snd

/-! ## Queues and chains (R467, R470, R471) -/

/-- Two requesters use one transport. -/
def sameTransport (a b : Transport) : Bool :=
  match a, b with
  | .partner _, .partner _ => true
  | _, _ => a == b

/-- Requests that a transport has queued, chained ones among them (R467, R471). -/
def Cmd.queuedOn (c : Cmd) (t : Transport) : Nat :=
  (((c.jobs.map Job.cmds).flatten ++ (c.chains.map Chain.cmds).flatten).filter (fun q => sameTransport t q.req.transport)).length

/-- The open chain of a requester and CONTEXT. -/
def Cmd.chainOf (c : Cmd) (r : Requester) (context : Nat) : Option Chain :=
  c.chains.find? (fun x => x.req == r && x.context == context)

/-- Removes the open chain of a requester and CONTEXT. -/
def Cmd.dropChain (c : Cmd) (r : Requester) (context : Nat) : Cmd :=
  { c with chains := c.chains.filter (fun x => !(x.req == r && x.context == context)) }

/-- The header of a packet from a requester. -/
def hdrOf (r : Requester) (session : Option Nat) (k : Bytes) : Hdr :=
  { req := r, session := session, tag := BitVec.ofNat 32 (pktTag k), context := BitVec.ofNat 16 (pktContext k) }

/-- Answers a queued request without executing it. -/
def State.answerQueued (s : State) (q : Queued) (status : Nat) : State :=
  s.answer q.req q.session (pktOpcode q.pkt) (pktTag q.pkt) (pktContext q.pkt) q.seq status []

/-- Answers a packet that is not accepted; nothing of it is recorded (R571). -/
def State.reject (s : State) (r : Requester) (session : Option Nat) (k : Bytes) (status : Nat) (reply : Bytes) : State :=
  s.sendPacket r session (mkPacket 1 (pktOpcode k) (pktTag k) (pktContext k) status reply)

/-- The mailbox is free for the next packet of a chain it holds (R465, R470; log 25). -/
def State.mbxHeld (s : State) (r : Requester) : State :=
  if r.transport = .mailbox then s.modCmd (fun c => { c with mbx := { c.mbx with busy := false } }) else s

/-- URGENT counts from OPERATE up (R468). -/
def State.urgentOf (s : State) (r : Requester) (session : Option Nat) (k : Bytes) : Bool :=
  bitOf (pktFlags k) 3 && decide (1 ≤ privRank (s.privOf (hdrOf r session k)))

/-- An accepted packet joins its chain, ends it, or queues alone. -/
def State.enqueue (s : State) (q : Queued) : State :=
  let ctx := pktContext q.pkt
  let urgent := s.urgentOf q.req q.session q.pkt
  let open' := s.cmd.chainOf q.req ctx
  let before := (open'.map Chain.cmds).getD []
  if bitOf (pktFlags q.pkt) 2 then
    (s.modCmd (fun c =>
      { c.dropChain q.req ctx with chains := (c.dropChain q.req ctx).chains ++ [{ req := q.req, context := ctx, cmds := before ++ [q] }] })).mbxHeld
      q.req
  else s.modCmd (fun c => { c.dropChain q.req ctx with jobs := c.jobs ++ [{ cmds := before ++ [q], urgent := urgent }] })

/-- Discards a chain: every command in it answers CONFLICT (R471). -/
def State.discardChain (s : State) (r : Requester) (context : Nat) : State :=
  match s.cmd.chainOf r context with
  | none => s
  | some x => forEach x.cmds (fun q s => s.answerQueued q stConflict) (s.modCmd (fun c => c.dropChain r context))

/-- A packet arrives: steps 1 to 4 of R459, the limits of R467 and R471, its COMMAND record, its queue. -/
def State.receive (s : State) (r : Requester) (session : Option Nat) (k : Bytes) : State :=
  match framing k with
  | some st => s.reject r session k st (if st = stBadCheck then [] else offsetReply headerOffset)
  | none =>
    match opPriv (pktOpcode k) with
    | none => s.reject r session k stBadOpcode []
    | some p =>
      let full := match s.cmd.chainOf r (pktContext k) with
        | some x => bitOf (pktFlags k) 2 && decide (16 ≤ x.cmds.length)
        | none => false
      if full then (s.discardChain r (pktContext k)).reject r session k stConflict []
      else if 16 ≤ s.cmd.queuedOn r.transport then s.reject r session k stNoResource []
      else
        let q : Queued := { req := r, session := session, pkt := k, seq := s.trec.next }
        (s.recordCommand (hdrOf r session k) (p == .observe) k).enqueue q

/-- COMMAND_PACKET_RECEIVE: R459 on any transport; the mailbox's own packets are submitted by GO, those carried as
SPDM secured messages on the management PF's DOE arrive here (Table 11-3). -/
def execCommandPacketReceive (r : Requester) (session : Option Nat) (pkt : Bytes) (s : State) : Host.Outcome State Fault Refusal :=
  .next (if s.clk.phase = .off ∨ (r.transport = .mailbox ∧ session = none) then s else s.receive r session pkt)

/-- CHAIN_ASSEMBLY_TIMEOUT: R471, a TIMER input (R569). -/
def execChainAssemblyTimeout (r : Requester) (context : BitVec 16) (s : State) : Host.Outcome State Fault Refusal :=
  .next (if (s.cmd.chainOf r context.toNat).isSome then (s.timerInput 2).discardChain r context.toNat else s)

/-! ## Management PF mailbox (R465, R466) -/

/-- Bytes 0x1000 to 0x2FFF and 0x3000 to 0x4FFF and 0x5000 to 0x6FFF are the three buffers, 8 KiB each. -/
def mbxBufBytes : Nat := 0x2000

/-- MBX_GO: submits the packet in the request buffer; ignored while BUSY. -/
def State.mbxGo (s : State) : State :=
  let m := s.cmd.mbx
  if m.busy then s
  else
    let k := slice m.reqBuf 0 m.reqLen
    (s.modCmd (fun c => { c with mbx := { m with busy := true } })).receive { transport := .mailbox, source := s.mgmtUsp.getD 0 } none k

/-- MBX_GO: R465. -/
def execMbxGo (s : State) : Host.Outcome State Fault Refusal :=
  .next (if s.mainUp && s.mgmtUsp.isSome then s.mbxGo else s)

/-- Frees the event buffer; the next held event is loaded. -/
def State.mbxEvtAck (s : State) : State :=
  match s.cmd.mbx.held with
  | [] => s.modCmd (fun c => { c with mbx := { c.mbx with evt := none } })
  | e :: l => (s.modCmd (fun c => { c with mbx := { c.mbx with evt := some e, held := l } })).mbxIrq 1

/-- MBX_EVT_ACK: R466. -/
def execMbxEvtAck (s : State) : Host.Outcome State Fault Refusal :=
  .next (if s.mainUp && s.cmd.mbx.evt.isSome then s.mbxEvtAck else s)

/-- An event packet arrives at the mailbox: the buffer, or one of 64 places behind it, or it is lost (R466). -/
def State.mbxEvent (s : State) (k : Bytes) : State :=
  let m := s.cmd.mbx
  if m.evt.isNone then (s.modCmd (fun c => { c with mbx := { m with evt := some k } })).mbxIrq 1
  else if m.held.length < 64 then s.modCmd (fun c => { c with mbx := { m with held := m.held ++ [k] } })
  else s.modCmd (fun c => { c with mbx := { m with evtLost := true } })

/-- Sends an event packet to a requester (R472). -/
def State.sendEvent (s : State) (req : Requester) (session : Option Nat) (k : Bytes) : State :=
  match req.transport, session with
  | .mailbox, none => s.mbxEvent k
  | .partner _, _ => s.ctlSend (.event req.source k)
  | _, _ => s.emit (.packet req session k)

/-- MBX_STATUS (Table 11-4). -/
def Mailbox.status (m : Mailbox) : Nat :=
  b2n m.busy + 2 * b2n m.done + 4 * b2n m.evt.isSome + 8 * b2n m.evtLost + 256 * m.held.length

/-- The word at offset `off` of the management PF's BAR0. -/
def State.mbxWord (s : State) (off : Nat) : Nat :=
  let m := s.cmd.mbx
  let x := SMap.get s.mov.fns 0xFFFF (FnSt.dflt 16)
  let len := fun (b : Option Bytes) => (b.getD []).length
  if off = 0 then 4 * b2n m.intEn
  else if off = 4 then m.status
  else if off = 8 then m.reqLen
  else if off = 0xC then len m.rsp
  else if off = 0x10 then len m.evt
  else if 0x1000 ≤ off ∧ off < 0x3000 then fieldAt m.reqBuf (off - 0x1000) 4
  else if 0x3000 ≤ off ∧ off < 0x5000 then fieldAt (m.rsp.getD []) (off - 0x3000) 4
  else if 0x5000 ≤ off ∧ off < 0x7000 then fieldAt (m.evt.getD []) (off - 0x5000) 4
  else if 0x8000 ≤ off ∧ off < 0x8020 then
    let w := x.vecs.getD ((off - 0x8000) / 16) Vec.dflt
    fieldAt (leBytes 8 w.addr ++ leBytes 4 w.data ++ leBytes 4 (b2n w.masked)) (off % 16) 4
  else if off = 0x9000 then b2n (x.vecs.getD 0 Vec.dflt).pba + 2 * b2n (x.vecs.getD 1 Vec.dflt).pba
  else 0

/-- Sends a mailbox interrupt that was pending. -/
def State.mbxFlush (s : State) (v : Nat) : State :=
  let x := SMap.get s.mov.fns 0xFFFF (FnSt.dflt 16)
  if (x.vecs.getD v Vec.dflt).pba then
    let y := { x with vecs := x.vecs.modify v (fun z => { z with pba := false }) }
    ({ s with mov := { s.mov with fns := SMap.put s.mov.fns 0xFFFF y } }).mbxIrq v
  else s

/-- A host write of the word at `off` of the management PF's BAR0 (Table 11-4). -/
def State.mbxWrite (s : State) (off v : Nat) : State :=
  let m := s.cmd.mbx
  if off = 0 then
    let s := s.modCmd (fun c => { c with mbx := { c.mbx with intEn := bitOf v 2 } })
    let s := if bitOf v 1 && s.cmd.mbx.evt.isSome then s.mbxEvtAck else s
    if bitOf v 0 then s.mbxGo else s
  else if off = 4 then
    s.modCmd (fun c => { c with mbx := { m with done := m.done && !bitOf v 1, evtLost := m.evtLost && !bitOf v 3 } })
  else if off = 8 then s.modCmd (fun c => { c with mbx := { m with reqLen := v % 8192 } })
  else if 0x1000 ≤ off ∧ off < 0x3000 then
    if m.busy then s
    else
      let b := slice m.reqBuf 0 (max m.reqBuf.length (off - 0x1000 + 4))
      s.modCmd (fun c => { c with mbx := { m with reqBuf := overlayBytes b (off - 0x1000) (leBytes 4 v) } })
  else if 0x8000 ≤ off ∧ off < 0x8020 then
    let x := SMap.get s.mov.fns 0xFFFF (FnSt.dflt 16)
    let i := (off - 0x8000) / 16
    let put := fun (old : Nat) (hi : Bool) => if hi then old % 2 ^ 32 + v * 2 ^ 32 else old / 2 ^ 32 * 2 ^ 32 + v
    let f : Vec → Vec := fun w => match off % 16 with
      | 0 => { w with addr := put w.addr false / 4 * 4 }
      | 4 => { w with addr := put w.addr true }
      | 8 => { w with data := v }
      | _ => { w with masked := v % 2 == 1 }
    ({ s with mov := { s.mov with fns := SMap.put s.mov.fns 0xFFFF { x with vecs := x.vecs.modify i f } } }).mbxFlush i
  else s

/-! ## Loss of a transport (R485) -/

/-- A transport is lost: what it has queued is discarded, responses and events of what runs are not sent. -/
def State.loseTransport (s : State) (t : Transport) : State :=
  let off := fun (r : Requester) => sameTransport t r.transport
  let s := s.modCmd (fun c =>
    { c with jobs := c.jobs.filter (fun j => !j.cmds.any (fun q => off q.req)), chains := c.chains.filter (fun x => !off x.req),
             bg := c.bg.map (fun b => if off b.req then { b with dropped := true } else b) })
  { s with tbl := { s.tbl with waits := s.tbl.waits.map (fun w => if off w.req then { w with dropped := true, rest := [] } else w) } }

/-- TRANSPORT_LOST: R485. -/
def execTransportLost (t : Transport) (s : State) : Host.Outcome State Fault Refusal := .next (s.loseTransport t)

/-- What a PORT reset of USP `u` does to its transports: its VDM traffic, and the mailbox of the MGMT_USP (R466, R485). -/
def State.transportReset (s : State) (u : Port) : State :=
  let s := s.loseTransport (.vdm u)
  if s.mgmtUsp = some u.val then
    let s := s.loseTransport .mailbox
    s.modCmd (fun c => { c with mbx := { c.mbx with intEn := false, busy := false, done := false, evtLost := false, reqLen := 0, rsp := none,
                                                    evt := none, held := [] } })
  else s

end Sys2Proof.Machine
end

