-- ==== Sys2Proof/Machine/Fabric.lean ====
section
/-! DEFINITION. The fabric core's events and commands: promotion, crossing the planes, acknowledgement and resending, plane
failure, multicast, headroom (R241 to R274). -/

namespace Sys2Proof.Machine

/-! ## Promotion and multicast (R241 to R243, R256 to R259) -/

/-- The entry of multicast group `g` (R257). -/
def State.mcEntry (s : State) (g : Nat) : Bytes := s.active 0x0701 (16 * g) 16

/-- MEMBERS of an entry. -/
def mcMembers (b : Bytes) : List Nat := indicesOf 64 (fieldAt b 0 8)
/-- VALID of an entry. -/
def mcValid (b : Bytes) : Bool := bitOf (fieldAt b 8 1) 0
/-- POLICY of an entry: PARTIAL. -/
def mcPartial (b : Bytes) : Bool := bitOf (fieldAt b 8 1) 1

/-- A copy toward a port whose link is down is discarded (R259). -/
def State.mcDown (s : State) (d : Nat) : State := (s.bump Reg.XBR_DISC d).reportIx 0x07C0 d contained 0

/-- A copy skipped under PARTIAL (R258). -/
def State.mcSkip (s : State) (d : Nat) : State := (s.bump Reg.XBR_MC_OVF d).reportIx 0x0780 d corrected 0

/-- The copy of a multicast message toward port `d`, as its output transmits it. -/
def Msg.copyFor (m : Msg) (d : Nat) : Msg :=
  { m with dest := d, body := match m.body with
    | .tlp _ t ep => .tlp d t ep
    | b => b }

/-- Takes the head of a flow's reservation. -/
def State.dropResv (s : State) (k : Nat) : State := (s.setResv k (s.resvOf k).tail).creditCheck (flowSrc k)

/-- Promotes the multicast message at the head of a flow, by its group's POLICY; a message with no destination left is
discarded whole (R258, R259). Answers none while it must wait. -/
def State.promoteMulticast (s : State) (k : Nat) (m : Msg) (g : Nat) : Option State :=
  let e := s.mcEntry g
  let ds := if mcValid e then (mcMembers e).filter (fun d => d != m.src) else []
  let up := ds.filter (fun d => (s.port d).up)
  let down := ds.filter (fun d => !(s.port d).up)
  let copies := up.map m.copyFor
  let fits := fun (c : Msg) => takeShared (s.kq c.q) c.ingots (s.sharedOf (flow c.src c.dest c.q)) s.sharedFree
  let finish := fun (s : State) (cs : List Msg) =>
    forEach down (fun d s => s.mcDown d) (forEach cs (fun c s => s.promote c) (s.dropResv k))
  if copies.isEmpty then some (finish s [])
  else if mcPartial e then
    let ok := copies.filter fits
    if ok.isEmpty then none
    else
      let s := finish s ok
      some (forEach ((copies.filter (fun c => !fits c)).map Msg.dest) (fun d s => s.mcSkip d) s)
  else if s.allPass copies then some (finish s copies)
  else none

/-- R241 to R243: the head of a flow's reservation is promoted once R242 passes for it; part of it may have been dispatched
from the reservation, and then it stays there. -/
def execMessagePromotion (src dest : Fin 78) (q : Fin 8) (s : State) : Host.Outcome State Fault Refusal :=
  let k := flow src.val dest.val q.val
  .next (match s.resvOf k with
    | [] => s
    | m :: _ =>
      match m.mc with
      | some g => (s.promoteMulticast k m g).getD s
      | none =>
        if 0 < SMap.get s.xbr.sentOff k 0 then s
        else if takeShared (s.kq q.val) m.ingots (s.sharedOf k) s.sharedFree then
          let s := s.dropResv k
          let s := s.setShared k (s.sharedOf k + m.ingots)
          s.setQueue k (s.queueOf k ++ [m])
        else s)

/-! ## Dispatch (R246 to R249) -/

/-- The message at the head of a flow, and whether it goes from the reservation (R241); a multicast message is not dispatched
before its promotion. -/
def State.headMsg (s : State) (k : Nat) : Option (Msg × Bool) :=
  match s.queueOf k with
  | m :: _ => some (m, false)
  | [] => match s.resvOf k with
    | m :: _ => if m.mc.isSome then none else some (m, true)
    | [] => none

/-- Flows with a message to dispatch. -/
def State.readyFlows (s : State) : List Nat :=
  sortNat ((s.xbr.queues.map Prod.fst) ++ (s.xbr.resv.map Prod.fst).filter (fun k => (s.headMsg k).isSome))

/-- Ingots an output holds or is being sent (R247). -/
def State.egressUse (s : State) (d : Nat) : Nat :=
  ((s.xbr.egress.filter (fun e => e.1 / 8 == d)).map (fun e => (e.2.map Msg.ingots).sum)).sum
    + (s.xbr.stored.filter (fun h => h.dest.val == d)).length + (s.xbr.retained.filter (fun g => g.hdr.dest.val == d)).length

/-- An output grants: a free ingot beyond the 16 kept for resent ones (R247). -/
def State.outputGrants (s : State) (d : Nat) : Bool := decide (s.egressUse d < 256 - 16)

/-- The flow that input `i` requests for output `d`: Q0, otherwise Q1, otherwise Q2 to Q7 in rotation. -/
def State.requestFlow (s : State) (fs : List Nat) (i d : Nat) : Option Nat :=
  let qs := (fs.filter (fun k => flowSrc k == i && flowDest k == d)).map flowQ
  let last := SMap.get s.xbr.rotQ (78 * i + d) 7
  let order := [0, 1] ++ (List.range 6).map (fun j => 2 + (last - 2 + 1 + j) % 6)
  (order.find? (fun q => qs.contains q)).map (fun q => flow i d q)

/-- The next of some numbers after `cur`, in rotation. -/
def rotNext (l : List Nat) (cur : Nat) : Nat :=
  let up := l.filter (fun x => cur < x)
  (if up.isEmpty then l else up).foldl min 0x1FFFF

/-- The grants of one iteration: every free output grants one request of the inputs that are free. -/
def State.grants (s : State) (fs : List Nat) (plane : Nat) (ins outs : List Nat) : List (Nat × Nat) :=
  outs.filterMap (fun d =>
    let rq := (ins.filterMap (fun i => s.requestFlow fs i d))
    let hi := rq.filter (fun k => flowQ k < 2)
    let cand := (if hi.isEmpty then rq else hi).map flowSrc
    if cand.isEmpty ∨ !s.outputGrants d then none
    else some (rotNext cand (SMap.get s.xbr.rotIn (78 * plane + d) 77), d))

/-- The accepts of one iteration: every input takes one of its grants in rotation. -/
def State.accepts (s : State) (plane : Nat) (gs : List (Nat × Nat)) : List (Nat × Nat) :=
  (sortNat (gs.map Prod.fst)).map (fun i =>
    (i, rotNext ((gs.filter (fun g => g.1 == i)).map Prod.snd) (SMap.get s.xbr.rotOut (78 * plane + i) 77)))

/-- The matching of one plane in one slot: two iterations (R247). -/
def State.matching (s : State) (fs : List Nat) (plane : Nat) : List (Nat × Nat) :=
  let ins := sortNat (fs.map flowSrc)
  let outs := sortNat (fs.map flowDest)
  let a := s.accepts plane (s.grants fs plane ins outs)
  let b := s.accepts plane (s.grants fs plane (ins.filter (fun i => !(a.map Prod.fst).contains i))
    (outs.filter (fun d => !(a.map Prod.snd).contains d)))
  a ++ b

/-- Valid bytes of the ingot at place `off` of a message: TLPs are packed; a message with a line holds its fields in the first
ingot and the line in the second (R238). -/
def Msg.ingotLen (m : Msg) (off : Nat) : Nat :=
  match m.body with
  | .tlp _ _ _ => min 64 (m.len - 64 * off)
  | _ => if m.ingots = 2 then (if off = 0 then min 64 (m.len - 64) else 64) else min 64 (m.len - 64 * off)

/-- The header of the next ingot of a flow's head message (R235, R248). -/
def State.nextHdr (s : State) (k : Nat) (m : Msg) : IngotHdr :=
  let off := SMap.get s.xbr.sentOff k 0
  { src := Fin.ofNat 78 (flowSrc k), dest := Fin.ofNat 78 (flowDest k), q := Fin.ofNat 8 (flowQ k),
    seq := BitVec.ofNat 16 (SMap.get s.xbr.nextSeq k 0), first := off == 0, last := off + 1 == m.ingots,
    len := m.ingotLen off, epoch := BitVec.ofNat 16 m.epoch, mc := m.mc.map (Fin.ofNat 65), crcOk := true, eccOk := true,
    dup := false }

/-- Dispatches the next ingot of a flow on a plane; the input retains it (R248, R249). -/
def State.dispatchIngot (s : State) (k plane : Nat) : State :=
  match s.headMsg k with
  | none => s
  | some (m, fromResv) =>
    let h := s.nextHdr k m
    let off := SMap.get s.xbr.sentOff k 0
    let s := s.modXbr (fun x =>
      { x with nextSeq := SMap.store x.nextSeq k ((SMap.get x.nextSeq k 0 + 1) % 65536) 0,
               sentOff := SMap.store x.sentOff k (if h.last then 0 else off + 1) 0,
               retained := x.retained ++ [{ hdr := h, plane := plane, resv := fromResv }],
               rotIn := SMap.put x.rotIn (78 * plane + flowDest k) (flowSrc k),
               rotOut := SMap.put x.rotOut (78 * plane + flowSrc k) (flowDest k),
               rotQ := if 2 ≤ flowQ k then SMap.put x.rotQ (78 * flowSrc k + flowDest k) (flowQ k) else x.rotQ })
    let s := if h.last then
        let s := s.modXbr (fun x => { x with inflight := SMap.put x.inflight k (SMap.get x.inflight k [] ++ [m]) })
        let s := if fromResv then s.setResv k (s.resvOf k).tail else s.setQueue k (s.queueOf k).tail
        s.noteHead k
      else s
    s.emit (.ingot h plane [])

/-- R246: one ingot slot on every active plane. -/
def execIngotSlot (s : State) : Host.Outcome State Fault Refusal :=
  .next (forEach s.activePlanes (fun p s =>
    let fs := s.readyFlows
    forEach (s.matching fs p) (fun (x : Nat × Nat) s =>
      match s.requestFlow fs x.1 x.2 with
      | some k => s.dispatchIngot k p
      | none => s) s) s)

/-! ## Resending and plane failure (R249 to R255) -/

/-- What an output sends when it ends the transmission of a TLP as nullified. -/
def Msg.nullOut (m : Msg) : List OutMsg :=
  match m.body with
  | .tlp p t _ => [.tlpNull p t]
  | _ => []

/-- What an output transmits for a message: data poison or EP where a payload error was met (R269). -/
def Msg.output (m : Msg) : OutMsg :=
  if m.perr then
    match m.body with
    | .tlp p t _ => .tlp p t true
    | .memFwd p r a => .memFwd p { r with poison := true } a
    | b => b
  else m.body

/-- The active plane after `p` in rotation, another one when there is one. -/
def State.otherPlane (s : State) (p : Nat) : Option Nat :=
  let l := s.activePlanes.filter (· ≠ p)
  if l.isEmpty then s.activePlanes.head? else some (rotNext l p)

/-- A retained ingot with this flow and SEQ. -/
def Ingot.is (g : Ingot) (k : Nat) (seq : BitVec 16) : Bool := flow g.hdr.src.val g.hdr.dest.val g.hdr.q.val == k && g.hdr.seq == seq

/-- R266: a TLP that its output transmits while it comes misses an ingot that is sent again: it ends as nullified. -/
def State.cutMissed (s : State) (k : Nat) : State :=
  match s.xbr.cuts.find? (fun c => c.flow == k && !c.nulled) with
  | none => s
  | some c =>
    let s := s.modXbr (fun x => { x with cuts := updFirst (fun y => y.flow == k) (fun y => { y with nulled := true }) x.cuts })
    (s.emits c.msg.nullOut).report 0x070A corrected 0 [byte c.msg.dest]

/-- Resends a retained ingot on another active plane under its own SEQ. -/
def State.resendIngot (s : State) (g : Ingot) : State :=
  match s.otherPlane g.plane with
  | none => s
  | some p =>
    let k := flow g.hdr.src.val g.hdr.dest.val g.hdr.q.val
    let s := s.cutMissed k
    let s := s.modXbr (fun x => { x with retained := updFirst (fun y => y.is k g.hdr.seq) (fun y => { y with plane := p }) x.retained })
    (s.bump Reg.XBR_CNT_RESEND 0).emit (.ingot g.hdr p [])

/-- Class of the failure that leaves `n` healthy planes (Table 5-4). -/
def planeClass (n : Nat) : Nat := if 3 ≤ n then corrected else contained

/-- A plane fails (R252 to R254): a spare quietly; an active one with its unacknowledged ingots resent; the last one is FATAL. -/
def State.failPlane (s : State) (p : Nat) : State :=
  if s.planeFailed p then s
  else
    let spare := s.sparePlane == some p
    let sent := s.xbr.retained.filter (fun g => g.plane == p)
    let s := s.set Reg.XBR_PLANE_STATUS_FAILED 0 (s.get Reg.XBR_PLANE_STATUS_FAILED + 2 ^ p)
    let s := s.modXbr (fun x => { x with probes := x.probes.filter (· ≠ p), hdrErrs := SMap.del x.hdrErrs p })
    let n := s.healthyPlanes
    let s := if n = 0 then s.report 0x0707 fatal 0 []
      else s.report (0x0700 + p) (if spare then corrected else planeClass n) 0 [byte p]
    forEach sent (fun g s => s.resendIngot g) s

/-- R249, R252: an acknowledgement did not come within ACK_TO: the ingot is resent and its plane probed. -/
def execIngotAckTimeout (src dest : Fin 78) (q : Fin 8) (seq : BitVec 16) (s : State) : Host.Outcome State Fault Refusal :=
  let k := flow src.val dest.val q.val
  .next (match s.xbr.retained.find? (fun g => g.is k seq) with
    | none => s
    | some g =>
      let s := s.resendIngot g
      if s.planeFailed g.plane ∨ s.xbr.probes.contains g.plane then s
      else (s.modXbr (fun x => { x with probes := x.probes ++ [g.plane] })).emit (.probe g.plane))

/-- R252: the probe of a plane was not acknowledged within 40 ns. -/
def execPlaneProbeTimeout (plane : Plane) (s : State) : Host.Outcome State Fault Refusal :=
  .next (if s.xbr.probes.contains plane.val then s.failPlane plane.val else s)

/-- R254: the spare's self-test. -/
def execSpareSelfTest (pass : Bool) (s : State) : Host.Outcome State Fault Refusal :=
  .next (match s.sparePlane with
    | some p => if pass then s else s.failPlane p
    | none => s)

/-! ## Outputs (R250, R251, R269, R270) -/

/-- An acknowledged ingot leaves its input: shared, headroom or reserved room returns. -/
def State.ackIngot (s : State) (g : Ingot) : State :=
  let src := g.hdr.src.val
  let k := flow src g.hdr.dest.val g.hdr.q.val
  let s := s.modXbr (fun x => { x with retained := delFirst (fun y => y.is k g.hdr.seq) x.retained })
  let h := 78 * (src - 64) + g.hdr.dest.val
  let hr := SMap.get s.xbr.headroom h 0
  let bi : Bool := decide (64 ≤ src ∧ src < 72 ∧ g.hdr.q.val = 0 ∧ 0 < hr)
  let s := if g.resv then s
    else if bi then s.modXbr (fun x => { x with headroom := SMap.store x.headroom h (hr - 1) 0 })
    else s.setShared k (s.sharedOf k - 1)
  s.creditCheck src

/-- The attachment transmits: a port whose link is up, a Seam bundle that is ACTIVE, any other unit. -/
def State.attUp (s : State) (d : Nat) : Bool :=
  if d < 64 then (s.port d).up
  else if 73 ≤ d ∧ d < 77 then s.streamUp (d - 73)
  else true

/-- Adds a message to the egress queue of its output. -/
def State.pushEgress (s : State) (m : Msg) : State :=
  let k := 8 * m.dest + m.q
  let q := SMap.get s.xbr.egress k []
  s.modXbr (fun x => { x with egress := SMap.put x.egress k (q ++ [m]), headAt := if q.isEmpty then SMap.put x.headAt k s.tick else x.headAt })

/-- Messages of a flow that its output has not released, in order. -/
def State.flowMsgs (s : State) (k : Nat) : List Msg := SMap.get s.xbr.inflight k [] ++ s.queueOf k ++ s.resvOf k

/-- Changes the `j`-th of them. -/
def State.modFlowMsg (s : State) (k j : Nat) (f : Msg → Msg) : State :=
  let a := (SMap.get s.xbr.inflight k []).length
  let b := (s.queueOf k).length
  if j < a then s.modXbr (fun x => { x with inflight := SMap.modify x.inflight k [] (fun l => l.modify j f) })
  else if j < a + b then s.setQueue k ((s.queueOf k).modify (j - a) f)
  else s.setResv k ((s.resvOf k).modify (j - a - b) f)

/-- The message at place `j` of a flow is discarded whole (R269): at once while no ingot of it is dispatched, by its output
otherwise. -/
def State.discardMsg (s : State) (k j : Nat) : State :=
  let a := (SMap.get s.xbr.inflight k []).length
  let b := (s.queueOf k).length
  if j < a ∨ (j = a ∧ 0 < SMap.get s.xbr.sentOff k 0) then s.modFlowMsg k j (fun m => { m with gone := true })
  else match (s.flowMsgs k)[j]? with
    | none => s
    | some m =>
      let s := if j < a + b then (s.setShared k (s.sharedOf k - m.ingots)).setQueue k ((s.queueOf k).eraseIdx (j - a))
        else (s.setResv k ((s.resvOf k).eraseIdx (j - a - b))).creditCheck m.src
      if m.mc.isNone ∨ j < a + b then s.postedDone m.src m.dest m.q else s

/-- The first ingot of a cut-through TLP is released: the TLP joins its egress queue while the rest comes (R264). -/
def State.beginCut (s : State) (k : Nat) : State :=
  match (s.flowMsgs k).head? with
  | none => s
  | some m =>
    if !m.ct then s
    else if s.attUp m.dest then s.pushEgress m
    else (s.bump Reg.XBR_DISC m.dest).postedDone m.src m.dest m.q

/-- The last ingot of a cut-through TLP is released: a TLP that waits is whole, or discarded; one in transmission ends, as nullified
when its tail was lost, and is sent again in full when it had been ended as nullified (R264 to R266). -/
def State.endCut (s : State) (k : Nat) (m : Msg) : State :=
  match s.xbr.cuts.find? (fun c => c.flow == k) with
  | some c =>
    let s := s.modXbr (fun x => { x with cuts := delFirst (fun y => y.flow == k) x.cuts })
    if m.gone then (if c.nulled then s else s.emits m.nullOut)
    else if c.nulled then (s.bump Reg.XBR_CNT_CT_REPLAY 0).emit m.output
    else s
  | none =>
    let e := 8 * m.dest + m.q
    let q := SMap.get s.xbr.egress e []
    let here := fun (y : Msg) => y.ct && y.src == m.src
    if !q.any here then s
    else if m.gone then (s.modXbr (fun x => { x with egress := SMap.store x.egress e (delFirst here q) [] })).postedDone m.src m.dest m.q
    else s.modXbr (fun x => { x with egress := SMap.put x.egress e (updFirst here (fun _ => { m with ct := false }) q) })

/-- The last ingot of a message is released: it joins its egress queue, or is discarded, at a port whose link is down (R270) or
because an error struck it (R269). -/
def State.releaseMsg (s : State) (k : Nat) : State :=
  match SMap.get s.xbr.inflight k [] with
  | [] => s
  | m :: rest =>
    let s := s.modXbr (fun x => { x with inflight := SMap.store x.inflight k rest [] })
    if m.ct then s.endCut k m
    else if m.gone then s.postedDone m.src m.dest m.q
    else if s.attUp m.dest then s.pushEgress m
    else (s.bump Reg.XBR_DISC m.dest).postedDone m.src m.dest m.q

/-- Releases the ingots of a flow in SEQ order, the stored ones behind a closed gap among them; `fuel` bounds them. -/
def State.releaseIngots (s : State) (k : Nat) : Nat → State
  | 0 => s
  | fuel + 1 =>
    let e := SMap.get s.xbr.expect k 0
    match s.xbr.stored.find? (fun h => flow h.src.val h.dest.val h.q.val == k && h.seq.toNat == e) with
    | none => s
    | some h =>
      let s := s.modXbr (fun x => { x with expect := SMap.store x.expect k ((e + 1) % 65536) 0, stored := delFirst (fun y => y == h) x.stored })
      let s := if h.first && !h.last then s.beginCut k else s
      let s := if h.last then s.releaseMsg k else s
      s.releaseIngots k fuel

/-- The SEQ has been released or is stored (R250). -/
def State.seqSeen (s : State) (k : Nat) (seq : BitVec 16) : Bool :=
  earlier seq.toNat (SMap.get s.xbr.expect k 0) || s.xbr.stored.any (fun h => flow h.src.val h.dest.val h.q.val == k && h.seq == seq)

/-- Marks a message of a flow: a payload error struck it (R269). -/
def State.markPayload (s : State) (k j : Nat) : State := s.modFlowMsg k j (fun m => { m with perr := true })

/-- The place of an ingot's message among the messages of its flow: behind those whose LAST is not released and comes before it. -/
def State.msgIndex (s : State) (k : Nat) (seq : BitVec 16) : Nat :=
  ((s.xbr.stored ++ s.xbr.retained.map Ingot.hdr).filter (fun h =>
    flow h.src.val h.dest.val h.q.val == k && h.last && earlier h.seq.toNat seq.toNat)).length

/-- An ingot of a message holds its line or a TLP's payload, not message fields only (R238, R269). -/
def Msg.holdsData (m : Msg) (h : IngotHdr) : Bool :=
  match m.body with
  | .tlp _ t _ => !t.data.isEmpty
  | _ => !h.first

/-- An uncorrectable error struck an ingot (R269): poison for a line or payload, else the message is discarded whole. -/
def State.ingotError (s : State) (k : Nat) (h : IngotHdr) : State :=
  let j := s.msgIndex k h.seq
  let s := if ((s.flowMsgs k)[j]?).any (fun m => m.holdsData h) then s.markPayload k j else s.discardMsg k j
  s.report 0x0708 contained 0 (leBytes 2 h.dest.val)

/-- R251: an output refuses an ingot whose header check fails; it is resent, and too many such errors fail the plane. -/
def State.badHeader (s : State) (k plane : Nat) (seq : BitVec 16) : State :=
  let now := (SMap.get s.xbr.hdrErrs plane []).filter (fun t => s.tick ≤ t + cyclesUs 1000)
  let s := (s.bump Reg.XBR_CNT_HDR_ERR 0).report 0x0709 corrected 0 [byte plane]
  let s := s.modXbr (fun x => { x with hdrErrs := SMap.put x.hdrErrs plane (now ++ [s.tick]) })
  let s := match s.xbr.retained.find? (fun r => r.is k seq) with
    | some r => s.resendIngot r
    | none => s
  if s.get Reg.XBR_CTL_HDR_ERR_LIM ≤ now.length + 1 then s.failPlane plane else s

/-- R250, R251, R269: an output takes an ingot: a header mismatch is refused and resent, a duplicate acknowledged and dropped,
the rest stored, acknowledged and released in order. -/
def execIngotReceive (dest : Fin 78) (plane : Plane) (g : IngotHdr) (_payload : Bytes) (s : State) :
    Host.Outcome State Fault Refusal :=
  let k := flow g.src.val g.dest.val g.q.val
  .next (if g.dest ≠ dest then s
    else if s.flt.hchkInject.contains plane.val then
      let s := { s with flt := { s.flt with hchkInject := delFirst (· == plane.val) s.flt.hchkInject } }
      s.asInjected (fun s => s.badHeader k plane.val g.seq)
    else if !g.crcOk then s.badHeader k plane.val g.seq
    else
      let s := s.modXbr (fun x => { x with probes := x.probes.filter (· ≠ plane.val) })
      if s.seqSeen k g.seq then
        (s.bump Reg.XBR_CNT_DUP 0).emit (.ingotAck g.src.val dest.val g.q.val g.seq.toNat true)
      else match s.xbr.retained.find? (fun r => r.is k g.seq) with
        | none => s
        | some r =>
          let s := if g.eccOk then s else s.ingotError k r.hdr
          let s := s.modXbr (fun x => { x with stored := x.stored ++ [r.hdr] })
          let s := (s.ackIngot r).emit (.ingotAck g.src.val dest.val g.q.val g.seq.toNat false)
          s.releaseIngots k (s.xbr.stored.length + 1))

/-! ## A lost tail (R265) -/

/-- R265: the ingress of flow `k` loses the rest of a cut-through TLP whose dispatch has begun: a terminating ingot with LAST and
NULL follows what was dispatched. -/
def State.cutTail (s : State) (k : Nat) : State :=
  match s.headMsg k with
  | none => s
  | some (m, fromResv) =>
    let off := SMap.get s.xbr.sentOff k 0
    if !m.ct ∨ off = 0 then s
    else
      let p := (s.activePlanes.head?).getD 0
      let h : IngotHdr := { s.nextHdr k m with last := true, len := 0 }
      let s := s.modXbr (fun x =>
        { x with nextSeq := SMap.store x.nextSeq k ((SMap.get x.nextSeq k 0 + 1) % 65536) 0, sentOff := SMap.store x.sentOff k 0 0,
                 retained := x.retained ++ [{ hdr := h, plane := p, resv := fromResv }],
                 inflight := SMap.put x.inflight k (SMap.get x.inflight k [] ++ [{ m with gone := true }]) })
      let s := if fromResv then s.setResv k (s.resvOf k).tail
        else (s.setQueue k (s.queueOf k).tail).setShared k (s.sharedOf k - (m.ingots - (off + 1)))
      (((s.noteHead k).bump Reg.XBR_CNT_NULL 0).emit (.ingot h p [])).report (0x0740 + m.src) contained 0 [byte m.src]

/-- The link of ingress port `p` goes down: the tails of its cut-through TLPs are lost. -/
def State.cutTails (s : State) (p : Nat) : State :=
  forEach (s.readyFlows.dedup.filter (fun k => flowSrc k == p)) (fun k s => s.cutTail k) s

/-! ## Headroom (R260, R261) -/

/-- R260: a waiting back-invalidate multicast of slice `i` is promoted, or draws all of its copies from headroom. -/
def execHeadroomGrant (i : Slice) (s : State) : Host.Outcome State Fault Refusal :=
  .next (match s.xbr.mcWaits.find? (fun w => w.slice == i.val) with
    | none => s
    | some w =>
      let gone := s.modXbr (fun x => { x with mcWaits := delFirst (fun y => y.slice == i.val) x.mcWaits })
      if s.allPass w.copies then forEach w.copies (fun m s => s.promote m) gone
      else if s.headroomFor i.val w.copies then forEach w.copies (fun m s => s.promote { m with hr := true }) gone
      else s)

/-! ## Resets (R270 to R272) -/

/-- Table 5-7: COLD, MODULE and WARM: the buffer freed, SEQ and counts 0, planes tested anew. -/
def State.xbrReset (s : State) : State :=
  { (s.set Reg.XBR_PLANE_STATUS_FAILED 0 0) with xbr := Xbr.reset }

/-! ## Commands (R274) -/

/-- XBR_INFO (0xC300). -/
def specXbrInfo : CmdSpec :=
  { opcode := 0xC300, priv := .observe, sub := 0x07, len := lenIs 0,
    run := fun _ _ s =>
      .done (leBytes 1 s.healthyPlanes ++ leBytes 1 (s.sparePlane.getD 7) ++ leBytes 1 (s.get Reg.XBR_PLANE_STATUS_FAILED)
        ++ leBytes 1 ((List.range 64).filter (fun g => mcValid (s.mcEntry g))).length ++ leBytes 4 (s.val Reg.XBR_BUF_STATUS_SHARED_FREE)
        ++ leBytes 4 (s.val Reg.XBR_HR_STATUS_FREE)) s }

/-- XBR_INFO: R274. -/
def execXbrInfo (h : Hdr) (p : Bytes) (s : State) : Host.Outcome State Fault Refusal := specXbrInfo.direct h p s

/-- XBR_MC_POLICY_SET (0xC301): commits POLICY for one group (R257). -/
def specXbrMcPolicySet : CmdSpec :=
  { opcode := 0xC301, priv := .operate, sub := 0x07, len := lenIs 2,
    check := fun _ p _ => firstBad [need (p8 p 0 < 64) 0, need (p8 p 1 < 2) 1],
    run := fun _ p s =>
      let g := p8 p 0
      let b := fieldAt (s.mcEntry g) 8 1
      .waits (.modCommit s.tbl.nextMod)
        (s.moduleCommit 0 [(0x0701, 16 * g + 8, leBytes 1 (putBit b 1 (p8 p 1 == 1)))] [] .nothing) }

/-- XBR_MC_POLICY_SET: R257. -/
def execXbrMcPolicySet (h : Hdr) (p : Bytes) (s : State) : Host.Outcome State Fault Refusal := specXbrMcPolicySet.direct h p s

/-- XBR_PLANE_RETIRE (0xC302): the spare takes the plane's slot; the plane stays retired until the next start. -/
def specXbrPlaneRetire : CmdSpec :=
  { opcode := 0xC302, priv := .admin, sub := 0x07, len := lenIs 1,
    check := fun _ p s => firstBad [need (p8 p 0 < 5 && s.activePlanes.contains (p8 p 0)) 0],
    run := fun _ p s =>
      match s.sparePlane, (List.range 4).find? (fun j => s.planeSlot j == some (p8 p 0)) with
      | some sp, some j =>
        let s := s.set Reg.XBR_PLANE_STATUS_FAILED 0 (s.get Reg.XBR_PLANE_STATUS_FAILED + 2 ^ p8 p 0)
        .waits (.modCommit s.tbl.nextMod) (s.moduleCommit 0 [(0x0700, j, leBytes 1 (0x80 + sp))] [] .nothing)
      | _, _ => .fail stConflict }

/-- XBR_PLANE_RETIRE: R274. -/
def execXbrPlaneRetire (h : Hdr) (p : Bytes) (s : State) : Host.Outcome State Fault Refusal := specXbrPlaneRetire.direct h p s

/-- XBR_STATS (0xC303). -/
def specXbrStats : CmdSpec :=
  { opcode := 0xC303, priv := .observe, sub := 0x07, len := lenIs 0,
    run := fun _ _ s =>
      .done ((List.range 6).map (fun i => leBytes 4 (s.word (0x07000120 + 4 * i))) |>.flatten |> (· ++ s.words 0x07000200 64
        ++ s.words 0x07000300 64)) s }

/-- XBR_STATS: R274. -/
def execXbrStats (h : Hdr) (p : Bytes) (s : State) : Host.Outcome State Fault Refusal := specXbrStats.direct h p s

end Sys2Proof.Machine
end

