-- ==== Sys2Proof/Machine/VaultBase.lean ====
section
/-! DEFINITION. Where the vault's pages lie: physical pages, channels, regions, code strengths, the remap table and its targets (R412 to
R418, R436 to R442). -/

namespace Sys2Proof.Machine

/-- Changes the vault. -/
def State.modVlt (s : State) (f : Vlt → Vlt) : State := { s with vlt := f s.vlt }

/-- Logical pages of the vault (R413). -/
def logicalPages : Nat := 11724312

/-- The physical page of a logical page that is not remapped (R413). -/
def physDefault (n : Nat) : Nat := n + n / 99 + 1

/-- Bytes of a channel: 1.5 GiB. -/
def channelBytes : Nat := 1610612736

/-- The channels that hold a byte of physical page `p` (R412). -/
def pageChannels (p : Nat) : List Nat := [p * 2176 / channelBytes, (p * 2176 + 2175) / channelBytes].dedup

/-- The regions of Table 10-1: ID, first logical page, pages, and the region that holds its other copy. -/
def vaultRegions : List (Nat × Nat × Nat × Option Nat) :=
  [(1, 0, 1048576, some 2), (3, 1048576, 65536, some 4), (5, 1114112, 32768, some 6), (7, 1146880, 4194304, none),
   (11, 5341184, 131072, none), (2, 5922816, 1048576, some 1), (4, 6971392, 65536, some 3), (6, 7036928, 32768, some 5),
   (8, 7069696, 2097152, none), (9, 9166848, 524288, none), (10, 9691136, 524288, none)]

/-- The region that contains a logical page; none for an unallocated one. -/
def regionOf (n : Nat) : Option (Nat × Nat × Nat × Option Nat) := vaultRegions.find? (fun r => r.2.1 ≤ n && n < r.2.1 + r.2.2.1)

/-- The region ID of a logical page, 0 where it is unallocated (Table 10-1). -/
def regionId (n : Nat) : Nat := ((regionOf n).map Prod.fst).getD 0

/-- The page of the other copy of a mirrored region (R414, R415). -/
def otherCopy (n : Nat) : Option Nat :=
  match regionOf n with
  | some (_, base, _, some o) => (vaultRegions.find? (fun r => r.1 == o)).map (fun r => r.2.1 + (n - base))
  | _ => none

/-- t of a strength code (Table 10-3). -/
def strengthT (c : Nat) : Nat := [8, 16, 24, 32, 48, 64].getD c 8

/-- The strength in force for a logical page (R449, R451). -/
def State.pageStrength (s : State) (n : Nat) : Nat := s.vlt.strengths.getD (regionId n) 0

/-- Channel `c` is retired: one of its pseudo-channels has failed (R440). -/
def State.channelFailed (s : State) (c : Nat) : Bool := bitsOf (s.get Reg.VLT_PC_FAILED) (2 * c) 2 != 0

/-- The newest remap entry of a logical page. -/
def State.remapOf (s : State) (n : Nat) : Option (Nat × Bool) :=
  (s.vlt.remaps.find? (fun (r : Nat × Nat × Bool) => r.1 == n)).map Prod.snd

/-- The physical page of a logical page. -/
def State.physOf (s : State) (n : Nat) : Nat :=
  match s.remapOf n with
  | some r => r.1
  | none => physDefault n

/-- The page lies on a retired channel. -/
def State.onFailed (s : State) (n : Nat) : Bool := (pageChannels (s.physOf n)).any s.channelFailed

/-- The page's contents are lost: its remap entry says so, it is to be retired with its contents lost, or its channel has failed and
it has not been formed again (R437, R441). -/
def State.pageLost (s : State) (n : Nat) : Bool :=
  ((s.remapOf n).map Prod.snd).getD false || s.vlt.due.contains (n, true) || s.onFailed n

/-- A physical page may take a retired page: unused, on no failed channel, and not on a channel of the other copy (R415, R436). -/
def State.targetFree (s : State) (n p : Nat) : Bool :=
  let cs := pageChannels p
  let mate := ((otherCopy n).map (fun m => pageChannels (s.physOf m))).getD []
  !(s.vlt.remaps.any (fun r => r.2.1 == p)) && !cs.any s.channelFailed && !cs.any (fun c => mate.contains c)

/-- The first of `k` numbers from `a` on that `f` accepts. -/
def firstFrom (f : Nat → Bool) : Nat → Nat → Option Nat
  | 0, _ => none
  | k + 1, a => if f a then some a else firstFrom f k (a + 1)

/-- Reserve pages: every physical page whose number is a multiple of 100 (R413). -/
def reservePages : Nat := 118428

/-- The remap table has no entry left for a page that holds none (R438). -/
def State.remapFull (s : State) (n : Nat) : Bool :=
  (s.remapOf n).isNone && decide (1048576 ≤ (s.vlt.remaps.map Prod.fst).dedup.length)

/-- The target of a retirement in the order of R436, the lowest page of each kind; none in a full remap table (R438). -/
def State.retireTarget (s : State) (n : Nat) : Option Nat :=
  if s.remapFull n then none else
  let c := (s.physOf n) * 2176 / channelBytes
  let lo := c * channelBytes / 217600
  let same := firstFrom (fun j => j < reservePages && (pageChannels (100 * j)).contains c && s.targetFree n (100 * j)) 7403 lo
  match same with
  | some j => some (100 * j)
  | none =>
    match firstFrom (fun j => s.targetFree n (100 * j)) reservePages 0 with
    | some j => some (100 * j)
    | none =>
      match firstFrom (fun m => s.targetFree n (physDefault m)) 450560 5472256 with
      | some m => some (physDefault m)
      | none => (firstFrom (fun m => s.targetFree n (physDefault m)) 1508888 10215424).map physDefault

/-- RESERVE_FREE and UNALLOC_FREE (Table 10-8). -/
def State.showReserve (s : State) : State :=
  let res := (s.vlt.remaps.filter (fun r => r.2.1 % 100 == 0)).length
  (s.set Reg.VLT_STATUS_RESERVE_FREE 0 (reservePages - res)).set Reg.VLT_UNALLOC_FREE 0 (1959448 - (s.vlt.remaps.length - res))

end Sys2Proof.Machine
end

