-- ==== Sys2Proof/Machine/Sched.lean ====
section
/-! DEFINITION. Scheduling, shaping and telemetry: which message leaves an egress point next, token buckets, samples, records
(R277 to R306). -/

namespace Sys2Proof.Machine

/-- Changes the scheduler. -/
def State.modSch (s : State) (f : Sch → Sch) : State := { s with sch := f s.sch }

/-! ## Settings and rates -/

/-- The egress service entry of queue `q` of egress point `e`, at that point's epoch (R299, R293). -/
def State.schEntry (s : State) (e q : Nat) : Bytes :=
  let st := if e < 64 then s.stampOf (.egress (Fin.ofNat 64 e)) else s.tbl.epoch
  s.lookup 0x0800 st (0x80 * e + 0x10 * q) 16

/-- Attachment of an egress point (R277). -/
def egressAtt (e : Nat) : Nat := if e < 64 then e else seamAtt (e - 64)

/-- Ten times the transfer rate in GT/s of a rate code (Table 8-8). -/
def gtTenths (code : Nat) : Nat := [25, 50, 80, 160, 320, 640].getD code 0

/-- Port rate of an egress point in units of 10 MB/s (R278): width × transfer rate ÷ 8; 99.3 GB/s of a Seam bundle, shared by the streams it carries (R394). -/
def State.portRate (s : State) (e : Nat) : Nat :=
  if e < 64 then s.get Reg.LNC_PORT_STATUS_WIDTH e * gtTenths (s.get Reg.LNC_PORT_STATUS_RATE e) * 5 / 4
  else 9929 / max 1 (match (s.stream (e - 64)).onBundle with
    | some b => (s.carried b).length
    | none => 1)

/-- A bucket's tokens: full when nothing is noted, and never above the present burst (Table 6-3). -/
def bucket (m : SMap Int) (k : Nat) (full : Int) : Int := min (SMap.get m k full) full

/-- Full burst of a shaper, tenths of a byte. -/
def shapeFull (b : Bytes) : Int := 10 * fieldAt b 8 4
/-- Full burst of a guard bucket. -/
def guardFull (b : Bytes) : Int := 10 * fieldAt b 12 4

/-- Messages of an egress queue. -/
def State.egressOf (s : State) (e q : Nat) : List Msg := SMap.get s.xbr.egress (8 * egressAtt e + q) []

/-- L of a message on queue `q` of egress point `e` (R281). -/
def State.chargeLen (s : State) (e q : Nat) (m : Msg) : Nat := m.len + fieldAt (s.schEntry e q) 1 1

/-- The head is held behind posted messages of its source (R268). -/
def State.barred (s : State) (m : Msg) : Bool :=
  match m.pbar with
  | none => false
  | some n => earlier (SMap.get s.xbr.postedOut (78 * m.src + m.dest) 0) n

/-- A queue is eligible (R278): a released head that no barrier holds, at an output that transmits, its shaper positive. -/
def State.eligible (s : State) (e q : Nat) : Bool :=
  match s.egressOf e q with
  | [] => false
  | m :: _ =>
    let b := s.schEntry e q
    !s.barred m && s.attUp (egressAtt e)
      && (!bitOf (fieldAt b 2 1) 0 || decide (0 < bucket s.sch.shaper (8 * e + q) (shapeFull b)))

/-- The guard bucket of Q0 or Q1 is positive (R280). -/
def State.guardOk (s : State) (e q : Nat) : Bool :=
  decide (0 < bucket s.sch.guard (8 * e + q) (guardFull (s.schEntry e q)))

/-! ## The choice of the next message (R279, R283, R284) -/

/-- Deficit of a queue. -/
def State.deficit (s : State) (e q : Nat) : Nat := SMap.get s.sch.deficits (8 * e + q) 0

/-- Stores a queue's deficit. -/
def State.setDeficit (s : State) (e q v : Nat) : State :=
  s.modSch (fun x => { x with deficits := SMap.store x.deficits (8 * e + q) v 0 })

/-- Goes round Q2 to Q7 until a head fits its queue's deficit: the queue in service first, each eligible queue gaining its quantum
when the round reaches it (R283). `fuel` bounds the rounds. -/
def State.dwrr (s : State) (e : Nat) : Nat → Nat → State × Option Nat
  | 0, _ => (s, none)
  | fuel + 1, c =>
    let fits : Bool := match s.egressOf e c with
      | m :: _ => s.eligible e c && decide (s.chargeLen e c m ≤ s.deficit e c)
      | [] => false
    if 2 ≤ c ∧ fits then (s.modSch (fun x => { x with rotor := SMap.put x.rotor e c }), some c)
    else
      let s := if (s.egressOf e c).isEmpty then s.setDeficit e c 0 else s
      let n := if c < 2 ∨ 7 ≤ c then 2 else c + 1
      let s := if s.eligible e n then s.setDeficit e n (s.deficit e n + 64 * fieldAt (s.schEntry e n) 0 1) else s
      s.dwrr e fuel n

/-- The queue that R279 chooses, with the round's state. -/
def State.chooseQueue (s : State) (e : Nat) : State × Option Nat :=
  if s.eligible e 0 && s.guardOk e 0 then (s, some 0)
  else if s.eligible e 1 && s.guardOk e 1 then (s, some 1)
  else if [2, 3, 4, 5, 6, 7].any (s.eligible e) then s.dwrr e 500 (SMap.get s.sch.rotor e 0)
  else if s.eligible e 0 && bitOf (fieldAt (s.schEntry e 0) 2 1) 1 then (s, some 0)
  else if s.eligible e 1 && bitOf (fieldAt (s.schEntry e 1) 2 1) 1 then (s, some 1)
  else (s, none)

/-- Transmits the head of queue `q` of egress point `e` and charges its length; a cut-through TLP of which ingots are still to
come stays noted (R264). -/
def State.transmit (s : State) (e q : Nat) (m : Msg) : State :=
  let l := s.chargeLen e q m
  let b := s.schEntry e q
  let k := 8 * egressAtt e + q
  let rest := (s.egressOf e q).tail
  let s := if e < 64 then s.wake e else s
  let s := s.modXbr (fun x =>
    { x with egress := SMap.store x.egress k rest [], headAt := SMap.put x.headAt k s.tick,
             cuts := if m.ct then x.cuts ++ [{ flow := flow m.src m.dest m.q, msg := m, nulled := false }] else x.cuts })
  let s := s.postedDone m.src m.dest q
  let shape := bitOf (fieldAt b 2 1) 0
  let s := s.modSch (fun x =>
    { x with shaper := if shape then SMap.put x.shaper (8 * e + q) (chargeBucket (bucket x.shaper (8 * e + q) (shapeFull b)) (shapeFull b) l)
               else x.shaper,
             guard := if q < 2 then SMap.put x.guard (8 * e + q) (chargeBucket (bucket x.guard (8 * e + q) (guardFull b)) (guardFull b) l)
               else x.guard,
             charged := SMap.put x.charged (8 * e + q) (SMap.get x.charged (8 * e + q) 0 + l) })
  let s := if 2 ≤ q then s.setDeficit e q (if rest.isEmpty then 0 else s.deficit e q - l) else s
  s.emit m.output
where
  /-- R285: a charge takes ten times the length, not below minus the burst. -/
  chargeBucket (tokens full : Int) (l : Nat) : Int := max (tokens - 10 * l) (-full)

/-- R279: egress point `e` begins its next message. -/
def execEgressSelect (e : Fin 68) (s : State) : Host.Outcome State Fault Refusal :=
  let x := s.chooseQueue e.val
  .next (match x.2 with
    | none => x.1
    | some q =>
      match x.1.egressOf e.val q with
      | m :: _ => x.1.transmit e.val q m
      | [] => x.1)

/-! ## Token buckets (R285, R287) -/

/-- One bucket's refill; a full bucket is not noted. -/
def refillBucket (full : Int) (rate : Nat) (t : Int) : Option Int := let n := t + rate; if full ≤ n then none else some n

/-- Refills the buckets of a map. -/
def refillAll (full : Nat → Int) (rate : Nat → Nat) (m : SMap Int) : SMap Int :=
  m.filterMap (fun (x : Nat × Int) => (refillBucket (full x.1) (rate x.1) x.2).map (fun n => (x.1, n)))

/-- R285: every 10 ns each bucket gains its rate, in units of 10 MB/s, up to its burst; a shaper that is not enabled starts full
when it is (Table 6-3). -/
def execTokenRefill (s : State) : Host.Outcome State Fault Refusal :=
  let ent := fun (k : Nat) => s.schEntry (k / 8) (k % 8)
  let pol := fun (ld : Nat) => s.active 0x0800 (0x80000 + 16 * ld) 16
  .next (s.modSch (fun x =>
    { x with shaper := refillAll (fun k => shapeFull (ent k)) (fun k => fieldAt (ent k) 4 4)
               (x.shaper.filter (fun (k : Nat × Int) => bitOf (fieldAt (ent k.1) 2 1) 0)),
             guard := refillAll (fun k => guardFull (ent k)) (fun k => fieldAt (ent k) 3 1 * s.portRate (k / 8) / 100) x.guard,
             policer := refillAll (fun k => 10 * fieldAt (pol k) 8 4) (fun k => fieldAt (pol k) 4 4) x.policer }))

/-- An egress point's link comes up: its buckets, and the policers of a USP's LDs, are full (R287). -/
def State.fillBuckets (s : State) (e : Nat) : State :=
  s.modSch (fun x =>
    { x with shaper := x.shaper.filter (fun k => k.1 / 8 != e), guard := x.guard.filter (fun k => k.1 / 8 != e),
             policer := x.policer.filter (fun k => k.1 / 16 != e) })

/-- An egress point's link goes down: deficits 0 (Table 6-3). -/
def State.schLinkDown (s : State) (e : Nat) : State :=
  s.modSch (fun x => { x with deficits := x.deficits.filter (fun k => k.1 / 8 != e), rotor := SMap.del x.rotor e })

/-! ## Telemetry (R294 to R298) -/

/-- Bin of a head delay in ns (Table 6-4). -/
def delayBin (ns : Nat) : Nat :=
  if ns < 64 then 0 else ((List.range 14).find? (fun i => ns < 2 ^ (i + 7))).map (· + 1) |>.getD 15

/-- Bin of a depth in ingots. -/
def depthBin (n : Nat) : Nat := if n = 0 then 0 else ((List.range 14).find? (fun i => n < 2 ^ (i + 1))).map (· + 1) |>.getD 15

/-- Input flows toward queue `q` of egress point `e` that hold a message. -/
def State.flowsTo (s : State) (e q : Nat) : List Nat :=
  sortNat (((s.xbr.resv.map Prod.fst) ++ (s.xbr.queues.map Prod.fst)).filter (fun k => flowDest k == egressAtt e && flowQ k == q))

/-- Depth of an egress queue (R294). -/
def State.queueDepth (s : State) (e q : Nat) : Nat :=
  ((s.flowsTo e q).map (fun k => ((s.resvOf k ++ s.queueOf k).map Msg.ingots).sum)).sum + ((s.egressOf e q).map Msg.ingots).sum

/-- Head delay of an egress queue in ns (R294). -/
def State.headDelay (s : State) (e q : Nat) : Nat :=
  let age := fun (t : Nat) => (s.tick - t) * 5 / 4
  let out := if (s.egressOf e q).isEmpty then 0 else age (SMap.get s.xbr.headAt (8 * egressAtt e + q) s.tick)
  ((s.flowsTo e q).map (fun k => age (SMap.get s.xbr.headIn k s.tick))).foldl max out

/-- Egress queues that hold a message. -/
def State.busyQueues (s : State) : List Nat :=
  (List.range 544).filter (fun k => 0 < s.queueDepth (k / 8) (k % 8))

/-- Counts a sample of one egress queue; an idle queue's counts are those of bin 0, which follow from the number of samples. -/
def State.sampleQueue (s : State) (k : Nat) : State :=
  let n := s.queueDepth (k / 8) (k % 8)
  let d := s.headDelay (k / 8) (k % 8)
  let add := fun (m : SMap Nat) (kind b : Nat) => if b = 0 then m else
    let j := (2 * k + kind) * 16 + b
    SMap.put m j (min (2 ^ 32 - 1) (SMap.get m j 0 + 1))
  s.modSch (fun x =>
    { x with hist := add (add x.hist 0 (delayBin d)) 1 (depthBin n),
             maxDepth := SMap.store x.maxDepth k (max n (SMap.get x.maxDepth k 0)) 0,
             maxDelay := SMap.store x.maxDelay k (min (2 ^ 32 - 1) (max d (SMap.get x.maxDelay k 0))) 0 })

/-- R298: counts consecutive samples above the alert level; at COUNT an event, one an interval for an egress point. -/
def State.alertQueue (s : State) (k : Nat) : State :=
  let d := s.headDelay (k / 8) (k % 8)
  let th := s.get Reg.SCH_LAT_ALERT_THRESH_US * 1000
  if th = 0 then s
  else if d ≤ th then s.modSch (fun x => { x with alert := SMap.del x.alert k })
  else
    let n := SMap.get s.sch.alert k 0 + 1
    let s := s.modSch (fun x => { x with alert := SMap.put x.alert k n })
    if n < s.get Reg.SCH_LAT_ALERT_COUNT ∨ s.sch.alerted.contains (k / 8) then s
    else (s.modSch (fun x => { x with alerted := x.alerted ++ [k / 8] })).report (0x0880 + k / 8) corrected 0 [byte (k / 8)]
      (leBytes 1 (k % 8) ++ leBytes 4 d)

/-- R294: a sample of every egress queue. -/
def execTelemetrySample (s : State) : Host.Outcome State Fault Refusal :=
  .next (if !s.flag Reg.SCH_CTL_TELEM_EN then s else
    let busy := s.busyQueues
    let s := s.modSch (fun x => { x with samples := x.samples + 1, alert := x.alert.filter (fun a => busy.contains a.1) })
    forEach busy (fun k s => (s.sampleQueue k).alertQueue k) s)

/-- The 144-byte entry of an egress queue in a record (Table 6-5). -/
def State.telemEntry (s : State) (k : Nat) : Bytes :=
  let bins := fun (kind : Nat) =>
    let hi := (List.range 15).map (fun b => SMap.get s.sch.hist ((2 * k + kind) * 16 + b + 1) 0)
    ((min (2 ^ 32 - 1) (s.sch.samples - hi.sum)) :: hi).map (leBytes 4) |>.flatten
  bins 0 ++ bins 1 ++ leBytes 4 (SMap.get s.sch.maxDepth k 0) ++ leBytes 4 (SMap.get s.sch.maxDelay k 0)
    ++ leBytes 8 (SMap.get s.sch.charged k 0)

/-- The entry of a queue that was idle throughout an interval of `n` samples. -/
def idleEntry (n : Nat) : Bytes :=
  leBytes 4 (min (2 ^ 32 - 1) n) ++ List.replicate 60 0 ++ leBytes 4 (min (2 ^ 32 - 1) n) ++ List.replicate 76 0

/-- Egress queues with anything noted in the interval. -/
def Sch.noted (x : Sch) : List Nat :=
  sortNat (x.hist.map (fun h => h.1 / 32) ++ x.maxDepth.map Prod.fst ++ x.charged.map Prod.fst)

/-- Clears the interval's histograms, maxima and byte counts. -/
def Sch.clearInterval (x : Sch) : Sch := { x with hist := [], maxDepth := [], maxDelay := [], charged := [], samples := 0 }

/-- Records the archive holds (R296). -/
def archiveRecords : Nat := 13701

/-- R295 to R297: the interval closes; its record is written, or dropped with GAP when the vault cannot take it. -/
def execTelemetryExportInterval (vaultOk : Bool) (s : State) : Host.Outcome State Fault Refusal :=
  .next (if !s.flag Reg.SCH_CTL_TELEM_EN then s else
    let x := s.sch
    let r : TelemRec :=
      { seq := x.nextRec, samples := x.samples,
        head := s.now ++ leBytes 1 s.quality ++ leBytes 1 (b2n x.gap + 2 * b2n x.cleared) ++ leBytes 2 68 ++ leBytes 4 x.nextRec
          ++ leBytes 4 x.samples ++ leBytes 2 s.tbl.epoch ++ List.replicate 6 0,
        entries := x.noted.map (fun k => (k, s.telemEntry k)) }
    let y := { x.clearInterval with cleared := false, alerted := [] }
    if vaultOk then
      let s := s.set Reg.SCH_TELEM_STATUS_SEQ 0 x.nextRec
      let s := if archiveRecords ≤ x.archive.length then s.setFlag Reg.SCH_TELEM_STATUS_WRAPPED 0 true else s
      { s with sch := { y with archive := (r :: x.archive).take archiveRecords, nextRec := (x.nextRec + 1) % 2 ^ 32, gap := false } }
    else { (s.setFlag Reg.SCH_TELEM_STATUS_GAP 0 true) with sch := { y with gap := true } })

/-- Length of a record (Table 6-5). -/
def telemLen : Nat := 78368

/-- `n` bytes of a record from `off`. -/
def TelemRec.bytes (r : TelemRec) (off n : Nat) : Bytes :=
  (List.range n).map (fun i =>
    let a := off + i
    if a < 32 then r.head.getD a 0
    else (SMap.get r.entries ((a - 32) / 144) (idleEntry r.samples)).getD ((a - 32) % 144) 0)

/-- A record of the archive. -/
def State.telemRec (s : State) (seq : Nat) : Option TelemRec := s.sch.archive.find? (fun r => r.seq == seq)

/-- A vault page that holds bytes of a record is lost: region 9, records in ring order (Table 10-2). -/
def State.telemLost (s : State) (seq off n : Nat) : Bool :=
  let a := seq % archiveRecords * telemLen + off
  (List.range (n / 2048 + 2)).any (fun j =>
    let pg := 9166848 + a / 2048 + j
    decide (pg ≤ 9166848 + (a + n - 1) / 2048) && s.pageLost pg)

/-- Table 6-3, R302: COLD, MODULE and WARM clear the scheduler; a WARM start keeps the archive. -/
def State.schReset (s : State) (warm : Bool) : State :=
  { s with sch := { Sch.reset with archive := if warm then s.sch.archive else [] } }

/-! ## Commands (R303) -/

/-- SCH_INFO (0xC310). -/
def specSchInfo : CmdSpec :=
  { opcode := 0xC310, priv := .observe, sub := 0x08, len := lenIs 0,
    run := fun _ _ s =>
      .done (leBytes 4 ((s.sch.archive.getLast?.map TelemRec.seq).getD 0) ++ leBytes 4 ((s.sch.archive.head?.map TelemRec.seq).getD 0)
        ++ ((List.range 68).map (fun e => leBytes 4 (s.portRate e) ++ leBytes 1 (maskOf ((List.range 8).filter (s.eligible e)))
          ++ leBytes 1 (maskOf ((List.range 8).filter (fun q => !(s.egressOf e q).isEmpty))) ++ [0, 0])).flatten) s }

/-- SCH_INFO: R303. -/
def execSchInfo (h : Hdr) (p : Bytes) (s : State) : Host.Outcome State Fault Refusal := specSchInfo.direct h p s

/-- SCH_TELEM_READ (0xC311). -/
def specSchTelemRead : CmdSpec :=
  { opcode := 0xC311, priv := .observe, sub := 0x08, len := lenIs 12,
    check := fun _ p s => firstBad [need (s.telemRec (p32 p 0)).isSome 0, need (p32 p 4 < telemLen) 4,
      need (1 ≤ p32 p 8 && p32 p 8 ≤ 4064 && p32 p 4 + p32 p 8 ≤ telemLen) 8],
    run := fun _ p s =>
      match s.telemRec (p32 p 0) with
      | none => .fail stConflict
      | some r =>
        if s.telemLost r.seq (p32 p 4) (p32 p 8) then .failed stHwFault (s.report 0x08F0 contained 0 (leBytes 4 r.seq))
        else .done (r.bytes (p32 p 4) (p32 p 8)) s }

/-- SCH_TELEM_READ: R297, R304. -/
def execSchTelemRead (h : Hdr) (p : Bytes) (s : State) : Host.Outcome State Fault Refusal := specSchTelemRead.direct h p s

/-- SCH_TELEM_EXPORT (0xC312): records by bus-master writes through the management PF. -/
def specSchTelemExport : CmdSpec :=
  { opcode := 0xC312, priv := .operate, sub := 0x08, len := lenIs 16,
    check := fun _ p s => firstBad [need (s.telemRec (p32 p 0)).isSome 0,
      need (1 ≤ p32 p 4 && (List.range (p32 p 4)).all (fun i => i < archiveRecords && (s.telemRec (p32 p 0 + i)).isSome)) 4,
      need (p64 p 8 % 4096 == 0) 8],
    run := fun _ p s =>
      match s.mgmtUsp with
      | none => .fail stConflict
      | some u =>
        let rs := (List.range (p32 p 4)).filterMap (fun i => s.telemRec (p32 p 0 + i))
        let bad := rs.find? (fun r => s.telemLost r.seq 0 telemLen)
        match bad with
        | some r => .finished (s.report 0x08F0 contained 0 (leBytes 4 r.seq)) stHwFault []
        | none =>
          .finished (forEach rs.zipIdx (fun (x : TelemRec × Nat) s =>
            s.emit (.hostWrite u 0x8000 (p64 p 8 + telemLen * x.2) (x.1.bytes 0 telemLen))) s) stSuccess (leBytes 4 rs.length) }

/-- SCH_TELEM_EXPORT: R297. -/
def execSchTelemExport (h : Hdr) (p : Bytes) (s : State) : Host.Outcome State Fault Refusal := specSchTelemExport.direct h p s

/-- SCH_TELEM_CLEAR (0xC313). -/
def specSchTelemClear : CmdSpec :=
  { opcode := 0xC313, priv := .operate, sub := 0x08, len := lenIs 0,
    run := fun _ _ s => .done [] (s.modSch (fun x => { x.clearInterval with cleared := true })) }

/-- SCH_TELEM_CLEAR: R303. -/
def execSchTelemClear (h : Hdr) (p : Bytes) (s : State) : Host.Outcome State Fault Refusal := specSchTelemClear.direct h p s

/-- SCH_HOLD_READ (0xC314). -/
def specSchHoldRead : CmdSpec :=
  { opcode := 0xC314, priv := .observe, sub := 0x08, len := lenIs 1, objects := fun p _ => [p8 p 0],
    check := fun _ p s => firstBad [need (s.isUsp (p8 p 0)) 0],
    run := fun _ p s =>
      let u := p8 p 0
      .done (((List.range 16).map (fun k =>
        let full : Int := 10 * fieldAt (s.active 0x0800 (0x80000 + 16 * (16 * u + k)) 16) 8 4
        leBytes 2 ((SMap.get s.sch.holds u []).filter (fun h => h.ld == 16 * u + k)).length
          ++ leBytes 4 (unsignedOf 32 (bucket s.sch.policer (16 * u + k) full)) ++ [0, 0])).flatten) s }

/-- SCH_HOLD_READ: R303. -/
def execSchHoldRead (h : Hdr) (p : Bytes) (s : State) : Host.Outcome State Fault Refusal := specSchHoldRead.direct h p s

end Sys2Proof.Machine
end

