-- ==== Sys2Proof/Machine/LinkBase.lean ====
section
/-! DEFINITION. What a link going down or coming up does to the rest of the module: training, lanes returning to service, the
PORT reset of a VCS, a POOL device lost, outstanding requests completed, containment (R75, R163, R223, R270, R331, R333, R360,
R364, R373). -/

namespace Sys2Proof.Machine

/-! ## Bindings -/

/-- Keys 32u + v of the bindable vPPBs bound to port `p`, with the LD of an MLD. -/
def State.bindsTo (s : State) (p : Nat) : List (Nat × Option Nat) :=
  (s.prt.binds.filter (fun b => b.2.port == p)).map (fun b => (b.1, b.2.ldId))

/-- The vPPB that an SLD or PCIe device behind port `p` is bound to. -/
def State.soleBind (s : State) (p : Nat) : Option Nat :=
  ((s.bindsTo p).find? (fun b => b.2.isNone)).map Prod.fst

/-- The slot channel bound to port `p` (R652). -/
def State.chanOf (s : State) (p : Nat) : Option Nat := (List.range 16).find? (fun n => s.get Reg.SPC_CH_CFG_PORT n == p)

/-! ## Multicast membership (R257, R334) -/

/-- MC_Enable and MC_Receive of a function. -/
def State.mcOf (s : State) (u : Nat) (f : McFn) : Bool × Nat :=
  (bitOf (s.cfgRead u (mcTarget f) (mcCap f + 6) 2) 15, s.cfgRead u (mcTarget f) (mcCap f + 0x10) 8)

/-- Ports of VCS `u` that receive its local group `g`. -/
def State.localMembers (s : State) (u g : Nat) : List Nat :=
  let on := fun (f : McFn) => (s.mcOf u f).1 && bitOf (s.mcOf u f).2 g
  (if on .usp then [u] else []) ++
    (List.finRange 32).filterMap (fun v => if bindable v.val && on (.vppb v) then (s.bindOf u v.val).map Bind.port else none)

/-- MEMBERS of the global groups allotted to VCS `u`, as writes of the group table; a group with an allotment is VALID. -/
def State.mcWrites (s : State) (u : Nat) : List (Nat × Nat × Bytes) :=
  ((s.mcGroups u).zipIdx.filter (fun (g : Nat × Nat) =>
      leBytes 8 (maskOf (s.localMembers u g.2)) != (s.active 0x0701 (16 * g.1) 8))).map (fun (g : Nat × Nat) =>
    (0x0701, 16 * g.1, leBytes 8 (maskOf (s.localMembers u g.2)) ++ leBytes 1 (putBit (fieldAt (s.active 0x0701 (16 * g.1 + 8) 1) 0 1) 0 true)))

/-! ## Training (R337, R364, R373) -/

/-- LTSSM codes of Table 8-9. -/
def ltDetect : Nat := 0
/-- Recovery. -/
def ltRecovery : Nat := 3
/-- L0. -/
def ltL0 : Nat := 4
/-- L0p. -/
def ltL0p : Nat := 5
/-- Disabled. -/
def ltDisabled : Nat := 8
/-- Parked. -/
def ltParked : Nat := 11
/-- Test. -/
def ltTest : Nat := 12

/-- The port may train: it has a role, is held in Disabled by nothing, its bay's PLL is locked, and its reset is released. -/
def State.mayTrain (s : State) (p : Nat) : Bool :=
  s.present p && s.get Reg.PRT_PORT_CFG_ROLE p != 0 && (s.port p).disabledBy.isEmpty && s.flag Reg.LNC_BAY_CFG_PLL_LOCK (p / 4)
    && s.clk.modReady
    && (if s.isUsp p then (s.port p).perst
        else match s.chanOf p with
          | some n => !s.flag Reg.SPC_CH_STATUS_PERST n
          | none => true)

/-- Begins training where the port may train and is not parked. -/
def State.train (s : State) (p : Nat) : State :=
  if s.mayTrain p && !(s.port p).up && !s.flag Reg.LNC_PORT_STATUS_PARKED p then
    ((s.set Reg.LNC_PORT_STATUS_LTSSM p ltDetect).modPort p (fun x => { x with trainPend := true })).emit (.train p)
  else s

/-- A port leaves the park with FAIL_COUNT 0 and trains (R364). -/
def State.unpark (s : State) (p : Nat) : State :=
  ((s.setFlag Reg.LNC_PORT_STATUS_PARKED p false).set Reg.LNC_PORT_STATUS_FAIL_COUNT p 0).train p

/-! ## Lanes at link-down (R360, R367) -/

/-- Changes what is held of a lane. -/
def State.modLane (s : State) (n : Nat) (f : LaneSt → LaneSt) : State :=
  { s with lnc := { s.lnc with lanes := SMap.modify s.lnc.lanes n LaneSt.dflt f } }

/-- Every lane of the port returns to service; what the link showed reads as with no link. -/
def State.lanesDown (s : State) (p : Nat) : State :=
  let s := forEach (s.portLanes p) (fun n s =>
    let s := ((s.setFlag Reg.LNC_LANE_STATUS_LOCK n false).setFlag Reg.LNC_LANE_STATUS_IN_USE n false).setFlag
      Reg.LNC_LANE_STATUS_RETIRED n false
    let s := ((s.set Reg.LNC_LANE_STATUS_LOGICAL n 0).set Reg.LNC_LANE_STATUS_FOM n 0).set Reg.LNC_LANE_STATUS_FOM_MIN n 0
    s.modLane n (fun x => { x with below16 := 0, seen := false, alerted := false })) s
  let s := s.set Reg.LNC_PORT_RETIRED p 0
  let s := ((s.set Reg.LNC_PORT_STATUS_WIDTH p 0).set Reg.LNC_PORT_STATUS_RATE p 0).set Reg.LNC_PORT_STATUS_FLIT p 0
  ((s.setFlag Reg.LNC_PORT_STATUS_REVERSED p false).setFlag Reg.LNC_PORT_STATUS_CXL p false).setFlag Reg.LNC_PORT_STATUS_L0P p false

/-- A LANE_MARGIN run on the port ends with a status. -/
def State.endMargin (s : State) (p status : Nat) : State :=
  match (s.port p).margin with
  | none => s
  | some id =>
    let s := s.modPort p (fun x => { x with margin := none })
    { s with lnc := { s.lnc with margin := s.lnc.margin.filter (fun m => m.1 != id) } }.endBg id status []

/-- Bits a checker has compared: at the test's rate since it locked, 48 bits saturating (R370). -/
def State.comparedBits (s : State) (p : Nat) (x : LaneSt) : Nat :=
  match x.lockTick, (s.port p).testMode with
  | some t, some m => min (2 ^ 48 - 1) ((s.tick - t) * gtTenths m.rate / 8)
  | _, _ => x.compared

/-- The test on a port ends: idle transmitters, Detect.Quiet; the counts stay readable (R370). -/
def State.endTest (s : State) (p : Nat) : State :=
  if (s.port p).testMode.isSome then
    let s := forEach (s.portLanes p) (fun n s =>
      s.modLane n (fun x => { x with testOn := false, compared := s.comparedBits p x, lockTick := none })) s
    (s.set Reg.LNC_PORT_STATUS_LTSSM p ltDetect).modPort p (fun x => { x with testMode := none })
  else s

/-! ## Fabric at link-down (R270) -/

/-- Messages that wait at the egress of a port are discarded, each counted in DISC; the transmission of a TLP ends. -/
def State.dropEgress (s : State) (p : Nat) : State :=
  forEach (List.range 8) (fun q s =>
    let k := 8 * p + q
    let ms := SMap.get s.xbr.egress k []
    if ms.isEmpty then s
    else
      let s := (s.modXbr (fun x => { x with egress := SMap.store x.egress k [] [] })).bump Reg.XBR_DISC p ms.length
      forEach ms (fun m s => s.postedDone m.src m.dest m.q) s)
    (s.modXbr (fun x => { x with cuts := x.cuts.filter (fun c => c.msg.dest != p) }))

/-- Requests of the port that have not been looked up leave: policer holds, miss holds, the start-up hold (Table 6-3, R163). -/
def State.dropHeld (s : State) (u : Nat) : State :=
  let s := s.setHold u []
  s.modPol (fun x => { x with misses := x.misses.filter (fun h => h.port != u), held := x.held.filter (fun h => h.port != u) })

/-! ## PORT reset (R333, Table 15-5) -/

/-- Sessions and IDE keys of the functions of VCS `u` are lost (R542, Table 15-5). -/
def State.dropSessions (s : State) (u : Nat) : State :=
  let mine := fun (x : Session) => match x.link with
    | .doePf v => v.val == u
    | .doeUsp v => v.val == u
    | .doeMgmt => s.mgmtUsp == some u
    | .mctp r => decide (r.transport = .vdm (Fin.ofNat 64 u))
  { s with hlm := { s.hlm with sessions := s.hlm.sessions.filter (fun x => !mine x),
                               ide := s.hlm.ide.filter (fun x => x.1 / 8 != u) } }

/-- R333: every configuration register of the VCS at its reset value, empty routing and decoders committed, MC_Enable clear, DIR
under R163, the Mover under R223. Bindings, LDs and grants stay. -/
def State.portReset (s : State) (u : Nat) : State :=
  let s := s.cfgReset u
  let s := { s with prt := { s.prt with aer := s.prt.aer.filter (fun x => x.1 / 2048 != u),
                                        hdm := s.prt.hdm.filter (fun x => x.1 / 64 != u), slotStat := s.prt.slotStat.filter (fun x => x.1 / 32 != u),
                                        dpc := s.prt.dpc.filter (fun k => k / 32 != u), routes := s.prt.routes.filter (fun r => r.1 != u) } }
  let s := ((s.dropHeld u).dropSessions u).transportReset (Fin.ofNat 64 u)
  let s := (s.loseParty u).moverPortReset u
  let s := s.modPort u (fun x => { x with crs := true, pmePend := [], l1 := false })
  s.moduleCommit 2 ([(hbrTable u, 0, s.hbrBytes u), (0x0A00 + u, 0, List.replicate 2048 0)] ++ s.mcWrites u) [] (.portReset u)

/-! ## A POOL device lost (R47, R75, Table 2-11) -/

/-- A POOL DSP goes down: no device is accepted behind it, its copies are fenced, relocations from or to it are aborted. -/
def State.poolDown (s : State) (n : Nat) : State :=
  let s := (s.setFlag Reg.POL_DSP_CFG_DEVICE_OK n false).setPoolDev n { s.poolDev n with acrakFail := false }
  let s := forEach (s.mirrorsOn n) (fun c s => s.fence c.1 c.2) s
  let live := s.pol.relocs.filter (fun r => r.freeAt.isNone && !r.aborting && r.leg < 4)
  forEach live (fun r s =>
    if s.copyOn (cwIl r.dstCopy) (cwTarget r.dstCopy) n then s.destFailed r
    else if s.copyOn (cwIl r.srcCopy) (cwTarget r.srcCopy) n then s.sourceFailed r
    else s) s

/-! ## Outstanding requests and containment (R90, R331) -/

/-- Completes the outstanding non-posted requests through vPPB `k` = 32u + v: CXL.io with `st`, CXL.mem reads with poison. -/
def State.completeOut (s : State) (p k : Nat) (st : CplStatus) : State :=
  let rs := (s.port p).outReqs.filter (fun r => r.2.1 == k)
  let s := s.modPort p (fun x => { x with outReqs := x.outReqs.filter (fun r => r.2.1 != k) })
  s.emits (rs.map (fun r =>
    if r.1 = 0 then OutMsg.ioCpl (k / 32) r.2.2 st []
    else .memCpl (k / 32) { tag := r.2.2, row := 0, data := some zeroLine, poison := true, mta := none }))

/-- DPC Trigger Enable of vPPB `k` (DPC capability at 0x160, log 17). -/
def State.dpcEnabled (s : State) (k : Nat) : Bool :=
  s.cfgRead (k / 32) (.vppb (Fin.ofNat 32 (k % 32))) 0x166 1 % 4 != 0

/-- DPC Completion Control: CA for 0, UR for 1 (PCIe Base, log 17). -/
def State.dpcStatus (s : State) (k : Nat) : CplStatus :=
  if bitOf (s.cfgRead (k / 32) (.vppb (Fin.ofNat 32 (k % 32))) 0x166 1) 2 then .ur else .ca

/-- Link state of the port while something holds it in Disabled. -/
def State.showDisabled (s : State) (p : Nat) : State :=
  if (s.port p).disabledBy.isEmpty then s else s.set Reg.LNC_PORT_STATUS_LTSSM p ltDisabled

/-- Acrak asks the device behind port `p` for its identity, under a CXL.io slot (R44, R325). -/
def State.acrakAsk (s : State) (p : Nat) : State :=
  match s.freeIo p with
  | none => s
  | some k => (s.setIoSlot p k { s.ioSlot p k with user := some (.acrak 0), dpa := 0, isRead := true }).emit (.devCfg p 1 [])

/-! ## IDE (R335, R548) -/

/-- The hash is a device root. -/
def State.isDeviceRoot (s : State) (h : Bytes) : Bool := h != zeroHash && s.hlm.devRoots.contains h

/-- Programs keys of the DRBG in both key sets of the link stream of DSP `p`; set 0 is in use. -/
def State.ideKeyed (s : State) (p : Nat) : State :=
  let k := fun (n : Nat) => leBytes 32 (Config.freeNat n)
  let x : IdeStream := { keySet := 0, keys := [(0, k s.fresh), (1, k (s.fresh + 1))], rekeyTick := s.tick }
  let s := s.drawn.drawn
  let s := { s with hlm := { s.hlm with ide := SMap.put s.hlm.ide (8 * p) x } }
  ((s.set Reg.HLM_IDE_CFG_STATE p 1).unhold p .ide).modPort p (fun y => { y with ideInsecure := false })

/-- The outcome of an IDE_KM exchange on a DSP under its POLICY (Table 13-13). -/
def State.ideOutcome (s : State) (p : Nat) (r : IdeKm) : State :=
  let off := fun (s : State) => s.set Reg.HLM_IDE_CFG_STATE p 0
  match s.get Reg.HLM_IDE_CFG_POLICY p, r with
  | 0, _ => (off s).unhold p .ide
  | 1, .offered _ => (s.emit (.ideKm p 0)).ideKeyed p
  | 1, .failed => (off ((s.emit (.ideKm p 0)).report (0x0E40 + p) corrected 0 [byte p])).unhold p .ide
  | _, r =>
    let ok : Bool := match r with
      | .offered h => s.isDeviceRoot h
      | .failed => false
    let s := s.emit (.ideKm p 0)
    if ok then s.ideKeyed p
    else ((s.set Reg.HLM_IDE_CFG_STATE p 3).withhold p .ide).report (0x0E40 + p) contained 0 [byte p]

/-! ## Link down (R270, R360) -/

/-- What is common to every link that goes down. -/
def State.linkOff (s : State) (p : Nat) : State :=
  let s := ((s.recordEvent (0x0400 + p) 1 [0]).endMargin p stHwFault).lanesDown p
  let s := s.modPort p (fun x => { x with up := false, memUp := false, l1 := false, hostMargin := [], trainPend := false,
                                          ideInsecure := false })
  (((s.set Reg.LNC_PORT_STATUS_LTSSM p ltDetect).schLinkDown p).dropEgress p).cutTails p

/-- Sets change bits of a bindable vPPB's Slot Status (0 button, 1 power fault, 3 presence, 4 command completed, 8 link state) and sends
the host its hot-plug event (R315, R331, Table 17-1). -/
def State.slotEvent (s : State) (k bit : Nat) : State :=
  let v := SMap.get s.prt.slotStat k 0
  ({ s with prt := { s.prt with slotStat := SMap.store s.prt.slotStat k (putBit v bit true) 0 } }).emit (.hotplug (k / 32) (k % 32) bit)

/-- Commits the unbind of vPPB `v` of VCS `u` (R89, R90); `id` is the background command it ends. -/
def State.commitUnbind (s : State) (u v id : Nat) : State :=
  match s.bindOf u v with
  | none => s
  | some b =>
    let k := 32 * u + v
    let s := s.completeOut b.port k .ur
    let s := { s with prt := { s.prt with binds := SMap.del s.prt.binds k, dpc := s.prt.dpc.filter (· ≠ k) } }
    let s := s.modPort b.port (fun x => { x with disabledBy := x.disabledBy.filter (fun w => w != 3 && w != 7) })
    let s := s.journal (.vppb u v none)
    s.moduleCommit 0 ((hbrTable u, 0, s.hbrBytes u) :: s.mcWrites u) [] (.bind id)

/-- An unbind that waits for the link of a port to go down is committed (Table 2-10). -/
def State.unbindOnDown (s : State) (p : Nat) : State :=
  let ops := s.pol.bindOps.filter (fun o => o.linkDown && (s.bindOf o.usp (p8 o.params 1)).any (fun b => b.port == p))
  forEach ops (fun o s =>
    let s := s.modPol (fun q => { q with bindOps := q.bindOps.map (fun x => if x.bgId = o.bgId then { x with linkDown := false } else x) })
    s.commitUnbind o.usp (p8 o.params 1) o.bgId) s

/-- The link of port `p` goes down (R270): what the port's role adds is a PORT reset (R333), the loss of a POOL device (R75), or
the end of a PASS device's outstanding requests under containment (R331). -/
def State.linkDown (s : State) (p : Nat) : State :=
  if !(s.port p).up then s
  else
    let s := s.linkOff p
    let s := if s.isUsp p then s.portReset p
      else if s.isPool p then s.poolDown p
      else forEach (s.bindsTo p) (fun b s =>
        if s.dpcEnabled b.1 && b.2.isNone then
          let s := s.completeOut p b.1 (s.dpcStatus b.1)
          let s := { s with prt := { s.prt with dpc := addNew b.1 s.prt.dpc } }
          (s.modPort p (fun x => { x with disabledBy := addNew 3 x.disabledBy })).report (0x0600 + p) contained 2 [byte p]
        else s) s
    let s := s.unbindOnDown p
    (s.showDisabled p).train p

/-- A commanded link-down: as `linkDown`, without containment of the device behind it. -/
def State.linkCut (s : State) (p : Nat) : State :=
  if !(s.port p).up then s
  else
    let s := s.linkOff p
    let s := if s.isUsp p then s.portReset p else if s.isPool p then s.poolDown p else s
    s.unbindOnDown p

/-- Holds a port's link in Disabled for a reason (0 LINK_CTL, 1 Quench, 2 safe state, 3 DPC, 4 removal, 5 start, 6 bay PLL). -/
def State.disable (s : State) (p why : Nat) : State :=
  let s := s.modPort p (fun x => { x with disabledBy := addNew why x.disabledBy })
  ((s.linkCut p).endTest p).showDisabled p

/-- A reason for Disabled ends; with none left the port trains. -/
def State.enable (s : State) (p why : Nat) : State :=
  if why ∈ (s.port p).disabledBy then
    let s := s.modPort p (fun x => { x with disabledBy := x.disabledBy.filter (· ≠ why) })
    if (s.port p).disabledBy.isEmpty then (s.set Reg.LNC_PORT_STATUS_LTSSM p ltDetect).unpark p else s
  else s

/-- R309: what a role change asks of a port: bound to no vPPB, not named by the pool tables, and a USP with no LD, no Mover
allotment and not MGMT_USP. -/
def State.portFree (s : State) (p : Nat) : Bool :=
  (s.bindsTo p).isEmpty && !s.poolNames p
    && (!s.isUsp p || (!s.pol.lds.any (fun ld => ld / 16 == p) && (SMap.get s.mov.allot p []).isEmpty
      && !s.flag Reg.PRT_PORT_CFG_MGMT_USP p))

/-- Takes the link down and trains it again (R43, R309). -/
def State.retrainDown (s : State) (p : Nat) : State := ((s.linkCut p).endTest p).unpark p

end Sys2Proof.Machine
end

