-- ==== Sys2Proof/Machine/Lanes.lean ====
section
/-! DEFINITION. Lanes and links: link up and down, figures of merit, equalisation, lane loss, parking, margining, test patterns,
bay PLLs, and the lane commands (R343 to R378). -/

namespace Sys2Proof.Machine

/-! ## Widths and lanes (R344, R346) -/

/-- The largest power of two no greater than `n`; 0 for 0. -/
def pow2le (n : Nat) : Nat := if 16 ≤ n then 16 else if 8 ≤ n then 8 else if 4 ≤ n then 4 else if 2 ≤ n then 2 else min n 1

/-- Lanes of the port at full width. -/
def State.fullWidth (s : State) (p : Nat) : Nat := (s.portLanes p).length

/-- The port that owns lane `n`, and the lane's port-lane number. -/
def State.laneOf (s : State) (n : Nat) : Option (Nat × Nat) :=
  (List.range 4).findSome? (fun j =>
    let p := 4 * (n / 16) + j
    if s.present p then ((s.portLanes p).zipIdx.find? (fun (x : Nat × Nat) => x.1 == n)).map (fun x => (p, x.2)) else none)

/-- Logical number of port lane `i` (R346). -/
def logicalLane (full i : Nat) (rev : Bool) : Nat := if rev then full - 1 - i else i

/-- The port runs `w` lanes in an order: the lanes with a logical number below `w` carry the link. -/
def State.useLanes (s : State) (p w : Nat) (rev : Bool) : State :=
  let full := s.fullWidth p
  let s := forEach (s.portLanes p).zipIdx (fun (x : Nat × Nat) s =>
    let k := logicalLane full x.2 rev
    let on : Bool := decide (k < w) && !s.flag Reg.LNC_LANE_STATUS_RETIRED x.1
    let s := s.set Reg.LNC_LANE_STATUS_LOGICAL x.1 k
    (s.setFlag Reg.LNC_LANE_STATUS_IN_USE x.1 on).setFlag Reg.LNC_LANE_STATUS_LOCK x.1 on) s
  (s.set Reg.LNC_PORT_STATUS_WIDTH p w).setFlag Reg.LNC_PORT_STATUS_REVERSED p rev

/-- Port-lane numbers of the retired lanes of a port, ascending. -/
def State.retiredLanes (s : State) (p : Nat) : List Nat := indicesOf 16 (s.get Reg.LNC_PORT_RETIRED p)

/-- The widest width of an order that uses no retired lane. -/
def State.openWidth (s : State) (p : Nat) (rev : Bool) : Nat :=
  match (s.retiredLanes p).map (fun i => logicalLane (s.fullWidth p) i rev) with
  | [] => s.fullWidth p
  | k :: ks => pow2le (ks.foldl min k)

/-- The widest L0p width that uses no retired lane (R358, R376). -/
def State.l0pWidth (s : State) (p : Nat) : Nat :=
  let rev := s.flag Reg.LNC_PORT_STATUS_REVERSED p
  let ks := (s.retiredLanes p).map (fun i => logicalLane (s.fullWidth p) i rev)
  let cap := SMap.get s.lnc.trained p (s.fullWidth p)
  match ks with
  | [] => cap
  | k :: ks => min cap (pow2le (ks.foldl min k))

/-- The width and order that Recovery settles on (R359): normal order on a tie. -/
def State.recoveryWidth (s : State) (p : Nat) : Nat × Bool :=
  match s.retiredLanes p with
  | [] => (s.fullWidth p, false)
  | i :: is =>
    let n := pow2le (is.foldl min i)
    let r := pow2le (s.fullWidth p - 1 - is.foldl max i)
    if n < r then (r, true) else (n, false)

/-! ## Link up (R346 to R348, R362, R598) -/

/-- The flit code of a link (Tables 8-2 and 8-9, R348). -/
def State.flitCode (s : State) (p rate : Nat) (l : LinkParams) : Nat :=
  let lopt : Bool := l.latencyOpt && s.flag Reg.LNC_PORT_CTL_LOPT_EN p
  if l.cxl && decide (2 ≤ rate) then
    (if rate = 5 then (if lopt then 4 else 3)
     else if rate = 4 ∧ l.flit256 = true then (if lopt then 4 else 3)
     else 2)
  else if rate = 5 ∨ l.pcieFlit = true then 1
  else 0

/-- A commit that clears Retry Status of VCS `u` is under way. -/
def State.resetPending (s : State) (u : Nat) : Bool :=
  s.tbl.modq.any (fun m => m.after == .portReset u) || s.tbl.pend.any (fun c => c.after == .portReset u)

/-- The port reaches L0. -/
def State.linkUp (s : State) (p : Nat) (l : LinkParams) : State :=
  let s := s.recordEvent (0x0400 + p) 1 [1]
  let rate := min l.rate.val (s.get Reg.LNC_PORT_CTL_MAX_RATE p)
  let w := pow2le (min l.width (s.openWidth p l.reversed))
  let s := s.useLanes p w l.reversed
  let s := forEach (s.portLanes p).zipIdx (fun (x : Nat × Nat) s =>
    let s := (s.setFlag Reg.LNC_LANE_STATUS_POL_INV x.1 (l.polInv.getLsbD x.2)).set Reg.LNC_LANE_ERR x.1 0
    s.modLane x.1 (fun y => { y with seen := false, alerted := false, below16 := 0 })) s
  let s := ((s.set Reg.LNC_PORT_STATUS_RATE p rate).set Reg.LNC_PORT_STATUS_FLIT p (s.flitCode p rate l)).set
    Reg.LNC_PORT_STATUS_LTSSM p ltL0
  let s := (s.setFlag Reg.LNC_PORT_STATUS_CXL p (l.cxl && decide (2 ≤ rate))).setFlag Reg.LNC_PORT_STATUS_L0P p
    (l.l0p && s.flag Reg.LNC_PORT_CTL_L0P_EN p)
  let s := (s.setFlag Reg.LNC_PORT_STATUS_PARKED p false).set Reg.LNC_PORT_STATUS_FAIL_COUNT p 0
  let s := { s with lnc := { s.lnc with trained := SMap.put s.lnc.trained p w } }
  let s := s.modPort p (fun x => { x with up := true, trainPend := false, lanesRev := l.reversed, memUp := !s.isLost p })
  let s := s.fillBuckets p
  if s.isUsp p then
    if (s.port p).crs && !s.resetPending p then s.commitRoutes p (.portReset p) else s
  else
    let s := s.ideOutcome p l.ide
    if s.isPool p then s.acrakAsk p else s

/-- LINK_UP: the port reaches L0 (R362), its buckets fill (R287), FAIL_COUNT and PARKED clear; a USP's VCS commits its empty
routing (R598), a DSP's IDE policy takes its exchange (R548). -/
def execLinkUp (p : Port) (l : LinkParams) (s : State) : Host.Outcome State Fault Refusal :=
  .next (if s.mayTrain p.val && !(s.port p.val).up && decide (0 < pow2le (min l.width (s.openWidth p.val l.reversed))) then s.linkUp p.val l else s)

/-- LINK_DOWN: R270, R163, R75, R331, R360. -/
def execLinkDown (p : Port) (s : State) : Host.Outcome State Fault Refusal := .next (s.linkDown p.val)

/-! ## Figures of merit (R350 to R352, R390) -/

/-- FOM_UPDATE: every 256 ns Planish updates a lane's FOM and its lowest since link-up (R351), or since ACTIVE on a Seam lane
(R390). -/
def execFomUpdate (n : AnyLane) (fom : BitVec 8) (s : State) : Host.Outcome State Fault Refusal :=
  let f := fom.toNat
  .next (match n with
    | .port n =>
      match s.laneOf n.val with
      | none => s
      | some (p, _) =>
        if (s.port p).up && s.flag Reg.LNC_LANE_STATUS_IN_USE n.val then
          let x := SMap.get s.lnc.lanes n.val LaneSt.dflt
          let low := if x.seen then min f (s.get Reg.LNC_LANE_STATUS_FOM_MIN n.val) else f
          ((s.set Reg.LNC_LANE_STATUS_FOM n.val f).set Reg.LNC_LANE_STATUS_FOM_MIN n.val low).modLane n.val (fun x =>
            { x with seen := true, below16 := if f < 16 then min 2 (x.below16 + 1) else 0 })
        else s
    | .seam b i =>
      let k := 32 * b.val + i.val
      if s.get Reg.SEM_BUNDLE_STATUS_STATE b.val = 8 ∧ s.flag Reg.SEM_LANE_STATUS_LOST k = false then
        (s.set Reg.SEM_LANE_STATUS_FOM k f).set Reg.SEM_LANE_STATUS_FOM_MIN k (min (s.get Reg.SEM_LANE_STATUS_FOM_MIN k) f)
      else s)

/-- FOM_ALERT: a lane in use below FOM_ALERT for 1 ms (R352), once for each lane and link-up. -/
def execFomAlert (n : Lane) (s : State) : Host.Outcome State Fault Refusal :=
  .next (match s.laneOf n.val with
    | none => s
    | some (p, _) =>
      let f := s.get Reg.LNC_LANE_STATUS_FOM n.val
      if (s.port p).up && s.flag Reg.LNC_LANE_STATUS_IN_USE n.val && decide (f < s.get Reg.LNC_PORT_CTL_FOM_ALERT p)
          && !(SMap.get s.lnc.lanes n.val LaneSt.dflt).alerted then
        (s.modLane n.val (fun x => { x with alerted := true })).report (0x0480 + p) corrected 1 [byte p] [byte n.val, byte f]
      else s)

/-! ## Equalisation (R354 to R356) -/

/-- Preset numbers in the order of R354. -/
def presetOrder : List Nat := [7, 8, 6, 5, 4, 9, 3, 2, 1, 0, 10]

/-- The presets that are tried: up to the first whose best FOM reaches 200. -/
def triedPresets : Nat → List (Nat × Nat) → List (Nat × Nat)
  | _, [] => []
  | best, (p, f) :: l => if 200 ≤ max best f then [(p, f)] else (p, f) :: triedPresets (max best f) l

/-- The best preset; a tie keeps the earlier one. -/
def bestPreset (l : List (Nat × Nat)) : Option (Nat × Nat) :=
  l.foldl (fun b x =>
    match b with
    | none => some x
    | some y => if y.2 < x.2 then some x else some y) none

/-- The coefficient search: a step that raises the port FOM is kept; four steps in a row that do not end it. -/
def searchCoeffs : Nat → Option Nat × Nat → List (BitVec 18 × BitVec 8) → Option Nat × Nat
  | _, c, [] => c
  | misses, c, (k, f) :: l =>
    if c.2 < f.toNat then searchCoeffs 0 (some k.toNat, f.toNat) l
    else if misses = 3 then c
    else searchCoeffs (misses + 1) c l

/-- EQUALISATION: the module evaluates its partner's transmitter (R354); a bypass that leaves the FOM low goes to full
equalisation through Recovery (R356); a FOM below EQ_MIN_FOM at the end is reported (R355). -/
def execEqualisation (p : Port) (r : EqRun) (s : State) : Host.Outcome State Fault Refusal :=
  let n := p.val
  let least := s.get Reg.LNC_PORT_CTL_EQ_MIN_FOM n
  let short : Bool := match r.bypass with
    | some f => decide (least ≤ f.toNat)
    | none => false
  .next (if !(s.port n).trainPend && !(s.port n).up ∨ short = true then s
    else
      let s := if r.bypass.isSome then s.bump Reg.LNC_CNT_RECOV n else s
      let tried := triedPresets 0 (presetOrder.zip (r.presets.map BitVec.toNat))
      match bestPreset tried with
      | none => s
      | some (pre, f) =>
        let c := if f < least then searchCoeffs 0 (none, f) r.steps else (none, f)
        let s := s.emits (tried.map (fun x => OutMsg.eqRequest n x.1 0))
        let s := s.emit (.eqRequest n pre (c.1.getD 0))
        let s := forEach (s.portLanes n) (fun l s =>
          (s.set Reg.LNC_LANE_STATUS_PARTNER_PRESET l (if c.1.isSome then 15 else pre)).modLane l
            (fun x => { x with coeffs := c.1.getD 0 })) s
        if c.2 < least then
          s.report (0x0480 + n) corrected 2 [byte n] [byte ((s.portLanes n).getD r.lowLane.val 0), byte c.2]
        else s)

/-! ## Lane loss (R357 to R361, R376) -/

/-- Takes a lane out of service: transmitter idle until link-down (R360). -/
def State.retireLane (s : State) (p n i : Nat) : State :=
  let s := ((s.setFlag Reg.LNC_LANE_STATUS_RETIRED n true).setFlag Reg.LNC_LANE_STATUS_IN_USE n false).setFlag
    Reg.LNC_LANE_STATUS_LOCK n false
  s.set Reg.LNC_PORT_RETIRED p (maskOf (addNew i (s.retiredLanes p)))

/-- The port narrows or widens through L0p. -/
def State.l0pTo (s : State) (p w : Nat) : State :=
  let s := s.useLanes p w (s.flag Reg.LNC_PORT_STATUS_REVERSED p)
  let s := s.bump Reg.LNC_CNT_L0P p
  s.set Reg.LNC_PORT_STATUS_LTSSM p (if w < SMap.get s.lnc.trained p w then ltL0p else ltL0)

/-- LANE_LOSS: the lane is retired (R360, R361); the port narrows through L0p (R358), retrains through Recovery (R359), or its
link goes down, on an x1 link or when no width excludes every retired lane; a lane lost while the port trains is left out of the
width negotiated (R376). -/
def execLaneLoss (n : Lane) (s : State) : Host.Outcome State Fault Refusal :=
  .next (match s.laneOf n.val with
    | none => s
    | some (p, i) =>
      if (s.port p).up && s.flag Reg.LNC_LANE_STATUS_IN_USE n.val then
        let old := s.get Reg.LNC_PORT_STATUS_WIDTH p
        let k := s.get Reg.LNC_LANE_STATUS_LOGICAL n.val
        let s := if s.lnc.margin.any (fun m => m.2 == n.val) then s.endMargin p stHwFault else s
        let s := s.retireLane p n.val i
        let l0p : Bool := s.flag Reg.LNC_PORT_STATUS_L0P p && s.flag Reg.LNC_PORT_CTL_L0P_EN p && decide (1 ≤ k)
        let r := s.recoveryWidth p
        let w := if old = 1 ∧ SMap.get s.lnc.trained p 1 = 1 then 0 else if l0p then s.l0pWidth p else r.1
        let s := s.report (0x0440 + p) corrected 0 [byte n.val, byte old, byte w]
        if w = 0 then s.linkDown p
        else if l0p then s.l0pTo p w
        else
          let s := { s with lnc := { s.lnc with trained := SMap.put s.lnc.trained p w } }
          ((s.bump Reg.LNC_CNT_RECOV p).useLanes p w r.2).set Reg.LNC_PORT_STATUS_LTSSM p ltL0
      else if !(s.port p).up && (s.port p).trainPend && !s.flag Reg.LNC_LANE_STATUS_RETIRED n.val then
        let s := s.retireLane p n.val i
        s.report (0x0440 + p) corrected 0 [byte n.val, 0, byte (s.recoveryWidth p).1]
      else s)

/-- PARTNER_L0P_REQUEST: a width change is granted up to the widest width that uses no retired lane (R360, R376). -/
def execPartnerL0pRequest (p : Port) (width : Nat) (s : State) : Host.Outcome State Fault Refusal :=
  let n := p.val
  .next (if !(s.port n).up then s
    else if s.flag Reg.LNC_PORT_STATUS_L0P n && s.flag Reg.LNC_PORT_CTL_L0P_EN n && decide (0 < pow2le width) then
      let w := min (pow2le width) (s.l0pWidth n)
      let s := s.emit (.l0pRsp n true)
      if w = s.get Reg.LNC_PORT_STATUS_WIDTH n ∨ w = 0 then s else s.l0pTo n w
    else s.emit (.l0pRsp n false))

/-! ## Training failures and parking (R362 to R364) -/

/-- TRAINING_ATTEMPT_FAIL: the eighth failure in a row parks the port (R363); a parked port stays parked without an event. -/
def execTrainingAttemptFail (p : Port) (s : State) : Host.Outcome State Fault Refusal :=
  let n := p.val
  .next (if (s.port n).up || !(s.port n).trainPend then s
    else if s.flag Reg.LNC_PORT_STATUS_PARKED n then
      (s.modPort n (fun x => { x with trainPend := false })).set Reg.LNC_PORT_STATUS_LTSSM n ltParked
    else
      let c := min 8 (s.get Reg.LNC_PORT_STATUS_FAIL_COUNT n + 1)
      let s := s.set Reg.LNC_PORT_STATUS_FAIL_COUNT n c
      if c = 8 then
        let s := (s.setFlag Reg.LNC_PORT_STATUS_PARKED n true).set Reg.LNC_PORT_STATUS_LTSSM n ltParked
        (s.modPort n (fun x => { x with trainPend := false })).reportIx 0x0400 n corrected 0
      else s)

/-- PARKED_DETECT: receiver detection of a parked port; with a receiver, one attempt (R363). -/
def execParkedDetect (p : Port) (receiver : Bool) (s : State) : Host.Outcome State Fault Refusal :=
  .next (if s.flag Reg.LNC_PORT_STATUS_PARKED p.val && receiver && s.mayTrain p.val then
      ((s.set Reg.LNC_PORT_STATUS_LTSSM p.val ltDetect).modPort p.val (fun x => { x with trainPend := true })).emit (.train p.val)
    else s)

/-! ## Margining (R366, R367) -/

/-- HOST_MARGIN_COMMAND: a host margins a lane of a port in L0 at 16 GT/s or more; a LANE_MARGIN run on the port ends with
CONFLICT. -/
def execHostMarginCommand (n : Lane) (active : Bool) (s : State) : Host.Outcome State Fault Refusal :=
  .next (match s.laneOf n.val with
    | none => s
    | some (p, _) =>
      if (s.port p).up && decide (3 ≤ s.get Reg.LNC_PORT_STATUS_RATE p) then
        (s.endMargin p stConflict).modPort p (fun x =>
          { x with hostMargin := if active then addNew n.val x.hostMargin else x.hostMargin.filter (· ≠ n.val) })
      else s)

/-! ## Bay PLLs (R374) -/

/-- Present ports of a bay. -/
def State.bayPorts (s : State) (b : Nat) : List Nat := ((List.range 4).map (4 * b + ·)).filter s.present

/-- BAY_PLL_LOCK_LOSS: every link of the bay goes down (R374). -/
def execBayPllLockLoss (b : Bay) (s : State) : Host.Outcome State Fault Refusal :=
  .next (if s.flag Reg.LNC_BAY_CFG_PLL_LOCK b.val then
      let s := (s.setFlag Reg.LNC_BAY_CFG_PLL_LOCK b.val false).reportIx 0x04C0 b.val contained 0
      forEach (s.bayPorts b.val) (fun p s => s.linkDown p) s
    else s)

/-- BAY_PLL_RELOCK: LNC tries to relock; once locked, the bay's ports train (R374). -/
def execBayPllRelock (b : Bay) (locked : Bool) (s : State) : Host.Outcome State Fault Refusal :=
  .next (if !s.flag Reg.LNC_BAY_CFG_PLL_LOCK b.val && locked && s.mainUp then
      forEach (s.bayPorts b.val) (fun p s => s.train p) (s.setFlag Reg.LNC_BAY_CFG_PLL_LOCK b.val true)
    else s)

/-! ## Test patterns (R368 to R370) -/

/-- PRBS_LOCK: a checker synchronises to the incoming pattern. -/
def execPrbsLock (n : Lane) (s : State) : Host.Outcome State Fault Refusal :=
  .next (match s.laneOf n.val with
    | none => s
    | some (p, _) =>
      match (s.port p).testMode with
      | some m =>
        if 1 ≤ m.mode ∧ (SMap.get s.lnc.lanes n.val LaneSt.dflt).lockTick = none then
          s.modLane n.val (fun x => { x with lockTick := some s.tick })
        else s
      | none => s)

/-! ## Commands (R378, Table 11-8) -/

/-- LANE_INFO (0xC210). Error counts of a running checker are what the lane sees (log 22). -/
def specLaneInfo : CmdSpec :=
  { opcode := 0xC210, priv := .observe, sub := 0x04, len := lenIs 1,
    check := fun _ p _ => firstBad [need (p8 p 0 < 16) 0],
    run := fun _ p s =>
      let b := p8 p 0
      let lanes := (List.range 16).map (16 * b + ·)
      let words := fun (a n : Nat) => s.words (0x04000000 + a) n
      let tests := lanes.map (fun n =>
        let x := SMap.get s.lnc.lanes n LaneSt.dflt
        let pt := ((s.laneOf n).map Prod.fst).getD 0
        let errs := if x.lockTick.isSome then Config.freeNat (s.fresh + n % 16) else 0
        leBytes 6 (s.comparedBits pt x) ++ leBytes 4 errs ++ leBytes 2 (b2n x.lockTick.isSome))
      .done (leBytes 4 (s.get Reg.LNC_BAY_CFG_WIDTH b) ++ words (0x300 + 16 * b) 4 ++ words (0x400 + 16 * b) 4
        ++ words (0x1000 + 64 * b) 16 ++ words (0x1400 + 64 * b) 16 ++ tests.flatten) { s with fresh := s.fresh + 16 } }

/-- LANE_INFO: R378. -/
def execLaneInfo (h : Hdr) (p : Bytes) (s : State) : Host.Outcome State Fault Refusal := specLaneInfo.direct h p s

/-- The ports of bay `b` under width code `w`. -/
def portsUnder (b w : Nat) : List Nat :=
  match w with
  | 0 => [4 * b]
  | 1 => [4 * b, 4 * b + 2]
  | _ => [4 * b, 4 * b + 1, 4 * b + 2, 4 * b + 3]

/-- A port of a bay whose width is set: role DSP, personality PASS, journaled where they change (R345). -/
def State.freshDsp (s : State) (p : Nat) : State :=
  let s := if s.get Reg.PRT_PORT_CFG_ROLE p = 2 then s else s.setJ Reg.PRT_PORT_CFG_ROLE p 2
  if s.get Reg.POL_DSP_CFG_PERSONALITY p = 1 then s else s.setJ Reg.POL_DSP_CFG_PERSONALITY p 1

/-- BAY_WIDTH_SET (0xC211). -/
def specBayWidthSet : CmdSpec :=
  { opcode := 0xC211, priv := .admin, sub := 0x04, len := lenIs 2,
    locks := fun p s => (portsUnder (p8 p 0) (p8 p 1)).any (fun q => s.get Reg.PRT_PORT_CFG_ROLE q != 2),
    check := fun _ p _ => firstBad [need (p8 p 0 < 16) 0, need (p8 p 1 < 3) 1],
    run := fun _ p s =>
      let b := p8 p 0
      if !(s.bayPorts b).all s.portFree then .fail stConflict
      else
        let s := forEach (s.bayPorts b) (fun q s => (s.linkCut q).endTest q) s
        let s := (s.journal (.bayWidth b (p8 p 1))).set Reg.LNC_BAY_CFG_WIDTH b (p8 p 1)
        let s := forEach (portsUnder b (p8 p 1)) (fun q s =>
          (s.freshDsp q).modPort q (fun x => { x with disabledBy := [], perst := s.clk.modReady })) s
        .done [] (forEach (portsUnder b (p8 p 1)) (fun q s => s.unpark q) s) }

/-- BAY_WIDTH_SET: R343, R345. -/
def execBayWidthSet (h : Hdr) (p : Bytes) (s : State) : Host.Outcome State Fault Refusal := specBayWidthSet.direct h p s

/-- A link in L0 goes through Recovery; a port that is not up leaves the park and trains (R364, R376). -/
def State.retrain (s : State) (p : Nat) : State :=
  if (s.port p).up then (s.bump Reg.LNC_CNT_RECOV p).emit (.train p) else s.unpark p

/-- LINK_CTL (0xC212). -/
def specLinkCtl : CmdSpec :=
  { opcode := 0xC212, priv := .operate, sub := 0x04, len := lenIs 2,
    check := fun _ p s => firstBad [need (s.present (p8 p 0)) 0, need (p8 p 1 < 4 && (p8 p 1 < 2 || s.isDsp (p8 p 0))) 1],
    run := fun _ p s =>
      let q := p8 p 0
      let land := fun (s : State) (b : Bool) =>
        if (s.chanOf q).isNone then s.modPort q (fun x => { x with perst := b }) else s
      .done [] (match p8 p 1 with
        | 0 => s.retrain q
        | 1 => (s.retrain q).emit (.eqRequest q 0 0)
        | 2 => land (s.disable q 0) false
        | _ =>
          let s := land s s.clk.modReady
          if 0 ∈ (s.port q).disabledBy then s.enable q 0 else s.unpark q) }

/-- LINK_CTL: R364, R376, R378. -/
def execLinkCtl (h : Hdr) (p : Bytes) (s : State) : Host.Outcome State Fault Refusal := specLinkCtl.direct h p s

/-- LANE_MARGIN (0xC213): the run ends with BACKGROUND_COMMAND_END, or as R367 states. -/
def specLaneMargin : CmdSpec :=
  { opcode := 0xC213, priv := .operate, sub := 0x04, len := lenIs 6,
    check := fun _ p s => firstBad [need (s.present (p8 p 0)) 0,
      need (p16 p 2 != 0 && p16 p 2 < 2 ^ s.fullWidth (p8 p 0)) 2, need (1 ≤ p8 p 4 && p8 p 4 < 4) 4,
      need (1 ≤ p8 p 5 && p8 p 5 ≤ 63) 5],
    run := fun _ p s =>
      let q := p8 p 0
      let x := s.port q
      if !x.up || decide (s.get Reg.LNC_PORT_STATUS_RATE q < 3) || !x.hostMargin.isEmpty || x.margin.isSome then .fail stConflict
      else
        let id := s.cmd.nextBg
        let ls := (indicesOf 16 (p16 p 2)).map (fun i => (id, (s.portLanes q).getD i 0))
        .started ({ s with lnc := { s.lnc with margin := s.lnc.margin ++ ls } }.modPort q (fun x => { x with margin := some id })) false }

/-- LANE_MARGIN: R366, R367. -/
def execLaneMargin (h : Hdr) (p : Bytes) (s : State) : Host.Outcome State Fault Refusal := specLaneMargin.direct h p s

/-- The completion reply of a LANE_MARGIN run: passing steps left, right, up, down of each lane asked for; what the lanes show is
open (log 22), at most the step counts of Table 8-5. -/
def State.marginReply (s : State) (p : Nat) (params : Bytes) : Bytes :=
  let v := if s.get Reg.LNC_PORT_STATUS_RATE p = 5 then 32 else 64
  ((List.range (s.fullWidth p)).map (fun i =>
    let on : Bool := bitOf (p16 params 2) i
    let st := fun (k limit : Nat) (asked : Bool) => if on && asked then Config.freeNat (s.fresh + 4 * i + k) % (limit + 1) else 0
    [byte (st 0 32 (bitOf (p8 params 4) 0)), byte (st 1 32 (bitOf (p8 params 4) 0)), byte (st 2 v (bitOf (p8 params 4) 1)),
      byte (st 3 v (bitOf (p8 params 4) 1))])).flatten

/-- LANE_TEST (0xC214). -/
def specLaneTest : CmdSpec :=
  { opcode := 0xC214, priv := .operate, sub := 0x04, len := lenIs 16,
    check := fun _ p s => firstBad [need (s.present (p8 p 0)) 0, need (p8 p 1 < 2) 1,
      need (p8 p 1 == 0 || p8 p 2 < 5) 2, need (p8 p 1 == 0 || p8 p 3 < 9) 3, need (p8 p 1 == 0 || p8 p 4 < 6) 4],
    run := fun _ p s =>
      let q := p8 p 0
      if s.get Reg.PRT_PORT_CFG_ROLE q ≠ 0 then .fail stConflict
      else if p8 p 1 = 0 then .done [] (s.endTest q)
      else
        let s := s.endTest q
        let t : LaneTest := { mode := p8 p 2, pattern := p8 p 3, rate := p8 p 4, user := p64 p 8 }
        let s := forEach (s.portLanes q) (fun n s => s.modLane n (fun x => { x with testOn := true, lockTick := none, compared := 0 })) s
        .done [] ((s.modPort q (fun x => { x with testMode := some t })).set Reg.LNC_PORT_STATUS_LTSSM q ltTest) }

/-- LANE_TEST: R368 to R370. -/
def execLaneTest (h : Hdr) (p : Bytes) (s : State) : Host.Outcome State Fault Refusal := specLaneTest.direct h p s

end Sys2Proof.Machine
end

