-- ==== Sys2Proof/Machine/Ports.lean ====
section
/-! DEFINITION. Ports, hierarchies and what happens to them: roles and personalities, multicast allotment, decoder commits, AER,
DPC, IDE, power management, resets of a VCS and of what lies behind a vPPB (R307 to R342, R57, R548, R603, R604). -/

namespace Sys2Proof.Machine

/-! ## Roles, personalities, management flags (R307 to R310, R41 to R43, R653) -/

/-- A role change that is not accepted: the status it completes with (R308, R309, R653). -/
def State.roleRefused (s : State) (p r : Nat) : Option Nat :=
  if s.get Reg.PRT_PORT_CFG_ROLE p = r then none
  else if r = 1 ∧ 48 ≤ s.usps.length then some stNoResource
  else if !s.portFree p || ((s.chanOf p).isSome && r != 2) then some stConflict
  else none

/-- Gives a port a role: its link goes down and it trains under the new one (R309, R689). A role it has is no change. -/
def State.setRole (s : State) (p r : Nat) : State :=
  if s.get Reg.PRT_PORT_CFG_ROLE p = r then s
  else
    let s := ((s.linkCut p).endTest p).setJ Reg.PRT_PORT_CFG_ROLE p r
    let s := s.modPort p (fun x =>
      { x with disabledBy := x.disabledBy.filter (fun w => w != 0 && w != 3 && w != 4),
               perst := r == 2 && s.clk.modReady, crs := true })
    s.unpark p

/-- PORT_ROLE_SET (0xC201). -/
def specPortRoleSet : CmdSpec :=
  { opcode := 0xC201, priv := .admin, sub := 0x06, len := lenIs 2,
    locks := fun p s => s.get Reg.PRT_PORT_CFG_ROLE (p8 p 0) != p8 p 1,
    check := fun _ p s => firstBad [need (s.present (p8 p 0)) 0, need (p8 p 1 < 3) 1],
    run := fun _ p s =>
      match s.roleRefused (p8 p 0) (p8 p 1) with
      | some st => .fail st
      | none => .done [] (s.setRole (p8 p 0) (p8 p 1)) }

/-- PORT_ROLE_SET: R307 to R309. -/
def execPortRoleSet (h : Hdr) (p : Bytes) (s : State) : Host.Outcome State Fault Refusal := specPortRoleSet.direct h p s

/-- A personality change is accepted only for a DSP that is bound to no vPPB and not named by the pool tables (R42). -/
def State.personalityRefused (s : State) (p v : Nat) : Option Nat :=
  if s.get Reg.POL_DSP_CFG_PERSONALITY p = v then none
  else if !(s.bindsTo p).isEmpty || s.poolNames p then some stConflict
  else none

/-- Gives a DSP a personality; the link goes down and trains again (R43). -/
def State.setPersonality (s : State) (p v : Nat) : State :=
  if s.get Reg.POL_DSP_CFG_PERSONALITY p = v then s
  else (((s.linkCut p).endTest p).setJ Reg.POL_DSP_CFG_PERSONALITY p v).unpark p

/-- DSP_PERSONALITY_SET (0xC401). -/
def specDspPersonalitySet : CmdSpec :=
  { opcode := 0xC401, priv := .admin, sub := 0x0A, len := lenIs 2,
    check := fun _ p s => firstBad [need (s.isDsp (p8 p 0)) 0, need (p8 p 1 == 1 || p8 p 1 == 2) 1],
    run := fun _ p s =>
      match s.personalityRefused (p8 p 0) (p8 p 1) with
      | some st => .fail st
      | none => .done [] (s.setPersonality (p8 p 0) (p8 p 1)) }

/-- DSP_PERSONALITY_SET: R42, R43. -/
def execDspPersonalitySet (h : Hdr) (p : Bytes) (s : State) : Host.Outcome State Fault Refusal :=
  specDspPersonalitySet.direct h p s

/-- Another USP carries MGMT_USP (R310). -/
def State.otherMgmt (s : State) (p : Nat) : Bool :=
  (List.range 64).any (fun q => q != p && s.flag Reg.PRT_PORT_CFG_MGMT_USP q)

/-- PORT_MGMT_SET (0xC202). -/
def specPortMgmtSet : CmdSpec :=
  { opcode := 0xC202, priv := .admin, sub := 0x06, len := lenIs 2,
    locks := fun p s => s.get Reg.PRT_PORT_CFG_VDM_MGMT (p8 p 0) != bitsOf (p8 p 1) 0 1
      || s.get Reg.PRT_PORT_CFG_MGMT_USP (p8 p 0) != bitsOf (p8 p 1) 1 1,
    check := fun _ p s => firstBad [need (s.present (p8 p 0)) 0, need (s.isUsp (p8 p 0) || p8 p 1 % 4 == 0) 1],
    run := fun _ p s =>
      if bitOf (p8 p 1) 1 && s.otherMgmt (p8 p 0) then .fail stConflict
      else .done [] ((s.setJ Reg.PRT_PORT_CFG_VDM_MGMT (p8 p 0) (bitsOf (p8 p 1) 0 1)).setJ Reg.PRT_PORT_CFG_MGMT_USP (p8 p 0)
        (bitsOf (p8 p 1) 1 1)) }

/-- PORT_MGMT_SET: R310. -/
def execPortMgmtSet (h : Hdr) (p : Bytes) (s : State) : Host.Outcome State Fault Refusal := specPortMgmtSet.direct h p s

/-! ## Port reports (Table 11-8) -/

/-- The eight bytes of PORT_INFO for port `p`; a port bound to no vPPB names an open vPPB number. -/
def State.portEntry (s : State) (p : Nat) : Bytes :=
  let b := (s.bindsTo p).head?
  let vcs := (b.map (fun x => byte (x.1 / 32))).getD 0xFF
  let v := (b.map (fun x => byte (x.1 % 32))).getD (Config.freeByte s.fresh)
  [byte (s.get Reg.PRT_PORT_CFG_ROLE p), byte (s.get Reg.POL_DSP_CFG_PERSONALITY p), byte (s.get Reg.LNC_PORT_STATUS_LTSSM p),
   byte (s.get Reg.LNC_PORT_STATUS_WIDTH p), byte (s.get Reg.LNC_PORT_STATUS_RATE p), vcs, v,
   byte (s.get Reg.PRT_PORT_CFG_MGMT_USP p + 2 * s.get Reg.PRT_PORT_CFG_VDM_MGMT p + 4 * s.get Reg.PRT_PORT_CFG_PBR_EN p)]

/-- PORT_INFO (0xC200). -/
def specPortInfo : CmdSpec :=
  { opcode := 0xC200, priv := .observe, sub := 0x06, len := lenIs 0,
    run := fun _ _ s =>
      .done (slice ([byte s.presentPorts.length, byte s.usps.length]) 0 8 ++ ((List.range 64).map s.portEntry).flatten) s.drawn }

/-- PORT_INFO: R340. -/
def execPortInfo (h : Hdr) (p : Bytes) (s : State) : Host.Outcome State Fault Refusal := specPortInfo.direct h p s

/-- Uncorrectable and Correctable Error Status of function index `f` of VCS `u`. -/
def State.aerWords (s : State) (u f : Nat) : Bytes := leBytes 4 (s.aerOf u f).unc ++ leBytes 4 (s.aerOf u f).cor

/-- PORT_STATS (0xC204). -/
def specPortStats : CmdSpec :=
  { opcode := 0xC204, priv := .observe, sub := 0x06, len := lenIs 1,
    objects := fun p s => if s.isUsp (p8 p 0) then [p8 p 0] else [],
    check := fun _ p s => firstBad [need (s.present (p8 p 0)) 0],
    run := fun _ p s =>
      let q := p8 p 0
      let aer := if s.isUsp q then ((List.range 33).map (s.aerWords q)).flatten
        else match (s.bindsTo q).head? with
          | some b => s.aerWords (b.1 / 32) (1 + b.1 % 32)
          | none => []
      .done (leBytes 4 (s.word (0x06000300 + 4 * q)) ++ leBytes 4 (s.word (0x06000400 + 4 * q)) ++ leBytes 4 (s.word (0x06000500 + 4 * q))
        ++ aer) s }

/-- PORT_STATS: R340. -/
def execPortStats (h : Hdr) (p : Bytes) (s : State) : Host.Outcome State Fault Refusal := specPortStats.direct h p s

/-! ## Multicast (R334, R257) -/

/-- VCS `u` has MC_Enable set in a function. -/
def State.mcEnabled (s : State) (u : Nat) : Bool :=
  (s.mcOf u .usp).1 || (List.finRange 32).any (fun v => bindable v.val && (s.mcOf u (.vppb v)).1)

/-- A write of a group's entry: MEMBERS and VALID, POLICY kept. -/
def State.groupWrite (s : State) (g members : Nat) (valid : Bool) : Nat × Nat × Bytes :=
  (0x0701, 16 * g, leBytes 8 members ++ leBytes 1 (putBit (fieldAt (s.active 0x0701 (16 * g + 8) 1) 0 1) 0 valid))

/-- MC_GROUP_ALLOT (0xC203). -/
def specMcGroupAllot : CmdSpec :=
  { opcode := 0xC203, priv := .operate, sub := 0x06, len := lenIs 9,
    check := fun _ p s => firstBad [need (s.isUsp (p8 p 8)) 8],
    run := fun _ p s =>
      let u := p8 p 8
      let mask := p64 p 0
      let old := SMap.get s.prt.mcAllot u 0
      if mask = old then .done [] s
      else if s.mcEnabled u || s.prt.mcAllot.any (fun a => a.1 != u && a.2 &&& mask != 0) then .fail stConflict
      else
        let ws := ((List.range 64).filter (fun g => bitOf mask g != bitOf old g)).map (fun g => s.groupWrite g 0 (bitOf mask g))
        let s := { s with prt := { s.prt with mcAllot := SMap.store s.prt.mcAllot u mask 0 } }
        let s := s.journal (.mcAllot u mask)
        .waits (.modCommit s.tbl.nextMod) (s.moduleCommit 0 ws [] .nothing) }

/-- MC_GROUP_ALLOT: R334. -/
def execMcGroupAllot (h : Hdr) (p : Bytes) (s : State) : Host.Outcome State Fault Refusal := specMcGroupAllot.direct h p s

/-- Commits MEMBERS where a VCS's registers have changed them (R257). -/
def State.commitMembers (s : State) (u : Nat) : State :=
  let ws := s.mcWrites u
  if ws.isEmpty then s else s.moduleCommit 2 ws [] .nothing

/-- MULTICAST_CAP_WRITE: a host writes MC_Enable and MC_Receive; MC_Enable is ignored with no group allotted (R334, R257). -/
def execMulticastCapWrite (u : Port) (fn : McFn) (enable : Bool) (receive : BitVec 64) (s : State) :
    Host.Outcome State Fault Refusal :=
  let here : Bool := match fn with
    | .usp => true
    | .vppb v => bindable v.val
  .next (if s.isUsp u.val && here then
      let t := mcTarget fn
      let c := mcCap fn
      let s := if (s.mcGroups u.val).isEmpty then s
        else s.cfgStore u.val t (c + 7) (byte (putBit (s.cfgRead u.val t (c + 7) 1) 7 enable))
      let s := forEach (List.range 8) (fun i s => s.cfgStore u.val t (c + 0x10 + i) (byte (receive.toNat / 256 ^ i))) s
      s.commitMembers u.val
    else s)

/-! ## HDM decoders (R56, R57) -/

/-- Bytes of a table as they will stand once the module commits that wait have been made. -/
def State.prospective (s : State) (tid off len : Nat) : Bytes :=
  s.tbl.modq.foldl (fun b m => m.writes.foldl (fun b w =>
    if w.1 = tid ∧ off ≤ w.2.1 ∧ w.2.1 < off + len then overlayBytes b (w.2.1 - off) w.2.2
    else if w.1 = tid ∧ w.2.1 ≤ off ∧ off < w.2.1 + w.2.2.length then overlayBytes b 0 (w.2.2.drop (off - w.2.1))
    else b) b) (s.active tid off len)

/-- The decoders of USP `u` as they will stand. -/
def State.decodersOf (s : State) (u : Nat) : List (Nat × Decoder) :=
  let b := s.prospective (0x0A00 + u) 0 2048
  (List.range 64).map (fun i => (i, decoderOf (slice b (32 * i) 32)))

/-- 256 MiB. -/
def hdmUnit : Nat := 2 ^ 28

/-- The decoder meets R57 beside the other decoders of its USP. -/
def Decoder.fits (d : Decoder) (others : List Decoder) : Bool :=
  decide (d.iw ≤ 4) && decide (d.ig ≤ 6) && d.base % hdmUnit == 0 && d.size % hdmUnit == 0
    && decide (d.dpa + d.size / 2 ^ d.iw < 2 ^ 46)
    && others.all (fun o => !o.valid || decide (d.base + d.size ≤ o.base) || decide (o.base + o.size ≤ d.base))

/-- HDM_DECODER_COMMIT: R57. DPA_BASE follows the CXL rule: the end of the LD's decoder before it, plus the DPA skip. -/
def execHdmDecoderCommit (u : Port) (k : Fin 16) (d : Fin 4) (w : HdmWrite) (s : State) : Host.Outcome State Fault Refusal :=
  let i := 4 * k.val + d.val
  .next (if !s.isUsp u.val || !s.hasLd (16 * u.val + k.val) then s
    else
      let all := s.decodersOf u.val
      let before := (all.filter (fun x => 4 * k.val ≤ x.1 && x.1 < i && x.2.valid)).map (fun x => x.2.dpa + x.2.size / 2 ^ x.2.iw)
      let x : Decoder := { base := w.base, size := w.size, dpa := before.foldl max 0 + w.skip, iw := w.iw, ig := w.ig, valid := true }
      let key := 64 * u.val + i
      let old := SMap.get s.prt.hdm key (false, false)
      let put := fun (v : Bool × Bool) => { s with prt := { s.prt with hdm := SMap.store s.prt.hdm key v (false, false) } }
      if x.fits ((all.filter (fun y => y.1 != i)).map Prod.snd) then
        (put (old.1, false)).moduleCommit 2 [(0x0A00 + u.val, 32 * i, x.toBytes)] [] (.hdm u.val [i])
      else put (old.1, true))

/-! ## AER and DPC (R330, R331) -/

/-- The VCS of a function for whose error port `p` stands: the port's own VCS for a USP, that of the bound vPPB for a DSP. -/
def State.vcsOf (s : State) (p : Nat) (fn : CfgTarget) : Option Nat :=
  if s.isUsp p then some p
  else match fn with
    | .vppb v => ((s.bindsTo p).find? (fun b => b.1 % 32 == v.val)).map (fun b => b.1 / 32)
    | _ => none

/-- Logs an AER error: status bit, Header Log, the ERR_ message its enables allow, the event (R330). -/
def State.logAer (s : State) (p u : Nat) (fn : CfgTarget) (e : AerErr) : State :=
  let key := 2048 * u + cfgIndex fn
  let x := SMap.get s.prt.aer key AerSt.dflt
  let bit := 2 ^ e.bit.val
  let y := if e.correctable then { x with cor := x.cor ||| bit } else { x with unc := x.unc ||| bit, hdr := e.header.toNat }
  let ctl := s.cfgRead u fn 0x78 1
  let masked := bitOf (s.cfgRead u fn (if e.correctable then 0x114 else 0x108) 4) e.bit.val
  let hard := bitOf (s.cfgRead u fn 0x10C 4) e.bit.val
  let m : ErrMsg := if e.correctable then .cor else if hard then .fatal else .nonfatal
  let on := if e.correctable then bitOf ctl 0 else if hard then bitOf ctl 2 else bitOf ctl 1
  let s := { s with prt := { s.prt with aer := SMap.store s.prt.aer key y AerSt.dflt } }
  let s := if on && !masked then s.emit (.errMsg u fn m) else s
  s.report (0x0600 + p) (if e.correctable then corrected else contained) (if e.correctable then 0 else 1) [byte p]

/-- AER_ERROR: R330. -/
def execAerError (p : Port) (fn : CfgTarget) (e : AerErr) (s : State) : Host.Outcome State Fault Refusal :=
  .next (match s.vcsOf p.val fn with
    | some u => if s.cfgPresent u fn then s.logAer p.val u fn e else s
    | none => s)

/-- Puts vPPB `k` = 32u + v, bound to port `p`, in containment (R331). -/
def State.contain (s : State) (k p : Nat) (mld : Bool) : State :=
  let s := s.completeOut p k (s.dpcStatus k)
  let s := { s with prt := { s.prt with dpc := addNew k s.prt.dpc } }
  let s := if mld then s else s.disable p 3
  s.report (0x0600 + p) contained 2 [byte p]

/-- DPC_TRIGGER: R331. -/
def execDpcTrigger (u : Port) (vppb : Fin 32) (s : State) : Host.Outcome State Fault Refusal :=
  let k := 32 * u.val + vppb.val
  .next (match s.bindOf u.val vppb.val with
    | some b => if s.dpcEnabled k && !s.prt.dpc.contains k then s.contain k b.port b.ldId.isSome else s
    | none => s)

/-- The vPPB leaves containment: its link trains, or its LD goes on (R331). -/
def State.uncontain (s : State) (k : Nat) : State :=
  if s.prt.dpc.contains k then
    let s := { s with prt := { s.prt with dpc := s.prt.dpc.filter (· ≠ k) } }
    match s.bindOf (k / 32) (k % 32) with
    | some b => if b.ldId.isNone then s.enable b.port 3 else s
    | none => s
  else s

/-- DPC_STATUS_CLEAR: R331. -/
def execDpcStatusClear (u : Port) (vppb : Fin 32) (s : State) : Host.Outcome State Fault Refusal :=
  .next (s.uncontain (32 * u.val + vppb.val))

/-! ## IDE (R335, R336, R548) -/

/-- IDE_INTEGRITY_FAILURE: the stream becomes Insecure (R336). -/
def execIdeIntegrityFailure (p : Port) (s : State) : Host.Outcome State Fault Refusal :=
  .next (if (SMap.find s.hlm.ide (8 * p.val)).isSome then
      ((s.set Reg.HLM_IDE_CFG_STATE p.val 2).modPort p.val (fun x => { x with ideInsecure := true })).report (0x06C0 + p.val) contained 0
        [byte p.val]
    else s)

/-- IDE_REKEY_TIMER: HLM programs the unused key set of a DSP and issues K_SET_GO (R548). -/
def execIdeRekeyTimer (p : Port) (s : State) : Host.Outcome State Fault Refusal :=
  .next (match SMap.find s.hlm.ide (8 * p.val) with
    | some x =>
      if s.isDsp p.val && s.get Reg.HLM_IDE_CFG_STATE p.val == 1 && s.get Reg.HLM_IDE_CFG_REKEY_H p.val != 0 then
        let set := 1 - x.keySet
        let y : IdeStream := { keySet := set, keys := (set, leBytes 32 s.free) :: x.keys.filter (fun k => k.1 != set), rekeyTick := s.tick }
        ({ s with hlm := { s.hlm with ide := SMap.put s.hlm.ide (8 * p.val) y } }.drawn).emit (.ideKm p.val 1)
      else s
    | none => s)

/-- IDE_REQUIRED_RETRY: a REQUIRED port that withholds credits tries the exchange again (R548). -/
def execIdeRequiredRetry (p : Port) (r : IdeKm) (s : State) : Host.Outcome State Fault Refusal :=
  .next (if s.isDsp p.val && (s.port p.val).up && s.get Reg.HLM_IDE_CFG_STATE p.val == 3 then s.ideOutcome p.val r else s)

/-- IDE_STATUS (0xC930). -/
def specIdeStatus : CmdSpec :=
  { opcode := 0xC930, priv := .observe, sub := 0x0E, len := lenIs 1,
    check := fun _ p s => firstBad [need (s.present (p8 p 0)) 0],
    run := fun _ p s =>
      let x := SMap.get s.hlm.ide (8 * p8 p 0) IdeStream.dflt
      .done (leBytes 1 (s.get Reg.HLM_IDE_CFG_STATE (p8 p 0)) ++ leBytes 1 x.keySet ++ [0, 0]
        ++ leBytes 4 ((s.tick - x.rekeyTick) / cyclesUs 1000000)) s }

/-- IDE_STATUS: R553. -/
def execIdeStatus (h : Hdr) (p : Bytes) (s : State) : Host.Outcome State Fault Refusal := specIdeStatus.direct h p s

/-! ## Power management of links (R602 to R604) -/

/-- PASS DSPs bound in VCS `u` whose link is up. -/
def State.passDsps (s : State) (u : Nat) : List Nat :=
  ((s.prt.binds.filter (fun b => b.1 / 32 == u && (s.port b.2.port).up && !s.isPool b.2.port)).map (fun b => b.2.port)).dedup

/-- PME_TO_Ack goes upstream; the link may go to L2 (Table 15-7). -/
def State.pmeDone (s : State) (u : Nat) : State :=
  ((s.modPort u (fun x => { x with pmePend := [] })).set Reg.LNC_PORT_STATUS_LTSSM u 7).emit (.pmeAck u)

/-- PME_TURN_OFF: R604. -/
def execPmeTurnOff (u : Port) (s : State) : Host.Outcome State Fault Refusal :=
  .next (if s.isUsp u.val && (s.port u.val).up then
      let ds := s.passDsps u.val
      let s := s.emits (ds.map OutMsg.pmeOff)
      if ds.isEmpty then s.pmeDone u.val else s.modPort u.val (fun x => { x with pmePend := ds })
    else s)

/-- A PASS DSP acknowledges PME_Turn_Off. -/
def State.pmeAcked (s : State) (u p : Nat) : State :=
  if p ∈ (s.port u).pmePend then
    let s := s.modPort u (fun x => { x with pmePend := x.pmePend.filter (· ≠ p) })
    if (s.port u).pmePend.isEmpty then s.pmeDone u else s
  else s

/-- PME_ACK_TIMEOUT: R604, after 10 ms. -/
def execPmeAckTimeout (u : Port) (s : State) : Host.Outcome State Fault Refusal :=
  .next (if (s.port u.val).pmePend.isEmpty then s else s.pmeDone u.val)

/-- ASPM L1 is enabled in the Link Control of the USP function, or of the vPPB bound to a PASS DSP (Table 15-7). -/
def State.l1Enabled (s : State) (p : Nat) : Bool :=
  if s.isUsp p then bitOf (s.cfgRead p .usp 0x80 1) 1
  else match s.soleBind p with
    | some k => !s.isPool p && bitOf (s.cfgRead (k / 32) (.vppb (Fin.ofNat 32 (k % 32))) 0x80 1) 1
    | none => false

/-- A home transaction of USP `u` is open. -/
def State.homeOpen (s : State) (u : Nat) : Bool :=
  (List.range 8).any (fun i =>
    let x := s.homeSlice i
    x.txns.any (fun t => t.req.usp == some u) || (x.srcQ ++ x.retry ++ x.lineQ).any (fun r => r.usp == some u))

/-- ASPM_L1_IDLE: the module asks for L1 once the conditions of R603 are met. -/
def execAspmL1Idle (p : Port) (s : State) : Host.Outcome State Fault Refusal :=
  .next (if (s.port p.val).up && s.l1Enabled p.val && s.get Reg.LNC_PORT_STATUS_LTSSM p.val == ltL0
        && slotsOf s.prt.ioSlots 1024 p.val (fun x => x.user.isSome) == 0 && slotsOf s.prt.memSlots 4096 p.val (fun x => x.user.isSome) == 0
        && !(s.isUsp p.val && (s.homeOpen p.val || s.mov.ctxs.any (fun c => s.fnUsp c.fn == some p.val))) then
      ((s.modPort p.val (fun x => { x with l1 := true })).set Reg.LNC_PORT_STATUS_LTSSM p.val 6).emit (.aspmL1 p.val)
    else s)

/-! ## Resets of a VCS and of what is behind a vPPB (R333, R689) -/

/-- PORT_RESET: a hot reset of a USP takes its link down (R333). -/
def execPortReset (u : Port) (s : State) : Host.Outcome State Fault Refusal :=
  .next (if s.isUsp u.val then s.linkDown u.val else s)

/-- PERST_N_EDGE: the land of a USP deasserts, which starts training (R337, R364), or asserts, which is a PORT reset. The lands of
other ports are outputs or ignored (R689). -/
def execPerstNEdge (p : Port) (level : Bool) (s : State) : Host.Outcome State Fault Refusal :=
  .next (if s.isUsp p.val && (s.port p.val).perst != level then
      let s := (s.recordEvent (0x0600 + p.val) 3 [byte (b2n level)]).modPort p.val (fun x => { x with perst := level })
      if level then s.unpark p.val
      else if (s.port p.val).up then s.linkDown p.val
      else if s.mainUp then s.portReset p.val
      else s
    else s)

/-- Returns LD u.k's configuration, mailbox and decoders to reset values; requests take row 1 of Table 2-3 until a decoder is
committed again (R333). -/
def State.ldReset (s : State) (u : Nat) (k : Fin 16) : State :=
  let s := s.cfgResetFn u (.ld k)
  let s := { s with prt := { s.prt with hdm := s.prt.hdm.filter (fun x => x.1 / 4 != 16 * u + k.val) } }
  s.moduleCommit 2 [(0x0A00 + u, 128 * k.val, List.replicate 128 0)] [] .nothing

/-- A Secondary Bus Reset on a vPPB, by its kind (R333). -/
def State.secondaryReset (s : State) (u v : Nat) : State :=
  if v = 0 then s.initiateFlr (0x8000 + u)
  else if v = 1 then s.cfgResetFn u .mgmtPf
  else if v < 18 then (if s.hasLd (16 * u + v - 2) then s.ldReset u (Fin.ofNat 16 (v - 2)) else s)
  else match s.bindOf u v with
    | none => s
    | some b =>
      match b.ldId with
      | some ld => s.emit (.devCfg b.port 2 (leBytes 2 ld))
      | none => ((s.completeOut b.port (32 * u + v) .ur).linkCut b.port).train b.port

/-- SECONDARY_BUS_RESET: R333. -/
def execSecondaryBusReset (u : Port) (vppb : Fin 32) (s : State) : Host.Outcome State Fault Refusal :=
  .next (if s.isUsp u.val then s.secondaryReset u.val vppb.val else s)

/-- A host clears Link Disable on the vPPB bound to a port: the port leaves Disabled and the park (R364). -/
def State.linkEnable (s : State) (u v : Nat) : State :=
  match s.bindOf u v with
  | some b =>
    if b.ldId.isSome then s
    else if 7 ∈ (s.port b.port).disabledBy then s.enable b.port 7
    else if s.flag Reg.LNC_PORT_STATUS_PARKED b.port then s.unpark b.port
    else s
  | none => s

/-- LINK_DISABLE_CLEAR: R364. -/
def execLinkDisableClear (u : Port) (vppb : Fin 32) (s : State) : Host.Outcome State Fault Refusal :=
  .next (if s.isUsp u.val then s.linkEnable u.val vppb.val else s)

end Sys2Proof.Machine
end

