-- ==== Sys2Proof/Machine/Binding.lean ====
section
/-! DEFINITION. Binding: LDs created and destroyed, PASS devices bound and unbound, one operation at a time on each USP (R89 to
R93). -/

namespace Sys2Proof.Machine

/-! ## LDs (R91, R92) -/

/-- Creates LD `ld`: a hot-add on its vPPB, with no capacity. -/
def State.ldCreate (s : State) (ld : Nat) : State :=
  ((s.modPol (fun p => { p with lds := addNew ld p.lds })).journal (.ldCreate ld)).emit (.hotplug (ld / 16) (ld % 16 + 2) 3)

/-- LD `ld` holds an extent (R92). -/
def State.ldHolds (s : State) (ld : Nat) : Bool := s.validExtents.any (fun x => s.holdsExtent ld x.1)

/-- Share groups that LD `ld` is a member of. -/
def State.groupsOf (s : State) (ld : Nat) : List Nat := (List.range 1024).filter (s.member ld)

/-- Begins the removal of LD `ld`: step 3 of Table 2-9 for every extent it holds, its memberships and decoders in one commit. -/
def State.ldRemove (s : State) (ld : Nat) (bg : Option Nat) : State :=
  let mine := (s.validExtents.filter (fun x => !entShared x.2 && entOwner x.2 == ld)).map Prod.fst
  let r : Release := { id := s.pol.nextId, bgId := bg, ld := ld, extents := mine, waitHost := false, destroy := true,
                       leavers := (s.groupsOf ld).map (fun g => (ld, g)), joiners := [], asked := (0, 0) }
  let waiting := s.pol.releases.filter (fun x => x.waitHost && x.ld == ld)
  let s := forEach waiting (fun x s => (s.dropRelease x.id).endBg? x.bgId stSuccess []) s
  let gs := (s.pol.grants.map (fun g => { g with lds := g.lds.filter (· ≠ ld) })).filter (fun g => !(g.offered && g.lds.isEmpty))
  (s.modPol (fun p => { p with grants := gs })).bumpId.startRelease r false

/-- LD `ld` is gone: its function no longer answers; a forced removal is a surprise removal for the host. -/
def State.ldGone (s : State) (ld : Nat) : State :=
  let s := s.cfgResetFn (ld / 16) (.ld (Fin.ofNat 16 (ld % 16)))
  let s := { s with prt := { s.prt with hdm := s.prt.hdm.filter (fun x => x.1 / 4 != ld) } }
  (s.modPol (fun p => { p with lds := p.lds.filter (· ≠ ld) })).emit (.hotplug (ld / 16) (ld % 16 + 2) 8)

/-! ## Binding of PASS devices (R89, R90) -/

/-- LD ID of a bind: 0xFFFF for an SLD or PCIe device (CXL 3.1 FM API, log 24). -/
def bindLd (p : Bytes) : Option Nat := if p16 p 4 = 0xFFFF then none else some (p16 p 4)

/-- What forbids a bind: the vPPB or the port is not free for it, or the port is no PASS DSP. -/
def State.bindRefused (s : State) (u v p : Nat) (ld : Option Nat) : Bool :=
  !s.isDsp p || s.isPool p || (s.bindOf u v).isSome
    || (match ld with
        | none => !(s.bindsTo p).isEmpty
        | some d => (s.bindsTo p).any (fun b => b.2.isNone || b.2 == some d))

/-- Commits a bind. -/
def State.commitBind (s : State) (u v p : Nat) (ld : Option Nat) (id : Nat) : State :=
  let s := { s with prt := { s.prt with binds := SMap.put s.prt.binds (32 * u + v) { port := p, ldId := ld } } }
  let s := s.journal (.vppb u v (some (p, (ld.map (· + 1)).getD 0)))
  s.moduleCommit 0 ((hbrTable u, 0, s.hbrBytes u) :: s.mcWrites u) [] (.bind id)

/-- A device is gone by surprise (Table 2-10, R331): outstanding requests complete, the vPPB shows the change, DPC triggers when
enabled. -/
def State.surprise (s : State) (u v : Nat) : State :=
  match s.bindOf u v with
  | none => s
  | some b =>
    let k := 32 * u + v
    let s := ((s.completeOut b.port k .ur).slotEvent k 3).slotEvent k 8
    let s := s.report (0x0600 + b.port) contained 3 [byte b.port]
    if s.dpcEnabled k && !s.prt.dpc.contains k then s.contain k b.port b.ldId.isSome else s

/-! ## One operation at a time (R93) -/

/-- Marks the operation at the head of USP `u`'s queue. -/
def State.modBindOp (s : State) (u : Nat) (f : BindOp → BindOp) : State :=
  s.modPol (fun p => { p with bindOps := updFirst (fun o => o.usp == u) f p.bindOps })

/-- Removes the operation at the head of USP `u`'s queue. -/
def State.popBindOp (s : State) (u : Nat) : State := s.modPol (fun p => { p with bindOps := delFirst (fun o => o.usp == u) p.bindOps })

/-- Begins an operation: its status when it ends at once. -/
def State.beginBind (s : State) (o : BindOp) : State × Option Nat :=
  let u := o.usp
  let v := p8 o.params 1
  let ld := 16 * u + v
  match o.opcode with
  | 0xC410 => if s.hasLd ld then (s, some stConflict) else (s.ldCreate ld, some stSuccess)
  | 0xC411 =>
    if !s.hasLd ld || (s.ldHolds ld && !bitOf (p8 o.params 2) 0) then (s, some stConflict)
    else (s.ldRemove ld (if o.bgId = 0 then none else some o.bgId), none)
  | 0x5201 =>
    if s.bindRefused u v (p8 o.params 2) (bindLd o.params) then (s, some stConflict)
    else (s.commitBind u v (p8 o.params 2) (bindLd o.params) o.bgId, none)
  | _ =>
    match s.bindOf u v with
    | none => (s, some stConflict)
    | some b =>
      match p8 o.params 2 % 16 with
      | 0 =>
        if (s.port b.port).up then (s.modBindOp u (fun x => { x with linkDown := true }), none)
        else (s.commitUnbind u v o.bgId, none)
      | 1 => ((s.modBindOp u (fun x => { x with managed := true })).slotEvent (32 * u + v) 3, none)
      | _ => ((s.surprise u v).commitUnbind u v o.bgId, none)

/-- Runs the operations of USP `u` until one has to wait; `fuel` is the number queued. -/
def State.pumpBind : Nat → Nat → State → State
  | 0, _, s => s
  | fuel + 1, u, s =>
    match s.pol.bindOps.find? (fun o => o.usp == u) with
    | none => s
    | some o =>
      if o.started then s
      else
        match (s.modBindOp u (fun x => { x with started := true })).beginBind o with
        | (s, some st) => State.pumpBind fuel u ((s.popBindOp u).endBg? (if o.bgId = 0 then none else some o.bgId) st [])
        | (s, none) => s

/-- The next operation of USP `u`. -/
def State.nextBind (s : State) (u : Nat) : State := State.pumpBind (s.pol.bindOps.length + 1) u s

/-- A USP has an operation that runs or waits. -/
def State.bindBusy (s : State) (u : Nat) : Bool := s.pol.bindOps.any (fun o => o.usp == u)

/-- Queues an operation and runs it when its turn is now. -/
def State.queueBind (s : State) (u opcode bg : Nat) (params : Bytes) : State :=
  let o : BindOp := { usp := u, bgId := bg, opcode := opcode, params := params, managed := false, linkDown := false, started := false }
  (s.modPol (fun p => { p with bindOps := p.bindOps ++ [o] })).nextBind u

/-- The commit of a binding change has taken effect (R89): the host sees the change, the command ends, the next one runs. -/
def State.bindDone (s : State) (id : Nat) : State :=
  match s.pol.bindOps.find? (fun o => id != 0 && o.bgId == id && o.started) with
  | none => s
  | some o =>
    let k := 32 * o.usp + p8 o.params 1
    let s := if o.opcode = 0x5201 then (s.slotEvent k 3).slotEvent k 8 else s
    ((s.popBindOp o.usp).endBg? (some id) stSuccess []).nextBind o.usp

/-- The commit of a release has taken effect; that of a destroyed LD ends its operation (R92). -/
def State.releaseDone (s : State) (id : Nat) : State :=
  match s.pol.releases.find? (fun r => r.id == id) with
  | none => s
  | some r =>
    let s := s.finishAbort ((s.pol.relocs.filter (fun x => !entValid (s.entry x.extent))).map Reloc.extent)
    if r.destroy then
      let s := (s.finishRelease id).ldGone r.ld
      (s.popBindOp (r.ld / 16)).nextBind (r.ld / 16)
    else s.finishRelease id

/-- A managed hot remove of the vPPB is committed: the host has turned off its slot power (Table 2-10). -/
def State.managedOff (s : State) (u v : Nat) : State :=
  match s.pol.bindOps.find? (fun o => o.usp == u && o.managed && p8 o.params 1 == v) with
  | none => s
  | some o => (s.modBindOp u (fun x => { x with managed := false })).commitUnbind u v o.bgId

/-- MANAGED_REMOVE_TIMEOUT: after 60 s the command ends with TIMEOUT and the binding stays (Table 2-10). -/
def execManagedRemoveTimeout (u : Port) (vppb : Fin 32) (s : State) : Host.Outcome State Fault Refusal :=
  .next (match s.pol.bindOps.find? (fun o => o.usp == u.val && o.managed && p8 o.params 1 == vppb.val) with
    | none => s
    | some o => (((s.timerInput 1).popBindOp u.val).endBg o.bgId stTimeout []).nextBind u.val)

/-- SURPRISE_HOT_REMOVE: commits the unbind at once (Table 2-10, R331). -/
def execSurpriseHotRemove (u : Port) (vppb : Fin 32) (s : State) : Host.Outcome State Fault Refusal :=
  .next ((s.surprise u.val vppb.val).commitUnbind u.val vppb.val 0)

/-! ## Commands (Table 11-8) -/

/-- The LD that parameters USP and k name. -/
def ldParam (p : Bytes) : Nat := 16 * p8 p 0 + p8 p 1

/-- LD_CREATE (0xC410). -/
def specLdCreate : CmdSpec :=
  { opcode := 0xC410, priv := .operate, sub := 0x0A, len := lenIs 2,
    check := fun _ p s => firstBad [need (s.isUsp (p8 p 0)) 0, need (p8 p 1 < 16) 1],
    run := fun _ p s =>
      if s.bindBusy (p8 p 0) then .started (s.queueBind (p8 p 0) 0xC410 s.cmd.nextBg p) false
      else if s.hasLd (ldParam p) then .fail stConflict
      else .done [] (s.ldCreate (ldParam p)) }

/-- LD_CREATE: R91, R93. -/
def execLdCreate (h : Hdr) (p : Bytes) (s : State) : Host.Outcome State Fault Refusal := specLdCreate.direct h p s

/-- LD_DESTROY (0xC411): in the foreground without FORCE unless it is queued. -/
def specLdDestroy : CmdSpec :=
  { opcode := 0xC411, priv := .operate, sub := 0x0A, len := lenIs 3,
    check := fun _ p s => firstBad [need (s.isUsp (p8 p 0)) 0, need (p8 p 1 < 16) 1],
    run := fun _ p s =>
      if s.bindBusy (p8 p 0) then .started (s.queueBind (p8 p 0) 0xC411 s.cmd.nextBg p) false
      else if !s.hasLd (ldParam p) || (s.ldHolds (ldParam p) && !bitOf (p8 p 2) 0) then .fail stConflict
      else if bitOf (p8 p 2) 0 then .started (s.queueBind (p8 p 0) 0xC411 s.cmd.nextBg p) true
      else .waits (.modCommit s.tbl.nextMod) (s.queueBind (p8 p 0) 0xC411 0 p) }

/-- LD_DESTROY: R92, R93. -/
def execLdDestroy (h : Hdr) (p : Bytes) (s : State) : Host.Outcome State Fault Refusal := specLdDestroy.direct h p s

end Sys2Proof.Machine
end

