-- ==== Sys2Proof/Machine/Resets.lean ====
section
/-! DEFINITION. What the resets of the module do to its state (Table 15-5, R591, R711): the main domain loses power or is reset; what a
start resets in the standby domain. -/

namespace Sys2Proof.Machine

/-- The subsystem whose window holds the field with this key. -/
def keySub (k : Nat) : Nat := k / 32 / 0x1000000

/-- A register field outlives the loss or reset of the main domain: the standby domain's; TWIN_B, a strap; of SPC the inputs, or all at
WARM; at WARM a freeze of the Transcript and the retired planes (Table 15-5, R711). -/
def keepsMain (warm : Bool) (k : Nat) : Bool :=
  standbyIds.contains (keySub k) || k == Reg.SEM_TWIN_STATUS_TWIN_B.key 0
    || (keySub k == 0x02 && (warm || k == Reg.SPC_BUS_STATUS_VOLTS.key 0 || k == Reg.SPC_BUS_STATUS_OK.key 0
      || (List.range 16).any (fun n => k == Reg.SPC_CH_STATUS_PRSNT_RAW.key n)))
    || (warm && (k == Reg.REC_STATUS_FROZEN.key 0 || k == Reg.XBR_PLANE_STATUS_FAILED.key 0))

/-- Ports after the main domain was down: links down; the PERST_N lands keep their level. -/
def Prt.afterReset (p : Prt) : Prt :=
  let q : PortSt := { PortSt.dflt with perst := true }
  let high := (p.ports.filter (fun (x : Nat × PortSt) => x.2.perst)).map (fun (x : Nat × PortSt) => (x.1, q))
  { Prt.reset with ports := high }

/-- The vault and the SRAM: a WARM reset keeps formed bits, contents and remap; otherwise every page is unformed (R449, R450). -/
def Vlt.afterReset (v : Vlt) (warm : Bool) : Vlt :=
  if warm then { v with crucible := [], flips := [], banks := [], annealRunning := false } else Vlt.reset

/-- The Transcript: WARM keeps it and its SEQ (R568, R579). -/
def Rec.afterReset (t : Rec) (warm : Bool) : Rec :=
  if warm then { t with replay := none, lastReplay := none, bufBytes := 0 } else Rec.reset

/-- The commit engine's tables after the main domain was down: WARM keeps the plane map (Table 15-5). -/
def State.tablesAfterReset (s : State) (warm : Bool) : Tbl :=
  let m := (s.active 0x0700 0 4)
  let x : TableSt := { TableSt.dflt with active := bankWrite 0x0700 [] 0 m, shadow := bankWrite 0x0700 [] 0 m }
  if warm then { Tbl.reset with tables := SMap.store [] 0x0700 x TableSt.dflt }
  else Tbl.reset

/-- The main domain loses its state: it is unpowered, or a WARM reset holds it in reset (R14, R591, Table 15-5). -/
def State.mainReset (s : State) (warm : Bool) : State :=
  { s with
    regs := s.regs.filter (fun (r : Nat × Nat) => keepsMain warm r.1)
    spc := if warm then s.spc else { s.spc with chans := [] }
    tbl := s.tablesAfterReset warm
    pol := Pol.reset
    dir := if warm then { Dir.reset with entries := s.dir.entries } else Dir.reset
    prt := s.prt.afterReset
    mov := Mov.reset
    xbr := Xbr.reset
    sch := { Sch.reset with archive := if warm then s.sch.archive else [] }
    lnc := Lnc.reset
    sem := Sem.reset
    vlt := s.vlt.afterReset warm
    trec := s.trec.afterReset warm
    cmd := { s.cmd with mbx := Mailbox.reset }
    hlm := { s.hlm with ide := [], migKeys := [] }
    flt := { s.flt with vaultInject := [], hchkInject := [], cplDropInject := [], cplDropped := [] } }

/-- A Quench slot at a MODULE start: its reversible actions end; QUENCHED and SETTLED become OBSERVE (R501). -/
def QSlot.afterReset (q : QSlot) : QSlot :=
  { q with holds := [], state := match q.state with
    | .grace => .grace
    | _ => .observe }

/-- The fault collector at a MODULE start (Table 15-5, R501, R508): history, counters and status stay; actions and safe states end. -/
def Flt.afterModule (f : Flt) : Flt :=
  { f with
    slots := (f.slots.map (fun (q : Nat × QSlot) => (q.1, q.2.afterReset))).filter
      (fun (q : Nat × QSlot) => !(q.2.state == .observe && q.2.promo == 0))
    slotless := [], safeSlices := 0, safeMover := false, safePorts := [] }

/-- The fault collector at a COLD start: all but the dump is lost; the history copy goes to the standby-domain buffer (R496). -/
def Flt.afterCold (f : Flt) : Flt := { Flt.reset with waiting := f.waiting, dump := f.dump, lossBuf := f.lossSlot }

/-- The journal at the start that carries JOURNAL_CLEAR out: retirements, SRAM repairs and failed pseudo-channels stay (R611). -/
def JRec.keptByClear : JRec → Bool
  | .retire _ _ _ | .sramRow _ _ | .sramBank _ _ | .pcFail _ => true
  | _ => false

/-- JOURNAL_CLEAR is marked: the newest mark sets it. -/
def Journal.marked (j : Journal) : Bool :=
  ((j.flash ++ j.buf).reverse.findSome? (fun r => match r with
    | .clear on => some on
    | _ => none)).getD false

/-- Empties a marked journal. -/
def Journal.cleared (j : Journal) : Journal :=
  if j.marked then { flash := j.flash.filter JRec.keptByClear, buf := j.buf.filter JRec.keptByClear, bad := none } else j

/-- What every start resets beside the main domain: commands and sessions are lost, the reset cause and the start's own marks begin anew,
a journal marked for it is emptied. -/
def State.startReset (s : State) (kind trigger source : Nat) (warm : Bool) : State :=
  let s := ((s.set Reg.CLK_RST_CAUSE_KIND 0 kind).set Reg.CLK_RST_CAUSE_TRIGGER 0 trigger).set Reg.CLK_RST_CAUSE_SOURCE 0 source
  let s := (s.set Reg.CLK_START_TIME_RELEASE_MS 0 0xFFFF).set Reg.CLK_START_TIME_READY_MS 0 0xFFFF
  let s := (s.setFlag Reg.CLK_JOURNAL_CLEAR_PEND 0 false).setFlag Reg.TIM_STATUS_ANCHORED 0 false
  let s := forEach (List.range 64) (fun p s => s.set Reg.HLM_IDE_CFG_STATE p 0) s
  { s with
    cmd := { Cmd.reset with nextBg := s.cmd.nextBg }
    hlm := { s.hlm with sessions := [], verifying := none }
    jnl := s.jnl.cleared
    clk := { s.clk with startPend := none, warm := warm, startTick := s.tick, commanded := false, bootWritten := false,
                        lockApplied := false, startRecord := false, checkpointed := false, modReady := false, gated := false } }

end Sys2Proof.Machine
end

