-- ==== Sys2Proof/Machine/Power.lean ====
section
/-! DEFINITION. Feed front end and module power (R616 to R649): feed qualification, switchover, hold-up, breaker, trips, rails. -/

namespace Sys2Proof.Machine

/-- Changes the feed front end. -/
def State.modPfe (s : State) (f : Pfe → Pfe) : State := { s with pfe := f s.pfe }

/-- The monitor state of feed `f`. -/
def Pfe.feed (p : Pfe) (f : Nat) : FeedState := p.feeds.getD f { tenthV := 0, uvOk := false, ovOk := true, everRange := false }

/-- Changes the monitor state of feed `f`. -/
def State.setFeed (s : State) (f : Nat) (x : FeedState) : State := s.modPfe (fun p => { p with feeds := p.feeds.set f x })

/-- Feed `f` is in range (R618). -/
def State.feedInRange (s : State) (f : Nat) : Bool := (s.pfe.feed f).uvOk && (s.pfe.feed f).ovOk

/-- Feed `f` is qualified (R619). -/
def State.feedOk (s : State) (f : Nat) : Bool :=
  if f = 0 then s.flag Reg.PFE_STATUS_FEED_A_OK else s.flag Reg.PFE_STATUS_FEED_B_OK

/-- Sets or clears a feed's qualification. -/
def State.setFeedOk (s : State) (f : Nat) (b : Bool) : State :=
  if f = 0 then s.setFlag Reg.PFE_STATUS_FEED_A_OK 0 b else s.setFlag Reg.PFE_STATUS_FEED_B_OK 0 b

/-- Feed `f`'s path has failed to close (R624). -/
def State.feedUnusable (s : State) (f : Nat) : Bool := bitOf (s.get Reg.PFE_STATUS_UNUSABLE) f

/-- The other feed. -/
def otherFeed (f : Feed) : Feed := if f = 0 then 1 else 0

/-- The preferred feed (R621). -/
def State.preferred (s : State) : Feed := if s.flag Reg.PFE_FEED_CTL_PRIO then 1 else 0

/-- PFE may close a feed now: no imminent loss, no cool-down, no latch (R627, R635). -/
def State.mayClose (s : State) : Bool := !s.pfe.imminent && !s.pfe.coolDown && !s.pfe.latched

/-- Closes the pair of feed `f`: the other pair is open, VBUS settles under foldback (R620, R622, R629). -/
def State.closeFeed (s : State) (f : Feed) : State :=
  s.modPfe (fun p => { p with closed := some f, settling := true, want := none })

/-- Opens the closed pair (R622 steps 1 and 2). -/
def State.openFeed (s : State) : State := s.modPfe (fun p => { p with closed := none, settling := false })

/-- The pair of feed `f` opens because the feed left range; the other feed, if qualified and usable, is to be closed (R622). -/
def State.feedLost (s : State) (f : Feed) : State :=
  if s.pfe.closed = some f then
    let o := otherFeed f
    if s.feedOk o.val && !s.feedUnusable o.val && s.mayClose then s.modPfe (fun p => { p with want := some o })
    else s.openFeed
  else s

/-- With no pair closed, closes a qualified feed, the preferred one first (R621). -/
def State.closeQualified (s : State) : State :=
  let can := fun (f : Feed) => s.feedOk f.val && !s.feedUnusable f.val && s.mayClose && s.pfe.closed.isNone
  let g := s.preferred
  if can g then s.closeFeed g else if can (otherFeed g) then s.closeFeed (otherFeed g) else s

/-- Main rails off in reverse order (R641): the main domain and the slot channels are down, PWRGD_OUT and MOD_READY low (R14). -/
def State.mainOff (s : State) : State :=
  let s := forEach (List.range 8).reverse
    (fun r s => (s.setFlag Reg.PFE_RAIL_IN_WINDOW r false).set Reg.PFE_RAIL_MV r 0) s
  let s := (s.setFlag Reg.PFE_STATUS_PWRGD 0 false).setFlag Reg.PFE_STATUS_MAIN_ON 0 false
  let s := (s.modPfe (fun p => { p with pwrgdQual := false })).mainReset false
  let ph := if s.clk.phase = .off then Phase.off else Phase.standby
  let s := { s with flt := { s.flt with flush := s.flt.flush.map (fun (x : Flush) => { x with noMain := true }) } }
  { s with clk := { s.clk with modReady := false, phase := ph } }

/-- Trips in the last 10 minutes, 480 × 10^9 cycles (R635). -/
def State.recentTrips (s : State) : List Nat := s.pfe.tripTicks.filter (fun t => s.tick < t + 480000000000)

/-- Latches a cause in PFE_LAST_TRIP (Table 16-10). -/
def State.latchTrip (s : State) (cause rail : Nat) : State :=
  let s := (s.set Reg.PFE_LAST_TRIP_CAUSE 0 cause).set Reg.PFE_LAST_TRIP_RAIL 0 rail
  let s := s.set Reg.PFE_LAST_TRIP_FEED 0 (match s.pfe.closed with | some f => f.val | none => s.get Reg.PFE_STATUS_ACTIVE)
  let s := (s.set Reg.PFE_LAST_TRIP_COUNT 0 (min 15 s.recentTrips.length)).setFlag Reg.PFE_LAST_TRIP_VALID 0 true
  s.modPfe (fun p => { p with pendReport := some (BitVec.ofNat 32 (s.word 0x01000194)) })

/-- Imminent loss (R627): PWRGD_OUT low, main rails off, FATAL 0x0109. -/
def State.imminentLoss (s : State) : State :=
  ((s.modPfe (fun p => { p with imminent := true })).mainOff).report 0x0109 fatal 0 []

/-- A feed trip (R634): the pair opens, the other feed is blocked, imminent loss, the cause latched, FATAL 0x0110. -/
def State.feedTrip (s : State) (cause : Nat) : State :=
  let s := s.modPfe (fun p => { p with tripTicks := s.tick :: s.recentTrips })
  let s := s.latchTrip cause 0
  let s := s.openFeed.modPfe (fun p => { p with coolDown := true, want := none })
  (s.setFlag Reg.PFE_STATUS_LIMITING 0 false).imminentLoss.report 0x0110 fatal cause []

/-! ## Feed events -/

/-- R618, R619, R622: a comparator crossing. A feed that leaves range loses its qualification at once and is reported. -/
def execFeedRangeChange (f : Feed) (tenthV : Nat) (s : State) : Host.Outcome State Fault Refusal :=
  let x := s.pfe.feed f.val
  let uv := s.get Reg.PFE_FEED_THR_UV_FALL f.val + (if x.uvOk then 0 else s.get Reg.PFE_FEED_THR_UV_HYST f.val)
  let ov := s.get Reg.PFE_FEED_THR_OV_RISE f.val - (if x.ovOk then 0 else 10)
  let y : FeedState := { tenthV := tenthV, uvOk := decide (uv < tenthV), ovOk := decide (tenthV < ov),
                         everRange := x.everRange || decide (70 ≤ tenthV) }
  let was := x.uvOk && x.ovOk
  let s := (s.setFeed f.val y).set Reg.PFE_FEED_MON_VOLTS f.val (min 4095 (5 * tenthV))
  .next (if was && !(y.uvOk && y.ovOk) then
      ((s.setFeedOk f.val false).report (0x0100 + f.val) corrected (if y.uvOk then 2 else 1) [byte f.val]).feedLost f
    else s)

/-- R619 to R621, R626: a feed has stayed in range for the qualification time; PFE closes it when no pair is closed, or asks
for the return to the preferred feed under R621 by FEED_RETURN. -/
def execFeedQualified (f : Feed) (s : State) : Host.Outcome State Fault Refusal :=
  .next (if s.feedInRange f.val && !s.feedOk f.val then
      let s := s.setFeedOk f.val true
      if s.pfe.closed.isNone && s.mayClose && !s.feedUnusable f.val then s.closeFeed f else s
    else s)

/-- R622: the switchover that has been asked for, break before make. If the feed it goes to is no longer qualified, PFE closes
nothing. -/
def execSwitchover (s : State) : Host.Outcome State Fault Refusal :=
  .next (match s.pfe.want with
    | none => s
    | some g =>
      let s := s.openFeed.modPfe (fun p => { p with want := none })
      if s.feedOk g.val && !s.feedUnusable g.val && s.mayClose then s.closeFeed g else s)

/-- R621: the preferred feed has been qualified for RETURN_MS while the other is active. -/
def execFeedReturn (s : State) : Host.Outcome State Fault Refusal :=
  let g := s.preferred
  .next (if s.flag Reg.PFE_FEED_CTL_RETURN_EN && s.feedOk g.val && !s.feedUnusable g.val && s.mayClose
      && s.pfe.closed == some (otherFeed g) && !s.pfe.settling then
      s.openFeed.closeFeed g
    else s)

/-- R623: more than 2 A toward the feed for 1 µs counts the feed out of range; its qualification restarts. -/
def execReverseCurrent (f : Feed) (s : State) : Host.Outcome State Fault Refusal :=
  .next (if s.pfe.closed = some f then
      ((s.setFeedOk f.val false).report (0x0100 + f.val) corrected 3 [byte f.val]).feedLost f
    else s)

/-- R624: VBUS did not come up below the foldback limit: the pair opens and the feed is unusable until the next COLD start. -/
def execFeedCloseFail (f : Feed) (s : State) : Host.Outcome State Fault Refusal :=
  .next (if s.pfe.closed = some f ∧ s.pfe.settling then
      let s := s.set Reg.PFE_STATUS_UNUSABLE 0 (s.get Reg.PFE_STATUS_UNUSABLE ||| 2 ^ f.val)
      let s := (s.openFeed).report (0x0104 + f.val) contained 0 [byte f.val]
      let o := otherFeed f
      if s.feedOk o.val && !s.feedUnusable o.val && s.mayClose then s.closeFeed o else s
    else s)

/-- R630, R641, R622: VBUS is within 0.5 V of the closed feed: LIMITING clears, ACTIVE names it, a ride-through ends; at a
first charge the standby rails rise and the hold-up charger starts. -/
def execInrushComplete (s : State) : Host.Outcome State Fault Refusal :=
  .next (match s.pfe.closed with
    | none => s
    | some f =>
      if s.pfe.settling then
        let s := (s.setFlag Reg.PFE_STATUS_LIMITING 0 false).set Reg.PFE_STATUS_ACTIVE 0 f.val
        let s := s.setFlag Reg.PFE_STATUS_ON_HOLDUP 0 false
        let s := forEach [(8, 800), (9, 1800), (10, 3300)]
          (fun r s => (s.set Reg.PFE_RAIL_MV r.1 r.2).setFlag Reg.PFE_RAIL_IN_WINDOW r.1 true) s
        s.modPfe (fun p => { p with settling := false, vbusUp := true, standbyOn := true,
                                    charging := !s.flag Reg.PFE_STATUS_HU_READY })
      else s)

/-- R630, R634: VBUS stayed more than 0.5 V below the feed for INRUSH_MAX: a trip with cause 3. -/
def execInrushTimeout (s : State) : Host.Outcome State Fault Refusal :=
  .next (if s.pfe.closed.isSome && s.pfe.settling then s.feedTrip 3 else s)

/-! ## Hold-up -/

/-- R625: VHU reaches 48.0 V: HU_READY sets and C_EST follows from the charge time at 4 W; a running PFE_HOLDUP_TEST, which
recharged from 45.0 V, ends with the estimate. -/
def execHoldupCharged (chargeUs : Nat) (s : State) : Host.Outcome State Fault Refusal :=
  .next (if s.pfe.charging then
      let est := min 4095 (if s.pfe.holdupTest.isSome then chargeUs * 4 / 1395 else chargeUs / 2880)
      let s := (s.setFlag Reg.PFE_STATUS_HU_READY 0 true).set Reg.PFE_HU_C_EST 0 est
      let s := s.set Reg.PFE_HU_VOLTS 0 2400
      let t := s.pfe.holdupTest
      (s.modPfe (fun p => { p with charging := false, holdupTest := none })).endBg? t stSuccess (leBytes 2 est)
    else s)

/-- R625: HU_READY still 0 after 5 s of charging, or an estimate below 1,000 µF: CORRECTED 0x010A. -/
def execHoldupChargeCheck (charge5s : Bool) (s : State) : Host.Outcome State Fault Refusal :=
  let ready := s.flag Reg.PFE_STATUS_HU_READY
  .next (if (charge5s && !ready && s.pfe.charging) || (ready && decide (s.get Reg.PFE_HU_C_EST < 100)) then
      s.report 0x010A corrected 0 []
    else s)

/-- R626: no feed is qualified and VBUS has fallen to 8.0 V: the discharge converter supplies VBUS. -/
def execRideThrough (s : State) : Host.Outcome State Fault Refusal :=
  .next (if s.pfe.vbusUp && s.pfe.closed.isNone && !s.feedOk 0 && !s.feedOk 1 && !s.flag Reg.PFE_STATUS_ON_HOLDUP then
      (s.setFlag Reg.PFE_STATUS_ON_HOLDUP 0 true).report 0x0108 corrected 0 []
    else s)

/-- R627: VHU has fallen to 30.0 V with no feed closed. -/
def execImminentLoss (s : State) : Host.Outcome State Fault Refusal :=
  .next (if s.pfe.vbusUp && s.pfe.closed.isNone && !s.pfe.imminent then
      ((s.latchTrip 5 0).imminentLoss)
    else s)

/-- R627: VHU at 20.0 V: the standby domain turns off; only a COLD start follows. Journal records still in the buffer and events not
accepted are lost (R108); a feed that failed to close may be tried again (R624). A feed that has qualified meanwhile is closed now, the
preferred one first (Table 16-9). -/
def execStandbyDomainOff (s : State) : Host.Outcome State Fault Refusal :=
  .next (if s.pfe.vbusUp && s.pfe.imminent then
      let s := forEach [8, 9, 10] (fun r s => (s.set Reg.PFE_RAIL_MV r 0).setFlag Reg.PFE_RAIL_IN_WINDOW r false) s
      let s := (s.setFlag Reg.PFE_STATUS_ON_HOLDUP 0 false).setFlag Reg.PFE_STATUS_HU_READY 0 false
      let s := s.modPfe (fun p => { p with vbusUp := false, standbyOn := false, imminent := false, charging := false,
                                           holdupTest := none })
      let s := s.set Reg.PFE_STATUS_UNUSABLE 0 0
      { s with clk := { s.clk with phase := .off, modReady := false, startPend := none }, jnl := { s.jnl with buf := [] },
               flt := { s.flt with waiting := [] } }.closeQualified
    else s)

/-- R617, R635: both feeds are below 7 V: the supervisor loses its settings, PFE_LAST_TRIP and its trip latch. -/
def execSupervisorPowerLoss (s : State) : Host.Outcome State Fault Refusal :=
  .next (if (s.pfe.feed 0).tenthV < 70 ∧ (s.pfe.feed 1).tenthV < 70 then
      let regs := s.regs.filter (fun r =>
        let a := r.1 / 32
        !(0x01000100 ≤ a && a < 0x01000180) && !(a == 0x01000194))
      ({ s with regs := regs }).modPfe (fun p => { p with latched := false, coolDown := false, tripTicks := [] })
    else s)

/-! ## Breaker and trips -/

/-- Time of a breaker point in microseconds (Table 16-10: UNIT). -/
def pointUs (time unit : Nat) : Nat := time * 10 ^ unit

/-- The highest valid point of a curve that the current reaches; while limiting, the highest valid point. A point is current
(0.1 A), time in µs. -/
def reached (pts : List (Nat × Nat)) (limiting : Bool) (i : Nat) : Option (Nat × Nat) :=
  if limiting then pts.getLast? else (pts.filter (fun p => p.1 ≤ i)).getLast?

/-- One evaluation of the accumulator (R632): the new value, and whether some point is reached. -/
def accStep (pts : List (Nat × Nat)) (limiting : Bool) (i acc decayMs : Nat) : Nat × Bool :=
  match reached pts limiting i with
  | some p => (acc + (if p.2 = 0 then Config.zeroTimeStep else 2 ^ 32 / p.2), true)
  | none => (acc - 2 ^ 32 / (decayMs * 1000), false)

/-- The valid points of the feed breaker, ascending. -/
def State.feedPoints (s : State) : List (Nat × Nat) :=
  (List.range 16).filterMap (fun k => if s.flag Reg.PFE_BKR_PT_VALID k then
    some (s.get Reg.PFE_BKR_PT_CURRENT k, pointUs (s.get Reg.PFE_BKR_PT_TIME k) (s.get Reg.PFE_BKR_PT_UNIT k)) else none)

/-- R632, R637: the evaluation of each microsecond. A curve that reaches 2^32 trips with cause 2. -/
def execBreakerEvaluation (tenthA : Nat) (s : State) : Host.Outcome State Fault Refusal :=
  .next (match s.pfe.closed with
    | none => s
    | some f =>
      let lim := decide (s.get Reg.PFE_BKR_CTL_I_LIM ≤ tenthA)
      let r := accStep s.feedPoints lim tenthA (s.get Reg.PFE_ACC) (s.get Reg.PFE_BKR_CTL2_DECAY_MS)
      let s := (s.setFlag Reg.PFE_STATUS_LIMITING 0 lim).set Reg.PFE_FEED_MON_AMPS f.val (min 4095 tenthA)
      let idle := r.1 == 0 && !r.2
      let s := (s.set Reg.PFE_ACC 0 (min r.1 (2 ^ 32 - 1))).setFlag Reg.PFE_STATUS_ACC_IDLE 0 idle
      let s := s.modPfe (fun p => { p with pwrgdQual := idle && s.flag Reg.PFE_STATUS_MAIN_ON })
      if 2 ^ 32 ≤ r.1 then s.feedTrip 2 else s)

/-- R634: a trip with the cause the supervisor found (1 fast, 2 curve, 3 inrush). -/
def execTrip (cause : Fin 4) (s : State) : Host.Outcome State Fault Refusal :=
  .next (if s.pfe.closed.isSome && cause.val != 0 then s.feedTrip cause.val else s)

/-- R633: the current reaches FAST_TRIP. -/
def execFastTrip (tenthA : Nat) (s : State) : Host.Outcome State Fault Refusal :=
  .next (if s.pfe.closed.isSome && decide (s.get Reg.PFE_BKR_CTL_FAST_TRIP ≤ tenthA) then s.feedTrip 1 else s)

/-- R635: after COOL_S the feeds may qualify and close again, or the trip latches. -/
def execCoolDownEnd (s : State) : Host.Outcome State Fault Refusal :=
  .next (if s.pfe.coolDown then
      let m := s.get Reg.PFE_BKR_CTL2_RETRY_MAX
      let retry := s.flag Reg.PFE_BKR_CTL2_RETRY_EN && (m == 0 || decide (s.recentTrips.length < m))
      let s := (s.setFeedOk 0 false).setFeedOk 1 false
      s.modPfe (fun p => { p with coolDown := false, latched := !retry })
    else s)

/-- R640: a rail stayed outside its window for 5 µs while it should be in window. -/
def execRailFault (r : Fin 11) (s : State) : Host.Outcome State Fault Refusal :=
  .next (if s.flag Reg.PFE_RAIL_IN_WINDOW r.val then
      let s := s.latchTrip 4 r.val
      let s := (s.setFlag Reg.PFE_RAIL_IN_WINDOW r.val false).mainOff
      s.report (0x0118 + r.val) fatal 0 [byte r.val]
    else s)

/-- R637: every rail in window and the accumulator idle through the 1 ms window: PWRGD_OUT asserts. -/
def execPwrgdQualify (s : State) : Host.Outcome State Fault Refusal :=
  .next (if (List.range 11).all (fun r => s.flag Reg.PFE_RAIL_IN_WINDOW r) && s.flag Reg.PFE_STATUS_ACC_IDLE
      && s.pfe.pwrgdQual then
      (s.setFlag Reg.PFE_STATUS_PWRGD 0 true).modPfe (fun p => { p with pwrgdQual := false })
    else s)

/-! ## Commands of Table 16-11 -/

/-- PFE_INFO (0xC100). -/
def specPfeInfo : CmdSpec :=
  { opcode := 0xC100, priv := .observe, sub := 0x01, len := lenIs 0,
    run := fun _ _ s => .done (s.words 0x01000180 6 ++ s.words 0x01000200 11) s }

/-- PFE_INFO: R647. -/
def execPfeInfo (h : Hdr) (p : Bytes) (s : State) : Host.Outcome State Fault Refusal := specPfeInfo.direct h p s

/-- PFE_SWITCH (0xC101): R622, CONFLICT when the other feed is not qualified or a switchover runs. -/
def specPfeSwitch : CmdSpec :=
  { opcode := 0xC101, priv := .operate, sub := 0x01, len := lenIs 0,
    run := fun _ _ s =>
      match s.pfe.closed with
      | none => .fail stConflict
      | some f =>
        let o := otherFeed f
        if s.feedOk o.val && !s.feedUnusable o.val && s.pfe.want.isNone && !s.pfe.settling then
          .done [] (s.modPfe (fun p => { p with want := some o }))
        else .fail stConflict }

/-- PFE_SWITCH: R647. -/
def execPfeSwitch (h : Hdr) (p : Bytes) (s : State) : Host.Outcome State Fault Refusal := specPfeSwitch.direct h p s

/-- PFE_HOLDUP_TEST (0xC102): VHU is discharged to 45.0 V into VBUS and recharged; HOLDUP_CHARGED ends it. -/
def specPfeHoldupTest : CmdSpec :=
  { opcode := 0xC102, priv := .admin, sub := 0x01, len := lenIs 0,
    run := fun _ _ s =>
      if s.flag Reg.PFE_STATUS_ON_HOLDUP || s.pfe.holdupTest.isSome then .fail stConflict
      else .started (((s.setFlag Reg.PFE_STATUS_HU_READY 0 false).set Reg.PFE_HU_VOLTS 0 2250).modPfe
        (fun p => { p with charging := true, holdupTest := some s.cmd.nextBg })) false }

/-- PFE_HOLDUP_TEST: R647. -/
def execPfeHoldupTest (h : Hdr) (p : Bytes) (s : State) : Host.Outcome State Fault Refusal := specPfeHoldupTest.direct h p s

end Sys2Proof.Machine
end

