-- ==== Sys2Proof/Machine/Slots.lean ====
section
/-! DEFINITION. Slot power channels and hot plug: the slot bus, presence, requests, closing, trips, the vPPB's slot registers and
the slot commands (R650 to R675). -/

namespace Sys2Proof.Machine

/-! ## Channels -/

/-- State of channel `n`. -/
def State.chan (s : State) (n : Nat) : ChanState := SMap.get s.spc.chans n ChanState.dflt

/-- Changes channel `n`. -/
def State.modChan (s : State) (n : Nat) (f : ChanState → ChanState) : State :=
  { s with spc := { s.spc with chans := SMap.modify s.spc.chans n ChanState.dflt f } }

/-- Key 32u + v of the vPPB that controls channel `n`; none for a module-controlled channel (R654). -/
def State.chanVppb (s : State) (n : Nat) : Option Nat :=
  if s.hostChan n then s.soleBind (s.get Reg.SPC_CH_CFG_PORT n) else none

/-- A slot event of a host-controlled channel (Table 17-1). -/
def State.chanEvent (s : State) (n bit : Nat) : State :=
  match s.chanVppb n with
  | some k => s.slotEvent k bit
  | none => s

/-- SL_PERST_N[n] asserts. -/
def State.chanReset (s : State) (n : Nat) : State :=
  (s.setFlag Reg.SPC_CH_STATUS_PERST n true).modChan n (fun x => { x with perstPend := false })

/-- Slot power of channel `n` is off: Command Completed, and a managed hot remove commits (R663). -/
def State.chanOff (s : State) (n : Nat) : State :=
  match s.chanVppb n with
  | some k => (s.slotEvent k 4).managedOff (k / 32) (k % 32)
  | none => s

/-- The switch of channel `n` opens and SL_PGOOD drops; `sink` starts the discharge of R663. A power-off request that waits for it is then
acted on. -/
def State.chanOpen (s : State) (n : Nat) (sink : Bool) : State :=
  let s := ((s.setFlag Reg.SPC_CH_STATUS_ON n false).setFlag Reg.SPC_CH_STATUS_PGOOD n false).setFlag Reg.SPC_CH_STATUS_LIMITING n false
  let due := (s.chan n).openPend
  let s := s.modChan n (fun x => { x with openPend := false, discharge := sink })
  if due then s.chanOff n else s

/-- Presence changes (R657): Presence Detect Changed, a presence input for Acrak, and the port leaves its park (R364). -/
def State.setPresence (s : State) (n : Nat) (b : Bool) : State :=
  let s := (s.setFlag Reg.SPC_CH_STATUS_PRSNT n b).recordEvent (0x0220 + n) 2 [byte n, byte (b2n b)]
  let p := s.get Reg.SPC_CH_CFG_PORT n
  let s := s.chanEvent n 3
  if p < 64 && s.flag Reg.LNC_PORT_STATUS_PARKED p then s.unpark p else s

/-- Sets the request of a channel; a latched channel ignores it (R656, R668). -/
def State.setRequest (s : State) (n : Nat) : State :=
  if s.flag Reg.SPC_CH_STATUS_LATCHED n then s else s.setFlag Reg.SPC_CH_STATUS_REQ_ON n true

/-- Clears the request of a channel: SL_PERST_N asserts at once and the switch opens 100 µs later (R663). -/
def State.clearRequest (s : State) (n : Nat) : State :=
  let s := s.setFlag Reg.SPC_CH_STATUS_REQ_ON n false
  if s.flag Reg.SPC_CH_STATUS_ON n then (s.chanReset n).modChan n (fun x => { x with openPend := true }) else s

/-- Everything that lets channel `n` close holds (R658); a debounce that runs holds it (R667). -/
def State.mayClosePower (s : State) (n : Nat) : Bool :=
  s.flag Reg.SPC_CH_STATUS_REQ_ON n && s.flag Reg.SPC_CH_STATUS_PRSNT n && s.flag Reg.SPC_BUS_STATUS_OK
    && !s.flag Reg.SPC_CH_STATUS_COOLING n && !s.flag Reg.SPC_CH_STATUS_LATCHED n && !s.flag Reg.SPC_CH_STATUS_UNUSABLE n
    && !(s.chan n).debounce && s.clk.modReady

/-! ## Slot bus (R650, R651) -/

/-- The bus leaves range: every channel that is on opens without a trip; one event. -/
def State.busLost (s : State) (high : Bool) : State :=
  let on := (List.range 16).filter (fun n => s.flag Reg.SPC_CH_STATUS_ON n)
  let s := forEach on (fun n s => (s.chanReset n).chanOpen n false) s
  (s.setFlag Reg.SPC_BUS_STATUS_OK 0 false).report 0x0200 (if on.isEmpty then corrected else contained) (if high then 2 else 1) []

/-- SLOT_BUS_RANGE_CHANGE: R651; `qualified` says that the bus has stayed in range for QUAL_MS. -/
def execSlotBusRangeChange (tenthV : Nat) (qualified : Bool) (s : State) : Host.Outcome State Fault Refusal :=
  let uv := s.get Reg.SPC_BUS_CTL_UV_FALL + (if s.spc.uvOk then 0 else s.get Reg.SPC_BUS_CTL_UV_HYST)
  let ov := s.get Reg.SPC_BUS_CTL_OV_RISE - (if s.spc.ovOk then 0 else 5)
  let uvOk := decide (uv < tenthV)
  let ovOk := decide (tenthV < ov)
  .next (if s.clk.phase = .off then s
    else
      let was := s.spc.uvOk && s.spc.ovOk
      let s := { s with spc := { s.spc with busTenthV := tenthV, uvOk := uvOk, ovOk := ovOk } }
      let s := s.set Reg.SPC_BUS_STATUS_VOLTS 0 (min 4095 (5 * tenthV))
      if uvOk && ovOk then (if qualified then s.setFlag Reg.SPC_BUS_STATUS_OK 0 true else s)
      else if was then s.busLost uvOk
      else s)

/-! ## Presence (R656, R657, R665) -/

/-- SL_PRSNT_N_FALL: the insertion debounce starts, once the module is ready (R657, R670). -/
def execSlPrsntNFall (n : Chan) (s : State) : Host.Outcome State Fault Refusal :=
  .next (if s.clk.phase = .off then s
    else
      let s := s.setFlag Reg.SPC_CH_STATUS_PRSNT_RAW n.val true
      if s.clk.modReady then s.modChan n.val (fun x => { x with debounce := true }) else s)

/-- PRESENCE_DEBOUNCE_END: debounced present; AUTO_POWER sets the request (R656). During a cool-down only presence changes (R667). -/
def execPresenceDebounceEnd (n : Chan) (s : State) : Host.Outcome State Fault Refusal :=
  .next (if (s.chan n.val).debounce && s.flag Reg.SPC_CH_STATUS_PRSNT_RAW n.val then
      let s := s.modChan n.val (fun x => { x with debounce := false })
      let s := if s.flag Reg.SPC_CH_STATUS_PRSNT n.val then s else s.setPresence n.val true
      if s.flag Reg.SPC_CH_CFG_AUTO_POWER n.val && !s.flag Reg.SPC_CH_STATUS_COOLING n.val then s.setRequest n.val else s
    else s)

/-- What the loss of a device with power does at its port (R665): the surprise treatment of Table 2-10 and R331 for a
host-controlled channel, the loss of a POOL device. -/
def State.slotGone (s : State) (n : Nat) : State :=
  let p := s.get Reg.SPC_CH_CFG_PORT n
  let s := match s.chanVppb n with
    | some k => s.surprise (k / 32) (k % 32)
    | none => s
  if p < 64 then s.linkCut p else s

/-- SLOT_REMOVAL: the raw input has stayed high for 1 ms (R657, R665). -/
def execSlotRemoval (n : Chan) (s : State) : Host.Outcome State Fault Refusal :=
  .next (if s.clk.phase = .off then s
    else
      let s := (s.setFlag Reg.SPC_CH_STATUS_PRSNT_RAW n.val false).modChan n.val (fun x => { x with debounce := false })
      let on := s.flag Reg.SPC_CH_STATUS_ON n.val
      let s := if on then
          let s := ((s.chanReset n.val).chanOpen n.val true).setFlag Reg.SPC_CH_STATUS_REQ_ON n.val false
          (s.report (0x0220 + n.val) contained 0 [byte n.val]).slotGone n.val
        else s
      if s.flag Reg.SPC_CH_STATUS_PRSNT n.val then s.setPresence n.val false else s)

/-- ATTENTION_BUTTON_PRESS: R661. -/
def execAttentionButtonPress (n : Chan) (s : State) : Host.Outcome State Fault Refusal :=
  .next (if s.clk.phase = .off then s
    else if (s.chanVppb n.val).isSome then s.chanEvent n.val 0
    else (s.setFlag Reg.SPC_CH_STATUS_BTN n.val true).report (0x0240 + n.val) corrected 0 [byte n.val])

/-! ## Closing and opening (R658, R659, R663) -/

/-- CHANNEL_CLOSE: R658. -/
def execChannelClose (n : Chan) (s : State) : Host.Outcome State Fault Refusal :=
  .next (if s.mayClosePower n.val && !s.flag Reg.SPC_CH_STATUS_ON n.val then
      ((s.setFlag Reg.SPC_CH_STATUS_ON n.val true).modChan n.val (fun x => { x with discharge := false })).chanEvent n.val 4
    else s)

/-- CHANNEL_CLOSE_FAIL: the output stays low below the foldback limit (R658). -/
def execChannelCloseFail (n : Chan) (s : State) : Host.Outcome State Fault Refusal :=
  .next (if s.flag Reg.SPC_CH_STATUS_ON n.val && !s.flag Reg.SPC_CH_STATUS_PGOOD n.val then
      (((s.chanReset n.val).chanOpen n.val false).setFlag Reg.SPC_CH_STATUS_UNUSABLE n.val true).report (0x0250 + n.val) contained 0
        [byte n.val]
    else s)

/-- Trips of the last 10 minutes (R668). -/
def State.chanTrips (s : State) (n : Nat) : List Nat := (s.chan n).tripTicks.filter (fun t => s.tick < t + 480000000000)

/-- A trip of channel `n` (R666, R668). -/
def State.chanTrip (s : State) (n cause : Nat) : State :=
  let ts := s.tick :: s.chanTrips n
  let s := ((s.chanReset n).chanOpen n false).modChan n (fun x => { x with tripTicks := ts })
  let s := (s.set Reg.SPC_CH_STATUS_TRIP_CAUSE n cause).set Reg.SPC_CH_STATUS_TRIPS n (min 15 ts.length)
  let s := (s.setFlag Reg.SPC_CH_STATUS_REQ_ON n false).setFlag Reg.SPC_CH_STATUS_COOLING n true
  let s := (s.chanEvent n 1).report (0x0210 + n) contained cause [byte n]
  let m := s.get Reg.SPC_CH_CFG_RETRY_MAX n
  if m ≠ 0 ∧ m ≤ ts.length then (s.setFlag Reg.SPC_CH_STATUS_LATCHED n true).report (0x0230 + n) contained 0 [byte n] else s

/-- CHANNEL_INRUSH_TIMEOUT: cause 3 (R658). -/
def execChannelInrushTimeout (n : Chan) (s : State) : Host.Outcome State Fault Refusal :=
  .next (if s.flag Reg.SPC_CH_STATUS_ON n.val && !s.flag Reg.SPC_CH_STATUS_PGOOD n.val then s.chanTrip n.val 3 else s)

/-- CHANNEL_TRIP: R666. -/
def execChannelTrip (n : Chan) (cause : Fin 4) (s : State) : Host.Outcome State Fault Refusal :=
  .next (if s.flag Reg.SPC_CH_STATUS_ON n.val && cause.val != 0 then s.chanTrip n.val cause.val else s)

/-- The valid points of a channel's breaker curve, ascending. -/
def State.chanPoints (s : State) (n : Nat) : List (Nat × Nat) :=
  (List.range 16).filterMap (fun k => if s.flag Reg.SPC_BKR_PT_VALID (16 * n + k) then
    some (s.get Reg.SPC_BKR_PT_CURRENT (16 * n + k), pointUs (s.get Reg.SPC_BKR_PT_TIME (16 * n + k)) (s.get Reg.SPC_BKR_PT_UNIT (16 * n + k)))
    else none)

/-- CHANNEL_BREAKER_EVALUATION: the accumulator each microsecond; the fast trip (cause 1), the curve (cause 2) (R660). -/
def execChannelBreakerEvaluation (n : Chan) (tenthA : Nat) (s : State) : Host.Outcome State Fault Refusal :=
  let i := n.val
  .next (if s.clk.phase = .off then s
    else
      let on := s.flag Reg.SPC_CH_STATUS_ON i
      let lim := on && decide (s.get Reg.SPC_CH_LIM_I_LIM i ≤ tenthA)
      let r := accStep (s.chanPoints i) lim (if on then tenthA else 0) (s.get Reg.SPC_CH_ACC i) (s.get Reg.SPC_CH_DECAY_DECAY_MS i)
      let s := (s.setFlag Reg.SPC_CH_STATUS_LIMITING i lim).set Reg.SPC_CH_MON_AMPS i (min 4095 (10 * tenthA))
      let s := (s.set Reg.SPC_CH_ACC i (min r.1 (2 ^ 32 - 1))).setFlag Reg.SPC_CH_STATUS_ACC_IDLE i (r.1 == 0 && !r.2)
      if on && decide (s.get Reg.SPC_CH_LIM_FAST_TRIP i ≤ tenthA) then s.chanTrip i 1
      else if on && decide (2 ^ 32 ≤ r.1) then s.chanTrip i 2
      else s)

/-- SL_PGOOD_QUALIFY: the output is near the bus and the accumulator has been idle for 1 ms (R659). -/
def execSlPgoodQualify (n : Chan) (s : State) : Host.Outcome State Fault Refusal :=
  .next (if s.flag Reg.SPC_CH_STATUS_ON n.val && s.flag Reg.SPC_CH_STATUS_ACC_IDLE n.val && !s.flag Reg.SPC_CH_STATUS_PGOOD n.val
        && !(s.chan n.val).openPend then
      (s.setFlag Reg.SPC_CH_STATUS_PGOOD n.val true).modChan n.val (fun x => { x with perstPend := true })
    else s)

/-- SL_PERST_RELEASE: 100 ms after SL_PGOOD; the DSP starts training (R659). -/
def execSlPerstRelease (n : Chan) (s : State) : Host.Outcome State Fault Refusal :=
  .next (if (s.chan n.val).perstPend && s.flag Reg.SPC_CH_STATUS_PGOOD n.val then
      let s := (s.setFlag Reg.SPC_CH_STATUS_PERST n.val false).modChan n.val (fun x => { x with perstPend := false })
      s.train (s.get Reg.SPC_CH_CFG_PORT n.val)
    else s)

/-- CHANNEL_OPEN_REQUEST: the request is cleared (R663). -/
def execChannelOpenRequest (n : Chan) (s : State) : Host.Outcome State Fault Refusal :=
  .next (if s.flag Reg.SPC_CH_STATUS_REQ_ON n.val then s.clearRequest n.val else s)

/-- CHANNEL_SWITCH_OPEN: 100 µs after the request cleared (R663). -/
def execChannelSwitchOpen (n : Chan) (s : State) : Host.Outcome State Fault Refusal :=
  .next (if (s.chan n.val).openPend then s.chanOpen n.val true else s)

/-- CHANNEL_COOL_DOWN_END: a debounce begins (R667). -/
def execChannelCoolDownEnd (n : Chan) (s : State) : Host.Outcome State Fault Refusal :=
  .next (if s.flag Reg.SPC_CH_STATUS_COOLING n.val then
      (s.setFlag Reg.SPC_CH_STATUS_COOLING n.val false).modChan n.val
        (fun x => { x with debounce := s.flag Reg.SPC_CH_STATUS_PRSNT_RAW n.val })
    else s)

/-! ## The vPPB's Slot Control (R655, Table 17-1) -/

/-- Drives an indicator of a channel; code 0 keeps it (R662). -/
def State.indicate (s : State) (n pwr atn : Nat) : State :=
  s.modChan n (fun x => { x with lastPwr := if pwr = 0 then x.lastPwr else pwr, lastAtn := if atn = 0 then x.lastAtn else atn })

/-- A host's write of Slot Control on a bindable vPPB. -/
def State.slotControl (s : State) (u : Port) (v : Fin 32) (powerOff : Bool) (pwr atn : Nat) : State :=
  match s.bindOf u.val v.val with
  | none => s
  | some b =>
    if b.ldId.isSome then s
    else
      let ctl := putBits (putBits (s.cfgRead u.val (.vppb v) 0x88 2) 6 2 (if atn = 0 then bitsOf (s.cfgRead u.val (.vppb v) 0x88 2) 6 2 else atn)) 8 2
        (if pwr = 0 then bitsOf (s.cfgRead u.val (.vppb v) 0x88 2) 8 2 else pwr)
      let ctl := putBit ctl 10 powerOff
      let s := (s.cfgStore u.val (.vppb v) 0x88 (byte ctl)).cfgStore u.val (.vppb v) 0x89 (byte (ctl / 256))
      match s.slotOf u.val v.val with
      | none => if powerOff then s.managedOff u.val v.val else s
      | some n =>
        let s := s.indicate n pwr atn
        if powerOff then
          let s := s.clearRequest n
          if (s.chan n).openPend then s else s.chanOff n
        else
          let s := s.setRequest n
          if s.mayClosePower n then s else s.chanEvent n 4

/-- SLOT_CONTROL_WRITE: R655, R656, R662. -/
def execSlotControlWrite (u : Port) (vppb : Fin 32) (powerOff : Bool) (pwr atn : BitVec 2) (s : State) : Host.Outcome State Fault Refusal :=
  .next (if s.isUsp u.val && bindable vppb.val then s.slotControl u vppb powerOff pwr.toNat atn.toNat else s)

/-! ## Commands (Table 17-7) -/

/-- SLOT_INFO (0xC110). -/
def specSlotInfo : CmdSpec :=
  { opcode := 0xC110, priv := .observe, sub := 0x02, len := lenIs 0,
    run := fun _ _ s =>
      .done (leBytes 4 (s.word 0x02000104) ++ ((List.range 16).map (fun n =>
        leBytes 4 (s.word (0x02000400 + 4 * n)) ++ leBytes 4 (s.word (0x02000500 + 4 * n)) ++ leBytes 4 (s.word (0x02000600 + 4 * n)))).flatten)
        { s with fresh := s.fresh + 16 } }

/-- SLOT_INFO: R674. -/
def execSlotInfo (h : Hdr) (p : Bytes) (s : State) : Host.Outcome State Fault Refusal := specSlotInfo.direct h p s

/-- SLOT_POWER (0xC111). -/
def specSlotPower : CmdSpec :=
  { opcode := 0xC111, priv := .operate, sub := 0x02, len := lenIs 3,
    check := fun _ p _ => firstBad [need (p8 p 0 < 16) 0, need (p8 p 1 < 3) 1],
    run := fun _ p s =>
      let n := p8 p 0
      let force := bitOf (p8 p 2) 0
      let q := s.get Reg.SPC_CH_CFG_PORT n
      if p8 p 1 = 2 then .done [] (s.setFlag Reg.SPC_CH_STATUS_LATCHED n false)
      else if s.hostChan n && !force then .fail stConflict
      else if p8 p 1 = 0 then
        (if !s.hostChan n && !force && decide (q < 64) && s.poolNames q then .fail stConflict else .done [] (s.clearRequest n))
      else .done [] (s.setRequest n) }

/-- SLOT_POWER: R656, R664, R668. -/
def execSlotPower (h : Hdr) (p : Bytes) (s : State) : Host.Outcome State Fault Refusal := specSlotPower.direct h p s

/-- R652: what forbids binding channel `n` to port `q`. -/
def State.chanBindRefused (s : State) (n q : Nat) : Bool :=
  s.flag Reg.SPC_CH_STATUS_ON n
    || (q != 0x7F && (!s.isDsp q || (List.range 16).any (fun m => m != n && s.get Reg.SPC_CH_CFG_PORT m == q)))

/-- SLOT_BIND (0xC112). -/
def specSlotBind : CmdSpec :=
  { opcode := 0xC112, priv := .admin, sub := 0x02, len := lenIs 2,
    check := fun _ p _ => firstBad [need (p8 p 0 < 16) 0, need (p8 p 1 < 64 || p8 p 1 == 0x7F) 1],
    run := fun _ p s =>
      if p8 p 1 = s.get Reg.SPC_CH_CFG_PORT (p8 p 0) then .done [] s
      else if s.chanBindRefused (p8 p 0) (p8 p 1) then .fail stConflict
      else .done [] (s.setJ Reg.SPC_CH_CFG_PORT (p8 p 0) (p8 p 1)) }

/-- SLOT_BIND: R652. -/
def execSlotBind (h : Hdr) (p : Bytes) (s : State) : Host.Outcome State Fault Refusal := specSlotBind.direct h p s

/-- SLOT_INDICATOR (0xC113). -/
def specSlotIndicator : CmdSpec :=
  { opcode := 0xC113, priv := .operate, sub := 0x02, len := lenIs 3,
    check := fun _ p _ => firstBad [need (p8 p 0 < 16) 0, need (p8 p 1 < 4) 1, need (p8 p 2 < 4) 2],
    run := fun _ p s =>
      let n := p8 p 0
      if s.hostChan n then .fail stConflict
      else
        let s := s.indicate n (p8 p 1) (p8 p 2)
        let s := if p8 p 1 = 0 then s else s.set Reg.SPC_CH_IND_PWR n (p8 p 1)
        .done [] (if p8 p 2 = 0 then s else s.set Reg.SPC_CH_IND_ATN n (p8 p 2)) }

/-- SLOT_INDICATOR: R662, R674. -/
def execSlotIndicator (h : Hdr) (p : Bytes) (s : State) : Host.Outcome State Fault Refusal := specSlotIndicator.direct h p s

/-! ## Resets (R670, R689) -/

/-- MOD_READY: SPC begins to debounce the cards that are in (R670). -/
def State.slotsReady (s : State) : State :=
  forEach ((List.range 16).filter (fun n => s.flag Reg.SPC_CH_STATUS_PRSNT_RAW n && !s.flag Reg.SPC_CH_STATUS_PRSNT n)) (fun n s =>
    s.modChan n (fun x => { x with debounce := true })) s

end Sys2Proof.Machine
end

