-- ==== Sys2Proof/Machine/Traffic.lean ====
section
/-! DEFINITION. What arrives at the ports: CXL.mem requests, CXL.io TLPs, AtomicOps, messages that only pass through; their
routing by windows, bus numbers, DPIDs and multicast windows (R57, R61, R319 to R324, R331, R332, R262, R268). -/

namespace Sys2Proof.Machine

/-! ## Forwarding -/

/-- The port takes what arrives: its link is up, it withholds no credit, its IDE stream is not Insecure (R336). -/
def State.takes (s : State) (p : Nat) : Bool := (s.port p).up && (s.port p).withhold.isEmpty && !(s.port p).ideInsecure

/-- The epoch stamp of a lookup at ingress port `p` (R22). -/
def State.inStamp (s : State) (p : Nat) : Nat := s.stampOf (.ingress (Fin.ofNat 64 p))

/-- A message of `len` bytes enters the fabric at port `src` for attachment `dest` (R241, R268). -/
def State.fwd (s : State) (src dest q len : Nat) (pb : Bool) (body : OutMsg) (ct : Bool := false) : State :=
  s.enterMsg { src := src, dest := dest, q := q, len := len, ingots := ingotsOf len, epoch := s.inStamp src, mc := none, pbar := none,
               hr := false, perr := false, body := body, ct := ct } pb

/-- vPPB `k` = 32u + v is in containment (R331). -/
def State.contained? (s : State) (k : Nat) : Bool := s.prt.dpc.contains k

/-- The bindable vPPB of VCS `u` whose windows claim an address, with its binding. -/
def State.windowOf (s : State) (u a stamp : Nat) : Option (Nat × Bind) :=
  (List.range 32).findSome? (fun v =>
    let e := s.hbrAt u v stamp
    if bindable v && e.claims a then e.bound.map (fun b => (v, b)) else none)

/-- The bindable vPPB of VCS `u` whose bus range holds the bus of a routing ID. -/
def State.busOf (s : State) (u rid stamp : Nat) : Option (Nat × Bind) :=
  (List.range 32).findSome? (fun v =>
    let e := s.hbrAt u v stamp
    if bindable v && e.hasBus (rid / 256) then e.bound.map (fun b => (v, b)) else none)

/-- The PBR routing entry of a PID (Table 7-5). -/
def State.pbrEntry (s : State) (pid stamp : Nat) : Nat := leNat (s.lookup 0x06C0 stamp (4 * pid) 4)

/-- The attachment and the port that a PBR entry names: a local port, or port 64 + n of the partner over Seam stream n mod 4. -/
def pbrDest (e : Nat) : Nat × Nat :=
  let n := bitsOf e 0 6
  if bitOf e 6 then (seamAtt (n % 4), 64 + n) else (n, n)

/-- A message whose DPID is not VALID (R320). -/
def State.unroutable (s : State) (p : Nat) : State := s.report (0x0600 + p) contained 4 [byte p]

/-! ## CXL.mem (R61, R320, R321) -/

/-- A CXL.mem read that is not carried out returns poison; a write completes without effect. -/
def State.memFail (s : State) (p : Nat) (m : MemReq) : State :=
  let w := isWriteOp m.op
  s.emit (.memCpl p { tag := m.tag, row := 0, data := if w then none else some zeroLine, poison := !w, mta := none })

/-- A CXL.mem request toward a PASS device through vPPB `v` (R331). -/
def State.memToDevice (s : State) (u v : Nat) (b : Bind) (m : MemReq) : State :=
  let k := 32 * u + v
  if s.contained? k then (if isWriteOp m.op then s else s.memFail u m)
  else if !(s.port b.port).up then s.memFail u m
  else
    let s := if isWriteOp m.op then s
      else s.modPort b.port (fun x => { x with outReqs := x.outReqs ++ [(1, k, m.tag)] })
    s.fwd u b.port 2 (if isWriteOp m.op then 80 else 16) false (.memFwd b.port m m.hpa)

/-- A CXL.mem request on a PBR port (R320, R321). -/
def State.memByPid (s : State) (p spid dpid : Nat) (m : MemReq) : State :=
  let stamp := s.inStamp p
  let e := s.pbrEntry dpid stamp
  if !bitOf e 7 then (s.memFail p m).unroutable p
  else if bitOf e 8 then
    let f := s.pbrEntry spid stamp
    if bitOf f 19 && bitOf f 7 then s.lookupPool p (bitsOf f 9 10) m.hpa stamp m none
    else s.refuse p 1 (16 * p) 0 m (m.hpa % 2 ^ 45 / 64) none
  else
    let d := pbrDest e
    s.fwd p d.1 2 (if isWriteOp m.op then 80 else 16) false (.memFwd d.2 m m.hpa)

/-- CXL_MEM_REQUEST: by DPID on a PBR port; at a USP by its HDM decoders, then by the windows of bound vPPBs; otherwise row 1 of
Table 2-3. The module takes no action on MemSpecRd (R142). -/
def execCxlMemRequest (p : Port) (m : MemReq) (s : State) : Host.Outcome State Fault Refusal :=
  .next (if !s.takes p.val || !(s.port p.val).memUp then s
    else
      let s := s.wake p.val
      if m.op = .memSpecRd then s
      else match m.pbr with
      | some (spid, dpid) => if s.flag Reg.PRT_PORT_CFG_PBR_EN p.val then s.memByPid p.val spid dpid m else s
      | none =>
        if !s.isUsp p.val then s
        else
          let stamp := s.inStamp p.val
          match s.decodeHpa p.val m.hpa stamp with
          | some (ld, dpa) => s.lookupPool p.val ld dpa stamp m none
          | none =>
            match s.windowOf p.val m.hpa stamp with
            | some (v, b) => s.memToDevice p.val v b m
            | none => s.refuse p.val 1 (16 * p.val) 0 m (m.hpa % 2 ^ 45 / 64) none)

/-! ## Registers of the module's functions (Tables 4-8, 4-9, 7-3, 11-4) -/

/-- What a memory address of VCS `u` reaches inside the module. -/
inductive BarHit where
  | fn (key off : Nat)
  | admin (off : Nat)
  | mbx (off : Nat)
  | ld (off : Nat)
  | off
  deriving DecidableEq, Repr

/-- The 64-bit BAR at offset `o` of a function, when its Memory Space Enable is set. -/
def State.barAt (s : State) (u : Nat) (t : CfgTarget) (o : Nat) : Option Nat :=
  if s.cfgPresent u t && bitOf (s.cfgRead u t 0x04 1) 1 then some (s.cfgRead u t o 8 / 16 * 16) else none

/-- The address lies in a window. -/
def inWindow (a size : Nat) (b : Option Nat) : Bool :=
  match b with
  | some x => x ≤ a && a < x + size
  | none => false

/-- The function's D-state is D3hot (Table 15-8). -/
def State.inD3 (s : State) (u : Nat) (t : CfgTarget) : Bool := s.cfgRead u t 0x44 1 % 4 == 3

/-- The module register that an address of VCS `u` reaches. -/
def State.barHit (s : State) (u a : Nat) : Option BarHit :=
  let pf0 := s.barAt u .hostPf 0x10
  let pf2 := s.barAt u .hostPf 0x18
  let mg := s.barAt u .mgmtPf 0x10
  let vf := s.cfgRead u .hostPf 0x194 8 / 16 * 16
  if inWindow a 0x10000 pf0 then some (if s.inD3 u .hostPf then .off else .fn (0x8000 + u) (a - pf0.getD 0))
  else if inWindow a 0x20000 pf2 then some (if s.inD3 u .hostPf then .off else .admin (a - pf2.getD 0))
  else if inWindow a 0x10000 mg then some (if s.inD3 u .mgmtPf then .off else .mbx (a - mg.getD 0))
  else if bitOf (s.cfgRead u .hostPf 0x178 1) 3 && inWindow a (0x4000 * s.vfsOn u) (some vf) then
    (s.vfGlobal u ((a - vf) / 0x4000)).map (fun g => .fn g ((a - vf) % 0x4000))
  else (List.finRange 16).findSome? (fun k =>
    let b := s.barAt u (.ld k) 0x10
    if inWindow a 0x10000 b then some (.ld (a - b.getD 0)) else none)

/-- Bytes of the aligned words from `off`. -/
def wordBytes (f : Nat → Nat) (off len : Nat) : Bytes :=
  slice ((List.range ((len + off % 4 + 3) / 4)).map (fun i => leBytes 4 (f (off / 4 * 4 + 4 * i)))).flatten (off % 4) len

/-- The bytes a read of a register returns; the register contents of an LD's BAR are those of CXL 3.1 and are left open. -/
def State.barRead (s : State) (u : Nat) (h : BarHit) (len : Nat) : Bytes :=
  match h with
  | .fn k o => wordBytes (s.barWord k) o len
  | .admin o => (List.range len).map (fun i => (s.vfAdmin u ((o + i) / 128)).toBytes.getD ((o + i) % 128) 0)
  | .mbx o => wordBytes s.mbxWord o len
  | .ld o => (List.range len).map (fun i => Config.freeByte (s.fresh + o + i))
  | .off => []

/-- A host write of registers, word by word. -/
def State.barStore (s : State) (u : Nat) (h : BarHit) (data : Bytes) : State :=
  let each := fun (f : Nat → Nat → State → State) (o : Nat) =>
    forEach (List.range ((data.length + 3) / 4)) (fun i s => f (o / 4 * 4 + 4 * i) (fieldAt data (4 * i) 4) s) s
  match h with
  | .fn k o => each (fun a v s => s.barWrite k a v) o
  | .admin o => s.adminWrite u o data
  | .mbx o => each (fun a v s => s.mbxWrite a v) o
  | .ld _ => s
  | .off => s

/-! ## CXL.io TLPs -/

/-- Kinds of TLP that are non-posted. -/
def nonPosted : TlpKind → Bool
  | .memRd => true
  | .cfgRd => true
  | .cfgWr => true
  | .ioRd => true
  | .ioWr => true
  | .atomic => true
  | _ => false

/-- Queue of a TLP (Table 5-2). -/
def tlpQueue : TlpKind → Nat
  | .memWr => 5
  | .msg => 5
  | .errMsg _ => 5
  | .pmeAck => 5
  | .cpl => 4
  | _ => 6

/-- PB_VALID of a TLP: non-posted requests, and completions without RO (R322). -/
def tlpPb (t : Tlp) : Bool := nonPosted t.kind || (t.kind == .cpl && !t.ro)

/-- The TLP passes by cut-through (R262). -/
def State.cutsThrough (s : State) (src dest q : Nat) (t : Tlp) : Bool :=
  s.flag Reg.XBR_CTL_CT_EN && !t.ide && decide (512 ≤ t.data.length) && s.flowEmpty (flow src dest q)
    && (SMap.get s.xbr.egress (8 * dest + q) []).isEmpty && !s.xbr.cuts.any (fun c => c.msg.dest == dest && c.msg.q == q) && decide (s.portRate dest ≤ s.portRate src)

/-- A request that the module does not carry: Unsupported Request, or discarded when posted. -/
def State.tlpUr (s : State) (p : Nat) (t : Tlp) : State := if nonPosted t.kind then s.emit (.ioCpl p t.tag .ur []) else s

/-- Forwards a TLP to an attachment. -/
def State.tlpTo (s : State) (src : Nat) (d : Nat × Nat) (t : Tlp) : State :=
  let q := tlpQueue t.kind
  let ct := decide (d.1 < 64) && s.cutsThrough src d.1 q t
  let s := if ct then s.bump Reg.XBR_CNT_CT 0 else s
  s.fwd src d.1 q (max 1 t.bytes) (tlpPb t) (.tlp d.2 t false) ct

/-- A TLP toward a PASS device through bindable vPPB `v` of VCS `u` (R323, R331); `p` is the port it came by. -/
def State.tlpToDevice (s : State) (p u v : Nat) (b : Bind) (t : Tlp) : State :=
  let k := 32 * u + v
  let blocked := t.kind == .atomic && bitOf (s.cfgRead u (.vppb (Fin.ofNat 32 v)) 0x98 1) 7
  if s.contained? k then (if nonPosted t.kind then s.emit (.ioCpl p t.tag (s.dpcStatus k) []) else s)
  else if blocked || !(s.port b.port).up then s.tlpUr p t
  else
    let s := if nonPosted t.kind && p == u then s.modPort b.port (fun x => { x with outReqs := x.outReqs ++ [(0, k, t.tag)] }) else s
    s.tlpTo p (b.port, b.port) { t with ld := b.ldId }

/-- The global multicast group that a posted write at USP or DSP function `f` of VCS `u` addresses (R334; fields of PCIe Base, log 17). -/
def State.mcHit (s : State) (u : Nat) (f : McFn) (t : Tlp) : Option Nat :=
  let c := mcCap f
  let tg := mcTarget f
  let b := s.cfgRead u tg (c + 8) 8
  let base := b / 4096 * 4096
  let g := (t.addr - base) / 2 ^ (b % 64)
  if t.kind == .memWr && (s.mcOf u f).1 && decide (base ≤ t.addr) && decide (g ≤ s.cfgRead u tg (c + 6) 1 % 64) then (s.mcGroups u)[g]? else none

/-- A multicast message waits in the flow of its source (R258). -/
def State.tlpMulticast (s : State) (p g : Nat) (t : Tlp) : State :=
  s.enterMsg { src := p, dest := p, q := 5, len := max 1 t.bytes, ingots := ingotsOf t.bytes, epoch := s.inStamp p, mc := some g, pbar := none,
               hr := false, perr := false, body := .tlp p t false } false

/-- A memory request that reaches a register of the module. -/
def State.tlpBar (s : State) (p u : Nat) (h : BarHit) (t : Tlp) : State :=
  if h = .off ∨ t.kind = .atomic then s.tlpUr p t
  else if t.kind = .memRd then (s.emit (.ioCpl p t.tag .sc (s.barRead u h t.len))).drawn
  else s.barStore u h t.data

/-- A TLP from the host of USP `u` (R319, R323, R324). -/
def State.tlpAtUsp (s : State) (u : Nat) (t : Tlp) : State :=
  let stamp := s.inStamp u
  match t.kind with
  | .ioRd | .ioWr => s.tlpUr u t
  | .memRd | .memWr | .atomic =>
    if (s.decodeHpa u t.addr stamp).isSome then
      (if t.kind = .atomic then s else (s.tlpUr u t).report (0x0600 + u) contained 5 [byte u])
    else match s.mcHit u .usp t with
      | some g => s.tlpMulticast u g t
      | none =>
        match s.barHit u t.addr with
        | some h => s.tlpBar u u h t
        | none =>
          match s.windowOf u t.addr stamp with
          | some (v, b) => s.tlpToDevice u u v b t
          | none => s.tlpUr u t
  | .cfgRd | .cfgWr | .msg | .cpl =>
    (match s.busOf u t.rid stamp with
     | some (v, b) => s.tlpToDevice u u v b t
     | none => s.tlpUr u t)
  | .errMsg _ | .pmeAck => s

/-- ACS control bits of a bindable vPPB (R332): 0 Source Validation, 2 P2P Request Redirect, 3 P2P Completion Redirect, 4 Upstream
Forwarding. -/
def State.acs (s : State) (k i : Nat) : Bool := bitOf (s.cfgRead (k / 32) (.vppb (Fin.ofNat 32 (k % 32))) 0x156 1) i

/-- An ACS violation: logged as AER uncorrectable bit 21 with an open header (log 17). -/
def State.acsViolation (s : State) (p k : Nat) (t : Tlp) : State :=
  ((s.tlpUr p t).logAer p (k / 32) (.vppb (Fin.ofNat 32 (k % 32))) { bit := 21, correctable := false, header := BitVec.ofNat 128 s.free }).drawn

/-- A memory request from a PASS device behind vPPB `k`: ACS, bus mastering, then a peer's window, the module's registers, or
upstream (R332). -/
def State.requestFromDevice (s : State) (p k : Nat) (t : Tlp) : State :=
  let u := k / 32
  let stamp := s.inStamp p
  let e := s.hbrAt u (k % 32) stamp
  if !bitOf e.command 2 then s.tlpUr p t
  else if s.acs k 0 && !e.hasBus (t.reqId / 256) then s.acsViolation p k t
  else match s.mcHit u (.vppb (Fin.ofNat 32 (k % 32))) t with
    | some g => s.tlpMulticast p g t
    | none =>
      match s.windowOf u t.addr stamp with
      | some (v, b) =>
        if v = k % 32 then (if s.acs k 4 then s.tlpTo p (u, u) t else s.tlpUr p t)
        else if s.acs k 2 then s.tlpTo p (u, u) t
        else s.tlpToDevice p u v b t
      | none =>
        match s.barHit u t.addr with
        | some h => if s.acs k 2 then s.tlpTo p (u, u) t else s.tlpBar p u h t
        | none => s.tlpTo p (u, u) t

/-- A completion from a PASS device: to a peer by its bus unless redirected, otherwise upstream; it ends the host's request. -/
def State.completionFromDevice (s : State) (p k : Nat) (t : Tlp) : State :=
  let u := k / 32
  let s := s.modPort p (fun x => { x with outReqs := delFirst (fun r => r == (0, k, t.tag)) x.outReqs })
  match s.busOf u t.rid (s.inStamp p) with
  | some (v, b) => if s.acs k 3 || v == k % 32 then s.tlpTo p (u, u) t else s.tlpToDevice p u v b t
  | none => s.tlpTo p (u, u) t

/-- A TLP from a device behind PASS DSP `p`. -/
def State.tlpAtDsp (s : State) (p : Nat) (t : Tlp) : State :=
  match (s.bindsTo p).find? (fun b => b.2 == t.ld) with
  | none => s.tlpUr p t
  | some (k, _) =>
    if s.contained? k then s.tlpUr p t
    else match t.kind with
      | .memRd | .memWr | .atomic => s.requestFromDevice p k t
      | .cpl => s.completionFromDevice p k t
      | .errMsg _ => if bitOf (s.hbrAt (k / 32) (k % 32) (s.inStamp p)).bridgeCtl 1 then s.tlpTo p (k / 32, k / 32) t else s
      | .pmeAck => s.pmeAcked (k / 32) p
      | .msg => s.tlpTo p (k / 32, k / 32) t
      | .cfgRd | .cfgWr | .ioRd | .ioWr => s.tlpUr p t

/-- CXL_IO_TLP_RECEIVE: R319, R320. -/
def execCxlIoTlpReceive (p : Port) (t : Tlp) (s : State) : Host.Outcome State Fault Refusal :=
  .next (if !s.takes p.val then s
    else
      let s := s.wake p.val
      match t.pbr with
      | some (_, dpid) =>
        if !s.flag Reg.PRT_PORT_CFG_PBR_EN p.val then s
        else
          let e := s.pbrEntry dpid (s.inStamp p.val)
          if bitOf e 7 && !bitOf e 8 then s.tlpTo p.val (pbrDest e) t
          else if bitOf e 7 then s.tlpUr p.val t
          else (s.tlpUr p.val t).unroutable p.val
      | none =>
        if s.isUsp p.val then s.tlpAtUsp p.val t
        else if s.isPool p.val then s.tlpUr p.val t
        else s.tlpAtDsp p.val t)

/-- POOL_RANGE_IO_REQUEST: R324. -/
def execPoolRangeIoRequest (u : Port) (write : Bool) (hpa : BitVec 64) (tag : Nat) (s : State) : Host.Outcome State Fault Refusal :=
  .next (if s.isUsp u.val && s.takes u.val && (s.decodeHpa u.val hpa.toNat (s.inStamp u.val)).isSome then
      let s := s.wake u.val
      (if write then s else s.emit (.ioCpl u.val tag .ur [])).report (0x0600 + u.val) contained 5 [byte u.val]
    else s)

/-! ## AtomicOps (R156, R323) -/

/-- The operand is naturally aligned, inside a line, and of a size its operation has (R156). -/
def atomReqOk (a : AtomReq) : Bool :=
  a.size != 0 && a.hpa % a.size == 0 && (a.size == 4 || a.size == 8 || (a.size == 16 && a.op == .cas))

/-- ATOMICOP_RECEIVE: to the home inside a committed decoder, otherwise routed like a memory request. -/
def execAtomicopReceive (u : Port) (a : AtomReq) (s : State) : Host.Outcome State Fault Refusal :=
  .next (if !s.isUsp u.val || !s.takes u.val then s
    else
      let s := s.wake u.val
      let stamp := s.inStamp u.val
      match s.decodeHpa u.val a.hpa stamp with
      | some (ld, dpa) =>
        let m : MemReq := { op := .memRd, snp := .noOp, mval := none, hpa := a.hpa, tag := a.tag, data := [], mask := 0, poison := false,
                            pbr := none }
        if atomReqOk a then s.lookupPool u.val ld dpa stamp m (some { a with hpa := dpa })
        else s.refuse u.val 1 ld 0 m (dpa % 2 ^ 45 / 64) (some a)
      | none =>
        let t : Tlp := { kind := .atomic, addr := a.hpa, rid := 0, reqId := 0, pbr := none, tag := a.tag, bytes := 16 + a.size, len := a.size,
                         ro := false, ide := false, ld := none, data := leBytes a.size a.operand }
        s.tlpAtUsp u.val t)

/-! ## Messages that pass through (R52, R331, R338) -/

/-- Queue of a message that passes through (Table 5-2): CXL.cache Q3, a CXL.mem response Q1, a snoop or its response Q0. -/
def passQueue (usp : Bool) (m : PassMsg) : Nat := if m.cache then 3 else if m.response && !usp then 1 else 0

/-- PASS_THROUGH_CXL_MESSAGE: between a host and the PASS device bound to a vPPB of its VCS; discarded in containment. -/
def execPassThroughCxlMessage (p : Port) (m : PassMsg) (s : State) : Host.Outcome State Fault Refusal :=
  .next (if !s.takes p.val then s
    else
      let s := s.wake p.val
      if s.isUsp p.val then
        match m.peer with
        | none => s
        | some v =>
          match s.bindOf p.val v with
          | some b =>
            if s.contained? (32 * p.val + v) || !(s.port b.port).up then s
            else s.fwd p.val b.port (passQueue true m) (max 1 m.bytes) false (.passMsg b.port m)
          | none => s
      else if s.isPool p.val then s
      else match (s.bindsTo p.val).find? (fun b => b.2 == m.peer) with
        | none => s
        | some (k, _) =>
          if s.contained? k then s
          else
            let s := if !m.cache && m.response then
                s.modPort p.val (fun x => { x with outReqs := delFirst (fun r => r == (1, k, m.tag)) x.outReqs })
              else s
            s.fwd p.val (k / 32) (passQueue false m) (max 1 m.bytes) false (.passMsg (k / 32) m))

end Sys2Proof.Machine
end

