-- ==== Sys2Proof/Machine/HostCfg.lean ====
section
/-! DEFINITION. Configuration requests of a host: presence and retry status, reads, and writes with what each register does
(R311 to R319, R331 to R334, R187, R598, Table 17-1; register fields of PCIe Base, log 17). -/

namespace Sys2Proof.Machine

/-- The Mover function key of a configuration target. -/
def State.cfgFn (s : State) (u : Nat) : CfgTarget → Option Nat
  | .hostPf => some (0x8000 + u)
  | .vf i => s.vfGlobal u i.val
  | .mgmtPf => some mgmtKey
  | _ => none

/-- The request takes Retry Status: the VCS is not ready, or the Mover function's FLR runs (R337, R598). -/
def State.cfgRetry (s : State) (u : Nat) (t : CfgTarget) : Bool :=
  (s.port u).crs || (match s.cfgFn u t with
    | some k => (s.fn k).flr
    | none => false)

/-- The function is there and the host can reach it (R311 to R314). -/
def State.cfgReach (s : State) (u : Nat) (t : CfgTarget) : Bool :=
  s.cfgPresent u t && (match t with
    | .vf i => s.vfReachable u i.val
    | _ => true)

/-- A configuration request to the device behind a bindable vPPB goes on as a TLP. -/
def State.cfgForward (s : State) (u v : Nat) (kind : TlpKind) (off tag : Nat) (data : Bytes) : State :=
  match s.bindOf u v with
  | none => s.emit (.ioCpl u tag .ur [])
  | some b =>
    let t : Tlp := { kind := kind, addr := off, rid := 256 * s.cfgRead u (.vppb (Fin.ofNat 32 v)) 0x19 1, reqId := 0, pbr := none, tag := tag,
                     bytes := 16, len := 4, ro := false, ide := false, ld := b.ldId, data := data }
    s.tlpToDevice u u v b t

/-- CONFIG_REQUEST: a configuration read. -/
def execConfigRequest (u : Port) (t : CfgTarget) (offset : BitVec 12) (tag : Nat) (s : State) : Host.Outcome State Fault Refusal :=
  .next (if !s.isUsp u.val || !(s.port u.val).up then s
    else
      let s := s.wake u.val
      if s.cfgRetry u.val t then s.emit (.ioCpl u.val tag .crs [])
      else if !s.cfgReach u.val t then s.emit (.ioCpl u.val tag .ur [])
      else match t with
        | .bound v => s.cfgForward u.val v.val .cfgRd offset.toNat tag []
        | _ => s.emit (.ioCpl u.val tag .sc (leBytes 4 (s.cfgRead u.val t (offset.toNat / 4 * 4) 4))))

/-! ## Writes -/

/-- The bits of a word that the byte enables let through. -/
def beMask (be : BitVec 4) : Nat := ((List.range 4).map (fun i => if be.getLsbD i then 255 * 256 ^ i else 0)).sum

/-- The word as it stands after a write under byte enables. -/
def merged (old v : Nat) (be : BitVec 4) : Nat := (old &&& (2 ^ 32 - 1 - beMask be)) ||| (v &&& beMask be)

/-- Write-one-to-clear fields: AER status, DPC status, Slot Status. -/
def State.cfgW1c (s : State) (u : Nat) (t : CfgTarget) (off v : Nat) : State :=
  let key := 2048 * u + cfgIndex t
  let aer := fun (f : AerSt → AerSt) =>
    { s with prt := { s.prt with aer := SMap.modify s.prt.aer key AerSt.dflt f } }
  let clear := fun (a : Nat) => a - (a &&& v)
  match off, t with
  | 0x104, _ => aer (fun x => { x with unc := clear x.unc })
  | 0x110, _ => aer (fun x => { x with cor := clear x.cor })
  | 0x168, .vppb b => if bindable b.val && bitOf v 0 then s.uncontain (32 * u + b.val) else s
  | 0x88, .vppb b =>
    let st := SMap.get s.prt.slotStat (32 * u + b.val) 0
    { s with prt := { s.prt with slotStat := SMap.store s.prt.slotStat (32 * u + b.val) (st - (st &&& (v / 65536))) 0 } }
  | _, _ => s

/-- Slot Control of a bindable vPPB (Table 17-1). -/
def State.cfgSlotControl (s : State) (u : Port) (t : CfgTarget) (be : BitVec 4) (v : Nat) : State :=
  match t with
  | .vppb b =>
    if bindable b.val && (be.getLsbD 0 || be.getLsbD 1) then
      let w := merged (s.cfgRead u.val t 0x88 4) v be
      s.slotControl u b (bitOf w 10) (bitsOf w 8 2) (bitsOf w 6 2)
    else s
  | _ => s

/-- Link Control of a vPPB bound to a DSP as an SLD or PCIe device: Link Disable, Retrain Link (R317, R364). -/
def State.cfgLinkControl (s : State) (u : Nat) (t : CfgTarget) (old new : Nat) : State :=
  match t with
  | .vppb b =>
    (match s.bindOf u b.val with
     | some x =>
       if x.ldId.isSome then s
       else
         let s := if bitOf new 4 && !bitOf old 4 then s.disable x.port 7
           else if bitOf old 4 && !bitOf new 4 then s.linkEnable u b.val
           else s
         if bitOf new 5 then s.retrain x.port else s
     | none => s)
  | _ => s

/-- Bridge Control: Secondary Bus Reset of a vPPB, or of the USP function for every vPPB (R333). -/
def State.cfgBridge (s : State) (u : Nat) (t : CfgTarget) (old new : Nat) : State :=
  if bitOf new 22 && !bitOf old 22 then
    match t with
    | .vppb b => s.secondaryReset u b.val
    | .usp => forEach (List.range 32) (fun v s => s.secondaryReset u v) s
    | _ => s
  else s

/-- Initiate Function Level Reset (Device Control bit 15). -/
def State.cfgFlr (s : State) (u : Nat) (t : CfgTarget) : State :=
  match t with
  | .hostPf => s.initiateFlr (0x8000 + u)
  | .vf i => (match s.vfGlobal u i.val with
    | some g => s.initiateFlr g
    | none => s)
  | .mgmtPf => s.cfgResetFn u t
  | .ld _ => s.cfgResetFn u t
  | _ => s

/-- Message Control of MSI-X and the D-state: what was held back is sent (R214, Table 15-8). -/
def State.cfgUnhold (s : State) (u : Nat) (t : CfgTarget) : State :=
  match s.cfgFn u t with
  | none => s
  | some k =>
    let c := s.cfgRead u t 0x4A 2
    let s := s.modFn k (fun x => { x with funcMask := bitOf c 14 || !bitOf c 15 })
    if k = mgmtKey then (s.mbxFlush 0).mbxFlush 1
    else if isVf k then s.flushVecs k
    else forEach (k :: SMap.get s.mov.allot u []) (fun j s => s.flushVecs j) s

/-- SR-IOV NumVFs and VF Enable of the host PF (R187). -/
def State.cfgSriov (s : State) (u : Port) (off : Nat) (be : BitVec 4) (v : Nat) : State :=
  let n := SMap.get s.mov.numVfs u.val 0
  let on := s.mov.vfEnable.contains u.val
  if off = 0x180 ∧ be.getLsbD 0 then nextOf s (execVfEnableWrite u (BitVec.ofNat 16 v) on s)
  else if off = 0x178 ∧ be.getLsbD 0 ∧ bitOf v 0 != on then nextOf s (execVfEnableWrite u (BitVec.ofNat 16 n) (bitOf v 0) s)
  else s

/-- What a stored configuration word does beyond being stored. -/
def State.cfgEffect (s : State) (u : Port) (t : CfgTarget) (off old new : Nat) (be : BitVec 4) (v : Nat) : State :=
  match off with
  | 0x80 => s.cfgLinkControl u.val t old new
  | 0x3C => s.cfgBridge u.val t old new
  | 0x78 => if be.getLsbD 1 && bitOf v 15 then s.cfgFlr u.val t else s
  | 0x44 => s.cfgUnhold u.val t
  | 0x48 => s.cfgUnhold u.val t
  | 0x178 => if t = .hostPf then s.cfgSriov u off be v else s
  | 0x180 => if t = .hostPf then s.cfgSriov u off be v else s
  | _ => s

/-- Without an allotted group a write leaves MC_Enable clear (R334). -/
def State.mcClear (s : State) (u : Nat) (t : CfgTarget) : State :=
  if (s.mcGroups u).isEmpty then
    match t with
    | .usp => s.cfgStore u t 0x2C7 (s.cfgByte u t 0x2C7 &&& 0x7F#8)
    | .vppb b => if bindable b.val then s.cfgStore u t 0x327 (s.cfgByte u t 0x327 &&& 0x7F#8) else s
    | _ => s
  else s

/-- A configuration write to a function of the module, stored and acted on. -/
def State.hostStore (s : State) (u : Port) (w : CfgWrite) : State :=
  let t := w.target
  let off := w.offset.toNat / 4 * 4
  let v := w.value.toNat &&& beMask w.be
  let members := s.mcWrites u.val
  let old := s.cfgRead u.val t off 4
  let s := if off = 0x88 then s.cfgSlotControl u t w.be w.value.toNat else s.cfgWrite u.val t off w.be w.value
  let s := (s.cfgW1c u.val t off v).mcClear u.val t
  let s := s.cfgEffect u t off old (merged old w.value.toNat w.be) w.be w.value.toNat
  if s.mcWrites u.val == members then s else s.commitMembers u.val

/-- As `hostStore`, and completed, after the routing commit where it changes forwarding (R319). -/
def State.hostWrite (s : State) (u : Port) (w : CfgWrite) : State :=
  let before := s.hbrBytes u.val
  let s := s.hostStore u w
  if s.hbrBytes u.val == before || (s.port u.val).crs then s.emit (.ioCpl u.val w.tag .sc [])
  else ({ s with prt := { s.prt with routes := s.prt.routes ++ [(u.val, w.tag)] } }).commitRoutes u.val (.route u.val w.tag)

/-- HOST_CONFIG_WRITE: R319; REC records the write as an input (R569). -/
def execHostConfigWrite (u : Port) (w : CfgWrite) (s : State) : Host.Outcome State Fault Refusal :=
  .next (if !s.isUsp u.val || !(s.port u.val).up then s
    else
      let s := s.wake u.val
      if s.cfgRetry u.val w.target then s.emit (.ioCpl u.val w.tag .crs [])
      else if !s.cfgReach u.val w.target then s.emit (.ioCpl u.val w.tag .ur [])
      else match w.target with
        | .bound v => s.cfgForward u.val v.val .cfgWr w.offset.toNat w.tag (leBytes 4 w.value.toNat)
        | _ =>
          let s := s.record 0x05 0 (leBytes 2 (fnCode w.target) ++ leBytes 1 u.val ++ leBytes 1 w.be.toNat ++ leBytes 2 w.offset.toNat ++ [0, 0]
            ++ leBytes 4 w.value.toNat)
          s.hostWrite u w)

/-- The routing commit of a configuration write has taken effect: its completion goes out (R319). -/
def State.routeDone (s : State) (u tag : Nat) : State :=
  if s.prt.routes.contains (u, tag) then
    ({ s with prt := { s.prt with routes := delFirst (fun r => r == (u, tag)) s.prt.routes } }).emit (.ioCpl u tag .sc [])
  else s

end Sys2Proof.Machine
end

