-- ==== Sys2Proof/Machine/Commit.lean ====
section
/-! DEFINITION. The commit engine at work (R19 to R30, R79, R712): pipelines that switch or fail to, shadows refilled, module
commits taken, what follows a commit; the commands COMMIT, EPOCH_READ, TABLE_READ and TABLE_WRITE. -/

namespace Sys2Proof.Machine

/-! ## Pipelines -/

/-- A pipeline is out of service: its port's link is down, its slice has failed (R26). -/
def State.pipeOut (s : State) : Pipeline → Bool
  | .ingress p => s.outOfService p.val
  | .egress p => s.outOfService p.val
  | .slice i => s.flag Reg.DIR_SLICE_STATUS_FAILED i.val
  | .mover => false
  | .seam _ => false

/-- The port of a port pipeline. -/
def pipePort : Pipeline → Option Nat
  | .ingress p => some p.val
  | .egress p => some p.val
  | _ => none

/-- What follows a commit on every affected pipeline. -/
def State.runAfter (s : State) : After → State
  | .nothing => s
  | .grant id => s.finishGrant id
  | .release id => s.releaseDone id
  | .relocStart b => s.postBatch b
  | .relocEnd b => s.finishBatch b
  | .relocAbort xs => s.finishAbort xs
  | .hdm u ds => { s with prt := { s.prt with hdm := forEach ds (fun d m => SMap.put m (64 * u + d) (true, false)) s.prt.hdm } }
  | .route u tag => s.routeDone u tag
  | .portReset u => if s.resetPending u then s else s.modPort u (fun x => { x with crs := false })
  | .bind id => s.bindDone id
  | .bg id reply => s.endBg id stSuccess reply

/-- A commit is complete on every affected pipeline: what waits for it is answered (R25), what follows it happens. -/
def State.commitDone (s : State) (c : PendCommit) : State :=
  let s := s.answerWaits (fun w => w == .commit c.epoch true) stSuccess (leBytes 2 c.epoch)
  let s := s.answerWaits (fun w => w == .commit c.epoch false) stSuccess []
  s.runAfter c.after

/-- Pipelines out of service count as switched (R26); the commits that wait for none are complete, oldest first. -/
def State.settlePend (s : State) : State :=
  let cs := s.tbl.pend.map (fun c => { c with waiting := c.waiting.filter (fun pl => !s.pipeOut pl) })
  let done := cs.filter (fun c => c.waiting.isEmpty)
  let s := { s with tbl := { s.tbl with pend := cs.filter (fun c => !c.waiting.isEmpty) } }
  forEach done (fun c s => s.commitDone c) s

/-- The hold of a pipeline that failed to switch ends (R26). -/
def State.releasePipe (s : State) (pl : Pipeline) : State :=
  match pl with
  | .seam b => s.pump b.val
  | _ =>
    match pipePort pl with
    | none => s
    | some p => if s.tbl.held.any (fun x => pipePort x == some p) then s else s.unhold p .pipeline

/-- A pipeline switches to the committed banks; a hold of it ends. -/
def State.bankSwitch (s : State) (pl : Pipeline) : State :=
  let was := s.pipeHeld pl
  let s := s.switchPipeline pl
  let s := if was then s.releasePipe pl else s
  s.settlePend

/-- PIPELINE_BANK_SWITCH: R20, R26. -/
def execPipelineBankSwitch (pl : Pipeline) (s : State) : Host.Outcome State Fault Refusal :=
  .next (if s.mainUp then s.bankSwitch pl else s)

/-- The event of a pipeline that failed to switch (R26). -/
def State.reportSwitch (s : State) : Pipeline → State
  | .ingress p => s.report (0x0600 + p.val) contained 6 [byte p.val, 0]
  | .egress p => s.report (0x0600 + p.val) contained 6 [byte p.val, 1]
  | .slice i => s.reportIx 0x0920 i.val contained 0
  | .mover => s.report 0x0B24 contained 0 []
  | .seam b => s.reportIx 0x0514 b.val contained 0

/-- A pipeline has not switched within 10 µs: the commit stands and answers HW_FAULT, the pipeline takes no further message
until a retry succeeds (R26). -/
def State.switchFailed (s : State) (pl : Pipeline) : State :=
  let late := s.tbl.pend.filter (fun c => pl ∈ c.waiting)
  let s := { s with tbl := { s.tbl with held := s.tbl.held ++ [pl] } }
  let s := match pipePort pl with
    | some p => s.withhold p .pipeline
    | none => s
  let s := s.reportSwitch pl
  s.answerWaits (fun w => late.any (fun c => w == .commit c.epoch true || w == .commit c.epoch false)) stHwFault []

/-- SWITCH_FAILURE_TIMEOUT: R26. -/
def execSwitchFailureTimeout (pl : Pipeline) (s : State) : Host.Outcome State Fault Refusal :=
  .next (if !s.mainUp ∨ s.pipeOut pl ∨ s.pipeHeld pl ∨ !(s.tbl.pend.any (fun c => pl ∈ c.waiting)) then s else s.switchFailed pl)

/-! ## Shadows -/

/-- No message stamped before epoch `e` remains, and every pipeline has switched to the commit of table `tid` (R23, R26). -/
def State.refillable (s : State) (tid e : Nat) : Bool :=
  !(s.stamps.any (fun x => earlier x e)) && !(s.tbl.pend.any (fun c => c.tables.contains tid && c.epoch == e))

/-- The shadow of a table takes the new active contents; retained values of the extent map are discarded (R23, R79). -/
def State.refill (s : State) (tid : Nat) : State :=
  if tid = 0x0A42 then
    let pending := fun (e : Nat) => s.tbl.pend.any (fun c => c.epoch == e)
    s.modPol (fun p => { p with retained := p.retained.filter (fun r => s.stamps.any (fun x => earlier x r.1) || pending r.1) })
  else
    let t := s.table tid
    if t.former && s.refillable tid t.tag then s.setTable tid { t with shadow := t.active, former := false } else s

/-- SHADOW_REFILL: R23, R79. -/
def execShadowRefill (tid : BitVec 16) (s : State) : Host.Outcome State Fault Refusal :=
  .next (if s.mainUp then s.settlePend.refill tid.toNat else s)

/-! ## Module commits -/

/-- Two module commits name a common table or extent. -/
def ModCommit.meets (a b : ModCommit) : Bool :=
  a.writes.any (fun w => b.writes.any (fun v => v.1 == w.1)) || (!a.extents.isEmpty && !b.extents.isEmpty)

/-- A module commit waits behind no earlier one of the same tables (R28). -/
def State.modTurn (s : State) (m : ModCommit) : Bool :=
  !((s.tbl.modq.takeWhile (fun x => x.id != m.id)).any (fun x => x.meets m))

/-- The commands that waited for a module commit to be taken wait for its pipelines. -/
def State.takeWaits (s : State) (id : Nat) : State :=
  { s with tbl := { s.tbl with waits := s.tbl.waits.map (fun x =>
      if x.what = .modCommit id then { x with what := .commit s.tbl.epoch false } else x) } }

/-- MODULE_COMMIT: R23, R27, R28. -/
def execModuleCommit (id : Nat) (s : State) : Host.Outcome State Fault Refusal :=
  .next (match s.tbl.modq.find? (fun m => m.id == id) with
    | none => s
    | some m => if s.mainUp && s.modTurn m && s.modReady m then ((s.takeModule m).takeWaits id).settlePend else s)

/-! ## COMMIT (R712) -/

/-- The tables that a COMMIT names with the tags it expects. -/
def commitTags (p : Bytes) : List (Nat × Nat) := (List.range (p8 p 0)).map (fun i => (p16 p (4 + 4 * i), p16 p (6 + 4 * i)))

/-- Step 1 of R712: the offset of the first entry that names no table, or one named before. -/
def commitParams (seen : List Nat) (i : Nat) : List (Nat × Nat) → Option Nat
  | [] => none
  | (t, _) :: l => if tblAssigned t && !seen.contains t then commitParams (t :: seen) (i + 1) l else some (4 + 4 * i)

/-- Steps 2 to 5 of R712: the status of the first that fails. -/
def State.commitRefused (s : State) (tags : List (Nat × Nat)) : Option Nat :=
  if !tags.all (fun t => (s.table t.1).tag == t.2) then some stEpochStale
  else if !tags.all (fun t => s.writable t.1) || !s.windowOk then some stConflict
  else if !tags.all (fun t => s.stagedOk t.1) then some stBadParam
  else if !tags.all (fun t => s.changeOk t.1) then some stConflict
  else none

/-- Runs a COMMIT whose parameters are valid. A refusal of steps 2 to 5 is recorded (R573). -/
def State.commit (s : State) (tags : List (Nat × Nat)) : CmdResult :=
  if !s.mainUp || !tags.all (fun t => tblManaged t.1) then .fail stConflict
  else match s.commitRefused tags with
    | some st => .failed st (s.recordCommit 0 tags st [])
    | none =>
      let s := (s.accept 0 (tags.map Prod.fst) [] .nothing).settlePend
      if s.tbl.pend.any (fun c => c.epoch == s.tbl.epoch) then .waits (.commit s.tbl.epoch true) s
      else .done (leBytes 2 s.tbl.epoch) s

/-- COMMIT (0xCC20). -/
def specCommit : CmdSpec :=
  { opcode := 0xCC20, priv := .operate, sub := 0x0D,
    len := fun p => if 4 ≤ p.length ∧ p.length = 4 + 4 * p8 p 0 then none else some headerOffset,
    check := fun _ p _ => if p8 p 0 < 1 ∨ 16 < p8 p 0 then some 0 else commitParams [] 0 (commitTags p),
    run := fun _ p s => s.commit (commitTags p) }

/-- COMMIT: R24, R25, R712. -/
def execCommit (h : Hdr) (p : Bytes) (s : State) : Host.Outcome State Fault Refusal := specCommit.direct h p s

/-! ## EPOCH_READ, TABLE_READ, TABLE_WRITE (R475, R477, R480, R481) -/

/-- The shadow of a table may be written: for the extent map, its change list (R23, R79). -/
def State.shadowFree (s : State) (tid : Nat) : Bool :=
  if tid = 0x0A42 then s.flag Reg.POL_MAP_STATUS_CL_WRITABLE else s.writable tid

/-- EPOCH_READ (0xCC21). -/
def specEpochRead : CmdSpec :=
  { opcode := 0xCC21, priv := .observe, sub := 0x0D,
    len := fun p => if 4 ≤ p.length ∧ p.length = 4 + 2 * p8 p 0 then none else some headerOffset,
    check := fun _ p _ =>
      if p8 p 0 < 1 ∨ 16 < p8 p 0 then some 0
      else firstBad ((List.range (p8 p 0)).map (fun i => need (tblAssigned (p16 p (4 + 2 * i))) (4 + 2 * i))),
    run := fun _ p s =>
      if !s.mainUp then .fail stConflict
      else .done (leBytes 2 s.tbl.epoch ++ leBytes 2 s.oldestStamp ++
        ((List.range (p8 p 0)).map (fun i =>
          let t := p16 p (4 + 2 * i)
          leBytes 2 (s.table t).tag ++ [byte (b2n (s.shadowFree t)), 0])).flatten) s }

/-- EPOCH_READ: R480. -/
def execEpochRead (h : Hdr) (p : Bytes) (s : State) : Host.Outcome State Fault Refusal := specEpochRead.direct h p s

/-- Bytes of the active extent map: 8 an entry. -/
def State.mapBytes (s : State) (off len : Nat) : Bytes :=
  slice (((List.range (len / 8 + 2)).map (fun k => leBytes 8 (s.entry (off / 8 + k)))).flatten) (off % 8) len

/-- What TABLE_READ answers (R481): the tag of the bank it reads, the shadow's state, the bytes. -/
def State.tableRead (s : State) (tid bank off len : Nat) : Bytes :=
  let t := s.table tid
  let tag := if bank = 1 ∧ t.former then t.formerTag else t.tag
  let body := if tid = 0x0A42 then s.mapBytes off len else if bank = 1 then s.shadow tid off len else s.active tid off len
  leBytes 2 tag ++ [byte (b2n (s.shadowFree tid)), 0] ++ body

/-- TABLE_READ (0xCC10). -/
def specTableRead : CmdSpec :=
  { opcode := 0xCC10, priv := .observe, sub := 0x0D, len := lenIs 12,
    check := fun _ p _ =>
      let n := (tblLen (p16 p 0)).getD 0
      firstBad [need (tblAssigned (p16 p 0)) 0, need (p8 p 2 < 2 && !(p16 p 0 == 0x0A42 && p8 p 2 == 1)) 2,
        need (p32 p 4 % 4 == 0 && p32 p 4 < n) 4,
        need (4 ≤ p32 p 8 && p32 p 8 ≤ 4064 && p32 p 8 % 4 == 0 && p32 p 4 + p32 p 8 ≤ n) 8],
    run := fun _ p s =>
      if !s.mainUp then .fail stConflict else .done (s.tableRead (p16 p 0) (p8 p 2) (p32 p 4) (p32 p 8)) s }

/-- TABLE_READ: R475, R481. -/
def execTableRead (h : Hdr) (p : Bytes) (s : State) : Host.Outcome State Fault Refusal := specTableRead.direct h p s

/-- TABLE_WRITE (0xCC11). -/
def specTableWrite : CmdSpec :=
  { opcode := 0xCC11, priv := .operate, sub := 0x0D,
    len := fun p => if 12 ≤ p.length ∧ p.length ≤ 4096 ∧ p.length % 4 = 0 then none else some headerOffset,
    check := fun _ p _ =>
      let n := (tblLen (p16 p 0)).getD 0
      firstBad [need (tblAssigned (p16 p 0)) 0, need (p32 p 4 % 4 == 0 && p32 p 4 + (p.length - 8) ≤ n) 4],
    run := fun _ p s =>
      if !s.mainUp || !tblManaged (p16 p 0) || !s.writable (p16 p 0) then .fail stConflict
      else .done [] (s.writeShadow (p16 p 0) (p32 p 4) (p.drop 8)) }

/-- TABLE_WRITE: R23, R477. -/
def execTableWrite (h : Hdr) (p : Bytes) (s : State) : Host.Outcome State Fault Refusal := specTableWrite.direct h p s

end Sys2Proof.Machine
end

