-- ==== Sys2Proof/Machine/Complete.lean ====
section
/-! DEFINITION. Completions of requests the module originates: their slots, timeouts and quarantine (R325 to R329). -/

namespace Sys2Proof.Machine

/-- The end of a device access reaches who waits for it: a home slice, a victim, a Mover context, the other twin (R327, R401). -/
def State.deliver (s : State) (user : SlotUser) (isRead ok poison : Bool) (data : Bytes) : State :=
  match user with
  | .home i line c => s.homeDev i line c isRead ok poison data
  | .evict i line c => s.evictDev i line c ok
  | .mover ctx addr =>
    s.chunkAnswer ctx addr (if !ok then .timeout else if poison then .poison else if isRead then .data data else .wrote data.length)
  | .acrak _ => s
  | .relay x tag => s.twinSend x 1 (.devRsp tag ok poison data)

/-- A slot of a port by kind. -/
def State.slotAt (s : State) (p : Nat) (kind : SlotKind) (k : Nat) : TagSlot :=
  match kind with
  | .mem => s.memSlot p k
  | .io => s.ioSlot p k

/-- Stores a slot; a CXL.mem slot that has become free takes what waits for one (R329). -/
def State.putSlot (s : State) (p : Nat) (kind : SlotKind) (k : Nat) (x : TagSlot) : State :=
  match kind with
  | .mem => let s := s.setMemSlot p k x
            if x.user.isNone && !x.quar then s.pumpDev p else s
  | .io => s.setIoSlot p k x

/-- A request of Acrak to the device of POOL DSP `p` has failed (R327, R47). -/
def State.acrakFailed (s : State) (p : Nat) : State :=
  if s.isPool p then
    ((s.setFlag Reg.POL_DSP_CFG_DEVICE_OK p false).setPoolDev p { s.poolDev p with acrakFail := true }).reportDsp p contained 1 []
  else s

/-- A slot number of its kind (R325). -/
def slotOk (kind : SlotKind) (k : Nat) : Bool :=
  match kind with
  | .mem => k < 4096
  | .io => k < 1024

/-- A slot of a port as one number: CXL.io slots follow the 4,096 CXL.mem slots. -/
def slotCode (kind : SlotKind) (k : Nat) : Nat :=
  match kind with
  | .mem => k
  | .io => 4096 + k

/-- DEVICE_COMPLETION: R328; an injected COMPLETION_DROP swallows it (Table 12-9); an accepted one frees its slot and answers its requester. -/
def execDeviceCompletion (p : Port) (c : DevCpl) (s : State) : Host.Outcome State Fault Refusal :=
  let x := s.slotAt p.val c.kind c.slot
  .next (if !s.mainUp || !slotOk c.kind c.slot then s
    else if s.flt.cplDropInject.contains p.val && x.user.isSome && !x.quar then
      { s with flt := { s.flt with cplDropInject := delFirst (· == p.val) s.flt.cplDropInject,
                                   cplDropped := s.flt.cplDropped ++ [(p.val, slotCode c.kind c.slot)] } }
    else match x.user with
    | some u =>
      if !x.quar && (c.kind == .io || x.gen % 16 == c.gen.toNat) then
        let s := s.putSlot p.val c.kind c.slot { x with user := none }
        match u with
        | .acrak _ => if c.ok then s else s.acrakFailed p.val
        | .mover ctx addr => if c.ok then s.deliver u x.isRead c.ok c.poison c.data else s.chunkAnswer ctx addr .hostUr
        | _ => s.deliver u x.isRead c.ok c.poison (slice c.data 0 (if c.kind = .mem then 64 else c.data.length))
      else late s x
    | none => late s x)
where
  /-- A completion that is not accepted: counted, reported, a quarantined slot freed. -/
  late (s : State) (x : TagSlot) : State :=
    let s := (s.bump Reg.PRT_CNT_LATE p.val).reportIx 0x0680 p.val corrected 0
    if x.quar then s.putSlot p.val c.kind c.slot { x with quar := false } else s

/-- MODULE_REQUEST_TIMEOUT: R327. -/
def execModuleRequestTimeout (p : Port) (kind : SlotKind) (slot : Nat) (s : State) : Host.Outcome State Fault Refusal :=
  let x := s.slotAt p.val kind slot
  .next (if !slotOk kind slot || x.quar then s else
    match x.user with
    | none => s
    | some u =>
      let d := (p.val, slotCode kind slot)
      if s.flt.cplDropped.contains d then
        { s with flt := { s.flt with cplDropped := delFirst (· == d) s.flt.cplDropped } }.asInjected (timedOut u x)
      else timedOut u x s)
where
  /-- The slot is quarantined, the timeout reported, the requester answered. -/
  timedOut (u : SlotUser) (x : TagSlot) (s : State) : State :=
      let s := s.putSlot p.val kind slot { x with user := none, quar := true, gen := (x.gen + 1) % 256 }
      let s := (s.bump Reg.PRT_CNT_CTO p.val).reportIx 0x0640 p.val contained 0
      match u with
      | .acrak _ => s.acrakFailed p.val
      | _ => s.deliver u x.isRead false false []

/-- QUARANTINE_EXPIRY: R328. -/
def execQuarantineExpiry (p : Port) (kind : SlotKind) (slot : Nat) (s : State) : Host.Outcome State Fault Refusal :=
  let x := s.slotAt p.val kind slot
  .next (if slotOk kind slot && x.quar then s.putSlot p.val kind slot { x with quar := false } else s)

end Sys2Proof.Machine
end

