-- ==== Sys2Proof/Machine/HlmBase.lean ====
section
/-! DEFINITION. What Hallmark's meanings share: the configuration digest, the ledger and its full condition, firmware slots and their
verification, the alias key (R522 to R539). -/

namespace Sys2Proof.Machine

/-- Changes Hallmark. -/
def State.modHlm (s : State) (f : Hlm → Hlm) : State := { s with hlm := f s.hlm }

/-! ## Configuration digest (R526) -/

/-- The register words of every RWL field, masked to the field, in ascending control address: key of the field, word. -/
def rwlWords (regs : SMap Nat) : SMap Nat :=
  (regMap.filter (fun x => x.1.acc == .rwl)).foldl (fun (m : SMap Nat) x =>
    (List.range x.2).foldl (fun (m : SMap Nat) i =>
      SMap.put m (x.1.key i) (SMap.get regs (x.1.key i) (x.1.reset i) * 2 ^ x.1.lsb)) m) []

/-- The configuration digest over register fields, roots and the lock (R526). -/
def configDigest (regs : SMap Nat) (mgmt dev : List Bytes) (locked : Bool) : Bytes :=
  sha (((rwlWords regs).map (fun x => leBytes 4 (x.1 / 32) ++ leBytes 4 x.2)).flatten ++ mgmt.flatten ++ dev.flatten
    ++ leBytes 1 (b2n locked))

/-- The digest of the running configuration. -/
def State.digest (s : State) : Bytes := configDigest s.regs s.hlm.mgmtRoots s.hlm.devRoots (s.flag Reg.HLM_STATUS_LOCKED)

/-! ## The journal's settings -/

/-- The records of the journal that a restore applies: those before the first that fails its check (R609). -/
def Journal.good (j : Journal) : List JRec :=
  match j.bad with
  | none => j.flash ++ j.buf
  | some i => if i < j.flash.length then j.flash.take i else j.flash ++ j.buf

/-- Stores a field by its key, if control space has it. -/
def setKey (regs : SMap Nat) (k v : Nat) : SMap Nat :=
  match (fieldsAt (k / 32)).find? (fun x => x.1.lsb == k % 32) with
  | some x => SMap.store regs k (v % 2 ^ x.1.width) (x.1.reset x.2)
  | none => regs

/-- The register fields with every RWS and RWL field as the journal has it; those it does not name at their Reset column (R608,
R610). -/
def Journal.fields (j : Journal) (regs : SMap Nat) : SMap Nat :=
  let kept := regs.filter (fun r => !((fieldsAt (r.1 / 32)).any (fun x => x.1.lsb == r.1 % 32 && (x.1.acc == .rws || x.1.acc == .rwl))))
  j.good.foldl (fun (m : SMap Nat) r => match r with
    | .field k v => setKey m k v
    | _ => m) kept

/-- Step 1 of R608: the lock, the roots and the archive mark as the journal has them. -/
def State.journalLock (s : State) : State :=
  let h := { s.hlm with mgmtRoots := List.replicate 2 zeroHash, devRoots := List.replicate 4 zeroHash }
  let s := ({ s with hlm := h }.setFlag Reg.HLM_STATUS_LOCKED 0 false).set Reg.HLM_LEDGER_ARCHIVED 0 0
  forEach s.jnl.good (fun r s => match r with
    | .lock on => s.setFlag Reg.HLM_STATUS_LOCKED 0 on
    | .mgmtRoot i h => s.modHlm (fun x => { x with mgmtRoots := x.mgmtRoots.set i h })
    | .devRoot i h => s.modHlm (fun x => { x with devRoots := x.devRoots.set i h })
    | .archived n => s.set Reg.HLM_LEDGER_ARCHIVED 0 n
    | _ => s) s

/-! ## The ledger (R530 to R538) -/

/-- Index of the next entry. -/
def State.ledgerHead (s : State) : Nat := s.get Reg.HLM_LEDGER_HEAD

/-- The newest written entry. -/
def State.newestEntry (s : State) : Option Bytes := s.hlm.ledger.getLast?.map Prod.snd

/-- The first index of the block after the one that holds the head (R533). -/
def State.nextBlock (s : State) : Nat := (s.ledgerHead / 128 + 1) * 128

/-- The first index, ahead of the head, whose block holds an unarchived entry: no index from it on is erased or reclaimable (R536). -/
def State.ledgerLimit (s : State) : Option Nat :=
  let oldest := (s.hlm.ledger.head?.map Prod.fst).getD s.ledgerHead
  let a := max (s.get Reg.HLM_LEDGER_ARCHIVED) oldest
  if a < s.ledgerHead then some (a / 128 * 128 + 32768) else none

/-- The ledger is full: the block the head needs erased next is not reclaimable (R536). -/
def State.ledgerFull (s : State) : Bool :=
  match s.ledgerLimit with
  | some l => decide (l ≤ s.nextBlock)
  | none => false

/-- R536: LEDGER_LOW while fewer than 512 positions ahead are erased or reclaimable; one event a crossing. -/
def State.ledgerLow (s : State) : State :=
  let low := match s.ledgerLimit with
    | some l => decide (l < s.ledgerHead + 512)
    | none => false
  let s := s.setFlag Reg.HLM_STATUS_LEDGER_LOW 0 low
  let s := if low && !s.hlm.lowCrossed then s.report 0x0E00 corrected 0 [] else s
  s.modHlm (fun h => { h with lowCrossed := low })

/-- Erases the block after the head's (R533): the entries one turn of the region below it. -/
def State.eraseNext (s : State) : State :=
  s.modHlm (fun h => { h with ledger := h.ledger.filter (fun e => s.nextBlock + 128 ≤ e.1 + 32768) })

/-- Keeps the next block erased. Under CONTINUE an unarchived block is erased and its range and last entry are kept for the GAP entry
(R537, Table 13-9). -/
def State.makeRoom (s : State) : State :=
  if s.ledgerFull then
    let lost := s.hlm.ledger.filter (fun e => e.1 + 32768 < s.nextBlock + 128)
    let gap := match lost.head?, lost.getLast? with
      | some a, some z => some (((s.hlm.gapLost.map (fun g => g.1)).getD a.1), z.1, sha z.2)
      | _, _ => s.hlm.gapLost
    (s.eraseNext.modHlm (fun h => { h with gapLost := gap })).report 0x0E01 contained 3 []
  else s.eraseNext

/-- The 512 bytes of an entry at index `i` (Table 13-4). -/
def State.entryBytes (s : State) (i : Nat) (r : LedgerReq) : Bytes :=
  let skip := decide (0 < i) && s.hlm.torn.contains (i - 1)
  let prev := (s.newestEntry.map sha).getD zeroHash
  let body := leBytes 4 0x4C485A43 ++ leBytes 2 1 ++ leBytes 2 (r.kind + r.flags + 128 * b2n skip) ++ leBytes 4 i ++ leBytes 4 r.boot
    ++ timeBytes r.time ++ leBytes 1 r.quality ++ [0, 0, 0] ++ slice r.cause 0 4 ++ slice r.area 0 240 ++ slice r.config 0 48 ++ prev
    ++ slice s.hlm.keyId 0 16 ++ List.replicate 28 0
  let sig := if r.kind = 2 then Config.signIdentity body else Config.signAlias s.hlm.aliasPub body
  body ++ (leBytes 96 sig.toNat).reverse

/-- Programs an entry at the head (R530, R533, R534). -/
def State.program (s : State) (r : LedgerReq) : State :=
  let i := s.ledgerHead
  let b := s.entryBytes i r
  ((s.modHlm (fun h => { h with ledger := SMap.put h.ledger i b })).set Reg.HLM_LEDGER_HEAD 0 (i + 1)).ledgerLow

/-- FLAGS of every entry formed now: TS, TRIAL, LOCKED (Table 13-5). -/
def State.entryFlags (s : State) : Nat :=
  16 * b2n (s.flag Reg.FLT_STATUS_TOUCHSTONE) + 64 * b2n (s.flag Reg.HLM_STATUS_TRIAL) + 256 * b2n (s.flag Reg.HLM_STATUS_LOCKED)

/-- Forms an entry (Table 13-4). -/
def State.formEntry (s : State) (o : Occasion) (config : Bytes) : LedgerReq :=
  { kind := o.kind, flags := s.entryFlags + o.flags, cause := o.cause, area := o.area, time := o.time.getD s.tim.counter,
    quality := s.quality, boot := s.get Reg.HLM_BOOT_COUNTER, config := config }

/-- The GAP entry that is due before the next other entry, if entries were lost or dropped (R537, R538). -/
def State.gapDue (s : State) : Option Occasion :=
  let g := s.hlm.gapLost.getD (0, 0, zeroHash)
  if s.hlm.gapLost.isSome || decide (0 < s.hlm.dropped) then
    some { kind := 8, flags := 0, cause := leBytes 4 0, time := none,
           area := leBytes 4 g.1 ++ leBytes 4 g.2.1 ++ leBytes 4 s.hlm.dropped ++ g.2.2 }
  else none

/-- Stage 1 runs, so that HLM writes entries and answers SPDM: the BOOT entry of the start is written, or the module is in commanded
Standby. -/
def State.hlmRuns (s : State) : Bool :=
  match s.clk.phase with
  | .released | .restored | .ready | .standby => true
  | _ => false

/-- Writes an entry with room made for it, a GAP entry that is due first. -/
def State.writeEntry (s : State) (r : LedgerReq) : State :=
  let s := s.makeRoom
  let s := match s.gapDue with
    | none => s
    | some o => ((s.program (s.formEntry o (if s.hlmRuns then s.digest else r.config))).modHlm (fun h => { h with gapLost := none, dropped := 0 })).makeRoom
  s.program r

/-- POLICY is CONTINUE (Table 13-9). -/
def State.ledgerContinues (s : State) : Bool := s.flag Reg.HLM_LEDGER_CTL_POLICY

/-! ## Firmware slots (R522, R523, R543 to R545) -/

/-- Firmware slot `i`. -/
def State.slotAt? (s : State) (i : Nat) : FwSlot := s.hlm.slots.getD i FwSlot.empty

/-- Changes firmware slot `i`. -/
def State.modSlot (s : State) (i : Nat) (f : FwSlot → FwSlot) : State := s.modHlm (fun h => { h with slots := h.slots.modify i f })

/-- Bytes of the slot's flash; erased flash reads 0xFF. -/
def FwSlot.bytes (x : FwSlot) (off n : Nat) : Bytes := SMap.bytes x.image (fun _ => 0xFF) off n

/-- The image header (Table 13-1). -/
def FwSlot.header (x : FwSlot) : Bytes := if x.factory then Config.factoryHeader else x.bytes 0 4096

/-- The components of the header: TYPE, offset, length, SHA-384. -/
def FwSlot.parts (x : FwSlot) : List (Nat × Nat × Nat × Bytes) :=
  let h := x.header
  (List.range (min 8 (fieldAt h 6 2))).map (fun c =>
    (fieldAt h (64 + 64 * c) 1, fieldAt h (68 + 64 * c) 4, fieldAt h (72 + 64 * c) 4, slice h (80 + 64 * c) 48))

/-- The data of the components of a TYPE, in order. -/
def FwSlot.typeData (x : FwSlot) (t : Nat) : Bytes :=
  ((x.parts.filter (fun c => c.1 == t)).map (fun c => x.bytes c.2.1 c.2.2.1)).flatten

/-- The Assays of stages 1 to 5 (Table 13-2). -/
def FwSlot.assays (x : FwSlot) : List Bytes :=
  if x.factory then Config.factoryAssays
  else [sha (x.typeData 1), sha (x.typeData 2), sha (x.typeData 3 ++ x.typeData 6 ++ x.typeData 7), sha (x.typeData 4), sha (x.typeData 5)]

/-- The slot with the values its header gives. -/
def FwSlot.parsed (x : FwSlot) : FwSlot :=
  let h := x.header
  if x.factory then x
  else { x with imageVer := fieldAt h 8 4, svn := fieldAt h 12 1, keyIndex := fieldAt h 13 1, revoke := fieldAt h 14 1 % 16 }

/-- The slot's programmed bytes hold an image under R522 and R523. -/
def FwSlot.imageGood (x : FwSlot) : Bool :=
  let h := x.header
  let n := fieldAt h 6 2
  fieldAt h 0 4 == 0x46575A43 && fieldAt h 4 2 == 1 && decide (5 ≤ n ∧ n ≤ 8) && decide (fieldAt h 12 1 ≤ 64)
    && decide (fieldAt h 13 1 ≤ 3) && !bitOf (fieldAt h 14 1) (fieldAt h 13 1) && decide (fieldAt h 16 4 ≤ 2 ^ 24)
    && [1, 2, 3, 4, 5].all (fun t => decide ((x.parts.filter (fun c => c.1 == t)).length = 1))
    && x.parts.all (fun c => 1 ≤ c.1 && decide (c.1 ≤ 7) && decide (sha (x.bytes c.2.1 c.2.2.1) = c.2.2.2))
    && Config.imageSigned h

/-- The slot may boot: an image whose SVN is at least the fused minimum and whose key is not revoked (R524, R545). -/
def State.slotBoots (s : State) (i : Nat) : Bool :=
  let x := (s.slotAt? i).parsed
  (x.factory || x.imageGood) && decide (s.get Reg.HLM_STATUS_SVN_MIN ≤ x.svn) && !bitOf (s.get Reg.HLM_STATUS_REVOKED) x.keyIndex

/-- Records an UPDATE entry's occasion for a slot (Table 13-7). -/
def State.ledgeUpdate (s : State) (event i : Nat) : State :=
  let x := s.slotAt? i
  s.ledge 5 0 (leBytes 4 0) (leBytes 1 event ++ leBytes 1 i ++ [0, 0] ++ leBytes 4 x.imageVer ++ leBytes 1 x.svn
    ++ leBytes 1 (s.get Reg.HLM_STATUS_SVN_MIN) ++ leBytes 1 (s.get Reg.HLM_STATUS_REVOKED) ++ [0] ++ sha x.header)

/-! ## Keys (R527 to R529) -/

/-- The derivation seed of the alias key for five Assays (R528). -/
def aliasSeed (assays : List Bytes) : Bytes :=
  let cdi := digestBytes (Config.hmac384 Config.identityScalar
    ([0x43, 0x5A, 0x2D, 0x43, 0x44, 0x49] ++ assays.headD []))
  assays.tail.foldl (fun (c : Bytes) a => digestBytes (Config.hmac384 c a)) cdi

/-- The certificate chain of SPDM slot 0 (R529). -/
def State.certChain (s : State) : Bytes :=
  let x := s.slotAt? (s.get Reg.HLM_STATUS_SLOT)
  Config.certChain ++ Config.aliasCert s.hlm.aliasPub s.hlm.assays x.svn x.imageVer

end Sys2Proof.Machine
end

