-- ==== Sys2Proof/Machine/Hallmark.lean ====
section
/-! DEFINITION. Hallmark: measured boot, ledger entries, firmware update, configuration lock, roots, SPDM and keys (R522 to R555). -/

namespace Sys2Proof.Machine

/-! ## Boot (R524, R525) -/

/-- CAUSE of the entries of this start (Table 13-6). -/
def State.startCause (s : State) : Bytes :=
  leBytes 1 (s.get Reg.CLK_RST_CAUSE_KIND) ++ leBytes 1 (s.get Reg.CLK_RST_CAUSE_TRIGGER) ++ leBytes 2 (s.get Reg.CLK_RST_CAUSE_SOURCE)

/-- The digest of the configuration as it will be restored (R526, R609). -/
def State.restoredDigest (s : State) : Bytes :=
  configDigest (s.jnl.fields s.regs) s.hlm.mgmtRoots s.hlm.devRoots (s.flag Reg.HLM_STATUS_LOCKED)

/-- Steps 6 to 8 of R524: the KEY entry, a GAP entry that is due before it. -/
def State.writeKey (s : State) : State :=
  let x := s.slotAt? (s.get Reg.HLM_STATUS_SLOT)
  let area := slice s.hlm.aliasPub 0 97 ++ [0, 0, 0] ++ leBytes 4 x.imageVer ++ leBytes 1 (s.get Reg.HLM_STATUS_SLOT) ++ leBytes 1 x.svn
    ++ leBytes 1 x.keyIndex ++ [0] ++ sha Config.identityCert
  let o : Occasion := { kind := 2, flags := 0, cause := s.startCause, area := area, time := none }
  let s := (s.setFlag Reg.HLM_STATUS_LEDGER_HOLD 0 false).writeEntry (s.formEntry o s.restoredDigest)
  { s with clk := { s.clk with phase := .keyed } }

/-- Steps 4 to 6 of R524 with slot `i` verified: boot counter, Assays, alias key; a full ledger under HOLD pauses the boot. -/
def State.bootSlot (s : State) (i : Nat) : State :=
  let s := s.modSlot i FwSlot.parsed
  let x := s.slotAt? i
  let trial := s.hlm.trialSlot == some i
  let s := ((s.set Reg.HLM_STATUS_SLOT 0 i).setFlag Reg.HLM_STATUS_TRIAL 0 trial)
  let newest := (s.hlm.ledger.reverse.find? (fun e => fieldAt e.2 6 2 % 16 == 1)).map (fun e => fieldAt e.2 12 4)
  let s := s.set Reg.HLM_BOOT_COUNTER 0 (match newest with | some b => b + 1 | none => 1)
  let as := x.assays
  let pub := Config.aliasPublic (aliasSeed as)
  let s := s.modHlm (fun h => { h with assays := as, aliasPub := pub, keyId := (sha pub).take 16,
                                       trialBegun := h.trialSlot.isSome })
  let h := s.ledgerHead
  let s := if s.hlm.torn.contains h then s.set Reg.HLM_LEDGER_HEAD 0 (h + 1) else s
  let s := s.ledgerLow
  if s.ledgerFull && !s.ledgerContinues then
    let s := (s.setFlag Reg.HLM_STATUS_LEDGER_HOLD 0 true).report 0x0E01 contained 1 []
    { s with clk := { s.clk with phase := .ledgerHold } }
  else s.writeKey

/-- R524: the boot ROM selects a slot and verifies it, then the other one; it measures, derives the alias key and writes the KEY entry.
The operands say whether each slot's flash reads as an image that passes R522 and R523, and which journal record fails its check. -/
def execBootRomStart (slotOkA slotOkB : Bool) (badRec : Option Nat) (s : State) : Host.Outcome State Fault Refusal :=
  .next (if s.clk.phase ≠ .boot then s else
    let s := { s with jnl := { s.jnl with bad := badRec.filter (fun i => i < s.jnl.flash.length) } }
    let s := s.journalLock
    let s := s.set Reg.HLM_LEDGER_CTL_POLICY 0 (SMap.get (s.jnl.fields []) (Reg.HLM_LEDGER_CTL_POLICY.key 0) 0)
    let revert := s.hlm.trialSlot.isSome && s.hlm.trialBegun
    let s := if revert then
        let t := s.hlm.trialSlot.getD 0
        let s := (s.set Reg.CLK_RST_CAUSE_TRIGGER 0 7).report 0x0E03 contained 2 []
        (s.modHlm (fun h => { h with trialSlot := none, trialNext := none, trialBegun := false, reverted := true })).ledgeUpdate 4 t
      else s.modHlm (fun h => { h with reverted := false })
    let sel := s.hlm.trialSlot.getD s.hlm.committed
    let ok := fun (i : Nat) => (if i = 0 then slotOkA else slotOkB) && s.slotBoots i
    if ok sel then s.bootSlot sel
    else
      let s' := (s.modSlot sel (fun x => { x with valid := false })).report 0x0E03 contained 1 []
      let other := 1 - sel
      if ok other then s'.bootSlot other
      else
        let s' := ((s'.modSlot other (fun x => { x with valid := false })).report 0x0E03 contained 1 []).report 0x0E05 contained 0 []
        let s' := s'.modHlm (fun h => { h with trialBegun := h.trialSlot.isSome })
        { s' with clk := { s'.clk with phase := .recovery } }.setFlag Reg.HLM_STATUS_TRIAL 0 false)

/-- R505: with the main domain up, FAULT_N that an ended safe state has left asserted is released. -/
def State.quietFault (s : State) : State :=
  let safe := s.flag Reg.FLT_STATUS_SAFE_MODULE || s.flt.safeSlices != 0 || s.flt.safeMover || !s.flt.safePorts.isEmpty
  { s with flt := { s.flt with safeFault := safe } }

/-- R525, R592, R641, R702: stage 1 writes the BOOT entry; the lock is in force and the main domain is released with its rails up. Without
a root PLL lock, or in module safe state, the main domain is not released. -/
def execBootEntryWrite (s : State) : Host.Outcome State Fault Refusal :=
  .next (if s.clk.phase ≠ .keyed ∨ !s.clk.rootPll ∨ s.flag Reg.FLT_STATUS_SAFE_MODULE then s else
    let o : Occasion := { kind := 1, flags := 32 * b2n s.hlm.touchExit, cause := s.startCause, area := s.hlm.assays.flatten, time := none }
    let r := s.formEntry o s.restoredDigest
    let s := (if s.ledgerFull && !s.ledgerContinues then s.program r else s.writeEntry r).modHlm (fun h => { h with touchExit := false })
    let s := forEach ((List.range 8).zip [6000, 1800, 1100, 400, 750, 850, 900, 1200])
      (fun r s => (s.set Reg.PFE_RAIL_MV r.1 r.2).setFlag Reg.PFE_RAIL_IN_WINDOW r.1 true) s
    let s := s.setFlag Reg.PFE_STATUS_MAIN_ON 0 true
    let idle := s.flag Reg.PFE_STATUS_ACC_IDLE && !s.flag Reg.PFE_STATUS_PWRGD
    let s := { s with pfe := { s.pfe with pwrgdQual := idle } }
    let s := s.set Reg.CLK_START_TIME_RELEASE_MS 0 (min 65534 ((s.tick - s.clk.startTick) / 800000))
    let locked : Bool := s.get Reg.TIM_STATUS_STATE == 2 && s.get Reg.CLK_RST_CAUSE_KIND != 1
    let c := s.tim.counter
    let s := { s with tim := { s.tim with anchor := if locked then some (5, c, c) else s.tim.anchor,
                                          lockedOnce := locked } }
    { s with clk := { s.clk with phase := .released, bootWritten := true, lockApplied := true } }.quietFault)

/-- R567: TIM has signalled the anchor; HLM is to write the ANCHOR entry and REC a TIME record. -/
def execAnchor (s : State) : Host.Outcome State Fault Refusal :=
  .next (match s.tim.anchor with
    | none => s
    | some (kind, before, after) =>
      if !s.hlmRuns then s else
      let q := if kind = 1 then 0 else s.quality
      let s := (s.ledgeAt 3 (timeBytes before) after).recordTime kind q s.quality before after
      let s := s.setFlag Reg.TIM_STATUS_ANCHORED 0 true
      { s with tim := { s.tim with anchor := none } })

/-! ## Ledger entries while running (R531, R535 to R538) -/

/-- R531, R538: HLM forms the entry of the oldest occasion and writes it; under HOLD with the ledger full it queues or is dropped. An
imminent loss may leave one torn entry (R535). -/
def execLedgerEntryWrite (s : State) : Host.Outcome State Fault Refusal :=
  .next (match s.hlm.due with
    | [] => s
    | o :: rest =>
      if !s.hlmRuns ∨ s.hlm.torn.contains s.ledgerHead then s else
      let r := s.formEntry o s.digest
      let s := s.modHlm (fun h => { h with due := rest })
      if (s.ledgerFull && !s.ledgerContinues) || !s.hlm.pend.isEmpty then
        if s.hlm.pend.length < 32 then s.modHlm (fun h => { h with pend := h.pend ++ [r] })
        else (s.modHlm (fun h => { h with dropped := h.dropped + 1 })).report 0x0E01 contained 2 []
      else if s.pfe.imminent && Config.freeNat s.fresh % 2 == 1 then
        s.drawn.modHlm (fun h => { h with torn := h.torn ++ [s.ledgerHead] })
      else if s.pfe.imminent then s.drawn.writeEntry r
      else s.writeEntry r)

/-- Writes pending entries in order while the ledger has room. -/
def State.writePending : Nat → State → State
  | 0, s => s
  | fuel + 1, s =>
    match s.hlm.pend with
    | [] => s
    | r :: rest =>
      if s.ledgerFull && !s.ledgerContinues then s
      else State.writePending fuel ((s.modHlm (fun h => { h with pend := rest })).writeEntry r)

/-- R538, R601, Table 13-9: a block has become reclaimable: a held boot resumes at step 6 of R524, pending entries are written. -/
def execLedgerBlockReclaim (s : State) : Host.Outcome State Fault Refusal :=
  .next (if s.ledgerFull && !s.ledgerContinues then s
    else if s.clk.phase = .ledgerHold then { s with clk := { s.clk with startTick := s.tick } }.writeKey
    else if s.hlmRuns then State.writePending 32 s else s)

/-- R544: the trial boot has not asserted MOD_READY within 1,500 ms of the release: a MODULE start follows and reverts the trial. -/
def execTrialBootDeadline (s : State) : Host.Outcome State Fault Refusal :=
  .next (if s.flag Reg.HLM_STATUS_TRIAL && (s.clk.phase == .released || s.clk.phase == .restored) then s.askStart 2 7 0 else s)

/-! ## SPDM (R540 to R542) -/

/-- Response codes of SPDM 1.2 (log 29). -/
def spdmError : Nat := 0x7F

/-- Answers on an SPDM link. -/
def State.spdmAnswer (s : State) (l : SpdmLink) (code : Nat) (body : Bytes) : State := s.emit (.spdm l code body)

/-- The measurement blocks of Table 13-11. -/
def State.measurement (s : State) (i : Nat) : Bytes :=
  let x := s.slotAt? (s.get Reg.HLM_STATUS_SLOT)
  if 1 ≤ i ∧ i ≤ 5 then s.hlm.assays.getD (i - 1) []
  else match i with
    | 6 => s.digest
    | 7 =>
      let f := b2n (s.flag Reg.HLM_STATUS_LOCKED) + 2 * b2n (s.flag Reg.FLT_STATUS_TOUCHSTONE) + 4 * b2n (s.flag Reg.HLM_STATUS_TRIAL)
        + 8 * b2n (s.flag Reg.SEM_TWIN_STATUS_ENABLED) + 16 * b2n (s.flag Reg.SEM_TWIN_STATUS_SUSPENDED)
      leBytes 4 f ++ leBytes 4 (s.get Reg.HLM_BOOT_COUNTER) ++ leBytes 4 (s.ledgerHead - 1) ++ (s.newestEntry.map sha).getD zeroHash
    | 8 => leBytes 4 x.imageVer
    | 9 => leBytes 1 x.svn ++ leBytes 1 (s.get Reg.HLM_STATUS_SVN_MIN)
    | 10 => sha Config.identityCert
    | _ => []

/-- Sessions that arrive by the same MCTP endpoint or DOE instance. -/
def State.sessionsOn (s : State) (l : SpdmLink) : Nat := (s.hlm.sessions.filter (fun x => decide (x.link = l))).length

/-- The signature of the alias key, 96 bytes. -/
def State.aliasSign (s : State) (m : Bytes) : Bytes := (leBytes 96 (Config.signAlias s.hlm.aliasPub m).toNat).reverse

/-- An SPDM session of that number on that link. -/
def State.sessionBy (s : State) (l : SpdmLink) (id : Nat) (opened : Bool) : Option Session :=
  s.hlm.sessions.find? (fun x => x.id == id && decide (x.link = l) && x.opened == opened)

/-- The link can carry FACTORY sessions: I3C or SMBus (R462). -/
def linkWired : SpdmLink → Bool
  | .mctp r => transportWired r.transport
  | _ => false

/-- Ends the session. -/
def State.endSession (s : State) (id : Nat) : State :=
  s.modHlm (fun h => { h with sessions := h.sessions.filter (fun x => x.id != id) })

/-- FINISH: the session opens, at ADMIN when its requester was authenticated against a management root, at FACTORY in Touchstone on I3C or
SMBus (R462, R516); a failed check is an authentication failure (R542). -/
def State.spdmFinish (s : State) (l : SpdmLink) (id : Nat) (ok : Bool) (auth : Option (Bytes × Bytes)) : State :=
  match s.sessionBy l id false with
  | none => s.spdmAnswer l spdmError [0x02]
  | some _ =>
    if !ok then (s.endSession id).spdmAnswer l spdmError [0x06] |>.report 0x0E04 corrected 0 []
    else
      let admin := match auth with
        | some (h, _) => h != zeroHash && s.hlm.mgmtRoots.contains h
        | none => false
      let factory := s.flag Reg.FLT_STATUS_TOUCHSTONE && linkWired l
      let leaf := (auth.map Prod.snd).getD []
      let xs := updFirst (fun (x : Session) => x.id == id)
        (fun x => { x with opened := true, admin := admin, factory := factory, leaf := leaf }) s.hlm.sessions
      let s := s.modHlm (fun h => { h with sessions := xs })
      s.spdmAnswer l 0x65 []

/-- R540 to R542: answers one SPDM 1.2 request (Table 13-10); requests outside the table answer UnsupportedRequest. -/
def execSpdmRequest (l : SpdmLink) (m : SpdmMsg) (s : State) : Host.Outcome State Fault Refusal :=
  .next (if !s.hlmRuns then s else
    match m with
    | .getVersion => s.spdmAnswer l 0x04 [0x12]
    | .getCapabilities => s.spdmAnswer l 0x61 (leBytes 4 0xC3F6)
    | .negotiateAlgorithms => s.spdmAnswer l 0x63 (leBytes 4 0x80 ++ leBytes 4 2 ++ leBytes 2 0x10 ++ leBytes 2 2)
    | .getDigests => s.spdmAnswer l 0x01 (sha s.certChain)
    | .getCertificate slot off len =>
      if slot ≠ 0 ∨ s.certChain.length < off then s.spdmAnswer l spdmError [0x01]
      else
        let b := (s.certChain.drop off).take len
        s.spdmAnswer l 0x02 (leBytes 2 b.length ++ leBytes 2 (s.certChain.length - off - b.length) ++ b)
    | .challenge slot nonce =>
      if slot ≠ 0 then s.spdmAnswer l spdmError [0x01]
      else
        let b := sha s.certChain ++ leBytes 32 s.free
        s.drawn.spdmAnswer l 0x03 (b ++ s.aliasSign (nonce ++ b))
    | .getMeasurements index nonce =>
      let i := index.toNat
      let all := (List.range 10).map (fun k => leBytes 1 (k + 1) ++ s.measurement (k + 1))
      let b := if i = 0 then [10] else if i = 0xFF then all.flatten else leBytes 1 i ++ s.measurement i
      if 10 < i ∧ i ≠ 0xFF then s.spdmAnswer l spdmError [0x01]
      else s.spdmAnswer l 0x60 (b ++ (if nonce.isEmpty then [] else s.aliasSign (nonce ++ b)))
    | .keyExchange slot _ =>
      if slot ≠ 0 then s.spdmAnswer l spdmError [0x01]
      else if 16 ≤ s.hlm.sessions.length ∨ 4 ≤ s.sessionsOn l then s.spdmAnswer l spdmError [0x0A]
      else
        let id := s.hlm.nextSession
        let x : Session := { id := id, link := l, opened := false, leaf := [], admin := false, factory := false }
        let b := leBytes 2 id ++ leBytes 1 30 ++ leBytes 96 s.free
        (s.drawn.modHlm (fun h => { h with sessions := h.sessions ++ [x], nextSession := id + 1 })).spdmAnswer l 0x64 (b ++ s.aliasSign b)
    | .finish id ok auth => s.spdmFinish l id ok auth
    | .heartbeat id =>
      if (s.sessionBy l id true).isSome then s.spdmAnswer l 0x68 [] else s.spdmAnswer l spdmError [0x02]
    | .keyUpdate id =>
      if (s.sessionBy l id true).isSome then s.spdmAnswer l 0x69 [] else s.spdmAnswer l spdmError [0x02]
    | .endSession id =>
      if (s.sessionBy l id true).isSome then (s.endSession id).spdmAnswer l 0x6C [] else s.spdmAnswer l spdmError [0x02]
    | .other code => s.spdmAnswer l spdmError [0x07, code])

/-- R542: a missed heartbeat ends the session. -/
def execSpdmHeartbeatMiss (session : Nat) (s : State) : Host.Outcome State Fault Refusal := .next (s.endSession session)

/-- R224: a migration key is installed on a host PF by a vendor-defined request inside a session on the PF's DOE mailbox. -/
def execMigrationKeyInstall (u : Port) (session : Nat) (keyId : Fin 8) (key : Bytes) (s : State) : Host.Outcome State Fault Refusal :=
  .next (if !s.hlmRuns then s
    else if (s.sessionBy (.doePf u) session true).isSome ∧ key.length = 48 then
      let ks := s.hlm.migKeys.filter (fun k => !(k.1 == u.val && k.2.1 == keyId.val))
      (s.modHlm (fun h => { h with migKeys := ks ++ [(u.val, keyId.val, key)] })).spdmAnswer (.doePf u) 0x7E []
    else s.spdmAnswer (.doePf u) spdmError [0x01])

/-- R548: on a USP HLM is the IDE_KM responder inside a session on the USP's DOE; stream 0 is the link stream, 1 to 4 the selective
streams of R335. -/
def execIdeKmKeyReceive (u : Port) (session : Nat) (stream : Fin 5) (keySet : Fin 2) (key : Bytes) (s : State) :
    Host.Outcome State Fault Refusal :=
  .next (if !s.hlmRuns then s
    else if (s.sessionBy (.doeUsp u) session true).isSome ∧ s.isUsp u.val ∧ key.length = 32 then
      let k := 8 * u.val + stream.val
      let x := SMap.get s.hlm.ide k IdeStream.dflt
      let y : IdeStream := { keySet := keySet.val, keys := x.keys.filter (fun z => z.1 != keySet.val) ++ [(keySet.val, key)],
                             rekeyTick := s.tick }
      let s := s.modHlm (fun h => { h with ide := SMap.put h.ide k y })
      let s := if stream.val = 0 then
          (s.set Reg.HLM_IDE_CFG_STATE u.val 1).modPort u.val (fun z => { z with ideInsecure := false }) else s
      s.spdmAnswer (.doeUsp u) 0x7E []
    else s.spdmAnswer (.doeUsp u) spdmError [0x01])

/-! ## Commands of Table 13-16 -/

/-- HLM_INFO (0xC900). -/
def specHlmInfo : CmdSpec :=
  { opcode := 0xC900, priv := .observe, sub := 0x0E, len := lenIs 0,
    run := fun _ _ s =>
      let a := s.slotAt? 0
      let b := s.slotAt? 1
      .done (s.words 0x0E000100 6 ++ leBytes 4 a.imageVer ++ leBytes 4 b.imageVer ++ leBytes 1 (b2n a.valid + 2 * b2n b.valid)) s }

/-- HLM_INFO: R553. -/
def execHlmInfo (h : Hdr) (p : Bytes) (s : State) : Host.Outcome State Fault Refusal := specHlmInfo.direct h p s

/-- LEDGER_READ (0xC901): BAD_PARAM for an index erased or not yet written. -/
def specLedgerRead : CmdSpec :=
  { opcode := 0xC901, priv := .observe, sub := 0x0E, len := lenIs 5,
    check := fun _ p s => firstBad [
      need ((List.range (max 1 (min 7 (p8 p 4)))).all (fun k => (SMap.find s.hlm.ledger (p32 p 0 + k)).isSome)) 0,
      need (1 ≤ p8 p 4 && p8 p 4 ≤ 7) 4],
    run := fun _ p s =>
      .done (((List.range (p8 p 4)).map (fun k => SMap.get s.hlm.ledger (p32 p 0 + k) [])).flatten) s }

/-- LEDGER_READ: R536, R553. -/
def execLedgerRead (h : Hdr) (p : Bytes) (s : State) : Host.Outcome State Fault Refusal := specLedgerRead.direct h p s

/-- LEDGER_ARCHIVE_ACK (0xC902): every entry up to the index is archived; BAD_PARAM beyond the newest entry (Table 13-14). -/
def specLedgerArchiveAck : CmdSpec :=
  { opcode := 0xC902, priv := .operate, sub := 0x0E, len := lenIs 4,
    check := fun _ p s => firstBad [need (p32 p 0 < s.ledgerHead) 0],
    run := fun _ p s =>
      let n := max (s.get Reg.HLM_LEDGER_ARCHIVED) (p32 p 0 + 1)
      .done [] (((s.set Reg.HLM_LEDGER_ARCHIVED 0 n).journal (.archived n)).ledgerLow) }

/-- LEDGER_ARCHIVE_ACK: R536. -/
def execLedgerArchiveAck (h : Hdr) (p : Bytes) (s : State) : Host.Outcome State Fault Refusal := specLedgerArchiveAck.direct h p s

/-- IDENTITY_CERT_READ (0xC903). -/
def specIdentityCertRead : CmdSpec :=
  { opcode := 0xC903, priv := .observe, sub := 0x0E, len := lenIs 8,
    check := fun _ p s => firstBad [
      need (p32 p 0 < s.certChain.length) 0,
      need (4 ≤ p32 p 4 && p32 p 4 ≤ 4064 && p32 p 0 + p32 p 4 ≤ s.certChain.length) 4],
    run := fun _ p s => .done (slice s.certChain (p32 p 0) (p32 p 4)) s }

/-- IDENTITY_CERT_READ: R553. -/
def execIdentityCertRead (h : Hdr) (p : Bytes) (s : State) : Host.Outcome State Fault Refusal := specIdentityCertRead.direct h p s

/-- Privilege of the update commands: ADMIN, and OPERATE on I3C or SMBus while the module is in recovery (R543). -/
def updatePriv (h : Hdr) (s : State) : Priv :=
  if s.clk.phase = .recovery ∧ transportWired h.req.transport then .operate else .admin

/-- The slot runs now (R543: an update writes the inactive slot only); in recovery no slot runs. -/
def State.slotRuns (s : State) (i : Nat) : Bool := decide (s.clk.phase ≠ .recovery) && s.get Reg.HLM_STATUS_SLOT == i

/-- The slot is marked for trial. -/
def State.onTrial (s : State) (i : Nat) : Bool := s.hlm.trialSlot == some i || s.hlm.trialNext == some i

/-- FW_UPDATE_START (0xC910): erases the inactive slot; CONFLICT if it is on trial. -/
def specFwUpdateStart : CmdSpec :=
  { opcode := 0xC910, priv := .admin, privAt := updatePriv, sub := 0x0E, len := lenIs 1,
    check := fun _ p _ => firstBad [need (p8 p 0 ≤ 1) 0],
    run := fun _ p s =>
      if s.slotRuns (p8 p 0) || s.hlm.verifying.isSome || (s.onTrial (p8 p 0) && decide (s.clk.phase ≠ .recovery)) then
        .fail stConflict
      else .done [] ((s.modSlot (p8 p 0) (fun _ => FwSlot.empty)).modHlm (fun x => { x with target := some (p8 p 0) })) }

/-- FW_UPDATE_START: R543. -/
def execFwUpdateStart (h : Hdr) (p : Bytes) (s : State) : Host.Outcome State Fault Refusal := specFwUpdateStart.direct h p s

/-- FW_UPDATE_WRITE (0xC911): programs a chunk; BAD_PARAM for an offset below the last written end. -/
def specFwUpdateWrite : CmdSpec :=
  { opcode := 0xC911, priv := .admin, privAt := updatePriv, sub := 0x0E, len := lenIn 8 4096,
    check := fun _ p s => firstBad [
      need (match s.hlm.target with
        | none => true
        | some i => (s.slotAt? i).written ≤ p32 p 0 && p32 p 0 + (p.length - 8) ≤ 2 ^ 24) 0],
    run := fun _ p s =>
      match s.hlm.target with
      | none => .fail stConflict
      | some i =>
        if s.slotRuns i || s.hlm.verifying.isSome || (s.onTrial i && decide (s.clk.phase ≠ .recovery)) then .fail stConflict
        else
          let d := p.drop 8
          .done [] (s.modSlot i (fun x => { x with image := SMap.write x.image (fun _ => 0xFF) (p32 p 0) d, valid := false,
                                                   written := p32 p 0 + d.length })) }

/-- FW_UPDATE_WRITE: R543. -/
def execFwUpdateWrite (h : Hdr) (p : Bytes) (s : State) : Host.Outcome State Fault Refusal := specFwUpdateWrite.direct h p s

/-- FW_UPDATE_VERIFY (0xC912): STARTED; its end checks the slot. -/
def specFwUpdateVerify : CmdSpec :=
  { opcode := 0xC912, priv := .admin, privAt := updatePriv, sub := 0x0E, len := lenIs 1,
    check := fun _ p _ => firstBad [need (p8 p 0 ≤ 1) 0],
    run := fun _ p s =>
      if s.slotRuns (p8 p 0) || s.hlm.verifying.isSome then .fail stConflict
      else .started (s.modHlm (fun x => { x with verifying := some (s.cmd.nextBg, p8 p 0) })) false }

/-- FW_UPDATE_VERIFY: R543. -/
def execFwUpdateVerify (h : Hdr) (p : Bytes) (s : State) : Host.Outcome State Fault Refusal := specFwUpdateVerify.direct h p s

/-- The end of a verification: R522, R523 and R545; an UPDATE entry on success, BAD_PARAM otherwise (Table 13-12). -/
def State.endVerify (s : State) (id : Nat) : State :=
  match s.hlm.verifying with
  | some (b, i) =>
    if b ≠ id then s
    else
      let ok := s.slotBoots i
      let s := (s.modSlot i (fun x => { x.parsed with valid := ok })).modHlm (fun x => { x with verifying := none })
      if ok then (s.ledgeUpdate 1 i).endBg id stSuccess [] else s.endBg id stBadParam []
  | none => s

/-- FW_ACTIVATE (0xC913): the verified slot is marked for trial; mode 1 asks for the WARM start at once. A mark made during a trial stands
behind it: a start reverts the trial and clears both marks, FW_COMMIT leaves the later one (R544). -/
def specFwActivate : CmdSpec :=
  { opcode := 0xC913, priv := .admin, privAt := updatePriv, sub := 0x0E, len := lenIs 2,
    check := fun _ p _ => firstBad [need (p8 p 0 ≤ 1) 0, need (p8 p 1 ≤ 1) 1],
    run := fun _ p s =>
      let now := p8 p 1 == 1
      let may := s.clk.phase == .ready || s.clk.phase == .recovery
      if !(s.slotAt? (p8 p 0)).valid || s.slotRuns (p8 p 0) || (now && (!may || s.clk.startPend.isSome)) then
        .fail stConflict
      else
        let s := if s.flag Reg.HLM_STATUS_TRIAL then s.modHlm (fun x => { x with trialNext := some (p8 p 0) })
          else s.modHlm (fun x => { x with trialSlot := some (p8 p 0), trialBegun := false })
        let s := s.ledgeUpdate 2 (p8 p 0)
        .done [] (if now then s.askStart 3 6 0 else s) }

/-- FW_ACTIVATE: R543, R544, R601. -/
def execFwActivate (h : Hdr) (p : Bytes) (s : State) : Host.Outcome State Fault Refusal := specFwActivate.direct h p s

/-- FW_COMMIT (0xC914): only while running on trial; CONFLICT where a start that reverts the trial has been asked for (Table 13-14). -/
def specFwCommit : CmdSpec :=
  { opcode := 0xC914, priv := .admin, privAt := updatePriv, sub := 0x0E, len := lenIs 0,
    run := fun _ _ s =>
      if !s.flag Reg.HLM_STATUS_TRIAL || s.clk.startPend.isSome then .fail stConflict
      else
        let i := s.get Reg.HLM_STATUS_SLOT
        let x := s.slotAt? i
        let s := s.modHlm (fun h => { h with committed := i, trialSlot := h.trialNext, trialNext := none, trialBegun := false })
        let s := (s.setFlag Reg.HLM_STATUS_TRIAL 0 false).set Reg.HLM_STATUS_SVN_MIN 0 (max (s.get Reg.HLM_STATUS_SVN_MIN) x.svn)
        let s := s.set Reg.HLM_STATUS_REVOKED 0 (s.get Reg.HLM_STATUS_REVOKED ||| x.revoke)
        .done [] (s.ledgeUpdate 3 i) }

/-- FW_COMMIT: R543, R545. -/
def execFwCommit (h : Hdr) (p : Bytes) (s : State) : Host.Outcome State Fault Refusal := specFwCommit.direct h p s

/-- Sets or clears the configuration lock: journal, LOCK entry, the digest as reply (R546). -/
def State.setLock (s : State) (h : Hdr) (on : Bool) : CmdResult :=
  if s.flag Reg.HLM_STATUS_LOCKED = on then .fail stConflict
  else
    let leaf := ((s.sessionOf h).map Session.leaf).getD []
    let who := if leaf.isEmpty then List.replicate 16 0 else (sha leaf).take 16
    let s := (s.setFlag Reg.HLM_STATUS_LOCKED 0 on).journal (.lock on)
    let s := s.ledge 4 0 (leBytes 4 0) (leBytes 1 (b2n on) ++ [0, 0, 0] ++ who)
    .done s.digest s

/-- CONFIG_LOCK (0xC920). -/
def specConfigLock : CmdSpec :=
  { opcode := 0xC920, priv := .admin, sub := 0x0E, len := lenIs 0, run := fun h _ s => s.setLock h true }

/-- CONFIG_LOCK: R546. -/
def execConfigLock (h : Hdr) (p : Bytes) (s : State) : Host.Outcome State Fault Refusal := specConfigLock.direct h p s

/-- CONFIG_UNLOCK (0xC921). -/
def specConfigUnlock : CmdSpec :=
  { opcode := 0xC921, priv := .admin, sub := 0x0E, len := lenIs 0, run := fun h _ s => s.setLock h false }

/-- CONFIG_UNLOCK: R546. -/
def execConfigUnlock (h : Hdr) (p : Bytes) (s : State) : Host.Outcome State Fault Refusal := specConfigUnlock.direct h p s

/-- ROOT_SET at OPERATE on I3C or SMBus while both management slots are empty (R547). -/
def rootPriv (h : Hdr) (s : State) : Priv :=
  if transportWired h.req.transport ∧ s.hlm.mgmtRoots.all (· == zeroHash) then .operate else .admin

/-- ROOT_SET (0xC922): one root hash, zeros to clear; LOCKED after the lock. -/
def specRootSet : CmdSpec :=
  { opcode := 0xC922, priv := .admin, privAt := rootPriv, sub := 0x0E, len := lenIs 52, locks := fun _ _ => true,
    check := fun _ p _ => firstBad [need (p8 p 0 ≤ 1) 0, need (p8 p 1 < (if p8 p 0 = 0 then 2 else 4)) 1],
    run := fun _ p s =>
      let x := slice p 4 48
      if p8 p 0 = 0 then
        .done [] ((s.modHlm (fun h => { h with mgmtRoots := h.mgmtRoots.set (p8 p 1) x })).journal (.mgmtRoot (p8 p 1) x))
      else .done [] ((s.modHlm (fun h => { h with devRoots := h.devRoots.set (p8 p 1) x })).journal (.devRoot (p8 p 1) x)) }

/-- ROOT_SET: R547. -/
def execRootSet (h : Hdr) (p : Bytes) (s : State) : Host.Outcome State Fault Refusal := specRootSet.direct h p s

end Sys2Proof.Machine
end

