-- ==== Sys2Proof/Machine/Seam.lean ====
section
/-! DEFINITION. The Seam: bundle training, spare lanes, streams, and twin operation with its commands (R381 to R411). -/

namespace Sys2Proof.Machine

/-! ## Bundles (R385 to R393) -/

/-- Index of lane `i` of bundle `b` in the lane registers. -/
def seamLane (b i : Nat) : Nat := 32 * b + i

/-- Changes a bundle's detail. -/
def State.modBundle (s : State) (b : Nat) (f : BundleSt → BundleSt) : State :=
  s.modSem (fun m => { m with bundles := SMap.modify m.bundles b BundleSt.dflt f })

/-- A bundle's detail. -/
def State.bundle (s : State) (b : Nat) : BundleSt := SMap.get s.sem.bundles b BundleSt.dflt

/-- STATE of a bundle. -/
def State.bundleState (s : State) (b : Nat) : Nat := s.get Reg.SEM_BUNDLE_STATUS_STATE b

/-- Stores STATE. -/
def State.setBundle (s : State) (b v : Nat) : State := s.set Reg.SEM_BUNDLE_STATUS_STATE b v

/-- Every lane of a bundle, spare included, returns to service and nothing is locked (R391). -/
def State.laneReset (s : State) (b : Nat) : State :=
  forEach (List.range 17) (fun i s =>
    let k := seamLane b i
    let s := ((s.setFlag Reg.SEM_LANE_STATUS_LOCK k false).setFlag Reg.SEM_LANE_STATUS_POL_INV k false).setFlag Reg.SEM_LANE_STATUS_LOST k false
    (s.set Reg.SEM_LANE_STATUS_FOM k 0).set Reg.SEM_LANE_STATUS_FOM_MIN k 0) s

/-- A bundle retrains from RESET (R391). -/
def State.retrainBundle (s : State) (b : Nat) : State :=
  let s := (s.laneReset b).modBundle b (fun x => { x with spareTx := none, adapt := [] })
  let s := ((s.setFlag Reg.SEM_BUNDLE_STATUS_REVERSED b false).setFlag Reg.SEM_BUNDLE_STATUS_ID_ERR b false).setFlag Reg.SEM_BUNDLE_STATUS_CK_OK b false
  let s := (s.set Reg.SEM_BUNDLE_STATUS_SPARE_FOR b 0x1F).setFlag Reg.SEM_BUNDLE_STATUS_SPARE_FAILED b false
  (s.setBundle b 0).emit (.seamCtl b 0 0)

/-- A bundle is down; its streams move (R393, R394). -/
def State.bundleOff (s : State) (b : Nat) : State := (s.setBundle b 9).placeStreams

/-- A bundle goes down under R393. -/
def State.bundleFails (s : State) (b : Nat) (cause : BundleCause) : State :=
  match cause with
  | .ckLoss => ((s.setFlag Reg.SEM_BUNDLE_STATUS_CK_OK b false).bundleOff b).report (0x0508 + b) corrected 0 [byte b]
  | _ => (s.bundleOff b).report (0x0504 + b) corrected 2 [byte b]

/-- BUNDLE_DOWN: R393. -/
def execBundleDown (b : Bundle) (cause : BundleCause) (s : State) : Host.Outcome State Fault Refusal :=
  .next (if s.bundleUp b.val then s.bundleFails b.val cause else s)

/-- BUNDLE_RETRAIN_TIMER: R391; a bundle that has not reached ACTIVE tries again. -/
def execBundleRetrainTimer (b : Bundle) (s : State) : Host.Outcome State Fault Refusal :=
  .next (if s.mainUp && !s.bundleUp b.val && !(s.bundle b.val).disabled then s.retrainBundle b.val else s)

/-- BLOCK_LOCK: R385. -/
def execBlockLock (b : Bundle) (i : Fin 17) (s : State) : Host.Outcome State Fault Refusal :=
  .next (if 2 ≤ s.bundleState b.val ∧ s.bundleState b.val ≤ 8 then s.setFlag Reg.SEM_LANE_STATUS_LOCK (seamLane b.val i.val) true else s)

/-- A lane of a list by index. -/
def laneAt (l : List (BitVec 8)) (i : Nat) : Nat := (l.getD i 0).toNat

/-- The checks of MAP in the order of R388: whether they pass, and whether the bundle is reversed. -/
def State.mapCheck (s : State) (b : Nat) (r : SeamTrain) : Bool × Bool :=
  let ids := (List.range 17).map (fun i => (r.lanes.getD i 0x7F).toNat)
  let types := (List.range 17).all (fun i => laneAt r.types i == 0x5E || laneAt r.types i == 0xA1)
  let normal := (List.range 17).all (fun i => ids.getD i 0 == i)
  let turned := (List.range 17).all (fun i => ids.getD i 0 == 16 - i)
  (types && (normal || turned) && r.bundle.val == b && r.twinB != s.flag Reg.SEM_TWIN_STATUS_TWIN_B, turned)

/-- Leaves MAP, or stays there with ID_ERR (R388). -/
def State.mapStep (s : State) (b : Nat) (r : SeamTrain) : State :=
  let c := s.mapCheck b r
  if c.1 then
    let s := forEach (List.range 17) (fun i s => s.setFlag Reg.SEM_LANE_STATUS_POL_INV (seamLane b i) (laneAt r.types i == 0xA1)) s
    ((s.setFlag Reg.SEM_BUNDLE_STATUS_REVERSED b c.2).setFlag Reg.SEM_BUNDLE_STATUS_ID_ERR b false).setBundle b 4
  else if s.flag Reg.SEM_BUNDLE_STATUS_ID_ERR b then s
  else (s.setFlag Reg.SEM_BUNDLE_STATUS_ID_ERR b true).report (0x050C + b) corrected 0 [byte b]

/-- Leaves ADAPT: lanes that end below the target are reported (R389). -/
def State.adaptEnd (s : State) (b : Nat) (r : SeamTrain) : State :=
  let s := forEach (List.range 17) (fun i s =>
    let f := laneAt r.foms i
    let s := s.set Reg.SEM_LANE_STATUS_FOM (seamLane b i) f
    if f < s.get Reg.SEM_CTL_FOM_TARGET then s.report (0x0500 + b) corrected 2 [byte b] [byte i, byte f] else s) s
  s.setBundle b 6

/-- ACTIVE begins: FOM_MIN starts from the present FOM, streams move to the bundle (R387, R390, R394). -/
def State.bundleActive (s : State) (b : Nat) : State :=
  let s := forEach (List.range 17) (fun i s =>
    s.set Reg.SEM_LANE_STATUS_FOM_MIN (seamLane b i) (s.get Reg.SEM_LANE_STATUS_FOM (seamLane b i))) s
  (s.setBundle b 8).placeStreams

/-- BUNDLE_STATE_ADVANCE: Table 9-4; a state moves on when both ends report the next one and its receiver action is done. -/
def execBundleStateAdvance (b : Bundle) (r : SeamTrain) (s : State) : Host.Outcome State Fault Refusal :=
  .next (if !r.agree || !s.mainUp then s else
    let s := match s.bundleState b.val with
      | 0 => s.setBundle b.val 1
      | 1 => (s.setFlag Reg.SEM_BUNDLE_STATUS_CK_OK b.val true).setBundle b.val 2
      | 2 => if (List.range 17).all (fun i => s.flag Reg.SEM_LANE_STATUS_LOCK (seamLane b.val i)) then s.setBundle b.val 3 else s
      | 3 => s.mapStep b.val r
      | 4 => s.setBundle b.val 5
      | 5 => s.adaptEnd b.val r
      | 6 => s.bundleActive b.val
      | _ => s
    s.emit (.seamCtl b.val 0 (s.bundleState b.val)))

/-- SEAM_ADAPT_STEP: a lane below the target requests a transmitter step, at most 64, and keeps it only if its FOM rises (R389). -/
def execSeamAdaptStep (b : Bundle) (i : Fin 17) (before after : BitVec 8) (s : State) : Host.Outcome State Fault Refusal :=
  let n := SMap.get (s.bundle b.val).adapt i.val 0
  .next (if s.bundleState b.val = 5 ∧ before.toNat < s.get Reg.SEM_CTL_FOM_TARGET ∧ n < 64 then
      let s := s.modBundle b.val (fun x => { x with adapt := SMap.put x.adapt i.val (n + 1) })
      (s.set Reg.SEM_LANE_STATUS_FOM (seamLane b.val i.val) (max before.toNat after.toNat)).emit (.seamCtl b.val 3 i.val)
    else s)

/-- The spare of the reverse direction can carry a SPARE request. -/
def State.spareFree (s : State) (b : Nat) : Bool := (s.bundle b).spareTx.isNone && !s.flag Reg.SEM_BUNDLE_STATUS_SPARE_FAILED b

/-- SEAM_LANE_LOSS: data lane `i` is replaced by the spare, or the bundle goes down (R392, R393). -/
def execSeamLaneLoss (b : Bundle) (i : Fin 17) (s : State) : Host.Outcome State Fault Refusal :=
  let k := seamLane b.val i.val
  .next (if !s.bundleUp b.val || s.flag Reg.SEM_LANE_STATUS_LOST k || 16 ≤ i.val then s else
    let s := (s.setFlag Reg.SEM_LANE_STATUS_LOST k true).setFlag Reg.SEM_LANE_STATUS_LOCK k false
    if s.get Reg.SEM_BUNDLE_STATUS_SPARE_FOR b.val ≠ 0x1F ∨ s.flag Reg.SEM_BUNDLE_STATUS_SPARE_FAILED b.val then
      s.bundleFails b.val .secondLane
    else
      let free := s.spareFree b.val
      let s := s.set Reg.SEM_BUNDLE_STATUS_SPARE_FOR b.val i.val
      let s := if free then s.emit (.seamCtl b.val 1 i.val) else s.ctlSend (.spare b (Fin.ofNat 16 i.val))
      let s := forEach (s.carried b.val) (fun x s => s.modStream x (fun y => { y with nakDue := true })) s
      s.report (0x0500 + b.val) corrected 1 [byte i.val])

/-- The transmitter carries lane `i` on D16 from the next AM row (R392). -/
def State.spareOn (s : State) (b i : Nat) : State :=
  if s.bundleUp b && (s.bundle b).spareTx.isNone then (s.modBundle b (fun x => { x with spareTx := some i })).emit (.seamCtl b 2 i) else s

/-- SEAM_SPARE_REQUEST: R392. -/
def execSeamSpareRequest (b : Bundle) (i : Fin 16) (s : State) : Host.Outcome State Fault Refusal := .next (s.spareOn b.val i.val)

/-- SEAM_SPARE_FAILURE: R390; a spare in use takes its bundle down with it (R393). -/
def execSeamSpareFailure (b : Bundle) (s : State) : Host.Outcome State Fault Refusal :=
  .next (if s.bundleUp b.val && !s.flag Reg.SEM_BUNDLE_STATUS_SPARE_FAILED b.val then
      let s := (s.setFlag Reg.SEM_BUNDLE_STATUS_SPARE_FAILED b.val true).report (0x0504 + b.val) corrected 1 [byte b.val]
      if s.get Reg.SEM_BUNDLE_STATUS_SPARE_FOR b.val ≠ 0x1F then s.bundleFails b.val .secondLane else s
    else s)

/-! ## Twin state (R398 to R408) -/

/-- PRIMARY: Twin A while both are in the domain, each module for itself while SUSPENDED (R398, R406). -/
def State.showPrimary (s : State) : State :=
  s.setFlag Reg.SEM_TWIN_STATUS_PRIMARY 0 (s.flag Reg.SEM_TWIN_STATUS_SUSPENDED || !s.flag Reg.SEM_TWIN_STATUS_TWIN_B)

/-- Stores and journals the twin state (R399). -/
def State.setTwin (s : State) (enabled suspended : Bool) (partner : Option TwinId) : State :=
  let s := (s.setFlag Reg.SEM_TWIN_STATUS_ENABLED 0 enabled).setFlag Reg.SEM_TWIN_STATUS_SUSPENDED 0 suspended
  let s := (s.modSem (fun m => { m with partner := partner })).showPrimary
  s.journal (.twin enabled suspended partner)

/-- A TWIN ledger entry (Table 13-7): event 1 enabled, 2 suspended, 3 resumed, 4 disabled, 5 partner restarted. -/
def State.ledgeTwin (s : State) (event : Nat) (x : TwinId) : State :=
  s.ledge 7 0 [0, 0, 0, 0] ([byte event, byte (b2n (s.flag Reg.SEM_TWIN_STATUS_TWIN_B)), 0, 0] ++ leBytes 8 x.dsn ++ leBytes 4 x.boot
    ++ slice x.keyId 0 16 ++ slice x.newest 0 48 ++ slice (sha x.cert) 0 48)

/-- What is known of a partner that has told nothing. -/
def noTwin : TwinId := { homeMap := [], clear := true, dsn := 0, boot := 0, keyId := [], newest := [], cert := [] }

/-- Every request across the Seam that is not answered ends: a copy behind a partner port as failed, a request to the partner's
half as row 8 (R406). -/
def State.endAsks (s : State) : State :=
  let l := s.sem.asks
  let s := s.modSem (fun m => { m with asks := [], inbox := [], snps := [] })
  forEach l (fun (x : Nat × TwinAsk) s =>
    if x.2.port = homeTarget then
      match x.2.user with
      | .home i line c =>
        (s.modTxn i line (fun t => { t with row := 8, poisonLine := true, failed := true })).homeDev i line c x.2.isRead true true zeroLine
      | u => s.deliver u x.2.isRead true false []
    else s.deliver x.2.user x.2.isRead false false []) s

/-- A relocation has a place behind a partner port. -/
def State.onPartner (s : State) (cw : Nat) : Bool := (List.range 64).any (fun n => s.copyOn (cwIl cw) (cwTarget cw) (64 + n))

/-- The partner is lost (R406): SUSPENDED unless twin operation was disabled; the home treats it as a lost party, the proxies take
their lines back, copies behind its ports are fenced, its half takes row 8; an event, a ledger entry. -/
def State.partnerGone (s : State) (suspend : Bool) : State :=
  let who := s.sem.partner.getD noTwin
  let run := s.sem.run
  let mine := s.dir.entries.filterMap (fun (x : Nat × DirEntry) =>
    let line := lineOf (x.1 / 16) x.2.tag
    if s.partnerLine line && (x.2.state == .s || x.2.state == .e) && !x.2.pinned then some (x.1, line) else none)
  let s := (s.setTwin suspend suspend (if suspend then s.sem.partner else none)).modSem (fun m => { m with lost := true, run := none })
  let s := forEach (List.range 4) (fun x s => s.modStream x (fun y => { y with waiting := [] })) s
  let o : FlushOp := { op := 0, ranges := [], usp := none, bgId := none, release := none, page := none, twin := false }
  let s := forEach mine (fun x s => s.flushLine o x.1 x.2) s
  let s := (s.reportOpen 0x0980 contained 0 []).loseParty 0x40
  let s := s.endAsks
  let s := forEach ((List.range 64).map (fun n => s.mirrorsOn (64 + n))).flatten (fun c s => s.fence c.1 c.2) s
  let live := s.pol.relocs.filter (fun r => r.freeAt.isNone && !r.aborting && r.leg < 4)
  let s := forEach live (fun r s =>
    if s.onPartner r.dstCopy then s.destFailed r else if s.onPartner r.srcCopy then s.sourceFailed r else s) s
  let s := s.answerWaits (fun w => match w with | .relay _ => true | _ => false) stHwFault []
  let s := s.endBg? (run.bind TwinRun.bgId) stHwFault []
  (s.report 0x0520 contained 0 []).ledgeTwin (if suspend then 2 else 4) who

/-- The partner of an enabled pair is lost. -/
def State.losePartner (s : State) : State := if s.twinOn then s.partnerGone true else s

/-- PARTNER_LOSS: no bundle has been ACTIVE for LOSS_US (R406). -/
def execPartnerLoss (s : State) : Host.Outcome State Fault Refusal :=
  .next (if s.bundlesUp.isEmpty then s.losePartner else s)

/-- LEAVING_MESSAGE: R406. -/
def execLeavingMessage (s : State) : Host.Outcome State Fault Refusal := .next s.losePartner

/-- A module sends LEAVING before a reset or its safe state (R406). -/
def State.sendLeaving (s : State) : State := if s.twinOn then s.ctlSend .leaving else s

/-- The pool tables name a partner port (R408). -/
def State.namesPartner (s : State) : Bool := (List.range 64).any (fun n => s.poolNames (64 + n))

/-- What this module's state must be for TWIN_ENABLE (R399, R407). -/
def State.twinReady (s : State) : Bool :=
  !s.bundlesUp.isEmpty && !s.twinOn && s.sem.run.isNone &&
    (if s.flag Reg.SEM_TWIN_STATUS_SUSPENDED then !s.flag Reg.DIR_LOST_TWIN else s.twinId.clear)

/-- What the other module tells must match (R399). -/
def State.twinMatches (s : State) (x : TwinId) : Bool :=
  x.homeMap == s.twinId.homeMap && (s.flag Reg.SEM_TWIN_STATUS_SUSPENDED || x.clear)

/-- TWIN_ENABLE takes effect on this module. -/
def State.enableTwin (s : State) (x : TwinId) : State :=
  let was := s.flag Reg.SEM_TWIN_STATUS_SUSPENDED
  let again := was && (s.sem.partner.map (fun y => y.boot != x.boot)).getD false
  let s := ((s.setTwin true false (some x)).modSem (fun m => { m with lost := false })).setFlag Reg.DIR_LOST_TWIN 0 false
  let s := if again then s.ledgeTwin 5 x else s
  s.ledgeTwin (if was then 3 else 1) x

/-- The bit of a share group in SEM_TWIN_GRP. -/
def State.twinGroup (s : State) (g : Nat) : Bool := bitOf (s.get Reg.SEM_TWIN_GRP (g / 32)) (g % 32)

/-- Sets the bit of a share group and journals it. -/
def State.setTwinGroup (s : State) (g : Nat) (on : Bool) : State :=
  (s.set Reg.SEM_TWIN_GRP (g / 32) (putBit (s.get Reg.SEM_TWIN_GRP (g / 32)) (g % 32) on)).journal (.twinGroup g on)

/-! ## Messages from the other twin (Table 9-8) -/

/-- Queue class of a message (Table 5-2). -/
def twinQueue : TwinMsg → Nat
  | .devReq _ _ => 2
  | .homeReq _ => 2
  | .snp _ _ | .birsp _ _ | .conflict _ => 0
  | .devRsp _ _ _ _ | .homeRsp _ _ _ _ _ | .atomRsp _ _ | .conflictAck _ => 1
  | _ => 7

/-- The row of Table 2-3 that a request of the partner takes at its home (R402): rows 2 to 4 and 6 to 8. -/
def State.twinRow (s : State) (r : ProxyReq) (stamp : Nat) : Nat × Nat :=
  let e := s.entryAt (extentOf r.line) stamp
  let cs := s.copies e r.line stamp
  if s.partnerLine r.line || !entValid e || s.badSet e stamp then (2, 0)
  else if entShared e != r.upper then (3, 0)
  else if !(entShared e && s.twinGroup (entOwner e)) then (4, 0)
  else if entPoisoned e then (6, 0)
  else if (isWriteOp r.op || r.atom.isSome) && entReadOnly e then (7, 0)
  else match s.readCopy e r.line stamp with
    | none => (8, ((cs.head?).map Copy.port).getD 0)
    | some c => if (cs.filter (fun x => x.state == 0)).any (fun x => s.targetUp x.port) then (9, c.port) else (8, c.port)

/-- A request of a proxy slice reaches its home (R402). A refused one answers with its row; row 8 is reported here, the others by
the module whose host asked. -/
def State.homeFromTwin (s : State) (x : Nat) (r : ProxyReq) : State :=
  let stamp := s.stampOf (.seam (Fin.ofNat 4 x))
  let row := s.twinRow r stamp
  let wr := isWriteOp r.op && r.atom.isNone
  let no := fun (s : State) (n : Nat) =>
    if r.atom.isSome then s.twinSend (r.tag / 8192 % 4) 1 (.atomRsp r.tag none)
    else s.toHost 0x40 { tag := r.tag, row := n, data := if wr then none else some zeroLine, poison := !wr, mta := none }
  if row.1 ≠ 9 then (if row.1 = 8 then no (s.reportDsp row.2 contained 3 (ctxLd 0 r.line)) 8 else no s row.1)
  else match s.homeAt r.line stamp with
    | none => no s 2
    | some i =>
      let q : HomeReq :=
        { src := seamAtt x, usp := some 0x40, line := r.line, op := r.op, snp := r.snp, mval := r.mval, tag := r.tag, data := r.data, mask := r.mask,
          poison := r.poison, atom := r.atom, ctx := none, relocSlot := none, ld := 0, entry := s.entryAt (extentOf r.line) stamp, stamp := stamp,
          track := .none }
      s.arrive i q

/-- Takes the note of who waits for a tag. -/
def State.takeAsk (s : State) (tag : Nat) : Option (TwinAsk × State) :=
  (SMap.find s.sem.asks tag).map (fun a => (a, s.modSem (fun m => { m with asks := SMap.del m.asks tag })))

/-- The answer of the home to a proxy slice (R403). A refusal is reported as this module's own (Table 2-3). -/
def State.proxyAnswer (s : State) (a : TwinAsk) (row : Nat) (data : Option Bytes) (poison : Bool) (mval : Option Meta) : State :=
  match a.user with
  | .home i line c =>
    let t := s.txnOf i line
    let s := if row = 9 ∨ row = 6 then s else match t with
      | some t => if row = 8 then s else s.report (0x0A00 + t.req.ld / 16) contained row (ctxLd t.req.ld line)
      | none => s
    let s := s.modTxn i line (fun t => { t with row := row, granted := mval, poisonLine := t.poisonLine || row != 9 })
    s.homeDev i line c a.isRead true (poison || (a.isRead && row != 9)) (data.getD zeroLine)
  | u => s.deliver u a.isRead true poison (data.getD zeroLine)

/-- The home's answer to an atomic that passed to it (R403). -/
def State.proxyAtom (s : State) (a : TwinAsk) (orig : Option Nat) : State :=
  match a.user with
  | .home i line c =>
    (s.modTxn i line (fun t => { t with original := leBytes 16 (orig.getD 0), failed := t.failed || orig.isNone })).homeDev i line c true true false zeroLine
  | _ => s

/-- TWIN_DISABLE takes effect on this module (R408). -/
def State.disableTwin (s : State) : State := s.partnerGone false

/-- The other twin asks to enable or to disable (R399, R408, R550). -/
def State.twinAsked (s : State) (op : TwinOp) : State :=
  match op with
  | .enable x =>
    if !s.twinReady || !s.twinMatches x then s.ctlSend (.reply .conflict)
    else if !Config.twinVerified x.cert then s.ctlSend (.reply .denied)
    else s.ctlSend (.reply (.ok s.twinId))
  | .disable =>
    if s.sem.run.isSome || !s.twinOn || s.namesPartner then s.ctlSend (.reply .conflict)
    else (s.modSem (fun m => { m with run := some { bgId := none, enable := false, flushed := false } })).startFlush [(0, 2 ^ 39)] (some 0x40)
      none none true

/-- The other twin answers: the command that this module accepted takes effect on both, or ends without effect. -/
def State.twinReplied (s : State) (r : TwinReply) : State :=
  match s.sem.run with
  | none => s
  | some run =>
    let s := s.modSem (fun m => { m with run := none })
    match r with
    | .conflict => s.endBg? run.bgId stConflict []
    | .denied => s.endBg? run.bgId stDenied []
    | .ok x =>
      if run.enable then
        if !s.twinMatches x then s.endBg? run.bgId stConflict []
        else if !Config.twinVerified x.cert then s.endBg? run.bgId stDenied []
        else ((s.ctlSend (.confirm (.enable s.twinId))).enableTwin x).endBg? run.bgId stSuccess []
      else ((s.ctlSend (.confirm .disable)).disableTwin).endBg? run.bgId stSuccess []

/-- A relayed command runs at the privilege under which the partner accepted it, up to ADMIN (R405, R482). -/
def State.twinCommand (s : State) (id : Nat) (p : Priv) (k : Bytes) : State :=
  s.receive { transport := .partner (if p = .factory then .admin else p), source := id } none k

/-- The completion event of a relayed command goes to its requester as a PARTNER_RELAY event (R482). -/
def State.relayEvent (s : State) (id : Nat) (k : Bytes) : State :=
  match SMap.find s.sem.relays id with
  | none => s
  | some r => (s.modSem (fun m => { m with relays := SMap.del m.relays id })).sendEvent r.1 none (mkPacket 3 0xC004 r.2.1 r.2.2 stSuccess k)

/-- A message reaches its place at the receiving module (R396, Table 9-8). -/
def State.twinMessage (s : State) (x : Nat) (m : TwinMsg) : State :=
  match m with
  | .devReq n r => s.modSem (fun y => { y with inbox := y.inbox ++ [(x, n, r)] })
  | .devRsp tag ok poison data =>
    (match s.takeAsk tag with
     | some (a, s) => s.deliver a.user a.isRead ok poison data
     | none => s)
  | .homeReq r => s.homeFromTwin x r
  | .homeRsp tag row data poison mval =>
    (match s.takeAsk tag with
     | some (a, s) => s.proxyAnswer a row data poison mval
     | none => s)
  | .atomRsp tag orig =>
    (match s.takeAsk tag with
     | some (a, s) => s.proxyAtom a orig
     | none => s)
  | .snp line kind => s.proxySnoop line kind
  | .birsp line r => s.biRsp 0x40 line r
  | .conflict line => (s.countDir ((s.homeAt line s.tbl.epoch).getD 0) 4).twinSend x 1 (.conflictAck line)
  | .conflictAck _ => s
  | .spare b i => s.spareOn b.val i.val
  | .leaving => s.losePartner
  | .ask op => s.twinAsked op
  | .reply r => s.twinReplied r
  | .confirm (.enable y) => s.enableTwin y
  | .confirm .disable => (s.modSem (fun z => { z with run := none })).disableTwin
  | .group g on => s.setTwinGroup g.val on
  | .command id p k => s.twinCommand id p k
  | .response id k => s.answerWaits (fun w => w == .relay id) stSuccess k
  | .event id k => s.relayEvent id k

/-! ## Frames (R394 to R397) -/

/-- Frames up to and including FSEQ `ack` are acknowledged; one that is not outstanding acknowledges nothing. -/
def ackFrames (ack : BitVec 16) (l : List SeamFrame) : List SeamFrame :=
  if l.any (fun f => f.fseq == ack) then (l.dropWhile (fun f => f.fseq != ack)).drop 1 else l

/-- A frame that is discarded: the next frame sent carries NAK (R397). -/
def State.nakStream (s : State) (x : Nat) : State :=
  let s := s.modStream x (fun y => { y with nakDue := true })
  match (s.stream x).onBundle with
  | some b => if s.bundleUp b then s.sendFrame x b else s
  | none => s

/-- One CORRECTED event per stream per millisecond for CRC failures (R397). -/
def State.crcEvent (s : State) (x : Nat) : State :=
  let due : Bool := match (s.stream x).crcTick with
    | none => true
    | some t => cyclesUs 1000 ≤ s.tick - t
  if due then (s.modStream x (fun y => { y with crcTick := some s.tick })).report (0x0510 + x) corrected 0 [byte x] else s

/-- A frame in sequence: acknowledgement, credit, its messages (R396, R397). -/
def State.acceptFrame (s : State) (x : Nat) (f : SeamFrame) : State :=
  let y := s.stream x
  let left := ackFrames f.ack y.unacked
  let s := s.modStream x (fun y =>
    { y with expectF := (y.expectF + 1) % 65536, unacked := left, nakSeen := y.nakSeen || f.nak,
             resends := if left.length < y.unacked.length then 0 else y.resends,
             credits := match f.credit with
               | some (q, n) => y.credits.modify q.val (fun c => min 128 (c + n))
               | none => y.credits,
             owed := f.slots.foldl (fun o m => o.modify (twinQueue m) (· + twinIngots m)) y.owed })
  let before := (s.stream x).nextF
  let s := (forEach f.slots (fun m s => s.twinMessage x m) s).pump x
  match f.slots.isEmpty, (s.stream x).onBundle with
  | false, some b => if (s.stream x).nextF = before ∧ s.bundleUp b then s.sendFrame x b else s
  | _, _ => s

/-- SEAM_FRAME_RECEIVE: R397; a receiver accepts only the frame whose FSEQ follows and whose CRC passes. -/
def execSeamFrameReceive (b : Bundle) (f : SeamFrame) (s : State) : Host.Outcome State Fault Refusal :=
  let x := f.stream.val
  .next (if !s.bundleUp b.val then s
    else if !f.crcOk then ((s.bump Reg.SEM_CNT_CRC x).crcEvent x).nakStream x
    else if f.fseq.toNat ≠ (s.stream x).expectF then s.nakStream x
    else s.acceptFrame x f)

/-- SEAM_RESEND: on NAK or ACK_TO stream `x` resends from its oldest unacknowledged frame; the sixteenth resend without progress
takes its bundle down (R397). -/
def execSeamResend (x : Fin 4) (nak : Bool) (s : State) : Host.Outcome State Fault Refusal :=
  let y := s.stream x.val
  .next (match y.onBundle with
    | none => s
    | some b =>
      if !s.bundleUp b || y.unacked.isEmpty || (nak && !y.nakSeen) then s
      else
        let s := s.emits (y.unacked.map (fun f => OutMsg.seamFrame x.val b f))
        let s := (s.modStream x.val (fun y => { y with nakSeen := false, resends := y.resends + 1 })).bump Reg.SEM_CNT_RESEND x.val y.unacked.length
        if 16 ≤ y.resends + 1 then
          (s.modStream x.val (fun y => { y with resends := 0 })).bundleFails b .stall
        else s)

/-- STREAM_RETURN: R394. -/
def execStreamReturn (x : Fin 4) (s : State) : Host.Outcome State Fault Refusal :=
  let y := s.stream x.val
  .next (if s.bundleUp x.val && y.onBundle != some x.val && y.unacked.isEmpty then
      ((s.modStream x.val (fun y => { y with onBundle := some x.val })).showStreams).pump x.val
    else s)

/-- TWIN_RELAYED_REQUEST: a request that came for DSP `p` is sent to its device on a tag slot of that port (R401, R325). -/
def execTwinRelayedRequest (b : Bundle) (p : Port) (m : RelayReq) (s : State) : Host.Outcome State Fault Refusal :=
  .next (if s.sem.inbox.contains (b.val, p, m) then
      let s := s.modSem (fun y => { y with inbox := delFirst (fun z => z == (b.val, p, m)) y.inbox })
      s.issueDev { port := p.val, user := .relay b.val m.tag, dpa := m.dpa, isRead := m.read, data := m.data, mask := m.mask, mta := m.mval,
                   poison := m.poison }
    else s)

/-! ## Commands (R410, R482) -/

/-- SEAM_INFO (0xC220). -/
def specSeamInfo : CmdSpec :=
  { opcode := 0xC220, priv := .observe, sub := 0x05, len := lenIs 0,
    run := fun _ _ s =>
      .done (s.words 0x05000200 4 ++ ((List.range 4).map (fun b => s.words (0x05000400 + 0x80 * b) 17)).flatten ++ s.words 0x05000108 1
        ++ s.words 0x05000600 8) s }

/-- SEAM_INFO: R410. -/
def execSeamInfo (h : Hdr) (p : Bytes) (s : State) : Host.Outcome State Fault Refusal := specSeamInfo.direct h p s

/-- SEAM_BUNDLE_CTL (0xC221). -/
def specSeamBundleCtl : CmdSpec :=
  { opcode := 0xC221, priv := .operate, sub := 0x05, len := lenIs 2,
    check := fun _ p _ => firstBad [need (p8 p 0 < 4) 0, need (p8 p 1 < 3) 1],
    run := fun _ p s =>
      let b := p8 p 0
      match p8 p 1 with
      | 0 => .done [] ((s.bundleOff b).retrainBundle b)
      | 1 =>
        if s.flag Reg.SEM_TWIN_STATUS_ENABLED && s.bundlesUp == [b] then .fail stConflict
        else .done [] ((s.modBundle b (fun x => { x with disabled := true })).bundleOff b)
      | _ =>
        if (s.bundle b).disabled then .done [] ((s.modBundle b (fun x => { x with disabled := false })).retrainBundle b)
        else .done [] s }

/-- SEAM_BUNDLE_CTL: R410. -/
def execSeamBundleCtl (h : Hdr) (p : Bytes) (s : State) : Host.Outcome State Fault Refusal := specSeamBundleCtl.direct h p s

/-- TWIN_ENABLE (0xC222): R398, R399, R407. -/
def specTwinEnable : CmdSpec :=
  { opcode := 0xC222, priv := .admin, sub := 0x05, len := lenIs 0,
    run := fun _ _ s =>
      let resume := s.flag Reg.SEM_TWIN_STATUS_SUSPENDED
      let who := if resume then !s.flag Reg.SEM_TWIN_STATUS_TWIN_B || s.sem.lost else s.flag Reg.SEM_TWIN_STATUS_PRIMARY
      if !who || !s.twinReady then .fail stConflict
      else
        let s := s.modSem (fun m => { m with run := some { bgId := some s.cmd.nextBg, enable := true, flushed := false } })
        .started (s.ctlSend (.ask (.enable s.twinId))) true }

/-- TWIN_ENABLE: R399. -/
def execTwinEnable (h : Hdr) (p : Bytes) (s : State) : Host.Outcome State Fault Refusal := specTwinEnable.direct h p s

/-- TWIN_DISABLE (0xC223): R408. -/
def specTwinDisable : CmdSpec :=
  { opcode := 0xC223, priv := .admin, sub := 0x05, len := lenIs 0,
    run := fun _ _ s =>
      if !s.twinOn || !s.flag Reg.SEM_TWIN_STATUS_PRIMARY || s.sem.run.isSome || s.namesPartner then .fail stConflict
      else
        let s := s.modSem (fun m => { m with run := some { bgId := some s.cmd.nextBg, enable := false, flushed := false } })
        .started (s.startFlush [(0, 2 ^ 39)] (some 0x40) none none true) true }

/-- TWIN_DISABLE: R408. -/
def execTwinDisable (h : Hdr) (p : Bytes) (s : State) : Host.Outcome State Fault Refusal := specTwinDisable.direct h p s

/-- TWIN_GROUP_SET (0xC224). -/
def specTwinGroupSet : CmdSpec :=
  { opcode := 0xC224, priv := .operate, sub := 0x05, len := lenIs 3,
    check := fun _ p _ => firstBad [need (p16 p 0 < 1024) 0, need (p8 p 2 < 2) 2],
    run := fun _ p s =>
      let g := p16 p 0
      let on := bitOf (p8 p 2) 0
      let held := s.validExtents.any (fun x => entShared x.2 && entOwner x.2 == g)
      if !s.flag Reg.SEM_TWIN_STATUS_PRIMARY || s.sem.run.isSome || (held && s.twinGroup g != on) then .fail stConflict
      else
        let s := if s.twinOn then s.ctlSend (.group (Fin.ofNat 1024 g) on) else s
        .done [] (s.setTwinGroup g on) }

/-- TWIN_GROUP_SET: R410. -/
def execTwinGroupSet (h : Hdr) (p : Bytes) (s : State) : Host.Outcome State Fault Refusal := specTwinGroupSet.direct h p s

/-- The lower of a privilege and ADMIN (R482). -/
def capAdmin : Priv → Priv
  | .factory => .admin
  | p => p

/-- PARTNER_RELAY (0xC004): the inner packet runs on the partner; the response waits for the partner's (R482). -/
def specPartnerRelay : CmdSpec :=
  { opcode := 0xC004, priv := .observe, sub := 0x05, len := lenIn 20 4096,
    deny := fun h p s =>
      match opPriv (pktOpcode p) with
      | some q => !(privRank q ≤ privRank (s.privOf h))
      | none => false,
    check := fun _ p _ => firstBad [need (pktOpcode p != 0xC004 && pktOpcode p / 256 != 0xCF) 2],
    run := fun h p s =>
      if !s.flag Reg.SEM_TWIN_STATUS_ENABLED || s.bundlesUp.isEmpty then .fail stConflict
      else
        let id := s.sem.nextRelay
        let s := s.modSem (fun m => { m with nextRelay := id + 1, relays := SMap.put m.relays id (h.req, h.tag.toNat, h.context.toNat) })
        .waits (.relay id) (s.ctlSend (.command id (capAdmin (s.privOf h)) p)) }

/-- PARTNER_RELAY: R482. -/
def execPartnerRelay (h : Hdr) (p : Bytes) (s : State) : Host.Outcome State Fault Refusal := specPartnerRelay.direct h p s

end Sys2Proof.Machine
end

