-- ==== Sys2Proof/Machine/Vault.lean ====
section
/-! DEFINITION. The vault and the on-chip SRAM: reads, writes, the Crucible, Anneal, retirement, pseudo-channel failure, SRAM repair, and
the vault commands (R419 to R456). -/

namespace Sys2Proof.Machine

/-! ## Pages -/

/-- A page at the time it is not formed. -/
def State.page (s : State) (n : Nat) : VPage := SMap.get s.vlt.pages n VPage.dflt

/-- Changes a page. -/
def State.modPage (s : State) (n : Nat) (f : VPage → VPage) : State :=
  s.modVlt (fun v => { v with pages := SMap.modify v.pages n VPage.dflt f })

/-- The 2,048 data bytes of a page; zeros while it is not formed (R421). -/
def VPage.bytes (p : VPage) : Bytes := if p.formed then SMap.bytes p.data (fun _ => 0) 0 2048 else List.replicate 2048 0

/-- The page is in the Crucible. -/
def State.inCrucible (s : State) (n : Nat) : Bool := s.vlt.crucible.any (fun b => b.page == n)

/-- Writes a Crucible buffer back: the page is encoded anew (R420, R426). -/
def State.writeBack (s : State) (n : Nat) : State :=
  (s.modVlt (fun v => { v with crucible := v.crucible.filter (fun b => b.page != n) })).modPage n (fun p =>
    { p with wseq := (p.wseq + 1) % 2 ^ 40, errBits := 0 })

/-- Puts a page in the Crucible, or merges into its buffer; when all 256 are in use the one longest unmerged is written back first
(R424, R426, R428). -/
def State.toCrucible (s : State) (n : Nat) : State :=
  let s := if !s.inCrucible n && decide (256 ≤ s.vlt.crucible.length) then
      (match s.vlt.crucible.head? with
       | some b => s.writeBack b.page
       | none => s)
    else s
  s.modVlt (fun v => { v with crucible := v.crucible.filter (fun b => b.page != n) ++ [{ page := n, tick := s.tick }] })

/-- A page is to be retired (R429, R430). -/
def State.retireDue (s : State) (n : Nat) (lost : Bool) : State :=
  if s.vlt.due.any (fun d => d.1 == n) then s else s.modVlt (fun v => { v with due := v.due ++ [(n, lost)] })

/-- A page is uncorrectable: counted, its contents lost, to be retired (R430). -/
def State.pageUncorr (s : State) (n : Nat) : State :=
  let s := (s.bump Reg.VLT_CNT_UNCORR 0).retireDue n true
  s.modPage n (fun _ => VPage.dflt)

/-- The mirror's part in a bus error of a map page: the other copy serves and repairs this one, or the page is rebuilt (R104, R105). -/
def State.mapPageBad (s : State) (n : Nat) (page : Nat) (pair : Bool) : State :=
  let src := if pair then 0x0A81 else 0x0A80
  if ((otherCopy n).map s.pageLost).getD false then
    if s.pol.badPages.contains (page, pair) then s else { s with pol := { s.pol with badPages := s.pol.badPages ++ [(page, pair)] } }
  else s.report src corrected (if pair then 2 else 0) (leBytes 4 page)

/-- What the client of a region does with a bus error, as far as no other row carries it (Table 10-4). -/
def State.clientError (s : State) (n : Nat) : State :=
  match regionOf n with
  | some (1, b, _) | some (2, b, _) =>
    if ((otherCopy n).map s.pageLost).getD false then s
    else s.report (0x0908 + ((s.homeAt ((n - b) * 8) s.tbl.epoch).getD 0)) corrected 0 (leBytes 4 (n - b))
  | some (3, b, _) | some (4, b, _) => s.mapPageBad n (n - b) false
  | some (5, b, _) | some (6, b, _) => s.mapPageBad n (n - b) true
  | some (10, _) => s.report 0x0D00 contained 0 (leBytes 4 n)
  | _ => s

/-- Corrected pages: counted, one event per millisecond (R429, Table 10-11). -/
def State.pageCorrected (s : State) (n bits : Nat) : State :=
  let s := (s.bump Reg.VLT_CNT_CORR_PAGES 0).bump Reg.VLT_CNT_CORR_BITS 0 bits
  let due : Bool := match s.vlt.corrTick with
    | none => true
    | some t => cyclesUs 1000 ≤ s.tick - t
  if due then (s.modVlt (fun v => { v with corrTick := some s.tick })).report 0x0C40 corrected 0 (leBytes 4 n) else s

/-- VAULT_BITS injections on a page (Table 12-9). -/
def State.injectedBits (s : State) (n : Nat) : Nat := ((s.flt.vaultInject.filter (fun x => x.1 == n)).map Prod.snd).sum

/-- Reads a page from the stack, `bits` bits of it found in error beside those known: no error, corrected, or uncorrectable (R421, R427,
R429, R430). Answers the page's data, or none for a bus error. -/
def State.loadPage (s : State) (n bits : Nat) : State × Option Bytes :=
  let p := s.page n
  if s.pageLost n && !s.inCrucible n then
    (if s.vlt.due.contains (n, true) && s.flag Reg.VLT_STATUS_RESERVE_OUT then s.bump Reg.VLT_CNT_UNCORR 0 else s, none)
  else if !p.formed || s.inCrucible n then (s, some p.bytes)
  else
    let inj := s.injectedBits n
    let s := if inj = 0 then s else { s with flt := { s.flt with vaultInject := s.flt.vaultInject.filter (fun x => x.1 != n) } }
    let e := p.errBits + bits + inj
    let t := strengthT (s.pageStrength n)
    let found := fun (s : State) =>
      if e = 0 then s
      else if e ≤ t then
        let s := ((s.modPage n (fun p => { p with errBits := e })).pageCorrected n e).toCrucible n
        if t * s.get Reg.VLT_CTL_RETIRE_FRAC ≤ 8 * e then s.retireDue n false else s
      else s.pageUncorr n
    (if inj = 0 then found s else s.asInjected found, if e ≤ t then some p.bytes else none)

/-- VAULT_READ: a client reads a page (R427 to R430). -/
def execVaultRead (page bits : Nat) (s : State) : Host.Outcome State Fault Refusal :=
  .next (if s.mainUp && decide (page < logicalPages) then
      let r := s.loadPage page bits
      let s := if r.2.isNone then r.1.clientError page else r.1
      s.emit (.vaultData page r.2)
    else s)

/-- VAULT_SUBPAGE_WRITE: merges into a Crucible buffer, after a load for a formed page; on a LOST or uncorrectable page nothing is merged
and the write ends with a bus error (R422, R424, R431, R437). -/
def execVaultSubpageWrite (page off : Nat) (data : Bytes) (bits : Nat) (s : State) : Host.Outcome State Fault Refusal :=
  .next (if s.mainUp && decide (page < logicalPages ∧ off + data.length ≤ 2048 ∧ data.length < 2048) then
      let r := s.loadPage page bits
      match r.2 with
      | none => (r.1.clientError page).emit (.vaultData page none)
      | some _ =>
        (r.1.modPage page (fun p => { p with formed := true, data := SMap.write (if p.formed then p.data else []) (fun _ => 0) off data })).toCrucible page
    else s)

/-- Takes a target page for a logical page: remap entry, journal record, count; with none left the page stays in service and RESERVE_OUT is
set, and a page whose contents are lost answers with a bus error still (R436, R438). -/
def State.retirePage (s : State) (n : Nat) (lost : Bool) : State :=
  let s := s.modVlt (fun v => { v with due := v.due.filter (fun d => d.1 != n) })
  match s.retireTarget n with
  | none =>
    let s := if lost then s.modVlt (fun v => { v with due := v.due ++ [(n, true)] }) else s
    if s.flag Reg.VLT_STATUS_RESERVE_OUT then s else (s.setFlag Reg.VLT_STATUS_RESERVE_OUT 0 true).report 0x0C43 contained 0 (leBytes 4 n)
  | some p =>
    let s := s.modVlt (fun v => { v with remaps := (n, p, lost) :: v.remaps })
    let s := if lost then s.modPage n (fun _ => VPage.dflt) else if (s.page n).formed then s.writeBack n else s
    (((s.journal (.retire n p lost)).bump Reg.VLT_CNT_RETIRED 0).showReserve).report (if lost then 0x0C42 else 0x0C41)
      (if lost then contained else corrected) 0 (leBytes 4 n)

/-- VAULT_FULL_PAGE_WRITE: encoded and written directly, or taken into the page's Crucible buffer; forms the page and clears LOST
(R425, R437). -/
def execVaultFullPageWrite (page : Nat) (data : Bytes) (s : State) : Host.Outcome State Fault Refusal :=
  .next (if s.mainUp && decide (page < logicalPages) then
      let s := s.modVlt (fun v => { v with due := v.due.filter (fun d => d != (page, true)),
                                           remaps := v.remaps.map (fun r => if r.1 = page then (r.1, r.2.1, false) else r) })
      let s := if s.onFailed page then s.retirePage page false else s
      let s := s.modPage page (fun p => { p with formed := true, data := SMap.write [] (fun _ => 0) 0 (slice data 0 2048) })
      if s.inCrucible page then s.toCrucible page else s.writeBack page
    else s)

/-- CRUCIBLE_WRITEBACK: R426. -/
def execCrucibleWriteback (page : Nat) (s : State) : Host.Outcome State Fault Refusal :=
  .next (if s.inCrucible page then s.writeBack page else s)

/-- PAGE_RETIREMENT: R436. -/
def execPageRetirement (page : Nat) (s : State) : Host.Outcome State Fault Refusal :=
  .next (match s.vlt.due.find? (fun d => d.1 == page) with
    | some d => s.retirePage page d.2
    | none => s)

/-! ## Anneal (R433 to R435) -/

/-- The next formed page of the pass that is not LOST. -/
def State.annealNext (s : State) : Option Nat :=
  (s.vlt.pages.find? (fun p => s.vlt.annealPos ≤ p.1 && p.2.formed && !s.pageLost p.1)).map Prod.fst

/-- ANNEAL_READ: the next formed page is read; a correction on three consecutive passes retires it, an uncorrectable page goes to its
client as a bus error. With no formed page left the pass ends. -/
def execAnnealRead (bits : Nat) (s : State) : Host.Outcome State Fault Refusal :=
  .next (if !s.mainUp || !s.flag Reg.VLT_ANNEAL_EN then s else
    match s.annealNext with
    | none =>
      ((s.modVlt (fun v => { v with annealPos := 0, annealRunning := false })).bump Reg.VLT_ANNEAL_STATUS_PASSES 0).set
        Reg.VLT_ANNEAL_STATUS_PROGRESS 0 0
    | some n =>
      let buf := s.inCrucible n
      let r := s.loadPage n bits
      let fixed := !buf && r.1.inCrucible n
      let s := r.1.modVlt (fun v => { v with annealPos := n + 1, annealRunning := true })
      let s := s.set Reg.VLT_ANNEAL_STATUS_PROGRESS 0 (256 * (n + 1) / logicalPages)
      match r.2 with
      | none => s.clientError n
      | some _ =>
        if buf then s
        else
          let k := if fixed then (s.page n).anneal + 1 else 0
          let s := s.modPage n (fun p => { p with anneal := k })
          if 3 ≤ k then s.retireDue n false else s)

/-- ANNEAL_OVERRUN: R435. -/
def execAnnealOverrun (s : State) : Host.Outcome State Fault Refusal :=
  .next (if s.flag Reg.VLT_ANNEAL_EN && s.vlt.annealRunning then
      (s.setFlag Reg.VLT_ANNEAL_STATUS_OVERRUN 0 true).report 0x0C48 corrected 0 []
    else s)

/-! ## Pseudo-channel failure (R440 to R443) -/

/-- A channel holds pages of a region that has no mirror. -/
def unmirroredOn (c : Nat) : Bool :=
  vaultRegions.any (fun r => r.2.2.2.isNone &&
    physDefault r.2.1 * 2176 / channelBytes ≤ c && c ≤ (physDefault (r.2.1 + r.2.2.1 - 1) * 2176 + 2175) / channelBytes)

/-- A pseudo-channel fails: its channel is retired; pages in the Crucible are written to new targets, the others on it are lost. A second
failed channel is a failure beyond the remap capacity (R441 to R443). -/
def State.failPc (s : State) (i : Nat) : State :=
  let c := i / 2
  if s.channelFailed c then s
  else
    let second := (List.range 16).any s.channelFailed
    let kept := (s.vlt.crucible.map CruBuf.page).filter (fun n => (pageChannels (s.physOf n)).contains c)
    let gone := (s.vlt.pages.map Prod.fst).filter (fun n => (pageChannels (s.physOf n)).contains c && !kept.contains n)
    let m := s.get Reg.VLT_PC_FAILED ||| 2 ^ i
    let s := (s.set Reg.VLT_PC_FAILED 0 m).journal (.pcFail m)
    if second then s.report 0x0C3F fatal 0 [byte i]
    else
      let s := s.report (0x0C00 + i) (if unmirroredOn c then contained else corrected) 0 [byte i]
      let s := forEach gone (fun n s => s.modPage n (fun _ => VPage.dflt)) s
      forEach kept (fun n s => s.retirePage n false) s

/-- PSEUDO_CHANNEL_FAILURE: R440. -/
def execPseudoChannelFailure (i : Fin 32) (s : State) : Host.Outcome State Fault Refusal := .next (if s.mainUp then s.failPc i.val else s)

/-! ## SRAM (R444 to R448) -/

/-- An SRAM bank. -/
def State.bank (s : State) (b : Nat) : BankSt := SMap.get s.vlt.banks b BankSt.dflt

/-- Changes a bank. -/
def State.modBank (s : State) (b : Nat) (f : BankSt → BankSt) : State :=
  s.modVlt (fun v => { v with banks := SMap.modify v.banks b BankSt.dflt f })

/-- A row is replaced by a spare row; the seventeenth asks for a spare bank, and with none left the row stays (R446, R447). -/
def State.spareRow (s : State) (b row : Nat) : State :=
  let x := s.bank b
  let ctx := leBytes 2 b ++ leBytes 2 row
  if x.sparedRows.length < 16 then
    let s := s.modBank b (fun x => { x with sparedRows := x.sparedRows ++ [row], correctable := SMap.del x.correctable row })
    ((s.bump Reg.VLT_SRAM_STATUS_ROWS_USED 0).journal (.sramRow b row)).report 0x0C50 corrected 0 ctx
  else if x.copying then s
  else if 0 < s.get Reg.VLT_SRAM_STATUS_SPARE_BANKS_FREE then
    (s.set Reg.VLT_SRAM_STATUS_SPARE_BANKS_FREE 0 (s.get Reg.VLT_SRAM_STATUS_SPARE_BANKS_FREE - 1)).modBank b (fun x => { x with copying := true })
  else s.report 0x0C52 contained 0 ctx

/-- A word with a correctable error (R444, R448). -/
def State.wordCorrected (s : State) (b row word : Nat) : State :=
  let s := s.bump Reg.VLT_CNT_SRAM_CORR 0
  let s := s.modBank b (fun x => { x with correctable := SMap.modify x.correctable row [] (addNew word) })
  let due : Bool := match s.vlt.sramTick with
    | none => true
    | some t => cyclesUs 1000 ≤ s.tick - t
  if due then (s.modVlt (fun v => { v with sramTick := some s.tick })).report 0x0C53 corrected 0 (leBytes 2 b ++ leBytes 2 row) else s

/-- What a word's owner does with an uncorrectable read (R171, R269, R306, Table 12-8). -/
def State.ownerError (s : State) (o : SramOwner) : State :=
  match o with
  | .fabric src dest q header =>
    let k := flow src.val dest.val q.val
    (if header then s.discardMsg k 0 else s.markPayload k 0).report 0x0708 contained 0 [byte src.val, byte dest.val, byte q.val]
  | .dirFrame i page both =>
    let dirty := (s.homeSlice i.val).dirty.contains page
    if dirty && both then
      (s.report (0x0918 + i.val) contained 0 (leBytes 4 page)).dirPageDouble i.val page
    else s.report (0x0918 + i.val) corrected 0 (leBytes 4 page)
  | .service off =>
    let at16 := off / 16 * 16
    let e := if off < 0x2200 then off / 128 else (off - 0x80000) / 256
    if s.active 0x0800 at16 16 = s.shadow 0x0800 at16 16 then s.report (0x0800 + e) corrected 0 [byte e]
    else
      let t := s.table 0x0800
      let bs := (List.range 16).map (fun j => tblDefault 0x0800 (at16 + j))
      (s.setTable 0x0800 { t with active := bankWrite 0x0800 t.active at16 bs }).report (0x0800 + e) contained 0 [byte e]
  | .history j =>
    (match SMap.find s.flt.hist j.val with
     | none => s
     | some r =>
       let m := { r with src := 0x0F00, cls := contained, evt := 0, promoted := false, repeats := 0, syn := slice [] 0 7, ctx := ctx8 (leBytes 2 r.src),
                         openOp := false }
       { s with flt := { s.flt with hist := SMap.put s.flt.hist j.val m } })
  | .other => s

/-- A word with an uncorrectable error: its owner answers, its row is replaced at once (R445). -/
def State.wordUncorr (s : State) (b row : Nat) (o : SramOwner) : State :=
  ((s.bump Reg.VLT_CNT_SRAM_UNCORR 0).ownerError o).spareRow b row

/-- SRAM_WORD_ERROR: R444, R445. -/
def execSramWordError (bank : Fin 512) (row : Fin 1024) (word : Fin 32) (e : SramErr) (owner : SramOwner) (s : State) :
    Host.Outcome State Fault Refusal :=
  .next (if !s.mainUp then s else
    match e with
    | .correctable => s.wordCorrected bank.val row.val word.val
    | .uncorrectable => s.wordUncorr bank.val row.val owner)

/-- SRAM_ROW_REPAIR: a row with correctable errors at four distinct words (R446). -/
def execSramRowRepair (bank : Fin 512) (row : Fin 1024) (s : State) : Host.Outcome State Fault Refusal :=
  .next (if 4 ≤ (SMap.get (s.bank bank.val).correctable row.val []).length then s.spareRow bank.val row.val else s)

/-- SRAM_BANK_COPY_END: the spare bank takes over (R446). -/
def execSramBankCopyEnd (bank : Fin 512) (s : State) : Host.Outcome State Fault Refusal :=
  let x := s.bank bank.val
  .next (if x.copying then
      let s := s.modBank bank.val (fun x => { sparedRows := [], correctable := [], copying := false, replaced := x.replaced + 1 })
      (s.journal (.sramBank bank.val (x.replaced + 1))).report 0x0C51 corrected 0 (leBytes 2 bank.val)
    else s)

/-- SRAM_ANNEAL_PASS: every word is read (R448): flips not read yet are found, rows with four words in error are replaced. -/
def execSramAnnealPass (s : State) : Host.Outcome State Fault Refusal :=
  .next (if !s.mainUp || !s.flag Reg.VLT_ANNEAL_EN then s else
    let fs := s.vlt.flips
    let s := s.modVlt (fun v => { v with flips := [] })
    let s := forEach fs (fun f s => s.asInjected (fun s =>
      if f.2.2.2 = 1 then s.wordCorrected f.1 f.2.1 f.2.2.1 else s.wordUncorr f.1 f.2.1 .other)) s
    forEach s.vlt.banks (fun b s => forEach b.2.correctable (fun r s => if 4 ≤ r.2.length then s.spareRow b.1 r.1 else s) s) s)

/-! ## Commands of Table 10-9 -/

/-- VAULT_INFO (0xC700). -/
def specVaultInfo : CmdSpec :=
  { opcode := 0xC700, priv := .observe, sub := 0x0C, len := lenIs 0,
    run := fun _ _ s =>
      .done (leBytes 4 (s.get Reg.VLT_STATUS_RESERVE_FREE) ++ leBytes 4 (s.get Reg.VLT_UNALLOC_FREE) ++ leBytes 4 (s.get Reg.VLT_PC_FAILED)
        ++ (List.range 11).map (fun i => byte (s.vlt.strengths.getD (i + 1) 0))) s }

/-- VAULT_INFO: R454. -/
def execVaultInfo (h : Hdr) (p : Bytes) (s : State) : Host.Outcome State Fault Refusal := specVaultInfo.direct h p s

/-- The 2,176 bytes of a formed page (Table 10-2). -/
def State.rawPage (s : State) (n : Nat) : Bytes :=
  let p := s.page n
  if !p.formed then List.replicate 2176 0
  else
    let c := s.pageStrength n
    let b := p.bytes ++ [0x5A, byte c, byte (regionId n)] ++ leBytes 5 (max 1 p.wseq)
    b ++ slice (Config.bchParity c b) 0 120

/-- VAULT_PAGE_READ (0xC701). -/
def specVaultPageRead : CmdSpec :=
  { opcode := 0xC701, priv := .admin, sub := 0x0C, len := lenIs 4,
    check := fun _ p _ => firstBad [need (p32 p 0 < logicalPages) 0],
    run := fun _ p s =>
      let n := p32 p 0
      let was := s.get Reg.VLT_CNT_CORR_BITS
      let lost := s.pageLost n && !s.inCrucible n
      let r := s.loadPage n 0
      let bits := r.1.get Reg.VLT_CNT_CORR_BITS - was
      let fl := b2n (r.1.page n).formed + 2 * b2n (lost || r.2.isNone) + 4 * b2n (r.1.inCrucible n)
      .done (leBytes 4 (r.1.physOf n) ++ leBytes 2 bits ++ [byte fl, 0] ++ r.1.rawPage n) r.1 }

/-- VAULT_PAGE_READ: R454. -/
def execVaultPageRead (h : Hdr) (p : Bytes) (s : State) : Host.Outcome State Fault Refusal := specVaultPageRead.direct h p s

/-- VAULT_STRENGTH_SET (0xC702): takes effect at the next COLD or MODULE start (R451). -/
def specVaultStrengthSet : CmdSpec :=
  { opcode := 0xC702, priv := .admin, sub := 0x0C, len := lenIs 2,
    check := fun _ p _ => firstBad [need (1 ≤ p8 p 0 && p8 p 0 ≤ 11) 0, need (p8 p 1 < 6) 1],
    run := fun _ p s => .done [] (s.setJ Reg.VLT_REGION_CFG_STRENGTH (p8 p 0) (p8 p 1)) }

/-- VAULT_STRENGTH_SET: R454. -/
def execVaultStrengthSet (h : Hdr) (p : Bytes) (s : State) : Host.Outcome State Fault Refusal := specVaultStrengthSet.direct h p s

/-- VAULT_ANNEAL_CTL (0xC703). -/
def specVaultAnnealCtl : CmdSpec :=
  { opcode := 0xC703, priv := .operate, sub := 0x0C, len := lenIs 5,
    check := fun _ p _ => firstBad [need (60 ≤ p16 p 0 && p16 p 0 ≤ 10080) 0, need (1 ≤ p16 p 2 && p16 p 2 ≤ 3600) 2, need (p8 p 4 < 4) 4],
    run := fun _ p s =>
      let s := ((s.setJ Reg.VLT_ANNEAL_PERIOD_MIN 0 (p16 p 0)).setJ Reg.VLT_ANNEAL_SRAM_S 0 (p16 p 2)).setJ Reg.VLT_ANNEAL_EN 0 (p8 p 4 % 2)
      .done [] (if bitOf (p8 p 4) 1 then
        (s.modVlt (fun v => { v with annealPos := 0, annealRunning := true })).set Reg.VLT_ANNEAL_STATUS_PROGRESS 0 0 else s) }

/-- VAULT_ANNEAL_CTL: R454. -/
def execVaultAnnealCtl (h : Hdr) (p : Bytes) (s : State) : Host.Outcome State Fault Refusal := specVaultAnnealCtl.direct h p s

/-- VAULT_RETIRE (0xC704): NO_RESOURCE when no target remains (R438, R439). -/
def specVaultRetire : CmdSpec :=
  { opcode := 0xC704, priv := .admin, sub := 0x0C, len := lenIs 4,
    check := fun _ p _ => firstBad [need (p32 p 0 < logicalPages) 0],
    run := fun _ p s =>
      if (s.retireTarget (p32 p 0)).isNone then .fail stNoResource
      else .done [] (s.retirePage (p32 p 0) (s.pageLost (p32 p 0) && !s.inCrucible (p32 p 0))) }

/-- VAULT_RETIRE: R439. -/
def execVaultRetire (h : Hdr) (p : Bytes) (s : State) : Host.Outcome State Fault Refusal := specVaultRetire.direct h p s

/-- VAULT_RETIRED_READ (0xC705): retirement records, oldest first. -/
def specVaultRetiredRead : CmdSpec :=
  { opcode := 0xC705, priv := .observe, sub := 0x0C, len := lenIs 6,
    check := fun _ p _ => firstBad [need (1 ≤ p16 p 4 && p16 p 4 ≤ 512) 4],
    run := fun _ p s =>
      .done (((s.vlt.remaps.reverse.drop (p32 p 0)).take (p16 p 4)).map (fun (r : Nat × Nat × Bool) =>
        leBytes 3 r.1 ++ [byte (b2n r.2.2)] ++ leBytes 4 r.2.1)).flatten s }

/-- VAULT_RETIRED_READ: R454. -/
def execVaultRetiredRead (h : Hdr) (p : Bytes) (s : State) : Host.Outcome State Fault Refusal := specVaultRetiredRead.direct h p s

/-- VAULT_STATS (0xC706). -/
def specVaultStats : CmdSpec :=
  { opcode := 0xC706, priv := .observe, sub := 0x0C, len := lenIs 0,
    run := fun _ _ s => .done (s.words 0x0C000120 6 ++ s.words 0x0C000140 1) s }

/-- VAULT_STATS: R454. -/
def execVaultStats (h : Hdr) (p : Bytes) (s : State) : Host.Outcome State Fault Refusal := specVaultStats.direct h p s

end Sys2Proof.Machine
end

