-- ==== Sys2Proof/Machine/Faults.lean ====
section
/-! DEFINITION. Fault collection and Quench: acceptance, records, promotion, Quench slots and actions, safe states, the fatal flush,
lockstep failover, Touchstone and its injections (R487 to R521). -/

namespace Sys2Proof.Machine

/-- Changes the fault collector. -/
def State.modFlt (s : State) (f : Flt → Flt) : State := { s with flt := f s.flt }

/-! ## Scopes (R507, Table 12-3) -/

/-- Bases of the sources whose index is a port. -/
def portBases : List Nat :=
  [0x0400, 0x0440, 0x0480, 0x0600, 0x0640, 0x0680, 0x06C0, 0x0740, 0x0780, 0x07C0, 0x0800, 0x0880, 0x0940, 0x0A00, 0x0A40, 0x0E40]

/-- The source's index names a port. -/
def perPort (src : Nat) : Bool := portBases.contains (src / 64 * 64)

/-- The port an action acts on: the source's index, or CONTEXT byte 24. -/
def State.actionPort (s : State) (src : Nat) (ctx : Bytes) : Option Nat :=
  let p := if perPort src then src % 64 else p8 ctx 0
  if s.present p then some p else none

/-- The LD that a source gives in CONTEXT bytes 24–25. -/
def actionLd (src : Nat) (ctx : Bytes) : Option Nat :=
  if (src / 64 * 64 = 0x0940 ∨ src / 64 * 64 = 0x0A00) ∧ p16 ctx 0 < 1024 then some (p16 ctx 0) else none

/-- A scope of the safe state. -/
inductive Scope where
  | slice (i : Nat)
  | mover
  | ports (ps : List Nat)
  | channel (n : Nat)
  | module
  deriving DecidableEq, Repr

/-- The scope of a source (R507). -/
def State.scopeOf (s : State) (src : Nat) : Scope :=
  if 0x0900 ≤ src ∧ src < 0x0928 then .slice (src % 8)
  else if src / 256 = 0x0B then .mover
  else if perPort src then .ports [src % 64]
  else if 0x04C0 ≤ src ∧ src < 0x04D0 then .ports (s.bayPorts (src % 16))
  else if 0x0210 ≤ src ∧ src < 0x0260 then .channel (src % 16)
  else .module

/-! ## Quench actions (Table 12-3) -/

/-- Holds a port in Disabled: a USP is lost (R163); behind a DSP the devices are gone by surprise (R331). -/
def State.isolate (s : State) (p why : Nat) : State :=
  let s := if s.isDsp p then forEach (s.bindsTo p) (fun b s => s.surprise (b.1 / 32) (b.1 % 32)) s else s
  s.disable p why

/-- Some reversible action `h` is in force. -/
def State.inForce (s : State) (h : Hold) : Bool := s.quenchHolds.contains h

/-- Commits the failover image of a crossbar plane: the spare takes the failed plane's slot (R29, R253). -/
def State.failoverUnit (s : State) (src : Nat) : State :=
  if src / 8 ≠ 0xE0 then s
  else match s.sparePlane, (List.range 4).find? (fun j => s.planeSlot j == some (src % 8)) with
    | some sp, some j => s.quenchCommit [(0x0700, j, leBytes 1 (0x80 + sp))]
    | _, _ => s

/-- Sends a fault record to the enrolled requesters whose minimum class it meets, and to the mailbox of a MGMT_USP; held during
CORE_FAILOVER (R506). -/
def State.notify (s : State) (r : FltRec) : State :=
  let k := mkPacket 1 0xC8F0 0 0 0 r.toBytes
  let subs := (s.cmd.subs.filter (fun x => x.2 ≤ r.cls && decide (x.1.transport ≠ .mailbox))).map Prod.fst
  let box := match s.mgmtUsp with
    | some u => [({ transport := .mailbox, source := u } : Requester)]
    | none => []
  let dst := subs ++ box
  if s.cmd.failover.isSome then s.modCmd (fun c => { c with heldNotify := c.heldNotify ++ dst.map (fun d => (d, k)) })
  else forEach dst (fun d s => s.sendEvent d none k) s

/-- Puts a reversible action in force for a source, in its slot or without one (R500, R502), and begins its effect. -/
def State.putHold (s : State) (src : Nat) (slot : Option Nat) (h : Hold) : State :=
  let was := s.inForce h
  let s := match slot with
    | some i => s.modFlt (fun f => { f with slots := SMap.modify f.slots i QSlot.dflt (fun q => { q with holds := addNew h q.holds }) })
    | none => s.modFlt (fun f => { f with slotless := addNew (src, h) f.slotless })
  if was then s
  else match h with
    | .isolate p => s.isolate p 1
    | .holdTraffic p => s.withhold p .quench
    | _ => s

/-- The effect of a reversible action ends, when nothing else holds it. -/
def State.endHold (s : State) (h : Hold) : State :=
  if s.inForce h then s
  else match h with
    | .isolate p => s.enable p 1
    | .holdTraffic p => s.unhold p .quench
    | _ => s

/-! ## Safe state and fatal flush (R507 to R511, R714) -/

/-- The ring of records with its pointers (sections 1 and 5 of Table 12-6). -/
def State.ringBytes (s : State) : Bytes :=
  ((List.range 64).map s.histBytes).flatten ++ s.words 0x0F000104 2

/-- Section 1: ring, pointers, Quench slots, FLT_STATUS. -/
def State.dumpHistory (s : State) : Bytes :=
  s.ringBytes ++ ((List.range 256).map (fun i => leBytes 4 (s.qslotWord i))).flatten ++ s.words 0x0F00010C 1

/-- Section 2: common blocks, epoch, the last 256 commit records. Without the main domain only the standby domain's blocks are had. -/
def State.dumpStatus (s : State) : Bytes :=
  let ids := (List.range 18).map (· + 1)
  if s.mainUp then
    (ids.map (fun i => s.words (i * 0x1000000) 3)).flatten ++ leBytes 2 s.tbl.epoch
      ++ (s.tbl.recent.map (fun (r : Nat × List Nat × Bytes) => leBytes 2 r.1 ++ leBytes 2 r.2.1.length ++ (r.2.1.map (leBytes 2)).flatten ++ r.2.2)).flatten
  else ((ids.filter (fun i => standbyIds.contains i)).map (fun i => s.words (i * 0x1000000) 3)).flatten

/-- Section 3: the registers of the failing subsystem, where its domain is up. -/
def State.dumpRegs (s : State) (src : Nat) : Bytes :=
  let ss := src / 256
  if s.mainUp || standbyIds.contains ss then s.words (ss * 0x1000000 + 0x100) 0x3FFC0 else []

/-- The staging region of fault dumps has lost a page (R511, Table 10-4). -/
def State.stagingLost (s : State) : Bool :=
  let mine := fun (n : Nat) => regionId n == 11
  s.vlt.remaps.any (fun (r : Nat × Nat × Bool) => r.2.2 && mine r.1) || s.vlt.due.any (fun (d : Nat × Bool) => d.2 && mine d.1)
    || (List.range 16).any (fun c => s.channelFailed c &&
      physDefault 5341184 * 2176 / channelBytes ≤ c && c ≤ (physDefault 5472255 * 2176 + 2175) / channelBytes)

/-- A reset that has been asked for and waits for the flush, or the one of AUTO_RESET (R508). -/
def State.afterFlush (s : State) (req : Option StartReq) (src : Nat) : State :=
  match req with
  | some r => s.askStart r.kind r.trigger r.source
  | none => if s.flag Reg.FLT_CTL_AUTO_RESET then s.askStart 2 3 src else s

/-- Begins the dump of a flush: header bytes 0–11 and 16–47, section 1 (R510, R714). -/
def State.beginDump (s : State) (x : Flush) : State :=
  let d : Dump := { trigger := x.trigger, boot := s.get Reg.HLM_BOOT_COUNTER, after := 0, sizes := [], sections := [s.dumpHistory],
                    ended := false, complete := false }
  s.modFlt (fun f => { f with flush := some { x with waits := false, noMain := x.noMain || !s.mainUp }, dump := some d })

/-- Entry to a safe state starts a fatal flush (R510). -/
def State.startFatalFlush (s : State) (r : FltRec) : State :=
  let x : Flush := { trigger := r, waits := false, noMain := !s.mainUp, injected := r.injected, thenReset := none }
  if s.flt.flush.isSome then s
  else if r.src = 0x0109 ∨ s.pfe.imminent then s.afterFlush none r.src
  else if s.flt.erase.isSome then s.modFlt (fun f => { f with flush := some { x with waits := true } })
  else if s.flt.dump.isSome ∧ !s.flag Reg.FLT_CTL_DUMP_OVERWRITE then s.afterFlush none r.src
  else s.beginDump x

/-- Ends the flush: sections 2 to 4, the rest of the header, COMPLETE last unless something was lost (R511). Section 4 is what the main
domain had staged. -/
def State.endFlush (s : State) (cut : Bool) : State :=
  match s.flt.flush, s.flt.dump with
  | some x, some d =>
    let bad := cut || x.noMain || !s.mainUp || s.stagingLost
    let ext := Config.dumpExtract s.fresh
    let secs := d.sections ++ [s.dumpStatus, s.dumpRegs x.trigger.src, ext]
    let d := { d with sections := secs, sizes := secs.map List.length, ended := true, complete := !bad }
    let s := s.drawn.modFlt (fun f => { f with flush := none, dump := some d })
    let s := if bad then (if x.injected then s.asInjected (fun s => s.report 0x0F01 contained 0 []) else s.report 0x0F01 contained 0 []) else s
    s.afterFlush x.thenReset x.trigger.src
  | _, _ => s

/-- A MODULE reset of Quench or SAFE_RESET: after the flush when one runs or waits (R508, Table 12-8). -/
def State.resetAfterFlush (s : State) (trigger src : Nat) : State :=
  match s.flt.flush with
  | none => s.askStart 2 trigger src
  | some x =>
    let r : StartReq := { kind := 2, trigger := trigger, source := src }
    s.modFlt (fun f => { f with flush := some { x with thenReset := some (x.thenReset.getD r) } })

/-- Module safe state (R507): LEAVING, ports Disabled, MOD_READY low; main-domain issue stops. -/
def State.moduleSafe (s : State) : State :=
  let s := s.sendLeaving
  let s := forEach s.presentPorts (fun p s => s.disable p 2) s
  ({ s with clk := { s.clk with modReady := false } }).setFlag Reg.FLT_STATUS_SAFE_MODULE 0 true

/-- Holds ports in their own safe state. -/
def State.portsSafe (s : State) (ps : List Nat) : State :=
  forEach (ps.filter (fun p => !s.flt.safePorts.contains p)) (fun p s =>
    ({ s with flt := { s.flt with safePorts := s.flt.safePorts ++ [p] } }).isolate p 2) s

/-- A slot channel opens as a trip opens it (R666). -/
def State.channelSafe (s : State) (n : Nat) : State :=
  let s := if s.flag Reg.SPC_CH_STATUS_ON n then (s.chanReset n).chanOpen n false else s
  let s := s.setFlag Reg.SPC_CH_STATUS_REQ_ON n false
  let p := s.get Reg.SPC_CH_CFG_PORT n
  if p < 64 ∧ s.present p then s.portsSafe [p] else s

/-- The scope is in its safe state already. -/
def State.scopeSafe (s : State) (c : Scope) : Bool :=
  match c with
  | .slice i => bitOf s.flt.safeSlices i
  | .mover => s.flt.safeMover
  | .ports ps => ps.all (fun p => s.flt.safePorts.contains p)
  | .channel n => let p := s.get Reg.SPC_CH_CFG_PORT n
                  s.flt.safePorts.contains p
  | .module => s.flag Reg.FLT_STATUS_SAFE_MODULE

/-- Entry to a safe state freezes the Transcript from its oldest record under REC_CTL.FREEZE_ON_FATAL (R578). -/
def State.freezeOnFatal (s : State) : State :=
  if s.mainUp && s.flag Reg.REC_CTL_FREEZE_ON_FATAL then
    let q := s.trec.oldest
    ({ (s.setFlag Reg.REC_STATUS_FROZEN 0 true) with trec := { s.trec with frozen := some q } }).recordMark 1 q
  else s

/-- SAFE_STATE for the source of record `r`: the scope's safe state holds FAULT_N; a flush starts (R503, R505, R507, R510). -/
def State.safeState (s : State) (r : FltRec) : State :=
  let c := s.scopeOf r.src
  if s.scopeSafe c then s
  else
    let s := (s.modFlt (fun f => { f with safeFault := true })).freezeOnFatal
    let s := match c with
      | .slice i => s.modFlt (fun f => { f with safeSlices := f.safeSlices ||| 2 ^ i })
      | .mover => s.modFlt (fun f => { f with safeMover := true })
      | .ports ps => s.portsSafe ps
      | .channel n => s.channelSafe n
      | .module => s.moduleSafe
    s.startFatalFlush r

/-! ## Quench (R497 to R504) -/

/-- Runs an action set for the source of record `r`, SAFE_STATE ahead of MODULE_RESET (Table 12-8). -/
def State.runSet (s : State) (bits : Nat) (r : FltRec) (slot : Option Nat) : State :=
  let on := fun (i : Nat) => bitOf bits i
  let hold := fun (h : Option Hold) (s : State) => match h with
    | some h => s.putHold r.src slot h
    | none => s
  let s := if on 0 then s.notify r else s
  let s := if on 1 then hold ((actionLd r.src r.ctx).map Hold.fenceLd) s else s
  let s := if on 2 then hold ((s.actionPort r.src r.ctx).map Hold.isolate) s else s
  let s := if on 3 then s.failoverUnit r.src else s
  let s := if on 4 then hold ((s.actionPort r.src r.ctx).map Hold.holdTraffic) s else s
  let s := if on 5 then hold (some .faultN) s else s
  let s := if on 7 then s.safeState r else s
  if on 6 then s.resetAfterFlush 4 r.src else s

/-- The entry that matches an event first (R499). -/
def State.quenchMatch (s : State) (src cls evt : Nat) : Option Nat :=
  (List.range 256).find? (fun i =>
    let m := s.get Reg.FLT_QENTRY_MASK i
    s.flag Reg.FLT_QENTRY_VALID i && (src &&& m) == (s.get Reg.FLT_QENTRY_SOURCE i &&& m)
      && (s.get Reg.FLT_QENTRY_CLASS_SEL i == 0 || s.get Reg.FLT_QENTRY_CLASS_SEL i == cls)
      && (s.get Reg.FLT_QENTRY_EVT i == 0 || s.get Reg.FLT_QENTRY_EVT i == evt))

/-- The slot that a source holds. -/
def State.slotOfSrc (s : State) (src : Nat) : Option (Nat × QSlot) := s.flt.slots.find? (fun (q : Nat × QSlot) => q.2.src == src)

/-- Changes slot `i`. -/
def State.modQ (s : State) (i : Nat) (f : QSlot → QSlot) : State :=
  s.modFlt (fun x => { x with slots := match SMap.find x.slots i with
    | some q => SMap.put x.slots i (f q)
    | none => x.slots })

/-- Frees slot `i` when it holds nothing (R500). -/
def State.tidyQ (s : State) (i : Nat) : State :=
  match SMap.find s.flt.slots i with
  | some q => if q.state = .observe ∧ q.holds.isEmpty ∧ q.promo = 0 then s.modFlt (fun x => { x with slots := SMap.del x.slots i }) else s
  | none => s

/-- A slot for a source: its own, the lowest free one, or that of the oldest promotion count (R500, R502). -/
def State.takeQ (s : State) (src entry : Nat) : State × Option Nat :=
  match s.slotOfSrc src with
  | some q => (s, some q.1)
  | none =>
    let free := (List.range 256).find? (fun i => (SMap.find s.flt.slots i).isNone)
    let olds := s.flt.slots.filter (fun (q : Nat × QSlot) => q.2.state == .observe && q.2.holds.isEmpty)
    let oldest := olds.find? (fun (q : Nat × QSlot) => olds.all (fun (r : Nat × QSlot) => q.2.age ≤ r.2.age))
    match free <|> oldest.map Prod.fst with
    | none => (s, none)
    | some i =>
      let q : QSlot := { QSlot.dflt with src := src, entry := entry, age := s.flt.nextAge }
      (s.modFlt (fun x => { x with slots := SMap.put x.slots i q, nextAge := x.nextAge + 1 }), some i)

/-- The newest record of a source (R506). -/
def State.newestOf (s : State) (src : Nat) : Option FltRec :=
  let h := s.get Reg.FLT_HIST_HEAD_INDEX
  ((List.range 64).filterMap (fun k => SMap.find s.flt.hist ((h + 63 - k) % 64))).find? (fun r => r.src == src)

/-- Runs a QUENCH or ESCALATE set of a slot with the source's newest record. -/
def State.runLate (s : State) (bits : Nat) (i : Nat) (src : Nat) : State :=
  match s.newestOf src with
  | some r => if r.injected then s.asInjected (fun s => s.runSet bits r (some i)) else s.runSet bits r (some i)
  | none => s

/-- The grace timer of slot `i` reaches 0 (R500). -/
def State.graceEnd (s : State) (i : Nat) : State :=
  match SMap.find s.flt.slots i with
  | none => s
  | some q =>
    if q.state ≠ .grace then s
    else
      let set := s.get Reg.FLT_QENTRY_QUENCH q.entry
      let s := s.runLate set i q.src
      (s.modQ i (fun q => { q with state := if set = 0 ∧ q.holds.isEmpty then .observe else .quenched })).tidyQ i

/-- Reversible actions of an action set. -/
def reversible (bits : Nat) : Bool := bitOf bits 1 || bitOf bits 2 || bitOf bits 4 || bitOf bits 5

/-- A set without its NOTIFY. -/
def quiet (bits : Nat) : Nat := if bitOf bits 0 then bits - 1 else bits

/-- A matched event of a source in OBSERVE (R500, R502); `imm` is the IMMEDIATE set it runs. -/
def State.matched (s : State) (e imm : Nat) (r : FltRec) : State :=
  let qu := s.get Reg.FLT_QENTRY_QUENCH e
  let esc := s.get Reg.FLT_QENTRY_ESCALATE e
  if qu = 0 ∧ esc = 0 ∧ !reversible imm ∧ (s.slotOfSrc r.src).isNone then s.runSet imm r none
  else match s.takeQ r.src e with
    | (s, none) => ((((s.setFlag Reg.FLT_STATUS_SLOTS_FULL 0 true).runSet imm r none).runSet qu r none).runSet esc r none)
    | (s, some i) =>
      let s := s.runSet imm r (some i)
      if qu ≠ 0 ∨ esc ≠ 0 then
        let s := s.modQ i (fun q => { q with state := .grace, entry := e, graceTick := s.tick, esc := 1 })
        if s.get Reg.FLT_QENTRY_GRACE_US e = 0 then s.graceEnd i else s
      else (s.modQ i (fun q => { q with entry := e, state := if q.holds.isEmpty then .observe else .quenched })).tidyQ i

/-- What Quench does with a recorded event; `fresh` says that it opened a record (R499, R500, R503, R506). -/
def State.quench (s : State) (r : FltRec) (fresh : Bool) : State :=
  let s := if r.cls = fatal then (if fresh then s.notify r else s).safeState r else s
  match s.quenchMatch r.src r.cls r.evt with
  | none => s
  | some e =>
    let imm := s.get Reg.FLT_QENTRY_IMMEDIATE e
    let imm := if fresh && r.cls != fatal then imm else quiet imm
    match s.slotOfSrc r.src with
    | none => s.matched e imm r
    | some (i, q) =>
      match q.state with
      | .observe => s.matched e imm r
      | .grace =>
        let s := s.runSet imm r (some i)
        let s := s.modQ i (fun q => { q with esc := min 255 (q.esc + 1) })
        let n := s.get Reg.FLT_QENTRY_ESCALATE_N q.entry
        if n ≠ 0 ∧ n ≤ q.esc + 1 then
          (s.runLate (s.get Reg.FLT_QENTRY_ESCALATE q.entry) i r.src).modQ i (fun q => { q with state := .quenched })
        else s
      | .quenched => s
      | .settled => s

/-! ## Acceptance (R490 to R497) -/

/-- The record that an event merges into: the newest of its source, class and event code, still open or written less than MERGE_US ago,
with room in REPEAT (R493). -/
def State.mergeInto (s : State) (e : FltEvent) (batch : Bool) : Option Nat :=
  let h := s.get Reg.FLT_HIST_HEAD_INDEX
  let us := s.get Reg.FLT_CTL_MERGE_US
  match (List.range 64).find? (fun k =>
      match SMap.find s.flt.hist ((h + 63 - k) % 64) with
      | some r => r.src == e.src && r.cls == e.cls && r.evt == e.evt
      | none => false) with
  | none => none
  | some k =>
    let j := (h + 63 - k) % 64
    match SMap.find s.flt.hist j with
    | some r =>
      if r.repeats < 255 ∧ ((e.openOp ∧ (r.openOp ∨ batch)) ∨ (us ≠ 0 ∧ s.tick < r.tick + cyclesUs us)) then some j else none
    | none => none

/-- Writes a new record at the head of the ring (R494), and its EVENT record. -/
def State.newRecord (s : State) (r : FltRec) : State :=
  let h := s.get Reg.FLT_HIST_HEAD_INDEX
  let n := s.get Reg.FLT_HIST_TAIL_UNREAD
  let s := if 64 ≤ n then
      ((s.setFlag Reg.FLT_STATUS_OVERFLOW 0 true).bump Reg.FLT_LOST 0).set Reg.FLT_HIST_TAIL_INDEX 0 (s.get Reg.FLT_HIST_TAIL_INDEX + 1)
    else s.set Reg.FLT_HIST_TAIL_UNREAD 0 (n + 1)
  let s := (s.bump Reg.FLT_HIST_HEAD_INDEX 0).bump Reg.FLT_HIST_HEAD_TOTAL 0
  (s.modFlt (fun f => { f with hist := SMap.put f.hist h r })).recordEvent r.src 0 r.toBytes r.injected

/-- The history copy of imminent loss, 4 KiB (R496). -/
def State.lossCopy (s : State) : Bytes := slice (s.ringBytes ++ s.words 0x0F00010C 1) 0 4096

/-- One event: counted, merged or recorded, and given to Quench; the record as it then stands. -/
def State.acceptOne (s : State) (e : FltEvent) (promoted batch : Bool) : State × FltRec :=
  let s := s.modFlt (fun f => { f with counts := SMap.store f.counts e.src ((SMap.get f.counts e.src 0 + 1) % 2 ^ 32) 0 })
  let s := if e.cls = fatal then
      s.modFlt (fun f => if f.flush.isSome then { f with dump := f.dump.map (fun d => { d with after := min (2 ^ 32 - 1) (d.after + 1) }) } else f)
    else s
  let m := (s.mergeInto e batch).bind (fun j => (SMap.find s.flt.hist j).map (fun r => (j, { r with repeats := r.repeats + 1 })))
  let fresh : FltRec := { time := s.tim.counter, src := e.src, cls := e.cls, quality := s.quality, promoted := promoted,
                          injected := e.injected, repeats := 0, evt := e.evt, syn := e.syn, ctx := e.ctx, tick := s.tick,
                          openOp := e.openOp && !e.ended }
  let x : State × FltRec := match m with
    | some (j, r) => (s.modFlt (fun f => { f with hist := SMap.put f.hist j r }), r)
    | none => (s.newRecord fresh, fresh)
  let r := x.2
  let s := if e.src = 0x0109 then (x.1.modFlt (fun f => { f with lossSlot := some x.1.lossCopy })).endFlush true else x.1
  let now := { r with ctx := e.ctx }
  (if r.injected then s.asInjected (fun s => s.quench now m.isNone) else s.quench now m.isNone, r)

/-- R497: a CORRECTED event counts toward promotion of its source under the entry that matches it. -/
def State.promoteFault (s : State) (e : FltEvent) (r : FltRec) : State :=
  match if e.cls = corrected then s.quenchMatch e.src e.cls e.evt else none with
  | none => s
  | some i =>
    let n := s.get Reg.FLT_QENTRY_PROMOTE_N i
    if n = 0 then s
    else match s.takeQ e.src i with
      | (s, none) => s.setFlag Reg.FLT_STATUS_SLOTS_FULL 0 true
      | (s, some k) =>
        let c := ((SMap.get s.flt.slots k QSlot.dflt).promo) + 1
        if c < n then s.modQ k (fun q => { q with promo := c })
        else
          let s := (s.modQ k (fun q => { q with promo := 0 })).tidyQ k
          (s.acceptOne { e with cls := contained, injected := r.injected, openOp := false, count := 1 } true false).1

/-- Accepts `n` identical events of one source. -/
def State.acceptAll (s : State) (e : FltEvent) : Nat → Bool → State
  | 0, _ => s
  | n + 1, batch =>
    let x := s.acceptOne e false batch
    (x.1.promoteFault e x.2).acceptAll e n true

/-- The event that is accepted next: the earliest, among those of one cycle the lowest source (R490). -/
def State.nextEvent (s : State) : Option FltEvent :=
  let ws := s.flt.waiting
  ws.find? (fun e => ws.all (fun w => decide (e.tick < w.tick) || (e.tick == w.tick && decide (e.src ≤ w.src))))

/-- FLT_EVENT_ACCEPT: R490 to R503. -/
def execFltEventAccept (s : State) : Host.Outcome State Fault Refusal :=
  .next (if s.clk.phase = .off then s else
    match s.nextEvent with
    | none => s
    | some e => (s.modFlt (fun f => { f with waiting := delFirst (fun w => w == e) f.waiting })).acceptAll e e.count false)

/-- PROMOTION_WINDOW_EXPIRY: R497. -/
def execPromotionWindowExpiry (source : BitVec 16) (s : State) : Host.Outcome State Fault Refusal :=
  .next (match s.slotOfSrc source.toNat with
    | some (i, q) => if q.promo = 0 then s else (s.modQ i (fun q => { q with promo := 0 })).tidyQ i
    | none => s)

/-- GRACE_EXPIRY: R500. -/
def execGraceExpiry (source : BitVec 16) (s : State) : Host.Outcome State Fault Refusal :=
  .next (match s.slotOfSrc source.toNat with
    | some (i, _) => s.graceEnd i
    | none => s)

/-- FLUSH_END: R510, R511. -/
def execFlushEnd (s : State) : Host.Outcome State Fault Refusal :=
  .next (match s.flt.flush with
    | some x => if x.waits then s else s.endFlush false
    | none => s)

/-- DUMP_RELEASE_ERASE_END: the completion event; a flush that waited writes its dump now (R511). -/
def execDumpReleaseEraseEnd (s : State) : Host.Outcome State Fault Refusal :=
  .next (match s.flt.erase with
    | none => s
    | some id =>
      let s := (s.modFlt (fun f => { f with erase := none })).endBg id stSuccess []
      match s.flt.flush with
      | some x => s.beginDump x
      | none => s)

/-! ## Lockstep (R513, R478) -/

/-- A mismatch of the lockstep pair (R513): before MOD_READY a MODULE start follows (Table 15-9); else the cores that fail their self-test
leave, a pair forms from those that remain, and CORE_FAILOVER begins. -/
def State.lockstepMismatch (s : State) (core : Nat) (failA failB : Bool) : State :=
  match s.cmd.pair with
  | [a, b] =>
    if !s.clk.modReady then s.askStart 2 8 (0x0D10 + core)
    else
      let failed := (if failA then [a] else []) ++ (if failB then [b] else [])
      let failed := if failed.isEmpty then [if core == b then b else a] else failed
      let cores := s.cmd.cores.zipIdx.map (fun (x : Bool × Nat) => x.1 && !failed.contains x.2)
      let kept := [a, b].filter (fun c => !failed.contains c)
      let spare := (List.range 3).filter (fun c => cores.getD c false && !kept.contains c)
      let pair := (kept ++ spare).take 2
      let cls := if pair.isEmpty then fatal else if pair.length = 2 then corrected else contained
      let s := s.modCmd (fun m => { m with cores := cores, pair := pair, failover := if pair.isEmpty then none else failed.head? })
      let s := match s.trec.replay with
        | some r => s.endReplay r 0 r.done r.commits 0 stHwFault
        | none => s
      forEach failed (fun c s => s.report (0x0D10 + c) cls 0 [byte c]) s
  | _ => s

/-- LOCKSTEP_MISMATCH: R513. -/
def execLockstepMismatch (core : Fin 3) (failA failB : Bool) (s : State) : Host.Outcome State Fault Refusal :=
  .next (if s.mainUp then s.lockstepMismatch core.val failA failB else s)

/-- R478: every request received and not answered, and the rest of its chain, answers HW_FAULT. -/
def State.answerLost (s : State) : State :=
  let ws := s.tbl.waits
  forEach ws (fun x s =>
    let s := if x.dropped then s.recordResponse x.seq stHwFault []
      else s.answer x.req x.session x.opcode x.tag x.context x.seq stHwFault []
    forEach x.rest (fun q s => s.answerQueued q stHwFault) s) { s with tbl := { s.tbl with waits := [] } }

/-- CORE_FAILOVER: the management plane resumes on the new pair (R478, R506, R531, R572). -/
def execCoreFailover (s : State) : Host.Outcome State Fault Refusal :=
  .next (match s.cmd.failover with
    | none => s
    | some c =>
      let src := 0x0D10 + c
      let s := s.answerLost
      let lost := (s.cmd.bg.filter (fun b => b.result.isNone && !b.journaled)).map Background.id
      let s := forEach lost (fun id s => s.endBg id stHwFault []) s
      let held := s.cmd.heldNotify
      let s := s.modCmd (fun m => { m with failover := none, heldNotify := [] })
      let s := forEach held (fun (h : Requester × Bytes) s => s.sendEvent h.1 none h.2) s
      let s := s.ledge 9 0 ([4, 8] ++ leBytes 2 src) ([byte c, byte (maskOf s.cmd.pair), 0, 0] ++ leBytes 2 src)
      let s := ((s.set Reg.CLK_RST_CAUSE_KIND 0 4).set Reg.CLK_RST_CAUSE_TRIGGER 0 8).set Reg.CLK_RST_CAUSE_SOURCE 0 src
      s.recordEvent src 6 [byte c])

/-! ## Commands of Table 12-11 -/

/-- FAULT_INFO (0xC800). -/
def specFaultInfo : CmdSpec :=
  { opcode := 0xC800, priv := .observe, sub := 0x0F, len := lenIs 0,
    run := fun _ _ s =>
      .done (leBytes 1 (s.get Reg.FLT_HIST_HEAD_INDEX) ++ leBytes 1 (s.get Reg.FLT_HIST_TAIL_INDEX)
        ++ leBytes 2 (s.get Reg.FLT_HIST_TAIL_UNREAD) ++ s.words 0x0F00010C 1 ++ leBytes 4 (s.get Reg.FLT_HIST_HEAD_TOTAL)
        ++ leBytes 4 (s.get Reg.FLT_LOST) ++ leBytes 2 s.flt.slots.length) s }

/-- FAULT_INFO: R519. -/
def execFaultInfo (h : Hdr) (p : Bytes) (s : State) : Host.Outcome State Fault Refusal := specFaultInfo.direct h p s

/-- FAULT_HIST_READ (0xC801): records in index order, the ring wrapping. -/
def specFaultHistRead : CmdSpec :=
  { opcode := 0xC801, priv := .observe, sub := 0x0F, len := lenIs 2,
    check := fun _ p _ => firstBad [need (p8 p 0 < 64) 0, need (1 ≤ p8 p 1 && p8 p 1 ≤ 64) 1],
    run := fun _ p s => .done ((List.range (p8 p 1)).map (fun k => s.histBytes ((p8 p 0 + k) % 64))).flatten s }

/-- FAULT_HIST_READ: R519. -/
def execFaultHistRead (h : Hdr) (p : Bytes) (s : State) : Host.Outcome State Fault Refusal := specFaultHistRead.direct h p s

/-- Records that an acknowledgement up to index `i` covers: the head's index covers all of them. -/
def State.ackSpan (s : State) (i : Nat) : Nat :=
  if i = s.get Reg.FLT_HIST_HEAD_INDEX then s.get Reg.FLT_HIST_TAIL_UNREAD else (i + 64 - s.get Reg.FLT_HIST_TAIL_INDEX) % 64

/-- FAULT_ACK (0xC802). -/
def specFaultAck : CmdSpec :=
  { opcode := 0xC802, priv := .operate, sub := 0x0F, len := lenIs 1,
    check := fun _ p s => firstBad [need (p8 p 0 < 64 && s.ackSpan (p8 p 0) ≤ s.get Reg.FLT_HIST_TAIL_UNREAD) 0],
    run := fun _ p s =>
      .done [] ((s.set Reg.FLT_HIST_TAIL_UNREAD 0 (s.get Reg.FLT_HIST_TAIL_UNREAD - s.ackSpan (p8 p 0))).set Reg.FLT_HIST_TAIL_INDEX 0 (p8 p 0)) }

/-- FAULT_ACK: R494. -/
def execFaultAck (h : Hdr) (p : Bytes) (s : State) : Host.Outcome State Fault Refusal := specFaultAck.direct h p s

/-- FAULT_COUNT_READ (0xC803). -/
def specFaultCountRead : CmdSpec :=
  { opcode := 0xC803, priv := .observe, sub := 0x0F, len := lenIs 4,
    check := fun _ p _ => firstBad [need (0x0100 ≤ p16 p 0 && p16 p 0 ≤ 0x12FF) 0,
      need (1 ≤ p16 p 2 && p16 p 2 ≤ 1016 && p16 p 0 + p16 p 2 ≤ 0x1300) 2],
    run := fun _ p s => .done ((List.range (p16 p 2)).map (fun k => leBytes 4 (SMap.get s.flt.counts (p16 p 0 + k) 0))).flatten s }

/-- FAULT_COUNT_READ: R495. -/
def execFaultCountRead (h : Hdr) (p : Bytes) (s : State) : Host.Outcome State Fault Refusal := specFaultCountRead.direct h p s

/-- FAULT_SUBSCRIBE (0xC804): up to 8 requesters (R506). -/
def specFaultSubscribe : CmdSpec :=
  { opcode := 0xC804, priv := .operate, sub := 0x0F, len := lenIs 2,
    check := fun _ p _ => firstBad [need (!bitOf (p8 p 0) 0 || (1 ≤ p8 p 1 && p8 p 1 ≤ 3)) 1],
    run := fun h p s =>
      let rest := s.cmd.subs.filter (fun x => x.1 != h.req)
      if !bitOf (p8 p 0) 0 then .done [] (s.modCmd (fun c => { c with subs := rest }))
      else if 8 ≤ rest.length then .fail stNoResource
      else .done [] (s.modCmd (fun c => { c with subs := rest ++ [(h.req, p8 p 1)] })) }

/-- FAULT_SUBSCRIBE: R506. -/
def execFaultSubscribe (h : Hdr) (p : Bytes) (s : State) : Host.Outcome State Fault Refusal := specFaultSubscribe.direct h p s

/-- Grace left of a slot, in µs. -/
def State.graceLeft (s : State) (q : QSlot) : Nat :=
  if q.state = .grace then (q.graceTick + cyclesUs (s.get Reg.FLT_QENTRY_GRACE_US q.entry) - s.tick + 799) / 800 else 0

/-- The 12 bytes of QUENCH_READ for slot `i`. -/
def State.quenchBytes (s : State) (i : Nat) : Bytes :=
  let q := SMap.get s.flt.slots i QSlot.dflt
  leBytes 4 (s.qslotWord i) ++ leBytes 4 (s.graceLeft q) ++ leBytes 1 q.esc ++ leBytes 3 q.promo

/-- QUENCH_READ (0xC810). -/
def specQuenchRead : CmdSpec :=
  { opcode := 0xC810, priv := .observe, sub := 0x0F, len := lenIs 2,
    check := fun _ p _ => firstBad [need (1 ≤ p8 p 1 && p8 p 0 + p8 p 1 ≤ 256) 1],
    run := fun _ p s => .done ((List.range (p8 p 1)).map (fun k => s.quenchBytes (p8 p 0 + k))).flatten s }

/-- QUENCH_READ: R519. -/
def execQuenchRead (h : Hdr) (p : Bytes) (s : State) : Host.Outcome State Fault Refusal := specQuenchRead.direct h p s

/-- QUENCH_ACK (0xC811): GRACE or QUENCHED becomes SETTLED, or OBSERVE with no reversible action in force (R501). -/
def specQuenchAck : CmdSpec :=
  { opcode := 0xC811, priv := .operate, sub := 0x0F, len := lenIs 2,
    run := fun _ p s =>
      match s.slotOfSrc (p16 p 0) with
      | none => .fail stConflict
      | some (i, q) =>
        match q.state with
        | .observe => .fail stConflict
        | .settled => .done [] s
        | _ => .done [] ((s.modQ i (fun q => { q with state := if q.holds.isEmpty then .observe else .settled })).tidyQ i) }

/-- QUENCH_ACK: R501. -/
def execQuenchAck (h : Hdr) (p : Bytes) (s : State) : Host.Outcome State Fault Refusal := specQuenchAck.direct h p s

/-- Ends the reversible actions of slot `i` and returns it to OBSERVE. -/
def State.releaseQ (s : State) (i : Nat) (q : QSlot) : State :=
  let s := (s.modQ i (fun q => { q with state := .observe, holds := [] })).tidyQ i
  forEach q.holds (fun h s => s.endHold h) s

/-- QUENCH_RELEASE (0xC812). -/
def specQuenchRelease : CmdSpec :=
  { opcode := 0xC812, priv := .operate, sub := 0x0F, len := lenIs 2,
    run := fun _ p s =>
      match s.slotOfSrc (p16 p 0) with
      | none => .fail stConflict
      | some (i, q) => if q.state = .observe then .fail stConflict else .done [] (s.releaseQ i q) }

/-- QUENCH_RELEASE: R501. -/
def execQuenchRelease (h : Hdr) (p : Bytes) (s : State) : Host.Outcome State Fault Refusal := specQuenchRelease.direct h p s

/-- The programmed bytes of the dump header (Table 12-14). -/
def Dump.header (d : Dump) : Bytes :=
  let ff := fun (n : Nat) => List.replicate n (0xFF : Byte)
  leBytes 4 0x44465A43 ++ leBytes 2 1 ++ ff 2 ++ leBytes 4 d.boot
    ++ (if d.ended then leBytes 4 d.after else ff 4) ++ d.trigger.toBytes
    ++ (if d.ended then (d.sizes.map (leBytes 4)).flatten ++ sha d.sections.flatten else ff 64)
    ++ (if d.complete then [1] else [0xFF])

/-- The byte of the dump region at an offset (Table 12-6): erased flash reads 0xFF. -/
def State.dumpByte (s : State) (o : Nat) : Byte :=
  let sec := fun (i base : Nat) => match s.flt.dump with
    | some d => (d.sections.getD i []).getD (o - base) 0xFF
    | none => 0xFF
  if 0x7F0000 ≤ o then (match s.flt.lossBuf with
    | some b => b.getD (o - 0x7F0000) 0xFF
    | none => 0xFF)
  else if 0x120000 ≤ o then sec 3 0x120000
  else if 0x20000 ≤ o then sec 2 0x20000
  else if 0x10000 ≤ o then sec 1 0x10000
  else if 0x1000 ≤ o then sec 0 0x1000
  else match s.flt.dump with
    | some d => d.header.getD o 0xFF
    | none => 0xFF

/-- FAULT_DUMP_READ (0xC820). -/
def specFaultDumpRead : CmdSpec :=
  { opcode := 0xC820, priv := .observe, sub := 0x0F, len := lenIs 8,
    check := fun _ p _ => firstBad [need (p32 p 0 < 0x800000) 0,
      need (4 ≤ p32 p 4 && p32 p 4 ≤ 4064 && p32 p 4 % 4 == 0 && p32 p 0 + p32 p 4 ≤ 0x800000) 4],
    run := fun _ p s =>
      if s.flt.erase.isSome ∧ p32 p 0 < 0x7F0000 then .fail stConflict
      else .done ((List.range (p32 p 4)).map (fun k => s.dumpByte (p32 p 0 + k))) s }

/-- FAULT_DUMP_READ: R511. -/
def execFaultDumpRead (h : Hdr) (p : Bytes) (s : State) : Host.Outcome State Fault Refusal := specFaultDumpRead.direct h p s

/-- FAULT_DUMP_RELEASE (0xC821). -/
def specFaultDumpRelease : CmdSpec :=
  { opcode := 0xC821, priv := .admin, sub := 0x0F, len := lenIs 0,
    run := fun _ _ s =>
      if s.flt.flush.isSome ∨ s.flt.erase.isSome then .fail stConflict
      else .started (s.modFlt (fun f => { f with dump := none, lossBuf := none, erase := some s.cmd.nextBg })) false }

/-- FAULT_DUMP_RELEASE: R511. -/
def execFaultDumpRelease (h : Hdr) (p : Bytes) (s : State) : Host.Outcome State Fault Refusal := specFaultDumpRelease.direct h p s

/-- SAFE_RESET (0xC822). -/
def specSafeReset : CmdSpec :=
  { opcode := 0xC822, priv := .admin, sub := 0x0F, len := lenIs 0,
    run := fun _ _ s =>
      if s.flag Reg.FLT_STATUS_SAFE_MODULE then .done [] (s.resetAfterFlush 2 0) else .fail stConflict }

/-- SAFE_RESET: R508. -/
def execSafeReset (h : Hdr) (p : Bytes) (s : State) : Host.Outcome State Fault Refusal := specSafeReset.direct h p s

/-! ## Touchstone (R515 to R517) -/

/-- TOUCHSTONE_ENTER (0xCF00). -/
def specTouchstoneEnter : CmdSpec :=
  { opcode := 0xCF00, priv := .operate, sub := 0x0F, len := lenIs 112,
    deny := fun h _ _ => !transportWired h.req.transport,
    check := fun _ p s => firstBad [need (p64 p 0 == Config.deviceSerial.toNat) 0, need (p32 p 8 == s.get Reg.HLM_BOOT_COUNTER) 8],
    run := fun _ p s =>
      if !s.flag Reg.FLT_STATUS_TEST_EN ∨ s.flag Reg.HLM_STATUS_LOCKED ∨ s.flag Reg.FLT_STATUS_TOUCHSTONE then .fail stConflict
      else if !Config.tokenSigned p then .fail stDenied
      else .done [] ((s.setFlag Reg.FLT_STATUS_TOUCHSTONE 0 true).ledge 6 0 (leBytes 4 0) (p.take 16 ++ sha p)) }

/-- TOUCHSTONE_ENTER: R515, R516. -/
def execTouchstoneEnter (h : Hdr) (p : Bytes) (s : State) : Host.Outcome State Fault Refusal := specTouchstoneEnter.direct h p s

/-- The state an event leaves. -/
def stateAfter (o : Host.Outcome State Fault Refusal) (s : State) : State :=
  match o with
  | .next t => t
  | _ => s

/-- Causes one injected fault (Table 12-9). -/
def State.injectFault (s : State) (kind : Nat) (a : Bytes) : State :=
  let u := p8 a 0
  let ev := fun (f : State → Host.Outcome State Fault Refusal) => s.asInjected (fun s => stateAfter (f s) s)
  match kind with
  | 0 => s.asInjected (fun s => s.report (p16 a 0) (p8 a 2) (p8 a 3) [])
  | 1 => s.modVlt (fun v => { v with flips := v.flips ++ [(p16 a 0, p16 a 2, p8 a 4, 1)] })
  | 2 => s.modVlt (fun v => { v with flips := v.flips ++ [(p16 a 0, p16 a 2, p8 a 4, 2)] })
  | 3 => s.modFlt (fun f => { f with vaultInject := f.vaultInject ++ [(p32 a 0, p8 a 4)] })
  | 4 => s.asInjected (fun s => if s.mainUp then s.failPlane u else s)
  | 5 => s.modFlt (fun f => { f with hchkInject := f.hchkInject ++ [u] })
  | 6 => ev (execLaneLoss (Fin.ofNat 256 u))
  | 7 => if p8 a 1 = 16 then ev (execSeamSpareFailure (Fin.ofNat 4 u)) else ev (execSeamLaneLoss (Fin.ofNat 4 u) (Fin.ofNat 17 (p8 a 1)))
  | 8 => ev (execBundleDown (Fin.ofNat 4 u) .ckLoss)
  | 9 => ev (execEngineFailure (Fin.ofNat 32 u))
  | 10 => s.asInjected (fun s =>
      s.lockstepMismatch u (s.cmd.pair.head? == some u) (s.cmd.pair.getLast? == some u && s.cmd.pair.head? != some u))
  | 11 => ev (execSliceFailure (Fin.ofNat 8 u))
  | 12 => ev (execPseudoChannelFailure (Fin.ofNat 32 u))
  | _ => s.modFlt (fun f => { f with cplDropInject := f.cplDropInject ++ [u] })

/-- The ARG of an injection names units that exist (Table 12-9). -/
def injectArgOk (kind : Nat) (a : Bytes) : Bool :=
  let u := p8 a 0
  match kind with
  | 0 => 0x0100 ≤ p16 a 0 && p16 a 0 ≤ 0x12FF && 1 ≤ p8 a 2 && p8 a 2 ≤ 3
  | 1 => p16 a 0 < 512 && p16 a 2 < 1024 && p8 a 4 < 32
  | 2 => p16 a 0 < 512 && p16 a 2 < 1024 && p8 a 4 < 32
  | 3 => p32 a 0 < logicalPages && 1 ≤ p8 a 4 && p8 a 4 ≤ 127
  | 4 => u < 5
  | 5 => u < 5
  | 6 => true
  | 7 => u < 4 && p8 a 1 < 17
  | 8 => u < 4
  | 9 => u < 32
  | 10 => u < 3
  | 11 => u < 8
  | 12 => u < 32
  | _ => u < 64

/-- FAULT_INJECT (0xCF10): the first injection now, the others DELAY apart (R517). -/
def specFaultInject : CmdSpec :=
  { opcode := 0xCF10, priv := .factory, sub := 0x0F, len := lenIs 16,
    deny := fun _ _ s => !s.flag Reg.FLT_STATUS_TOUCHSTONE,
    check := fun _ p _ => firstBad [need (p8 p 0 < 14) 0, need (1 ≤ p8 p 1) 1, need (injectArgOk (p8 p 0) (p.drop 8)) 8],
    run := fun _ p s =>
      let x : Injection := { kind := p8 p 0, left := p8 p 1 - 1, delay := p32 p 4, arg := p.drop 8 }
      let s := if 0 < x.left then s.modFlt (fun f => { f with inject := f.inject ++ [x] }) else s
      .done [] (s.injectFault x.kind x.arg) }

/-- FAULT_INJECT: R517. -/
def execFaultInject (h : Hdr) (p : Bytes) (s : State) : Host.Outcome State Fault Refusal := specFaultInject.direct h p s

/-- INJECTION_DELAY_EXPIRY: the next injected fault of the command that has waited longest (R517). -/
def execInjectionDelayExpiry (s : State) : Host.Outcome State Fault Refusal :=
  .next (match s.flt.inject with
    | [] => s
    | x :: rest =>
      let rest := if x.left ≤ 1 then rest else rest ++ [{ x with left := x.left - 1 }]
      (s.modFlt (fun f => { f with inject := rest })).injectFault x.kind x.arg)

end Sys2Proof.Machine
end

