-- ==== Sys2Proof/Machine/Fm.lean ====
section
/-! DEFINITION. The FM API (R83, R86, R89, R90, R484): the physical switch, virtual switch, MLD port and DCD management sets. The
manual gives what the commands do; their layouts are those of CXL 3.1 (log 24, PRESUMED). -/

namespace Sys2Proof.Machine

/-- `n` zero bytes. -/
def zeros (n : Nat) : Bytes := List.replicate n 0

/-! ## Physical switch set -/

/-- Background Operation Status (0x0002). -/
def specFmStatus : CmdSpec :=
  { opcode := 0x0002, priv := .operate, sub := 0x0D, len := lenIs 0,
    run := fun _ _ s =>
      match s.cmd.bg.find? (fun b => b.opcode < 0x8000) with
      | some b => .done ([1, 0] ++ leBytes 2 b.opcode ++ zeros 4) s
      | none =>
        let x := s.cmd.fmBackground.getD (0, 0)
        .done ([0, 0] ++ leBytes 2 x.1 ++ leBytes 2 x.2 ++ [0, 0]) s }

/-- The port on which a request came in; none for the management lands. -/
def ingressOf (h : Hdr) : Option Nat :=
  match h.req.transport with
  | .vdm u => some u.val
  | _ => none

/-- Identify Switch Device (0x5100): ports, VCSs, vPPBs. -/
def specFmIdentify : CmdSpec :=
  { opcode := 0x5100, priv := .observe, sub := 0x06, len := lenIs 0,
    run := fun h _ s =>
      let up := s.presentPorts.filter (fun p => (s.port p).up)
      .done ([((ingressOf h).map byte).getD (Config.freeByte s.fresh), 0, byte s.presentPorts.length, byte s.usps.length]
        ++ leBytes 32 (maskOf up) ++ leBytes 32 (maskOf s.usps) ++ leBytes 2 (32 * s.usps.length)
        ++ leBytes 2 (s.prt.binds.length + s.pol.lds.length) ++ [4]) s.drawn }

/-- The 16 bytes of Get Physical Port State for a port; what the manual does not tell of a device is open. -/
def State.fmPort (s : State) (p : Nat) : Bytes :=
  let st := if (s.port p).disabledBy.isEmpty = false then 0 else if s.isUsp p then 4 else if s.isDsp p then 3 else 0
  let mode := if !(s.port p).up || !s.flag Reg.LNC_PORT_STATUS_CXL p then 0
    else match s.get Reg.LNC_PORT_STATUS_FLIT p with
      | 2 => 2
      | 3 => 3
      | 4 => 4
      | _ => 0
  [byte p, byte st, byte mode, 0, Config.freeByte (s.fresh + p), 0x1C, byte (s.portLanes p).length,
   byte (s.get Reg.LNC_PORT_STATUS_WIDTH p), 0x3F, 6, byte (if (s.port p).up then s.get Reg.LNC_PORT_STATUS_RATE p + 1 else 0),
   byte (s.get Reg.LNC_PORT_STATUS_LTSSM p), byte ((s.portLanes p).headD 0 % 16),
   byte (b2n (s.port p).lanesRev + 2 * b2n (!(s.port p).perst)), 0, byte (((s.bindsTo p).filter (fun b => b.2.isSome)).length)]

/-- Get Physical Port State (0x5101). -/
def specFmPortState : CmdSpec :=
  { opcode := 0x5101, priv := .observe, sub := 0x06,
    len := fun p => if p.length = 1 + p8 p 0 then none else some headerOffset,
    check := fun _ p s => firstBad ((List.range (p8 p 0)).map (fun i => need (s.present (p8 p (1 + i))) (1 + i))),
    run := fun _ p s =>
      .done ([byte (p8 p 0), 0, 0, 0] ++ ((List.range (p8 p 0)).map (fun i => s.fmPort (p8 p (1 + i)))).flatten) s.drawn }

/-- Physical Port Control (0x5102): 0 asserts and 1 deasserts PERST on a DSP, 2 resets its port. -/
def specFmPortControl : CmdSpec :=
  { opcode := 0x5102, priv := .admin, sub := 0x06, len := lenIs 2,
    check := fun _ p s => firstBad [need (s.isDsp (p8 p 0)) 0, need (p8 p 1 < 3) 1],
    run := fun _ p s =>
      let q := p8 p 0
      .done [] (match p8 p 1 with
        | 0 => s.disable q 0
        | 1 => s.enable q 0
        | _ => (s.linkCut q).train q) }

/-- Register number and byte enables of a configuration request. -/
def fmReg (p : Bytes) : Nat := 4 * (p8 p 1 % 64 + 64 * (p8 p 2 % 16))

/-- A configuration request of the fabric manager to a function of VCS `u`: the word read, or the word written with what the write
does. -/
def State.fmConfig (s : State) (u : Port) (t : CfgTarget) (p : Bytes) (data : Nat) : CmdResult :=
  if bitOf (p8 p 3) 7 then
    let before := s.hbrBytes u.val
    let t' := s.hostStore u { target := t, offset := BitVec.ofNat 12 (fmReg p), be := BitVec.ofNat 4 (p8 p 2 / 16),
                              value := BitVec.ofNat 32 data, tag := 0 }
    .done (zeros 4) (if t'.hbrBytes u.val == before then t' else t'.commitRoutes u.val .nothing)
  else .done (leBytes 4 (s.cfgRead u.val t (fmReg p) 4)) s

/-- Send PPB CXL.io Configuration Request (0x5103): the USP function of a USP, the bound vPPB of a DSP; a port without either has
no function. -/
def specFmPpbConfig : CmdSpec :=
  { opcode := 0x5103, priv := .admin, sub := 0x06, len := lenIs 8,
    check := fun _ p s => firstBad [need (s.present (p8 p 0)) 0],
    run := fun _ p s =>
      if s.isUsp (p8 p 0) then s.fmConfig (Fin.ofNat 64 (p8 p 0)) .usp p (p32 p 4)
      else match (s.bindsTo (p8 p 0)).head? with
        | some b => s.fmConfig (Fin.ofNat 64 (b.1 / 32)) (.vppb (Fin.ofNat 32 (b.1 % 32))) p (p32 p 4)
        | none => .fail stConflict }

/-! ## Virtual switch set -/

/-- The 4 bytes of Get Virtual CXL Switch Info for vPPB `v` of VCS `u`. -/
def State.fmVppb (s : State) (u v : Nat) : Bytes :=
  let busy := s.pol.bindOps.any (fun o => o.usp == u && p8 o.params 1 == v && 0x5201 ≤ o.opcode && o.opcode ≤ 0x5202)
  if busy then [1, 0, 0, 0]
  else match s.bindOf u v with
    | some b => [byte (if b.ldId.isSome then 3 else 2), byte b.port, byte (b.ldId.getD 0), 0]
    | none => zeros 4

/-- Get Virtual CXL Switch Info (0x5200). -/
def specFmVcsInfo : CmdSpec :=
  { opcode := 0x5200, priv := .observe, sub := 0x06,
    len := fun p => if p.length = 3 + p8 p 2 then none else some headerOffset,
    objects := fun p _ => (List.range (p8 p 2)).map (fun i => p8 p (3 + i)),
    check := fun _ p s => firstBad ([need (p8 p 0 < 32) 0] ++ (List.range (p8 p 2)).map (fun i => need (s.isUsp (p8 p (3 + i))) (3 + i))),
    run := fun _ p s =>
      let vs := ((List.range 32).drop (p8 p 0)).take (p8 p 1)
      .done ([byte (p8 p 2), 0, 0, 0] ++ ((List.range (p8 p 2)).map (fun i =>
        let u := p8 p (3 + i)
        [byte u, byte (b2n (s.port u).up), byte u, 32] ++ (vs.map (s.fmVppb u)).flatten)).flatten) s }

/-- Bind vPPB (0x5201): in the background, one operation at a time on each USP (R89, R93). -/
def specFmBind : CmdSpec :=
  { opcode := 0x5201, priv := .operate, sub := 0x06, len := lenIs 6,
    check := fun _ p s => firstBad [need (s.isUsp (p8 p 0)) 0, need (bindable (p8 p 1)) 1, need (s.isDsp (p8 p 2)) 2],
    run := fun _ p s =>
      if !s.bindBusy (p8 p 0) && s.bindRefused (p8 p 0) (p8 p 1) (p8 p 2) (bindLd p) then .fail stConflict
      else .started (s.queueBind (p8 p 0) 0x5201 s.cmd.nextBg p) false }

/-- Unbind vPPB (0x5202) with its three options (R90, Table 2-10). -/
def specFmUnbind : CmdSpec :=
  { opcode := 0x5202, priv := .operate, sub := 0x06, len := lenIs 3,
    check := fun _ p s => firstBad [need (s.isUsp (p8 p 0)) 0, need (bindable (p8 p 1)) 1, need (p8 p 2 % 16 < 3) 2],
    run := fun _ p s =>
      if !s.bindBusy (p8 p 0) && (s.bindOf (p8 p 0) (p8 p 1)).isNone then .fail stConflict
      else .started (s.queueBind (p8 p 0) 0x5202 s.cmd.nextBg p) false }

/-- Generate AER Event (0x5203): the error is logged in the vPPB (R330). -/
def specFmAer : CmdSpec :=
  { opcode := 0x5203, priv := .operate, sub := 0x06, len := lenIs 40,
    check := fun _ p s => firstBad [need (s.isUsp (p8 p 0)) 0, need (p8 p 1 < 32 && s.cfgPresent (p8 p 0) (.vppb (Fin.ofNat 32 (p8 p 1)))) 1],
    run := fun _ p s =>
      let u := p8 p 0
      let q := ((s.bindOf u (p8 p 1)).map Bind.port).getD u
      .done [] (s.logAer q u (.vppb (Fin.ofNat 32 (p8 p 1)))
        { bit := Fin.ofNat 32 (p8 p 4 % 32), correctable := p8 p 4 / 32 % 4 == 0, header := BitVec.ofNat 128 (fieldAt p 8 16) }) }

/-! ## MLD port set -/

/-- A port behind which an MLD is bound. -/
def State.mldPort (s : State) (p : Nat) : Bool := (s.bindsTo p).any (fun b => b.2.isSome)

/-- Passes a request on to the device behind port `q`; the device's answer is open. -/
def State.fmTunnel (s : State) (opcode q : Nat) (p : Bytes) : CmdResult :=
  if !(s.port q).up then .fail stConflict
  else .done (Config.deviceReply s.fresh) ((s.emit (.devCfg q opcode p)).drawn)

/-- Tunnel Management Command (0x5300). -/
def specFmTunnel : CmdSpec :=
  { opcode := 0x5300, priv := .operate, sub := 0x06, len := fun p => if p.length < 5 then some headerOffset else none,
    check := fun _ p s => firstBad [need (s.isDsp (p8 p 0)) 0],
    run := fun _ p s => s.fmTunnel 0x5300 (p8 p 0) p }

/-- Send LD CXL.io Configuration Request (0x5301). -/
def specFmLdConfig : CmdSpec :=
  { opcode := 0x5301, priv := .operate, sub := 0x06, len := lenIs 12,
    check := fun _ p s => firstBad [need (s.isDsp (p8 p 0) && s.mldPort (p8 p 0)) 0],
    run := fun _ p s => s.fmTunnel 0x5301 (p8 p 0) p }

/-- Send LD CXL.io Memory Request (0x5302). -/
def specFmLdMemory : CmdSpec :=
  { opcode := 0x5302, priv := .operate, sub := 0x06, len := fun p => if p.length < 16 then some headerOffset else none,
    check := fun _ p s => firstBad [need (s.isDsp (p8 p 0) && s.mldPort (p8 p 0)) 0],
    run := fun _ p s => s.fmTunnel 0x5302 (p8 p 0) p }

/-! ## DCD management set: each LD is a DCD host target (R484) -/

/-- Bytes of an extent: the only block size (R484). -/
def extentBytes : Nat := 2 ^ 21

/-- Extents of the pool's address space. -/
def poolExtents : Nat := 2 ^ 24

/-- Device pages of the local POOL devices (R44). -/
def State.poolPages (s : State) : Nat :=
  (((List.range 64).filter (fun n => s.isPool n && s.flag Reg.POL_DSP_CFG_DEVICE_OK n)).map (fun n => (s.poolDev n).pages)).sum

/-- Get DCD Info (0x5600). -/
def specFmDcdInfo : CmdSpec :=
  { opcode := 0x5600, priv := .observe, sub := 0x0A, len := lenIs 0,
    run := fun _ _ s =>
      .done (leBytes 2 s.pol.lds.length ++ [1, 0] ++ leBytes 2 0x0F ++ [0, 0] ++ leBytes 2 0x03 ++ [0, 0]
        ++ leBytes 8 (s.poolPages * extentBytes) ++ zeros 4 ++ leBytes 8 extentBytes ++ zeros 56) s }

/-- The LD that a DCD command names as its host. -/
def hostLd (p : Bytes) : Nat := p16 p 0

/-- The host of a DCD command is an LD. -/
def hostOk (p : Bytes) (s : State) : Bool := s.ldOperand (hostLd p)

/-- Get Host DC Region Configuration (0x5601): one region of 2 MiB blocks over the pool's address space. -/
def specFmDcdRegion : CmdSpec :=
  { opcode := 0x5601, priv := .observe, sub := 0x0A, len := lenIs 4, objects := fun p _ => [hostLd p / 16],
    check := fun _ p s => firstBad [need (hostOk p s) 0],
    run := fun _ p s =>
      if !s.hasLd (hostLd p) then .fail stConflict
      else
        let one := p8 p 2 != 0 && p8 p 3 == 0
        let region := leBytes 8 0 ++ leBytes 8 (poolExtents * extentBytes) ++ leBytes 8 (poolExtents * extentBytes)
          ++ leBytes 8 extentBytes ++ zeros 8
        .done (leBytes 2 (hostLd p) ++ [1, byte (b2n one)] ++ (if one then region else [])
          ++ leBytes 4 poolExtents ++ leBytes 4 (poolExtents - s.validExtents.length) ++ leBytes 4 1024
          ++ leBytes 4 (1024 - s.pol.groupTags.length)) s }

/-- Set DC Region Configuration (0x5602): a block size other than 2 MiB is Invalid Input; nothing else can be set (R484). -/
def specFmDcdSet : CmdSpec :=
  { opcode := 0x5602, priv := .operate, sub := 0x0A, len := lenIs 16,
    check := fun _ p _ => firstBad [need (p8 p 0 == 0) 0, need (p64 p 4 == extentBytes) 4],
    run := fun _ _ s => .done [] s }

/-- The DCD extent of a run of extents: start DPA, length, tag, sequence of a shared extent. -/
def State.dcdExtent (s : State) (first count : Nat) : Bytes :=
  let e := s.entry first
  leBytes 8 (first * extentBytes) ++ leBytes 8 (count * extentBytes)
    ++ (if entShared e then slice (s.groupTag (entOwner e)) 0 16 else zeros 16) ++ zeros 8

/-- The extents of LD `ld`. -/
def State.heldBy (s : State) (ld : Nat) : List Nat := (s.validExtents.filter (fun x => s.holdsExtent ld x.1)).map Prod.fst

/-- Get DC Region Extent Lists (0x5603). -/
def specFmDcdExtents : CmdSpec :=
  { opcode := 0x5603, priv := .observe, sub := 0x0A, len := lenIs 12, objects := fun p _ => [hostLd p / 16],
    check := fun _ p s => firstBad [need (hostOk p s) 0],
    run := fun _ p s =>
      if !s.hasLd (hostLd p) then .fail stConflict
      else
        let xs := s.heldBy (hostLd p)
        let l := (xs.drop (p32 p 8)).take (min (p32 p 4) 100)
        .done (leBytes 2 (hostLd p) ++ [0, 0] ++ leBytes 4 (p32 p 8) ++ leBytes 4 l.length ++ leBytes 4 xs.length
          ++ leBytes 4 ((s.table 0x0A42).tag) ++ zeros 4 ++ (l.map (fun x => s.dcdExtent x 1)).flatten) s }

/-- Extent `i` of a DCD command's list: first extent and count, none where it is not whole extents of the pool. -/
def dcdRun (p : Bytes) (i : Nat) : Option (Nat × Nat) :=
  let a := p64 p (32 + 40 * i)
  let n := p64 p (40 + 40 * i)
  if a % extentBytes = 0 ∧ n % extentBytes = 0 ∧ n ≠ 0 ∧ a + n ≤ poolExtents * extentBytes then some (a / extentBytes, n / extentBytes)
  else none

/-- The runs of a DCD command's list. -/
def dcdRuns (p : Bytes) : List (Nat × Nat) := (List.range (p32 p 28)).filterMap (dcdRun p)

/-- Their extents. -/
def dcdList (p : Bytes) : List Nat := ((dcdRuns p).map (fun r => (List.range r.2).map (r.1 + ·))).flatten

/-- Pages of device `t` that pool tables or staged grants use. -/
def State.pagesTaken (s : State) (t : Nat) : List Nat :=
  let direct := fun (e : Nat) => if !entMirrored e && !entIl e && entTarget e == t then [entPage e] else []
  let words := (s.pairsUsed.map (fun i => [s.copyWord i 0, s.copyWord i 1])).flatten.filter cwValid
  let sets := (List.range 256).map (fun i =>
    let b := s.active 0x0A40 (128 * i) 128
    if s.isetUsed i ∧ s.isetNames i t then
      (((List.range (2 ^ isetWays b)).filter (fun w => isetTarget b w == t)).map (fun w =>
        (List.range (isetLength b / 2 ^ isetWays b)).map (isetBase b w + ·))).flatten
    else [])
  (s.validExtents.map (fun x => direct x.2)).flatten ++ (s.pol.grants.map (fun g => (g.entries.map (fun e => direct e.2)).flatten)).flatten
    ++ (words.filter (fun w => !cwIl w && cwTarget w == t)).map cwPage ++ sets.flatten
    ++ (s.pol.relocs.filter (fun r => !cwIl r.dstCopy && cwTarget r.dstCopy == t)).map (fun r => cwPage r.dstCopy)

/-- The first `n` numbers from `lo` on, below `hi`, that `used` does not hold. -/
def firstFree (lo hi n : Nat) (used : List Nat) : List Nat :=
  (((List.range (n + used.length)).map (lo + ·)).filter (fun x => x < hi && !used.contains x)).take n

/-- Device pages for `n` extents: the targets of the view in ascending order, the lowest free pages first (log 24). -/
def State.pickPages (s : State) (u n : Nat) : List (Nat × Nat) :=
  let ts := (List.range 64).filter (fun t => s.inView u t && s.isPool t && s.flag Reg.POL_DSP_CFG_DEVICE_OK t)
  (ts.foldl (fun (a : List (Nat × Nat)) t =>
    a ++ ((firstFree 0 (s.poolDev t).pages (n - a.length) (s.pagesTaken t)).map (fun g => (t, g)))) []).take n

/-- The first extent of this module's half of the pool. -/
def State.extentBase (s : State) : Nat :=
  if s.flag Reg.SEM_TWIN_STATUS_ENABLED ∧ s.flag Reg.SEM_TWIN_STATUS_TWIN_B then 2 ^ 23 else 0

/-- Extents that a grant may not take. -/
def State.extentsUsed (s : State) : List Nat :=
  s.validExtents.map Prod.fst ++ (s.pol.grants.map (fun g => g.entries.map Prod.fst)).flatten
    ++ (s.tbl.modq.map (fun m => m.extents.map Prod.fst)).flatten

/-- `n` extents for a grant: any that are free, or a run of consecutive ones, lowest first (log 24). -/
def State.pickExtents (s : State) (n : Nat) (contiguous : Bool) : List Nat :=
  let used := s.extentsUsed
  let lo := s.extentBase
  let hi := if s.flag Reg.SEM_TWIN_STATUS_ENABLED then lo + 2 ^ 23 else poolExtents
  if contiguous then
    match (lo :: (sortNat used).map (· + 1)).find? (fun b => lo ≤ b && b + n ≤ hi && used.all (fun x => x < b || b + n ≤ x)) with
    | some b => (List.range n).map (b + ·)
    | none => []
  else firstFree lo hi n used

/-- The share group that carries a tag. -/
def State.groupOfTag (s : State) (tag : Bytes) : Option Nat := (s.pol.groupTags.find? (fun g => g.2 == tag)).map Prod.fst

/-- Begins a grant of FM API origin: as EXTENT_GRANT, with the entries the module forms. -/
def State.fmGrant (s : State) (ld : Nat) (xs : List Nat) (group : Option Nat) : CmdResult :=
  let pages := s.pickPages (ld / 16) xs.length
  if pages.length < xs.length then .fail stNoResource
  else
    let owner := group.getD ld
    let es := (xs.zip pages).map (fun (x : Nat × (Nat × Nat)) =>
      (x.1, putBits (putBits (putBits (putBit 1 1 group.isSome) 6 10 owner) 17 7 x.2.1) 24 24 x.2.2))
    match s.grantRefused es (!s.hasLd ld || (match group with
        | some g => !(s.members g).contains ld
        | none => false)) with
    | some st => .fail st
    | none =>
      let lds := ((es.map (fun e => s.receivers e.2 owner)).flatten).dedup
      let g : Grant := { id := s.pol.nextId, bgId := some s.cmd.nextBg, lds := lds, entries := es, fills := es.length, mod := none,
                         offered := false }
      .started (s.bumpId.modPol (fun q => { q with grants := q.grants ++ [g] })) true

/-- Initiate Dynamic Capacity Add (0x5604): selection policy 0 free, 1 contiguous, 2 prescriptive, 3 enable shared access (R83). -/
def specFmDcdAdd : CmdSpec :=
  { opcode := 0x5604, priv := .operate, sub := 0x0A,
    len := fun p => if 32 ≤ p.length ∧ p.length = 32 + 40 * p32 p 28 then none else some headerOffset,
    objects := fun p _ => [hostLd p / 16],
    check := fun _ p s => firstBad [need (hostOk p s) 0, need (p8 p 2 % 16 < 4) 2, need (p8 p 3 % 8 == 0) 3,
      need (p8 p 2 % 16 == 2 || p8 p 2 % 16 == 3 || (p64 p 4 % extentBytes == 0 && p64 p 4 != 0)) 4,
      need (p8 p 2 % 16 != 2 || (p32 p 28 != 0 && (dcdRuns p).length == p32 p 28)) 28],
    run := fun _ p s =>
      let ld := hostLd p
      let tag := slice p 12 16
      let group := if tag = zeros 16 then none else s.groupOfTag tag
      if (tag != zeros 16 && group.isNone) || !s.hasLd ld then .fail stConflict
      else match p8 p 2 % 16 with
        | 3 =>
          (match group with
           | none => .fail stConflict
           | some g =>
             if (s.members g).contains ld then .fail stConflict
             else
               let r : Release := { id := s.pol.nextId, bgId := some s.cmd.nextBg, ld := ld, extents := [], waitHost := false,
                                    destroy := false, leavers := [], joiners := [(ld, g)], asked := (0, 0) }
               .started (s.bumpId.startRelease r false) true)
        | 2 => if 4096 < (dcdList p).length then .fail stNoResource else s.fmGrant ld (dcdList p) group
        | c =>
          let n := p64 p 4 / extentBytes
          if 4096 < n then .fail stNoResource
          else
            let xs := s.pickExtents n (c == 1)
            if xs.length < n then .fail stNoResource else s.fmGrant ld xs group }

/-- Initiate Dynamic Capacity Release (0x5605): by tag or by list, forced without the host's consent or not (R86, R88). -/
def specFmDcdRelease : CmdSpec :=
  { opcode := 0x5605, priv := .operate, sub := 0x0A,
    len := fun p => if 32 ≤ p.length ∧ p.length = 32 + 40 * p32 p 28 then none else some headerOffset,
    objects := fun p _ => [hostLd p / 16],
    check := fun _ p s => firstBad [need (hostOk p s) 0, need (p8 p 2 % 16 < 2) 2,
      need (p8 p 2 % 16 != 1 || (p32 p 28 != 0 && (dcdRuns p).length == p32 p 28)) 28],
    run := fun _ p s =>
      let ld := hostLd p
      let tag := slice p 12 16
      let byTag := (s.heldBy ld).filter (fun x =>
        (if entShared (s.entry x) then s.groupTag (entOwner (s.entry x)) else zeros 16) == tag)
      let xs := if p8 p 2 % 16 = 1 then dcdList p else byTag
      if xs.isEmpty || !xs.all (fun x => s.holdsExtent ld x && !s.stagedExtent x) then .fail stConflict
      else if 4096 < xs.length then .fail stNoResource
      else if bitOf (p8 p 2) 4 then
        .started ((s.offer ld 2 xs tag).bumpId.startRelease (s.releaseOf ld xs (some s.cmd.nextBg) (xs.headD 0, xs.length)) true) true
      else
        let rs := runsOf xs
        .started (forEach rs.zipIdx (fun (r : (Nat × Nat) × Nat) s =>
          let last := r.2 + 1 == rs.length
          let q : Release := { id := s.pol.nextId, bgId := if last then some s.cmd.nextBg else none, ld := ld, extents := [], waitHost := true,
                               destroy := false, leavers := [], joiners := [], asked := r.1 }
          (s.bumpId.modPol (fun x => { x with releases := x.releases ++ [q] })).emit (.capacity ld 1 r.1.1 r.1.2 tag)) s) true }

/-- The FM API commands. -/
def fmSpecs : List CmdSpec :=
  [specFmStatus, specFmIdentify, specFmPortState, specFmPortControl, specFmPpbConfig, specFmVcsInfo, specFmBind, specFmUnbind, specFmAer,
   specFmTunnel, specFmLdConfig, specFmLdMemory, specFmDcdInfo, specFmDcdRegion, specFmDcdSet, specFmDcdExtents, specFmDcdAdd,
   specFmDcdRelease]

/-! ## The FM API MCTP binding -/

/-- The CXL return code of a status (R484). -/
def fmCode (st : Nat) : Nat :=
  if st = stSuccess then 0
  else if st = stStarted then 1
  else if st = stBadOpcode then 3
  else if st = stBadLength then 0x16
  else if st = stBadParam ∨ st = stConflict then 2
  else if st = stDenied ∨ st = stLocked then 0x13
  else 4

/-- Answers a message of the FM API binding; its RESPONSE record follows. -/
def State.fmAnswer (s : State) (h : Hdr) (opcode seq st : Nat) (reply : Bytes) : State :=
  (s.emit (.fmRsp h.req opcode h.tag.toNat (fmCode st) reply)).recordResponse seq st reply

/-- A background FM API command begins; in the FM API binding it sends no completion event (R484). -/
def State.fmBegin (s : State) (c : CmdSpec) (h : Hdr) (p : Bytes) (seq : Nat) (j mctp : Bool) : State :=
  let id := s.cmd.nextBg
  (s.beginBg c h p seq j).modCmd (fun m =>
    { m with bg := m.bg.map (fun b => if b.id = id then { b with dropped := b.dropped || mctp } else b) })

/-- Runs an FM API command that came in the FM API binding. -/
def CmdSpec.fmExec (c : CmdSpec) (h : Hdr) (p : Bytes) (seq : Nat) (s : State) : State :=
  match c.len p with
  | some _ => s.fmAnswer h c.opcode seq stBadLength []
  | none =>
    match c.outcome h p s with
    | .done reply s' => s'.fmAnswer h c.opcode seq stSuccess reply
    | .started s' j => (s'.fmBegin c h p seq j true).fmAnswer h c.opcode seq stStarted []
    | .finished s' st r => ((s'.fmBegin c h p seq false true).endBg s'.cmd.nextBg st r).fmAnswer h c.opcode seq stStarted []
    | .bad _ => s.fmAnswer h c.opcode seq stBadParam []
    | .fail st => s.fmAnswer h c.opcode seq st []
    | .failed st s' => s'.fmAnswer h c.opcode seq st []
    | .waits _ s' => s'.fmAnswer h c.opcode seq stSuccess []

/-- FM_API_COMMAND: in the FM API binding, or inside a command packet (R484). -/
def execFmApiCommand (h : Hdr) (mctp : Bool) (opcode : BitVec 16) (p : Bytes) (s : State) : Host.Outcome State Fault Refusal :=
  .next (if s.clk.phase = .off then s else
    let op := opcode.toNat
    let pkt := mkPacket 0 op h.tag.toNat h.context.toNat 0 p
    match fmSpecs.find? (fun c => c.opcode == op) with
    | none =>
      if mctp then s.emit (.fmRsp h.req op h.tag.toNat (fmCode stBadOpcode) []) else s.sendPacket h.req h.session
        (mkPacket 1 op h.tag.toNat h.context.toNat stBadOpcode [])
    | some c =>
      let t := s.recordCommand h (c.priv == .observe) pkt
      if mctp then c.fmExec h p s.trec.next t else (c.exec h p s.trec.next t).1)

end Sys2Proof.Machine
end

