-- ==== Sys2Proof/Machine/RegWrite.lean ====
section
/-! DEFINITION. REG_READ and REG_WRITE (R6 to R8, R31 to R35, R475, R476): the checks of every word, in the order of R459, and
what each field does when it is written. -/

namespace Sys2Proof.Machine

/-- One word of a REG_WRITE: address, value, and the bits it stores. -/
structure RegWord where
  addr : Nat
  value : Nat
  mask : Nat
  deriving DecidableEq, Repr

/-- MASKED of a REG_WRITE. -/
def regMasked (p : Bytes) : Bool := bitOf (p8 p 6) 0

/-- Bytes that one word takes in the parameters. -/
def regStep (p : Bytes) : Nat := if regMasked p then 8 else 4

/-- The words of a REG_WRITE, ascending. -/
def regWords (p : Bytes) : List RegWord :=
  (List.range (p16 p 4)).map (fun k =>
    { addr := p32 p 0 + 4 * k, value := p32 p (8 + regStep p * k),
      mask := if regMasked p then p32 p (12 + 8 * k) else 0xFFFFFFFF })

/-- The fields that a word touches with their indices: those of which it stores at least one bit (R8). -/
def RegWord.fields (w : RegWord) : List (Field × Nat) :=
  (fieldsAt w.addr).filter (fun x => x.1.acc != .ro && bitsOf w.mask x.1.lsb x.1.width != 0
    && !(x.1.is Reg.VLT_REGION_CFG_STRENGTH && x.2 == 0))

/-- The value a field would hold: the bits that the mask selects, the others as they are. -/
def RegWord.newVal (w : RegWord) (s : State) (f : Field) (i : Nat) : Nat :=
  let m := bitsOf w.mask f.lsb f.width
  (bitsOf w.value f.lsb f.width &&& m) ||| (s.get f i &&& (2 ^ f.width - 1 - m))

/-! ## What makes a word invalid (R476) -/

/-- The fields as they would stand after the whole command. -/
def State.afterWords (s : State) (ws : List RegWord) : State :=
  forEach ws (fun w s => forEach w.fields (fun x s => if x.1.acc = .rw1c then s else s.set x.1 x.2 (w.newVal s x.1 x.2)) s) s

/-- A breaker curve holds together: at least one valid point, currents that rise strictly, times that do not rise (R631). -/
def curveOk (pts : List (Nat × Nat)) : Bool :=
  !pts.isEmpty && (pts.zip (pts.drop 1)).all (fun (x : (Nat × Nat) × (Nat × Nat)) => decide (x.1.1 < x.2.1) && decide (x.2.2 ≤ x.1.2))

/-- A two's-complement exponent from −6 to +3. -/
def alphaOk (v : Nat) : Bool := v ≤ 3 || 10 ≤ v

/-- The fields that hold an exponent of that kind. -/
def alphaFields : List Field :=
  [Reg.DIR_TRK_CTL_ALPHA_K, Reg.MOV_CTL_ALPHA_K, Reg.XBR_DT_CTL_K_Q0, Reg.XBR_DT_CTL_K_Q1, Reg.XBR_DT_CTL_K_Q2, Reg.XBR_DT_CTL_K_Q3,
   Reg.XBR_DT_CTL_K_Q4, Reg.XBR_DT_CTL_K_Q5, Reg.XBR_DT_CTL_K_Q6, Reg.XBR_DT_CTL_K_Q7]

/-- The field is one of the four words of a Quench entry. -/
def Field.quench (f : Field) : Bool := f.ss == 0x0F && f.stride == 16

/-- The value of a touched field is in range in the state `t` that would follow (the chapters' register tables; R114, R308, R310,
R498, R631, R673). -/
def State.fieldOk (t : State) (f : Field) (i : Nat) : Bool :=
  let v := t.get f i
  f.acc == .rw1c || ((f.lo ≤ v && v ≤ f.hi) &&
    (if alphaFields.any (fun g => f.is g) then alphaOk v
     else if f.is Reg.SCH_CTL_EXPORT_MS || f.is Reg.SCH_CTL_SAMPLE_US then
       t.get Reg.SCH_CTL_EXPORT_MS * 1000 % t.get Reg.SCH_CTL_SAMPLE_US == 0
     else if f.is Reg.PFE_FEED_THR_UV_FALL || f.is Reg.PFE_FEED_THR_UV_HYST || f.is Reg.PFE_FEED_THR_OV_RISE then
       t.get Reg.PFE_FEED_THR_UV_FALL i + t.get Reg.PFE_FEED_THR_UV_HYST i + 20 ≤ t.get Reg.PFE_FEED_THR_OV_RISE i
     else if f.is Reg.PFE_BKR_CTL_FAST_TRIP || f.is Reg.PFE_BKR_CTL_I_LIM then
       t.get Reg.PFE_BKR_CTL_I_LIM < t.get Reg.PFE_BKR_CTL_FAST_TRIP
     else if f.is Reg.SPC_BUS_CTL_UV_FALL || f.is Reg.SPC_BUS_CTL_UV_HYST || f.is Reg.SPC_BUS_CTL_OV_RISE then
       t.get Reg.SPC_BUS_CTL_UV_FALL + t.get Reg.SPC_BUS_CTL_UV_HYST + 10 ≤ t.get Reg.SPC_BUS_CTL_OV_RISE
     else if f.is Reg.SPC_CH_LIM_FAST_TRIP || f.is Reg.SPC_CH_LIM_I_LIM then
       t.get Reg.SPC_CH_LIM_I_LIM i < t.get Reg.SPC_CH_LIM_FAST_TRIP i
     else if f.ss = 0x01 ∧ f.off = Reg.PFE_BKR_PT_VALID.off then curveOk t.feedPoints
     else if f.ss = 0x02 ∧ f.off = Reg.SPC_BKR_PT_VALID.off then curveOk (t.chanPoints (i / 16))
     else if f.quench then
       t.get Reg.FLT_QENTRY_PROMOTE_N i != 1 && t.get Reg.FLT_QENTRY_ESCALATE_N i != 1
         && (t.get Reg.FLT_QENTRY_PROMOTE_N i == 0 || t.get Reg.FLT_QENTRY_PROMOTE_WIN i != 0)
     else if f.is Reg.PRT_PORT_CFG_ROLE then t.present i
     else if f.is Reg.PRT_PORT_CFG_VDM_MGMT || f.is Reg.PRT_PORT_CFG_MGMT_USP then v == 0 || t.isUsp i
     else if f.is Reg.POL_DSP_CFG_PERSONALITY then t.isDsp i
     else if f.is Reg.SPC_CH_CFG_PORT then v < 64 || v == 0x7F
     else true))

/-- The first word with a bad address or a field out of range, as the offset of the word in the parameters. -/
def State.badWord (s : State) (p : Bytes) : Option Nat :=
  let ws := regWords p
  let t := s.afterWords ws
  firstBad (ws.zipIdx.map (fun (x : RegWord × Nat) =>
    need (assigned x.1.addr && x.1.fields.all (fun f => t.fieldOk f.1 f.2)) (8 + regStep p * x.2)))

/-- What the state forbids a word to store: the main domain is down (R600), a table of the module's or a shadow that is not
writable (R23, R477), a role, personality, binding or second MGMT_USP that the chapters refuse. -/
def State.wordRefused (s : State) (w : RegWord) : Option Nat :=
  if !s.mainUp && !standbyIds.contains (w.addr / 0x1000000) then some stConflict
  else match s.aperture w.addr with
    | some (tid, _) => if tblManaged tid && s.writable tid then none else some stConflict
    | none =>
      w.fields.foldl (fun r x =>
        let v := w.newVal s x.1 x.2
        match r with
        | some st => some st
        | none =>
          if x.1.is Reg.PRT_PORT_CFG_ROLE then s.roleRefused x.2 v
          else if x.1.is Reg.POL_DSP_CFG_PERSONALITY then s.personalityRefused x.2 v
          else if x.1.is Reg.SPC_CH_CFG_PORT ∧ v ≠ s.get Reg.SPC_CH_CFG_PORT x.2 ∧ s.chanBindRefused x.2 v then some stConflict
          else if x.1.is Reg.PRT_PORT_CFG_MGMT_USP ∧ v = 1 ∧ s.otherMgmt x.2 then some stConflict
          else none) none

/-! ## Storing -/

/-- Stores `new` in a field that is written; the written bits are `bits` (Table 0-3). -/
def State.storeField (s : State) (f : Field) (i new bits : Nat) : State :=
  if f.is Reg.PRT_PORT_CFG_ROLE then s.setRole i new
  else if f.is Reg.POL_DSP_CFG_PERSONALITY then s.setPersonality i new
  else if f.is Reg.SPC_CH_IND_PWR then (if s.hostChan i ∨ new = 0 then s else (s.indicate i new 0).set f i new)
  else if f.is Reg.SPC_CH_IND_ATN then (if s.hostChan i ∨ new = 0 then s else (s.indicate i 0 new).set f i new)
  else match f.acc with
    | .rw1c => s.set f i (s.get f i &&& (2 ^ f.width - 1 - bits % 2 ^ f.width))
    | .rws | .rwl => s.setJ f i new
    | .rw => s.set f i new
    | .ro | .wo => s

/-- Stores one word: a table aperture's shadow, or the fields it touches. -/
def State.storeWord (s : State) (w : RegWord) : State :=
  match s.aperture w.addr with
  | some (tid, off) =>
    let old := leNat (s.shadow tid off 4)
    s.writeShadow tid off (leBytes 4 ((w.value &&& w.mask) ||| (old &&& (0xFFFFFFFF - w.mask))))
  | none =>
    forEach w.fields (fun x s =>
      s.storeField x.1 x.2 (w.newVal s x.1 x.2) (bitsOf w.value x.1.lsb x.1.width &&& bitsOf w.mask x.1.lsb x.1.width)) s

/-- Stores the words in ascending address order, each against the state that the ones before it leave; a word that is refused
ends it with its status. -/
def storeWords : List RegWord → State → Option Nat × State
  | [], s => (none, s)
  | w :: ws, s =>
    match s.wordRefused w with
    | some st => (some st, s)
    | none => storeWords ws (s.storeWord w)

/-! ## The commands -/

/-- A REG_WRITE touches an RWL field (R8, R476). -/
def regLocked (p : Bytes) : Bool := (regWords p).any (fun w => w.fields.any (fun x => x.1.acc == .rwl))

/-- REG_WRITE (0xCC01). -/
def specRegWrite : CmdSpec :=
  { opcode := 0xCC01, priv := .operate, sub := 0x0D,
    len := fun p => if 8 ≤ p.length ∧ p.length = 8 + regStep p * p16 p 4 then none else some headerOffset,
    deny := fun h p s => regLocked p && decide (privRank (s.privOf h) < 2),
    locks := fun p _ => regLocked p,
    check := fun _ p s =>
      if p32 p 0 % 4 ≠ 0 ∨ !assigned (p32 p 0) then some 0
      else if p16 p 4 < 1 ∨ (if regMasked p then 511 else 1022) < p16 p 4 then some 4
      else s.badWord p,
    run := fun _ p s =>
      match storeWords (regWords p) s with
      | (some st, _) => .fail st
      | (none, t) => .done [] t }

/-- REG_WRITE: R476. -/
def execRegWrite (h : Hdr) (p : Bytes) (s : State) : Host.Outcome State Fault Refusal := specRegWrite.direct h p s

/-- REG_READ (0xCC00). -/
def specRegRead : CmdSpec :=
  { opcode := 0xCC00, priv := .observe, sub := 0x0D, len := lenIs 6,
    check := fun _ p _ =>
      firstBad [need (p32 p 0 % 4 == 0 && assigned (p32 p 0)) 0,
        need (1 ≤ p16 p 4 && p16 p 4 ≤ 1024 && assigned (p32 p 0 + 4 * (p16 p 4 - 1))) 4],
    run := fun _ p s =>
      let last := (p32 p 0 + 4 * (p16 p 4 - 1)) / 0x1000000
      if !s.mainUp && !(standbyIds.contains (p32 p 0 / 0x1000000) && standbyIds.contains last) then .fail stConflict
      else .done (s.words (p32 p 0) (p16 p 4)) s }

/-- REG_READ: R475, R600. -/
def execRegRead (h : Hdr) (p : Bytes) (s : State) : Host.Outcome State Fault Refusal := specRegRead.direct h p s

/-- The parameters of a REG_WRITE of one word. -/
def oneWord (addr v : Nat) : Bytes := leBytes 4 addr ++ leBytes 2 1 ++ [0, 0] ++ leBytes 4 v

/-- The parameters of a MASKED REG_WRITE of one word. -/
def oneMasked (addr v mask : Nat) : Bytes := leBytes 4 addr ++ leBytes 2 1 ++ [1, 0] ++ leBytes 4 v ++ leBytes 4 mask

/-- PERSONALITY_WRITE: R42, R114. -/
def execPersonalityWrite (h : Hdr) (p : Port) (v : BitVec 2) (s : State) : Host.Outcome State Fault Refusal :=
  specRegWrite.direct h (oneMasked (0x0A000200 + 4 * p.val) v.toNat 3) s

/-- ROLE_WRITE: R308, R309. -/
def execRoleWrite (h : Hdr) (p : Port) (v : BitVec 2) (s : State) : Host.Outcome State Fault Refusal :=
  specRegWrite.direct h (oneMasked (0x06000100 + 4 * p.val) v.toNat 3) s

/-- BREAKER_CURVE_WRITE: R631, R673. -/
def execBreakerCurveWrite (h : Hdr) (addr v : Word) (s : State) : Host.Outcome State Fault Refusal :=
  specRegWrite.direct h (oneWord addr.toNat v.toNat) s

/-- REGISTER_WRITE: R6, R33. -/
def execRegisterWrite (h : Hdr) (addr v : Word) (s : State) : Host.Outcome State Fault Refusal :=
  specRegWrite.direct h (oneWord addr.toNat v.toNat) s

end Sys2Proof.Machine
end

