-- ==== Sys2Proof/Machine/Time.lean ====
section
/-! DEFINITION. The time counter's discipline (R556 to R567) and its commands. -/

namespace Sys2Proof.Machine

/-- Changes the time unit. -/
def State.modTim (s : State) (f : Tim → Tim) : State := { s with tim := f s.tim }

/-- Units of 2^-48 ns in a nanosecond. -/
def nsUnit : Int := 2 ^ 48

/-- States of the servo (Table 14-10). -/
def servoFree : Nat := 0
/-- ACQUIRE -/
def servoAcquire : Nat := 1
/-- LOCKED -/
def servoLocked : Nat := 2
/-- HOLDOVER -/
def servoHoldover : Nat := 3

/-- Moves the servo to a state. -/
def State.setServo (s : State) (st : Nat) : State := s.set Reg.TIM_STATUS_STATE 0 st

/-- The servo's state. -/
def State.servo (s : State) : Nat := s.get Reg.TIM_STATUS_STATE

/-- Changes the quality code; a change is a TIME record of kind 3 (Table 14-7). -/
def State.setQuality (s : State) (q : Nat) : State :=
  if s.quality = q then s
  else (s.set Reg.TIM_STATUS_QUALITY 0 q).recordTime 3 s.quality q s.tim.counter s.tim.counter

/-- A source is available: FREE or HOLDOVER becomes ACQUIRE (R563); quality stays. Without the root PLL the servo stays in FREE (R561,
log 98). -/
def State.sourceUp (s : State) (src : Nat) : State :=
  if !s.tim.oscillator ∧ (s.servo = servoFree ∨ s.servo = servoHoldover) then
    ((s.setServo servoAcquire).set Reg.TIM_STATUS_SRC 0 src).modTim (fun t => { t with good := 0, bad := 0, shadowSet := false })
  else s

/-- The locked source is lost: HOLDOVER with F held, CORRECTED 0x1000 (R563). -/
def State.sourceLost (s : State) : State :=
  (((s.setServo servoHoldover).setQuality 1).modTim (fun t => { t with good := 0, bad := 0 })).report 0x1000 corrected 0 []

/-- The frequency adjustment that the servo sets: the manual gives its range, ±200 ppm, and no law (R558; log 4). -/
def servoF (free : Nat) : Int := (free % 400000001 : Nat) - (200000000 : Int)

/-- A part of the offset that one measurement corrects, between none and all of it (log 4). -/
def servoPart (free : Nat) (off : Int) : Int := if off < 0 then -((free % (off.natAbs + 1) : Nat) : Int) else (free % (off.natAbs + 1) : Nat)

/-- The counter moved by `d`. -/
def Tim.step (t : Tim) (d : Int) : Tim := { t with counter := (t.counter + d).toNat }

/-- Counts a measurement toward lock (R563). -/
def Tim.count (t : Tim) (ok : Bool) : Tim := { t with good := if ok then t.good + 1 else 0 }

/-- Takes one offset measurement from the source in use (R563): before the first lock it disciplines the shadow counter; after
an earlier lock the counter itself, by a forward step beyond STEP_NS and by a slew otherwise; in LOCKED, four in a row
beyond 4 × LOCK_NS lose the source. -/
def State.measure (s : State) (off : Int) : State :=
  let lock : Int := (s.get Reg.TIM_SERVO_LOCK_NS : Int) * nsUnit
  let step : Int := (s.get Reg.TIM_SERVO_STEP_NS : Int) * 1000 * nsUnit
  let ok := decide (off ≤ lock ∧ -lock ≤ off)
  let s := s.set Reg.TIM_OFFSET 0 (unsignedOf 32 (off / nsUnit))
  let fr := s.free
  let s := if s.tim.oscillator then s.drawn else (s.drawn).set Reg.TIM_FREQ_ADJ 0 (unsignedOf 32 (servoF fr))
  if s.servo = servoAcquire then
    if !s.tim.lockedOnce then
      if !s.tim.shadowSet then
        s.modTim (fun t => { t with shadow := t.shadow + off, shadowSet := true, ppsDiscard := true, good := b2n ok })
      else s.modTim (fun t => ({ t with shadow := t.shadow + servoPart fr off }).count ok)
    else if step < off then
      let before := s.tim.counter
      let s := s.modTim (fun t => (t.step off).count false)
      (s.recordTime 2 s.quality s.quality before s.tim.counter).report 0x1002 corrected 0 []
    else s.modTim (fun t => ({ t with slewing := !ok }).count ok)
  else if s.servo = servoLocked then
    if 4 * lock < off ∨ off < -(4 * lock) then
      if 3 ≤ s.tim.bad then s.sourceLost else s.modTim (fun t => { t with bad := t.bad + 1 })
    else s.modTim (fun t => { t with bad := 0 })
  else s

/-- The better of two masters under the profile's algorithm: the lower ordering value, then the lower identity (R562). -/
def betterMaster (a b : Master) : Master :=
  if a.priority < b.priority ∨ (a.priority = b.priority ∧ a.ident < b.ident) then a else b

/-- The best of the masters whose Announce messages have arrived three times (Table 14-6 step 4; log 13). -/
def bestMaster (l : List Master) : Option Master :=
  match l.filter (fun m => 3 ≤ m.count) with
  | [] => none
  | m :: ms => some (ms.foldl betterMaster m)

/-- PTP is the source to use: it is preferred, or PPS is not in use (TIM_CTL.SRC_PRIO). -/
def State.usesPtp (s : State) : Bool :=
  !s.flag Reg.TIM_CTL_SRC_PRIO || !(s.get Reg.TIM_STATUS_SRC == 1 && s.servo != servoFree)

/-- R562, R563: a PTP message of the domain that TIM follows. Announce takes part in the master selection; Sync (one-step) and
Follow_Up (two-step) of the selected master give a measurement; Delay_Resp the path delay. -/
def execPtpMessage (m : PtpMsg) (s : State) : Host.Outcome State Fault Refusal :=
  .next (if s.clk.phase = .off ∨ !s.flag Reg.TIM_CTL_PTP_EN then s else
    match m with
    | .announce ident priority steps dom =>
      if dom ≠ s.tim.domain then s else
      let c := ((s.tim.masters.find? (fun x => x.ident == ident)).map Master.count).getD 0
      let x : Master := { ident := ident, priority := priority, count := c + 1, steps := steps }
      let s := s.modTim (fun t => { t with masters := x :: t.masters.filter (fun y => y.ident != ident) })
      let b := bestMaster s.tim.masters
      let s := s.modTim (fun t => { t with master := b })
      if b.isSome && s.usesPtp then s.sourceUp 0 else s
    | .sync ident dom off =>
      if dom = s.tim.domain ∧ (s.tim.master.map Master.ident) = some ident then
        let s := s.modTim (fun t => { t with secondsKnown := true })
        if s.usesPtp then s.measure off else s
      else s
    | .followUp ident dom off =>
      if dom = s.tim.domain ∧ (s.tim.master.map Master.ident) = some ident then
        let s := s.modTim (fun t => { t with secondsKnown := true })
        if s.usesPtp then s.measure off else s
      else s
    | .delayResp ident dom d =>
      if dom = s.tim.domain ∧ (s.tim.master.map Master.ident) = some ident then
        s.modTim (fun t => { t with pathDelay := d })
      else s)

/-- The offset of an edge that marks the start of a second, delayed by IN_NS, against the disciplined counter (R564). -/
def State.ppsOffset (s : State) : Int :=
  let sec : Int := 1000000000 * nsUnit
  let base : Int := (s.tim.counter : Int) + (if s.tim.lockedOnce then 0 else s.tim.shadow)
  let fr := (base - (s.get Reg.TIM_PPS_COMP_IN_NS : Int) * nsUnit) % sec
  if 2 * fr < sec then -fr else sec - fr

/-- R563, R564: a rising edge of PPS_IN. Without known seconds the servo stays in FREE; an edge while PTP steps the shadow is
discarded for that second (Table 14-9). -/
def execPpsInEdge (s : State) : Host.Outcome State Fault Refusal :=
  .next (if s.clk.phase = .off ∨ !s.flag Reg.TIM_CTL_PPS_IN_EN ∨ !s.tim.secondsKnown then s
    else if s.tim.ppsDiscard then s.modTim (fun t => { t with ppsDiscard := false })
    else
      let ptp := s.tim.master.isSome && s.flag Reg.TIM_CTL_PTP_EN
      if ptp && !s.flag Reg.TIM_CTL_SRC_PRIO then s
      else
        let s := if s.get Reg.TIM_STATUS_SRC = 1 ∨ s.servo = servoLocked then s else s.set Reg.TIM_STATUS_SRC 0 1
        let s := s.sourceUp 1
        let s := s.modTim (fun t => { t with shadowSet := true })
        if s.get Reg.TIM_STATUS_SRC = 1 then s.measure s.ppsOffset else s)

/-- R563, R567: 16 consecutive good measurements lock the servo. At the first lock in a boot the counter takes the shadow's
value in one step, and the anchor is signalled with the values before and after. -/
def execServoLock (s : State) : Host.Outcome State Fault Refusal :=
  .next (if s.servo = servoAcquire ∧ 16 ≤ s.tim.good then
      let before := s.tim.counter
      let q := if s.get Reg.TIM_STATUS_SRC = 1 then 3 else 2
      if s.tim.lockedOnce then (s.setServo servoLocked).setQuality q
      else
        let s := s.modTim (fun t => t.step t.shadow)
        let s := s.modTim (fun t => { t with lockedOnce := true, secondsKnown := true, shadow := 0, bad := 0, slewing := false })
        let s := (s.setServo servoLocked).set Reg.TIM_STATUS_QUALITY 0 q
        s.modTim (fun t => { t with anchor := some (1, before, t.counter) })
    else s)

/-- The loss concerns the source in use (R563). -/
def lossFits (cause : LossCause) (src : Nat) : Bool :=
  match cause with
  | .announceTimeout => src == 0
  | .syncTimeout => src == 0
  | .ppsMissing => src == 1
  | .offsets => true

/-- R563: the locked source is lost. -/
def execSourceLoss (cause : LossCause) (s : State) : Host.Outcome State Fault Refusal :=
  .next (if s.servo = servoLocked ∧ lossFits cause (s.get Reg.TIM_STATUS_SRC) then
      let s := if cause = .announceTimeout then s.modTim (fun t => { t with master := none, masters := [] }) else s
      s.sourceLost
    else s)

/-- R563: HOLDOVER_S without a source: FREE and UNSYNC; an ACQUIRE that still carried HOLDOVER loses it. -/
def execHoldoverExpiry (s : State) : Host.Outcome State Fault Refusal :=
  .next (if s.servo = servoHoldover then ((s.setServo servoFree).setQuality 0).report 0x1001 corrected 0 []
    else if s.servo = servoAcquire ∧ s.quality = 1 then (s.setQuality 0).report 0x1001 corrected 0 []
    else s)

/-- R565: a whole second of the counter while PPS_OUT is enabled and the time is traceable. -/
def execPpsOutSecond (s : State) : Host.Outcome State Fault Refusal :=
  .next (if s.flag Reg.TIM_CTL_PPS_OUT_EN && s.quality != 0 then s.emit .pps else s)

/-- TIME_INFO (0xCA00). -/
def specTimeInfo : CmdSpec :=
  { opcode := 0xCA00, priv := .observe, sub := 0x10, len := lenIs 0,
    run := fun _ _ s =>
      let m := match s.tim.master with
        | some m => leBytes 8 m.ident ++ leBytes 2 m.steps
        | none => List.replicate 10 0
      .done (s.now ++ leBytes 1 s.quality ++ leBytes 1 s.servo ++ [0, 0] ++ leBytes 4 (s.get Reg.TIM_OFFSET)
        ++ leBytes 4 (s.get Reg.TIM_FREQ_ADJ) ++ m) s }

/-- TIME_INFO: R586. -/
def execTimeInfo (h : Hdr) (p : Bytes) (s : State) : Host.Outcome State Fault Refusal := specTimeInfo.direct h p s

/-- TIME_CFG (0xCA01): the domain range is the profile's (Table 14-3). -/
def specTimeCfg : CmdSpec :=
  { opcode := 0xCA01, priv := .operate, sub := 0x10, len := lenIs 16,
    check := fun _ p _ => firstBad [need (p8 p 0 ≤ 1) 0,
      need (if p8 p 0 = 0 then p8 p 1 ≤ 127 else 24 ≤ p8 p 1 && p8 p 1 ≤ 43) 1],
    run := fun _ p s =>
      let s := s.setJ Reg.TIM_CTL_PROFILE 0 (p8 p 0)
      .done [] (s.modTim (fun t => { t with domain := p8 p 1, ipv4 := p32 p 4, mask := p32 p 8, gateway := p32 p 12 })) }

/-- TIME_CFG: R586. -/
def execTimeCfg (h : Hdr) (p : Bytes) (s : State) : Host.Outcome State Fault Refusal := specTimeCfg.direct h p s

/-- TIME_SET (0xCA02): only in FREE; the counter takes the time given, quality stays UNSYNC, TIME record of kind 4. -/
def specTimeSet : CmdSpec :=
  { opcode := 0xCA02, priv := .admin, sub := 0x10, len := lenIs 12,
    check := fun _ p _ => firstBad [need (fieldAt p 2 4 < 1000000000) 0],
    run := fun _ p s =>
      if s.servo ≠ servoFree then .fail stConflict
      else
        let before := s.tim.counter
        let s := s.modTim (fun t => { t with counter := timeOf p, secondsKnown := true })
        .done [] (s.recordTime 4 s.quality s.quality before s.tim.counter) }

/-- TIME_SET: R586. -/
def execTimeSet (h : Hdr) (p : Bytes) (s : State) : Host.Outcome State Fault Refusal := specTimeSet.direct h p s

end Sys2Proof.Machine
end

