-- ==== Sys2Proof/Machine/Start.lean ====
section
/-! DEFINITION. Starts, Standby, the restore from the binding journal, clocks and temperature, the test access port (R36, R37, R588 to
R615, R691 to R693, R702 to R708). -/

namespace Sys2Proof.Machine

/-- Changes the start chain. -/
def State.modClk (s : State) (f : Clk → Clk) : State := { s with clk := f s.clk }

/-! ## Ways into a start (R588, R589, R593, R597, R599, Tables 15-4 and 15-6) -/

/-- MOD_READY falls and LEAVING goes out on every ACTIVE bundle (R593, R406). -/
def State.leave (s : State) : State := s.sendLeaving.modClk (fun c => { c with modReady := false })

/-- Standby entry: journal in flash, slot channels and main rails off (Table 15-6). -/
def State.enterStandby (s : State) : State :=
  let s := s.leave
  ({ s with jnl := s.jnl.flushed }).mainOff.modClk (fun c => { c with startPend := none })

/-- A start begins at the boot ROM, step 2 of Table 15-2; while MRST_N is low the module waits in Standby (R589). -/
def State.beginBoot (s : State) : State :=
  s.modClk (fun c => { c with phase := if c.mrstLow then Phase.standby else Phase.boot })

/-- What a MODULE start does to FLT beside `Flt.afterModule`: module safe state ends (R508). -/
def State.moduleFlt (s : State) : State := { (s.setFlag Reg.FLT_STATUS_SAFE_MODULE 0 false) with flt := s.flt.afterModule }

/-- A MODULE start (R596): the root PLL locks again unless ROOT_PLL_NO_LOCK says otherwise (R702, log 98). -/
def State.moduleStart (s : State) (trigger source : Nat) : State :=
  let s := (((s.leave.mainOff).moduleFlt).startReset 2 trigger source false).beginBoot
  (s.modClk (fun c => { c with rootPll := true })).modTim (fun t => { t with oscillator := false })

/-- The reversible actions and safe states that a WARM start keeps act again on the ports and slices (R501, R508). -/
def State.reapplyHolds (s : State) : State :=
  let s := forEach s.quenchHolds (fun h s => match h with
    | .isolate p => s.modPort p (fun x => { x with disabledBy := addNew 1 x.disabledBy })
    | .holdTraffic p => s.withhold p .quench
    | _ => s) s
  let s := forEach s.flt.safePorts (fun p s => s.modPort p (fun x => { x with disabledBy := addNew 2 x.disabledBy })) s
  forEach (indicesOf 8 s.flt.safeSlices) (fun i s => s.setFlag Reg.DIR_SLICE_STATUS_FAILED i true) s

/-- A WARM start (R597): the journal goes to flash, the Crucible is written back, the main domain is held in reset with vault and slot
channels kept. From recovery the main domain was not up, and the kind of the interrupted start says what the vault holds. -/
def State.warmStart (s : State) (trigger : Nat) : State :=
  let kept : Bool := if s.mainUp then true else s.clk.warm
  let s := s.leave
  let s := { s with jnl := s.jnl.flushed }
  let s := forEach (s.vlt.crucible.map CruBuf.page) (fun n s => s.writeBack n) s
  ((s.mainReset kept).reapplyHolds.startReset 3 trigger 0 kept).beginBoot

/-- The last sample of a strap (R692). -/
def strapLast (b : BitVec 8) : Bool := b.getLsbD 7

/-- The samples of a strap agree. -/
def strapSteady (b : BitVec 8) : Bool := b == 0 || b == 0xFF

/-- Straps as rows of Table 18-7; MGT_ADDR[2:0] is one row. -/
def strapRows (b : ColdInputs) : List Bool :=
  [strapSteady b.twinId, strapSteady b.testEnN, strapSteady b.mgtAddr0 && strapSteady b.mgtAddr1 && strapSteady b.mgtAddr2,
   strapSteady b.ethMode]

/-- A register field of the standby domain that a COLD start keeps: PFE, and what Hallmark reads from fuses and flash (R711). -/
def keepsCold (k : Nat) : Bool :=
  keySub k == 0x01 || k == Reg.HLM_STATUS_SVN_MIN.key 0 || k == Reg.HLM_STATUS_REVOKED.key 0 || k == Reg.HLM_LEDGER_HEAD.key 0

/-- COLD_START: the standby domain comes up; straps are sampled, the time counter starts at 0, a trip latched before is reported (R559, R588,
R636, R691). -/
def execColdStart (b : ColdInputs) (s : State) : Host.Outcome State Fault Refusal :=
  .next (if s.clk.phase ≠ .off ∨ !s.pfe.standbyOn then s else
    let touch := s.flag Reg.FLT_STATUS_TOUCHSTONE
    let addr := b2n (strapLast b.mgtAddr0) + 2 * b2n (strapLast b.mgtAddr1) + 4 * b2n (strapLast b.mgtAddr2)
    let s := s.mainReset false
    let s := { s with regs := s.regs.filter (fun (r : Nat × Nat) => keepsCold r.1), spc := Spc.reset, flt := s.flt.afterCold
                      jtag := Jtag.reset, tim := { Tim.reset with ethMode := strapLast b.ethMode, mgtAddr := addr }
                      hlm := { s.hlm with due := [], pend := [], dropped := s.hlm.dropped, touchExit := s.hlm.touchExit || touch } }
    let s := s.startReset 1 0 0 false
    let s := (s.setFlag Reg.FLT_STATUS_TEST_EN 0 (!strapLast b.testEnN)).setFlag Reg.SEM_TWIN_STATUS_TWIN_B 0 (strapLast b.twinId)
    let s := forEach [0x01, 0x03, 0x0E, 0x0F, 0x10, 0x12] (fun i s => s.setFlag Reg.COMMON_READY i true) s
    let s := forEach ((strapRows b).zipIdx.filter (fun (x : Bool × Nat) => !x.1)) (fun (x : Bool × Nat) s =>
      s.report 0x1200 corrected 0 [byte x.2]) s
    let s := match s.pfe.pendReport with
      | some w => (s.report 0x0128 corrected 0 (leBytes 4 w.toNat)).modPfe (fun p => { p with pendReport := none })
      | none => s
    (s.modClk (fun c => { c with rootPll := true, thermN := false })).beginBoot)

/-- MRST_N_FALL: R589, R593, R599, Table 15-9. -/
def execMrstNFall (s : State) : Host.Outcome State Fault Refusal :=
  .next (let s := s.modClk (fun c => { c with mrstLow := true })
    if s.clk.phase = .off then s else s.enterStandby)

/-- MRST_N_RISE: a MODULE start is due. A pulse shorter than 100 ns is ignored; between 100 ns and 1 µs the manual leaves it open (R589,
R601). -/
def execMrstNRise (lowNs : Nat) (s : State) : Host.Outcome State Fault Refusal :=
  let between : Bool := !s.clk.mrstLow && decide (100 ≤ lowNs ∧ lowNs < 1000)
  let taken : Bool := s.clk.mrstLow || decide (1000 ≤ lowNs) || (between && s.free % 2 == 1)
  let t := if between then s.drawn else s
  .next (if !taken then t
    else if t.clk.phase = .off then t.modClk (fun c => { c with mrstLow := false })
    else ((if t.clk.mrstLow then t else t.enterStandby).modClk (fun c => { c with mrstLow := false })).askStart 2 1 0)

/-- MODULE_START: the MODULE start that has been asked for begins (R596, Table 15-1). Commanded Standby and a low MRST_N end only with the
rising edge (R589, R601). -/
def execModuleStart (trigger : BitVec 8) (source : BitVec 16) (s : State) : Host.Outcome State Fault Refusal :=
  .next (if s.clk.phase ≠ .off ∧ s.clk.startPend = some { kind := 2, trigger := trigger.toNat, source := source.toNat } ∧
      (trigger = 1 ∨ !(s.clk.commanded || s.clk.mrstLow)) then
      s.moduleStart trigger.toNat source.toNat
    else s)

/-- WARM_START: the WARM start that has been asked for begins; a safe state or a Standby entered since has ended it (R597, R607). -/
def execWarmStart (trigger : BitVec 8) (s : State) : Host.Outcome State Fault Refusal :=
  .next (if s.clk.startPend = some { kind := 3, trigger := trigger.toNat, source := 0 } then
      (if !s.flag Reg.FLT_STATUS_SAFE_MODULE && (s.mainUp || s.clk.phase == .recovery) then s.warmStart trigger.toNat
       else s.modClk (fun c => { c with startPend := none }))
    else s)

/-! ## Commands of Table 15-11 -/

/-- MODULE_WARM_RESET (0xC010). -/
def specModuleWarmReset : CmdSpec :=
  { opcode := 0xC010, priv := .admin, sub := 0x0D, len := lenIs 0,
    run := fun _ _ s =>
      if s.flag Reg.FLT_STATUS_SAFE_MODULE ∨ s.clk.phase ≠ .ready ∨ s.clk.startPend.isSome then .fail stConflict
      else .done [] (s.askStart 3 5 0) }

/-- MODULE_WARM_RESET: R607, R614. -/
def execModuleWarmReset (h : Hdr) (p : Bytes) (s : State) : Host.Outcome State Fault Refusal := specModuleWarmReset.direct h p s

/-- MODULE_STANDBY (0xC011): the answer goes out before step 2 of Table 15-6. -/
def specModuleStandby : CmdSpec :=
  { opcode := 0xC011, priv := .admin, sub := 0x0D, len := lenIs 0,
    run := fun _ _ s =>
      if s.clk.startPend.isSome then .fail stConflict
      else .done [] (s.modClk (fun c => { c with commanded := true })) }

/-- Standby that has been commanded begins once its command is answered. -/
def State.standbyNow (s : State) : State := if s.clk.commanded && s.mainUp then s.enterStandby else s

/-- MODULE_STANDBY: R599, R614. -/
def execModuleStandby (h : Hdr) (p : Bytes) (s : State) : Host.Outcome State Fault Refusal :=
  .next (stateAfter (specModuleStandby.direct h p s) s).standbyNow

/-- JOURNAL_FLUSH (0xC012). -/
def specJournalFlush : CmdSpec :=
  { opcode := 0xC012, priv := .operate, sub := 0x0D, len := lenIs 0,
    run := fun _ _ s => .done [] { s with jnl := s.jnl.flushed } }

/-- JOURNAL_FLUSH: R611. -/
def execJournalFlush (h : Hdr) (p : Bytes) (s : State) : Host.Outcome State Fault Refusal := specJournalFlush.direct h p s

/-- JOURNAL_CLEAR (0xC013). -/
def specJournalClear : CmdSpec :=
  { opcode := 0xC013, priv := .admin, sub := 0x0D, len := lenIs 1, locks := fun _ _ => true,
    run := fun _ p s =>
      if !s.validExtents.isEmpty ∨ s.flag Reg.SEM_TWIN_STATUS_ENABLED then .fail stConflict
      else
        let on := bitOf (p8 p 0) 0
        .done [] ((s.setFlag Reg.CLK_JOURNAL_CLEAR_PEND 0 on).journal (.clear on)) }

/-- JOURNAL_CLEAR: R611. -/
def execJournalClear (h : Hdr) (p : Bytes) (s : State) : Host.Outcome State Fault Refusal := specJournalClear.direct h p s

/-- JOURNAL_BUFFER_FLUSH: R108. -/
def execJournalBufferFlush (s : State) : Host.Outcome State Fault Refusal :=
  .next (if s.clk.phase = .off then s else { s with jnl := s.jnl.flushed })

/-- A later record makes this one superfluous. -/
def JRec.superseded (r : JRec) (later : List JRec) : Bool :=
  match r with
  | .field k _ => later.any (fun x => match x with | .field k' _ => k' == k | _ => false)
  | .bayWidth b _ => later.any (fun x => match x with | .bayWidth b' _ => b' == b | _ => false)
  | .serial p _ => later.any (fun x => match x with | .serial p' _ => p' == p | _ => false)
  | .vppb u v _ => later.any (fun x => match x with | .vppb u' v' _ => u' == u && v' == v | _ => false)
  | .ldCreate l => later.any (fun x => match x with | .ldDestroy l' => l' == l | _ => false)
  | .ldDestroy l => later.any (fun x => match x with | .ldCreate l' => l' == l | _ => false)
  | .table t w => later.any (fun x => match x with
      | .table t' w' => t' == t && w.all (fun a => w'.any (fun b => b.1 == a.1 && b.2.length == a.2.length))
      | _ => false)
  | .group g _ _ => later.any (fun x => match x with | .group g' _ _ => g' == g | _ => false)
  | .run f n _ => later.any (fun x => match x with | .run f' n' _ => f' ≤ f && f + n ≤ f' + n' | _ => false)
  | .reloc i _ _ _ => later.any (fun x => match x with | .relocEnd i' => i' == i | _ => false)
  | .relocEnd _ => true
  | .allot u _ => later.any (fun x => match x with | .allot u' _ => u' == u | _ => false)
  | .mcAllot u _ => later.any (fun x => match x with | .mcAllot u' _ => u' == u | _ => false)
  | .twin _ _ _ => later.any (fun x => match x with | .twin _ _ _ => true | _ => false)
  | .twinGroup g _ => later.any (fun x => match x with | .twinGroup g' _ => g' == g | _ => false)
  | .lock _ => later.any (fun x => match x with | .lock _ => true | _ => false)
  | .mgmtRoot i _ => later.any (fun x => match x with | .mgmtRoot i' _ => i' == i | _ => false)
  | .devRoot i _ => later.any (fun x => match x with | .devRoot i' _ => i' == i | _ => false)
  | .archived _ => later.any (fun x => match x with | .archived _ => true | _ => false)
  | .pcFail _ => later.any (fun x => match x with | .pcFail _ => true | _ => false)
  | .clear _ => later.any (fun x => match x with | .clear _ => true | _ => false)
  | .retire _ _ _ | .sramRow _ _ | .sramBank _ _ => false

/-- The records that a compaction keeps. -/
def compacted : List JRec → List JRec
  | [] => []
  | r :: rs => if r.superseded rs then compacted rs else r :: compacted rs

/-- JOURNAL_COMPACTION: R107. -/
def execJournalCompaction (s : State) : Host.Outcome State Fault Refusal :=
  .next (if s.jnl.high && s.jnl.bad.isNone && s.clk.phase ≠ .off then
      { s with jnl := { s.jnl with flash := compacted (s.jnl.flash ++ s.jnl.buf), buf := [] } }
    else s)

/-! ## Restore (R109, R272, R439, R442, R446, R449, R592, R608 to R610) -/

/-- Applies the journal's run: its extents' entries, PAGE rising by one, epoch field 0 (R83, R106). -/
def State.restoreRun (s : State) (first count entry : Nat) : State :=
  let one := fun (k : Nat) (m : SMap Nat) =>
    SMap.store m (first + k) (if entry = 0 then 0 else putBits (putBits entry 24 24 (entPage entry + k)) 48 16 0) 0
  { s with pol := { s.pol with map := forEach (List.range count) one s.pol.map } }

/-- Applies one record (R608); settings and roots are taken by `Journal.fields` and `State.journalLock`. -/
def State.restoreOne (s : State) (r : JRec) : State :=
  match r with
  | .bayWidth b w => s.set Reg.LNC_BAY_CFG_WIDTH b w
  | .serial p sn => s.setPoolDev p { serial := sn % 2 ^ 64, pages := sn / 2 ^ 64, known := true, acrakFail := false }
  | .vppb u v none => { s with prt := { s.prt with binds := SMap.del s.prt.binds (32 * u + v) } }
  | .vppb u v (some b) =>
    let x : Bind := { port := b.1, ldId := if b.2 = 0 then none else some (b.2 - 1) }
    { s with prt := { s.prt with binds := SMap.put s.prt.binds (32 * u + v) x } }
  | .ldCreate l => s.modPol (fun p => { p with lds := addNew l p.lds })
  | .ldDestroy l => s.modPol (fun p => { p with lds := p.lds.filter (· ≠ l) })
  | .table t ws => forEach ws (fun w s => s.writeBoth t w.1 w.2) s
  | .group g tag _ => s.modPol (fun p => { p with groupTags := SMap.put p.groupTags g tag })
  | .run f n e => s.restoreRun f n e
  | .allot u vs => s.modMov (fun m => { m with allot := SMap.store m.allot u vs [] })
  | .mcAllot u m => { s with prt := { s.prt with mcAllot := SMap.store s.prt.mcAllot u m 0 } }
  | .twin e _ p =>
    ((s.setFlag Reg.SEM_TWIN_STATUS_ENABLED 0 e).setFlag Reg.SEM_TWIN_STATUS_SUSPENDED 0 e).modSem (fun m => { m with partner := p })
  | .twinGroup g on => s.set Reg.SEM_TWIN_GRP (g / 32) (putBit (s.get Reg.SEM_TWIN_GRP (g / 32)) (g % 32) on)
  | .sramRow b row =>
    (s.modBank b (fun x => { x with sparedRows := addNew row x.sparedRows })).bump Reg.VLT_SRAM_STATUS_ROWS_USED 0
  | .sramBank b n =>
    (s.modBank b (fun x => { x with sparedRows := [], replaced := n })).set Reg.VLT_SRAM_STATUS_SPARE_BANKS_FREE 0
      (s.get Reg.VLT_SRAM_STATUS_SPARE_BANKS_FREE - 1)
  | _ => s

/-- The open relocations of the journal: slot, replaced copy of a mirrored source, and whether the copy record is present (R109). -/
def openRelocs (rs : List JRec) : List (Nat × Nat × Option (Nat × Nat) × Bool) :=
  rs.foldl (fun (l : List (Nat × Nat × Option (Nat × Nat) × Bool)) r => match r with
    | .reloc i x _ c => l ++ [(i, x, c, false)]
    | .relocEnd i => l.filter (fun y => y.1 != i)
    | .run f n _ => l.map (fun y => if f ≤ y.2.1 ∧ y.2.1 < f + n then (y.1, y.2.1, y.2.2.1, true) else y)
    | _ => l) []

/-- Resolves the open relocations: the map holds the destination where its record is present, else the source; a mirrored source's replaced
copy is fenced (R75, R100, R109). -/
def State.closeRelocs (s : State) (rs : List JRec) : State :=
  forEach (openRelocs rs) (fun y s =>
    let s := match y.2.2.1 with
      | some c => if y.2.2.2 then s else s.fence c.1 c.2
      | none => s
    s.journal (.relocEnd y.1)) s

/-- What the check of the journal found (R609): CLK_JOURNAL.RESTORE, and the event. -/
def State.restoreResult (s : State) : State :=
  let j := s.jnl
  match j.bad with
  | none => s.set Reg.CLK_JOURNAL_RESTORE 0 (if j.flash.isEmpty && j.buf.isEmpty then 1 else 0)
  | some i =>
    if i + 1 = j.flash.length ∧ j.buf.isEmpty then (s.set Reg.CLK_JOURNAL_RESTORE 0 2).report 0x0D20 corrected 0 []
    else (s.set Reg.CLK_JOURNAL_RESTORE 0 3).report 0x0D21 contained 0 []

/-- The journal without the records that the restore discards. -/
def Journal.trimmed (j : Journal) : Journal :=
  match j.bad with
  | none => j
  | some i => { flash := j.flash.take i, buf := [], bad := none }

/-- Pseudo-channels at a start (R442, R449): those journaled as failed stay so, but a COLD start tests them again; at COLD and MODULE starts
those that fail their test fail now. -/
def State.startChannels (s : State) (rs : List JRec) (t : StartTests) : State :=
  let cold := s.get Reg.CLK_RST_CAUSE_KIND == 1
  let old := (rs.reverse.findSome? (fun r => match r with | .pcFail m => some m | _ => none)).getD 0
  let now := if cold then maskOf ((indicesOf 32 old).filter (fun i => !t.channels.getLsbD i)) else old
  let s := s.set Reg.VLT_PC_FAILED 0 now
  let s := if now = old then s else s.journal (.pcFail now)
  if s.clk.warm then s
  else forEach ((List.range 32).filter (fun i => !t.channels.getLsbD i)) (fun i s => s.failPc i) s

/-- The remap table from the retirement records; at a start that leaves every page unformed no contents are lost (R439, R449). -/
def State.startRemap (s : State) (rs : List JRec) : State :=
  let add : JRec → List (Nat × Nat × Bool) → List (Nat × Nat × Bool) := fun r m => match r with
    | .retire n p _ => (n, p, false) :: m
    | _ => m
  let s := if s.clk.warm then s else s.modVlt (fun v => { v with remaps := forEach rs add v.remaps })
  s.showReserve

/-- Planes, PLLs, code strengths and Seam bundles at a start (R272, R372, R374, R449, R592). A WARM start keeps the plane map while its
planes pass, and the planes retired before (Table 15-5, log 98). -/
def State.startUnits (s : State) (t : StartTests) : State :=
  let s := forEach ((List.range 5).filter (fun p => !t.planes.getLsbD p)) (fun p s => s.failPlane p) s
  let good := (List.range 5).filter (fun p => !s.planeFailed p)
  let kept := s.clk.warm && (List.range 4).all (fun j => (s.planeSlot j).any (fun p => !s.planeFailed p))
  let s := if kept then s else s.writeBoth 0x0700 0 ((List.range 4).map (fun j => (good[j]?).elim 0 (fun p => byte (0x80 + p))))
  let s := forEach (List.range 16) (fun b s =>
    let s := s.setFlag Reg.LNC_BAY_CFG_PLL_LOCK b (t.plls.getLsbD b)
    if t.plls.getLsbD b then s else s.report (0x04C0 + b) contained 0 [byte b]) s
  let s := if s.clk.warm then s else
    s.modVlt (fun v => { v with strengths := (List.range 12).map (fun i => s.get Reg.VLT_REGION_CFG_STRENGTH i) })
  forEach (List.range 4) (fun b s => s.retrainBundle b) s

/-- COLD and MODULE: POISONED on every VALID shared extent, each counted in one event (R109, R175). -/
def State.poisonShared (s : State) : State :=
  let xs := s.validExtents.filter (fun x => entShared x.2)
  let s := s.modPol (fun p => { p with map := SMap.modAll (fun e => if entValid e && entShared e then putBit e 4 true else e) p.map })
  let s := s.journals (xs.map (fun x => JRec.run x.1 1 (putBits (putBit x.2 4 true) 48 16 0)))
  (forEach xs (fun x s => s.reportOpen 0x0908 contained 0 (leBytes 4 x.1)) s).closeOpen [0x0908]

/-- An entry's line lies in a VALID shared extent and the entry is E, or was before a transaction began on it (R130, R175). -/
def State.walkPoisons (s : State) (k : Nat) (e : DirEntry) : Bool :=
  let x := s.entry (extentOf (lineOf (k / 16) e.tag))
  let st := match e.state with
    | .i | .s | .e => e.state
    | _ => e.stable
  decide (st = .e) && entValid x && entShared x

/-- WARM: the walk of R175. -/
def State.warmWalk (s : State) : State :=
  let es := s.dir.entries.filter (fun (x : Nat × DirEntry) => s.walkPoisons x.1 x.2)
  let lost := fun (x : Nat × DirEntry) => (x.1, ({ DirEntry.dflt with tag := x.2.tag, poisoned := true } : DirEntry))
  let s := { s with dir := { s.dir with entries := es.map lost } }
  (forEach es (fun x s => s.reportOpen 0x0908 contained 0 (leBytes 6 (lineOf (x.1 / 16) x.2.tag))) s).closeOpen [0x0908]

/-- Committed reads 1 in every restored decoder (R57, R608). -/
def State.startDecoders (s : State) : State :=
  let us := (s.tbl.tables.filter (fun (t : Nat × TableSt) => 0x0A00 ≤ t.1 && t.1 < 0x0A40)).map (fun (t : Nat × TableSt) => t.1 - 0x0A00)
  let ks := (us.map (fun u => ((List.range 64).filter (fun i => (s.decoderAt u i s.tbl.epoch).valid)).map (fun i => 64 * u + i))).flatten
  { s with prt := { s.prt with hdm := forEach ks (fun k m => SMap.put m k (true, false)) s.prt.hdm } }

/-- The START record, with the chain value at zero, and the first checkpoint (R573, R575, R592). -/
def State.startRecord (s : State) : State :=
  let s := { s with trec := { s.trec with chain := zeroHash } }
  let s := s.record 0x01 0 (leBytes 1 (s.get Reg.CLK_RST_CAUSE_KIND) ++ [0, 0, 0] ++ s.hlm.assays.getD 2 zeroHash
    ++ s.hlm.assays.getD 3 zeroHash ++ leBytes 2 s.tbl.epoch)
  s.checkpoint.modClk (fun c => { c with startRecord := true, checkpointed := true })

/-- The journal's part of the restore (R608, R609). -/
def State.restoreJournal (s : State) (t : StartTests) : State :=
  let rs := s.jnl.good
  let s := { s with regs := s.jnl.fields s.regs }
  let s := s.restoreResult
  let s := { s with jnl := s.jnl.trimmed }
  let s := (s.startChannels rs t).startRemap rs
  let s := forEach rs (fun r s => s.restoreOne r) s
  (s.closeRelocs rs).showPrimary

/-- JOURNAL_RESTORE: steps 5 to 12 of Table 15-2, 7 to 10 of Table 15-4. -/
def execJournalRestore (t : StartTests) (s : State) : Host.Outcome State Fault Refusal :=
  .next (if s.clk.phase ≠ .released then s else
    let s := (s.restoreJournal t).startUnits t
    let s := if s.clk.warm then s.warmWalk else s.poisonShared
    let s := s.startDecoders.modPol (fun p => { p with startHold := s.flag Reg.POL_CTL_START_HOLD_EN })
    let s := (s.setFlag Reg.VLT_STATUS_READY 0 true).startRecord
    let s := forEach ((List.range' 1 18).filter (fun i => i != 7 || s.healthyPlanes != 0)) (fun i s => s.setFlag Reg.COMMON_READY i true) s
    s.modClk (fun c => { c with phase := .restored }))

/-- Everything that R592 names holds. -/
def State.canBeReady (s : State) : Bool :=
  s.clk.bootWritten && s.clk.lockApplied && s.clk.startRecord && s.clk.checkpointed
    && (List.range' 1 18).all (fun i => s.flag Reg.COMMON_READY i) && !s.flag Reg.FLT_STATUS_SAFE_MODULE && s.clk.startPend.isNone

/-- MOD_READY_ASSERT: R592; the ports and slots that wait for it start (R337, R373, R670). -/
def execModReadyAssert (s : State) : Host.Outcome State Fault Refusal :=
  .next (if s.clk.phase ≠ .restored ∨ !s.canBeReady then s else
    let s := s.modClk (fun c => { c with phase := .ready, modReady := true })
    let s := s.set Reg.CLK_START_TIME_READY_MS 0 (min 65534 ((s.tick - s.clk.startTick) / 800000))
    forEach s.presentPorts (fun p s => s.train p) s.slotsReady)

/-! ## Clocks and temperature (R36, R37, R702 to R706) -/

/-- Loss of REFCLK or of root PLL lock: FATAL 0x0300; the counter runs from the standby oscillator with F held, and
the servo starts anew (R37, R561). -/
def execRootPllFail (s : State) : Host.Outcome State Fault Refusal :=
  .next (if s.clk.phase = .off ∨ !s.clk.rootPll then s else
    let s := (s.modClk (fun c => { c with rootPll := false })).report 0x0300 fatal 0 []
    (((s.setServo servoFree).modTim (fun t => { t with oscillator := true })).setQuality 0).report 0x1003 corrected 0 [])

/-- ROOT_PLL_NO_LOCK: R702. -/
def execRootPllNoLock (s : State) : Host.Outcome State Fault Refusal :=
  .next (match s.clk.phase with
    | .boot | .keyed | .ledgerHold | .recovery => (s.modClk (fun c => { c with rootPll := false })).report 0x0300 fatal 0 []
    | _ => s)

/-- THERMAL_WARNING: a sample of the lid at 88 °C asserts THERM_N, one at 85 °C releases it (R704, R705, Table 19-8). -/
def execThermalWarning (lid : Int) (s : State) : Host.Outcome State Fault Refusal :=
  .next (if s.clk.phase = .off then s else
    let s := s.set Reg.CLK_THERM_LID_C 0 (unsignedOf 8 lid)
    if 88 ≤ lid ∧ !s.clk.thermN then
      ((s.modClk (fun c => { c with thermN := true })).setFlag Reg.CLK_THERM_WARN 0 true).report 0x0301 corrected 0 []
    else if lid ≤ 85 ∧ s.clk.thermN then (s.modClk (fun c => { c with thermN := false })).setFlag Reg.CLK_THERM_WARN 0 false
    else s)

/-- THERMAL_TRIP: a sample of junction sensor 0–31, or of the lid (32), at its trip level (R706, Table 19-8). -/
def execThermalTrip (sensor : Fin 33) (celsius : Int) (s : State) : Host.Outcome State Fault Refusal :=
  .next (if s.clk.phase = .off then s else
    let isLid : Bool := sensor.val == 32
    let s := if isLid then s.set Reg.CLK_THERM_LID_C 0 (unsignedOf 8 celsius) else s.set Reg.CLK_THERM_JUNC_C 0 (unsignedOf 8 celsius)
    if (if isLid then 98 else 120) ≤ celsius then
      (s.modClk (fun c => { c with gated := true })).report 0x0302 fatal 0 [byte sensor.val]
    else s)

/-! ## Test access port (R693) -/

/-- IDCODE (R693). -/
def jtagIdcode : Nat := 0x29640D9B

/-- JTAG_TAP_OPERATION: what TDO shifts out, and what drives the lands. Captured land levels are free (log 4). The board-test instructions act as BYPASS unless TEST_EN_N was
sampled low (R693). -/
def execJtagTapOperation (op : JtagOp) (s : State) : Host.Outcome State Fault Refusal :=
  let test := s.flag Reg.FLT_STATUS_TEST_EN
  let drive : Bool → Bool → State := fun d z => { s with jtag := { s.jtag with driving := d, highz := z } }
  let bypass := (drive false false).emit (.jtag [])
  let lands := fun (n : Nat) => (List.range n).map (fun i => Config.freeByte (s.fresh + i))
  let sampled := fun (t : State) (n : Nat) => { t with fresh := t.fresh + n }.emit (.jtag (lands n))
  .next (if s.clk.phase = .off then s else
    match op with
    | .bypass => bypass
    | .idcode => (drive false false).emit (.jtag (leBytes 4 jtagIdcode))
    | .samplePreload cells =>
      sampled { s with jtag := { boundary := cells, driving := false, highz := false } } cells.length
    | .extest | .extestPulse | .extestTrain => if test then sampled (drive true false) s.jtag.boundary.length else bypass
    | .clamp => if test then (drive true false).emit (.jtag []) else bypass
    | .highz => if test then (drive false true).emit (.jtag []) else bypass
    | .reset => drive false false)

end Sys2Proof.Machine
end

