-- ==== Sys2Proof/Machine/Interface.lean ====
section
/-! DEFINITION. The command processor at work: identity and status commands, the order in which Acrak takes queued commands, the end
of background commands (R467 to R474, R480, R485). -/

namespace Sys2Proof.Machine

/-! ## Commands of Table 11-7 -/

/-- Stepping B0 (R2). -/
def stepping : Byte := 0x20

/-- MODULE_IDENTIFY (0xC000). -/
def specModuleIdentify : CmdSpec :=
  { opcode := 0xC000, priv := .observe, sub := 0x0D, len := lenIs 0,
    run := fun _ _ s =>
      let slot := s.get Reg.HLM_STATUS_SLOT
      let ver := fun (i : Nat) => leBytes 4 (s.slotAt? i).imageVer
      .done (leBytes 2 vendorId ++ leBytes 2 0xC960 ++ [stepping,
          byte (s.get Reg.SEM_TWIN_STATUS_TWIN_B + 2 * s.get Reg.SEM_TWIN_STATUS_ENABLED), 0, 0]
        ++ leBytes 8 Config.deviceSerial.toNat ++ ver slot ++ [byte slot, 0, 0, 0] ++ ver 0 ++ ver 1
        ++ leBytes 4 (s.get Reg.HLM_BOOT_COUNTER) ++ [0, 0, 0, 0] ++ [0x43, 0x5A, 0x39, 0x36, 0x34, 0x30, 0, 0]) s }

/-- MODULE_IDENTIFY: R480. -/
def execModuleIdentify (h : Hdr) (p : Bytes) (s : State) : Host.Outcome State Fault Refusal := specModuleIdentify.direct h p s

/-- MODULE_STATUS (0xC001). -/
def specModuleStatus : CmdSpec :=
  { opcode := 0xC001, priv := .observe, sub := 0x0D, len := lenIs 0,
    run := fun h _ s =>
      .done ([byte (b2n s.clk.modReady + 2 * s.get Reg.HLM_STATUS_LOCKED + 4 * s.get Reg.FLT_STATUS_TOUCHSTONE), byte (privCode (s.privOf h))]
        ++ leBytes 2 s.tbl.epoch ++ s.statusWords) s }

/-- MODULE_STATUS: R480. -/
def execModuleStatus (h : Hdr) (p : Bytes) (s : State) : Host.Outcome State Fault Refusal := specModuleStatus.direct h p s

/-- OPCODE and status of a requester's background command by TAG and CONTEXT: running ones first, then kept outcomes, newest first
(R474). -/
def State.outcomeOf (s : State) (r : Requester) (tag context : Nat) : Option (Nat × Nat) :=
  match s.cmd.bg.find? (fun b => b.req == r && b.tag == tag && b.context == context) with
  | some b => some (b.opcode, stStarted)
  | none => (s.cmd.kept.find? (fun k => k.req == r && k.tag == tag && k.context == context)).map (fun k => (k.opcode, k.status))

/-- CMD_STATUS (0xC002). -/
def specCmdStatus : CmdSpec :=
  { opcode := 0xC002, priv := .observe, sub := 0x0D, len := lenIs 6,
    check := fun h p s => firstBad [need (s.outcomeOf h.req (p32 p 0) (p16 p 4)).isSome 0],
    run := fun h p s =>
      match s.outcomeOf h.req (p32 p 0) (p16 p 4) with
      | some x => .done (leBytes 2 x.1 ++ leBytes 2 x.2) s
      | none => .bad 0 }

/-- CMD_STATUS: R474, R480. -/
def execCmdStatus (h : Hdr) (p : Bytes) (s : State) : Host.Outcome State Fault Refusal := specCmdStatus.direct h p s

/-- A queued request that CMD_CANCEL names. -/
def Queued.named (q : Queued) (r : Requester) (tag context : Nat) : Bool :=
  q.req == r && pktTag q.pkt == tag && pktContext q.pkt == context

/-- CMD_CANCEL (0xC003): a cancelled chain answers CONFLICT whole (R471, R485). -/
def specCmdCancel : CmdSpec :=
  { opcode := 0xC003, priv := .observe, sub := 0x0D, len := lenIs 6,
    run := fun h p s =>
      let hit := fun (q : Queued) => q.named h.req (p32 p 0) (p16 p 4)
      match s.cmd.jobs.find? (fun j => j.cmds.any hit) with
      | some j =>
        let s := s.modCmd (fun c => { c with jobs := delFirst (fun x => decide (x = j)) c.jobs })
        .done [] (forEach j.cmds (fun q s => s.answerQueued q stConflict) s)
      | none =>
        match s.cmd.chains.find? (fun x => x.cmds.any hit) with
        | some x => .done [] (s.discardChain x.req x.context)
        | none => .fail stConflict }

/-- CMD_CANCEL: R480, R485. -/
def execCmdCancel (h : Hdr) (p : Bytes) (s : State) : Host.Outcome State Fault Refusal := specCmdCancel.direct h p s

/-! ## The opcode map (R479) -/

/-- Module, power, slots, ports, lanes and Seam. -/
def specs1 : List CmdSpec :=
  [specModuleIdentify, specModuleStatus, specCmdStatus, specCmdCancel, specPartnerRelay, specModuleWarmReset, specModuleStandby,
   specJournalFlush, specJournalClear, specPfeInfo, specPfeSwitch, specPfeHoldupTest, specSlotInfo, specSlotPower, specSlotBind,
   specSlotIndicator, specPortInfo, specPortRoleSet, specPortMgmtSet, specMcGroupAllot, specPortStats, specLaneInfo, specBayWidthSet,
   specLinkCtl, specLaneMargin, specLaneTest, specSeamInfo, specSeamBundleCtl, specTwinEnable, specTwinDisable, specTwinGroupSet]

/-- Fabric, scheduling, pool, directory, Mover and vault. -/
def specs2 : List CmdSpec :=
  [specXbrInfo, specXbrMcPolicySet, specXbrPlaneRetire, specXbrStats, specSchInfo, specSchTelemRead, specSchTelemExport,
   specSchTelemClear, specSchHoldRead, specPoolInfo, specDspPersonalitySet, specPoolViewSet, specLdCreate, specLdDestroy,
   specExtentGrant, specExtentRelease, specExtentRead, specShareGroupSet, specRelocateStart, specRelocateAbort, specRelocateStatus,
   specMirrorResync, specDirInfo, specDirLineRead, specDirSetRead, specDirRangeFlush, specDirPoisonClear, specDirStats, specMovInfo,
   specMovAllotSet, specMovHostWeightSet, specMovFnRead, specMovFnReset, specMovStats, specVaultInfo, specVaultPageRead,
   specVaultStrengthSet, specVaultAnnealCtl, specVaultRetire, specVaultRetiredRead, specVaultStats]

/-- Faults, Hallmark, time, Transcript, access and commits, Touchstone. -/
def specs3 : List CmdSpec :=
  [specFaultInfo, specFaultHistRead, specFaultAck, specFaultCountRead, specFaultSubscribe, specQuenchRead, specQuenchAck,
   specQuenchRelease, specFaultDumpRead, specFaultDumpRelease, specSafeReset, specTouchstoneEnter, specFaultInject, specHlmInfo,
   specLedgerRead, specLedgerArchiveAck, specIdentityCertRead, specFwUpdateStart, specFwUpdateWrite, specFwUpdateVerify,
   specFwActivate, specFwCommit, specConfigLock, specConfigUnlock, specRootSet, specIdeStatus, specTimeInfo, specTimeCfg, specTimeSet,
   specTranscriptInfo, specTranscriptRead, specTranscriptExport, specTranscriptFreeze, specTranscriptCheckpoint, specReplayStart,
   specReplayStatus, specReplayAbort, specRegRead, specRegWrite, specTableRead, specTableWrite, specCommit, specEpochRead]

/-- The command of an opcode. -/
def specOf (opcode : Nat) : Option CmdSpec := (specs1 ++ specs2 ++ specs3 ++ fmSpecs).find? (fun c => c.opcode == opcode)

/-! ## Taking queued commands (R468, R470) -/

/-- The place of a requester in the rotation (R468: the order is the model's). -/
def rotKey (r : Requester) : Nat :=
  r.source + 0x10000 * (match r.transport with
    | .i3c => 0
    | .smbus => 1
    | .vdm u => 2 + u.val
    | .mailbox => 66
    | .partner _ => 67)

/-- The requester of a job. -/
def Job.key (j : Job) : Nat := (j.cmds.head?.map (fun q => rotKey q.req)).getD 0

/-- The oldest job of the requester whose turn it is after `last`. -/
def turnJob (jobs : List Job) (last : Option Nat) : Option Job :=
  let least := fun (ks : List Nat) => ks.foldl (fun (a : Option Nat) k =>
    match a with
    | none => some k
    | some b => some (min b k)) none
  let ks := jobs.map Job.key
  let after := match last with
    | none => []
    | some l => ks.filter (fun k => l < k)
  (least (if after.isEmpty then ks else after)).bind (fun k => jobs.find? (fun j => j.key == k))

/-- The job that Acrak takes next: an urgent one before every other (R468). -/
def Cmd.nextJob (c : Cmd) : Option Job :=
  let urgent := c.jobs.filter Job.urgent
  turnJob (if urgent.isEmpty then c.jobs else urgent) (c.lastReq.map rotKey)

/-- Executes the commands of a unit in order; an error answers CONFLICT to the rest, a command that waits keeps the rest (R470). -/
def runCmds : List Queued → State → State
  | [], s => s
  | q :: qs, s =>
    match specOf (pktOpcode q.pkt) with
    | none => runCmds qs (s.answerQueued q stBadOpcode)
    | some c =>
      let r := c.exec (hdrOf q.req q.session q.pkt) (pktParams q.pkt) q.seq s
      let t := r.1.standbyNow
      if s.tbl.waits.length < r.1.tbl.waits.length then
        { t with tbl := { t.tbl with waits := t.tbl.waits.modify (t.tbl.waits.length - 1) (fun w => { w with rest := qs }) } }
      else if r.2 = stSuccess ∨ r.2 = stStarted then runCmds qs t
      else forEach qs (fun x s => s.answerQueued x stConflict) t

/-- Acrak is free to begin a command: none is executing, no failover runs (R468, R478). -/
def State.acrakFree (s : State) : Bool :=
  decide (s.clk.phase ≠ .off) && s.tbl.waits.isEmpty && s.cmd.failover.isNone

/-- Acrak takes the next unit that is queued. -/
def State.takeJob (s : State) : State :=
  if !s.acrakFree then s
  else match s.cmd.nextJob with
    | none => s
    | some j =>
      let last := (j.cmds.head?.map Queued.req)
      runCmds j.cmds (s.modCmd (fun c => { c with jobs := delFirst (fun x => decide (x = j)) c.jobs, lastReq := last }))

/-! ## The end of background commands (R472 to R474, R484) -/

/-- The work of a verification or a margining run ends with the row itself; every other command's has ended before. -/
def State.endWork (s : State) (b : Background) : State :=
  if b.result.isSome then s
  else if b.opcode = 0xC912 then s.endVerify b.id
  else if b.opcode = 0xC213 then
    let reply := s.marginReply (p8 b.params 0) b.params
    let s := s.drawn.modPort (p8 b.params 0) (fun x => if x.margin = some b.id then { x with margin := none } else x)
    ({ s with lnc := { s.lnc with margin := s.lnc.margin.filter (fun m => m.1 != b.id) } }).endBg b.id stSuccess reply
  else s

/-- The completion event of a background command: the packet to its requester, the RESPONSE record, the outcome kept for
CMD_STATUS; the event of a lost transport, or of the FM API binding, is not sent. -/
def State.complete (s : State) (b : Background) (st : Nat) (reply : Bytes) : State :=
  let k : Kept := { req := b.req, tag := b.tag, context := b.context, opcode := b.opcode, status := st }
  let s := s.modCmd (fun c =>
    { c with bg := delFirst (fun x => x.id == b.id) c.bg, kept := (k :: c.kept).take 256,
             fmBackground := if b.opcode < 0x8000 then some (b.opcode, fmCode st) else c.fmBackground })
  let s := if b.dropped then s else s.sendEvent b.req b.session (mkPacket 3 b.opcode b.tag b.context st reply)
  s.recordResponse b.seq st reply

/-- Ends background command `id` when its work has ended. -/
def State.bgEnd (s : State) (id : Nat) : State :=
  match s.cmd.bg.find? (fun b => b.id == id) with
  | none => s
  | some b =>
    let s := s.endWork b
    match (s.cmd.bg.find? (fun x => x.id == id)).bind Background.result with
    | none => s
    | some r => s.complete b r.1 r.2

/-- BACKGROUND_COMMAND_END: R472, R474. -/
def execBackgroundCommandEnd (id : Nat) (s : State) : Host.Outcome State Fault Refusal := .next (s.bgEnd id)

end Sys2Proof.Machine
end

