-- ==== Sys2Proof/Machine/Tick.lean ====
section
/-! DEFINITION. What passes when no command waits: one KCLK cycle. -/

namespace Sys2Proof.Machine

/-- One KCLK cycle of the time counter (R558); an unpowered module counts nothing. -/
def tickTime (s : State) : State :=
  if s.clk.phase = .off then s
  else { s with tick := s.tick + 1, tim := { s.tim with counter := s.tim.counter + s.increment } }

/-- One step with an empty queue: time passes, the vault takes what REC's input buffer holds, commits that no pipeline in service
keeps waiting are complete, Acrak takes the next queued unit (log 2). -/
def idleTick (s : State) : State :=
  let s := tickTime s
  let s := { s with trec := { s.trec with bufBytes := 0 } }
  (if s.mainUp && !s.tbl.pend.isEmpty then s.settlePend else s).takeJob

end Sys2Proof.Machine
end

