-- ==== Sys2Proof/Machine/Dispatch.lean ====
section
/-! DEFINITION. One arm per command: the meaning it has. -/

namespace Sys2Proof.Machine

/-- The effect of a command on everything but the queue. -/
def exec (i : Instr) (s : State) : Host.Outcome State Fault Refusal :=
  match i with
  | .moduleIdentify h p => Sys2Proof.Machine.execModuleIdentify h p s
  | .moduleStatus h p => Sys2Proof.Machine.execModuleStatus h p s
  | .cmdStatus h p => Sys2Proof.Machine.execCmdStatus h p s
  | .cmdCancel h p => Sys2Proof.Machine.execCmdCancel h p s
  | .partnerRelay h p => Sys2Proof.Machine.execPartnerRelay h p s
  | .moduleWarmReset h p => Sys2Proof.Machine.execModuleWarmReset h p s
  | .moduleStandby h p => Sys2Proof.Machine.execModuleStandby h p s
  | .journalFlush h p => Sys2Proof.Machine.execJournalFlush h p s
  | .journalClear h p => Sys2Proof.Machine.execJournalClear h p s
  | .pfeInfo h p => Sys2Proof.Machine.execPfeInfo h p s
  | .pfeSwitch h p => Sys2Proof.Machine.execPfeSwitch h p s
  | .pfeHoldupTest h p => Sys2Proof.Machine.execPfeHoldupTest h p s
  | .slotInfo h p => Sys2Proof.Machine.execSlotInfo h p s
  | .slotPower h p => Sys2Proof.Machine.execSlotPower h p s
  | .slotBind h p => Sys2Proof.Machine.execSlotBind h p s
  | .slotIndicator h p => Sys2Proof.Machine.execSlotIndicator h p s
  | .portInfo h p => Sys2Proof.Machine.execPortInfo h p s
  | .portRoleSet h p => Sys2Proof.Machine.execPortRoleSet h p s
  | .portMgmtSet h p => Sys2Proof.Machine.execPortMgmtSet h p s
  | .mcGroupAllot h p => Sys2Proof.Machine.execMcGroupAllot h p s
  | .portStats h p => Sys2Proof.Machine.execPortStats h p s
  | .laneInfo h p => Sys2Proof.Machine.execLaneInfo h p s
  | .bayWidthSet h p => Sys2Proof.Machine.execBayWidthSet h p s
  | .linkCtl h p => Sys2Proof.Machine.execLinkCtl h p s
  | .laneMargin h p => Sys2Proof.Machine.execLaneMargin h p s
  | .laneTest h p => Sys2Proof.Machine.execLaneTest h p s
  | .seamInfo h p => Sys2Proof.Machine.execSeamInfo h p s
  | .seamBundleCtl h p => Sys2Proof.Machine.execSeamBundleCtl h p s
  | .twinEnable h p => Sys2Proof.Machine.execTwinEnable h p s
  | .twinDisable h p => Sys2Proof.Machine.execTwinDisable h p s
  | .twinGroupSet h p => Sys2Proof.Machine.execTwinGroupSet h p s
  | .xbrInfo h p => Sys2Proof.Machine.execXbrInfo h p s
  | .xbrMcPolicySet h p => Sys2Proof.Machine.execXbrMcPolicySet h p s
  | .xbrPlaneRetire h p => Sys2Proof.Machine.execXbrPlaneRetire h p s
  | .xbrStats h p => Sys2Proof.Machine.execXbrStats h p s
  | .schInfo h p => Sys2Proof.Machine.execSchInfo h p s
  | .schTelemRead h p => Sys2Proof.Machine.execSchTelemRead h p s
  | .schTelemExport h p => Sys2Proof.Machine.execSchTelemExport h p s
  | .schTelemClear h p => Sys2Proof.Machine.execSchTelemClear h p s
  | .schHoldRead h p => Sys2Proof.Machine.execSchHoldRead h p s
  | .poolInfo h p => Sys2Proof.Machine.execPoolInfo h p s
  | .dspPersonalitySet h p => Sys2Proof.Machine.execDspPersonalitySet h p s
  | .poolViewSet h p => Sys2Proof.Machine.execPoolViewSet h p s
  | .ldCreate h p => Sys2Proof.Machine.execLdCreate h p s
  | .ldDestroy h p => Sys2Proof.Machine.execLdDestroy h p s
  | .extentGrant h p => Sys2Proof.Machine.execExtentGrant h p s
  | .extentRelease h p => Sys2Proof.Machine.execExtentRelease h p s
  | .extentRead h p => Sys2Proof.Machine.execExtentRead h p s
  | .shareGroupSet h p => Sys2Proof.Machine.execShareGroupSet h p s
  | .relocateStart h p => Sys2Proof.Machine.execRelocateStart h p s
  | .relocateAbort h p => Sys2Proof.Machine.execRelocateAbort h p s
  | .relocateStatus h p => Sys2Proof.Machine.execRelocateStatus h p s
  | .mirrorResync h p => Sys2Proof.Machine.execMirrorResync h p s
  | .dirInfo h p => Sys2Proof.Machine.execDirInfo h p s
  | .dirLineRead h p => Sys2Proof.Machine.execDirLineRead h p s
  | .dirSetRead h p => Sys2Proof.Machine.execDirSetRead h p s
  | .dirRangeFlush h p => Sys2Proof.Machine.execDirRangeFlush h p s
  | .dirPoisonClear h p => Sys2Proof.Machine.execDirPoisonClear h p s
  | .dirStats h p => Sys2Proof.Machine.execDirStats h p s
  | .movInfo h p => Sys2Proof.Machine.execMovInfo h p s
  | .movAllotSet h p => Sys2Proof.Machine.execMovAllotSet h p s
  | .movHostWeightSet h p => Sys2Proof.Machine.execMovHostWeightSet h p s
  | .movFnRead h p => Sys2Proof.Machine.execMovFnRead h p s
  | .movFnReset h p => Sys2Proof.Machine.execMovFnReset h p s
  | .movStats h p => Sys2Proof.Machine.execMovStats h p s
  | .vaultInfo h p => Sys2Proof.Machine.execVaultInfo h p s
  | .vaultPageRead h p => Sys2Proof.Machine.execVaultPageRead h p s
  | .vaultStrengthSet h p => Sys2Proof.Machine.execVaultStrengthSet h p s
  | .vaultAnnealCtl h p => Sys2Proof.Machine.execVaultAnnealCtl h p s
  | .vaultRetire h p => Sys2Proof.Machine.execVaultRetire h p s
  | .vaultRetiredRead h p => Sys2Proof.Machine.execVaultRetiredRead h p s
  | .vaultStats h p => Sys2Proof.Machine.execVaultStats h p s
  | .faultInfo h p => Sys2Proof.Machine.execFaultInfo h p s
  | .faultHistRead h p => Sys2Proof.Machine.execFaultHistRead h p s
  | .faultAck h p => Sys2Proof.Machine.execFaultAck h p s
  | .faultCountRead h p => Sys2Proof.Machine.execFaultCountRead h p s
  | .faultSubscribe h p => Sys2Proof.Machine.execFaultSubscribe h p s
  | .quenchRead h p => Sys2Proof.Machine.execQuenchRead h p s
  | .quenchAck h p => Sys2Proof.Machine.execQuenchAck h p s
  | .quenchRelease h p => Sys2Proof.Machine.execQuenchRelease h p s
  | .faultDumpRead h p => Sys2Proof.Machine.execFaultDumpRead h p s
  | .faultDumpRelease h p => Sys2Proof.Machine.execFaultDumpRelease h p s
  | .safeReset h p => Sys2Proof.Machine.execSafeReset h p s
  | .hlmInfo h p => Sys2Proof.Machine.execHlmInfo h p s
  | .ledgerRead h p => Sys2Proof.Machine.execLedgerRead h p s
  | .ledgerArchiveAck h p => Sys2Proof.Machine.execLedgerArchiveAck h p s
  | .identityCertRead h p => Sys2Proof.Machine.execIdentityCertRead h p s
  | .fwUpdateStart h p => Sys2Proof.Machine.execFwUpdateStart h p s
  | .fwUpdateWrite h p => Sys2Proof.Machine.execFwUpdateWrite h p s
  | .fwUpdateVerify h p => Sys2Proof.Machine.execFwUpdateVerify h p s
  | .fwActivate h p => Sys2Proof.Machine.execFwActivate h p s
  | .fwCommit h p => Sys2Proof.Machine.execFwCommit h p s
  | .configLock h p => Sys2Proof.Machine.execConfigLock h p s
  | .configUnlock h p => Sys2Proof.Machine.execConfigUnlock h p s
  | .rootSet h p => Sys2Proof.Machine.execRootSet h p s
  | .ideStatus h p => Sys2Proof.Machine.execIdeStatus h p s
  | .timeInfo h p => Sys2Proof.Machine.execTimeInfo h p s
  | .timeCfg h p => Sys2Proof.Machine.execTimeCfg h p s
  | .timeSet h p => Sys2Proof.Machine.execTimeSet h p s
  | .transcriptInfo h p => Sys2Proof.Machine.execTranscriptInfo h p s
  | .transcriptRead h p => Sys2Proof.Machine.execTranscriptRead h p s
  | .transcriptExport h p => Sys2Proof.Machine.execTranscriptExport h p s
  | .transcriptFreeze h p => Sys2Proof.Machine.execTranscriptFreeze h p s
  | .transcriptCheckpoint h p => Sys2Proof.Machine.execTranscriptCheckpoint h p s
  | .replayStart h p => Sys2Proof.Machine.execReplayStart h p s
  | .replayStatus h p => Sys2Proof.Machine.execReplayStatus h p s
  | .replayAbort h p => Sys2Proof.Machine.execReplayAbort h p s
  | .regRead h p => Sys2Proof.Machine.execRegRead h p s
  | .regWrite h p => Sys2Proof.Machine.execRegWrite h p s
  | .tableRead h p => Sys2Proof.Machine.execTableRead h p s
  | .tableWrite h p => Sys2Proof.Machine.execTableWrite h p s
  | .commit h p => Sys2Proof.Machine.execCommit h p s
  | .epochRead h p => Sys2Proof.Machine.execEpochRead h p s
  | .touchstoneEnter h p => Sys2Proof.Machine.execTouchstoneEnter h p s
  | .faultInject h p => Sys2Proof.Machine.execFaultInject h p s
  | .fmApiCommand h mctp opcode p => Sys2Proof.Machine.execFmApiCommand h mctp opcode p s
  | .spdmRequest link m => Sys2Proof.Machine.execSpdmRequest link m s
  | .migrationKeyInstall u session keyId key => Sys2Proof.Machine.execMigrationKeyInstall u session keyId key s
  | .ideKmKeyReceive u session stream keySet key => Sys2Proof.Machine.execIdeKmKeyReceive u session stream keySet key s
  | .commandPacketReceive r session pkt => Sys2Proof.Machine.execCommandPacketReceive r session pkt s
  | .chainAssemblyTimeout r context => Sys2Proof.Machine.execChainAssemblyTimeout r context s
  | .backgroundCommandEnd id => Sys2Proof.Machine.execBackgroundCommandEnd id s
  | .mbxGo => Sys2Proof.Machine.execMbxGo s
  | .mbxEvtAck => Sys2Proof.Machine.execMbxEvtAck s
  | .personalityWrite h p v => Sys2Proof.Machine.execPersonalityWrite h p v s
  | .roleWrite h p v => Sys2Proof.Machine.execRoleWrite h p v s
  | .breakerCurveWrite h addr v => Sys2Proof.Machine.execBreakerCurveWrite h addr v s
  | .registerWrite h addr v => Sys2Proof.Machine.execRegisterWrite h addr v s
  | .sqTailDb f r tail => Sys2Proof.Machine.execSqTailDb f r tail s
  | .cqHeadDb f head => Sys2Proof.Machine.execCqHeadDb f head s
  | .sqEnableWrite f r en => Sys2Proof.Machine.execSqEnableWrite f r en s
  | .cqEnableWrite f en => Sys2Proof.Machine.execCqEnableWrite f en s
  | .migrationFreeze u vf => Sys2Proof.Machine.execMigrationFreeze u vf s
  | .migrationSave u vf keyId dmaOk => Sys2Proof.Machine.execMigrationSave u vf keyId dmaOk s
  | .migrationRestore u vf blob dmaOk => Sys2Proof.Machine.execMigrationRestore u vf blob dmaOk s
  | .migrationResume u vf => Sys2Proof.Machine.execMigrationResume u vf s
  | .freezeTimeout f => Sys2Proof.Machine.execFreezeTimeout f s
  | .vfEnableWrite u numVfs en => Sys2Proof.Machine.execVfEnableWrite u numVfs en s
  | .initiateFlr f => Sys2Proof.Machine.execInitiateFlr f s
  | .flrDrainEnd f => Sys2Proof.Machine.execFlrDrainEnd f s
  | .msixUnmask f vector => Sys2Proof.Machine.execMsixUnmask f vector s
  | .descriptorFetch f d => Sys2Proof.Machine.execDescriptorFetch f d s
  | .descriptorFetchError f r => Sys2Proof.Machine.execDescriptorFetchError f r s
  | .descriptorOpen f => Sys2Proof.Machine.execDescriptorOpen f s
  | .chunkIssue e => Sys2Proof.Machine.execChunkIssue e s
  | .chunkResponse ctx addr rsp => Sys2Proof.Machine.execChunkResponse ctx addr rsp s
  | .descriptorComplete ctx => Sys2Proof.Machine.execDescriptorComplete ctx s
  | .msixCoalesceTimer f vector => Sys2Proof.Machine.execMsixCoalesceTimer f vector s
  | .engineFailure e => Sys2Proof.Machine.execEngineFailure e s
  | .moverSramError e => Sys2Proof.Machine.execMoverSramError e s
  | .hdmDecoderCommit u k d w => Sys2Proof.Machine.execHdmDecoderCommit u k d w s
  | .hostConfigWrite u w => Sys2Proof.Machine.execHostConfigWrite u w s
  | .multicastCapWrite u fn enable receive => Sys2Proof.Machine.execMulticastCapWrite u fn enable receive s
  | .slotControlWrite u vppb powerOff pwr atn => Sys2Proof.Machine.execSlotControlWrite u vppb powerOff pwr atn s
  | .dpcStatusClear u vppb => Sys2Proof.Machine.execDpcStatusClear u vppb s
  | .secondaryBusReset u vppb => Sys2Proof.Machine.execSecondaryBusReset u vppb s
  | .linkDisableClear u vppb => Sys2Proof.Machine.execLinkDisableClear u vppb s
  | .configRequest u t offset tag => Sys2Proof.Machine.execConfigRequest u t offset tag s
  | .cxlMemRequest p m => Sys2Proof.Machine.execCxlMemRequest p m s
  | .cxlIoTlpReceive p t => Sys2Proof.Machine.execCxlIoTlpReceive p t s
  | .poolRangeIoRequest u write hpa tag => Sys2Proof.Machine.execPoolRangeIoRequest u write hpa tag s
  | .atomicopReceive u a => Sys2Proof.Machine.execAtomicopReceive u a s
  | .policerRelease ld => Sys2Proof.Machine.execPolicerRelease ld s
  | .extentMapMissFill p slot => Sys2Proof.Machine.execExtentMapMissFill p slot s
  | .sliceAdmit x => Sys2Proof.Machine.execSliceAdmit x s
  | .dirCacheMissFill x page => Sys2Proof.Machine.execDirCacheMissFill x page s
  | .dirtyPageWriteback x => Sys2Proof.Machine.execDirtyPageWriteback x s
  | .birspReceive u line r => Sys2Proof.Machine.execBirspReceive u line r s
  | .ownerWritebackReceive u line tag mta data => Sys2Proof.Machine.execOwnerWritebackReceive u line tag mta data s
  | .biconflictReceive u line => Sys2Proof.Machine.execBiconflictReceive u line s
  | .transactionEnd x line => Sys2Proof.Machine.execTransactionEnd x line s
  | .evictionEnd x line => Sys2Proof.Machine.execEvictionEnd x line s
  | .snoopTimeout u line => Sys2Proof.Machine.execSnoopTimeout u line s
  | .lostPortWalkEnd => Sys2Proof.Machine.execLostPortWalkEnd s
  | .homeMapHoldEnd => Sys2Proof.Machine.execHomeMapHoldEnd s
  | .dirPageDoubleFail x page => Sys2Proof.Machine.execDirPageDoubleFail x page s
  | .sliceFailure x => Sys2Proof.Machine.execSliceFailure x s
  | .deviceCompletion p c => Sys2Proof.Machine.execDeviceCompletion p c s
  | .moduleRequestTimeout p kind slot => Sys2Proof.Machine.execModuleRequestTimeout p kind slot s
  | .quarantineExpiry p kind slot => Sys2Proof.Machine.execQuarantineExpiry p kind slot s
  | .poolDeviceAccept p d => Sys2Proof.Machine.execPoolDeviceAccept p d s
  | .poolDeviceEventPoll p corrected uncorrected => Sys2Proof.Machine.execPoolDeviceEventPoll p corrected uncorrected s
  | .poolDeviceErrMessage p e => Sys2Proof.Machine.execPoolDeviceErrMessage p e s
  | .startHoldExpiry => Sys2Proof.Machine.execStartHoldExpiry s
  | .fillComplete id => Sys2Proof.Machine.execFillComplete id s
  | .releaseInvalidateEnd id => Sys2Proof.Machine.execReleaseInvalidateEnd id s
  | .releaseTimeout id => Sys2Proof.Machine.execReleaseTimeout id s
  | .hostReleaseCapacity ld first count => Sys2Proof.Machine.execHostReleaseCapacity ld first count s
  | .relocationBatchEnd id => Sys2Proof.Machine.execRelocationBatchEnd id s
  | .relocationExtentAbort extent cause => Sys2Proof.Machine.execRelocationExtentAbort extent cause s
  | .relocationSlotFree slot => Sys2Proof.Machine.execRelocationSlotFree slot s
  | .changeListWritable => Sys2Proof.Machine.execChangeListWritable s
  | .extentPageRebuild page pairTable => Sys2Proof.Machine.execExtentPageRebuild page pairTable s
  | .managedRemoveTimeout u vppb => Sys2Proof.Machine.execManagedRemoveTimeout u vppb s
  | .journalBufferFlush => Sys2Proof.Machine.execJournalBufferFlush s
  | .journalCompaction => Sys2Proof.Machine.execJournalCompaction s
  | .pipelineBankSwitch pl => Sys2Proof.Machine.execPipelineBankSwitch pl s
  | .switchFailureTimeout pl => Sys2Proof.Machine.execSwitchFailureTimeout pl s
  | .shadowRefill tid => Sys2Proof.Machine.execShadowRefill tid s
  | .moduleCommit id => Sys2Proof.Machine.execModuleCommit id s
  | .messagePromotion src dest q => Sys2Proof.Machine.execMessagePromotion src dest q s
  | .ingotReceive dest plane g payload => Sys2Proof.Machine.execIngotReceive dest plane g payload s
  | .ingotAckTimeout src dest q seq => Sys2Proof.Machine.execIngotAckTimeout src dest q seq s
  | .planeProbeTimeout plane => Sys2Proof.Machine.execPlaneProbeTimeout plane s
  | .spareSelfTest pass => Sys2Proof.Machine.execSpareSelfTest pass s
  | .headroomGrant x => Sys2Proof.Machine.execHeadroomGrant x s
  | .egressSelect e => Sys2Proof.Machine.execEgressSelect e s
  | .telemetrySample => Sys2Proof.Machine.execTelemetrySample s
  | .telemetryExportInterval vaultOk => Sys2Proof.Machine.execTelemetryExportInterval vaultOk s
  | .linkUp p l => Sys2Proof.Machine.execLinkUp p l s
  | .linkDown p => Sys2Proof.Machine.execLinkDown p s
  | .aerError p fn e => Sys2Proof.Machine.execAerError p fn e s
  | .dpcTrigger u vppb => Sys2Proof.Machine.execDpcTrigger u vppb s
  | .surpriseHotRemove u vppb => Sys2Proof.Machine.execSurpriseHotRemove u vppb s
  | .ideIntegrityFailure p => Sys2Proof.Machine.execIdeIntegrityFailure p s
  | .ideRekeyTimer p => Sys2Proof.Machine.execIdeRekeyTimer p s
  | .ideRequiredRetry p r => Sys2Proof.Machine.execIdeRequiredRetry p r s
  | .pmeTurnOff u => Sys2Proof.Machine.execPmeTurnOff u s
  | .pmeAckTimeout u => Sys2Proof.Machine.execPmeAckTimeout u s
  | .aspmL1Idle p => Sys2Proof.Machine.execAspmL1Idle p s
  | .perstNEdge p level => Sys2Proof.Machine.execPerstNEdge p level s
  | .portReset u => Sys2Proof.Machine.execPortReset u s
  | .fomUpdate n fom => Sys2Proof.Machine.execFomUpdate n fom s
  | .fomAlert n => Sys2Proof.Machine.execFomAlert n s
  | .laneLoss n => Sys2Proof.Machine.execLaneLoss n s
  | .equalisation p r => Sys2Proof.Machine.execEqualisation p r s
  | .trainingAttemptFail p => Sys2Proof.Machine.execTrainingAttemptFail p s
  | .parkedDetect p receiver => Sys2Proof.Machine.execParkedDetect p receiver s
  | .hostMarginCommand n active => Sys2Proof.Machine.execHostMarginCommand n active s
  | .bayPllLockLoss b => Sys2Proof.Machine.execBayPllLockLoss b s
  | .bayPllRelock b locked => Sys2Proof.Machine.execBayPllRelock b locked s
  | .bundleStateAdvance b r => Sys2Proof.Machine.execBundleStateAdvance b r s
  | .seamAdaptStep b x before after => Sys2Proof.Machine.execSeamAdaptStep b x before after s
  | .seamLaneLoss b x => Sys2Proof.Machine.execSeamLaneLoss b x s
  | .seamSpareRequest b x => Sys2Proof.Machine.execSeamSpareRequest b x s
  | .bundleDown b cause => Sys2Proof.Machine.execBundleDown b cause s
  | .bundleRetrainTimer b => Sys2Proof.Machine.execBundleRetrainTimer b s
  | .seamFrameReceive b f => Sys2Proof.Machine.execSeamFrameReceive b f s
  | .seamResend x nak => Sys2Proof.Machine.execSeamResend x nak s
  | .streamReturn x => Sys2Proof.Machine.execStreamReturn x s
  | .partnerLoss => Sys2Proof.Machine.execPartnerLoss s
  | .leavingMessage => Sys2Proof.Machine.execLeavingMessage s
  | .twinRelayedRequest b p m => Sys2Proof.Machine.execTwinRelayedRequest b p m s
  | .vaultRead page bits => Sys2Proof.Machine.execVaultRead page bits s
  | .vaultSubpageWrite page off data bits => Sys2Proof.Machine.execVaultSubpageWrite page off data bits s
  | .vaultFullPageWrite page data => Sys2Proof.Machine.execVaultFullPageWrite page data s
  | .crucibleWriteback page => Sys2Proof.Machine.execCrucibleWriteback page s
  | .annealRead bits => Sys2Proof.Machine.execAnnealRead bits s
  | .annealOverrun => Sys2Proof.Machine.execAnnealOverrun s
  | .pageRetirement page => Sys2Proof.Machine.execPageRetirement page s
  | .pseudoChannelFailure x => Sys2Proof.Machine.execPseudoChannelFailure x s
  | .sramWordError bank row word e owner => Sys2Proof.Machine.execSramWordError bank row word e owner s
  | .sramRowRepair bank row => Sys2Proof.Machine.execSramRowRepair bank row s
  | .sramBankCopyEnd bank => Sys2Proof.Machine.execSramBankCopyEnd bank s
  | .sramAnnealPass => Sys2Proof.Machine.execSramAnnealPass s
  | .fltEventAccept => Sys2Proof.Machine.execFltEventAccept s
  | .promotionWindowExpiry source => Sys2Proof.Machine.execPromotionWindowExpiry source s
  | .graceExpiry source => Sys2Proof.Machine.execGraceExpiry source s
  | .flushEnd => Sys2Proof.Machine.execFlushEnd s
  | .dumpReleaseEraseEnd => Sys2Proof.Machine.execDumpReleaseEraseEnd s
  | .lockstepMismatch core failA failB => Sys2Proof.Machine.execLockstepMismatch core failA failB s
  | .coreFailover => Sys2Proof.Machine.execCoreFailover s
  | .bootRomStart slotOkA slotOkB badRec => Sys2Proof.Machine.execBootRomStart slotOkA slotOkB badRec s
  | .bootEntryWrite => Sys2Proof.Machine.execBootEntryWrite s
  | .ledgerEntryWrite => Sys2Proof.Machine.execLedgerEntryWrite s
  | .ledgerBlockReclaim => Sys2Proof.Machine.execLedgerBlockReclaim s
  | .trialBootDeadline => Sys2Proof.Machine.execTrialBootDeadline s
  | .spdmHeartbeatMiss session => Sys2Proof.Machine.execSpdmHeartbeatMiss session s
  | .ptpMessage m => Sys2Proof.Machine.execPtpMessage m s
  | .ppsInEdge => Sys2Proof.Machine.execPpsInEdge s
  | .servoLock => Sys2Proof.Machine.execServoLock s
  | .anchor => Sys2Proof.Machine.execAnchor s
  | .sourceLoss cause => Sys2Proof.Machine.execSourceLoss cause s
  | .holdoverExpiry => Sys2Proof.Machine.execHoldoverExpiry s
  | .ppsOutSecond => Sys2Proof.Machine.execPpsOutSecond s
  | .rootPllFail => Sys2Proof.Machine.execRootPllFail s
  | .transcriptInput x => Sys2Proof.Machine.execTranscriptInput x s
  | .checkpointTimer => Sys2Proof.Machine.execCheckpointTimer s
  | .transcriptGap g => Sys2Proof.Machine.execTranscriptGap g s
  | .replayEnd r => Sys2Proof.Machine.execReplayEnd r s
  | .acrakTimer id armed => Sys2Proof.Machine.execAcrakTimer id armed s
  | .coldStart b => Sys2Proof.Machine.execColdStart b s
  | .mrstNFall => Sys2Proof.Machine.execMrstNFall s
  | .mrstNRise lowNs => Sys2Proof.Machine.execMrstNRise lowNs s
  | .moduleStart trigger source => Sys2Proof.Machine.execModuleStart trigger source s
  | .warmStart trigger => Sys2Proof.Machine.execWarmStart trigger s
  | .journalRestore t => Sys2Proof.Machine.execJournalRestore t s
  | .modReadyAssert => Sys2Proof.Machine.execModReadyAssert s
  | .feedRangeChange f tenthV => Sys2Proof.Machine.execFeedRangeChange f tenthV s
  | .feedQualified f => Sys2Proof.Machine.execFeedQualified f s
  | .switchover => Sys2Proof.Machine.execSwitchover s
  | .feedReturn => Sys2Proof.Machine.execFeedReturn s
  | .reverseCurrent f => Sys2Proof.Machine.execReverseCurrent f s
  | .feedCloseFail f => Sys2Proof.Machine.execFeedCloseFail f s
  | .holdupChargeCheck charge5s => Sys2Proof.Machine.execHoldupChargeCheck charge5s s
  | .rideThrough => Sys2Proof.Machine.execRideThrough s
  | .imminentLoss => Sys2Proof.Machine.execImminentLoss s
  | .standbyDomainOff => Sys2Proof.Machine.execStandbyDomainOff s
  | .breakerEvaluation tenthA => Sys2Proof.Machine.execBreakerEvaluation tenthA s
  | .trip cause => Sys2Proof.Machine.execTrip cause s
  | .fastTrip tenthA => Sys2Proof.Machine.execFastTrip tenthA s
  | .inrushTimeout => Sys2Proof.Machine.execInrushTimeout s
  | .coolDownEnd => Sys2Proof.Machine.execCoolDownEnd s
  | .supervisorPowerLoss => Sys2Proof.Machine.execSupervisorPowerLoss s
  | .railFault r => Sys2Proof.Machine.execRailFault r s
  | .pwrgdQualify => Sys2Proof.Machine.execPwrgdQualify s
  | .slotBusRangeChange tenthV qualified => Sys2Proof.Machine.execSlotBusRangeChange tenthV qualified s
  | .presenceDebounceEnd n => Sys2Proof.Machine.execPresenceDebounceEnd n s
  | .slotRemoval n => Sys2Proof.Machine.execSlotRemoval n s
  | .attentionButtonPress n => Sys2Proof.Machine.execAttentionButtonPress n s
  | .channelClose n => Sys2Proof.Machine.execChannelClose n s
  | .channelCloseFail n => Sys2Proof.Machine.execChannelCloseFail n s
  | .channelInrushTimeout n => Sys2Proof.Machine.execChannelInrushTimeout n s
  | .channelBreakerEvaluation n tenthA => Sys2Proof.Machine.execChannelBreakerEvaluation n tenthA s
  | .channelTrip n cause => Sys2Proof.Machine.execChannelTrip n cause s
  | .slPgoodQualify n => Sys2Proof.Machine.execSlPgoodQualify n s
  | .slPerstRelease n => Sys2Proof.Machine.execSlPerstRelease n s
  | .channelOpenRequest n => Sys2Proof.Machine.execChannelOpenRequest n s
  | .channelCoolDownEnd n => Sys2Proof.Machine.execChannelCoolDownEnd n s
  | .thermalWarning lid => Sys2Proof.Machine.execThermalWarning lid s
  | .thermalTrip sensor celsius => Sys2Proof.Machine.execThermalTrip sensor celsius s
  | .rootPllNoLock => Sys2Proof.Machine.execRootPllNoLock s
  | .tokenRefill => Sys2Proof.Machine.execTokenRefill s
  | .ingotSlot => Sys2Proof.Machine.execIngotSlot s
  | .partnerL0pRequest p width => Sys2Proof.Machine.execPartnerL0pRequest p width s
  | .prbsLock n => Sys2Proof.Machine.execPrbsLock n s
  | .blockLock b x => Sys2Proof.Machine.execBlockLock b x s
  | .seamSpareFailure b => Sys2Proof.Machine.execSeamSpareFailure b s
  | .holdupCharged chargeUs => Sys2Proof.Machine.execHoldupCharged chargeUs s
  | .inrushComplete => Sys2Proof.Machine.execInrushComplete s
  | .slPrsntNFall n => Sys2Proof.Machine.execSlPrsntNFall n s
  | .channelSwitchOpen n => Sys2Proof.Machine.execChannelSwitchOpen n s
  | .hostAddCapacityResponse ld accepted => Sys2Proof.Machine.execHostAddCapacityResponse ld accepted s
  | .transportLost t => Sys2Proof.Machine.execTransportLost t s
  | .jtagTapOperation op => Sys2Proof.Machine.execJtagTapOperation op s
  | .injectionDelayExpiry => Sys2Proof.Machine.execInjectionDelayExpiry s
  | .passThroughCxlMessage p m => Sys2Proof.Machine.execPassThroughCxlMessage p m s

end Sys2Proof.Machine
end

