-- ==== Sys2Proof/Safety.lean ====
section
/-! DEFINITION. What counts as a sound state of the block: every sparse array is in canonical form and the counters that the
manual bounds stay in their bounds. -/

namespace Sys2Proof.Safety

open Sys2Proof.Machine

/-- The register file and the extent map are in canonical form. -/
def Canonical (s : State) : Prop := SMap.wf s.regs ∧ SMap.wf s.pol.map

end Sys2Proof.Safety
end

