-- ==== Sys2Proof/Certificates/Slice0/Obligations.lean ====
section
/-! DEFINITION. The statements about the module, one `Obligations.<Name>` each, and the words they are written in. Commands are
stated as equations `exec i s = .next t`: the equation says the result and, since `t` is `s` with the named changes, the frame. -/

namespace Sys2Proof.Claims

open Sys2Proof.Machine

/-- Normal operation: MOD_READY has been asserted and the module safe state is not in force. -/
abbrev Operating (s : State) : Prop := s.clk.phase = .ready ∧ s.flag Reg.FLT_STATUS_SAFE_MODULE = false

/-- The requester holds at least this privilege and is not a TENANT (Table 11-3, R463). -/
abbrev Privileged (q : Priv) (h : Hdr) (s : State) : Prop := s.privOf h ≠ .tenant ∧ privRank q ≤ privRank (s.privOf h)

/-- The state after the COMMAND record of a command; commands of OBSERVE privilege carry SKIP_REPLAY (R571). -/
def request (op : Nat) (q : Priv) (h : Hdr) (p : Bytes) (s : State) : State :=
  s.recordCommand h (q == .observe) (mkPacket 0 op h.tag.toNat h.context.toNat 0 p)

/-- `t` after the response packet and the RESPONSE record of the command that was recorded first in `s` (R460, R571). -/
def answered (op status : Nat) (h : Hdr) (s : State) (body : Bytes) (t : State) : State :=
  t.answer h.req h.session op h.tag.toNat h.context.toNat s.trec.next status body

/-- Command `op` of privilege `q` with `n` parameter bytes: in operation, for a requester that may issue it, where `good`
holds of the parameters and the state, it answers SUCCESS with a reply of which `reply` holds, and changes nothing else. -/
def Reads (i : Hdr → Bytes → Instr) (op : Nat) (q : Priv) (n : Nat) (good : Hdr → Bytes → State → Prop)
    (reply : Hdr → Bytes → State → Bytes → Prop) : Prop :=
  ∀ h p s, Operating s → Privileged q h s → p.length = n → good h p s →
    ∃ b, reply h p s b ∧ exec (i h p) s = .next (answered op stSuccess h s b (request op q h p s))

/-- As `Reads`, for a command that answers SUCCESS with an empty reply and does `work`. -/
def Does (i : Hdr → Bytes → Instr) (op : Nat) (q : Priv) (n : Nat) (good : Hdr → Bytes → State → Prop)
    (work : Hdr → Bytes → State → State) : Prop :=
  ∀ h p s, Operating s → Privileged q h s → p.length = n → good h p s →
    exec (i h p) s = .next (answered op stSuccess h s [] (work h p (request op q h p s)))

/-- The entry of a background command (R472, R473). -/
def background (op : Nat) (h : Hdr) (p : Bytes) (s : State) (journaled : Bool) (t : State) : State :=
  t.modCmd (fun m => { m with
    nextBg := m.nextBg + 1
    bg := m.bg ++ [{ id := m.nextBg, req := h.req, session := h.session, opcode := op, tag := h.tag.toNat, context := h.context.toNat,
                     seq := s.trec.next, params := p, journaled := journaled, result := none, dropped := false }] })

/-- As `Does`, for a command that answers STARTED and goes on in the background; there is room for one more (R473). -/
def Starts (i : Hdr → Bytes → Instr) (op : Nat) (q : Priv) (n : Nat) (journaled : Bool) (good : Hdr → Bytes → State → Prop)
    (work : Hdr → Bytes → State → State) : Prop :=
  ∀ h p s, Operating s → Privileged q h s → p.length = n → s.cmd.bg.length < 16 → good h p s →
    exec (i h p) s = .next (answered op stStarted h s [] (background op h p s journaled (work h p (request op q h p s))))

/-- No further condition. -/
abbrev always : Hdr → Bytes → State → Prop := fun _ _ _ => True

/-- `t` agrees with `s` in every register field that is not listed. -/
def OnlyRegs (fs : List (Field × Nat)) (s t : State) : Prop :=
  ∀ k, (∀ x ∈ fs, x.1.key x.2 ≠ k) → SMap.find t.regs k = SMap.find s.regs k

/-- The command that a row executes directly, with its header and parameters; none for a row that is an event. -/
def commandOf : Instr → Option (CmdSpec × Hdr × Bytes)
  | .moduleIdentify h p => some (specModuleIdentify, h, p)
  | .moduleStatus h p => some (specModuleStatus, h, p)
  | .cmdStatus h p => some (specCmdStatus, h, p)
  | .cmdCancel h p => some (specCmdCancel, h, p)
  | .partnerRelay h p => some (specPartnerRelay, h, p)
  | .moduleWarmReset h p => some (specModuleWarmReset, h, p)
  | .journalFlush h p => some (specJournalFlush, h, p)
  | .journalClear h p => some (specJournalClear, h, p)
  | .pfeInfo h p => some (specPfeInfo, h, p)
  | .pfeSwitch h p => some (specPfeSwitch, h, p)
  | .pfeHoldupTest h p => some (specPfeHoldupTest, h, p)
  | .slotInfo h p => some (specSlotInfo, h, p)
  | .slotPower h p => some (specSlotPower, h, p)
  | .slotBind h p => some (specSlotBind, h, p)
  | .slotIndicator h p => some (specSlotIndicator, h, p)
  | .portInfo h p => some (specPortInfo, h, p)
  | .portRoleSet h p => some (specPortRoleSet, h, p)
  | .portMgmtSet h p => some (specPortMgmtSet, h, p)
  | .mcGroupAllot h p => some (specMcGroupAllot, h, p)
  | .portStats h p => some (specPortStats, h, p)
  | .laneInfo h p => some (specLaneInfo, h, p)
  | .bayWidthSet h p => some (specBayWidthSet, h, p)
  | .linkCtl h p => some (specLinkCtl, h, p)
  | .laneMargin h p => some (specLaneMargin, h, p)
  | .laneTest h p => some (specLaneTest, h, p)
  | .seamInfo h p => some (specSeamInfo, h, p)
  | .seamBundleCtl h p => some (specSeamBundleCtl, h, p)
  | .twinEnable h p => some (specTwinEnable, h, p)
  | .twinDisable h p => some (specTwinDisable, h, p)
  | .twinGroupSet h p => some (specTwinGroupSet, h, p)
  | .xbrInfo h p => some (specXbrInfo, h, p)
  | .xbrMcPolicySet h p => some (specXbrMcPolicySet, h, p)
  | .xbrPlaneRetire h p => some (specXbrPlaneRetire, h, p)
  | .xbrStats h p => some (specXbrStats, h, p)
  | .schInfo h p => some (specSchInfo, h, p)
  | .schTelemRead h p => some (specSchTelemRead, h, p)
  | .schTelemExport h p => some (specSchTelemExport, h, p)
  | .schTelemClear h p => some (specSchTelemClear, h, p)
  | .schHoldRead h p => some (specSchHoldRead, h, p)
  | .poolInfo h p => some (specPoolInfo, h, p)
  | .dspPersonalitySet h p => some (specDspPersonalitySet, h, p)
  | .poolViewSet h p => some (specPoolViewSet, h, p)
  | .ldCreate h p => some (specLdCreate, h, p)
  | .ldDestroy h p => some (specLdDestroy, h, p)
  | .extentGrant h p => some (specExtentGrant, h, p)
  | .extentRelease h p => some (specExtentRelease, h, p)
  | .extentRead h p => some (specExtentRead, h, p)
  | .shareGroupSet h p => some (specShareGroupSet, h, p)
  | .relocateStart h p => some (specRelocateStart, h, p)
  | .relocateAbort h p => some (specRelocateAbort, h, p)
  | .relocateStatus h p => some (specRelocateStatus, h, p)
  | .mirrorResync h p => some (specMirrorResync, h, p)
  | .dirInfo h p => some (specDirInfo, h, p)
  | .dirLineRead h p => some (specDirLineRead, h, p)
  | .dirSetRead h p => some (specDirSetRead, h, p)
  | .dirRangeFlush h p => some (specDirRangeFlush, h, p)
  | .dirPoisonClear h p => some (specDirPoisonClear, h, p)
  | .dirStats h p => some (specDirStats, h, p)
  | .movInfo h p => some (specMovInfo, h, p)
  | .movAllotSet h p => some (specMovAllotSet, h, p)
  | .movHostWeightSet h p => some (specMovHostWeightSet, h, p)
  | .movFnRead h p => some (specMovFnRead, h, p)
  | .movFnReset h p => some (specMovFnReset, h, p)
  | .movStats h p => some (specMovStats, h, p)
  | .vaultInfo h p => some (specVaultInfo, h, p)
  | .vaultPageRead h p => some (specVaultPageRead, h, p)
  | .vaultStrengthSet h p => some (specVaultStrengthSet, h, p)
  | .vaultAnnealCtl h p => some (specVaultAnnealCtl, h, p)
  | .vaultRetire h p => some (specVaultRetire, h, p)
  | .vaultRetiredRead h p => some (specVaultRetiredRead, h, p)
  | .vaultStats h p => some (specVaultStats, h, p)
  | .faultInfo h p => some (specFaultInfo, h, p)
  | .faultHistRead h p => some (specFaultHistRead, h, p)
  | .faultAck h p => some (specFaultAck, h, p)
  | .faultCountRead h p => some (specFaultCountRead, h, p)
  | .faultSubscribe h p => some (specFaultSubscribe, h, p)
  | .quenchRead h p => some (specQuenchRead, h, p)
  | .quenchAck h p => some (specQuenchAck, h, p)
  | .quenchRelease h p => some (specQuenchRelease, h, p)
  | .faultDumpRead h p => some (specFaultDumpRead, h, p)
  | .faultDumpRelease h p => some (specFaultDumpRelease, h, p)
  | .safeReset h p => some (specSafeReset, h, p)
  | .hlmInfo h p => some (specHlmInfo, h, p)
  | .ledgerRead h p => some (specLedgerRead, h, p)
  | .ledgerArchiveAck h p => some (specLedgerArchiveAck, h, p)
  | .identityCertRead h p => some (specIdentityCertRead, h, p)
  | .fwUpdateStart h p => some (specFwUpdateStart, h, p)
  | .fwUpdateWrite h p => some (specFwUpdateWrite, h, p)
  | .fwUpdateVerify h p => some (specFwUpdateVerify, h, p)
  | .fwActivate h p => some (specFwActivate, h, p)
  | .fwCommit h p => some (specFwCommit, h, p)
  | .configLock h p => some (specConfigLock, h, p)
  | .configUnlock h p => some (specConfigUnlock, h, p)
  | .rootSet h p => some (specRootSet, h, p)
  | .ideStatus h p => some (specIdeStatus, h, p)
  | .timeInfo h p => some (specTimeInfo, h, p)
  | .timeCfg h p => some (specTimeCfg, h, p)
  | .timeSet h p => some (specTimeSet, h, p)
  | .transcriptInfo h p => some (specTranscriptInfo, h, p)
  | .transcriptRead h p => some (specTranscriptRead, h, p)
  | .transcriptExport h p => some (specTranscriptExport, h, p)
  | .transcriptFreeze h p => some (specTranscriptFreeze, h, p)
  | .transcriptCheckpoint h p => some (specTranscriptCheckpoint, h, p)
  | .replayStart h p => some (specReplayStart, h, p)
  | .replayStatus h p => some (specReplayStatus, h, p)
  | .replayAbort h p => some (specReplayAbort, h, p)
  | .regRead h p => some (specRegRead, h, p)
  | .regWrite h p => some (specRegWrite, h, p)
  | .tableRead h p => some (specTableRead, h, p)
  | .tableWrite h p => some (specTableWrite, h, p)
  | .commit h p => some (specCommit, h, p)
  | .epochRead h p => some (specEpochRead, h, p)
  | .touchstoneEnter h p => some (specTouchstoneEnter, h, p)
  | .faultInject h p => some (specFaultInject, h, p)
  | .personalityWrite h p v => some (specRegWrite, h, (oneMasked (0x0A000200 + 4 * p.val) v.toNat 3))
  | .roleWrite h p v => some (specRegWrite, h, (oneMasked (0x06000100 + 4 * p.val) v.toNat 3))
  | .breakerCurveWrite h addr v => some (specRegWrite, h, (oneWord addr.toNat v.toNat))
  | .registerWrite h addr v => some (specRegWrite, h, (oneWord addr.toNat v.toNat))
  | _ => none

/-- An unpowered module that has sent `o`, with nothing but command rows in its queue. -/
def Dark (o : List OutMsg) (s : State) : Prop := s.clk.phase = .off ∧ s.out = o ∧ ∀ i ∈ s.pending, (commandOf i).isSome = true

/-- One step of division by the polynomial 0x1EDC_6F41, most significant bit first (R458). -/
def polyBit (c : BitVec 32) (b : Bool) : BitVec 32 := if c.getLsbD 31 != b then (c <<< 1) ^^^ 0x1EDC6F41#32 else c <<< 1

/-- CRC-32C as R458 states it: input and output reflected, initial value and final XOR 0xFFFF_FFFF. -/
def polyCrc (bs : Bytes) : BitVec 32 :=
  ((bs.map (fun b => (List.range 8).map b.getLsbD)).flatten.foldl polyBit 0xFFFFFFFF#32).reverse ^^^ 0xFFFFFFFF#32

end Sys2Proof.Claims

open Sys2Proof Sys2Proof.Machine Sys2Proof.Claims

/-- A step runs the command at the front of the queue (95_what_each_step_holds.md, R468). -/
def Obligations.StepRunsTheCommand : Prop :=
  ∀ (i : Instr) (rest : List Instr) (s : State), step { s with pending := i :: rest } = exec i { s with pending := rest }

/-- A step on an empty queue: one KCLK cycle, and Acrak takes the next queued command (R468, R558, 14_time_transcript.md). -/
def Obligations.IdleStep : Prop :=
  (∀ s : State, s.pending = [] → s.clk.phase = .off → step s = .next { s with trec := { s.trec with bufBytes := 0 } }) ∧
  (∀ s : State, s.pending = [] → s.clk.phase ≠ .off → s.cmd.jobs = [] → s.tbl.pend = [] →
    step s = .next { s with
      tick := s.tick + 1, tim := { s.tim with counter := s.tim.counter + s.increment }, trec := { s.trec with bufBytes := 0 } }) ∧
  (∀ (q : Queued) (urgent : Bool) (c : CmdSpec) (s : State), s.pending = [] → s.acrakFree = true → s.tbl.pend = [] →
    s.cmd.jobs = [{ cmds := [q], urgent := urgent }] → specOf (pktOpcode q.pkt) = some c → c.len (pktParams q.pkt) ≠ none →
    step s = .next ((({ s with
      tick := s.tick + 1, tim := { s.tim with counter := s.tim.counter + s.increment }, trec := { s.trec with bufBytes := 0 },
      cmd := { s.cmd with jobs := [], lastReq := some q.req } }).answer q.req q.session c.opcode (pktTag q.pkt % 2 ^ 32) (pktContext q.pkt % 2 ^ 16)
        q.seq stBadLength (offsetReply ((c.len (pktParams q.pkt)).getD 0))).standbyNow))

/-- The state after reset (R14, R610, 15_resets_states.md). -/
def Obligations.ResetState : Prop :=
  (∀ s : State, s = State.reset →
    s.clk.phase = .off ∧ s.pending = [] ∧ s.out = [] ∧ (∀ (f : Field) (i : Nat), s.get f i = f.reset i) ∧ Safety.Canonical s ∧ Dark [] s)

/-- Every command completes: no fault and no refusal (00_scope.md, 95_what_each_step_holds.md). -/
def Obligations.EveryStepAnswers : Prop :=
  (∀ (i : Instr) (s : State), ∃ t, exec i s = .next t) ∧ (∀ s : State, ∃ t, step s = .next t)

/-- The checks of a request in their order; a refused command changes nothing (R458, R459, R460, R463, R464). -/
def Obligations.ChecksInOrder : Prop :=
  (∀ (r : Requester) (ses : Option Nat) (k : Bytes) (s : State), s.clk.phase ≠ .off → transportWired r.transport = true →
    k.length ≠ 20 + roundUp (pktPlen k) 4 ∨ 4096 < pktPlen k →
    exec (.commandPacketReceive r ses k) s =
      .next (s.emit (.packet r ses (mkPacket 1 (pktOpcode k) (pktTag k) (pktContext k) stBadLength (leBytes 4 0xFFFFFFFF))))) ∧
  (∀ (r : Requester) (ses : Option Nat) (k : Bytes) (s : State), s.clk.phase ≠ .off → transportWired r.transport = true →
    k.length = 20 + roundUp (pktPlen k) 4 → pktPlen k ≤ 4096 → leNat (k.drop (k.length - 4)) ≠ (crc32c (k.take (k.length - 4))).toNat →
    exec (.commandPacketReceive r ses k) s =
      .next (s.emit (.packet r ses (mkPacket 1 (pktOpcode k) (pktTag k) (pktContext k) stBadCheck [])))) ∧
  (∀ (r : Requester) (ses : Option Nat) (k : Bytes) (s : State), s.clk.phase ≠ .off → transportWired r.transport = true →
    k.length = 20 + roundUp (pktPlen k) 4 → pktPlen k ≤ 4096 → leNat (k.drop (k.length - 4)) = (crc32c (k.take (k.length - 4))).toNat →
    fieldAt k 0 1 ≠ 1 ∨ bitOf (pktFlags k) 0 = true ∨ bitOf (pktFlags k) 1 = true →
    exec (.commandPacketReceive r ses k) s =
      .next (s.emit (.packet r ses (mkPacket 1 (pktOpcode k) (pktTag k) (pktContext k) stBadParam (leBytes 4 0xFFFFFFFF))))) ∧
  (∀ (r : Requester) (ses : Option Nat) (k : Bytes) (s : State), s.clk.phase ≠ .off → transportWired r.transport = true →
    framing k = none → opPriv (pktOpcode k) = none →
    exec (.commandPacketReceive r ses k) s =
      .next (s.emit (.packet r ses (mkPacket 1 (pktOpcode k) (pktTag k) (pktContext k) stBadOpcode [])))) ∧
  (∀ (i : Instr) (c : CmdSpec) (h : Hdr) (p : Bytes) (off : Nat) (s : State), commandOf i = some (c, h, p) → s.clk.phase ≠ .off →
    c.len p = some off →
    exec i s = .next (answered c.opcode stBadLength h s (offsetReply off) (request c.opcode c.priv h p s))) ∧
  (∀ (i : Instr) (c : CmdSpec) (h : Hdr) (p : Bytes) (s : State), commandOf i = some (c, h, p) → s.clk.phase ≠ .off → c.len p = none →
    (request c.opcode c.priv h p s).mayIssue c h p = false →
    exec i s = .next (answered c.opcode stDenied h s [] (request c.opcode c.priv h p s))) ∧
  (∀ (i : Instr) (c : CmdSpec) (h : Hdr) (p : Bytes) (s : State), commandOf i = some (c, h, p) → s.clk.phase ≠ .off → c.len p = none →
    (request c.opcode c.priv h p s).mayIssue c h p = true → c.deny h p (request c.opcode c.priv h p s) = false →
    c.locks p (request c.opcode c.priv h p s) = true → (request c.opcode c.priv h p s).flag Reg.HLM_STATUS_LOCKED = true →
    exec i s = .next (answered c.opcode stLocked h s [] (request c.opcode c.priv h p s))) ∧
  (∀ (i : Instr) (c : CmdSpec) (h : Hdr) (p : Bytes) (off : Nat) (s : State), commandOf i = some (c, h, p) → s.clk.phase ≠ .off → c.len p = none →
    (request c.opcode c.priv h p s).mayIssue c h p = true → c.deny h p (request c.opcode c.priv h p s) = false →
    (request c.opcode c.priv h p s).flag Reg.HLM_STATUS_LOCKED = false → c.check h p (request c.opcode c.priv h p s) = some off →
    exec i s = .next (answered c.opcode stBadParam h s (offsetReply off) (request c.opcode c.priv h p s))) ∧
  (∀ (i : Instr) (c : CmdSpec) (h : Hdr) (p : Bytes) (s : State), commandOf i = some (c, h, p) → s.clk.phase ≠ .off → c.len p = none →
    (request c.opcode c.priv h p s).mayIssue c h p = true → c.deny h p (request c.opcode c.priv h p s) = false →
    (request c.opcode c.priv h p s).flag Reg.HLM_STATUS_LOCKED = false → c.check h p (request c.opcode c.priv h p s) = none →
    (request c.opcode c.priv h p s).serves c h = false →
    exec i s = .next (answered c.opcode stConflict h s [] (request c.opcode c.priv h p s))) ∧
  (∀ (i : Instr) (c : CmdSpec) (h : Hdr) (p : Bytes) (st : Nat) (s : State), commandOf i = some (c, h, p) → s.clk.phase ≠ .off → c.len p = none →
    (request c.opcode c.priv h p s).mayIssue c h p = true → c.deny h p (request c.opcode c.priv h p s) = false →
    (request c.opcode c.priv h p s).flag Reg.HLM_STATUS_LOCKED = false → c.check h p (request c.opcode c.priv h p s) = none →
    (request c.opcode c.priv h p s).serves c h = true → c.run h p (request c.opcode c.priv h p s) = .fail st →
    exec i s = .next (answered c.opcode st h s [] (request c.opcode c.priv h p s)))

/-- Privileges: rank, TENANT's scope, DENIED (R462, R463). -/
def Obligations.PrivilegeOfCommands : Prop :=
  (∀ a b : Priv, (a, b) ∈ [(Priv.observe, Priv.operate), (Priv.operate, Priv.admin), (Priv.admin, Priv.factory)] → privRank a < privRank b) ∧
  (∀ (c : CmdSpec) (h : Hdr) (p : Bytes) (s : State), s.privOf h ≠ .tenant →
    (s.mayIssue c h p = true ↔ privRank (c.privAt h s) ≤ privRank (s.privOf h))) ∧
  (∀ (u : Port) (c : CmdSpec) (h : Hdr) (p : Bytes) (s : State), s.privOf h = .tenant → h.req.transport = .vdm u →
    (s.mayIssue c h p = true ↔ c.privAt h s = .observe ∧ c.objects p s ≠ [] ∧ ∀ o ∈ c.objects p s, o = u.val)) ∧
  (∀ (i : Instr) (c : CmdSpec) (h : Hdr) (p : Bytes) (s : State), commandOf i = some (c, h, p) → s.clk.phase ≠ .off → c.len p = none →
    privRank ((request c.opcode c.priv h p s).privOf h) < privRank (c.privAt h (request c.opcode c.priv h p s)) →
    exec i s = .next (answered c.opcode stDenied h s [] (request c.opcode c.priv h p s)))

/-- An unpowered module stays unpowered and silent under every command (R14, R468, R600). -/
def Obligations.UnpoweredStaysSilent : Prop :=
  (∀ (o : List OutMsg) (s t : State), Dark o s → step s = .next t →
    Dark o t ∧ t = { s with pending := s.pending.tail, trec := { s.trec with bufBytes := t.trec.bufBytes } })

/-- Every step keeps the register file and the extent map in canonical form (R6, R62, R635). -/
def Obligations.EveryStepKeepsCanonical : Prop :=
  ∀ s t : State, Safety.Canonical s → step s = .next t → Safety.Canonical t

/-- The trailer of a packet is the CRC-32C of R458 (R457, R458, R459). -/
def Obligations.PacketTrailer : Prop :=
  (∀ b : Bytes, crc32c b = polyCrc b) ∧
  (∀ (flags op tag ctx st : Nat) (body : Bytes), ∃ hd : Bytes, hd.length = 16 ∧ fieldAt hd 0 1 = 1 ∧ fieldAt hd 2 2 = op % 65536 ∧
    fieldAt hd 4 4 = tag % 2 ^ 32 ∧ (pad4 body).take body.length = body ∧ (pad4 body).length % 4 = 0 ∧ (pad4 body).length < body.length + 4 ∧
    mkPacket flags op tag ctx st body = hd ++ pad4 body ++ leBytes 4 (polyCrc (hd ++ pad4 body)).toNat) ∧
  (∀ k : Bytes, k.length = 20 + roundUp (pktPlen k) 4 → pktPlen k ≤ 4096 →
    (framing k = some stBadCheck ↔ leNat (k.drop (k.length - 4)) ≠ (polyCrc (k.take (k.length - 4))).toNat))

/-- A transport queues at most 16 requests (R467). -/
def Obligations.QueueLimit : Prop :=
  (∀ (r : Requester) (ses : Option Nat) (k : Bytes) (s t : State), (∀ x, s.cmd.queuedOn x ≤ 16) →
    exec (.commandPacketReceive r ses k) s = .next t → ∀ x, t.cmd.queuedOn x ≤ 16) ∧
  (∀ s t : State, (∀ x, s.cmd.queuedOn x ≤ 16) → exec .mbxGo s = .next t → ∀ x, t.cmd.queuedOn x ≤ 16) ∧
  (∀ (r : Requester) (ses : Option Nat) (k : Bytes) (s : State), s.clk.phase ≠ .off → transportWired r.transport = true → framing k = none →
    (opPriv (pktOpcode k)).isSome = true → s.cmd.chainOf r (pktContext k) = none → 16 ≤ s.cmd.queuedOn r.transport →
    exec (.commandPacketReceive r ses k) s =
      .next (s.emit (.packet r ses (mkPacket 1 (pktOpcode k) (pktTag k) (pktContext k) stNoResource [])))) ∧
  (∀ (r : Requester) (ses : Option Nat) (k : Bytes) (s : State), s.clk.phase ≠ .off → r.transport ≠ .mailbox → framing k = none →
    (opPriv (pktOpcode k)).isSome = true → s.cmd.chainOf r (pktContext k) = none → 16 ≤ s.cmd.queuedOn r.transport →
    ∃ t, exec (.commandPacketReceive r ses k) s = .next t ∧ t.cmd.jobs = s.cmd.jobs ∧ t.cmd.chains = s.cmd.chains)

/-- A PF's allotment changes only while VF Enable is 0 (R186). -/
def Obligations.AllotmentNeedsVfDisable : Prop :=
  (∀ (h : Hdr) (p : Bytes) (s t : State), exec (.movAllotSet h p) s = .next t →
    SMap.get t.mov.allot (p8 p 0) [] ≠ SMap.get s.mov.allot (p8 p 0) [] → p8 p 0 ∉ s.mov.vfEnable) ∧
  (∀ (h : Hdr) (p : Bytes) (s : State), Operating s → Privileged .admin h s → p.length = 4 → s.isUsp (p8 p 0) = true → p16 p 2 ≤ 1024 →
    p8 p 0 ∈ s.mov.vfEnable →
    exec (.movAllotSet h p) s = .next (answered 0xC601 stConflict h s [] (request 0xC601 .admin h p s))) ∧
  (∀ (h : Hdr) (p : Bytes) (s : State), SMap.wf s.mov.allot → Operating s → Privileged .admin h s → p.length = 4 → s.isUsp (p8 p 0) = true →
    p8 p 0 ∉ s.mov.vfEnable → ((s.mov.allot.filter (fun a => a.1 != p8 p 0)).map (fun a => a.2.length)).sum + p16 p 2 ≤ 1024 →
    ∃ t, exec (.movAllotSet h p) s = .next t ∧ (SMap.get t.mov.allot (p8 p 0) []).length = p16 p 2)

/-- SUPPRESS and completion records (R208). -/
def Obligations.SuppressedRecords : Prop :=
  (∀ (c : Ctx) (s : State), SMap.wf s.mov.fns → s.mov.ctxs = [c] → s.descDone c = true → c.fn ≠ mgmtKey → c.fail = none →
    bitOf (fieldAt c.desc 1 1) 2 = true →
    ∃ t, exec (.descriptorComplete c.id) s = .next t ∧ (∀ u r a b, .hostWrite u r a b ∈ t.out → .hostWrite u r a b ∈ s.out) ∧
      (t.fn c.fn).cqTail = (s.fn c.fn).cqTail ∧ (t.fn c.fn).cqReserved = (s.fn c.fn).cqReserved - 1) ∧
  (∀ (c : Ctx) (u off st : Nat) (s : State), SMap.wf s.mov.fns → s.mov.ctxs = [c] → s.descDone c = true → c.fn ≠ mgmtKey →
    c.fail = some (off, st) → st ≠ 0 → s.fnUsp c.fn = some u → (s.port u).up = true →
    ∃ t, exec (.descriptorComplete c.id) s = .next t ∧
      .hostWrite u (s.fnRid c.fn) ((s.fn c.fn).cqBase + 32 * (s.fn c.fn).cqTail) (c.record (s.fn c.fn).cqPhase) ∈ t.out ∧
      (t.fn c.fn).cqTail = ((s.fn c.fn).cqTail + 1) % 2 ^ (s.fn c.fn).cqLog2)

/-- MemSpecRd has no effect and no completion (R142). -/
def Obligations.SpeculativeReads : Prop :=
  (∀ (p : Port) (m : MemReq) (s : State), m.op = .memSpecRd →
    ∃ t, exec (.cxlMemRequest p m) s = .next t ∧ (t = s ∨ t = s.wake p.val) ∧ t.out = s.out ∧ t.dir = s.dir ∧ t.pol = s.pol ∧ t.xbr = s.xbr ∧ t.flt = s.flt)

/-- Feeds: leaving range, qualification, switchover, return, reverse current and a failed closing (R618, R619, R620, R621, R622, R623, R624). -/
def Obligations.FeedSelection : Prop :=
  (∀ (f : Feed) (v : Nat) (s : State), (s.pfe.feed f.val).uvOk = true → (s.pfe.feed f.val).ovOk = true →
    s.get Reg.PFE_FEED_THR_UV_FALL f.val < v → v < s.get Reg.PFE_FEED_THR_OV_RISE f.val →
    exec (.feedRangeChange f v) s = .next ((s.setFeed f.val
      { tenthV := v, uvOk := true, ovOk := true, everRange := (s.pfe.feed f.val).everRange || decide (70 ≤ v) }).set
        Reg.PFE_FEED_MON_VOLTS f.val (min 4095 (5 * v)))) ∧
  (∀ (f : Feed) (v : Nat) (s : State), (s.pfe.feed f.val).uvOk = true → (s.pfe.feed f.val).ovOk = true →
    v ≤ s.get Reg.PFE_FEED_THR_UV_FALL f.val → v < s.get Reg.PFE_FEED_THR_OV_RISE f.val → s.pfe.closed ≠ some f →
    exec (.feedRangeChange f v) s = .next ((((s.setFeed f.val
      { tenthV := v, uvOk := false, ovOk := true, everRange := (s.pfe.feed f.val).everRange || decide (70 ≤ v) }).set
        Reg.PFE_FEED_MON_VOLTS f.val (min 4095 (5 * v))).setFeedOk f.val false).report (0x0100 + f.val) corrected 1 [byte f.val])) ∧
  (∀ (f : Feed) (s : State), s.feedInRange f.val = true → s.feedOk f.val = false → s.pfe.closed = none →
    s.mayClose = true → s.feedUnusable f.val = false →
    exec (.feedQualified f) s = .next ((s.setFeedOk f.val true).modPfe (fun p =>
      { p with closed := some f, settling := true, want := none }))) ∧
  (∀ (f : Feed) (s : State), s.feedInRange f.val = true → s.feedOk f.val = false → s.pfe.closed ≠ none →
    exec (.feedQualified f) s = .next (s.setFeedOk f.val true)) ∧
  (∀ (g : Feed) (s : State), s.pfe.want = some g → s.feedOk g.val = true → s.feedUnusable g.val = false → s.mayClose = true →
    exec .switchover s = .next (s.modPfe (fun p => { p with closed := some g, settling := true, want := none }))) ∧
  (∀ (g : Feed) (s : State), s.pfe.want = some g → s.feedOk g.val = false →
    exec .switchover s = .next (s.modPfe (fun p => { p with closed := none, settling := false, want := none }))) ∧
  (∀ s : State, s.flag Reg.PFE_FEED_CTL_RETURN_EN = true → s.feedOk s.preferred.val = true →
    s.feedUnusable s.preferred.val = false → s.mayClose = true → s.pfe.closed = some (otherFeed s.preferred) →
    s.pfe.settling = false →
    exec .feedReturn s = .next (s.modPfe (fun p => { p with closed := some s.preferred, settling := true, want := none }))) ∧
  (∀ (f : Feed) (s : State), s.pfe.closed = some f → s.feedOk (otherFeed f).val = false →
    exec (.reverseCurrent f) s = .next (((s.setFeedOk f.val false).report (0x0100 + f.val) corrected 3 [byte f.val]).modPfe
      (fun p => { p with closed := none, settling := false }))) ∧
  (∀ (f : Feed) (s : State), s.pfe.closed = some f → s.pfe.settling = true → s.feedOk (otherFeed f).val = false →
    exec (.feedCloseFail f) s = .next (((s.set Reg.PFE_STATUS_UNUSABLE 0 (s.get Reg.PFE_STATUS_UNUSABLE ||| 2 ^ f.val)).modPfe
      (fun p => { p with closed := none, settling := false })).report (0x0104 + f.val) contained 0 [byte f.val]))

/-- VBUS and the hold-up capacitor: first charge, charging, ride-through, imminent loss, standby domain off (R625, R626, R627, R630, R617). -/
def Obligations.HoldupRun : Prop :=
  (∀ (f : Feed) (s : State), SMap.wf s.regs → s.pfe.closed = some f → s.pfe.settling = true →
    ∃ t, exec .inrushComplete s = .next t ∧ t = { s with regs := t.regs, pfe := t.pfe } ∧
      t.pfe.vbusUp = true ∧ t.pfe.standbyOn = true ∧ t.pfe.settling = false ∧ t.pfe.closed = some f ∧
      t.flag Reg.PFE_STATUS_LIMITING = false ∧ t.get Reg.PFE_STATUS_ACTIVE = f.val ∧ t.flag Reg.PFE_STATUS_ON_HOLDUP = false ∧
      t.get Reg.PFE_RAIL_MV 8 = 800 ∧ t.get Reg.PFE_RAIL_MV 9 = 1800 ∧ t.get Reg.PFE_RAIL_MV 10 = 3300 ∧
      t.flag Reg.PFE_RAIL_IN_WINDOW 8 = true ∧ t.flag Reg.PFE_RAIL_IN_WINDOW 9 = true ∧ t.flag Reg.PFE_RAIL_IN_WINDOW 10 = true) ∧
  (∀ (us : Nat) (s : State), s.pfe.charging = true → s.pfe.holdupTest = none →
    exec (.holdupCharged us) s = .next ((((s.setFlag Reg.PFE_STATUS_HU_READY 0 true).set Reg.PFE_HU_C_EST 0
      (min 4095 (us / 2880))).set Reg.PFE_HU_VOLTS 0 2400).modPfe (fun p => { p with charging := false, holdupTest := none }))) ∧
  (∀ s : State, s.flag Reg.PFE_STATUS_HU_READY = false → s.pfe.charging = true →
    exec (.holdupChargeCheck true) s = .next (s.report 0x010A corrected 0 [])) ∧
  (∀ s : State, s.pfe.vbusUp = true → s.pfe.closed = none → s.feedOk 0 = false → s.feedOk 1 = false →
    s.flag Reg.PFE_STATUS_ON_HOLDUP = false →
    exec .rideThrough s = .next ((s.setFlag Reg.PFE_STATUS_ON_HOLDUP 0 true).report 0x0108 corrected 0 [])) ∧
  (∀ s : State, SMap.wf s.regs → s.pfe.vbusUp = true → s.pfe.closed = none → s.pfe.imminent = false → s.clk.phase ≠ .off →
    ∃ t, exec .imminentLoss s = .next t ∧ t.pfe.imminent = true ∧ t.clk.phase = .standby ∧ t.clk.modReady = false ∧
      t.flag Reg.PFE_STATUS_PWRGD = false ∧ t.flag Reg.PFE_STATUS_MAIN_ON = false ∧ t.get Reg.PFE_LAST_TRIP_CAUSE = 5 ∧
      t.pol = Pol.reset ∧ t.tbl = Tbl.reset ∧ t.jnl = s.jnl ∧
      (∃ e ∈ t.flt.waiting, e.src = 0x0109 ∧ e.cls = fatal)) ∧
  (∀ s : State, s.pfe.vbusUp = true → s.pfe.imminent = true →
    ∃ t, exec .standbyDomainOff s = .next t ∧ t.pfe.vbusUp = false ∧ t.pfe.imminent = false ∧ t.clk.phase = .off ∧
      t.clk.startPend = none ∧ t.jnl = { s.jnl with buf := [] } ∧ t.flt = { s.flt with waiting := [] } ∧
      t.hlm = s.hlm ∧ t.out = s.out) ∧
  (∀ s : State, (s.pfe.feed 0).tenthV < 70 → (s.pfe.feed 1).tenthV < 70 →
    ∃ t, exec .supervisorPowerLoss s = .next t ∧ t = { s with regs := t.regs, pfe := t.pfe } ∧ t.pfe.latched = false ∧
      t.pfe.coolDown = false ∧ t.pfe.tripTicks = [] ∧ SMap.find t.regs (Reg.PFE_LAST_TRIP_VALID.key 0) = none ∧
      SMap.find t.regs (Reg.PFE_STATUS_MAIN_ON.key 0) = SMap.find s.regs (Reg.PFE_STATUS_MAIN_ON.key 0))

/-- What a trip with a cause leaves (R634): the pair open, the cool-down begun, imminent loss, the cause latched, 0x0110 FATAL. -/
abbrev Sys2Proof.Claims.TripFrom (cause : Nat) (s t : State) : Prop :=
  t.pfe.closed = none ∧ t.pfe.coolDown = true ∧ t.pfe.imminent = true ∧ t.clk.phase = .standby ∧
  t.flag Reg.PFE_STATUS_PWRGD = false ∧ t.get Reg.PFE_LAST_TRIP_CAUSE = cause ∧ t.flag Reg.PFE_LAST_TRIP_VALID = true ∧
  t.jnl = s.jnl ∧ t.out = s.out ∧ (∃ e ∈ t.flt.waiting, e.src = 0x0110 ∧ e.cls = fatal ∧ e.evt = cause)

/-- Breaker, trips and rails: every trip opens the pair, starts the cool-down and raises imminent loss (R630, R632, R633, R634, R635, R637, R640). -/
def Obligations.BreakerAndTrips : Prop :=
  (∀ s : State, SMap.wf s.regs → s.pfe.closed ≠ none → s.clk.phase ≠ .off → s.pfe.settling = true →
    ∃ t, exec .inrushTimeout s = .next t ∧ TripFrom 3 s t) ∧
  (∀ (c : Fin 4) (s : State), SMap.wf s.regs → s.pfe.closed ≠ none → s.clk.phase ≠ .off → c ≠ 0 →
    ∃ t, exec (.trip c) s = .next t ∧ TripFrom c.val s t) ∧
  (∀ (a : Nat) (s : State), SMap.wf s.regs → s.pfe.closed ≠ none → s.clk.phase ≠ .off → s.get Reg.PFE_BKR_CTL_FAST_TRIP ≤ a →
    ∃ t, exec (.fastTrip a) s = .next t ∧ TripFrom 1 s t) ∧
  (∀ (a : Nat) (s : State), SMap.wf s.regs → s.pfe.closed ≠ none → s.clk.phase ≠ .off →
    2 ^ 32 ≤ (accStep s.feedPoints (decide (s.get Reg.PFE_BKR_CTL_I_LIM ≤ a)) a (s.get Reg.PFE_ACC) (s.get Reg.PFE_BKR_CTL2_DECAY_MS)).1 →
    ∃ t, exec (.breakerEvaluation a) s = .next t ∧ TripFrom 2 s t) ∧
  (∀ (a : Nat) (f : Feed) (s : State), SMap.wf s.regs → s.pfe.closed = some f → s.get Reg.PFE_BKR_CTL_I_LIM ≤ a →
    s.feedPoints = [] → s.get Reg.PFE_ACC ≤ 2 ^ 32 / (s.get Reg.PFE_BKR_CTL2_DECAY_MS * 1000) →
    ∃ t, exec (.breakerEvaluation a) s = .next t ∧ t = { s with regs := t.regs, pfe := t.pfe } ∧
      t.get Reg.PFE_ACC = 0 ∧ t.flag Reg.PFE_STATUS_ACC_IDLE = true ∧ t.flag Reg.PFE_STATUS_LIMITING = true ∧
      t.get Reg.PFE_FEED_MON_AMPS f.val = min 4095 a % 2 ^ 12 ∧
      OnlyRegs [(Reg.PFE_ACC, 0), (Reg.PFE_STATUS_ACC_IDLE, 0), (Reg.PFE_STATUS_LIMITING, 0), (Reg.PFE_FEED_MON_AMPS, f.val)] s t) ∧
  (∀ s : State, s.pfe.coolDown = true → s.flag Reg.PFE_BKR_CTL2_RETRY_EN = false →
    exec .coolDownEnd s = .next (((s.setFeedOk 0 false).setFeedOk 1 false).modPfe (fun p =>
      { p with coolDown := false, latched := true }))) ∧
  (∀ (r : Fin 11) (s : State), s.flag Reg.PFE_RAIL_IN_WINDOW r.val = true → s.clk.phase ≠ .off →
    ∃ t, exec (.railFault r) s = .next t ∧ t.clk.phase = .standby ∧ t.clk.modReady = false ∧ t.jnl = s.jnl ∧
      (∃ e ∈ t.flt.waiting, e.src = 0x0118 + r.val ∧ e.cls = fatal ∧ e.ctx.head? = some (byte r.val))) ∧
  (∀ s : State, (∀ r < 11, s.flag Reg.PFE_RAIL_IN_WINDOW r = true) → s.flag Reg.PFE_STATUS_ACC_IDLE = true →
    s.pfe.pwrgdQual = true →
    exec .pwrgdQualify s = .next ((s.setFlag Reg.PFE_STATUS_PWRGD 0 true).modPfe (fun p => { p with pwrgdQual := false })))

/-- Slot bus range, card insertion and removal, attention button (R651, R656, R657, R661, R665). -/
def Obligations.SlotBusAndPresence : Prop :=
  (∀ (v : Nat) (s : State), s.clk.phase ≠ .off → s.spc.uvOk = true → s.spc.ovOk = true →
    s.get Reg.SPC_BUS_CTL_UV_FALL < v → v < s.get Reg.SPC_BUS_CTL_OV_RISE →
    exec (.slotBusRangeChange v true) s = .next (({ s with spc := { s.spc with busTenthV := v } }.set
      Reg.SPC_BUS_STATUS_VOLTS 0 (min 4095 (5 * v))).setFlag Reg.SPC_BUS_STATUS_OK 0 true)) ∧
  (∀ (v : Nat) (s : State), s.clk.phase ≠ .off → s.spc.uvOk = true → s.spc.ovOk = true →
    v ≤ s.get Reg.SPC_BUS_CTL_UV_FALL → v < s.get Reg.SPC_BUS_CTL_OV_RISE → (∀ n < 16, s.flag Reg.SPC_CH_STATUS_ON n = false) →
    exec (.slotBusRangeChange v false) s = .next ((({ s with spc := { s.spc with busTenthV := v, uvOk := false } }.set
      Reg.SPC_BUS_STATUS_VOLTS 0 (min 4095 (5 * v))).setFlag Reg.SPC_BUS_STATUS_OK 0 false).report 0x0200 corrected 1 [])) ∧
  (∀ (n : Chan) (s : State), s.clk.phase ≠ .off → s.clk.modReady = true →
    exec (.slPrsntNFall n) s = .next ((s.setFlag Reg.SPC_CH_STATUS_PRSNT_RAW n.val true).modChan n.val
      (fun x => { x with debounce := true }))) ∧
  (∀ (n : Chan) (s : State), SMap.wf s.regs → (s.chan n.val).debounce = true → s.flag Reg.SPC_CH_STATUS_PRSNT_RAW n.val = true →
    s.flag Reg.SPC_CH_STATUS_PRSNT n.val = false → s.flag Reg.SPC_CH_CFG_AUTO_POWER n.val = true →
    s.flag Reg.SPC_CH_STATUS_COOLING n.val = false → s.flag Reg.SPC_CH_STATUS_LATCHED n.val = false →
    ∃ t, exec (.presenceDebounceEnd n) s = .next t ∧ t.flag Reg.SPC_CH_STATUS_PRSNT n.val = true ∧
      t.flag Reg.SPC_CH_STATUS_REQ_ON n.val = true ∧ t.pol = s.pol ∧ t.jnl = s.jnl ∧ t.mov = s.mov ∧ t.clk = s.clk) ∧
  (∀ (n : Chan) (s : State), s.clk.phase ≠ .off → s.flag Reg.SPC_CH_STATUS_ON n.val = false → s.flag Reg.SPC_CH_STATUS_PRSNT n.val = false →
    exec (.slotRemoval n) s = .next ((s.setFlag Reg.SPC_CH_STATUS_PRSNT_RAW n.val false).modChan n.val
      (fun x => { x with debounce := false }))) ∧
  (∀ (n : Chan) (s : State), SMap.wf s.regs → s.clk.phase ≠ .off → s.flag Reg.SPC_CH_STATUS_ON n.val = true →
    64 ≤ s.get Reg.SPC_CH_CFG_PORT n.val → s.flag Reg.SPC_CH_STATUS_PRSNT n.val = true → (s.chan n.val).openPend = false →
    ∃ t, exec (.slotRemoval n) s = .next t ∧ t.flag Reg.SPC_CH_STATUS_ON n.val = false ∧ t.flag Reg.SPC_CH_STATUS_PERST n.val = true ∧
      t.flag Reg.SPC_CH_STATUS_REQ_ON n.val = false ∧ t.flag Reg.SPC_CH_STATUS_PRSNT n.val = false ∧
      (∃ e ∈ t.flt.waiting, e.src = 0x0220 + n.val ∧ e.cls = contained) ∧ t.pol = s.pol ∧ t.jnl = s.jnl) ∧
  (∀ (n : Chan) (s : State), s.clk.phase ≠ .off → s.chanVppb n.val = none →
    exec (.attentionButtonPress n) s = .next ((s.setFlag Reg.SPC_CH_STATUS_BTN n.val true).report (0x0240 + n.val) corrected 0 [byte n.val]))

/-- What a trip of a slot channel leaves (R666, R668): the channel open and in reset, cooling down, its request cleared, the cause shown. -/
abbrev Sys2Proof.Claims.ChannelTripFrom (n cause : Nat) (t : State) : Prop :=
  t.flag Reg.SPC_CH_STATUS_ON n = false ∧ t.flag Reg.SPC_CH_STATUS_PGOOD n = false ∧ t.flag Reg.SPC_CH_STATUS_PERST n = true ∧
  t.flag Reg.SPC_CH_STATUS_REQ_ON n = false ∧ t.flag Reg.SPC_CH_STATUS_COOLING n = true ∧
  t.get Reg.SPC_CH_STATUS_TRIP_CAUSE n = cause ∧ (∃ e ∈ t.flt.waiting, e.src = 0x0210 + n ∧ e.cls = contained ∧ e.evt = cause)

/-- Slot channels: closing, power good, reset release, opening, trips and cool-down (R655, R658, R659, R660, R662, R663, R666, R667, R668). -/
def Obligations.SlotChannelPower : Prop :=
  (∀ (n : Chan) (s : State), s.mayClosePower n.val = true → s.flag Reg.SPC_CH_STATUS_ON n.val = false →
    exec (.channelClose n) s = .next (((s.setFlag Reg.SPC_CH_STATUS_ON n.val true).modChan n.val
      (fun x => { x with discharge := false })).chanEvent n.val 4)) ∧
  (∀ (n : Chan) (s : State), SMap.wf s.regs → s.flag Reg.SPC_CH_STATUS_ON n.val = true → s.flag Reg.SPC_CH_STATUS_PGOOD n.val = false →
    (s.chan n.val).openPend = false →
    ∃ t, exec (.channelCloseFail n) s = .next t ∧ t = { s with regs := t.regs, spc := t.spc, flt := t.flt } ∧
      t.flag Reg.SPC_CH_STATUS_ON n.val = false ∧ t.flag Reg.SPC_CH_STATUS_UNUSABLE n.val = true ∧
      t.flag Reg.SPC_CH_STATUS_PERST n.val = true ∧ (∃ e ∈ t.flt.waiting, e.src = 0x0250 + n.val ∧ e.cls = contained) ∧
      OnlyRegs [(Reg.SPC_CH_STATUS_ON, n.val), (Reg.SPC_CH_STATUS_PGOOD, n.val), (Reg.SPC_CH_STATUS_LIMITING, n.val),
        (Reg.SPC_CH_STATUS_PERST, n.val), (Reg.SPC_CH_STATUS_UNUSABLE, n.val)] s t) ∧
  (∀ (n : Chan) (s : State), SMap.wf s.regs → s.flag Reg.SPC_CH_STATUS_ON n.val = true → s.flag Reg.SPC_CH_STATUS_PGOOD n.val = false →
    (s.chan n.val).openPend = false →
    ∃ t, exec (.channelInrushTimeout n) s = .next t ∧ ChannelTripFrom n.val 3 t ∧ t.pol = s.pol ∧ t.jnl = s.jnl) ∧
  (∀ (n : Chan) (c : Fin 4) (s : State), SMap.wf s.regs → s.flag Reg.SPC_CH_STATUS_ON n.val = true → c ≠ 0 → (s.chan n.val).openPend = false →
    ∃ t, exec (.channelTrip n c) s = .next t ∧ ChannelTripFrom n.val c.val t ∧ t.pol = s.pol ∧ t.jnl = s.jnl) ∧
  (∀ (n : Chan) (a : Nat) (s : State), SMap.wf s.regs → s.clk.phase ≠ .off → s.flag Reg.SPC_CH_STATUS_ON n.val = true →
    s.get Reg.SPC_CH_LIM_FAST_TRIP n.val ≤ a → (s.chan n.val).openPend = false →
    ∃ t, exec (.channelBreakerEvaluation n a) s = .next t ∧ ChannelTripFrom n.val 1 t ∧ t.pol = s.pol ∧ t.jnl = s.jnl) ∧
  (∀ (n : Chan) (a : Nat) (s : State), SMap.wf s.regs → s.clk.phase ≠ .off → s.flag Reg.SPC_CH_STATUS_ON n.val = false →
    s.get Reg.SPC_CH_ACC n.val = 0 → s.chanPoints n.val = [] →
    ∃ t, exec (.channelBreakerEvaluation n a) s = .next t ∧ t = { s with regs := t.regs } ∧ t.get Reg.SPC_CH_ACC n.val = 0 ∧
      t.flag Reg.SPC_CH_STATUS_ACC_IDLE n.val = true ∧ t.flag Reg.SPC_CH_STATUS_LIMITING n.val = false) ∧
  (∀ (n : Chan) (s : State), s.flag Reg.SPC_CH_STATUS_ON n.val = true → s.flag Reg.SPC_CH_STATUS_ACC_IDLE n.val = true →
    s.flag Reg.SPC_CH_STATUS_PGOOD n.val = false → (s.chan n.val).openPend = false →
    exec (.slPgoodQualify n) s = .next ((s.setFlag Reg.SPC_CH_STATUS_PGOOD n.val true).modChan n.val
      (fun x => { x with perstPend := true }))) ∧
  (∀ (n : Chan) (s : State), (s.chan n.val).perstPend = true → s.flag Reg.SPC_CH_STATUS_PGOOD n.val = true →
    exec (.slPerstRelease n) s = .next (((s.setFlag Reg.SPC_CH_STATUS_PERST n.val false).modChan n.val
      (fun x => { x with perstPend := false })).train (s.get Reg.SPC_CH_CFG_PORT n.val))) ∧
  (∀ (n : Chan) (s : State), SMap.wf s.regs → s.flag Reg.SPC_CH_STATUS_REQ_ON n.val = true → s.flag Reg.SPC_CH_STATUS_ON n.val = true →
    ∃ t, exec (.channelOpenRequest n) s = .next t ∧ t = { s with regs := t.regs, spc := t.spc } ∧
      t.flag Reg.SPC_CH_STATUS_REQ_ON n.val = false ∧ t.flag Reg.SPC_CH_STATUS_PERST n.val = true ∧ (t.chan n.val).openPend = true ∧
      OnlyRegs [(Reg.SPC_CH_STATUS_REQ_ON, n.val), (Reg.SPC_CH_STATUS_PERST, n.val)] s t) ∧
  (∀ (n : Chan) (s : State), SMap.wf s.regs → (s.chan n.val).openPend = true → s.chanVppb n.val = none →
    ∃ t, exec (.channelSwitchOpen n) s = .next t ∧ t = { s with regs := t.regs, spc := t.spc } ∧
      t.flag Reg.SPC_CH_STATUS_ON n.val = false ∧ t.flag Reg.SPC_CH_STATUS_PGOOD n.val = false) ∧
  (∀ (n : Chan) (s : State), s.flag Reg.SPC_CH_STATUS_COOLING n.val = true →
    exec (.channelCoolDownEnd n) s = .next ((s.setFlag Reg.SPC_CH_STATUS_COOLING n.val false).modChan n.val
      (fun x => { x with debounce := s.flag Reg.SPC_CH_STATUS_PRSNT_RAW n.val }))) ∧
  (∀ (u : Port) (v : Fin 32) (n : Nat) (b : Bind) (s : State), SMap.wf s.regs → s.isUsp u.val = true → bindable v.val = true →
    s.bindOf u.val v.val = some b → b.ldId = none → s.slotOf u.val v.val = some n → s.flag Reg.SPC_CH_STATUS_ON n = true →
    ∃ t, exec (.slotControlWrite u v true 3 3) s = .next t ∧ t = { s with regs := t.regs, spc := t.spc, prt := t.prt } ∧
      t.flag Reg.SPC_CH_STATUS_REQ_ON n = false ∧ t.flag Reg.SPC_CH_STATUS_PERST n = true ∧ (t.chan n).openPend = true ∧
      OnlyRegs [(Reg.SPC_CH_STATUS_REQ_ON, n), (Reg.SPC_CH_STATUS_PERST, n)] s t)

/-- Power and slot commands: PFE_INFO, PFE_SWITCH, PFE_HOLDUP_TEST, SLOT_INFO, SLOT_POWER, SLOT_BIND, SLOT_INDICATOR (R647, R652, R656, R662, R664, R668, R674). -/
def Obligations.PowerAndSlotCommands : Prop :=
  Reads .pfeInfo 0xC100 .observe 0 always (fun _ _ _ b => b.length = 68) ∧
  (∀ (f : Feed) (h : Hdr) (p : Bytes) (s : State), Operating s → Privileged .operate h s → p.length = 0 → s.pfe.closed = some f →
    s.feedOk (otherFeed f).val = true → s.feedUnusable (otherFeed f).val = false → s.pfe.want = none → s.pfe.settling = false →
    exec (.pfeSwitch h p) s = .next (answered 0xC101 stSuccess h s [] ((request 0xC101 .operate h p s).modPfe
      (fun x => { x with want := some (otherFeed f) })))) ∧
  Starts .pfeHoldupTest 0xC102 .admin 0 false (fun _ _ s => s.flag Reg.PFE_STATUS_ON_HOLDUP = false ∧ s.pfe.holdupTest = none)
    (fun _ _ s => ((s.setFlag Reg.PFE_STATUS_HU_READY 0 false).set Reg.PFE_HU_VOLTS 0 2250).modPfe
      (fun x => { x with charging := true, holdupTest := some s.cmd.nextBg })) ∧
  (∀ (h : Hdr) (p : Bytes) (s : State), Operating s → Privileged .observe h s → p.length = 0 →
    ∃ b, b.length = 196 ∧ exec (.slotInfo h p) s = .next (answered 0xC110 stSuccess h s b
      { request 0xC110 .observe h p s with fresh := s.fresh + 16 })) ∧
  Does .slotPower 0xC111 .operate 3 (fun _ p s => p8 p 0 < 16 ∧ p8 p 1 = 1 ∧ s.hostChan (p8 p 0) = false)
    (fun _ p s => s.setRequest (p8 p 0)) ∧
  Does .slotPower 0xC111 .operate 3 (fun _ p s => p8 p 0 < 16 ∧ p8 p 1 = 0 ∧ s.hostChan (p8 p 0) = false ∧
      64 ≤ s.get Reg.SPC_CH_CFG_PORT (p8 p 0)) (fun _ p s => s.clearRequest (p8 p 0)) ∧
  Does .slotPower 0xC111 .operate 3 (fun _ p _ => p8 p 0 < 16 ∧ p8 p 1 = 2)
    (fun _ p s => s.setFlag Reg.SPC_CH_STATUS_LATCHED (p8 p 0) false) ∧
  Does .slotBind 0xC112 .admin 2 (fun _ p s => p8 p 0 < 16 ∧ p8 p 1 < 64 ∧ p8 p 1 ≠ s.get Reg.SPC_CH_CFG_PORT (p8 p 0) ∧
      s.chanBindRefused (p8 p 0) (p8 p 1) = false)
    (fun _ p s => (s.set Reg.SPC_CH_CFG_PORT (p8 p 0) (p8 p 1)).journal (.field (Reg.SPC_CH_CFG_PORT.key (p8 p 0)) (p8 p 1))) ∧
  Does .slotIndicator 0xC113 .operate 3 (fun _ p s => p8 p 0 < 16 ∧ 1 ≤ p8 p 1 ∧ p8 p 1 < 4 ∧ 1 ≤ p8 p 2 ∧ p8 p 2 < 4 ∧
      s.hostChan (p8 p 0) = false)
    (fun _ p s => (((s.modChan (p8 p 0) (fun x => { x with lastPwr := p8 p 1, lastAtn := p8 p 2 })).set
      Reg.SPC_CH_IND_PWR (p8 p 0) (p8 p 1)).set Reg.SPC_CH_IND_ATN (p8 p 0) (p8 p 2)))

/-- COLD, MODULE and WARM starts, MRST_N, the restore and MOD_READY (R588, R589, R592, R596, R597, R599, R691). -/
def Obligations.StartKinds : Prop :=
  (∀ (b : ColdInputs) (s : State), SMap.wf s.regs → s.clk.phase = .off → s.pfe.standbyOn = true → s.clk.mrstLow = false →
    ∃ t, exec (.coldStart b) s = .next t ∧ t.clk.phase = .boot ∧ t.tim.counter = 0 ∧ t.get Reg.CLK_RST_CAUSE_KIND = 1 ∧
      t.get Reg.CLK_RST_CAUSE_TRIGGER = 0 ∧ t.flag Reg.SEM_TWIN_STATUS_TWIN_B = strapLast b.twinId ∧
      t.flag Reg.FLT_STATUS_TEST_EN = !strapLast b.testEnN ∧ t.tim.ethMode = strapLast b.ethMode ∧ t.pol = Pol.reset ∧
      t.vlt = Vlt.reset ∧ t.trec = Rec.reset ∧ t.tbl = Tbl.reset ∧ t.flt.hist = [] ∧ t.clk.startPend = none ∧ t.clk.modReady = false) ∧
  (∀ s : State, s.clk.phase ≠ .off →
    ∃ t, exec .mrstNFall s = .next t ∧ t.clk.phase = .standby ∧ t.clk.mrstLow = true ∧ t.clk.modReady = false ∧
      t.clk.startPend = none ∧ t.jnl = { s.jnl with flash := s.jnl.flash ++ s.jnl.buf, buf := [] } ∧ t.pol = Pol.reset) ∧
  (∀ (ns : Nat) (s : State), s.clk.phase ≠ .off → s.clk.mrstLow = true →
    exec (.mrstNRise ns) s = .next { s with clk := { s.clk with mrstLow := false, startPend := some { kind := 2, trigger := 1, source := 0 } } }) ∧
  (∀ (x : BitVec 8) (y : BitVec 16) (s : State), SMap.wf s.regs → s.clk.phase ≠ .off → s.clk.mrstLow = false →
    s.clk.startPend = some { kind := 2, trigger := x.toNat, source := y.toNat } → s.clk.commanded = false →
    ∃ t, exec (.moduleStart x y) s = .next t ∧ t.clk.phase = .boot ∧ t.get Reg.CLK_RST_CAUSE_KIND = 2 ∧
      t.get Reg.CLK_RST_CAUSE_TRIGGER = x.toNat ∧ t.get Reg.CLK_RST_CAUSE_SOURCE = y.toNat ∧
      t.flag Reg.FLT_STATUS_SAFE_MODULE = false ∧ t.hlm.sessions = [] ∧ t.cmd = { Cmd.reset with nextBg := s.cmd.nextBg } ∧
      t.pol = Pol.reset ∧ t.vlt = Vlt.reset ∧ t.flt.hist = s.flt.hist ∧ t.hlm.ledger = s.hlm.ledger ∧ t.clk.startPend = none) ∧
  (∀ (x : BitVec 8) (s : State), SMap.wf s.regs → s.mainUp = true → s.flag Reg.FLT_STATUS_SAFE_MODULE = false → s.clk.mrstLow = false →
    s.clk.startPend = some { kind := 3, trigger := x.toNat, source := 0 } → s.vlt.crucible = [] →
    ∃ t, exec (.warmStart x) s = .next t ∧ t.clk.phase = .boot ∧ t.get Reg.CLK_RST_CAUSE_KIND = 3 ∧
      t.get Reg.CLK_RST_CAUSE_TRIGGER = x.toNat ∧ t.vlt.pages = s.vlt.pages ∧ t.vlt.remaps = s.vlt.remaps ∧
      t.dir.entries = s.dir.entries ∧ t.trec.records = s.trec.records ∧ t.pol = Pol.reset ∧ t.clk.warm = true ∧ t.clk.startPend = none) ∧
  (∀ (x : StartTests) (s : State), s.clk.phase = .released →
    ∃ t, exec (.journalRestore x) s = .next t ∧ t.clk.phase = .restored ∧ t.clk.startRecord = true ∧ t.clk.checkpointed = true ∧
      t.flag Reg.VLT_STATUS_READY = true ∧ t.flag Reg.COMMON_READY 0x0D = true) ∧
  (∀ s : State, s.clk.phase = .restored → s.canBeReady = true →
    ∃ t, exec .modReadyAssert s = .next t ∧ t.clk.phase = .ready ∧ t.clk.modReady = true ∧ t.pol = s.pol ∧ t.jnl = s.jnl ∧
      t.tbl = s.tbl ∧ t.flt = s.flt ∧ t.trec = s.trec)

/-- Root PLL, temperature, JTAG, the journal's flush and compaction, and the reset commands (R107, R108, R561, R599, R607, R611, R693, R702, R704, R706). -/
def Obligations.ClocksThermalJtagAndJournal : Prop :=
  (∀ s : State, SMap.wf s.regs → s.clk.phase ≠ .off → s.clk.rootPll = true →
    ∃ t, exec .rootPllFail s = .next t ∧ t.clk = { s.clk with rootPll := false } ∧ t.tim = { s.tim with oscillator := true } ∧
      t.quality = 0 ∧ t.get Reg.TIM_STATUS_STATE = 0 ∧ (∃ e ∈ t.flt.waiting, e.src = 0x0300 ∧ e.cls = fatal) ∧ (∃ e ∈ t.flt.waiting, e.src = 0x1003 ∧ e.cls = corrected) ∧
      t.pol = s.pol ∧ t.jnl = s.jnl ∧ t.out = s.out) ∧
  (∀ s : State, s.clk.phase = .boot →
    exec .rootPllNoLock s = .next ({ s with clk := { s.clk with rootPll := false } }.report 0x0300 fatal 0 [])) ∧
  (∀ (c : Int) (s : State), s.clk.phase ≠ .off → 88 ≤ c → s.clk.thermN = false →
    exec (.thermalWarning c) s = .next (({ (s.set Reg.CLK_THERM_LID_C 0 (unsignedOf 8 c)) with clk := { s.clk with thermN := true } }.setFlag
      Reg.CLK_THERM_WARN 0 true).report 0x0301 corrected 0 [])) ∧
  (∀ (c : Int) (s : State), s.clk.phase ≠ .off → c ≤ 85 → s.clk.thermN = true →
    exec (.thermalWarning c) s = .next ({ (s.set Reg.CLK_THERM_LID_C 0 (unsignedOf 8 c)) with clk := { s.clk with thermN := false } }.setFlag
      Reg.CLK_THERM_WARN 0 false)) ∧
  (∀ (n : Fin 33) (c : Int) (s : State), s.clk.phase ≠ .off → n.val < 32 → 120 ≤ c →
    exec (.thermalTrip n c) s = .next ({ (s.set Reg.CLK_THERM_JUNC_C 0 (unsignedOf 8 c)) with clk := { s.clk with gated := true } }.report
      0x0302 fatal 0 [byte n.val])) ∧
  (∀ (c : Int) (s : State), s.clk.phase ≠ .off → 98 ≤ c →
    exec (.thermalTrip 32 c) s = .next ({ (s.set Reg.CLK_THERM_LID_C 0 (unsignedOf 8 c)) with clk := { s.clk with gated := true } }.report
      0x0302 fatal 0 [byte 32])) ∧
  (∀ s : State, s.clk.phase ≠ .off →
    exec (.jtagTapOperation .idcode) s = .next ({ s with jtag := { s.jtag with driving := false, highz := false } }.emit
      (.jtag (leBytes 4 0x29640D9B)))) ∧
  (∀ s : State, s.clk.phase ≠ .off → s.flag Reg.FLT_STATUS_TEST_EN = false →
    exec (.jtagTapOperation .highz) s = .next ({ s with jtag := { s.jtag with driving := false, highz := false } }.emit (.jtag []))) ∧
  (∀ s : State, s.clk.phase ≠ .off →
    exec .journalBufferFlush s = .next { s with jnl := { s.jnl with flash := s.jnl.flash ++ s.jnl.buf, buf := [] } }) ∧
  (∀ s : State, s.jnl.high = true → s.jnl.bad = none → s.clk.phase ≠ .off →
    exec .journalCompaction s = .next { s with jnl := { s.jnl with flash := compacted (s.jnl.flash ++ s.jnl.buf), buf := [] } }) ∧
  Does .moduleWarmReset 0xC010 .admin 0 (fun _ _ s => s.clk.startPend = none)
    (fun _ _ s => { s with clk := { s.clk with startPend := some { kind := 3, trigger := 5, source := 0 } } }) ∧
  (∀ (h : Hdr) (p : Bytes) (s : State), Operating s → Privileged .admin h s → p.length = 0 → s.clk.startPend = none →
    exec (.moduleStandby h p) s = .next (answered 0xC011 stSuccess h s []
      { request 0xC011 .admin h p s with clk := { s.clk with commanded := true } }).enterStandby) ∧
  Does .journalFlush 0xC012 .operate 0 always (fun _ _ s => { s with jnl := { s.jnl with flash := s.jnl.flash ++ s.jnl.buf, buf := [] } }) ∧
  Does .journalClear 0xC013 .admin 1 (fun _ p s => s.flag Reg.HLM_STATUS_LOCKED = false ∧ s.validExtents = [] ∧
      s.flag Reg.SEM_TWIN_STATUS_ENABLED = false ∧ p8 p 0 = 1)
    (fun _ _ s => (s.setFlag Reg.CLK_JOURNAL_CLEAR_PEND 0 true).journal (.clear true))

/-- Boot ROM, BOOT entry, ANCHOR, ledger entries, reclaim and the trial deadline (R524, R525, R528, R531, R538, R544, R567). -/
def Obligations.MeasuredBootAndLedger : Prop :=
  (∀ (a b : Bool) (i : Nat) (s : State), SMap.wf s.regs → s.clk.phase = .boot → s.hlm.trialSlot = none → s.hlm.committed = i → i ≤ 1 →
    (if i = 0 then a else b) = true → s.slotBoots i = true → s.jnl = Journal.reset → s.hlm.ledger = [] → s.hlm.torn = [] →
    s.hlm.gapLost = none → s.hlm.dropped = 0 → s.get Reg.HLM_LEDGER_HEAD = 0 →
    ∃ t, exec (.bootRomStart a b none) s = .next t ∧ t.clk.phase = .keyed ∧ t.get Reg.HLM_STATUS_SLOT = i ∧
      t.get Reg.HLM_BOOT_COUNTER = 1 ∧ t.hlm.assays = (s.slotAt? i).parsed.assays ∧
      t.hlm.aliasPub = Config.aliasPublic (aliasSeed t.hlm.assays) ∧ t.get Reg.HLM_LEDGER_HEAD = 1 ∧
      (∃ e, SMap.find t.hlm.ledger 0 = some e ∧ fieldAt e 6 2 % 16 = 2 ∧ fieldAt e 12 4 = 1)) ∧
  (∀ s : State, s.clk.phase = .boot → s.hlm.trialSlot = none →
    ∃ t, exec (.bootRomStart false false none) s = .next t ∧ t.clk.phase = .recovery ∧ t.hlm.ledger = s.hlm.ledger ∧
      (∃ e ∈ t.flt.waiting, e.src = 0x0E05 ∧ e.cls = contained)) ∧
  (∀ s : State, SMap.wf s.regs → s.clk.phase = .keyed → s.clk.rootPll = true → s.flag Reg.FLT_STATUS_SAFE_MODULE = false →
    ∃ t, exec .bootEntryWrite s = .next t ∧ t.clk.phase = .released ∧ t.clk.bootWritten = true ∧ t.clk.lockApplied = true ∧
      t.flag Reg.PFE_STATUS_MAIN_ON = true ∧ t.flag Reg.PFE_RAIL_IN_WINDOW 0 = true ∧ t.flag Reg.PFE_RAIL_IN_WINDOW 7 = true ∧
      (SMap.find t.hlm.ledger s.ledgerHead).isSome = true ∧ t.tim.counter = s.tim.counter ∧ t.jnl = s.jnl) ∧
  (∀ (x y : Nat) (s : State), s.tim.anchor = some (1, x, y) → s.hlmRuns = true →
    ∃ t, exec .anchor s = .next t ∧ t.tim = { s.tim with anchor := none } ∧ t.flag Reg.TIM_STATUS_ANCHORED = true ∧
      t.hlm = { s.hlm with due := s.hlm.due ++ [{ kind := 3, flags := 0, cause := leBytes 4 0, area := timeBytes x, time := some y }] }) ∧
  (∀ (o : Occasion) (r : List Occasion) (s : State), SMap.wf s.regs → s.hlm.due = o :: r → s.hlmRuns = true → s.hlm.torn = [] → s.ledgerFull = false →
    s.hlm.pend = [] → s.pfe.imminent = false → s.hlm.gapLost = none → s.hlm.dropped = 0 → o.kind < 16 → o.flags % 16 = 0 →
    ∃ t, exec .ledgerEntryWrite s = .next t ∧ t.hlm.due = r ∧ t.get Reg.HLM_LEDGER_HEAD = (s.ledgerHead + 1) % 2 ^ 32 ∧
      (∃ e, SMap.find t.hlm.ledger s.ledgerHead = some e ∧ fieldAt e 6 2 % 16 = o.kind) ∧ t.jnl = s.jnl ∧ t.tim = s.tim ∧ t.out = s.out) ∧
  (∀ s : State, s.ledgerFull = false → s.clk.phase = .ledgerHold →
    ∃ t, exec .ledgerBlockReclaim s = .next t ∧ t.clk.phase = .keyed ∧ t.clk.startTick = s.tick ∧ t.jnl = s.jnl) ∧
  (∀ s : State, s.flag Reg.HLM_STATUS_TRIAL = true → s.clk.phase = .released →
    exec .trialBootDeadline s = .next { s with clk := { s.clk with startPend := some { kind := 2, trigger := 7, source := 0 } } })

/-- SPDM sessions, migration keys and IDE keys (R224, R540, R542, R548). -/
def Obligations.SessionsAndKeys : Prop :=
  (∀ (l : SpdmLink) (s : State), s.hlmRuns = true → exec (.spdmRequest l .getVersion) s = .next (s.emit (.spdm l 0x04 [0x12]))) ∧
  (∀ (l : SpdmLink) (c : BitVec 8) (s : State), s.hlmRuns = true →
    exec (.spdmRequest l (.other c)) s = .next (s.emit (.spdm l 0x7F [0x07, c]))) ∧
  (∀ (l : SpdmLink) (x : Bool) (s : State), s.hlmRuns = true → s.hlm.sessions.length < 16 → s.sessionsOn l < 4 →
    ∃ (t : State) (b : Bytes), exec (.spdmRequest l (.keyExchange 0 x)) s = .next t ∧ t.out = .spdm l 0x64 b :: s.out ∧
      t = { s with out := t.out, fresh := s.fresh + 1, hlm := t.hlm } ∧
      t.hlm = { s.hlm with sessions := t.hlm.sessions, nextSession := s.hlm.nextSession + 1 } ∧
      t.hlm.sessions = s.hlm.sessions ++
        [{ id := s.hlm.nextSession, link := l, opened := false, leaf := [], admin := false, factory := false }]) ∧
  (∀ (l : SpdmLink) (id : Nat) (d leaf : Bytes) (s : State), s.hlmRuns = true → (s.sessionBy l id false).isSome = true → d ≠ zeroHash →
    d ∈ s.hlm.mgmtRoots →
    exec (.spdmRequest l (.finish id true (some (d, leaf)))) s = .next ((s.modHlm (fun m =>
      { m with sessions := updFirst (fun (x : Session) => x.id == id) (fun x =>
                 { x with opened := true, admin := true, leaf := leaf, factory := s.flag Reg.FLT_STATUS_TOUCHSTONE && linkWired l })
                 m.sessions })).emit (.spdm l 0x65 []))) ∧
  (∀ (id : Nat) (s : State),
    exec (.spdmHeartbeatMiss id) s = .next { s with hlm := { s.hlm with sessions := s.hlm.sessions.filter (fun x => x.id != id) } }) ∧
  (∀ (u : Port) (id : Nat) (k : Fin 8) (key : Bytes) (s : State), s.hlmRuns = true → (s.sessionBy (.doePf u) id true).isSome = true →
    key.length = 48 →
    exec (.migrationKeyInstall u id k key) s = .next ((s.modHlm (fun m =>
      { m with migKeys := m.migKeys.filter (fun (x : Nat × Nat × Bytes) => !(x.1 == u.val && x.2.1 == k.val))
                 ++ [(u.val, k.val, key)] })).emit (.spdm (.doePf u) 0x7E []))) ∧
  (∀ (u : Port) (id : Nat) (n : Fin 2) (key : Bytes) (s : State), SMap.wf s.regs → s.hlmRuns = true →
    (s.sessionBy (.doeUsp u) id true).isSome = true → s.isUsp u.val = true → key.length = 32 →
    ∃ t, exec (.ideKmKeyReceive u id 0 n key) s = .next t ∧
      t = { s with regs := t.regs, prt := t.prt, hlm := { s.hlm with ide := t.hlm.ide }, out := .spdm (.doeUsp u) 0x7E [] :: s.out } ∧
      (SMap.get t.hlm.ide (8 * u.val) IdeStream.dflt).keySet = n.val ∧ (n.val, key) ∈ (SMap.get t.hlm.ide (8 * u.val) IdeStream.dflt).keys ∧
      t.get Reg.HLM_IDE_CFG_STATE u.val = 1 ∧ OnlyRegs [(Reg.HLM_IDE_CFG_STATE, u.val)] s t)

/-- Hallmark commands: ledger, certificates, firmware update, lock and roots (R536, R543, R545, R546, R547, R553). -/
def Obligations.HallmarkCommands : Prop :=
  Reads .hlmInfo 0xC900 .observe 0 always (fun _ _ _ b => b.length = 33) ∧
  Reads .ledgerRead 0xC901 .observe 5 (fun _ p s => p8 p 4 = 1 ∧ (SMap.find s.hlm.ledger (p32 p 0)).isSome = true)
    (fun _ p s b => some b = SMap.find s.hlm.ledger (p32 p 0)) ∧
  Does .ledgerArchiveAck 0xC902 .operate 4 (fun _ p s => p32 p 0 < s.ledgerHead)
    (fun _ p s => ((s.set Reg.HLM_LEDGER_ARCHIVED 0 (max (s.get Reg.HLM_LEDGER_ARCHIVED) (p32 p 0 + 1))).journal
      (.archived (max (s.get Reg.HLM_LEDGER_ARCHIVED) (p32 p 0 + 1)))).ledgerLow) ∧
  (∀ (h : Hdr) (p : Bytes) (s : State), Operating s → Privileged .observe h s → p.length = 8 → 4 ≤ p32 p 4 → p32 p 4 ≤ 4064 →
    exec (.identityCertRead h p) s = .next (if p32 p 0 + p32 p 4 ≤ s.certChain.length then
        answered 0xC903 stSuccess h s (slice s.certChain (p32 p 0) (p32 p 4)) (request 0xC903 .observe h p s)
      else answered 0xC903 stBadParam h s (leBytes 4 (if p32 p 0 < s.certChain.length then 4 else 0)) (request 0xC903 .observe h p s))) ∧
  Does .fwUpdateStart 0xC910 .admin 1 (fun _ p s => p8 p 0 ≤ 1 ∧ p8 p 0 ≠ s.get Reg.HLM_STATUS_SLOT ∧ s.hlm.verifying = none ∧
      s.hlm.trialSlot = none ∧ s.hlm.trialNext = none)
    (fun _ p s => { s with hlm := { s.hlm with slots := s.hlm.slots.modify (p8 p 0) (fun _ => FwSlot.empty), target := some (p8 p 0) } }) ∧
  (∀ (i : Nat) (h : Hdr) (p : Bytes) (s : State), Operating s → Privileged .admin h s → 8 ≤ p.length → p.length ≤ 4096 → s.hlm.target = some i →
    (s.slotAt? i).written ≤ p32 p 0 → p32 p 0 + (p.length - 8) ≤ 2 ^ 24 → i ≠ s.get Reg.HLM_STATUS_SLOT → s.hlm.verifying = none →
    s.hlm.trialSlot = none → s.hlm.trialNext = none →
    exec (.fwUpdateWrite h p) s = .next (answered 0xC911 stSuccess h s [] ((request 0xC911 .admin h p s).modSlot i (fun x =>
      { x with image := SMap.write x.image (fun _ => 0xFF) (p32 p 0) (p.drop 8), valid := false, written := p32 p 0 + (p.drop 8).length })))) ∧
  Starts .fwUpdateVerify 0xC912 .admin 1 false (fun _ p s => p8 p 0 ≤ 1 ∧ p8 p 0 ≠ s.get Reg.HLM_STATUS_SLOT ∧ s.hlm.verifying = none)
    (fun _ p s => { s with hlm := { s.hlm with verifying := some (s.cmd.nextBg, p8 p 0) } }) ∧
  Does .fwActivate 0xC913 .admin 2 (fun _ p s => p8 p 0 ≤ 1 ∧ p8 p 1 = 0 ∧ (s.slotAt? (p8 p 0)).valid = true ∧
      p8 p 0 ≠ s.get Reg.HLM_STATUS_SLOT ∧ s.flag Reg.HLM_STATUS_TRIAL = false)
    (fun _ p s => ({ s with hlm := { s.hlm with trialSlot := some (p8 p 0), trialBegun := false } }).ledgeUpdate 2 (p8 p 0)) ∧
  (∀ (h : Hdr) (p : Bytes) (s : State), Operating s → Privileged .admin h s → p.length = 0 → SMap.wf s.regs →
    s.flag Reg.HLM_STATUS_TRIAL = true → s.clk.startPend = none →
    ∃ t, exec (.fwCommit h p) s = .next (answered 0xC914 stSuccess h s [] t) ∧ t.hlm.committed = s.get Reg.HLM_STATUS_SLOT ∧
      t.hlm.trialSlot = s.hlm.trialNext ∧ t.flag Reg.HLM_STATUS_TRIAL = false ∧
      t.get Reg.HLM_STATUS_SVN_MIN = max (s.get Reg.HLM_STATUS_SVN_MIN) (s.slotAt? (s.get Reg.HLM_STATUS_SLOT)).svn % 2 ^ 8 ∧
      (∃ o, t.hlm.due = s.hlm.due ++ [o] ∧ o.kind = 5) ∧ t.jnl = s.jnl ∧ t.pol = s.pol) ∧
  (∀ (x : Bool) (h : Hdr) (p : Bytes) (s : State), Operating s → Privileged .admin h s → p.length = 0 → s.flag Reg.HLM_STATUS_LOCKED = !x →
    ∃ (t : State) (who : Bytes), exec (if x then .configLock h p else .configUnlock h p) s =
        .next (answered (if x then 0xC920 else 0xC921) stSuccess h s t.digest t) ∧ who.length = 16 ∧
      t = (((request (if x then 0xC920 else 0xC921) .admin h p s).setFlag Reg.HLM_STATUS_LOCKED 0 x).journal (.lock x)).ledge 4 0
        (leBytes 4 0) (leBytes 1 (b2n x) ++ [0, 0, 0] ++ who)) ∧
  Does .rootSet 0xC922 .admin 52 (fun _ p s => s.flag Reg.HLM_STATUS_LOCKED = false ∧ p8 p 0 = 0 ∧ p8 p 1 < 2)
    (fun _ p s => ({ s with hlm := { s.hlm with mgmtRoots := s.hlm.mgmtRoots.set (p8 p 1) (slice p 4 48) } }).journal
      (.mgmtRoot (p8 p 1) (slice p 4 48))) ∧
  Does .rootSet 0xC922 .admin 52 (fun _ p s => s.flag Reg.HLM_STATUS_LOCKED = false ∧ p8 p 0 = 1 ∧ p8 p 1 < 4)
    (fun _ p s => ({ s with hlm := { s.hlm with devRoots := s.hlm.devRoots.set (p8 p 1) (slice p 4 48) } }).journal
      (.devRoot (p8 p 1) (slice p 4 48)))

/-- TIM: PTP and PPS measurements, lock, loss, holdover, PPS_OUT and the time commands (R558, R562, R563, R564, R565, R567, R586). -/
def Obligations.TimeDiscipline : Prop :=
  (∀ (m prio steps d : Nat) (s : State), s.clk.phase ≠ .off → s.flag Reg.TIM_CTL_PTP_EN = true → d = s.tim.domain →
    ∃ t, exec (.ptpMessage (.announce m prio steps d)) s = .next t ∧ t = { s with regs := t.regs, tim := t.tim } ∧
      t.tim.masters = { ident := m, priority := prio, steps := steps,
                        count := ((s.tim.masters.find? (fun x => x.ident == m)).map Master.count).getD 0 + 1 } ::
        s.tim.masters.filter (fun y => y.ident != m) ∧ t.tim.counter = s.tim.counter) ∧
  (∀ (m : Nat) (y : Int) (x : Master) (s : State), s.clk.phase ≠ .off → s.flag Reg.TIM_CTL_PTP_EN = true → s.tim.master = some x →
    x.ident = m → exec (.ptpMessage (.delayResp m s.tim.domain y)) s = .next { s with tim := { s.tim with pathDelay := y } }) ∧
  (∀ (y : Int) (x : Master) (s : State), SMap.wf s.regs → s.clk.phase ≠ .off → s.flag Reg.TIM_CTL_PTP_EN = true → s.tim.master = some x →
    s.usesPtp = true → s.servo = servoLocked → y ≤ 4 * ((s.get Reg.TIM_SERVO_LOCK_NS : Int) * nsUnit) →
    -(4 * ((s.get Reg.TIM_SERVO_LOCK_NS : Int) * nsUnit)) ≤ y →
    ∃ t, exec (.ptpMessage (.sync x.ident s.tim.domain y)) s = .next t ∧
      t = { s with regs := t.regs, fresh := s.fresh + 1, tim := { s.tim with secondsKnown := true, bad := 0 } } ∧
      t.servo = servoLocked ∧ t.get Reg.TIM_OFFSET = unsignedOf 32 (y / nsUnit) ∧
      OnlyRegs [(Reg.TIM_OFFSET, 0), (Reg.TIM_FREQ_ADJ, 0)] s t) ∧
  (∀ s : State, s.clk.phase ≠ .off → s.flag Reg.TIM_CTL_PPS_IN_EN = true → s.tim.secondsKnown = true → s.tim.ppsDiscard = true →
    exec .ppsInEdge s = .next { s with tim := { s.tim with ppsDiscard := false } }) ∧
  (∀ s : State, s.clk.phase ≠ .off → s.flag Reg.TIM_CTL_PPS_IN_EN = true → s.tim.secondsKnown = true → s.tim.ppsDiscard = false →
    s.tim.master = none → s.get Reg.TIM_STATUS_SRC = 1 → s.servo = servoLocked →
    s.ppsOffset ≤ 4 * ((s.get Reg.TIM_SERVO_LOCK_NS : Int) * nsUnit) → -(4 * ((s.get Reg.TIM_SERVO_LOCK_NS : Int) * nsUnit)) ≤ s.ppsOffset →
    ∃ t, exec .ppsInEdge s = .next t ∧ t = { s with regs := t.regs, fresh := s.fresh + 1, tim := { s.tim with shadowSet := true, bad := 0 } } ∧
      t.servo = servoLocked) ∧
  (∀ s : State, SMap.wf s.regs → s.servo = servoAcquire → 16 ≤ s.tim.good → s.tim.lockedOnce = false →
    ∃ t, exec .servoLock s = .next t ∧ t = { s with regs := t.regs, tim := t.tim } ∧ t.servo = servoLocked ∧
      t.tim.counter = ((s.tim.counter : Int) + s.tim.shadow).toNat ∧ t.tim.anchor = some (1, s.tim.counter, t.tim.counter) ∧
      t.quality = (if s.get Reg.TIM_STATUS_SRC = 1 then 3 else 2) ∧ t.tim.lockedOnce = true) ∧
  (∀ s : State, SMap.wf s.regs → s.servo = servoLocked → s.get Reg.TIM_STATUS_SRC = 1 →
    ∃ t, exec (.sourceLoss .ppsMissing) s = .next t ∧ t.servo = servoHoldover ∧ t.quality = 1 ∧
      t.tim = { s.tim with good := 0, bad := 0 } ∧ (∃ e ∈ t.flt.waiting, e.src = 0x1000 ∧ e.cls = corrected) ∧ t.pol = s.pol) ∧
  (∀ s : State, SMap.wf s.regs → s.servo = servoHoldover →
    ∃ t, exec .holdoverExpiry s = .next t ∧ t.servo = servoFree ∧ t.quality = 0 ∧ t.tim = s.tim ∧
      (∃ e ∈ t.flt.waiting, e.src = 0x1001 ∧ e.cls = corrected) ∧ t.pol = s.pol) ∧
  (∀ s : State, s.flag Reg.TIM_CTL_PPS_OUT_EN = true → s.quality ≠ 0 → exec .ppsOutSecond s = .next (s.emit .pps)) ∧
  Reads .timeInfo 0xCA00 .observe 0 always (fun _ _ s b => b.length = 34 ∧ slice b 0 12 = s.now ∧ fieldAt b 13 1 = s.servo % 256) ∧
  Does .timeCfg 0xCA01 .operate 16 (fun _ p _ => p8 p 0 = 0 ∧ p8 p 1 ≤ 127)
    (fun _ p s => let t := (s.set Reg.TIM_CTL_PROFILE 0 0).journal (.field (Reg.TIM_CTL_PROFILE.key 0) 0);
      { t with tim := { t.tim with domain := p8 p 1, ipv4 := p32 p 4, mask := p32 p 8, gateway := p32 p 12 } }) ∧
  Does .timeSet 0xCA02 .admin 12 (fun _ p s => fieldAt p 2 4 < 1000000000 ∧ s.servo = servoFree)
    (fun _ p s => { s with tim := { s.tim with counter := timeOf p, secondsKnown := true } }.recordTime 4 s.quality s.quality s.tim.counter (timeOf p))

/-- REC numbers and records every input in order, or counts it when its buffer is full (R568, R569, R570, R576, R577). -/
def Obligations.TranscriptRecording : Prop :=
  (∀ (i : TrInput) (s : State), s.mainUp = true → s.trec.gapFrom = none → s.trec.bufBytes + 8192 ≤ 262144 → s.trec.frozen = none →
    s.trec.replay = none →
    ∃ (t : State) (r : TRec), exec (.transcriptInput i) s = .next t ∧ t = { s with trec := t.trec } ∧ t.trec.records.head? = some r ∧
      r.seq = s.trec.next ∧ r.time = s.tim.counter ∧ r.epoch = s.tbl.epoch ∧ r.boot = s.get Reg.HLM_BOOT_COUNTER ∧
      r.quality = s.quality ∧ t.trec.next = s.trec.next + 1 ∧
      r.typ = (match i with | .event _ _ _ => 0x06 | .timer _ _ => 0x07 | .device _ _ _ _ => 0x08)) ∧
  (∀ (i : TrInput) (s : State), SMap.wf s.regs → s.mainUp = true → 262144 ≤ s.trec.bufBytes →
    ∃ t, exec (.transcriptInput i) s = .next t ∧ t = { s with regs := t.regs, trec := t.trec } ∧ t.trec.records = s.trec.records ∧
      t.trec.next = s.trec.next + 1 ∧ t.trec.gapCount = s.trec.gapCount + 1 ∧ t.trec.gapFrom = some (s.trec.gapFrom.getD s.trec.next) ∧
      t.get Reg.REC_MISSED = (s.get Reg.REC_MISSED + 1) % 2 ^ 32 ∧ OnlyRegs [(Reg.REC_MISSED, 0)] s t) ∧
  (∀ (i : TrInput) (s : State), s.mainUp = false → exec (.transcriptInput i) s = .next s) ∧
  (∀ (n armed : Nat) (s : State), exec (.acrakTimer n armed) s = exec (.transcriptInput (.timer n armed)) s ∧
    exec (.acrakTimer n armed) s = .next (s.record 0x07 0 (leBytes 4 n ++ [0, 0, 0, 0] ++ leBytes 8 armed))) ∧
  (∀ s : State, s.clk.phase = .ready →
    ∃ t, exec .checkpointTimer s = .next t ∧ t = { s with regs := t.regs, trec := t.trec, fresh := s.fresh + 1, jnl := s.jnl.flushed }) ∧
  (∀ (f : Nat) (s : State), s.mainUp = true → s.trec.gapFrom = some f → s.trec.gapCause = 2 →
    ∃ t, exec (.transcriptGap .bufferRoom) s = .next t ∧ t.trec.gapFrom = none ∧ t.flag Reg.REC_STATUS_GAP = true ∧
      (∃ e ∈ t.flt.waiting, e.src = 0x1100 ∧ e.cls = contained) ∧ t.jnl = s.jnl ∧ t.pol = s.pol) ∧
  (∀ (a b : Nat) (s : State), s.trec.records.any (fun r => decide (a ≤ r.seq) && decide (r.seq ≤ b)) = true →
    ∃ t, exec (.transcriptGap (.badPage a b)) s = .next t ∧ t.flag Reg.REC_STATUS_GAP = true ∧
      (∃ e ∈ t.flt.waiting, e.src = 0x1100 ∧ e.cls = contained) ∧ t.jnl = s.jnl ∧ t.pol = s.pol)

/-- Transcript commands and replay (R575, R578, R582, R583, R586). -/
def Obligations.TranscriptCommandsAndReplay : Prop :=
  Reads .transcriptInfo 0xCB00 .observe 0 always (fun _ _ _ b => b.length = 32) ∧
  (∀ (r : TRec) (h : Hdr) (p : Bytes) (s : State), Operating s → Privileged .observe h s → p.length = 16 →
    (request 0xCB01 .observe h p s).trec.at (p64 p 0) = some r → r.bad = false → 4 ≤ p32 p 12 → p32 p 12 ≤ 4064 →
    p32 p 8 + p32 p 12 ≤ r.len →
    exec (.transcriptRead h p) s = .next (answered 0xCB01 stSuccess h s (slice r.toBytes (p32 p 8) (p32 p 12)) (request 0xCB01 .observe h p s))) ∧
  (∀ (u : Nat) (h : Hdr) (p : Bytes) (s : State), Operating s → Privileged .operate h s → p.length = 24 → s.cmd.bg.length < 16 →
    s.mgmtUsp = some u → (request 0xCB02 .operate h p s).trec.oldest ≤ p64 p 0 → p64 p 0 ≤ p64 p 8 →
    p64 p 8 < (request 0xCB02 .operate h p s).trec.next → p64 p 16 % 4096 = 0 →
    (request 0xCB02 .operate h p s).trec.records.all (fun r => !r.bad) = true →
    ∃ bs : Bytes, exec (.transcriptExport h p) s = .next (answered 0xCB02 stStarted h s [] ((background 0xCB02 h p s false
      ((request 0xCB02 .operate h p s).emit (.hostWrite u 0x8000 (p64 p 16) bs))).endBg s.cmd.nextBg stSuccess (leBytes 8 bs.length)))) ∧
  Does .transcriptFreeze 0xCB03 .operate 16 (fun _ p _ => bitOf (p8 p 0) 0 = true)
    (fun _ p s => ({ s with trec := { s.trec with frozen := some (p64 p 8) } }.setFlag Reg.REC_STATUS_FROZEN 0 true).recordMark 1 (p64 p 8)) ∧
  Does .transcriptFreeze 0xCB03 .operate 16 (fun _ p _ => bitOf (p8 p 0) 0 = false)
    (fun _ p s => (({ s with trec := { s.trec with frozen := none } }.setFlag Reg.REC_STATUS_FROZEN 0 false).closeGap 3).recordMark 2 (p64 p 8)) ∧
  (∀ (h : Hdr) (p : Bytes) (s : State), Operating s → Privileged .operate h s → p.length = 0 → s.cmd.bg.length < 16 →
    exec (.transcriptCheckpoint h p) s = .next (answered 0xCB04 stStarted h s [] ((background 0xCB04 h p s false
      (request 0xCB04 .operate h p s).checkpoint).endBg s.cmd.nextBg stSuccess (leBytes 8 (request 0xCB04 .operate h p s).trec.next)))) ∧
  (∀ (c z : TRec) (h : Hdr) (p : Bytes) (s : State), Operating s → Privileged .operate h s → p.length = 16 → s.cmd.bg.length < 16 →
    (request 0xCB10 .operate h p s).trec.at (p64 p 0) = some c → c.typ = 0x02 → fieldAt c.payload 0 2 = 0 → p64 p 0 ≤ p64 p 8 →
    p64 p 8 < (request 0xCB10 .operate h p s).trec.next → (request 0xCB10 .operate h p s).trec.startOf (p64 p 0) = some z →
    s.sameImage z = true → s.cmd.cores.all id = true → s.trec.replay = none → 131072 ≤ s.get Reg.VLT_UNALLOC_FREE →
    exec (.replayStart h p) s = .next (answered 0xCB10 stStarted h s [] (background 0xCB10 h p s false
      (((((request 0xCB10 .operate h p s).modRec (fun x =>
        { x with replay := some { bgId := s.cmd.nextBg, first := p64 p 0, last := p64 p 8, done := 0, commits := 0 } })).setFlag
          Reg.REC_STATUS_REPLAY 0 true).set Reg.VLT_UNALLOC_FREE 0 (s.get Reg.VLT_UNALLOC_FREE - 131072)).recordMark 3 (p64 p 0))))) ∧
  Reads .replayStatus 0xCB11 .observe 0 always (fun _ _ s b => b.length = 32 ∧ fieldAt b 0 1 = b2n s.trec.replay.isSome) ∧
  (∀ (r : Replay) (h : Hdr) (p : Bytes) (s : State), Operating s → Privileged .operate h s → p.length = 0 → s.trec.replay = some r →
    exec (.replayAbort h p) s = .next (answered 0xCB12 stSuccess h s []
      ((request 0xCB12 .operate h p s).endReplay r 0 r.done r.commits 0 stConflict))) ∧
  (∀ (r : Replay) (s : State), SMap.wf s.regs → s.trec.replay = some r →
    ∃ t, exec (.replayEnd .failover) s = .next t ∧ t.trec.replay = none ∧ t.trec.lastReplay = some (0, r.done, r.commits, 0) ∧
      t.flag Reg.REC_STATUS_REPLAY = false ∧ t.get Reg.VLT_UNALLOC_FREE = (s.get Reg.VLT_UNALLOC_FREE + 131072) % 2 ^ 21 ∧
      t.cmd.bg = updFirst (fun b : Background => b.id == r.bgId && b.result.isNone) (fun b => { b with result := some (stHwFault, []) }) s.cmd.bg ∧
      t.pol = s.pol ∧ t.jnl = s.jnl)

/-- FLT takes the earliest event, records it, counts it, runs Quench and the safe states, and flushes (R490, R493, R494, R497, R500, R502, R507, R510, R511). -/
def Obligations.FaultCollection : Prop :=
  (∀ (e : FltEvent) (s : State), SMap.wf s.regs → s.clk.phase ≠ .off → s.nextEvent = some e → e.count = 1 → e.cls = contained →
    e.src ≠ 0x0109 → s.mergeInto e false = none → s.quenchMatch e.src e.cls e.evt = none → s.get Reg.FLT_HIST_TAIL_UNREAD < 63 →
    ∃ t, exec .fltEventAccept s = .next t ∧ t = { s with regs := t.regs, flt := t.flt, trec := t.trec } ∧
      t.flt.waiting = delFirst (fun w => w == e) s.flt.waiting ∧
      SMap.find t.flt.hist (s.get Reg.FLT_HIST_HEAD_INDEX) = some {
        time := s.tim.counter, src := e.src, cls := contained, quality := s.quality, promoted := false, injected := e.injected,
        repeats := 0, evt := e.evt, syn := e.syn, ctx := e.ctx, tick := s.tick, openOp := e.openOp && !e.ended } ∧
      (∀ j, j ≠ s.get Reg.FLT_HIST_HEAD_INDEX → SMap.find t.flt.hist j = SMap.find s.flt.hist j) ∧
      t.get Reg.FLT_HIST_HEAD_INDEX = (s.get Reg.FLT_HIST_HEAD_INDEX + 1) % 64 ∧
      t.get Reg.FLT_HIST_HEAD_TOTAL = (s.get Reg.FLT_HIST_HEAD_TOTAL + 1) % 2 ^ 32 ∧
      t.get Reg.FLT_HIST_TAIL_UNREAD = s.get Reg.FLT_HIST_TAIL_UNREAD + 1 ∧
      (∀ j, j ≠ e.src → SMap.get t.flt.counts j 0 = SMap.get s.flt.counts j 0) ∧ t.flt.slots = s.flt.slots) ∧
  (∀ (e : FltEvent) (s : State), SMap.wf s.regs → s.clk.phase ≠ .off → s.nextEvent = some e → e.count = 1 → e.cls = fatal →
    e.injected = false → e.src = 0x0B00 → s.mergeInto e false = none → s.quenchMatch e.src e.cls e.evt = none → s.flt.safeMover = false →
    s.flt.flush = none → s.flt.dump = none → s.flt.erase = none → s.pfe.imminent = false →
    ∃ t, exec .fltEventAccept s = .next t ∧ t.flt.safeMover = true ∧ t.flt.safeFault = true ∧
      (∃ x, t.flt.flush = some x ∧ x.trigger.src = 0x0B00 ∧ x.waits = false ∧ x.noMain = !s.mainUp) ∧
      (∃ d, t.flt.dump = some d ∧ d.trigger.src = 0x0B00 ∧ d.ended = false) ∧
      t.clk = s.clk ∧ t.pol = s.pol ∧ t.mov = s.mov ∧ t.vlt = s.vlt) ∧
  (∀ (src : BitVec 16) (i : Nat) (q : QSlot) (s : State), s.slotOfSrc src.toNat = some (i, q) → SMap.find s.flt.slots i = some q →
    q.promo ≠ 0 → q.state ≠ .observe →
    ∃ t, exec (.promotionWindowExpiry src) s = .next t ∧ t = { s with flt := { s.flt with slots := t.flt.slots } } ∧
      SMap.find t.flt.slots i = some { q with promo := 0 } ∧ (∀ j, j ≠ i → SMap.find t.flt.slots j = SMap.find s.flt.slots j)) ∧
  (∀ (src : BitVec 16) (i : Nat) (q : QSlot) (s : State), SMap.wf s.flt.slots → s.slotOfSrc src.toNat = some (i, q) →
    SMap.find s.flt.slots i = some q → q.promo ≠ 0 → q.state = .observe → q.holds = [] →
    ∃ t, exec (.promotionWindowExpiry src) s = .next t ∧ t = { s with flt := { s.flt with slots := t.flt.slots } } ∧
      SMap.find t.flt.slots i = none) ∧
  (∀ (src : BitVec 16) (i : Nat) (q : QSlot) (r : FltRec) (s : State), s.slotOfSrc src.toNat = some (i, q) →
    SMap.find s.flt.slots i = some q → q.src = src.toNat → q.state = .grace → s.get Reg.FLT_QENTRY_QUENCH q.entry = 0x20 →
    s.newestOf src.toNat = some r → r.injected = false → r.src = src.toNat →
    ∃ t, exec (.graceExpiry src) s = .next t ∧ t = { s with flt := { s.flt with slots := t.flt.slots } } ∧
      SMap.find t.flt.slots i = some { q with state := .quenched, holds := addNew .faultN q.holds }) ∧
  (∀ (x : Flush) (d : Dump) (s : State), s.flt.flush = some x → s.flt.dump = some d → x.waits = false → x.noMain = false →
    s.mainUp = true → s.stagingLost = false → x.thenReset = none → s.flag Reg.FLT_CTL_AUTO_RESET = false →
    ∃ t, exec .flushEnd s = .next t ∧ t = { s with fresh := s.fresh + 1, flt := { s.flt with flush := none, dump := t.flt.dump } } ∧
      (∃ d', t.flt.dump = some d' ∧ d'.trigger = d.trigger ∧ d'.ended = true ∧ d'.complete = true ∧
        d'.sections.length = d.sections.length + 3 ∧ d'.sizes = d'.sections.map List.length)) ∧
  (∀ (id : Nat) (s : State), s.flt.erase = some id → s.flt.flush = none →
    exec .dumpReleaseEraseEnd s = .next { s with
      flt := { s.flt with erase := none },
      cmd := { s.cmd with bg := updFirst (fun b : Background => b.id == id && b.result.isNone) (fun b => { b with result := some (stSuccess, []) }) s.cmd.bg } }) ∧
  (∀ (c : Fin 3) (a b : Bool) (m n : Nat) (s : State), s.mainUp = true → s.cmd.pair = [m, n] → s.clk.modReady = false →
    exec (.lockstepMismatch c a b) s = .next { s with clk := { s.clk with startPend := some { kind := 2, trigger := 8, source := 0x0D10 + c.val } } }) ∧
  (∀ (c : Fin 3) (s : State), s.mainUp = true → s.cmd.pair = [0, 1] → s.cmd.cores = [true, true, true] → s.clk.modReady = true →
    s.trec.replay = none →
    exec (.lockstepMismatch c true false) s = .next ({ s with
      cmd := { s.cmd with cores := [false, true, true], pair := [1, 2], failover := some 0 } }.report 0x0D10 corrected 0 [0])) ∧
  (∀ (c : Nat) (s : State), SMap.wf s.regs → s.cmd.failover = some c → c < 3 → s.tbl.waits = [] → s.cmd.bg = [] → s.cmd.heldNotify = [] →
    ∃ t, exec .coreFailover s = .next t ∧ t.cmd.failover = none ∧ t.cmd.cores = s.cmd.cores ∧ t.get Reg.CLK_RST_CAUSE_KIND = 4 ∧
      t.get Reg.CLK_RST_CAUSE_TRIGGER = 8 ∧ t.get Reg.CLK_RST_CAUSE_SOURCE = 0x0D10 + c ∧ t.pol = s.pol ∧ t.tbl = s.tbl)

/-- Fault commands, Touchstone and injection (R494, R495, R501, R506, R508, R511, R515, R516, R517, R519). -/
def Obligations.FaultCommands : Prop :=
  Reads .faultInfo 0xC800 .observe 0 always (fun _ _ s b => b.length = 18 ∧ fieldAt b 16 2 = s.flt.slots.length % 65536) ∧
  Reads .faultHistRead 0xC801 .observe 2 (fun _ p _ => p8 p 0 < 64 ∧ 1 ≤ p8 p 1 ∧ p8 p 1 ≤ 64)
    (fun _ p s b => b = ((List.range (p8 p 1)).map (fun k => s.histBytes ((p8 p 0 + k) % 64))).flatten) ∧
  Does .faultAck 0xC802 .operate 1 (fun _ p s => p8 p 0 < 64 ∧ p8 p 0 = s.get Reg.FLT_HIST_HEAD_INDEX)
    (fun _ p s => (s.set Reg.FLT_HIST_TAIL_UNREAD 0 0).set Reg.FLT_HIST_TAIL_INDEX 0 (p8 p 0)) ∧
  Reads .faultCountRead 0xC803 .observe 4
    (fun _ p _ => 0x0100 ≤ p16 p 0 ∧ p16 p 0 ≤ 0x12FF ∧ 1 ≤ p16 p 2 ∧ p16 p 2 ≤ 1016 ∧ p16 p 0 + p16 p 2 ≤ 0x1300)
    (fun _ p s b => b = ((List.range (p16 p 2)).map (fun k => leBytes 4 (SMap.get s.flt.counts (p16 p 0 + k) 0))).flatten) ∧
  Does .faultSubscribe 0xC804 .operate 2
    (fun h p s => bitOf (p8 p 0) 0 = true ∧ 1 ≤ p8 p 1 ∧ p8 p 1 ≤ 3 ∧ (s.cmd.subs.filter (fun x => x.1 != h.req)).length < 8)
    (fun h p s => { s with cmd := { s.cmd with subs := s.cmd.subs.filter (fun x => x.1 != h.req) ++ [(h.req, p8 p 1)] } }) ∧
  Reads .quenchRead 0xC810 .observe 2 (fun _ p _ => 1 ≤ p8 p 1 ∧ p8 p 0 + p8 p 1 ≤ 256) (fun _ p _ b => b.length = 12 * p8 p 1) ∧
  (∀ (i : Nat) (q : QSlot) (h : Hdr) (p : Bytes) (s : State), Operating s → Privileged .operate h s → p.length = 2 →
    s.slotOfSrc (p16 p 0) = some (i, q) → SMap.find s.flt.slots i = some q → q.state = .quenched → q.holds ≠ [] →
    exec (.quenchAck h p) s = .next (answered 0xC811 stSuccess h s []
      { request 0xC811 .operate h p s with flt := { s.flt with slots := SMap.put s.flt.slots i { q with state := .settled } } })) ∧
  (∀ (i : Nat) (q : QSlot) (h : Hdr) (p : Bytes) (s : State), SMap.wf s.flt.slots → Operating s → Privileged .operate h s → p.length = 2 →
    s.slotOfSrc (p16 p 0) = some (i, q) → SMap.find s.flt.slots i = some q → q.state = .settled → q.holds = [.faultN] → q.promo = 0 →
    ∃ t, exec (.quenchRelease h p) s = .next (answered 0xC812 stSuccess h s [] t) ∧
      t = { request 0xC812 .operate h p s with flt := { s.flt with slots := t.flt.slots } } ∧ SMap.find t.flt.slots i = none ∧
      (∀ j, j ≠ i → SMap.find t.flt.slots j = SMap.find s.flt.slots j)) ∧
  Reads .faultDumpRead 0xC820 .observe 8
    (fun _ p s => 4 ≤ p32 p 4 ∧ p32 p 4 ≤ 4064 ∧ p32 p 4 % 4 = 0 ∧ p32 p 0 + p32 p 4 ≤ 0x800000 ∧ s.flt.erase = none)
    (fun _ p s b => b = (List.range (p32 p 4)).map (fun k => s.dumpByte (p32 p 0 + k))) ∧
  Starts .faultDumpRelease 0xC821 .admin 0 false (fun _ _ s => s.flt.flush = none ∧ s.flt.erase = none)
    (fun _ _ s => { s with flt := { s.flt with dump := none, lossBuf := none, erase := some s.cmd.nextBg } }) ∧
  (∀ (h : Hdr) (p : Bytes) (s : State), s.clk.phase ≠ .off → s.flag Reg.FLT_STATUS_SAFE_MODULE = true → transportWired h.req.transport = true →
    Privileged .admin h s → p.length = 0 → s.flt.flush = none →
    exec (.safeReset h p) s = .next (answered 0xC822 stSuccess h s []
      { request 0xC822 .admin h p s with clk := { s.clk with startPend := some { kind := 2, trigger := 2, source := 0 } } })) ∧
  (∀ (h : Hdr) (p : Bytes) (s : State), Operating s → Privileged .operate h s → p.length = 112 → transportWired h.req.transport = true →
    s.flag Reg.FLT_STATUS_TEST_EN = true → s.flag Reg.HLM_STATUS_LOCKED = false → s.flag Reg.FLT_STATUS_TOUCHSTONE = false →
    p64 p 0 = Config.deviceSerial.toNat → p32 p 8 = s.get Reg.HLM_BOOT_COUNTER →
    exec (.touchstoneEnter h p) s = .next (if Config.tokenSigned p = true then answered 0xCF00 stSuccess h s []
        (((request 0xCF00 .operate h p s).setFlag Reg.FLT_STATUS_TOUCHSTONE 0 true).ledge 6 0 (leBytes 4 0) (p.take 16 ++ sha p))
      else answered 0xCF00 stDenied h s [] (request 0xCF00 .operate h p s))) ∧
  Does .faultInject 0xCF10 .factory 16
    (fun _ p s => s.flag Reg.FLT_STATUS_TOUCHSTONE = true ∧ p8 p 0 = 5 ∧ p8 p 1 = 1 ∧ p8 (p.drop 8) 0 < 5)
    (fun _ p s => { s with flt := { s.flt with hchkInject := s.flt.hchkInject ++ [p8 (p.drop 8) 0] } }) ∧
  (∀ (x : Injection) (xs : List Injection) (s : State), s.flt.inject = x :: xs → x.kind = 5 → 2 ≤ x.left →
    exec .injectionDelayExpiry s = .next { s with
      flt := { s.flt with inject := xs ++ [{ x with left := x.left - 1 }], hchkInject := s.flt.hchkInject ++ [p8 x.arg 0] } })

/-- Packets, the mailbox, chains and the loss of a transport (R459, R465, R466, R467, R470, R471, R485). -/
def Obligations.CommandReception : Prop :=
  (∀ (q : Priv) (r : Requester) (ses : Option Nat) (k : Bytes) (s : State), s.clk.phase ≠ .off → r.transport ≠ .mailbox →
    framing k = none → opPriv (pktOpcode k) = some q → bitOf (pktFlags k) 2 = false → s.cmd.chainOf r (pktContext k) = none →
    s.cmd.queuedOn r.transport < 16 →
    exec (.commandPacketReceive r ses k) s = .next { s.recordCommand (hdrOf r ses k) (q == .observe) k with
      cmd := { s.cmd with jobs := s.cmd.jobs ++ [{ cmds := [{ req := r, session := ses, pkt := k, seq := s.trec.next }],
                                                   urgent := s.urgentOf r ses k }] } }) ∧
  (∀ (r : Requester) (ses : Option Nat) (k : Bytes) (s : State), s.clk.phase ≠ .off → transportWired r.transport = true →
    framing k = some stBadCheck →
    exec (.commandPacketReceive r ses k) s = .next (s.emit (.packet r ses (mkPacket 1 (pktOpcode k) (pktTag k) (pktContext k) stBadCheck [])))) ∧
  (∀ (x : Chain) (q : Queued) (r : Requester) (c : BitVec 16) (s : State), s.cmd.chainOf r c.toNat = some x → x.cmds = [q] →
    exec (.chainAssemblyTimeout r c) s = .next (((s.timerInput 2).modCmd (fun m => { m with
      chains := m.chains.filter (fun y => !(y.req == r && y.context == c.toNat)) })).answerQueued q stConflict)) ∧
  (∀ (q : Priv) (u : Nat) (k : Bytes) (s : State), s.mainUp = true → s.mgmtUsp = some u → s.cmd.mbx.busy = false →
    slice s.cmd.mbx.reqBuf 0 s.cmd.mbx.reqLen = k → framing k = none → opPriv (pktOpcode k) = some q → bitOf (pktFlags k) 2 = false →
    s.cmd.chainOf { transport := .mailbox, source := u } (pktContext k) = none → s.cmd.queuedOn .mailbox < 16 →
    ∃ t, exec .mbxGo s = .next t ∧ t = { s with cmd := t.cmd, regs := t.regs, trec := t.trec } ∧ t.cmd.mbx = { s.cmd.mbx with busy := true } ∧
      (t.cmd.jobs.map Job.cmds) = s.cmd.jobs.map Job.cmds ++
        [[{ req := { transport := .mailbox, source := u }, session := none, pkt := k, seq := s.trec.next }]]) ∧
  (∀ s : State, s.cmd.mbx.busy = true → exec .mbxGo s = .next s) ∧
  (∀ (e : Bytes) (s : State), s.mainUp = true → s.cmd.mbx.evt = some e → s.cmd.mbx.held = [] →
    exec .mbxEvtAck s = .next { s with cmd := { s.cmd with mbx := { s.cmd.mbx with evt := none } } }) ∧
  (∀ (x : Transport) (s : State),
    ∃ t, exec (.transportLost x) s = .next t ∧ t = { s with cmd := t.cmd, tbl := t.tbl } ∧
      (t.cmd.jobs.all (fun j => j.cmds.all (fun q => !sameTransport x q.req.transport))) = true ∧
      (t.cmd.chains.all (fun c => !sameTransport x c.req.transport)) = true ∧
      (t.cmd.bg.all (fun b => b.dropped || !sameTransport x b.req.transport)) = true ∧
      t.cmd.bg.map Background.id = s.cmd.bg.map Background.id ∧ t.cmd.mbx = s.cmd.mbx ∧ t.tbl.tables = s.tbl.tables)

/-- Identity, status, cancellation, and the end of a background command (R472, R474, R480, R485). -/
def Obligations.CommandStatusAndEnd : Prop :=
  Reads .moduleIdentify 0xC000 .observe 0 always (fun _ _ _ b => b.length = 48 ∧ fieldAt b 0 2 = vendorId ∧ fieldAt b 2 2 = 0xC960) ∧
  Reads .moduleStatus 0xC001 .observe 0 always
    (fun h _ s b => fieldAt b 1 1 = privCode (s.privOf h) ∧ fieldAt b 2 2 = s.tbl.epoch % 65536 ∧ bitOf (fieldAt b 0 1) 0 = s.clk.modReady) ∧
  (∀ (x : Nat × Nat) (h : Hdr) (p : Bytes) (s : State), Operating s → Privileged .observe h s → p.length = 6 →
    s.outcomeOf h.req (p32 p 0) (p16 p 4) = some x →
    exec (.cmdStatus h p) s = .next (answered 0xC002 stSuccess h s (leBytes 2 x.1 ++ leBytes 2 x.2) (request 0xC002 .observe h p s))) ∧
  (∀ (q : Queued) (j : Job) (h : Hdr) (p : Bytes) (s : State), Operating s → Privileged .observe h s → p.length = 6 → s.cmd.jobs = [j] →
    j.cmds = [q] → q.named h.req (p32 p 0) (p16 p 4) = true →
    exec (.cmdCancel h p) s = .next (answered 0xC003 stSuccess h s []
      (((request 0xC003 .observe h p s).modCmd (fun m => { m with jobs := [] })).answerQueued q stConflict))) ∧
  (∀ (id st : Nat) (r : Bytes) (b : Background) (s : State), s.cmd.bg.find? (fun x => x.id == id) = some b → b.result = some (st, r) →
    b.dropped = false → 0x8000 ≤ b.opcode → b.req.transport = .i3c →
    exec (.backgroundCommandEnd id) s = .next (((s.modCmd (fun m => { m with
      bg := delFirst (fun x => x.id == id) m.bg,
      kept := ({ req := b.req, tag := b.tag, context := b.context, opcode := b.opcode, status := st } :: m.kept).take 256 })).emit
        (.packet b.req b.session (mkPacket 3 b.opcode b.tag b.context st r))).recordResponse b.seq st r))

/-- REG_READ and REG_WRITE: RW, RO and RWL fields, roles, personalities and breaker curves (R6, R8, R33, R42, R308, R309, R475, R476, R631). -/
def Obligations.RegisterAccess : Prop :=
  Reads .regRead 0xCC00 .observe 6
    (fun _ p _ => p32 p 0 % 4 = 0 ∧ assigned (p32 p 0) = true ∧ 1 ≤ p16 p 4 ∧ p16 p 4 ≤ 1024 ∧ assigned (p32 p 0 + 4 * (p16 p 4 - 1)) = true)
    (fun h p s b => b = (request 0xCC00 .observe h p s).words (p32 p 0) (p16 p 4)) ∧
  (∀ (v : Word) (h : Hdr) (s : State), Operating s → Privileged .operate h s →
    exec (.registerWrite h 0x0A000118 v) s = .next (answered 0xCC01 stSuccess h s []
      ((request 0xCC01 .operate h (oneWord 0x0A000118 v.toNat) s).set Reg.POL_MP_WINDOW 0 (v.toNat % 16)))) ∧
  (∀ (v : Word) (h : Hdr) (s : State), Operating s → Privileged .operate h s →
    exec (.regWrite h (oneWord 0x0A000110 v.toNat)) s =
      .next (answered 0xCC01 stSuccess h s [] (request 0xCC01 .operate h (oneWord 0x0A000110 v.toNat) s))) ∧
  (∀ (v : Word) (h : Hdr) (s : State), Operating s → Privileged .admin h s → s.flag Reg.HLM_STATUS_LOCKED = true →
    exec (.registerWrite h 0x0F001000 v) s =
      .next (answered 0xCC01 stLocked h s [] (request 0xCC01 .operate h (oneWord 0x0F001000 v.toNat) s))) ∧
  (∀ (v : Word) (h : Hdr) (s : State), Operating s → s.privOf h = .operate →
    exec (.registerWrite h 0x0F001000 v) s =
      .next (answered 0xCC01 stDenied h s [] (request 0xCC01 .operate h (oneWord 0x0F001000 v.toNat) s))) ∧
  (∀ (a v : Word) (h : Hdr) (s : State), Operating s → Privileged .admin h s → s.flag Reg.HLM_STATUS_LOCKED = false → a.toNat % 4 ≠ 0 →
    exec (.registerWrite h a v) s =
      .next (answered 0xCC01 stBadParam h s (offsetReply 0) (request 0xCC01 .operate h (oneWord a.toNat v.toNat) s))) ∧
  (∀ (q : Port) (v : BitVec 2) (h : Hdr) (s : State), Operating s → Privileged .admin h s → s.flag Reg.HLM_STATUS_LOCKED = false →
    s.present q.val = true → v.toNat < 3 → s.roleRefused q.val v.toNat = none →
    exec (.roleWrite h q v) s = .next (answered 0xCC01 stSuccess h s []
      ((request 0xCC01 .operate h (oneMasked (0x06000100 + 4 * q.val) v.toNat 3) s).setRole q.val v.toNat))) ∧
  (∀ (q : Port) (v : BitVec 2) (h : Hdr) (s : State), Operating s → Privileged .operate h s → s.isDsp q.val = true → 1 ≤ v.toNat → v.toNat < 3 →
    s.personalityRefused q.val v.toNat = none →
    exec (.personalityWrite h q v) s = .next (answered 0xCC01 stSuccess h s []
      ((request 0xCC01 .operate h (oneMasked (0x0A000200 + 4 * q.val) v.toNat 3) s).setPersonality q.val v.toNat))) ∧
  (∀ (k : Fin 16) (v : Word) (h : Hdr) (s : State), SMap.wf s.regs → Operating s → Privileged .admin h s →
    s.flag Reg.HLM_STATUS_LOCKED = false →
    curveOk (s.afterWords [{ addr := 0x01000140 + 4 * k.val, value := v.toNat, mask := 0xFFFFFFFF }]).feedPoints = true →
    exec (.breakerCurveWrite h (BitVec.ofNat 32 (0x01000140 + 4 * k.val)) v) s = .next (answered 0xCC01 stSuccess h s []
      (((((request 0xCC01 .operate h (oneWord (0x01000140 + 4 * k.val) v.toNat) s).setJ Reg.PFE_BKR_PT_CURRENT k.val (bitsOf v.toNat 0 12)).setJ
        Reg.PFE_BKR_PT_TIME k.val (bitsOf v.toNat 12 16)).setJ Reg.PFE_BKR_PT_UNIT k.val (bitsOf v.toNat 28 2)).setJ
        Reg.PFE_BKR_PT_VALID k.val (bitsOf v.toNat 31 1))))

/-- Tables, COMMIT, pipelines that switch or fail to, refill and module commits (R19, R20, R23, R24, R25, R26, R27, R79, R477, R481, R712). -/
def Obligations.CommitEngine : Prop :=
  Reads .tableRead 0xCC10 .observe 12
    (fun _ p _ => tblAssigned (p16 p 0) = true ∧ p16 p 0 ≠ 0x0A42 ∧ p8 p 2 < 2 ∧ p32 p 4 % 4 = 0 ∧ 4 ≤ p32 p 8 ∧ p32 p 8 ≤ 4064 ∧ p32 p 8 % 4 = 0 ∧
      p32 p 4 + p32 p 8 ≤ (tblLen (p16 p 0)).getD 0)
    (fun _ p s b => b = leBytes 2 (if p8 p 2 = 1 ∧ (s.table (p16 p 0)).former = true then (s.table (p16 p 0)).formerTag else (s.table (p16 p 0)).tag) ++
      [byte (b2n (s.writable (p16 p 0))), 0] ++
      (if p8 p 2 = 1 then s.shadow (p16 p 0) (p32 p 4) (p32 p 8) else s.active (p16 p 0) (p32 p 4) (p32 p 8))) ∧
  (∀ (h : Hdr) (p : Bytes) (s : State), Operating s → Privileged .observe h s → p.length = 6 → p8 p 0 = 1 → tblAssigned (p16 p 4) = true →
    p16 p 4 ≠ 0x0A42 →
    exec (.epochRead h p) s = .next (answered 0xCC21 stSuccess h s
      (leBytes 2 s.tbl.epoch ++ leBytes 2 s.oldestStamp ++ (leBytes 2 (s.table (p16 p 4)).tag ++ [byte (b2n (s.writable (p16 p 4))), 0]))
      (request 0xCC21 .observe h p s))) ∧
  (∀ (h : Hdr) (p : Bytes) (s : State), Operating s → Privileged .operate h s → 12 ≤ p.length → p.length ≤ 4096 → p.length % 4 = 0 →
    tblManaged (p16 p 0) = true → s.writable (p16 p 0) = true → p32 p 4 % 4 = 0 → p32 p 4 + (p.length - 8) ≤ (tblLen (p16 p 0)).getD 0 →
    exec (.tableWrite h p) s = .next (answered 0xCC11 stSuccess h s []
      ((request 0xCC11 .operate h p s).writeShadow (p16 p 0) (p32 p 4) (p.drop 8)))) ∧
  (∀ (h : Hdr) (p : Bytes) (s : State), Operating s → Privileged .operate h s → p.length = 8 → p8 p 0 = 1 → tblManaged (p16 p 4) = true →
    (s.table (p16 p 4)).tag ≠ p16 p 6 →
    exec (.commit h p) s = .next (answered 0xCC20 stEpochStale h s []
      ((request 0xCC20 .operate h p s).recordCommit 0 [(p16 p 4, p16 p 6)] stEpochStale []))) ∧
  (∀ (h : Hdr) (p : Bytes) (s : State), SMap.wf s.tbl.tables → Operating s → Privileged .operate h s → p.length = 8 → p8 p 0 = 1 →
    tblManaged (p16 p 4) = true → s.commitRefused [(p16 p 4, p16 p 6)] = none → s.tbl.pend = [] → s.tbl.waits = [] →
    ∃ t, exec (.commit h p) s = .next t ∧ t.tbl.epoch = (s.tbl.epoch + 1) % 65536 ∧
      t.table (p16 p 4) = { active := (s.table (p16 p 4)).shadow, shadow := (s.table (p16 p 4)).active, tag := (s.tbl.epoch + 1) % 65536,
                            formerTag := (s.table (p16 p 4)).tag, former := true } ∧
      t.pol = s.pol ∧ t.vlt = s.vlt ∧ t.prt = s.prt ∧ t.hlm = s.hlm) ∧
  (∀ (pl : Pipeline) (c : PendCommit) (w : Waiting) (s : State), s.mainUp = true → s.tbl.pend = [c] → c.waiting = [pl] → c.after = .nothing →
    s.tbl.held = [] → s.tbl.waits = [w] → w.what = .commit c.epoch true → w.rest = [] → w.dropped = false →
    exec (.pipelineBankSwitch pl) s = .next ({ s with tbl := { s.tbl with pend := [], waits := [] } }.answer w.req w.session w.opcode w.tag
      w.context w.seq stSuccess (leBytes 2 c.epoch))) ∧
  (∀ (c : PendCommit) (s : State), s.mainUp = true → s.tbl.pend = [c] → .mover ∈ c.waiting → s.tbl.held = [] → s.tbl.waits = [] →
    exec (.switchFailureTimeout .mover) s = .next ({ s with tbl := { s.tbl with held := [.mover] } }.report 0x0B24 contained 0 [])) ∧
  (∀ (x : BitVec 16) (s : State), s.mainUp = true → x.toNat ≠ 0x0A42 → s.tbl.pend = [] → (s.table x.toNat).former = true →
    s.stamps.any (fun y => earlier y (s.table x.toNat).tag) = false →
    exec (.shadowRefill x) s = .next (s.setTable x.toNat
      { s.table x.toNat with shadow := (s.table x.toNat).active, former := false })) ∧
  (∀ (m : ModCommit) (w : Nat × Nat × Bytes) (s : State), SMap.wf s.tbl.tables → s.mainUp = true → s.tbl.modq = [m] → m.writes = [w] →
    m.extents = [] → m.after = .nothing → s.modReady m = true → s.tbl.pend = [] → s.tbl.waits = [] →
    ∃ t, exec (.moduleCommit m.id) s = .next t ∧ t.tbl.modq = [] ∧ t.tbl.epoch = (s.tbl.epoch + 1) % 65536 ∧
      (t.table w.1).tag = (s.tbl.epoch + 1) % 65536 ∧ (t.table w.1).former = true ∧ (t.table w.1).shadow = (s.table w.1).active ∧
      t.pol.map = s.pol.map ∧ t.vlt = s.vlt ∧ t.prt = s.prt)

/-- Completions, timeouts and quarantine of request slots (R325, R327, R328, R329). -/
def Obligations.DeviceCompletions : Prop :=
  (∀ (p : Port) (c : DevCpl) (s : State), s.mainUp = true → slotOk c.kind c.slot = true → (s.slotAt p.val c.kind c.slot).user = none →
    (s.slotAt p.val c.kind c.slot).quar = false →
    exec (.deviceCompletion p c) s = .next ((s.bump Reg.PRT_CNT_LATE p.val).reportIx 0x0680 p.val corrected 0)) ∧
  (∀ (p : Port) (c : DevCpl) (s : State), s.mainUp = true → c.kind = .io → c.slot < 1024 → (s.ioSlot p.val c.slot).quar = true →
    exec (.deviceCompletion p c) s = .next (((s.bump Reg.PRT_CNT_LATE p.val).reportIx 0x0680 p.val corrected 0).setIoSlot p.val c.slot
      { s.ioSlot p.val c.slot with quar := false })) ∧
  (∀ (n : Nat) (p : Port) (c : DevCpl) (s : State), s.mainUp = true → c.kind = .io → c.slot < 1024 → (s.ioSlot p.val c.slot).quar = false →
    (s.ioSlot p.val c.slot).user = some (.acrak n) → c.ok = true → s.flt.cplDropInject = [] →
    exec (.deviceCompletion p c) s = .next (s.setIoSlot p.val c.slot { s.ioSlot p.val c.slot with user := none })) ∧
  (∀ (p : Port) (c : DevCpl) (s : State), s.mainUp = true → c.kind = .io → c.slot < 1024 → (s.ioSlot p.val c.slot).quar = false →
    (s.ioSlot p.val c.slot).user.isSome = true → s.flt.cplDropInject = [p.val] →
    exec (.deviceCompletion p c) s = .next { s with
      flt := { s.flt with cplDropInject := [], cplDropped := s.flt.cplDropped ++ [(p.val, 4096 + c.slot)] } }) ∧
  (∀ (n : Nat) (p : Port) (k : Nat) (s : State), k < 1024 → (s.ioSlot p.val k).quar = false → (s.ioSlot p.val k).user = some (.acrak n) →
    s.isPool p.val = false → s.flt.cplDropped = [] →
    exec (.moduleRequestTimeout p .io k) s = .next (((s.setIoSlot p.val k
      { s.ioSlot p.val k with user := none, quar := true, gen := ((s.ioSlot p.val k).gen + 1) % 256 }).bump Reg.PRT_CNT_CTO p.val).reportIx
        0x0640 p.val contained 0)) ∧
  (∀ (p : Port) (k : Nat) (s : State), k < 1024 → (s.ioSlot p.val k).quar = true →
    exec (.quarantineExpiry p .io k) s = .next (s.setIoSlot p.val k { s.ioSlot p.val k with quar := false }))

/-- LDs, bindings, configuration requests and the FM API (R89, R90, R91, R92, R93, R311, R319, R331, R484, R598). -/
def Obligations.BindingAndHostConfiguration : Prop :=
  Does .ldCreate 0xC410 .operate 2 (fun _ p s => s.isUsp (p8 p 0) = true ∧ p8 p 1 < 16 ∧ s.bindBusy (p8 p 0) = false ∧ s.hasLd (ldParam p) = false)
    (fun _ p s => (({ s with pol := { s.pol with lds := addNew (ldParam p) s.pol.lds } }).journal (.ldCreate (ldParam p))).emit
      (.hotplug (ldParam p / 16) (ldParam p % 16 + 2) 3)) ∧
  Starts .ldCreate 0xC410 .operate 2 false
    (fun _ p s => s.isUsp (p8 p 0) = true ∧ p8 p 1 < 16 ∧ (s.pol.bindOps.find? (fun o => o.usp == p8 p 0)).map BindOp.started = some true)
    (fun _ p s => { s with pol := { s.pol with bindOps := s.pol.bindOps ++
      [{ usp := p8 p 0, bgId := s.cmd.nextBg, opcode := 0xC410, params := p, managed := false, linkDown := false, started := false }] } }) ∧
  (∀ (h : Hdr) (p : Bytes) (s : State), Operating s → Privileged .operate h s → p.length = 3 → s.isUsp (p8 p 0) = true → p8 p 1 < 16 →
    p8 p 2 = 0 → s.bindBusy (p8 p 0) = false → s.hasLd (ldParam p) = true → s.ldHolds (ldParam p) = false → s.pol.releases = [] →
    s.pol.grants = [] → s.dir.flushes = [] →
    ∃ t, exec (.ldDestroy h p) s = .next t ∧
      (t.tbl.waits.map Waiting.what) = s.tbl.waits.map Waiting.what ++ [.modCommit s.tbl.nextMod] ∧
      (t.tbl.modq.map ModCommit.after) = s.tbl.modq.map ModCommit.after ++ [.release s.pol.nextId] ∧
      (t.pol.releases.map (fun r => (r.id, r.ld, r.destroy))) = [(s.pol.nextId, ldParam p, true)] ∧ t.pol.lds = s.pol.lds) ∧
  (∀ (u : Port) (v : Fin 32) (o : BindOp) (s : State), s.pol.bindOps = [o] → o.usp = u.val → o.managed = true → p8 o.params 1 = v.val →
    exec (.managedRemoveTimeout u v) s = .next (((s.timerInput 1).modPol (fun p => { p with bindOps := [] })).endBg o.bgId stTimeout [])) ∧
  (∀ (u : Port) (v : Fin 32) (b : Bind) (s : State), SMap.wf s.prt.binds → s.bindOf u.val v.val = some b → b.ldId = none →
    s.dpcEnabled (32 * u.val + v.val) = false → (s.port b.port).outReqs = [] →
    ∃ t, exec (.surpriseHotRemove u v) s = .next t ∧ t.bindOf u.val v.val = none ∧
      (∃ e ∈ t.flt.waiting, e.src = 0x0600 + b.port ∧ e.cls = contained ∧ e.evt = 3) ∧
      (t.tbl.modq.map ModCommit.after) = s.tbl.modq.map ModCommit.after ++ [.bind 0] ∧ t.pol = s.pol ∧ t.vlt = s.vlt) ∧
  (∀ (u : Port) (k : CfgTarget) (off : BitVec 12) (tag : Nat) (s : State), s.isUsp u.val = true → (s.port u.val).up = true →
    (s.port u.val).l1 = false → s.cfgRetry u.val k = true →
    exec (.configRequest u k off tag) s = .next (s.emit (.ioCpl u.val tag .crs []))) ∧
  (∀ (u : Port) (off : BitVec 12) (tag : Nat) (s : State), s.isUsp u.val = true → (s.port u.val).up = true →
    (s.port u.val).l1 = false → s.cfgRetry u.val .usp = false →
    exec (.configRequest u .usp off tag) s =
      .next (s.emit (.ioCpl u.val tag .sc (leBytes 4 (s.cfgRead u.val .usp (off.toNat / 4 * 4) 4))))) ∧
  (∀ (u : Port) (tag : Nat) (v : Word) (s : State), SMap.wf s.prt.cfg → s.isUsp u.val = true → (s.port u.val).up = true → (s.port u.val).l1 = false →
    s.cfgRetry u.val .hostPf = false →
    ∃ t, exec (.hostConfigWrite u { target := .hostPf, offset := 0x3C, be := 1, value := v, tag := tag }) s = .next t ∧
      SMap.get t.prt.cfg (cfgAddr u.val .hostPf 0x3C) (fieldByte (s.cfgFixed u.val .hostPf) 0x3C) = v.setWidth 8 ∧
      (∀ a, a ≠ cfgAddr u.val .hostPf 0x3C → SMap.find t.prt.cfg a = SMap.find s.prt.cfg a)) ∧
  (∀ (h : Hdr) (s : State), Operating s → Privileged .observe h s →
    ∃ b : Bytes, exec (.fmApiCommand h true 0x5100 []) s = .next (((request 0x5100 .observe h [] s).drawn.emit
      (.fmRsp h.req 0x5100 h.tag.toNat 0 b)).recordResponse s.trec.next stSuccess b)) ∧
  (∀ (h : Hdr) (p : Bytes) (s : State), s.clk.phase ≠ .off →
    exec (.fmApiCommand h true 0x5500 p) s = .next (s.emit (.fmRsp h.req 0x5500 h.tag.toNat 3 [])))

/-- Links up and down, figures of merit, equalisation, lost lanes, parking, bay PLLs (R350, R351, R352, R354, R357, R360, R362, R363, R366, R374, R376). -/
def Obligations.LinksAndLanes : Prop :=
  (∀ (p : Port) (l : LinkParams) (s : State), SMap.wf s.regs → s.mayTrain p.val = true → (s.port p.val).up = false → 1 ≤ l.width →
    1 ≤ s.fullWidth p.val → s.retiredLanes p.val = [] → s.isUsp p.val = false → s.isPool p.val = false → s.get Reg.HLM_IDE_CFG_POLICY p.val = 0 →
    ∃ t, exec (.linkUp p l) s = .next t ∧ (t.port p.val).up = true ∧ t.get Reg.LNC_PORT_STATUS_LTSSM p.val = 4 ∧
      t.get Reg.LNC_PORT_STATUS_FAIL_COUNT p.val = 0 ∧ t.flag Reg.LNC_PORT_STATUS_PARKED p.val = false ∧
      t.get Reg.LNC_PORT_STATUS_RATE p.val = min l.rate.val (s.get Reg.LNC_PORT_CTL_MAX_RATE p.val) ∧
      t.pol = s.pol ∧ t.dir = s.dir ∧ t.jnl = s.jnl) ∧
  (∀ (p : Port) (s : State), SMap.wf s.regs → (s.port p.val).up = true → s.isUsp p.val = false → s.isPool p.val = false →
    s.bindsTo p.val = [] → s.pol.bindOps = [] → (s.port p.val).margin = none →
    ∃ t, exec (.linkDown p) s = .next t ∧ (t.port p.val).up = false ∧ t.get Reg.LNC_PORT_STATUS_WIDTH p.val = 0 ∧
      t.pol = s.pol ∧ t.dir = s.dir ∧ t.jnl = s.jnl ∧ t.tbl = s.tbl) ∧
  (∀ (n : Lane) (f : BitVec 8) (x : Nat × Nat) (s : State), s.laneOf n.val = some x → (s.port x.1).up = true →
    s.flag Reg.LNC_LANE_STATUS_IN_USE n.val = true → (SMap.get s.lnc.lanes n.val LaneSt.dflt).seen = true →
    ∃ t, exec (.fomUpdate (.port n) f) s = .next t ∧ t = { s with regs := t.regs, lnc := t.lnc } ∧
      (∀ g i, g.key i ≠ Reg.LNC_LANE_STATUS_FOM.key n.val → g.key i ≠ Reg.LNC_LANE_STATUS_FOM_MIN.key n.val → t.get g i = s.get g i) ∧
      (SMap.wf s.regs → t.get Reg.LNC_LANE_STATUS_FOM n.val = f.toNat ∧
        t.get Reg.LNC_LANE_STATUS_FOM_MIN n.val = min f.toNat (s.get Reg.LNC_LANE_STATUS_FOM_MIN n.val))) ∧
  (∀ (b : Bundle) (i : Fin 17) (f : BitVec 8) (s : State), s.get Reg.SEM_BUNDLE_STATUS_STATE b.val = 8 →
    s.flag Reg.SEM_LANE_STATUS_LOST (32 * b.val + i.val) = false →
    exec (.fomUpdate (.seam b i) f) s = .next ((s.set Reg.SEM_LANE_STATUS_FOM (32 * b.val + i.val) f.toNat).set Reg.SEM_LANE_STATUS_FOM_MIN
      (32 * b.val + i.val) (min (s.get Reg.SEM_LANE_STATUS_FOM_MIN (32 * b.val + i.val)) f.toNat))) ∧
  (∀ (n : Lane) (x : Nat × Nat) (s : State), s.laneOf n.val = some x → (s.port x.1).up = true →
    s.flag Reg.LNC_LANE_STATUS_IN_USE n.val = true → s.get Reg.LNC_LANE_STATUS_FOM n.val < s.get Reg.LNC_PORT_CTL_FOM_ALERT x.1 →
    (SMap.get s.lnc.lanes n.val LaneSt.dflt).alerted = false →
    exec (.fomAlert n) s = .next ((s.modLane n.val (fun y => { y with alerted := true })).report (0x0480 + x.1) corrected 1 [byte x.1]
      [byte n.val, byte (s.get Reg.LNC_LANE_STATUS_FOM n.val)])) ∧
  (∀ (p : Port) (r : EqRun) (f : BitVec 8) (fs : List (BitVec 8)) (s : State), SMap.wf s.regs → (s.port p.val).up = true → r.bypass = none →
    r.presets = f :: fs → 200 ≤ f.toNat → s.get Reg.LNC_PORT_CTL_EQ_MIN_FOM p.val ≤ f.toNat →
    ∃ t, exec (.equalisation p r) s = .next t ∧ t = { s with regs := t.regs, lnc := t.lnc, out := t.out } ∧
      t.out = .eqRequest p.val 7 0 :: .eqRequest p.val 7 0 :: s.out ∧
      (∀ n ∈ s.portLanes p.val, t.get Reg.LNC_LANE_STATUS_PARTNER_PRESET n = 7)) ∧
  (∀ (n : Lane) (x : Nat × Nat) (s : State), SMap.wf s.regs → s.laneOf n.val = some x → (s.port x.1).up = true →
    s.flag Reg.LNC_LANE_STATUS_IN_USE n.val = true → s.lnc.margin = [] → 2 ≤ s.get Reg.LNC_PORT_STATUS_WIDTH x.1 → s.flag Reg.LNC_PORT_CTL_L0P_EN x.1 = false →
    (s.retireLane x.1 n.val x.2).recoveryWidth x.1 ≠ (0, false) → (s.retireLane x.1 n.val x.2).recoveryWidth x.1 ≠ (0, true) →
    ∃ t, exec (.laneLoss n) s = .next t ∧ t.flag Reg.LNC_LANE_STATUS_RETIRED n.val = true ∧ t.flag Reg.LNC_LANE_STATUS_IN_USE n.val = false ∧
      (t.port x.1).up = true ∧ (∃ e ∈ t.flt.waiting, e.src = 0x0440 + x.1 ∧ e.cls = corrected) ∧
      (t.get Reg.LNC_PORT_STATUS_WIDTH x.1, t.flag Reg.LNC_PORT_STATUS_REVERSED x.1) = (s.retireLane x.1 n.val x.2).recoveryWidth x.1 ∧
      t.pol = s.pol ∧ t.dir = s.dir) ∧
  (∀ (p : Port) (w : Nat) (s : State), (s.port p.val).up = true → s.flag Reg.LNC_PORT_STATUS_L0P p.val = false →
    exec (.partnerL0pRequest p w) s = .next (s.emit (.l0pRsp p.val false))) ∧
  (∀ (p : Port) (w : Nat) (s : State), (s.port p.val).up = true → s.flag Reg.LNC_PORT_STATUS_L0P p.val = true →
    s.flag Reg.LNC_PORT_CTL_L0P_EN p.val = true → 1 ≤ w → min (pow2le w) (s.l0pWidth p.val) = s.get Reg.LNC_PORT_STATUS_WIDTH p.val →
    exec (.partnerL0pRequest p w) s = .next (s.emit (.l0pRsp p.val true))) ∧
  (∀ (p : Port) (s : State), (s.port p.val).up = false → (s.port p.val).trainPend = true → s.flag Reg.LNC_PORT_STATUS_PARKED p.val = false →
    s.get Reg.LNC_PORT_STATUS_FAIL_COUNT p.val < 7 →
    exec (.trainingAttemptFail p) s =
      .next (s.set Reg.LNC_PORT_STATUS_FAIL_COUNT p.val (s.get Reg.LNC_PORT_STATUS_FAIL_COUNT p.val + 1))) ∧
  (∀ (p : Port) (s : State), (s.port p.val).up = false → (s.port p.val).trainPend = true → s.flag Reg.LNC_PORT_STATUS_PARKED p.val = false →
    7 ≤ s.get Reg.LNC_PORT_STATUS_FAIL_COUNT p.val →
    exec (.trainingAttemptFail p) s = .next (((((s.set Reg.LNC_PORT_STATUS_FAIL_COUNT p.val 8).setFlag Reg.LNC_PORT_STATUS_PARKED p.val true).set
      Reg.LNC_PORT_STATUS_LTSSM p.val 11).modPort p.val (fun x => { x with trainPend := false })).reportIx 0x0400 p.val corrected 0)) ∧
  (∀ (p : Port) (s : State), s.flag Reg.LNC_PORT_STATUS_PARKED p.val = true → s.mayTrain p.val = true →
    exec (.parkedDetect p true) s = .next (((s.set Reg.LNC_PORT_STATUS_LTSSM p.val 0).modPort p.val
      (fun x => { x with trainPend := true })).emit (.train p.val))) ∧
  (∀ (n : Lane) (x : Nat × Nat) (s : State), s.laneOf n.val = some x → (s.port x.1).up = true → 3 ≤ s.get Reg.LNC_PORT_STATUS_RATE x.1 →
    (s.port x.1).margin = none →
    exec (.hostMarginCommand n true) s = .next (s.modPort x.1 (fun y => { y with hostMargin := addNew n.val y.hostMargin }))) ∧
  (∀ (b : Bay) (s : State), s.flag Reg.LNC_BAY_CFG_PLL_LOCK b.val = true → (s.bayPorts b.val).all (fun q => !(s.port q).up) = true →
    exec (.bayPllLockLoss b) s = .next ((s.setFlag Reg.LNC_BAY_CFG_PLL_LOCK b.val false).reportIx 0x04C0 b.val contained 0)) ∧
  (∀ (b : Bay) (s : State), SMap.wf s.regs → s.flag Reg.LNC_BAY_CFG_PLL_LOCK b.val = false → s.mainUp = true →
    ∃ t, exec (.bayPllRelock b true) s = .next t ∧ t = { s with regs := t.regs, prt := t.prt, out := t.out } ∧
      t.flag Reg.LNC_BAY_CFG_PLL_LOCK b.val = true) ∧
  (∀ (n : Lane) (x : Nat × Nat) (m : LaneTest) (s : State), s.laneOf n.val = some x → (s.port x.1).testMode = some m → 1 ≤ m.mode →
    (SMap.get s.lnc.lanes n.val LaneSt.dflt).lockTick = none →
    exec (.prbsLock n) s = .next (s.modLane n.val (fun y => { y with lockTick := some s.tick })))

/-- LANE_INFO, BAY_WIDTH_SET, LINK_CTL, LANE_MARGIN and LANE_TEST (R343, R345, R364, R366, R368, R370, R376, R378). -/
def Obligations.LaneCommands : Prop :=
  (∀ (h : Hdr) (p : Bytes) (s : State), Operating s → Privileged .observe h s → p.length = 1 → p8 p 0 < 16 →
    ∃ b : Bytes, b.length = 356 ∧ exec (.laneInfo h p) s = .next (answered 0xC210 stSuccess h s b
      { request 0xC210 .observe h p s with fresh := s.fresh + 16 })) ∧
  (∀ (h : Hdr) (p : Bytes) (s : State), SMap.wf s.regs → Operating s → Privileged .admin h s → p.length = 2 → p8 p 0 < 16 → p8 p 1 < 3 →
    s.flag Reg.HLM_STATUS_LOCKED = false → (s.bayPorts (p8 p 0)).all (fun q => s.portFree q && !(s.port q).up && (s.port q).testMode.isNone) = true →
    ∃ t, exec (.bayWidthSet h p) s = .next (answered 0xC211 stSuccess h s [] t) ∧
      t = { request 0xC211 .admin h p s with regs := t.regs, prt := t.prt, jnl := t.jnl, out := t.out } ∧
      t.get Reg.LNC_BAY_CFG_WIDTH (p8 p 0) = p8 p 1 ∧ JRec.bayWidth (p8 p 0) (p8 p 1) ∈ t.jnl.flash ++ t.jnl.buf) ∧
  Does .linkCtl 0xC212 .operate 2 (fun _ p s => s.present (p8 p 0) = true ∧ p8 p 1 = 0 ∧ (s.port (p8 p 0)).up = true)
    (fun _ p s => (s.bump Reg.LNC_CNT_RECOV (p8 p 0)).emit (.train (p8 p 0))) ∧
  (∀ (h : Hdr) (p : Bytes) (s : State), SMap.wf s.regs → Operating s → Privileged .operate h s → p.length = 2 → s.isDsp (p8 p 0) = true →
    p8 p 1 = 2 → (s.port (p8 p 0)).up = false → (s.port (p8 p 0)).testMode = none →
    ∃ t, exec (.linkCtl h p) s = .next (answered 0xC212 stSuccess h s [] t) ∧
      t = { request 0xC212 .operate h p s with regs := t.regs, prt := t.prt } ∧ 0 ∈ (t.port (p8 p 0)).disabledBy ∧
      t.get Reg.LNC_PORT_STATUS_LTSSM (p8 p 0) = 8) ∧
  Starts .laneMargin 0xC213 .operate 6 false
    (fun _ p s => s.present (p8 p 0) = true ∧ p16 p 2 ≠ 0 ∧ p16 p 2 < 2 ^ s.fullWidth (p8 p 0) ∧ 1 ≤ p8 p 4 ∧ p8 p 4 < 4 ∧ 1 ≤ p8 p 5 ∧ p8 p 5 ≤ 63 ∧
      (s.port (p8 p 0)).up = true ∧ 3 ≤ s.get Reg.LNC_PORT_STATUS_RATE (p8 p 0) ∧ (s.port (p8 p 0)).hostMargin = [] ∧ (s.port (p8 p 0)).margin = none)
    (fun _ p s => ({ s with lnc := { s.lnc with margin := s.lnc.margin ++ (indicesOf 16 (p16 p 2)).map (fun i =>
      (s.cmd.nextBg, (s.portLanes (p8 p 0)).getD i 0)) } }).modPort (p8 p 0) (fun x => { x with margin := some s.cmd.nextBg })) ∧
  Does .laneTest 0xC214 .operate 16
    (fun _ p s => s.present (p8 p 0) = true ∧ p8 p 1 = 1 ∧ p8 p 2 < 5 ∧ p8 p 3 < 9 ∧ p8 p 4 < 6 ∧ s.get Reg.PRT_PORT_CFG_ROLE (p8 p 0) = 0 ∧
      (s.port (p8 p 0)).testMode = none)
    (fun _ p s => ((forEach (s.portLanes (p8 p 0)) (fun n s => s.modLane n (fun x => { x with testOn := true, lockTick := none, compared := 0 })) s).modPort
      (p8 p 0) (fun x => { x with testMode := some { mode := p8 p 2, pattern := p8 p 3, rate := p8 p 4, user := p64 p 8 } })).set
        Reg.LNC_PORT_STATUS_LTSSM (p8 p 0) 12)

/-- Port roles, personalities, management flags, multicast allotment and port reports (R42, R43, R307, R308, R309, R310, R334, R340, R548, R553). -/
def Obligations.PortCommands : Prop :=
  Does .portRoleSet 0xC201 .admin 2
    (fun _ p s => s.present (p8 p 0) = true ∧ p8 p 1 < 3 ∧ s.flag Reg.HLM_STATUS_LOCKED = false ∧ s.roleRefused (p8 p 0) (p8 p 1) = none)
    (fun _ p s => s.setRole (p8 p 0) (p8 p 1)) ∧
  (∀ (p : Port) (r : Fin 3) (s : State), SMap.wf s.regs → (s.port p.val).up = false → (s.port p.val).testMode = none →
    s.get Reg.PRT_PORT_CFG_ROLE p.val ≠ r.val →
    (s.setRole p.val r.val).get Reg.PRT_PORT_CFG_ROLE p.val = r.val ∧ ((s.setRole p.val r.val).port p.val).crs = true ∧
      (s.setRole p.val r.val).pol = s.pol ∧ (s.setRole p.val r.val).flag Reg.LNC_PORT_STATUS_PARKED p.val = false) ∧
  Does .dspPersonalitySet 0xC401 .admin 2
    (fun _ p s => s.isDsp (p8 p 0) = true ∧ 1 ≤ p8 p 1 ∧ p8 p 1 ≤ 2 ∧ s.personalityRefused (p8 p 0) (p8 p 1) = none)
    (fun _ p s => s.setPersonality (p8 p 0) (p8 p 1)) ∧
  (∀ (p : Port) (v : Fin 3) (s : State), SMap.wf s.regs → (s.port p.val).up = false → (s.port p.val).testMode = none →
    s.get Reg.POL_DSP_CFG_PERSONALITY p.val ≠ v.val →
    (s.setPersonality p.val v.val).get Reg.POL_DSP_CFG_PERSONALITY p.val = v.val ∧ (s.setPersonality p.val v.val).pol = s.pol) ∧
  Does .portMgmtSet 0xC202 .admin 2
    (fun _ p s => s.isUsp (p8 p 0) = true ∧ s.flag Reg.HLM_STATUS_LOCKED = false ∧ s.otherMgmt (p8 p 0) = false)
    (fun _ p s => (s.setJ Reg.PRT_PORT_CFG_VDM_MGMT (p8 p 0) (bitsOf (p8 p 1) 0 1)).setJ Reg.PRT_PORT_CFG_MGMT_USP (p8 p 0) (bitsOf (p8 p 1) 1 1)) ∧
  (∀ (h : Hdr) (p : Bytes) (s : State), Operating s → Privileged .observe h s → p.length = 0 →
    ∃ b : Bytes, b.length = 520 ∧ exec (.portInfo h p) s = .next (answered 0xC200 stSuccess h s b
      { request 0xC200 .observe h p s with fresh := s.fresh + 1 })) ∧
  Reads .portStats 0xC204 .observe 1 (fun _ p s => s.present (p8 p 0) = true)
    (fun h p s b => 12 ≤ b.length ∧ slice b 0 4 = leBytes 4 ((request 0xC204 .observe h p s).word (0x06000300 + 4 * p8 p 0))) ∧
  Reads .ideStatus 0xC930 .observe 1 (fun _ p s => s.present (p8 p 0) = true)
    (fun _ p s b => b.length = 8 ∧ fieldAt b 0 1 = s.get Reg.HLM_IDE_CFG_STATE (p8 p 0) % 256) ∧
  Does .mcGroupAllot 0xC203 .operate 9 (fun _ p s => s.isUsp (p8 p 8) = true ∧ p64 p 0 = SMap.get s.prt.mcAllot (p8 p 8) 0) (fun _ _ s => s) ∧
  (∀ (h : Hdr) (p : Bytes) (s : State), SMap.wf s.prt.mcAllot → Operating s → Privileged .operate h s → p.length = 9 → s.isUsp (p8 p 8) = true →
    p64 p 0 ≠ SMap.get s.prt.mcAllot (p8 p 8) 0 → s.mcEnabled (p8 p 8) = false →
    s.prt.mcAllot.any (fun a => a.1 != p8 p 8 && a.2 &&& p64 p 0 != 0) = false →
    ∃ t, exec (.mcGroupAllot h p) s = .next t ∧ SMap.get t.prt.mcAllot (p8 p 8) 0 = p64 p 0 ∧
      (t.tbl.waits.map Waiting.what) = s.tbl.waits.map Waiting.what ++ [.modCommit s.tbl.nextMod] ∧
      (t.tbl.modq.map ModCommit.id) = s.tbl.modq.map ModCommit.id ++ [s.tbl.nextMod] ∧ t.pol = s.pol ∧ t.tbl.tables = s.tbl.tables)

/-- Decoders, AER, DPC, IDE, link power states and resets behind a port (R57, R330, R331, R333, R334, R335, R336, R337, R364, R548, R603, R604). -/
def Obligations.PortEvents : Prop :=
  (∀ (u : Port) (receive : BitVec 64) (en : Bool) (s : State), s.isUsp u.val = true → SMap.get s.prt.mcAllot u.val 0 = 0 →
    exec (.multicastCapWrite u .usp en receive) s = .next (forEach (List.range 8)
      (fun i s => s.cfgStore u.val .usp (0x2C0 + 0x10 + i) (byte (receive.toNat / 256 ^ i))) s)) ∧
  (∀ (u : Port) (k : Fin 16) (w : HdmWrite) (s : State), s.isUsp u.val = true → s.hasLd (16 * u.val + k.val) = true →
    Decoder.fits { base := w.base, size := w.size, dpa := w.skip, iw := w.iw, ig := w.ig, valid := true }
      (((s.decodersOf u.val).filter (fun y => y.1 != 4 * k.val)).map Prod.snd) = true →
    exec (.hdmDecoderCommit u k 0 w) s = .next (({ s with
      prt := { s.prt with
        hdm := SMap.store s.prt.hdm (64 * u.val + 4 * k.val) ((SMap.get s.prt.hdm (64 * u.val + 4 * k.val) (false, false)).1, false) (false, false) }
      }).moduleCommit 2
      [(0x0A00 + u.val, 32 * (4 * k.val), Decoder.toBytes { base := w.base, size := w.size, dpa := w.skip, iw := w.iw, ig := w.ig, valid := true })] []
      (.hdm u.val [4 * k.val]))) ∧
  (∀ (u : Port) (k : Fin 16) (w : HdmWrite) (s : State), s.isUsp u.val = true → s.hasLd (16 * u.val + k.val) = true → w.base % 2 ^ 28 ≠ 0 →
    exec (.hdmDecoderCommit u k 0 w) s = .next { s with
      prt := { s.prt with
        hdm := SMap.store s.prt.hdm (64 * u.val + 4 * k.val) ((SMap.get s.prt.hdm (64 * u.val + 4 * k.val) (false, false)).1, true) (false, false) } }) ∧
  (∀ (p : Port) (fn : CfgTarget) (e : AerErr) (u : Nat) (s : State), SMap.wf s.prt.aer → s.vcsOf p.val fn = some u → s.cfgPresent u fn = true →
    e.correctable = true →
    ∃ t, exec (.aerError p fn e) s = .next t ∧ t = { s with prt := { s.prt with aer := t.prt.aer }, out := t.out, flt := t.flt } ∧
      bitOf (t.aerOf u (cfgIndex fn)).cor e.bit.val = true ∧ (t.aerOf u (cfgIndex fn)).unc = (s.aerOf u (cfgIndex fn)).unc ∧
      (∃ x ∈ t.flt.waiting, x.src = 0x0600 + p.val ∧ x.cls = corrected ∧ x.evt = 0)) ∧
  (∀ (u : Port) (v : Fin 32) (d : Nat) (b : Bind) (s : State), s.bindOf u.val v.val = some b → b.ldId = some d →
    s.dpcEnabled (32 * u.val + v.val) = true → 32 * u.val + v.val ∉ s.prt.dpc →
    ∃ t, exec (.dpcTrigger u v) s = .next t ∧ t = { s with prt := t.prt, out := t.out, flt := t.flt } ∧ 32 * u.val + v.val ∈ t.prt.dpc ∧
      (∃ x ∈ t.flt.waiting, x.src = 0x0600 + b.port ∧ x.cls = contained ∧ x.evt = 2)) ∧
  (∀ (u : Port) (v : Fin 32) (d : Nat) (b : Bind) (s : State), s.bindOf u.val v.val = some b → b.ldId = some d →
    32 * u.val + v.val ∈ s.prt.dpc →
    exec (.dpcStatusClear u v) s = .next { s with prt := { s.prt with dpc := s.prt.dpc.filter (· ≠ 32 * u.val + v.val) } }) ∧
  (∀ (p : Port) (x : IdeStream) (s : State), SMap.find s.hlm.ide (8 * p.val) = some x →
    exec (.ideIntegrityFailure p) s = .next (((s.set Reg.HLM_IDE_CFG_STATE p.val 2).modPort p.val
      (fun y => { y with ideInsecure := true })).report (0x06C0 + p.val) contained 0 [byte p.val])) ∧
  (∀ (p : Port) (x : IdeStream) (s : State), SMap.find s.hlm.ide (8 * p.val) = some x → s.isDsp p.val = true →
    s.get Reg.HLM_IDE_CFG_STATE p.val = 1 → s.get Reg.HLM_IDE_CFG_REKEY_H p.val ≠ 0 →
    ∃ t, exec (.ideRekeyTimer p) s = .next t ∧ t = { s with hlm := { s.hlm with ide := t.hlm.ide }, fresh := s.fresh + 1, out := t.out } ∧
      t.out = .ideKm p.val 1 :: s.out ∧ (SMap.find t.hlm.ide (8 * p.val)).map IdeStream.keySet = some (1 - x.keySet)) ∧
  (∀ (p : Port) (root : Bytes) (s : State), SMap.wf s.regs → s.isDsp p.val = true → (s.port p.val).up = true → s.get Reg.HLM_IDE_CFG_STATE p.val = 3 →
    s.get Reg.HLM_IDE_CFG_POLICY p.val = 2 → s.isDeviceRoot root = true →
    ∃ t, exec (.ideRequiredRetry p (.offered root)) s = .next t ∧ t.get Reg.HLM_IDE_CFG_STATE p.val = 1 ∧
      (SMap.find t.hlm.ide (8 * p.val)).map IdeStream.keySet = some 0 ∧ t.pol = s.pol ∧ t.dir = s.dir ∧ t.flt = s.flt) ∧
  (∀ (u : Port) (s : State), s.isUsp u.val = true → (s.port u.val).up = true → s.passDsps u.val = [] →
    exec (.pmeTurnOff u) s = .next (((s.modPort u.val (fun x => { x with pmePend := [] })).set Reg.LNC_PORT_STATUS_LTSSM u.val 7).emit
      (.pmeAck u.val))) ∧
  (∀ (u : Port) (s : State), s.isUsp u.val = true → (s.port u.val).up = true → s.passDsps u.val ≠ [] →
    exec (.pmeTurnOff u) s = .next ((s.emits ((s.passDsps u.val).map OutMsg.pmeOff)).modPort u.val
      (fun x => { x with pmePend := s.passDsps u.val }))) ∧
  (∀ (u : Port) (s : State), (s.port u.val).pmePend ≠ [] →
    exec (.pmeAckTimeout u) s = .next (((s.modPort u.val (fun x => { x with pmePend := [] })).set Reg.LNC_PORT_STATUS_LTSSM u.val 7).emit
      (.pmeAck u.val))) ∧
  (∀ (p : Port) (s : State), (s.port p.val).up = true → s.l1Enabled p.val = true → s.get Reg.LNC_PORT_STATUS_LTSSM p.val = 4 →
    s.isUsp p.val = false → s.prt.ioSlots = [] → s.prt.memSlots = [] →
    exec (.aspmL1Idle p) s = .next (((s.modPort p.val (fun x => { x with l1 := true })).set Reg.LNC_PORT_STATUS_LTSSM p.val 6).emit
      (.aspmL1 p.val))) ∧
  (∀ (u : Port) (s : State), s.isUsp u.val = true → (s.port u.val).up = true → s.dir.slices = [] → s.mov = Mov.reset → s.pol.bindOps = [] →
    ∃ t, exec (.portReset u) s = .next t ∧ (t.port u.val).up = false ∧ (t.port u.val).crs = true ∧
      (t.tbl.modq.map ModCommit.after) = s.tbl.modq.map ModCommit.after ++ [.portReset u.val] ∧ t.prt.binds = s.prt.binds ∧
      t.pol.map = s.pol.map ∧ t.pol.lds = s.pol.lds) ∧
  (∀ (p : Port) (s : State), s.isUsp p.val = true → (s.port p.val).perst = false →
    exec (.perstNEdge p true) s = .next (((s.recordEvent (0x0600 + p.val) 3 [1]).modPort p.val (fun x => { x with perst := true })).unpark p.val)) ∧
  (∀ (u : Port) (v : Fin 32) (d : Nat) (b : Bind) (s : State), s.isUsp u.val = true → 18 ≤ v.val → s.bindOf u.val v.val = some b → b.ldId = some d →
    exec (.secondaryBusReset u v) s = .next (s.emit (.devCfg b.port 2 (leBytes 2 d)))) ∧
  (∀ (u : Port) (v : Fin 32) (b : Bind) (s : State), s.isUsp u.val = true → s.bindOf u.val v.val = some b → b.ldId = none →
    7 ∉ (s.port b.port).disabledBy → s.flag Reg.LNC_PORT_STATUS_PARKED b.port = true →
    exec (.linkDisableClear u v) s = .next (((s.setFlag Reg.LNC_PORT_STATUS_PARKED b.port false).set Reg.LNC_PORT_STATUS_FAIL_COUNT b.port 0).train
      b.port))

/-- CXL.mem, CXL.io, AtomicOps and pass-through messages that arrive at a port (R61, R319, R323, R324, R331, R332). -/
def Obligations.TrafficAtThePorts : Prop :=
  (∀ (p : Port) (v : Nat) (b : Bind) (m : MemReq) (s : State), s.takes p.val = true → (s.port p.val).memUp = true → (s.port p.val).l1 = false →
    m.pbr = none → m.op = .memWr → s.isUsp p.val = true → s.decodeHpa p.val m.hpa (s.inStamp p.val) = none →
    s.windowOf p.val m.hpa (s.inStamp p.val) = some (v, b) → 32 * p.val + v ∉ s.prt.dpc → (s.port b.port).up = true →
    exec (.cxlMemRequest p m) s = .next (s.enterMsg {
      src := p.val, dest := b.port, q := 2, len := 80, ingots := 2, epoch := s.inStamp p.val,
      mc := none, pbar := none, hr := false, perr := false, body := .memFwd b.port m m.hpa } false)) ∧
  (∀ (p : Port) (m : MemReq) (s : State), s.takes p.val = true → (s.port p.val).memUp = true → (s.port p.val).l1 = false →
    m.pbr = none → m.op = .memWr → s.isUsp p.val = true → s.decodeHpa p.val m.hpa (s.inStamp p.val) = none →
    s.windowOf p.val m.hpa (s.inStamp p.val) = none →
    exec (.cxlMemRequest p m) s = .next ((s.emit (.memCpl p.val { tag := m.tag, row := 1, data := none, poison := false, mta := none })).report
      (0x0A00 + p.val) contained 1 (ctxLd (16 * p.val) (m.hpa % 2 ^ 45 / 64)))) ∧
  (∀ (p : Port) (k : Nat) (t : Tlp) (s : State), s.takes p.val = true → (s.port p.val).l1 = false → t.pbr = none → t.kind = .msg → t.ld = none →
    s.isUsp p.val = false → s.isPool p.val = false → s.bindsTo p.val = [(k, none)] → k ∉ s.prt.dpc → s.flag Reg.XBR_CTL_CT_EN = false → k / 32 < 64 →
    exec (.cxlIoTlpReceive p t) s = .next (s.enterMsg {
      src := p.val, dest := k / 32, q := 5, len := max 1 t.bytes,
      ingots := ingotsOf (max 1 t.bytes), epoch := s.inStamp p.val, mc := none, pbar := none, hr := false, perr := false,
      body := .tlp (k / 32) t false } false)) ∧
  (∀ (u : Port) (hpa : BitVec 64) (tag : Nat) (x : Nat × Nat) (s : State), s.isUsp u.val = true → s.takes u.val = true → (s.port u.val).l1 = false →
    s.decodeHpa u.val hpa.toNat (s.inStamp u.val) = some x →
    exec (.poolRangeIoRequest u false hpa tag) s =
      .next ((s.emit (.ioCpl u.val tag .ur [])).report (0x0600 + u.val) contained 5 [byte u.val]) ∧
    exec (.poolRangeIoRequest u true hpa tag) s = .next (s.report (0x0600 + u.val) contained 5 [byte u.val])) ∧
  (∀ (u : Port) (a : AtomReq) (v : Nat) (b : Bind) (s : State), s.isUsp u.val = true → s.takes u.val = true → (s.port u.val).l1 = false →
    s.decodeHpa u.val a.hpa (s.inStamp u.val) = none → s.barHit u.val a.hpa = none →
    s.windowOf u.val a.hpa (s.inStamp u.val) = some (v, b) →
    exec (.atomicopReceive u a) s = .next (s.tlpToDevice u.val u.val v b {
      kind := .atomic, addr := a.hpa, rid := 0, reqId := 0, pbr := none,
      tag := a.tag, bytes := 16 + a.size, len := a.size, ro := false, ide := false, ld := none, data := leBytes a.size a.operand })) ∧
  (∀ (p : Port) (v : Nat) (b : Bind) (m : PassMsg) (s : State), s.takes p.val = true → (s.port p.val).l1 = false → s.isUsp p.val = true →
    m.peer = some v → s.bindOf p.val v = some b → 32 * p.val + v ∉ s.prt.dpc → (s.port b.port).up = true →
    exec (.passThroughCxlMessage p m) s = .next (s.enterMsg {
      src := p.val, dest := b.port, q := if m.cache then 3 else 0, len := max 1 m.bytes,
      ingots := ingotsOf (max 1 m.bytes), epoch := s.inStamp p.val, mc := none, pbar := none, hr := false, perr := false,
      body := .passMsg b.port m } false))

/-- Promotion, the ingot slot, acknowledgement, resending, plane failure, headroom and the fabric's commands (R241, R242, R246, R247, R249, R250, R252, R254, R257, R260, R274). -/
def Obligations.FabricCore : Prop :=
  (∀ (src dest : Fin 78) (q : Fin 8) (m : Msg) (ms : List Msg) (s : State), SMap.wf s.xbr.resv → SMap.wf s.xbr.queues → SMap.wf s.xbr.shared →
    64 ≤ src.val → s.resvOf (flow src.val dest.val q.val) = m :: ms → m.mc = none → SMap.get s.xbr.sentOff (flow src.val dest.val q.val) 0 = 0 →
    takeShared (s.kq q.val) m.ingots (s.sharedOf (flow src.val dest.val q.val)) s.sharedFree = true →
    ∃ t, exec (.messagePromotion src dest q) s = .next t ∧ t = { s with xbr := t.xbr } ∧ t.resvOf (flow src.val dest.val q.val) = ms ∧
      t.queueOf (flow src.val dest.val q.val) = s.queueOf (flow src.val dest.val q.val) ++ [m] ∧
      t.sharedOf (flow src.val dest.val q.val) = s.sharedOf (flow src.val dest.val q.val) + m.ingots) ∧
  (∀ (src dest : Fin 78) (p : Nat) (m : Msg) (s : State), s.activePlanes = [p] → s.xbr.queues = [(flow src.val dest.val 0, [m])] → s.xbr.resv = [] →
    m.ingots = 1 → SMap.get s.xbr.sentOff (flow src.val dest.val 0) 0 = 0 → s.xbr.egress = [] → s.xbr.stored = [] → s.xbr.retained = [] →
    ∃ t, exec .ingotSlot s = .next t ∧ t = { s with xbr := t.xbr, out := t.out } ∧ t.out = .ingot (s.nextHdr (flow src.val dest.val 0) m) p [] :: s.out ∧
      t.xbr.retained = [{ hdr := s.nextHdr (flow src.val dest.val 0) m, plane := p, resv := false }]) ∧
  (∀ (src dest : Fin 78) (q : Fin 8) (seq : BitVec 16) (g : Ingot) (p : Nat) (s : State), s.xbr.retained = [g] → s.xbr.cuts = [] →
    g.is (flow src.val dest.val q.val) seq = true → s.otherPlane g.plane = some p → s.planeFailed g.plane = false → g.plane ∉ s.xbr.probes →
    ∃ t, exec (.ingotAckTimeout src dest q seq) s = .next t ∧ t = { s with regs := t.regs, xbr := t.xbr, out := t.out } ∧
      t.out = .probe g.plane :: .ingot g.hdr p [] :: s.out ∧ t.xbr.probes = s.xbr.probes ++ [g.plane] ∧
      t.xbr.retained = [{ g with plane := p }]) ∧
  (∀ (p : Plane) (s : State), SMap.wf s.regs → p.val ∈ s.xbr.probes → s.planeFailed p.val = false → s.xbr.retained = [] →
    ∃ t, exec (.planeProbeTimeout p) s = .next t ∧ t = { s with regs := t.regs, xbr := t.xbr, flt := t.flt } ∧ t.planeFailed p.val = true ∧
      p.val ∉ t.xbr.probes ∧ (∃ e ∈ t.flt.waiting, e.src = 0x0700 + p.val ∨ e.src = 0x0707)) ∧
  (∀ (p : Nat) (s : State), SMap.wf s.regs → s.sparePlane = some p → s.xbr.retained = [] →
    exec (.spareSelfTest true) s = .next s ∧
    ∃ t, exec (.spareSelfTest false) s = .next t ∧ t = { s with regs := t.regs, xbr := t.xbr, flt := t.flt } ∧ t.planeFailed p = true) ∧
  (∀ (d : Fin 78) (p : Plane) (g : IngotHdr) (x : Bytes) (s : State), g.dest = d → s.flt.hchkInject = [] → g.crcOk = true →
    s.seqSeen (flow g.src.val g.dest.val g.q.val) g.seq = true →
    exec (.ingotReceive d p g x) s = .next ((({ s with xbr := { s.xbr with probes := s.xbr.probes.filter (· ≠ p.val) } }).bump
      Reg.XBR_CNT_DUP 0).emit (.ingotAck g.src.val d.val g.q.val g.seq.toNat true))) ∧
  (∀ (d : Fin 78) (p : Plane) (g : IngotHdr) (x : Bytes) (r : Ingot) (m : Msg) (s : State), SMap.wf s.xbr.expect → SMap.wf s.xbr.inflight →
    g.dest = d → 64 ≤ g.src.val → s.flt.hchkInject = [] → g.crcOk = true → g.eccOk = true →
    s.seqSeen (flow g.src.val g.dest.val g.q.val) g.seq = false →
    SMap.get s.xbr.expect (flow g.src.val g.dest.val g.q.val) 0 = g.seq.toNat → s.xbr.retained = [r] → r.resv = true →
    r.hdr = g → g.last = true → s.xbr.stored = [] → SMap.get s.xbr.inflight (flow g.src.val g.dest.val g.q.val) [] = [m] → m.dest = d.val →
    m.ct = false → m.gone = false → m.q = g.q.val → s.attUp d.val = true →
    ∃ t, exec (.ingotReceive d p g x) s = .next t ∧ t = { s with xbr := t.xbr, out := t.out } ∧
      t.out = .ingotAck g.src.val d.val g.q.val g.seq.toNat false :: s.out ∧ t.xbr.retained = [] ∧ t.xbr.stored = [] ∧
      SMap.get t.xbr.expect (flow g.src.val g.dest.val g.q.val) 0 = (g.seq.toNat + 1) % 65536 ∧
      SMap.get t.xbr.egress (8 * d.val + g.q.val) [] = SMap.get s.xbr.egress (8 * d.val + g.q.val) [] ++ [m]) ∧
  (∀ (i : Slice) (w : McWait) (s : State), s.xbr.mcWaits = [w] → w.slice = i.val → s.allPass w.copies = true →
    exec (.headroomGrant i) s = .next (forEach w.copies (fun m s => s.promote m) { s with xbr := { s.xbr with mcWaits := [] } })) ∧
  Reads .xbrInfo 0xC300 .observe 0 always (fun _ _ s b => b.length = 12 ∧ fieldAt b 0 1 = s.healthyPlanes ∧
    fieldAt b 2 1 = s.get Reg.XBR_PLANE_STATUS_FAILED % 256) ∧
  (∀ (h : Hdr) (p : Bytes) (s : State), Operating s → Privileged .operate h s → p.length = 2 → p8 p 0 < 64 → p8 p 1 < 2 →
    ∃ t, exec (.xbrMcPolicySet h p) s = .next t ∧
      (t.tbl.waits.map Waiting.what) = s.tbl.waits.map Waiting.what ++ [.modCommit s.tbl.nextMod] ∧
      (t.tbl.modq.map ModCommit.writes) = s.tbl.modq.map ModCommit.writes ++
        [[(0x0701, 16 * p8 p 0 + 8, leBytes 1 (putBit (fieldAt (s.mcEntry (p8 p 0)) 8 1) 1 (p8 p 1 == 1)))]] ∧
      t.tbl.tables = s.tbl.tables ∧ t.regs = (request 0xC301 .operate h p s).regs ∧ t.xbr = s.xbr) ∧
  (∀ (sp : Nat) (h : Hdr) (p : Bytes) (s : State), SMap.wf s.regs → Operating s → Privileged .admin h s → p.length = 1 → p8 p 0 < 5 →
    p8 p 0 ∈ s.activePlanes → s.sparePlane = some sp →
    ∃ t, exec (.xbrPlaneRetire h p) s = .next t ∧ t.planeFailed (p8 p 0) = true ∧
      (t.tbl.waits.map Waiting.what) = s.tbl.waits.map Waiting.what ++ [.modCommit s.tbl.nextMod] ∧
      (∃ j < 4, s.planeSlot j = some (p8 p 0) ∧
        (t.tbl.modq.map ModCommit.writes) = s.tbl.modq.map ModCommit.writes ++ [[(0x0700, j, leBytes 1 (0x80 + sp))]])) ∧
  Reads .xbrStats 0xC303 .observe 0 always (fun _ _ _ b => b.length = 536)

/-- Egress selection, token refill, samples, records and the scheduling commands (R279, R280, R285, R294, R295, R297, R303). -/
def Obligations.SchedulingAndTelemetry : Prop :=
  (∀ (e : Fin 68) (m : Msg) (ms : List Msg) (s : State), SMap.wf s.xbr.egress → s.eligible e.val 0 = true → s.guardOk e.val 0 = true →
    s.egressOf e.val 0 = m :: ms → 64 ≤ e.val →
    ∃ t, exec (.egressSelect e) s = .next t ∧ t = { s with xbr := t.xbr, sch := t.sch, out := t.out } ∧ t.out = m.output :: s.out ∧
      t.egressOf e.val 0 = ms) ∧
  (∀ (e : Fin 68) (s : State), ([0, 1, 2, 3, 4, 5, 6, 7].any (s.eligible e.val)) = false → exec (.egressSelect e) s = .next s) ∧
  (∀ (k : Nat) (v : Int) (s : State), s.sch.shaper = [(k, v)] → s.sch.guard = [] → s.sch.policer = [] →
    exec .tokenRefill s = .next { s with sch := { s.sch with
      shaper := if bitOf (fieldAt (s.schEntry (k / 8) (k % 8)) 2 1) 0 = false ∨ shapeFull (s.schEntry (k / 8) (k % 8)) ≤ v + (fieldAt (s.schEntry (k / 8) (k % 8)) 4 4 : Int) then []
        else [(k, v + (fieldAt (s.schEntry (k / 8) (k % 8)) 4 4 : Int))] } }) ∧
  (∀ s : State, s.flag Reg.SCH_CTL_TELEM_EN = true → s.busyQueues = [] →
    exec .telemetrySample s = .next { s with sch := { s.sch with samples := s.sch.samples + 1, alert := [] } }) ∧
  (∀ s : State, s.flag Reg.SCH_CTL_TELEM_EN = true → s.sch.archive.length < 13701 →
    ∃ t, exec (.telemetryExportInterval true) s = .next t ∧ t = { s with regs := t.regs, sch := t.sch } ∧ t.sch.samples = 0 ∧ t.sch.gap = false ∧
      t.sch.nextRec = (s.sch.nextRec + 1) % 2 ^ 32 ∧ t.sch.archive.map TelemRec.seq = s.sch.nextRec :: s.sch.archive.map TelemRec.seq) ∧
  (∀ s : State, SMap.wf s.regs → s.flag Reg.SCH_CTL_TELEM_EN = true →
    ∃ t, exec (.telemetryExportInterval false) s = .next t ∧ t = { s with regs := t.regs, sch := t.sch } ∧ t.sch.samples = 0 ∧ t.sch.gap = true ∧
      t.flag Reg.SCH_TELEM_STATUS_GAP = true ∧ t.sch.nextRec = s.sch.nextRec ∧ t.sch.archive = s.sch.archive) ∧
  (∀ (b : Bool) (s : State), s.flag Reg.SCH_CTL_TELEM_EN = false →
    exec .telemetrySample s = .next s ∧ exec (.telemetryExportInterval b) s = .next s) ∧
  Reads .schInfo 0xC310 .observe 0 always (fun _ _ _ b => b.length = 552) ∧
  (∀ (r : TelemRec) (h : Hdr) (p : Bytes) (s : State), Operating s → Privileged .observe h s → p.length = 12 → s.telemRec (p32 p 0) = some r →
    p32 p 4 < 78368 → 1 ≤ p32 p 8 → p32 p 8 ≤ 4064 → p32 p 4 + p32 p 8 ≤ 78368 → s.telemLost r.seq (p32 p 4) (p32 p 8) = false →
    exec (.schTelemRead h p) s = .next (answered 0xC311 stSuccess h s (r.bytes (p32 p 4) (p32 p 8)) (request 0xC311 .observe h p s))) ∧
  (∀ (r : TelemRec) (u : Nat) (h : Hdr) (p : Bytes) (s : State), Operating s → Privileged .operate h s → p.length = 16 →
    s.telemRec (p32 p 0) = some r → p32 p 4 = 1 → p64 p 8 % 4096 = 0 → s.mgmtUsp = some u → s.telemLost r.seq 0 telemLen = false →
    s.cmd.bg.length < 16 →
    exec (.schTelemExport h p) s = .next (answered 0xC312 stStarted h s [] ((background 0xC312 h p s false
      ((request 0xC312 .operate h p s).emit (.hostWrite u 0x8000 (p64 p 8 + telemLen * 0) (r.bytes 0 telemLen)))).endBg s.cmd.nextBg stSuccess
        [1, 0, 0, 0]))) ∧
  Does .schTelemClear 0xC313 .operate 0 always
    (fun _ _ s => { s with sch := { s.sch with hist := [], maxDepth := [], maxDelay := [], charged := [], samples := 0, cleared := true } }) ∧
  Reads .schHoldRead 0xC314 .observe 1 (fun _ p s => s.isUsp (p8 p 0) = true) (fun _ _ _ b => b.length = 128)

/-- Seam bundles: training states, lane order, the spare lane, going down and retraining (R385, R387, R388, R389, R390, R391, R392, R393, R394). -/
def Obligations.SeamBundles : Prop :=
  (∀ (b : Bundle) (c : BundleCause) (s : State), SMap.wf s.regs → SMap.wf s.sem.streams → s.bundleUp b.val = true →
    ∃ t, exec (.bundleDown b c) s = .next t ∧ t = { s with regs := t.regs, sem := t.sem, flt := t.flt, out := t.out } ∧ t.bundleState b.val = 9 ∧
      (∀ x < 4, (t.stream x).onBundle ≠ some b.val) ∧
      (∃ e ∈ t.flt.waiting, e.src = (if c = .ckLoss then 0x0508 else 0x0504) + b.val ∧ e.cls = 1)) ∧
  (∀ (b : Bundle) (s : State), SMap.wf s.regs → s.mainUp = true → s.bundleUp b.val = false → (s.bundle b.val).disabled = false →
    ∃ t, exec (.bundleRetrainTimer b) s = .next t ∧ t = { s with regs := t.regs, sem := t.sem, out := .seamCtl b.val 0 0 :: s.out } ∧
      t.bundleState b.val = 0 ∧ t.get Reg.SEM_BUNDLE_STATUS_SPARE_FOR b.val = 31 ∧ t.flag Reg.SEM_BUNDLE_STATUS_SPARE_FAILED b.val = false ∧
      (∀ i < 17, t.flag Reg.SEM_LANE_STATUS_LOCK (32 * b.val + i) = false ∧ t.flag Reg.SEM_LANE_STATUS_LOST (32 * b.val + i) = false) ∧
      t.sem.streams = s.sem.streams) ∧
  (∀ (b : Bundle) (i : Fin 17) (s : State), 2 ≤ s.bundleState b.val → s.bundleState b.val ≤ 8 →
    exec (.blockLock b i) s = .next (s.setFlag Reg.SEM_LANE_STATUS_LOCK (32 * b.val + i.val) true)) ∧
  (∀ (b : Bundle) (r : SeamTrain) (s : State), SMap.wf s.regs → s.mainUp = true → r.agree = true → s.bundleState b.val = 0 →
    exec (.bundleStateAdvance b r) s = .next ((s.set Reg.SEM_BUNDLE_STATUS_STATE b.val 1).emit (.seamCtl b.val 0 1))) ∧
  (∀ (b : Bundle) (r : SeamTrain) (i : Nat) (s : State), s.mainUp = true → r.agree = true → s.bundleState b.val = 2 → i < 17 →
    s.flag Reg.SEM_LANE_STATUS_LOCK (32 * b.val + i) = false →
    exec (.bundleStateAdvance b r) s = .next (s.emit (.seamCtl b.val 0 2))) ∧
  (∀ (b : Bundle) (r : SeamTrain) (s : State), SMap.wf s.regs → s.mainUp = true → r.agree = true → s.bundleState b.val = 3 →
    r.bundle ≠ b ∨ r.twinB = s.flag Reg.SEM_TWIN_STATUS_TWIN_B → s.flag Reg.SEM_BUNDLE_STATUS_ID_ERR b.val = false →
    ∃ t, exec (.bundleStateAdvance b r) s = .next t ∧ t = { s with regs := t.regs, flt := t.flt, out := .seamCtl b.val 0 3 :: s.out } ∧
      t.bundleState b.val = 3 ∧ t.flag Reg.SEM_BUNDLE_STATUS_ID_ERR b.val = true ∧ (∃ e ∈ t.flt.waiting, e.src = 0x050C + b.val ∧ e.cls = 1)) ∧
  (∀ (b : Bundle) (r : SeamTrain) (s : State), SMap.wf s.regs → s.mainUp = true → r.agree = true → s.bundleState b.val = 3 → r.bundle = b →
    r.twinB = !s.flag Reg.SEM_TWIN_STATUS_TWIN_B → (∀ i < 17, laneAt r.types i = 0x5E ∨ laneAt r.types i = 0xA1) →
    (∀ i < 17, (r.lanes.getD i 0x7F).toNat = 16 - i) →
    ∃ t, exec (.bundleStateAdvance b r) s = .next t ∧ t = { s with regs := t.regs, out := .seamCtl b.val 0 4 :: s.out } ∧ t.bundleState b.val = 4 ∧
      t.flag Reg.SEM_BUNDLE_STATUS_REVERSED b.val = true ∧
      (∀ i < 17, t.flag Reg.SEM_LANE_STATUS_POL_INV (32 * b.val + i) = decide (laneAt r.types i = 0xA1))) ∧
  (∀ (b : Bundle) (r : SeamTrain) (s : State), SMap.wf s.regs → s.mainUp = true → r.agree = true → s.bundleState b.val = 6 →
    ∃ t, exec (.bundleStateAdvance b r) s = .next t ∧ t = { s with regs := t.regs, sem := t.sem, out := t.out } ∧ t.bundleUp b.val = true ∧
      (∀ i < 17, t.get Reg.SEM_LANE_STATUS_FOM_MIN (32 * b.val + i) = s.get Reg.SEM_LANE_STATUS_FOM (32 * b.val + i)) ∧
      (∀ x < 4, ∃ c, (t.stream x).onBundle = some c ∧ t.bundleUp c = true)) ∧
  (∀ (b : Bundle) (i : Fin 17) (x y : BitVec 8) (s : State), SMap.wf s.regs → s.bundleState b.val = 5 → x.toNat < s.get Reg.SEM_CTL_FOM_TARGET →
    SMap.get (s.bundle b.val).adapt i.val 0 < 64 →
    ∃ t, exec (.seamAdaptStep b i x y) s = .next t ∧ t = { s with regs := t.regs, sem := t.sem, out := .seamCtl b.val 3 i.val :: s.out } ∧
      t.get Reg.SEM_LANE_STATUS_FOM (32 * b.val + i.val) = max x.toNat y.toNat) ∧
  (∀ (b : Bundle) (i : Fin 17) (s : State), SMap.wf s.regs → s.bundleUp b.val = true → i.val < 16 →
    s.flag Reg.SEM_LANE_STATUS_LOST (32 * b.val + i.val) = false → s.get Reg.SEM_BUNDLE_STATUS_SPARE_FOR b.val = 31 →
    s.flag Reg.SEM_BUNDLE_STATUS_SPARE_FAILED b.val = false → (s.bundle b.val).spareTx = none →
    ∃ t, exec (.seamLaneLoss b i) s = .next t ∧ t = { s with regs := t.regs, sem := t.sem, flt := t.flt, out := .seamCtl b.val 1 i.val :: s.out } ∧
      t.bundleUp b.val = true ∧ t.get Reg.SEM_BUNDLE_STATUS_SPARE_FOR b.val = i.val ∧
      t.flag Reg.SEM_LANE_STATUS_LOST (32 * b.val + i.val) = true ∧
      (∃ e ∈ t.flt.waiting, e.src = 0x0500 + b.val ∧ e.evt = 1 ∧ e.ctx = ctx8 [byte i.val])) ∧
  (∀ (b : Bundle) (i : Fin 17) (s : State), SMap.wf s.regs → SMap.wf s.sem.streams → s.bundleUp b.val = true → i.val < 16 →
    s.flag Reg.SEM_LANE_STATUS_LOST (32 * b.val + i.val) = false →
    s.get Reg.SEM_BUNDLE_STATUS_SPARE_FOR b.val ≠ 31 ∨ s.flag Reg.SEM_BUNDLE_STATUS_SPARE_FAILED b.val = true →
    ∃ t, exec (.seamLaneLoss b i) s = .next t ∧ t.bundleState b.val = 9 ∧ (∀ x < 4, (t.stream x).onBundle ≠ some b.val) ∧
      (∃ e ∈ t.flt.waiting, e.src = 0x0504 + b.val)) ∧
  (∀ (b : Bundle) (i : Fin 16) (s : State), SMap.wf s.sem.bundles → s.bundleUp b.val = true → (s.bundle b.val).spareTx = none →
    ∃ t, exec (.seamSpareRequest b i) s = .next t ∧ t = { s with sem := t.sem, out := .seamCtl b.val 2 i.val :: s.out } ∧
      (t.bundle b.val).spareTx = some i.val ∧ t.sem.streams = s.sem.streams) ∧
  (∀ (b : Bundle) (s : State), s.bundleUp b.val = true → s.flag Reg.SEM_BUNDLE_STATUS_SPARE_FAILED b.val = false →
    s.get Reg.SEM_BUNDLE_STATUS_SPARE_FOR b.val = 31 → SMap.wf s.regs →
    exec (.seamSpareFailure b) s =
      .next ((s.setFlag Reg.SEM_BUNDLE_STATUS_SPARE_FAILED b.val true).report (0x0504 + b.val) corrected 1 [byte b.val])) ∧
  (∀ (x : Fin 4) (c : Nat) (s : State), SMap.wf s.regs → SMap.wf s.sem.streams → s.bundleUp x.val = true → (s.stream x.val).onBundle = some c →
    c ≠ x.val → (s.stream x.val).unacked = [] → (s.stream x.val).waiting = [] →
    ∃ t, exec (.streamReturn x) s = .next t ∧ t = { s with regs := t.regs, sem := t.sem } ∧ (t.stream x.val).onBundle = some x.val ∧
      bitOf (t.get Reg.SEM_BUNDLE_STATUS_STREAMS x.val) x.val = true)

/-- Seam frames, the partner's loss and the commands of Seam and twin (R396, R397, R398, R399, R401, R404, R406, R408, R410, R482). -/
def Obligations.SeamFramesAndTwin : Prop :=
  (∀ (b : Bundle) (f : SeamFrame) (c : Nat) (s : State), SMap.wf s.regs → SMap.wf s.sem.streams → s.bundleUp b.val = true → f.crcOk = false →
    (s.stream f.stream.val).onBundle = some c → s.bundleUp c = true → (s.stream f.stream.val).crcTick = none →
    ∃ t fr, exec (.seamFrameReceive b f) s = .next t ∧
      t = { s with regs := t.regs, sem := t.sem, flt := t.flt, out := .seamFrame f.stream.val c fr :: s.out } ∧ fr.nak = true ∧
      t.get Reg.SEM_CNT_CRC f.stream.val = (s.get Reg.SEM_CNT_CRC f.stream.val + 1) % 2 ^ 32 ∧
      (t.stream f.stream.val).expectF = (s.stream f.stream.val).expectF ∧ (∃ e ∈ t.flt.waiting, e.src = 0x0510 + f.stream.val ∧ e.cls = 1)) ∧
  (∀ (b : Bundle) (f : SeamFrame) (c : Nat) (s : State), SMap.wf s.sem.streams → s.bundleUp b.val = true → f.crcOk = true →
    f.fseq.toNat ≠ (s.stream f.stream.val).expectF → (s.stream f.stream.val).onBundle = some c → s.bundleUp c = true →
    ∃ t fr, exec (.seamFrameReceive b f) s = .next t ∧ t = { s with sem := t.sem, out := .seamFrame f.stream.val c fr :: s.out } ∧ fr.nak = true ∧
      (t.stream f.stream.val).expectF = (s.stream f.stream.val).expectF) ∧
  (∀ (b : Bundle) (f g : SeamFrame) (s : State), SMap.wf s.sem.streams → s.bundleUp b.val = true → f.crcOk = true →
    f.fseq.toNat = (s.stream f.stream.val).expectF → f.slots = [] → (s.stream f.stream.val).unacked = [g] → g.fseq = f.ack →
    (s.stream f.stream.val).waiting = [] →
    ∃ t, exec (.seamFrameReceive b f) s = .next t ∧ t = { s with sem := t.sem } ∧ (t.stream f.stream.val).expectF = (f.fseq.toNat + 1) % 65536 ∧
      (t.stream f.stream.val).unacked = [] ∧ (t.stream f.stream.val).resends = 0) ∧
  (∀ (b : Bundle) (f : SeamFrame) (c : Nat) (g : Fin 1024) (on : Bool) (s : State), SMap.wf s.regs → SMap.wf s.sem.streams →
    s.bundleUp b.val = true → f.crcOk = true → f.fseq.toNat = (s.stream f.stream.val).expectF → f.slots = [.group g on] →
    (s.stream f.stream.val).waiting = [] → (s.stream f.stream.val).onBundle = some c → s.bundleUp c = true →
    ∃ t fr, exec (.seamFrameReceive b f) s = .next t ∧ t.twinGroup g.val = on ∧ t.out = .seamFrame f.stream.val c fr :: s.out ∧ fr.ack = f.fseq ∧
      t = { s with regs := t.regs, sem := t.sem, jnl := t.jnl, out := t.out }) ∧
  (∀ (x : Fin 4) (c : Nat) (s : State), SMap.wf s.regs → SMap.wf s.sem.streams → (s.stream x.val).onBundle = some c → s.bundleUp c = true →
    (s.stream x.val).unacked ≠ [] → (s.stream x.val).resends < 15 →
    ∃ t, exec (.seamResend x false) s = .next t ∧ t = { s with regs := t.regs, sem := t.sem, out := t.out } ∧
      t.out = ((s.stream x.val).unacked.map (fun f => OutMsg.seamFrame x.val c f)).reverse ++ s.out ∧
      (t.stream x.val).resends = (s.stream x.val).resends + 1 ∧ (t.stream x.val).unacked = (s.stream x.val).unacked ∧
      t.get Reg.SEM_CNT_RESEND x.val = (s.get Reg.SEM_CNT_RESEND x.val + (s.stream x.val).unacked.length) % 2 ^ 32) ∧
  (∀ (x : Fin 4) (c : Nat) (s : State), SMap.wf s.regs → SMap.wf s.sem.streams → c < 4 → (s.stream x.val).onBundle = some c →
    s.bundleUp c = true → (s.stream x.val).unacked ≠ [] → (s.stream x.val).resends = 15 →
    ∃ t, exec (.seamResend x false) s = .next t ∧ t.bundleState c = 9 ∧ (∃ e ∈ t.flt.waiting, e.src = 0x0504 + c)) ∧
  (∀ (b : Bundle) (p : Port) (m : RelayReq) (k : Nat) (s : State), s.sem.inbox = [(b.val, p, m)] → s.freeMem p.val = some k →
    ∃ t, exec (.twinRelayedRequest b p m) s = .next t ∧ t = { s with prt := t.prt, sem := { s.sem with inbox := [] }, out := t.out } ∧
      t.out = (if m.read then .devRead p.val k (s.memSlot p.val k).gen m.dpa 64
        else .devWrite p.val k (s.memSlot p.val k).gen m.dpa m.data m.mask m.mval m.poison) :: s.out) ∧
  (∀ s : State, SMap.wf s.regs → s.twinOn = true → s.bundlesUp = [] → s.sem.run = none → s.sem.asks = [] → s.pol.relocs = [] → s.dir.entries = [] →
    s.dir.slices = [] → s.tbl.waits = [] → s.flag Reg.DIR_LOST_TWIN = false → (∀ n < 64, s.mirrorsOn (64 + n) = []) →
    ∃ t, exec .partnerLoss s = .next t ∧ exec .leavingMessage s = .next t ∧ t.flag Reg.SEM_TWIN_STATUS_SUSPENDED = true ∧
      t.flag Reg.SEM_TWIN_STATUS_ENABLED = true ∧ t.flag Reg.SEM_TWIN_STATUS_PRIMARY = true ∧ t.flag Reg.DIR_LOST_TWIN = true ∧ t.sem.lost = true ∧
      (∃ e ∈ t.flt.waiting, e.src = 0x0520 ∧ e.cls = 2) ∧ (∃ e ∈ t.flt.waiting, e.src = 0x0980 ∧ e.cls = 2) ∧
      t.prt = s.prt ∧ t.pol = s.pol ∧ t.xbr = s.xbr ∧ t.dir.entries = []) ∧
  Reads .seamInfo 0xC220 .observe 0 always (fun _ _ _ b => b.length = 324) ∧
  Does .seamBundleCtl 0xC221 .operate 2 (fun _ p _ => p8 p 0 < 4 ∧ p8 p 1 = 0)
    (fun _ p s => (s.bundleOff (p8 p 0)).retrainBundle (p8 p 0)) ∧
  Does .seamBundleCtl 0xC221 .operate 2 (fun _ p s => p8 p 0 < 4 ∧ p8 p 1 = 1 ∧ s.flag Reg.SEM_TWIN_STATUS_ENABLED = false)
    (fun _ p s => (s.modBundle (p8 p 0) (fun x => { x with disabled := true })).bundleOff (p8 p 0)) ∧
  Does .seamBundleCtl 0xC221 .operate 2 (fun _ p s => p8 p 0 < 4 ∧ p8 p 1 = 2 ∧ (s.bundle (p8 p 0)).disabled = true)
    (fun _ p s => (s.modBundle (p8 p 0) (fun x => { x with disabled := false })).retrainBundle (p8 p 0)) ∧
  Starts .twinEnable 0xC222 .admin 0 true (fun _ _ s => s.flag Reg.SEM_TWIN_STATUS_PRIMARY = true ∧ s.flag Reg.SEM_TWIN_STATUS_SUSPENDED = false ∧
      s.flag Reg.SEM_TWIN_STATUS_ENABLED = false ∧ s.bundlesUp ≠ [] ∧ s.sem.run = none ∧ s.twinId.clear = true)
    (fun _ _ s => { s with sem := { s.sem with run := some { bgId := some s.cmd.nextBg, enable := true, flushed := false } } }.ctlSend
      (.ask (.enable s.twinId))) ∧
  Starts .twinDisable 0xC223 .admin 0 true (fun _ _ s => s.flag Reg.SEM_TWIN_STATUS_PRIMARY = true ∧ s.twinOn = true ∧ s.sem.run = none ∧
      (∀ n < 64, s.poolNames (64 + n) = false))
    (fun _ _ s => { s with sem := { s.sem with run := some { bgId := some s.cmd.nextBg, enable := false, flushed := false } } }.startFlush
      [(0, 2 ^ 39)] (some 0x40) none none true) ∧
  Does .twinGroupSet 0xC224 .operate 3 (fun _ p s => p16 p 0 < 1024 ∧ p8 p 2 < 2 ∧ s.flag Reg.SEM_TWIN_STATUS_PRIMARY = true ∧ s.sem.run = none ∧
      s.validExtents = [] ∧ s.twinOn = false)
    (fun _ p s => (s.set Reg.SEM_TWIN_GRP (p16 p 0 / 32) (putBit (s.get Reg.SEM_TWIN_GRP (p16 p 0 / 32)) (p16 p 0 % 32) (p8 p 2 == 1))).journal
      (.twinGroup (p16 p 0) (p8 p 2 == 1))) ∧
  (∀ (h : Hdr) (p : Bytes) (s : State), Operating s → Privileged .observe h s → 20 ≤ p.length → p.length ≤ 4096 → pktOpcode p ≠ 0xC004 →
    pktOpcode p / 256 ≠ 0xCF → (opPriv (pktOpcode p)).all (fun q => decide (privRank q ≤ privRank (s.privOf h))) = true →
    s.flag Reg.SEM_TWIN_STATUS_ENABLED = true → s.bundlesUp ≠ [] → SMap.wf s.sem.relays →
    ∃ t, exec (.partnerRelay h p) s = .next t ∧ (t.tbl.waits.map Waiting.what) = s.tbl.waits.map Waiting.what ++ [.relay s.sem.nextRelay] ∧
      SMap.find t.sem.relays s.sem.nextRelay = some (h.req, h.tag.toNat, h.context.toNat) ∧ t.sem.nextRelay = s.sem.nextRelay + 1)

/-- Vault pages: reads, correction, the Crucible, writes, retirement (R421, R422, R424, R425, R426, R427, R429, R430, R431, R436, R437, R438). -/
def Obligations.VaultPages : Prop :=
  (∀ (n bits : Nat) (s : State), s.mainUp = true → n < logicalPages → s.pageLost n = false → (s.page n).formed = false → s.inCrucible n = false →
    exec (.vaultRead n bits) s = .next (s.emit (.vaultData n (some (List.replicate 2048 0))))) ∧
  (∀ (n bits : Nat) (s : State), s.mainUp = true → n < logicalPages → s.inCrucible n = true →
    exec (.vaultRead n bits) s = .next (s.emit (.vaultData n (some (s.page n).bytes)))) ∧
  (∀ (n bits e : Nat) (s : State), SMap.wf s.regs → SMap.wf s.vlt.pages → s.mainUp = true → n < logicalPages → s.pageLost n = false →
    s.inCrucible n = false → (s.page n).formed = true → s.injectedBits n = 0 → e = (s.page n).errBits + bits → 0 < e →
    e ≤ strengthT (s.pageStrength n) →
    ∃ t, exec (.vaultRead n bits) s = .next t ∧ t = { s with regs := t.regs, vlt := t.vlt, flt := t.flt, out := t.out } ∧
      t.out = .vaultData n (some (s.page n).bytes) :: s.out ∧ (t.page n).bytes = (s.page n).bytes ∧ t.inCrucible n = true ∧
      t.get Reg.VLT_CNT_CORR_BITS = (s.get Reg.VLT_CNT_CORR_BITS + e) % 2 ^ 32 ∧
      t.get Reg.VLT_CNT_CORR_PAGES = (s.get Reg.VLT_CNT_CORR_PAGES + 1) % 2 ^ 32 ∧
      (strengthT (s.pageStrength n) * s.get Reg.VLT_CTL_RETIRE_FRAC ≤ 8 * e → t.vlt.due.any (fun d => d.1 == n) = true) ∧
      (8 * e < strengthT (s.pageStrength n) * s.get Reg.VLT_CTL_RETIRE_FRAC → t.vlt.due = s.vlt.due)) ∧
  (∀ (n bits : Nat) (s : State), SMap.wf s.regs → SMap.wf s.vlt.pages → s.mainUp = true → n < logicalPages → s.pageLost n = false →
    s.inCrucible n = false → (s.page n).formed = true → s.injectedBits n = 0 → strengthT (s.pageStrength n) < (s.page n).errBits + bits →
    ∃ t, exec (.vaultRead n bits) s = .next t ∧ t = { s with regs := t.regs, vlt := t.vlt, flt := t.flt, pol := t.pol, out := t.out } ∧
      t.out = .vaultData n none :: s.out ∧ t.get Reg.VLT_CNT_UNCORR = (s.get Reg.VLT_CNT_UNCORR + 1) % 2 ^ 32 ∧
      t.vlt.due.any (fun d => d.1 == n) = true ∧ (t.page n).formed = false) ∧
  (∀ (n off bits : Nat) (d : Bytes) (s : State), SMap.wf s.vlt.pages → SMap.wf (s.page n).data → s.mainUp = true → n < logicalPages →
    s.pageLost n = false → s.inCrucible n = false → (s.page n).errBits + bits + s.injectedBits n = 0 → off + d.length ≤ 2048 → d.length < 2048 →
    ∃ t, exec (.vaultSubpageWrite n off d bits) s = .next t ∧ t = { s with vlt := t.vlt } ∧ (t.page n).formed = true ∧ t.inCrucible n = true ∧
      (∀ i < d.length, (t.page n).bytes.getD (off + i) 0 = d.getD i 0) ∧
      (∀ j < 2048, j < off ∨ off + d.length ≤ j → (t.page n).bytes.getD j 0 = (s.page n).bytes.getD j 0) ∧
      (∀ m, m ≠ n → (t.page m).bytes = (s.page m).bytes)) ∧
  (∀ (n off bits : Nat) (d : Bytes) (s : State), s.mainUp = true → n < logicalPages → s.pageLost n = true → s.inCrucible n = false →
    off + d.length ≤ 2048 → d.length < 2048 →
    ∃ t, exec (.vaultSubpageWrite n off d bits) s = .next t ∧ t.vlt = s.vlt ∧ t.out = .vaultData n none :: s.out) ∧
  (∀ (n : Nat) (d : Bytes) (s : State), SMap.wf s.vlt.pages → s.mainUp = true → n < logicalPages → s.onFailed n = false → s.inCrucible n = false →
    d.length = 2048 →
    ∃ t, exec (.vaultFullPageWrite n d) s = .next t ∧ t = { s with vlt := t.vlt } ∧ (t.page n).bytes = d ∧ (t.page n).formed = true ∧
      (t.page n).wseq = ((s.page n).wseq + 1) % 2 ^ 40 ∧ t.pageLost n = false ∧ (∀ m, m ≠ n → t.page m = s.page m)) ∧
  (∀ (n : Nat) (s : State), SMap.wf s.vlt.pages → s.inCrucible n = true →
    ∃ t, exec (.crucibleWriteback n) s = .next t ∧ t = { s with vlt := t.vlt } ∧ t.inCrucible n = false ∧
      (t.page n).wseq = ((s.page n).wseq + 1) % 2 ^ 40 ∧ (t.page n).bytes = (s.page n).bytes ∧ (t.page n).errBits = 0) ∧
  (∀ (n p : Nat) (lost : Bool) (s : State), SMap.wf s.regs → SMap.wf s.vlt.pages → s.vlt.due.find? (fun d => d.1 == n) = some (n, lost) →
    s.retireTarget n = some p →
    ∃ t, exec (.pageRetirement n) s = .next t ∧ t = { s with regs := t.regs, vlt := t.vlt, jnl := t.jnl, flt := t.flt } ∧ t.physOf n = p ∧
      t.vlt.due.any (fun d => d.1 == n) = false ∧ t.get Reg.VLT_CNT_RETIRED = (s.get Reg.VLT_CNT_RETIRED + 1) % 2 ^ 32 ∧
      (lost = true → t.pageLost n = true ∧ (t.page n).formed = false) ∧ (lost = false → (t.page n).bytes = (s.page n).bytes) ∧
      (∃ e ∈ t.flt.waiting, e.src = (if lost then 0x0C42 else 0x0C41) ∧ e.cls = (if lost then 2 else 1))) ∧
  (∀ (n : Nat) (lost : Bool) (s : State), SMap.wf s.regs → s.vlt.due.find? (fun d => d.1 == n) = some (n, lost) → s.retireTarget n = none →
    s.flag Reg.VLT_STATUS_RESERVE_OUT = false →
    ∃ t, exec (.pageRetirement n) s = .next t ∧ t = { s with regs := t.regs, vlt := t.vlt, flt := t.flt } ∧
      t.flag Reg.VLT_STATUS_RESERVE_OUT = true ∧ t.physOf n = s.physOf n ∧ (∃ e ∈ t.flt.waiting, e.src = 0x0C43 ∧ e.cls = 2))

/-- Anneal, pseudo-channel failure, SRAM repair and the vault commands (R434, R435, R440, R441, R443, R444, R445, R446, R448, R454). -/
def Obligations.VaultUpkeep : Prop :=
  (∀ (n bits : Nat) (s : State), SMap.wf s.regs → SMap.wf s.vlt.pages → s.mainUp = true → s.flag Reg.VLT_ANNEAL_EN = true → s.annealNext = some n →
    n < logicalPages → s.inCrucible n = false → (s.page n).errBits + bits + s.injectedBits n = 0 →
    ∃ t, exec (.annealRead bits) s = .next t ∧ t = { s with regs := t.regs, vlt := t.vlt } ∧ t.vlt.annealPos = n + 1 ∧
      t.get Reg.VLT_ANNEAL_STATUS_PROGRESS = 256 * (n + 1) / logicalPages % 256 ∧ (t.page n).anneal = 0 ∧ (t.page n).bytes = (s.page n).bytes) ∧
  (∀ (bits : Nat) (s : State), SMap.wf s.regs → s.mainUp = true → s.flag Reg.VLT_ANNEAL_EN = true → s.annealNext = none →
    ∃ t, exec (.annealRead bits) s = .next t ∧ t = { s with regs := t.regs, vlt := t.vlt } ∧ t.vlt.annealPos = 0 ∧
      t.get Reg.VLT_ANNEAL_STATUS_PASSES = (s.get Reg.VLT_ANNEAL_STATUS_PASSES + 1) % 65536 ∧ t.get Reg.VLT_ANNEAL_STATUS_PROGRESS = 0) ∧
  (∀ s : State, s.flag Reg.VLT_ANNEAL_EN = true → s.vlt.annealRunning = true →
    exec .annealOverrun s = .next ((s.setFlag Reg.VLT_ANNEAL_STATUS_OVERRUN 0 true).report 0x0C48 corrected 0 [])) ∧
  (∀ (i : Fin 32) (s : State), SMap.wf s.regs → s.mainUp = true → s.get Reg.VLT_PC_FAILED = 0 → s.vlt.crucible = [] →
    ∃ t, exec (.pseudoChannelFailure i) s = .next t ∧ t = { s with regs := t.regs, vlt := t.vlt, jnl := t.jnl, flt := t.flt } ∧
      t.get Reg.VLT_PC_FAILED = 2 ^ i.val ∧ (∃ e ∈ t.flt.waiting, e.src = 0x0C00 + i.val) ∧
      (∀ n, n ∈ s.vlt.pages.map Prod.fst → (pageChannels (s.physOf n)).contains (i.val / 2) = true → t.pageLost n = true)) ∧
  (∀ (i j : Fin 32) (s : State), SMap.wf s.regs → s.mainUp = true → s.get Reg.VLT_PC_FAILED = 2 ^ j.val → j.val / 2 ≠ i.val / 2 →
    ∃ t, exec (.pseudoChannelFailure i) s = .next t ∧ t = { s with regs := t.regs, jnl := t.jnl, flt := t.flt } ∧
      (∃ e ∈ t.flt.waiting, e.src = 0x0C3F ∧ e.cls = 3)) ∧
  (∀ (b : Fin 512) (r : Fin 1024) (w : Fin 32) (o : SramOwner) (s : State), SMap.wf s.regs → SMap.wf s.vlt.banks →
    SMap.wf (s.bank b.val).correctable → s.mainUp = true →
    ∃ t, exec (.sramWordError b r w .correctable o) s = .next t ∧ t = { s with regs := t.regs, vlt := t.vlt, flt := t.flt } ∧
      t.get Reg.VLT_CNT_SRAM_CORR = (s.get Reg.VLT_CNT_SRAM_CORR + 1) % 2 ^ 32 ∧
      w.val ∈ SMap.get (t.bank b.val).correctable r.val []) ∧
  (∀ (b : Fin 512) (r : Fin 1024) (w : Fin 32) (s : State), SMap.wf s.regs → SMap.wf s.vlt.banks → s.mainUp = true →
    (s.bank b.val).sparedRows.length < 16 →
    ∃ t, exec (.sramWordError b r w .uncorrectable .other) s = .next t ∧ t = { s with regs := t.regs, vlt := t.vlt, jnl := t.jnl, flt := t.flt } ∧
      t.get Reg.VLT_CNT_SRAM_UNCORR = (s.get Reg.VLT_CNT_SRAM_UNCORR + 1) % 2 ^ 32 ∧
      (t.bank b.val).sparedRows = (s.bank b.val).sparedRows ++ [r.val]) ∧
  (∀ (b : Fin 512) (r : Fin 1024) (s : State), SMap.wf s.regs → SMap.wf s.vlt.banks →
    4 ≤ (SMap.get (s.bank b.val).correctable r.val []).length → (s.bank b.val).sparedRows.length < 16 →
    ∃ t, exec (.sramRowRepair b r) s = .next t ∧ t = { s with regs := t.regs, vlt := t.vlt, jnl := t.jnl, flt := t.flt } ∧
      (t.bank b.val).sparedRows = (s.bank b.val).sparedRows ++ [r.val] ∧
      t.get Reg.VLT_SRAM_STATUS_ROWS_USED = (s.get Reg.VLT_SRAM_STATUS_ROWS_USED + 1) % 2 ^ 14 ∧
      (∃ e ∈ t.flt.waiting, e.src = 0x0C50 ∧ e.cls = 1)) ∧
  (∀ (b : Fin 512) (r : Fin 1024) (s : State), SMap.wf s.regs → SMap.wf s.vlt.banks →
    4 ≤ (SMap.get (s.bank b.val).correctable r.val []).length → 16 ≤ (s.bank b.val).sparedRows.length → (s.bank b.val).copying = false →
    0 < s.get Reg.VLT_SRAM_STATUS_SPARE_BANKS_FREE →
    ∃ t, exec (.sramRowRepair b r) s = .next t ∧ t = { s with regs := t.regs, vlt := t.vlt } ∧ (t.bank b.val).copying = true ∧
      t.get Reg.VLT_SRAM_STATUS_SPARE_BANKS_FREE = (s.get Reg.VLT_SRAM_STATUS_SPARE_BANKS_FREE - 1) % 16) ∧
  (∀ (b : Fin 512) (s : State), SMap.wf s.vlt.banks → (s.bank b.val).copying = true →
    ∃ t, exec (.sramBankCopyEnd b) s = .next t ∧ t = { s with vlt := t.vlt, jnl := t.jnl, flt := t.flt } ∧
      t.bank b.val = { sparedRows := [], correctable := [], copying := false, replaced := (s.bank b.val).replaced + 1 } ∧
      (∃ e ∈ t.flt.waiting, e.src = 0x0C51 ∧ e.cls = 1)) ∧
  (∀ (b r w : Nat) (s : State), SMap.wf s.regs → s.mainUp = true → s.flag Reg.VLT_ANNEAL_EN = true → s.vlt.flips = [(b, r, w, 1)] →
    s.vlt.banks = [] →
    ∃ t, exec .sramAnnealPass s = .next t ∧ t = { s with regs := t.regs, vlt := t.vlt, flt := t.flt } ∧ t.vlt.flips = [] ∧
      t.get Reg.VLT_CNT_SRAM_CORR = (s.get Reg.VLT_CNT_SRAM_CORR + 1) % 2 ^ 32) ∧
  Reads .vaultInfo 0xC700 .observe 0 always (fun _ _ s b => b.length = 23 ∧ fieldAt b 0 4 = s.get Reg.VLT_STATUS_RESERVE_FREE % 2 ^ 32 ∧
    fieldAt b 8 4 = s.get Reg.VLT_PC_FAILED % 2 ^ 32) ∧
  (∀ (h : Hdr) (p : Bytes) (s : State), SMap.wf s.regs → Operating s → Privileged .admin h s → p.length = 4 → p32 p 0 < logicalPages →
    s.inCrucible (p32 p 0) = true →
    ∃ b, exec (.vaultPageRead h p) s = .next (answered 0xC701 stSuccess h s b (request 0xC701 .admin h p s)) ∧ b.length = 2184 ∧
      fieldAt b 0 4 = s.physOf (p32 p 0) % 2 ^ 32 ∧ fieldAt b 4 2 = 0) ∧
  Does .vaultStrengthSet 0xC702 .admin 2 (fun _ p _ => 1 ≤ p8 p 0 ∧ p8 p 0 ≤ 11 ∧ p8 p 1 < 6)
    (fun _ p s => s.setJ Reg.VLT_REGION_CFG_STRENGTH (p8 p 0) (p8 p 1)) ∧
  Does .vaultAnnealCtl 0xC703 .operate 5
    (fun _ p _ => 60 ≤ p16 p 0 ∧ p16 p 0 ≤ 10080 ∧ 1 ≤ p16 p 2 ∧ p16 p 2 ≤ 3600 ∧ (p8 p 4 = 0 ∨ p8 p 4 = 1))
    (fun _ p s => ((s.setJ Reg.VLT_ANNEAL_PERIOD_MIN 0 (p16 p 0)).setJ Reg.VLT_ANNEAL_SRAM_S 0 (p16 p 2)).setJ Reg.VLT_ANNEAL_EN 0 (p8 p 4)) ∧
  (∀ (h : Hdr) (p : Bytes) (k : Nat) (s : State), SMap.wf s.regs → Operating s → Privileged .admin h s → p.length = 4 → p32 p 0 < logicalPages →
    s.retireTarget (p32 p 0) = some k → s.pageLost (p32 p 0) = false →
    ∃ t, exec (.vaultRetire h p) s = .next (answered 0xC704 stSuccess h s [] t) ∧ t.physOf (p32 p 0) = k ∧
      t.get Reg.VLT_CNT_RETIRED = (s.get Reg.VLT_CNT_RETIRED + 1) % 2 ^ 32) ∧
  Reads .vaultRetiredRead 0xC705 .observe 6 (fun _ p _ => 1 ≤ p16 p 4 ∧ p16 p 4 ≤ 512)
    (fun _ p s b => b.length = 8 * min (p16 p 4) (s.vlt.remaps.length - p32 p 0)) ∧
  Reads .vaultStats 0xC706 .observe 0 always (fun _ _ s b => b.length = 28 ∧ fieldAt b 8 4 = s.get Reg.VLT_CNT_UNCORR % 2 ^ 32)

/-- Home slices: admission, grants, snoop answers, write-backs, evictions and timeouts (R121, R122, R123, R131, R136, R138, R144, R146, R150, R151, R155, R168). -/
def Obligations.HomeSlices : Prop :=
  (∀ (i : Slice) (r : HomeReq) (c : Copy) (k : Nat) (s : State), SMap.wf s.regs → SMap.wf s.dir.slices → s.mainUp = true →
    s.flag Reg.DIR_SLICE_STATUS_FAILED i.val = false → s.pipeHeld (.slice i) = false → s.homeSlice i.val = { SliceSt.dflt with srcQ := [r] } →
    s.isUsp r.src = true → s.get Reg.DIR_TRK_CTL_WR_RESV < 32 → entShared r.entry = false → r.op = .memRd → r.atom = none → r.relocSlot = none →
    s.readCopy r.entry r.line r.stamp = some c → c.port < 64 → s.freeMem c.port = some k →
    ∃ t, exec (.sliceAdmit i) s = .next t ∧ t = { s with regs := t.regs, dir := t.dir, prt := t.prt, out := t.out } ∧
      t.out = .devRead c.port k (s.memSlot c.port k).gen c.dpa 64 :: s.out ∧ (t.homeSlice i.val).srcQ = [] ∧
      (t.homeSlice i.val).locked r.line = true ∧ t.get Reg.DIR_SLICE_STATUS_ARB_PTR i.val = (r.src + 1) % 78 ∧ t.dir.entries = s.dir.entries) ∧
  (∀ (i : Slice) (r : HomeReq) (c : Copy) (k w : Nat) (s : State), SMap.wf s.regs → SMap.wf s.dir.slices → SMap.wf s.dir.entries → s.mainUp = true →
    s.flag Reg.DIR_SLICE_STATUS_FAILED i.val = false → s.pipeHeld (.slice i) = false →
    s.homeSlice i.val = { SliceSt.dflt with srcQ := [r], cached := [pageOf r.line] } → s.isUsp r.src = true →
    s.get Reg.DIR_TRK_CTL_WR_RESV < 32 → entShared r.entry = true → r.op = .memRd → r.snp = .snpInv → r.mval = some .a → r.usp.isSome = true →
    r.atom = none → r.relocSlot = none → s.dir.flushes = [] → s.findWay r.line = none → s.freeWay (setOf r.line) = some w →
    s.readCopy r.entry r.line r.stamp = some c → c.port < 64 → s.freeMem c.port = some k →
    ∃ t, exec (.sliceAdmit i) s = .next t ∧ t = { s with regs := t.regs, dir := t.dir, prt := t.prt, out := t.out } ∧
      t.out = .devRead c.port k (s.memSlot c.port k).gen c.dpa 64 :: s.out ∧ (t.way (setOf r.line) w).state = .fill ∧
      (t.way (setOf r.line) w).pinned = true ∧ (t.way (setOf r.line) w).tag = tagOf r.line) ∧
  (∀ (i : Slice) (s : State), s.homeSlice i.val = SliceSt.dflt → exec (.sliceAdmit i) s = .next s) ∧
  (∀ (i : Slice) (line : Line) (x : Txn) (u w : Nat) (s : State), SMap.wf s.dir.slices → SMap.wf s.dir.entries →
    s.homeSlice i.val = { SliceSt.dflt with txns := [x] } → x.req.line = line → x.req.usp = some u → u < 64 → s.isLost u = false → x.way = some w →
    w < 16 → x.cat = .rdS ∨ x.cat = .rdO → (s.way (setOf line) w).stable = .i → s.flag Reg.DIR_CTL_RD_S_GRANT_E = false →
    x.snooped = true → x.accs = [] → x.answered = true → x.poisonLine = false → x.lostOwner = false → s.dir.flushes = [] → s.sem.snps = [] →
    ∃ t, exec (.transactionEnd i line) s = .next t ∧ t = { s with dir := t.dir } ∧ (t.homeSlice i.val).txns = [] ∧
      (x.cat = .rdO → (t.way (setOf line) w).state = .e ∧ (t.way (setOf line) w).owner = u) ∧
      (x.cat = .rdS → (t.way (setOf line) w).state = .s ∧ (t.way (setOf line) w).parties = [u]) ∧
      (t.way (setOf line) w).pinned = false ∧
      (∀ set v, v < 16 → (set, v) ≠ (setOf line, w) → t.way set v = s.way set v)) ∧
  (∀ (i : Slice) (line : Line) (v : Evict) (s : State), SMap.wf s.regs → SMap.wf s.dir.slices →
    s.homeSlice i.val = { SliceSt.dflt with evb := [v] } → v.line = line → v.snoops = 0 → v.twinSnoop = false → v.accs = [] → v.flush = false →
    v.twin = none → s.dir.flushes = [] → s.sem.snps = [] →
    ∃ t, exec (.evictionEnd i line) s = .next t ∧ t = { s with regs := t.regs, dir := t.dir } ∧ (t.homeSlice i.val).evb = [] ∧
      t.get Reg.DIR_CNT_EVICT = (s.get Reg.DIR_CNT_EVICT + 1) % 2 ^ 32 ∧ t.dir.entries = s.dir.entries) ∧
  (∀ (u : Port) (line : Line) (i : Slice) (v : Evict) (s : State), SMap.wf s.dir.slices → s.snoopedBy u.val line = some (i.val, false) →
    s.evictOf i.val line = some v → v.twin = none →
    ∃ t, exec (.birspReceive u line .i) s = .next t ∧ t = { s with dir := t.dir } ∧ t.dir.entries = s.dir.entries ∧
      (t.evictOf i.val line).map (fun e => (bitOf e.snoops u.val, e.accs, e.data)) = some (false, v.accs, v.data)) ∧
  (∀ (u : Port) (line : Line) (r : BiRsp) (s : State), SMap.wf s.regs → SMap.wf s.dir.slices → s.snoopedBy u.val line = none →
    s.flag Reg.DIR_SLICE_STATUS_FAILED ((s.homeAt line s.tbl.epoch).getD 0) = false →
    ∃ t, exec (.birspReceive u line r) s = .next t ∧ t = { s with regs := t.regs, dir := t.dir, flt := t.flt } ∧
      t.get Reg.DIR_CNT_ANOMALY = (s.get Reg.DIR_CNT_ANOMALY + 1) % 2 ^ 32 ∧ t.dir.entries = s.dir.entries ∧
      (∃ e ∈ t.flt.waiting, e.src = 0x0910 + (s.homeAt line s.tbl.epoch).getD 0 ∧ e.cls = 1)) ∧
  (∀ (u : Port) (line : Line) (tag : Nat) (m : Meta) (d : Bytes) (i : Slice) (v : Evict) (c : Copy) (k : Nat) (s : State), SMap.wf s.dir.slices →
    SMap.wf s.regs → s.snoopedBy u.val line = some (i.val, false) → s.evictOf i.val line = some v → s.isLost u.val = false →
    entReloc v.entry = false → s.writeCopies v.entry line v.stamp = [c] → c.port < 64 → s.freeMem c.port = some k → d.length = 64 →
    ∃ t, exec (.ownerWritebackReceive u line tag m d) s = .next t ∧ t = { s with regs := t.regs, dir := t.dir, prt := t.prt, out := t.out } ∧
      t.out = .memCpl u.val { tag := tag, row := 9, data := none, poison := false, mta := none } ::
        .devWrite c.port k (s.memSlot c.port k).gen c.dpa d fullMask (some m) false :: s.out ∧
      (t.evictOf i.val line).map Evict.data = some (some d) ∧ t.get Reg.DIR_CNT_FORWARD = (s.get Reg.DIR_CNT_FORWARD + 1) % 2 ^ 32) ∧
  (∀ (u : Port) (line : Line) (s : State), SMap.wf s.regs →
    ∃ t, exec (.biconflictReceive u line) s = .next t ∧ t = { s with regs := t.regs, dir := t.dir, out := .biConflictAck u.val line :: s.out } ∧
      t.get Reg.DIR_CNT_CONFLICT = (s.get Reg.DIR_CNT_CONFLICT + 1) % 2 ^ 32 ∧ t.dir.entries = s.dir.entries) ∧
  (∀ (u : Port) (line : Line) (i : Slice) (v : Evict) (s : State), SMap.wf s.dir.slices → s.snoopedBy u.val line = some (i.val, false) →
    s.evictOf i.val line = some v → v.owner ≠ some u.val →
    ∃ t, exec (.snoopTimeout u line) s = .next t ∧ t = { s with dir := t.dir, flt := t.flt } ∧
      (t.evictOf i.val line).map (fun e => bitOf e.snoops u.val) = some false ∧ (∃ e ∈ t.flt.waiting, e.src = 0x0940 + u.val ∧ e.cls = 2 ∧ e.evt = 2))

/-- Directory pages, the lost-port walk, home map hold, slice failure and the directory's commands (R120, R134, R136, R164, R165, R167, R170, R172, R180, R181). -/
def Obligations.DirectoryUpkeep : Prop :=
  (∀ (i : Slice) (pg : Nat) (r : HomeReq) (s : State), SMap.wf s.dir.slices → (s.homeSlice i.val).missing = [(pg, r)] →
    pg ∉ (s.homeSlice i.val).cached → (s.homeSlice i.val).cached.length + (s.homeSlice i.val).dirty.length < 2048 → pageOf r.line ≠ pg →
    entShared r.entry = true → pageOf r.line ∉ (s.homeSlice i.val).cached → s.dir.flushes = [] → SMap.wf s.regs →
    ∃ t, exec (.dirCacheMissFill i pg) s = .next t ∧ t = { s with regs := t.regs, dir := t.dir } ∧
      (t.homeSlice i.val).cached = pg :: (s.homeSlice i.val).cached ∧ (t.homeSlice i.val).missing = [(pageOf r.line, r)]) ∧
  (∀ (i : Slice) (s : State), SMap.wf s.dir.slices → 512 ≤ (s.homeSlice i.val).dirty.length → (s.homeSlice i.val).missing = [] →
    ∃ t, exec (.dirtyPageWriteback i) s = .next t ∧ t = { s with dir := t.dir } ∧
      (t.homeSlice i.val).dirty = (s.homeSlice i.val).dirty.dropLast ∧ t.dir.entries = s.dir.entries) ∧
  (∀ (u : Port) (s : State), SMap.wf s.regs → SMap.wf s.dir.entries →
    s.dir.walk = some { ports := 2 ^ u.val, twin := false, late := 0, lateTwin := false, extra := false } → s.isLost u.val = true →
    s.dir.slices.all (fun x => !x.2.asks u.val) = true →
    ∃ t, exec .lostPortWalkEnd s = .next t ∧ t = { s with regs := t.regs, dir := t.dir, flt := t.flt, prt := t.prt } ∧ t.dir.walk = none ∧
      t.isLost u.val = false ∧ t.get Reg.DIR_WALK_STATUS_PROGRESS = 256 ∧ (t.port u.val).memUp = (s.port u.val).up ∧
      (∀ k e, SMap.find s.dir.entries k = some e → e.state = .e → e.owner = u.val → e.pinned = false →
        (SMap.get t.dir.entries k DirEntry.dflt).state = .i ∧ (SMap.get t.dir.entries k DirEntry.dflt).poisoned = true) ∧
      (∀ k e, SMap.find s.dir.entries k = some e → e.pinned = true → ∃ x, SMap.find t.dir.entries k = some x ∧
        x = { e with sharers := x.sharers, twin := x.twin } ∧ bitOf x.sharers u.val = false)) ∧
  (∀ (n : Nat) (s : State), SMap.wf s.dir.slices →
    (∀ j < 8, (s.homeSlice j).heldStamp = some n ∧ (s.homeSlice j).txns = [] ∧ (s.homeSlice j).retry = [] ∧ (s.homeSlice j).lineQ = [] ∧
      (s.homeSlice j).missing = [] ∧ (s.homeSlice j).srcQ.all (fun r => !earlier r.stamp n) = true) →
    ∃ t, exec .homeMapHoldEnd s = .next t ∧ t = { s with dir := t.dir } ∧
      (∀ j < 8, t.homeSlice j = { s.homeSlice j with heldStamp := none }) ∧ t.dir.entries = s.dir.entries) ∧
  (∀ (i : Slice) (pg : Nat) (s : State), SMap.wf s.dir.entries → pg < 1048576 → s.dir.flushes = [] → s.dir.slices = [] → s.validExtents = [] →
    ∃ t, exec (.dirPageDoubleFail i pg) s = .next t ∧ t = { s with dir := t.dir, flt := t.flt } ∧
      (∃ e ∈ t.flt.waiting, e.src = 0x0908 + i.val ∧ e.cls = 2 ∧ e.evt = 1) ∧
      (∀ set w, set / 8 = pg → w < 16 → (s.way set w).pinned = false → t.way set w = DirEntry.dflt) ∧
      (∀ set w, set / 8 ≠ pg → w < 16 → t.way set w = s.way set w)) ∧
  (∀ (i : Slice) (r : HomeReq) (u : Nat) (s : State), SMap.wf s.regs → SMap.wf s.dir.slices → s.flag Reg.DIR_SLICE_STATUS_FAILED i.val = false →
    s.dir.flushes = [] → (s.homeSlice i.val).unanswered = [r] → r.usp = some u → u < 64 → s.isLost u = false → r.atom = none → r.op = .memRd →
    ∃ t, exec (.sliceFailure i) s = .next t ∧ t = { s with regs := t.regs, dir := t.dir, flt := t.flt, out := t.out } ∧
      t.flag Reg.DIR_SLICE_STATUS_FAILED i.val = true ∧ t.homeSlice i.val = { SliceSt.dflt with cnt := (s.homeSlice i.val).cnt } ∧
      t.out = .memCpl u { tag := r.tag, row := 6, data := some zeroLine, poison := true, mta := none } :: s.out ∧
      (∀ set w, w < 16 → (t.way set w).isFree = false → s.homeAt (lineOf set (t.way set w).tag) s.tbl.epoch ≠ some i.val) ∧
      (∃ e ∈ t.flt.waiting, e.src = 0x0940 + u ∧ e.cls = 2 ∧ e.evt = 3) ∧ (∃ e ∈ t.flt.waiting, e.src = 0x0900 + i.val ∧ e.cls = 3)) ∧
  Reads .dirInfo 0xC500 .observe 0 always (fun _ _ s b => b.length = 12 ∧ p8 b 0 = 8 ∧
    p8 b 1 = maskOf ((List.range 8).filter (fun i => !s.flag Reg.DIR_SLICE_STATUS_FAILED i))) ∧
  Reads .dirLineRead 0xC501 .observe 8 (fun _ p _ => p64 p 0 < 2 ^ 45) (fun _ p s b => b.length = 18 ∧
    (∀ w, s.findWay (p64 p 0 / 64) = some w → b.take 16 = (s.way (setOf (p64 p 0 / 64)) w).toBytes) ∧
    (s.findWay (p64 p 0 / 64) = none → b.take 16 = List.replicate 16 0)) ∧
  Reads .dirSetRead 0xC502 .observe 4 (fun _ p _ => p32 p 0 < 2 ^ 23) (fun _ p s b => b.length = 256 ∧
    (∀ w < 16, (b.drop (16 * w)).take 16 = (s.way (p32 p 0) w).toBytes)) ∧
  (∀ (h : Hdr) (p : Bytes) (s : State), Operating s → Privileged .operate h s → p.length = 12 → p64 p 0 % pageBytes = 0 → p64 p 0 < 2 ^ 45 →
    1 ≤ p32 p 8 → p64 p 0 / pageBytes + p32 p 8 ≤ 2 ^ 24 → s.rangeRelocating p = false → s.dir.entries = [] → s.cmd.bg.length < 16 →
    exec (.dirRangeFlush h p) s = .next (answered 0xC510 stStarted h s []
      ((background 0xC510 h p s false (request 0xC510 .operate h p s)).endBg s.cmd.nextBg stSuccess []))) ∧
  (∀ (h : Hdr) (p : Bytes) (s : State), Operating s → Privileged .admin h s → p.length = 12 → p64 p 0 % pageBytes = 0 → p64 p 0 < 2 ^ 45 →
    1 ≤ p32 p 8 → p64 p 0 / pageBytes + p32 p 8 ≤ 2 ^ 24 → s.validExtents.all (fun e => !entPoisoned e.2 && !entReloc e.2) = true →
    s.dir.entries = [] → s.cmd.bg.length < 16 →
    exec (.dirPoisonClear h p) s = .next (answered 0xC511 stStarted h s []
      ((background 0xC511 h p s false (request 0xC511 .admin h p s)).endBg s.cmd.nextBg stSuccess []))) ∧
  (∀ (k x : Nat) (e : DirEntry) (h : Hdr) (p : Bytes) (s : State), Operating s → Privileged .admin h s → p.length = 12 → p64 p 0 % pageBytes = 0 →
    p64 p 0 < 2 ^ 45 → p32 p 8 = 1 → s.cmd.bg.length < 16 → s.dir.entries = [(k, e)] → e.poisoned = true → e.pinned = false →
    extentOf (lineOf (k / 16) e.tag) = p64 p 0 / pageBytes → s.validExtents = [(p64 p 0 / pageBytes, x)] → entPoisoned x = true → entReloc x = false →
    ∃ t, exec (.dirPoisonClear h p) s = .next t ∧ t.dir.entries = [] ∧ (t.tbl.modq.map ModCommit.extents) =
      s.tbl.modq.map ModCommit.extents ++ [[(p64 p 0 / pageBytes, putBit x 4 false)]]) ∧
  Reads .dirStats 0xC520 .observe 0 always (fun _ _ _ b => b.length = 256)

/-- Policer release, map misses, the start-up hold and POOL devices (R44, R46, R47, R49, R67, R110, R289). -/
def Obligations.PoolDevicesAndLookups : Prop :=
  (∀ (ld : Fin 1024) (x : Held) (i : Nat) (s : State), SMap.wf s.sch.holds → SMap.wf s.sch.policer → SMap.wf s.dir.slices →
    0 < s.policerTokens ld.val → s.holdOf (ld.val / 16) = [x] → x.ld = ld.val → s.homeAt x.req.line x.req.stamp = some i →
    bitOf s.flt.safeSlices i = false → s.flag Reg.DIR_SLICE_STATUS_FAILED i = false → entShared x.req.entry = false →
    ∃ t, exec (.policerRelease ld) s = .next t ∧ t = { s with sch := t.sch, prt := t.prt, dir := t.dir } ∧ t.holdOf (ld.val / 16) = [] ∧
      t.policerTokens ld.val = chargeTokens (s.policerTokens ld.val) (policerBurst (s.policerEntry ld.val)) 64 ∧
      (t.homeSlice i).srcQ = (s.homeSlice i).srcQ ++ [x.req]) ∧
  (∀ (p : Port) (k : Fin 64) (m : MissHold) (n i : Nat) (s : State), SMap.wf s.dir.slices → SMap.wf s.pol.mapCache → s.pol.misses = [m] →
    m.port = p.val → m.slot = k.val → m.pair = none → s.pol.badPages = [] → s.pairMiss (s.entryAt m.extent m.stamp) m.stamp = none →
    s.poolRow m.ld m.dpa m.stamp (isWriteOp m.req.op) = (9, n) → policerCharges (s.policerEntry m.ld) (isWriteOp m.req.op) = false →
    s.homeAt (m.dpa % 2 ^ 45 / 64) m.stamp = some i → bitOf s.flt.safeSlices i = false → s.flag Reg.DIR_SLICE_STATUS_FAILED i = false →
    s.pol.startHold = false →
    entShared (s.entryAt (extentOf (m.dpa % 2 ^ 45 / 64)) m.stamp) = false →
    ∃ t, exec (.extentMapMissFill p k) s = .next t ∧ t = { s with pol := t.pol, prt := t.prt, dir := t.dir } ∧ t.pol.misses = [] ∧
      t.mapHit m.extent = true ∧ (t.homeSlice i).srcQ = (s.homeSlice i).srcQ ++ [s.homeReq p.val p.val m.ld m.dpa m.stamp m.req none]) ∧
  (∀ (m : MissHold) (n : Nat) (s : State), s.pol.startHold = true → s.pol.held = [m] → m.port < 64 →
    s.poolRow m.ld m.dpa m.stamp false = (8, n) → isWriteOp m.req.op = false →
    ∃ t, exec .startHoldExpiry s = .next t ∧ t = { s with pol := t.pol, prt := t.prt, flt := t.flt, out := t.out } ∧ t.pol.startHold = false ∧
      t.pol.held = [] ∧ t.out = .memCpl m.port { tag := m.req.tag, row := 8, data := some zeroLine, poison := true, mta := none } :: s.out ∧
      (∃ e ∈ t.flt.waiting, e.src = 0x0A40 + n % 64 ∧ e.cls = 2 ∧ e.evt = 3)) ∧
  (∀ (p : Port) (d : DevIdent) (s : State), SMap.wf s.regs → SMap.wf s.pol.devices → s.isPool p.val = true → (s.port p.val).up = true →
    s.flag Reg.POL_DSP_CFG_DEVICE_OK p.val = false → d.ok = true → d.cxlMem = true → d.type3 = true → pageBytes ≤ d.capacity →
    d.capacity / pageBytes < 2 ^ 24 → (s.poolDev p.val).known = false → s.pagesUsed p.val ≤ d.capacity / pageBytes → s.pol.held = [] →
    ∃ t, exec (.poolDeviceAccept p d) s = .next t ∧ t.flag Reg.POL_DSP_CFG_DEVICE_OK p.val = true ∧
      t.poolDev p.val = { serial := d.serial, pages := d.capacity / pageBytes, known := true, acrakFail := false } ∧
      t.out = .devCfg p.val 0 (leBytes 8 0 ++ leBytes 8 (d.capacity / pageBytes * pageBytes)) :: s.out ∧ t.pol.map = s.pol.map ∧ t.dir = s.dir ∧
      t.flt.hist = s.flt.hist) ∧
  (∀ (p : Port) (d : DevIdent) (s : State), s.isPool p.val = true → (s.port p.val).up = true → s.flag Reg.POL_DSP_CFG_DEVICE_OK p.val = false →
    d.ok = false ∨ d.cxlMem = false ∨ d.type3 = false ∨ d.capacity < pageBytes →
    ∃ t, exec (.poolDeviceAccept p d) s = .next t ∧ t.flag Reg.POL_DSP_CFG_DEVICE_OK p.val = false ∧ t.out = s.out ∧ t.pol.map = s.pol.map ∧
      (∃ e ∈ t.flt.waiting, e.src = 0x0A40 + p.val ∧ e.cls = 2 ∧ e.evt = 1)) ∧
  (∀ (p : Port) (cor unc : Nat) (s : State), s.isPool p.val = true → s.flag Reg.POL_DSP_CFG_DEVICE_OK p.val = true →
    ∃ t, exec (.poolDeviceEventPoll p cor unc) s = .next t ∧ t = { s with flt := t.flt } ∧
      (0 < cor → ∃ e ∈ t.flt.waiting, e.src = 0x0A40 + p.val ∧ e.cls = 1 ∧ cor ≤ e.count) ∧
      (0 < unc → ∃ e ∈ t.flt.waiting, e.src = 0x0A40 + p.val ∧ e.cls = 2 ∧ unc ≤ e.count)) ∧
  (∀ (p : Port) (e : ErrMsg) (s : State), s.isPool p.val = true →
    ∃ t, exec (.poolDeviceErrMessage p e) s = .next t ∧ t = { s with flt := t.flt } ∧
      (∃ x ∈ t.flt.waiting, x.src = 0x0A40 + p.val ∧ x.cls = (if e = .cor then 1 else 2)))

/-- Granting and releasing capacity, share groups and the pool commands (R79, R83, R84, R85, R86, R88, R105, R115). -/
def Obligations.CapacityAndGroups : Prop :=
  (∀ (g ld m : Nat) (r : Release) (o : FlushOp) (s : State), s.pol.releases = [r] → s.dir.flushes = [o] → o.release = some r.id →
    s.releaseClear r.id = true → r.extents = [] → r.leavers = [(ld, g)] → r.joiners = [] → r.destroy = false → m ∈ s.members g → m ≠ ld →
    ∃ t, exec (.releaseInvalidateEnd r.id) s = .next t ∧ t = { s with dir := t.dir, jnl := t.jnl, tbl := t.tbl } ∧ t.dir.flushes = [] ∧
      (t.tbl.modq.map ModCommit.writes) = s.tbl.modq.map ModCommit.writes ++ [s.memberWrites [(ld, g, false)]] ∧
      (t.tbl.modq.map ModCommit.extents) = s.tbl.modq.map ModCommit.extents ++ [[]]) ∧
  (∀ (ld : Fin 1024) (x : Nat) (s : State), s.holdsExtent ld.val x = true → s.stagedExtent x = false → entShared (s.entry x) = false →
    s.pol.releases = [] → s.relocOf x = none → s.dir.flushes = [] →
    ∃ t, exec (.hostReleaseCapacity ld x 1) s = .next t ∧ t = { s with pol := t.pol, jnl := t.jnl, tbl := t.tbl } ∧
      (t.tbl.modq.map ModCommit.extents) = s.tbl.modq.map ModCommit.extents ++ [[(x, 0)]] ∧ t.pol.map = s.pol.map ∧
      t.pol.nextId = s.pol.nextId + 1 ∧ (t.pol.releases.map Release.id) = [s.pol.nextId]) ∧
  (∀ (ld : Fin 1024) (first count x : Nat) (s : State), first ≤ x → x < first + count → s.holdsExtent ld.val x = false →
    exec (.hostReleaseCapacity ld first count) s = .next s) ∧
  (∀ (r : Release) (s : State), s.pol.releases = [r] → r.waitHost = true →
    ∃ t, exec (.releaseTimeout r.id) s = .next t ∧ t.pol.releases = [] ∧ t.pol.map = s.pol.map ∧ t.dir = s.dir ∧ t.tbl = s.tbl) ∧
  (∀ (g : Grant) (x e : Nat) (c : Copy) (s : State), s.pol.grants = [g] → g.fills ≠ 0 → g.entries = [(x, e)] →
    s.copies e (x * linesPerExtent) s.tbl.epoch = [c] →
    ∃ t, exec (.fillComplete g.id) s = .next t ∧ t = { s with pol := t.pol, jnl := t.jnl, tbl := t.tbl, out := t.out } ∧
      t.out = .devFill c.port c.dpa pageBytes :: s.out ∧ (t.tbl.modq.map ModCommit.extents) = s.tbl.modq.map ModCommit.extents ++ [[(x, e)]] ∧
      t.pol.grants = [{ g with fills := 0 }]) ∧
  (∀ (ld : Fin 1024) (g : Grant) (acc : List (Nat × Nat)) (s : State), s.pol.grants = [g] → g.offered = true → g.lds = [ld.val] →
    g.entries.all (fun e => acc.any (fun a => a.1 ≤ e.1 && e.1 < a.1 + a.2)) = true →
    exec (.hostAddCapacityResponse ld acc) s = .next { s with pol := { s.pol with grants := [] } }) ∧
  (∀ (ld : Fin 1024) (g : Grant) (x e : Nat) (s : State), s.pol.grants = [g] → g.offered = true → g.lds = [ld.val] → g.entries = [(x, e)] →
    s.holdsExtent ld.val x = true → s.stagedExtent x = false → entShared (s.entry x) = false → s.relocOf x = none → s.dir.flushes = [] →
    ∃ t, exec (.hostAddCapacityResponse ld []) s = .next t ∧ t = { s with pol := t.pol, jnl := t.jnl, tbl := t.tbl } ∧ t.pol.grants = [] ∧
      (t.tbl.modq.map ModCommit.extents) = s.tbl.modq.map ModCommit.extents ++ [[(x, 0)]]) ∧
  (∀ s : State, exec .changeListWritable s = .next (s.setFlag Reg.POL_MAP_STATUS_CL_WRITABLE 0 true)) ∧
  (∀ (page : Nat) (pair : Bool) (s : State), s.pol.badPages = [(page, pair)] →
    ∃ t, exec (.extentPageRebuild page pair) s = .next t ∧ t = { s with pol := { s.pol with badPages := [] }, flt := t.flt } ∧
      (∃ e ∈ t.flt.waiting, e.src = (if pair then 0x0A81 else 0x0A80) ∧ e.cls = 2)) ∧
  Reads .poolInfo 0xC400 .observe 0 always (fun _ _ s b => b.length = 24 ∧ fieldAt b 0 4 = s.validExtents.length % 2 ^ 32) ∧
  (∀ (h : Hdr) (p : Bytes) (s : State), Operating s → Privileged .admin h s → p.length = 32 → s.isUsp (p8 p 0) = true →
    (∀ i < 16, bitOf (p8 p (16 + i)) 7 = true → s.targetOk (p8 p (16 + i) % 128) = true) → s.validExtents = [] →
    ∃ t, exec (.poolViewSet h p) s = .next t ∧ (t.tbl.waits.map Waiting.what) = s.tbl.waits.map Waiting.what ++ [.modCommit s.tbl.nextMod] ∧
      (t.tbl.modq.map ModCommit.writes) = s.tbl.modq.map ModCommit.writes ++ [[(0x0A00 + p8 p 0, 0x1000, slice p 16 16)]] ∧
      t.tbl.tables = s.tbl.tables) ∧
  (∀ (h : Hdr) (p : Bytes) (s : State), Operating s → Privileged .operate h s → p.length = 32 → p16 p 0 = 1 → p8 p 2 = 0 →
    s.ldOperand (p16 p 4) = true → entShared (grantRun p 0).entry = false → s.grantBad (grantRun p 0) = none → s.hasLd (p16 p 4) = true →
    s.grantRefused ((grantRun p 0).entries (p16 p 4)) false = none → s.cmd.bg.length < 16 →
    ∃ t, exec (.extentGrant h p) s = .next t ∧
      t.pol.grants = s.pol.grants ++ [{
        id := s.pol.nextId, bgId := some s.cmd.nextBg, lds := [p16 p 4], entries := (grantRun p 0).entries (p16 p 4),
        fills := p32 p 20, mod := none, offered := false }] ∧
      t.pol.nextId = s.pol.nextId + 1 ∧ t.pol.map = s.pol.map ∧ t.tbl = s.tbl ∧ t.cmd.bg.length = s.cmd.bg.length + 1) ∧
  (∀ (x : Nat × Nat) (h : Hdr) (p : Bytes) (s : State), Operating s → Privileged .operate h s → p.length = 12 → s.ldOperand (p16 p 0) = true →
    p32 p 4 < 2 ^ 24 → p32 p 8 = 1 → s.validExtents = [x] → x.1 = p32 p 4 → s.holdsExtent (p16 p 0) x.1 = true → s.stagedExtent x.1 = false →
    s.cmd.bg.length < 16 →
    ∃ t, exec (.extentRelease h p) s = .next t ∧ (∃ rest, t.out = rest ++ .capacity (p16 p 0) 1 (p32 p 4) 1 [] :: s.out) ∧
      (t.pol.releases.map Release.asked) = s.pol.releases.map Release.asked ++ [(p32 p 4, 1)] ∧ t.pol.map = s.pol.map ∧ t.tbl = s.tbl) ∧
  Reads .extentRead 0xC422 .observe 6 (fun _ p _ => 1 ≤ p16 p 4 ∧ p16 p 4 ≤ 508 ∧ p32 p 0 + p16 p 4 ≤ 2 ^ 24)
    (fun _ p s b => b.length = 8 * p16 p 4 ∧ (∀ i < p16 p 4, fieldAt b (8 * i) 8 = s.entry (p32 p 0 + i) % 2 ^ 64)) ∧
  Does .shareGroupSet 0xC423 .operate 160 (fun _ p s => p16 p 0 < 1024 ∧ s.members (p16 p 0) = [] ∧ fieldAt p 32 128 = 0 ∧ s.groupExtents (p16 p 0) = [])
    (fun _ p s => { s with pol := { s.pol with nextId := s.pol.nextId + 1,
                                               groupTags := SMap.put s.pol.groupTags (p16 p 0) (slice p 16 16) } }.journal
      (.group (p16 p 0) (SMap.get (SMap.put s.pol.groupTags (p16 p 0) (slice p 16 16)) (p16 p 0) (List.replicate 16 0)) [])) ∧
  (∀ (m : Fin 1024) (h : Hdr) (p : Bytes) (s : State), Operating s → Privileged .operate h s → p.length = 160 → p16 p 0 < 1024 →
    fieldAt p 32 128 = 2 ^ m.val → s.hasLd m.val = true → s.members (p16 p 0) = [] → s.groupExtents (p16 p 0) = [] → s.dir.flushes = [] →
    ∃ t, exec (.shareGroupSet h p) s = .next t ∧ (t.tbl.waits.map Waiting.what) = s.tbl.waits.map Waiting.what ++ [.modCommit s.tbl.nextMod] ∧
      (t.tbl.modq.map ModCommit.writes) = s.tbl.modq.map ModCommit.writes ++ [s.memberWrites [(m.val, p16 p 0, true)]])

/-- Live relocation: the start, the end commit, aborts, slots and the relocation commands (R94, R98, R99, R100, R103, R77, R115). -/
def Obligations.LiveRelocation : Prop :=
  (∀ (i : RelocItem) (k : Nat) (s : State), SMap.wf s.pol.map → s.pol.relocs = [] → s.pol.relocCmds = [] → i.copy = none → s.freeSlot = some k →
    1 ≤ s.get Reg.POL_RELOC_CTL_BATCH → SMap.wf (s.table 0x0A41).active → SMap.wf s.tbl.tables →
    (s.addReloc [i]).pol.relocs.map Reloc.slot = [k] ∧
    ((s.addReloc [i]).tbl.modq.map ModCommit.extents) = s.tbl.modq.map ModCommit.extents ++
      [[(i.extent, putBits (putBit (putBit (s.entry i.extent) 2 true) 3 true) 24 24 (1046536 + k))]] ∧
    cwState ((s.addReloc [i]).copyWord (1046536 + k) 0) = 0 ∧ cwState ((s.addReloc [i]).copyWord (1046536 + k) 1) = 1 ∧
    cwTarget ((s.addReloc [i]).copyWord (1046536 + k) 1) = i.target % 256 ∧ cwSlot ((s.addReloc [i]).copyWord (1046536 + k) 1) = k) ∧
  (∀ (r : Reloc) (s : State), s.pol.relocs = [r] → r.freeAt = none → r.aborting = false → r.leg = 3 → r.origPair = none →
    ∃ t, exec (.relocationBatchEnd r.batch) s = .next t ∧ t = { s with pol := t.pol, jnl := t.jnl, tbl := t.tbl } ∧
      t.pol.relocs = [{ r with leg := 4 }] ∧
      (t.tbl.modq.map ModCommit.extents) = s.tbl.modq.map ModCommit.extents ++ [[(r.extent, r.dstEntry)]]) ∧
  (∀ (r : Reloc) (c : RelocAbort) (s : State), s.pol.relocs = [r] → r.freeAt = none → r.aborting = false → r.leg < 4 → r.origPair = none →
    ∃ t, exec (.relocationExtentAbort r.extent c) s = .next t ∧
      t = { s with pol := t.pol, jnl := t.jnl, tbl := t.tbl, mov := t.mov, flt := t.flt } ∧ t.pol.relocs = [{ r with aborting := true }] ∧
      (t.tbl.modq.map ModCommit.extents) = s.tbl.modq.map ModCommit.extents ++
        [[(r.extent, if c = .deviceLost then putBit r.origEntry 4 true else r.origEntry)]] ∧
      (c = .copyFailed → ∃ e ∈ t.flt.waiting, e.src = 0x0A82 ∧ e.cls = 1) ∧
      (c = .command → t.flt = s.flt)) ∧
  (∀ (r : Reloc) (e : Nat) (s : State), s.pol.relocs = [r] → r.freeAt = some e → (s.stamps.any (fun t => earlier t e)) = false →
    s.pol.relocCmds = [] →
    exec (.relocationSlotFree r.slot) s = .next { s with pol := { s.pol with relocs := [] } }) ∧
  Starts .relocateStart 0xC430 .operate 32 true (fun _ p s => p8 p 0 = 0 ∧ p16 p 2 = 1 ∧ p32 p 16 < 2 ^ 24 ∧ p32 p 20 < 2 ^ 24 ∧
      s.destOk (bitOf (p8 p 25) 0) (p8 p 24) (entMirrored (s.entry (p32 p 16))) = true ∧ s.itemConflict (listItem s p 0) = false ∧
      mapRuns s.pol.map < 196608)
    (fun _ p s => s.addReloc [listItem s p 0]) ∧
  (∀ (r : Reloc) (c : RelocCmd) (h : Hdr) (s : State), Operating s → Privileged .operate h s → s.cmd.bg.length < 16 → s.pol.relocs = [r] →
    s.pol.relocCmds = [c] → s.pol.abortBg = none → r.freeAt = none → r.aborting = false → r.leg < 4 → r.origPair = none → c.current = some r.batch →
    ∃ t, exec (.relocateAbort h []) s = .next t ∧ t.pol.relocs = [{ r with aborting := true }] ∧ t.pol.abortBg = some s.cmd.nextBg ∧
      t.pol.relocCmds = [{ c with aborted := c.aborted + c.todo.length, todo := [] }] ∧
      (t.tbl.modq.map ModCommit.extents) = s.tbl.modq.map ModCommit.extents ++ [[(r.extent, r.origEntry)]]) ∧
  Reads .relocateStatus 0xC432 .observe 0 always (fun _ _ s b => b.length = 20 ∧ fieldAt b 16 4 = s.pol.relocs.length % 2 ^ 32) ∧
  Starts .mirrorResync 0xC433 .operate 12 true (fun _ p s => p32 p 0 < 1046536 ∧ p8 p 4 ≤ 1 ∧ s.destOk (bitOf (p8 p 6) 0) (p8 p 5) true = true ∧
      p32 p 8 < 2 ^ 24 ∧ cwState (s.copyWord (p32 p 0) (p8 p 4)) = 2 ∧
      s.validExtents.length = 1 ∧ (s.validExtents.all (fun x => entMirrored x.2 && entPage x.2 == p32 p 0 && !s.itemConflict
        { extent := x.1, copy := some (p8 p 4), target := p8 p 5, il := bitOf (p8 p 6) 0, page := p32 p 8 })) = true)
    (fun _ p s => s.addReloc (s.validExtents.map (fun x =>
      { extent := x.1, copy := some (p8 p 4), target := p8 p 5, il := bitOf (p8 p 6) 0, page := p32 p 8 })))

/-- Rings, doorbells, descriptor fetch and descriptor opening (R190, R199, R200, R201, R202, R203, R206, R210). -/
def Obligations.MoverRings : Prop :=
  (∀ (k j : Nat) (x : FnSt) (s : State), SMap.wf s.mov.fns →
    (s.setFn k x).fn k = x ∧ (j ≠ k → (s.setFn k x).fn j = s.fn j) ∧ SMap.wf (s.setFn k x).mov.fns) ∧
  (∀ (f : Fn) (r : Fin 4) (tail : BitVec 16) (s : State), s.fnLive (fnKey f) = true → (s.fn (fnKey f)).flr = false →
    tail.toNat < ((s.fn (fnKey f)).sq r.val).depth →
    ringDist ((s.fn (fnKey f)).sq r.val).depth ((s.fn (fnKey f)).sq r.val).head ((s.fn (fnKey f)).sq r.val).tail +
      ringDist ((s.fn (fnKey f)).sq r.val).depth ((s.fn (fnKey f)).sq r.val).tail tail.toNat < ((s.fn (fnKey f)).sq r.val).depth →
    exec (.sqTailDb f r tail) s = .next (s.setFn (fnKey f) { s.fn (fnKey f) with
      sqs := (s.fn (fnKey f)).sqs.set r.val { (s.fn (fnKey f)).sq r.val with tail := tail.toNat } })) ∧
  (∀ (f : Fn) (r : Fin 4) (tail : BitVec 16) (s : State), s.fnLive (fnKey f) = true → (s.fn (fnKey f)).flr = false →
    ((s.fn (fnKey f)).sq r.val).depth ≤ tail.toNat →
    exec (.sqTailDb f r tail) s = .next (s.setFn (fnKey f) { s.fn (fnKey f) with
      sqs := (s.fn (fnKey f)).sqs.set r.val { (s.fn (fnKey f)).sq r.val with dbErr := true } })) ∧
  (∀ (f : Fn) (head : BitVec 16) (s : State), s.fnLive (fnKey f) = true → (s.fn (fnKey f)).flr = false →
    exec (.cqHeadDb f head) s = .next (s.setFn (fnKey f)
      (if head.toNat < 2 ^ (s.fn (fnKey f)).cqLog2 ∧
          ringDist (2 ^ (s.fn (fnKey f)).cqLog2) (s.fn (fnKey f)).cqHead head.toNat ≤ (s.fn (fnKey f)).cqUsed
        then { s.fn (fnKey f) with cqHead := head.toNat } else { s.fn (fnKey f) with cqDbErr := true }))) ∧
  (∀ (f : Fn) (r : Fin 4) (v : BitVec 16) (b : Bool) (s : State), (s.fn (fnKey f)).flr = true →
    exec (.sqTailDb f r v) s = .next s ∧ exec (.cqHeadDb f v) s = .next s ∧ exec (.sqEnableWrite f r b) s = .next s ∧
      exec (.cqEnableWrite f b) s = .next s) ∧
  (∀ (f : Fn) (r : Fin 4) (s : State), s.fnLive (fnKey f) = true → (s.fn (fnKey f)).flr = false → ((s.fn (fnKey f)).sq r.val).en = false →
    exec (.sqEnableWrite f r true) s = .next (s.setFn (fnKey f) { s.fn (fnKey f) with
      sqs := (s.fn (fnKey f)).sqs.set r.val (if ((s.fn (fnKey f)).sq r.val).base % (64 * ((s.fn (fnKey f)).sq r.val).depth) = 0
        then { (s.fn (fnKey f)).sq r.val with en := true, head := 0, halted := false, fetched := [] } else (s.fn (fnKey f)).sq r.val) })) ∧
  (∀ (f : Fn) (r : Fin 4) (s : State), s.fnLive (fnKey f) = true → (s.fn (fnKey f)).flr = false →
    SMap.wf s.mov.fns → (s.fn (fnKey f)).freezing = false →
    exec (.sqEnableWrite f r false) s = .next (s.setFn (fnKey f) { s.fn (fnKey f) with
      sqs := (s.fn (fnKey f)).sqs.set r.val { (s.fn (fnKey f)).sq r.val with en := false, halted := false, fetched := [] } })) ∧
  (∀ (f : Fn) (s : State), s.fnLive (fnKey f) = true → (s.fn (fnKey f)).flr = false → (s.fn (fnKey f)).cqEn = false →
    (s.fn (fnKey f)).cqBase % (32 * 2 ^ (s.fn (fnKey f)).cqLog2) = 0 →
    exec (.cqEnableWrite f true) s = .next (s.setFn (fnKey f)
      { s.fn (fnKey f) with cqEn := true, cqPhase := true, cqTail := 0, cqHead := 0 })) ∧
  (∀ (f : Fn) (s : State), s.fnLive (fnKey f) = true → (s.fn (fnKey f)).flr = false →
    exec (.cqEnableWrite f false) s =
      .next (if s.fnActive (fnKey f) then s else s.setFn (fnKey f) { s.fn (fnKey f) with cqEn := false })) ∧
  (∀ (f : Fn) (r : Fin 4) (d : Bytes) (s : State), s.fnFetches (fnKey f) = true → (s.fn (fnKey f)).nextSq = r.val → d.length = 64 →
    ((s.fn (fnKey f)).sq r.val).en = true → ((s.fn (fnKey f)).sq r.val).halted = false →
    ((s.fn (fnKey f)).sq r.val).head ≠ ((s.fn (fnKey f)).sq r.val).tail →
    exec (.descriptorFetch f d) s = .next ((s.emit (.hostRead ((s.fnUsp (fnKey f)).getD 0) (s.fnRid (fnKey f))
      (((s.fn (fnKey f)).sq r.val).base + 64 * ((s.fn (fnKey f)).sq r.val).head) 64 1024)).setFn (fnKey f) { s.fn (fnKey f) with
        sqs := (s.fn (fnKey f)).sqs.set r.val { (s.fn (fnKey f)).sq r.val with
          head := (((s.fn (fnKey f)).sq r.val).head + 1) % ((s.fn (fnKey f)).sq r.val).depth,
          fetched := ((s.fn (fnKey f)).sq r.val).fetched ++ [((s.fn (fnKey f)).nextSeq, d)] },
        nextSq := (r.val + 1) % 4, nextSeq := (s.fn (fnKey f)).nextSeq + 1 })) ∧
  (∀ (f : Fn) (r : Fin 4) (s : State), SMap.wf s.mov.fns → s.fnFetches (fnKey f) = true → r.val < (s.fn (fnKey f)).sqs.length →
    ((s.fn (fnKey f)).sq r.val).en = true → ((s.fn (fnKey f)).sq r.val).halted = false →
    ((s.fn (fnKey f)).sq r.val).head ≠ ((s.fn (fnKey f)).sq r.val).tail → (s.fn (fnKey f)).coalCount ≤ 1 →
    ((s.fn (fnKey f)).vec (s.fn (fnKey f)).errVector).masked = false → (s.fn (fnKey f)).funcMask = false → s.fnHolds (fnKey f) = false →
    ∃ t, exec (.descriptorFetchError f r) s = .next t ∧ t = { s with mov := t.mov, flt := t.flt, out := t.out } ∧
      t.mov = { s.mov with fns := t.mov.fns } ∧
      (t.fn (fnKey f)).sq r.val = { (s.fn (fnKey f)).sq r.val with halted := true, fetchErr := true } ∧
      (∀ j, j ≠ fnKey f → t.fn j = s.fn j) ∧ (∃ e ∈ t.flt.waiting, e.src = 0x0B21 ∧ e.cls = 2) ∧
      t.out = .msix ((s.fnUsp (fnKey f)).getD 0) (s.fnRid (fnKey f)) ((s.fn (fnKey f)).vec (s.fn (fnKey f)).errVector).addr
        ((s.fn (fnKey f)).vec (s.fn (fnKey f)).errVector).data :: s.out) ∧
  (∀ (f : Fn) (sh : Bool) (e r q : Nat) (d : Bytes) (s : State), SMap.wf s.mov.fns → f ≠ .mgmtPf → s.pipeHeld .mover = false →
    s.ctxFor (fnKey f) = some sh → s.leastLoaded (s.enginesFor (fnKey f)) = some e → s.fnRuns (fnKey f) = true →
    s.pfD3 ((s.fnUsp (fnKey f)).getD 0) = false → (s.fn (fnKey f)).cqRoom = true → s.openRing (fnKey f) = some (r, q, d) →
    ∃ t c, exec (.descriptorOpen f) s = .next t ∧ t = { s with mov := t.mov } ∧ t.mov.ctxs = s.mov.ctxs ++ [c] ∧ c.id = s.mov.nextCtx ∧
      c.fn = fnKey f ∧ c.engine = e ∧ c.desc = d ∧ c.sq = r ∧ c.gen = (s.fn (fnKey f)).gen ∧
      (s.descCheck (fnKey f) d = 0 → c.next = 0 ∧ c.fail = none) ∧
      (s.descCheck (fnKey f) d ≠ 0 → c.fail = some (0, s.descCheck (fnKey f) d) ∧ c.chunks = []) ∧
      (t.fn (fnKey f)).cqReserved = (s.fn (fnKey f)).cqReserved + 1 ∧ (∀ j, j ≠ fnKey f → t.fn j = s.fn j)) ∧
  (∀ (f : Fn) (s : State), f ≠ .mgmtPf →
    (∀ r < 4, ∀ x, ((s.fn (fnKey f)).sq r).fetched.head? = some x →
      (dOrdered x.2 = true ∧ ∃ c ∈ s.fnCtxs (fnKey f), c.sq = r) ∨ ∃ q ∈ s.fences (fnKey f), q < x.1) →
    exec (.descriptorOpen f) s = .next s) ∧
  (∀ (sh : Bool) (e : Nat) (d : Bytes) (r : Reloc) (s : State), s.pipeHeld .mover = false → s.ctxFor mgmtKey = some sh →
    s.leastLoaded (s.enginesFor mgmtKey) = some e → s.moverSafe = false → s.mov.pfPend = [(r.slot, d)] → s.pol.relocs = [r] →
    dDst d % 2048 = r.slot → r.freeAt = none → r.aborting = false →
    ∃ t c, exec (.descriptorOpen .mgmtPf) s = .next t ∧ t = { s with mov := t.mov, pol := t.pol } ∧ t.mov.pfPend = [] ∧
      t.mov.ctxs = s.mov.ctxs ++ [c] ∧ c.fn = mgmtKey ∧ c.engine = e ∧ c.desc = d ∧ t.pol.relocs = [{ r with ctx := some s.mov.nextCtx }])

/-- Chunks, answers, completion records and MSI-X (R192, R198, R207, R208, R209, R210, R211, R212, R213, R214, Table 4-7, R196). -/
def Obligations.MoverWork : Prop :=
  (∀ (e : Fin 32) (c : Ctx) (u n : Nat) (s : State), SMap.wf s.mov.fns → SMap.wf s.mov.engBytes → SMap.wf s.mov.dh → SMap.wf s.mov.df →
    s.engineOk e.val = true → s.pipeHeld .mover = false → s.mov.ctxs = [c] → c.engine = e.val → s.chunkReady c = true → c.chunks = [] →
    c.accs = [] → c.leg = 0 → c.fn ≠ mgmtKey → s.fnUsp c.fn = some u → dOp c.desc = 2 →
    n = min (dLen c.desc - c.next) (4096 - (dDst c.desc + c.next) % 4096) → s.resolve c.fn (dDst c.desc + c.next) n = .host →
    ∃ t, exec (.chunkIssue e) s = .next t ∧ t = { s with mov := t.mov, out := t.out } ∧
      t.out = .hostWrite u (s.fnRid c.fn) (dDst c.desc + c.next) (fillBytes c.desc c.next n) :: s.out ∧
      t.mov.ctxs = [{ c with next := c.next + n }] ∧
      t.fn c.fn = { s.fn c.fn with bytesMoved := ((s.fn c.fn).bytesMoved + n) % 2 ^ 64 } ∧
      SMap.get t.mov.engBytes e.val 0 = (SMap.get s.mov.engBytes e.val 0 + n) % 2 ^ 64 ∧
      (c.next + n = dLen c.desc → t.mov.hostCredit e.val u = 0 ∧ t.mov.fnCredit e.val c.fn = 0)) ∧
  (∀ (e : Fin 32) (s : State), s.engineOk e.val = false ∨ 16 ≤ s.inFlight e.val → exec (.chunkIssue e) s = .next s) ∧
  (∀ (id addr u : Nat) (b : Bytes) (j o n : Nat) (x : TagSlot) (c : Ctx) (a : ChAcc) (s : State), SMap.wf s.mov.fns →
    s.mov.rsps.all (fun y => y.1 != id || y.2.1 != addr) = true → s.prt.ioSlots = [(j, x)] → x.user = some (.mover id addr) → s.mov.ctxs = [c] →
    c.id = id → c.fn ≠ mgmtKey → s.fnUsp c.fn = some u → c.squashed = false → c.leg = 0 → c.fail = none → c.chunks = [(o, n)] → c.accs = [a] → a.key = addr →
    a.isRead = true → a.pool = false → o ≤ a.off → a.off < o + n → dOp c.desc = 1 → (s.port u).up = true →
    s.resolve c.fn (dDst c.desc + a.off) a.len = .host →
    ∃ t, exec (.chunkResponse id addr (.data b)) s = .next t ∧ t = { s with mov := t.mov, prt := t.prt, out := t.out } ∧
      t.out = .hostWrite u (s.fnRid c.fn) (dDst c.desc + a.off) (slice b 0 a.len) :: s.out ∧
      t.mov.ctxs = [{ c with accs := [], chunks := [] }] ∧ (∀ y ∈ t.prt.ioSlots, y.2.user = none) ∧
      t.fn c.fn = { s.fn c.fn with bytesMoved := ((s.fn c.fn).bytesMoved + n) % 2 ^ 64 }) ∧
  (∀ (id addr : Nat) (rsp : ChunkRsp) (j o n : Nat) (x : TagSlot) (c : Ctx) (a : ChAcc) (s : State), SMap.wf s.mov.fns →
    s.mov.rsps.all (fun y => y.1 != id || y.2.1 != addr) = true → s.prt.ioSlots = [(j, x)] → x.user = some (.mover id addr) → s.mov.ctxs = [c] →
    c.id = id → c.fn ≠ mgmtKey → c.squashed = false → c.leg = 0 → c.fail = none → c.chunks = [(o, n)] → c.accs = [a] → a.key = addr →
    a.isRead = true → o ≤ a.off → a.off < o + n → dOp c.desc = 1 → rsp = .poison ∨ rsp = .hostUr ∨ rsp = .hostCa ∨ rsp = .timeout →
    ∃ t, exec (.chunkResponse id addr rsp) s = .next t ∧ t = { s with mov := t.mov, prt := t.prt, flt := t.flt } ∧
      t.mov.ctxs = [{ c with accs := [], chunks := [], fail := some (o, if rsp = .poison then 6 else if rsp = .timeout then 9 else 7) }] ∧
      (rsp = .hostUr ∨ rsp = .hostCa → ∃ e ∈ t.flt.waiting, e.src = 0x0B20 ∧ e.cls = 2) ∧
      (t.fn c.fn).bytesMoved = (s.fn c.fn).bytesMoved % 2 ^ 64) ∧
  (∀ (id addr : Nat) (row : Fin 10) (w : Bool) (rsp : ChunkRsp) (o n : Nat) (c : Ctx) (a : ChAcc) (s : State), SMap.wf s.mov.fns →
    s.mov.rsps = [(id, addr, .row row w)] → s.mov.ctxs = [c] → c.id = id → c.squashed = false → c.leg = 0 → c.fail = none → c.chunks = [(o, n)] →
    c.accs = [a] → a.key = addr → a.isRead = !w → o ≤ a.off → a.off < o + n → dOp c.desc = 1 →
    ∃ t, exec (.chunkResponse id addr rsp) s = .next t ∧ t = { s with mov := t.mov } ∧ t.mov.rsps = [] ∧
      t.mov.ctxs = [{ c with
        accs := [], chunks := [], fail := some (o, if w = false ∧ (row.val = 6 ∨ row.val = 8) then 6 else 5) }]) ∧
  (∀ (c : Ctx) (ph : Bool), c.desc.length = 64 → c.sq < 4 → dBytes c.desc < 2 ^ 64 →
    (c.record ph).length = 32 ∧ slice (c.record ph) 0 4 = slice c.desc 4 4 ∧ fieldAt (c.record ph) 5 1 = c.sq + (if ph then 128 else 0) ∧
      fieldAt (c.record ph) 6 1 = c.gen % 256 ∧
      (c.fail = none → fieldAt (c.record ph) 4 1 = 0 ∧ fieldAt (c.record ph) 8 8 = dBytes c.desc ∧
        fieldAt (c.record ph) 16 16 = c.result % 2 ^ 128) ∧
      (∀ off st, c.fail = some (off, st) → fieldAt (c.record ph) 4 1 = st % 256 ∧ fieldAt (c.record ph) 8 8 = off % 2 ^ 64)) ∧
  (∀ (c : Ctx) (u : Nat) (s : State), SMap.wf s.mov.fns → s.mov.ctxs = [c] → s.descDone c = true → c.fn ≠ mgmtKey → c.fail = none →
    (s.fn c.fn).freezing = false → s.fnUsp c.fn = some u → (s.port u).up = true → bitOf (fieldAt c.desc 1 1) 2 = false →
    bitOf (fieldAt c.desc 1 1) 0 = false →
    exec (.descriptorComplete c.id) s = .next ((({ s with mov := { s.mov with ctxs := [] } }).emit
      (.hostWrite u (s.fnRid c.fn) ((s.fn c.fn).cqBase + 32 * (s.fn c.fn).cqTail) (c.record (s.fn c.fn).cqPhase))).setFn c.fn
      { s.fn c.fn with
        cqReserved := (s.fn c.fn).cqReserved - 1, descDone := ((s.fn c.fn).descDone + 1) % 2 ^ 64,
        cqTail := ((s.fn c.fn).cqTail + 1) % 2 ^ (s.fn c.fn).cqLog2,
        cqPhase := if ((s.fn c.fn).cqTail + 1) % 2 ^ (s.fn c.fn).cqLog2 = 0 then !(s.fn c.fn).cqPhase else (s.fn c.fn).cqPhase })) ∧
  (∀ (c : Ctx) (s : State), SMap.wf s.mov.fns → s.mov.ctxs = [c] → s.descDone c = true → c.fn ≠ mgmtKey → c.fail = none →
    (s.fn c.fn).freezing = false → bitOf (fieldAt c.desc 1 1) 2 = true → bitOf (fieldAt c.desc 1 1) 0 = false →
    exec (.descriptorComplete c.id) s = .next (({ s with mov := { s.mov with ctxs := [] } }).setFn c.fn
      { s.fn c.fn with cqReserved := (s.fn c.fn).cqReserved - 1, descDone := ((s.fn c.fn).descDone + 1) % 2 ^ 64 })) ∧
  (∀ (c : Ctx) (u : Nat) (s : State), SMap.wf s.mov.fns → s.mov.ctxs = [c] → s.descDone c = true → c.fn ≠ mgmtKey →
    (s.fn c.fn).freezing = false → s.fnUsp c.fn = some u → (s.port u).up = true → bitOf (fieldAt c.desc 1 1) 2 = false →
    bitOf (fieldAt c.desc 1 1) 0 = true → (s.fn c.fn).coalCount ≤ 1 → ((s.fn c.fn).vec (s.fn c.fn).cqVector).masked = false →
    (s.fn c.fn).funcMask = false → s.fnHolds c.fn = false →
    ∃ t, exec (.descriptorComplete c.id) s = .next t ∧ t = { s with mov := t.mov, out := t.out } ∧ t.mov.ctxs = [] ∧
      t.out = .msix u (s.fnRid c.fn) ((s.fn c.fn).vec (s.fn c.fn).cqVector).addr ((s.fn c.fn).vec (s.fn c.fn).cqVector).data ::
        .hostWrite u (s.fnRid c.fn) ((s.fn c.fn).cqBase + 32 * (s.fn c.fn).cqTail) (c.record (s.fn c.fn).cqPhase) :: s.out) ∧
  (∀ (f : Fn) (v : Fin 16) (s : State), SMap.wf s.mov.fns → v.val < (s.fn (fnKey f)).vecs.length → (s.fn (fnKey f)).coalTime ≠ 0 →
    0 < ((s.fn (fnKey f)).vec v.val).events →
    ∃ t, exec (.msixCoalesceTimer f v) s = .next t ∧ t = { s with mov := t.mov, out := t.out } ∧ ((t.fn (fnKey f)).vec v.val).events = 0 ∧
      (if ((s.fn (fnKey f)).vec v.val).masked || (s.fn (fnKey f)).funcMask || s.fnHolds (fnKey f)
        then ((t.fn (fnKey f)).vec v.val).pba = true ∧ t.out = s.out
        else ((t.fn (fnKey f)).vec v.val).pba = ((s.fn (fnKey f)).vec v.val).pba ∧
          t.out = .msix ((s.fnUsp (fnKey f)).getD 0) (s.fnRid (fnKey f)) ((s.fn (fnKey f)).vec v.val).addr ((s.fn (fnKey f)).vec v.val).data :: s.out)) ∧
  (∀ (f : Fn) (v : Fin 16) (s : State), SMap.wf s.mov.fns → v.val < (s.fn (fnKey f)).vecs.length → s.fnLive (fnKey f) = true →
    (s.fn (fnKey f)).funcMask = false → s.fnHolds (fnKey f) = false →
    ∃ t, exec (.msixUnmask f (some v)) s = .next t ∧ t = { s with mov := t.mov, out := t.out } ∧
      (t.fn (fnKey f)).vec v.val = { (s.fn (fnKey f)).vec v.val with masked := false, pba := false } ∧
      t.out = (if ((s.fn (fnKey f)).vec v.val).pba
        then [.msix ((s.fnUsp (fnKey f)).getD 0) (s.fnRid (fnKey f)) ((s.fn (fnKey f)).vec v.val).addr ((s.fn (fnKey f)).vec v.val).data] else []) ++ s.out) ∧
  (∀ (f : Fn) (s : State), SMap.wf s.mov.fns → s.fnLive (fnKey f) = true → (s.fn (fnKey f)).vecs.any Vec.pba = false →
    exec (.msixUnmask f none) s = .next (s.setFn (fnKey f) { s.fn (fnKey f) with funcMask := false }))

/-- Function resets, VF Enable, engine failure and SRAM errors (R187, R217, R218, R219, R220, R221, R222, R227, R228, R229). -/
def Obligations.MoverResets : Prop :=
  (∀ (g : Fin 1024) (s : State), SMap.wf s.mov.fns → s.fnLive g.val = true → (s.fn g.val).flr = false →
    ∃ t, exec (.initiateFlr (.vf g)) s = .next t ∧ t = { s with mov := t.mov } ∧ (t.fn g.val).flr = true ∧
      (t.fn g.val).gen = ((s.fn g.val).gen + 1) % 256 ∧ (t.fn g.val).errReset = false ∧ (∀ q ∈ (t.fn g.val).sqs, q.fetched = []) ∧
      (∀ c ∈ t.mov.ctxs, c.fn = g.val → c.squashed = true) ∧ (∀ j < 0x8000, j ≠ g.val → t.fn j = s.fn j) ∧
      t.mov.vfEnable = s.mov.vfEnable) ∧
  (∀ (u : Port) (s : State), SMap.wf s.mov.fns → s.isUsp u.val = true → (s.fn (0x8000 + u.val)).flr = false →
    ∃ t, exec (.initiateFlr (.hostPf u)) s = .next t ∧ t = { s with mov := t.mov, hlm := t.hlm } ∧ (t.fn (0x8000 + u.val)).flr = true ∧
      (∀ g ∈ SMap.get s.mov.allot u.val [], (t.fn g).flr = true) ∧ u.val ∉ t.mov.vfEnable ∧ t.mov.allot = s.mov.allot) ∧
  (∀ (g : Fin 1024) (s : State), SMap.wf s.mov.fns → (s.fn g.val).flr = true → s.tbl.waits = [] → s.prt.ioSlots = [] →
    ∃ t, exec (.flrDrainEnd (.vf g)) s = .next t ∧ t = { s with mov := t.mov, flt := t.flt } ∧
      t.fn g.val = { FnSt.dflt 4 with
        gen := (s.fn g.val).gen, errReset := (s.fn g.val).errReset, bytesMoved := (s.fn g.val).bytesMoved, descDone := (s.fn g.val).descDone } ∧
      t.mov.ctxs = s.mov.ctxs.filter (fun c => c.fn != g.val) ∧ t.mov.admin = s.mov.admin ∧ (∀ j, j ≠ g.val → t.fn j = s.fn j) ∧
      (if ((s.mov.ctxs.filter (fun c => c.fn == g.val)).map (fun c => c.accs.length)).sum = 0 then t.flt = s.flt
        else ∃ e ∈ t.flt.waiting, e.src = 0x0B22 ∧ e.cls = 2)) ∧
  (∀ (u : Port) (n : BitVec 16) (en : Bool) (s : State), s.isUsp u.val = true → u.val ∉ s.mov.vfEnable → SMap.wf s.mov.numVfs →
    ∃ t, exec (.vfEnableWrite u n en) s = .next t ∧ t = { s with mov := { s.mov with numVfs := t.mov.numVfs, vfEnable := t.mov.vfEnable } } ∧
      SMap.get t.mov.numVfs u.val 0 = n.toNat ∧
      (u.val ∈ t.mov.vfEnable ↔ en = true ∧ 0 < n.toNat ∧ n.toNat ≤ (SMap.get s.mov.allot u.val []).length)) ∧
  (∀ (u : Port) (n : BitVec 16) (s : State), SMap.wf s.mov.fns → s.isUsp u.val = true → u.val ∈ s.mov.vfEnable →
    exec (.vfEnableWrite u n true) s = .next s ∧
    ∃ t, exec (.vfEnableWrite u n false) s = .next t ∧ u.val ∉ t.mov.vfEnable ∧ (t.fn (0x8000 + u.val)).flr = true ∧
      ∀ g ∈ SMap.get s.mov.allot u.val [], (t.fn g).flr = true) ∧
  (∀ (e : Fin 32) (s : State), SMap.wf s.regs → s.engineOk e.val = true → s.bound e.val = 0 →
    ∃ t, exec (.engineFailure e) s = .next t ∧ t = { s with regs := t.regs, flt := t.flt } ∧ t.engineOk e.val = false ∧
      (∀ j < 32, j ≠ e.val → t.engineOk j = s.engineOk j) ∧ t.flag Reg.MOV_STATUS_DEGRADED = true ∧
      (∃ x ∈ t.flt.waiting, x.src = 0x0B00 + e.val ∧ x.cls = 1)) ∧
  (∀ (e : Fin 32) (c : Ctx) (s : State), SMap.wf s.regs → s.engineOk e.val = true → s.mov.ctxs = [c] → c.engine = e.val → c.squashed = false →
    dOp c.desc ≠ 3 → c.fn ≠ mgmtKey → (∃ j < 32, j ≠ e.val ∧ s.engineOk j = true) → s.descCheck c.fn c.desc = 0 →
    ∃ t d, exec (.engineFailure e) s = .next t ∧ t = { s with regs := t.regs, flt := t.flt, mov := t.mov } ∧ t.mov.ctxs = [d] ∧ d.id = s.mov.nextCtx ∧
      d.engine ≠ e.val ∧ t.engineOk d.engine = true ∧ d.desc = c.desc ∧ d.fn = c.fn ∧ d.gen = c.gen ∧ d.next = 0 ∧ d.accs = [] ∧ d.chunks = []) ∧
  (∀ s : State, exec (.moverSramError .correctable) s = .next s) ∧
  (∀ (g : Fin 1024) (s : State), SMap.wf s.mov.fns →
    ∃ t, exec (.moverSramError (.function (.vf g))) s = .next t ∧ t = { s with mov := t.mov, flt := t.flt } ∧ (t.fn g.val).errReset = true ∧
      (t.fn g.val).flr = true ∧ (t.fn g.val).gen = ((s.fn g.val).gen + 1) % 256 ∧ (∀ c ∈ t.mov.ctxs, c.fn = g.val → c.squashed = true) ∧
      (∃ e ∈ t.flt.waiting, e.src = 0x0B30 ∧ e.cls = 2)) ∧
  (∀ s : State, ∃ t, exec (.moverSramError .shared) s = .next t ∧ t = { s with flt := t.flt } ∧
    (∃ e ∈ t.flt.waiting, e.src = 0x0B31 ∧ e.cls = 3))

/-- VF migration and the Mover's commands (R185, R186, R188, R224, R225, R226, R232). -/
def Obligations.MigrationAndMoverCommands : Prop :=
  (∀ (u : Port) (vf : Fin 1024) (k : Nat) (s : State), SMap.wf s.mov.fns → s.isUsp u.val = true → (s.fn (0x8000 + u.val)).migBusy = false →
    s.migVf? u.val vf.val = some k → k < 1024 → s.fnUsp k = some u.val → (s.fn k).freezing = false → (s.fn k).frozen = false → (s.fn k).flr = false →
    ∃ t, exec (.migrationFreeze u vf) s = .next t ∧ t = { s with mov := t.mov } ∧ t.mov.ctxs = s.mov.ctxs ∧
      (if s.fnCtxs k = [] ∧ (s.fn k).sqs.all (fun q => q.fetched.isEmpty) = true
        then t.fn k = { s.fn k with frozen := true } ∧ (t.fn (0x8000 + u.val)).migBusy = false ∧ (t.fn (0x8000 + u.val)).migResult = 0
        else t.fn k = { s.fn k with freezing := true } ∧ (t.fn (0x8000 + u.val)).migBusy = true)) ∧
  (∀ (f : Fin 1024) (u : Nat) (s : State), SMap.wf s.mov.fns → s.fnUsp f.val = some u → (s.fn f.val).freezing = true →
    (s.fn (0x8000 + u)).migBusy = true → (s.fn (0x8000 + u)).migOp = 0 → s.vfGlobal u (s.fn (0x8000 + u)).migVf = some f.val →
    exec (.freezeTimeout f) s = .next (s.setFn (0x8000 + u) { s.fn (0x8000 + u) with migBusy := false, migResult := 2 })) ∧
  (∀ (u : Port) (vf : Fin 1024) (key : Fin 8) (k : Nat) (ok : Bool) (s : State), SMap.wf s.mov.fns → s.isUsp u.val = true →
    (s.fn (0x8000 + u.val)).migBusy = false → s.migVf? u.val vf.val = some k → k < 1024 → (s.fn k).frozen = false → (s.fn k).freezing = false →
    ∃ t t', exec (.migrationSave u vf key ok) s = .next t ∧ exec (.migrationResume u vf) s = .next t' ∧
      (t.fn (0x8000 + u.val)).migResult = 1 ∧ (t'.fn (0x8000 + u.val)).migResult = 1 ∧ t.out = s.out ∧ t'.out = s.out ∧
      (∀ j, j ≠ 0x8000 + u.val → t.fn j = s.fn j ∧ t'.fn j = s.fn j)) ∧
  (∀ (u : Port) (vf : Fin 1024) (key : Fin 8) (k : Nat) (x : Bytes) (s : State), SMap.wf s.mov.fns → s.isUsp u.val = true →
    (s.fn (0x8000 + u.val)).migBusy = false → s.migVf? u.val vf.val = some k → k < 1024 → (s.fn k).frozen = true → (s.fn k).flr = false →
    s.hlm.migKeys.find? (fun y => y.1 == u.val && y.2.1 == key.val) = some (u.val, key.val, x) →
    ∃ t t' b, exec (.migrationSave u vf key true) s = .next t ∧ exec (.migrationSave u vf key false) s = .next t' ∧
      t = { s with mov := t.mov, out := t.out } ∧ b.length = 464 ∧ fieldAt b 0 4 = 0x564D5A43 ∧ fieldAt b 20 1 = key.val ∧
      t.out = .hostWrite u.val (s.pfRid u.val) (s.fn (0x8000 + u.val)).migAddr (b ++ digestBytes (Config.hmac384 x b)) :: s.out ∧
      (t.fn (0x8000 + u.val)).migResult = 0 ∧ (t.fn (0x8000 + u.val)).migBusy = false ∧ t.fn k = s.fn k ∧
      t'.out = s.out ∧ (t'.fn (0x8000 + u.val)).migResult = 6) ∧
  (∀ (u : Port) (vf : Fin 1024) (key : Fin 8) (k : Nat) (s : State), SMap.wf s.mov.fns → s.isUsp u.val = true →
    (s.fn (0x8000 + u.val)).migBusy = false → s.migVf? u.val vf.val = some k → (s.fn k).frozen = true → (s.fn k).flr = false → k < 1024 →
    s.hlm.migKeys.all (fun y => y.1 != u.val || y.2.1 != key.val) = true →
    ∃ t, exec (.migrationSave u vf key true) s = .next t ∧ t.out = s.out ∧ (t.fn (0x8000 + u.val)).migResult = 3 ∧ t.fn k = s.fn k) ∧
  (∀ (u : Port) (vf : Fin 1024) (key k : Nat) (x body mac : Bytes) (s : State), SMap.wf s.mov.fns → s.isUsp u.val = true →
    (s.fn (0x8000 + u.val)).migBusy = false → s.migVf? u.val vf.val = some k → k < 1024 → (s.fn k).sqs.any Sq.en = false → (s.fn k).cqEn = false →
    (s.fn k).flr = false → body.length = 464 → mac.length = 48 → fieldAt body 0 4 = 0x564D5A43 → fieldAt body 4 2 = 1 →
    fieldAt body 8 8 = Config.deviceSerial.toNat → fieldAt body 16 4 = s.get Reg.HLM_BOOT_COUNTER → fieldAt body 20 1 = key →
    s.hlm.migKeys.find? (fun y => y.1 == u.val && y.2.1 == key) = some (u.val, key, x) →
    ∃ t, exec (.migrationRestore u vf (body ++ mac) true) s = .next t ∧ t = { s with mov := t.mov, out := t.out, flt := t.flt } ∧
      (t.fn (0x8000 + u.val)).migBusy = false ∧
      (if mac = digestBytes (Config.hmac384 x body)
        then (t.fn (0x8000 + u.val)).migResult = 0 ∧ t.flt = s.flt ∧ (t.fn k).frozen = true ∧ (t.fn k).gen = ((s.fn k).gen + 1) % 256 ∧
          (∀ r < 4, ((t.fn k).sq r).base = fieldAt body (32 + 32 * r) 8 ∧ ((t.fn k).sq r).fetched = [])
        else (t.fn (0x8000 + u.val)).migResult = 4 ∧ t.fn k = s.fn k ∧ ∃ e ∈ t.flt.waiting, e.src = 0x0B23 ∧ e.cls = 2)) ∧
  (∀ (u : Port) (vf : Fin 1024) (k : Nat) (s : State), SMap.wf s.mov.fns → s.isUsp u.val = true → (s.fn (0x8000 + u.val)).migBusy = false →
    s.migVf? u.val vf.val = some k → k < 1024 → (s.fn k).frozen = true → (s.fn k).flr = false → (s.fn k).vecs.any Vec.pba = false →
    ∃ t, exec (.migrationResume u vf) s = .next t ∧ t = { s with mov := t.mov } ∧
      t.fn k = { s.fn k with frozen := false, freezing := false } ∧ (t.fn (0x8000 + u.val)).migResult = 0 ∧
      (t.fn (0x8000 + u.val)).migBusy = false) ∧
  Reads .movInfo 0xC600 .observe 0 always (fun _ _ s b => b.length = 136 ∧ fieldAt b 0 4 = 2 ^ 32 - 1 - s.get Reg.MOV_ENGINE_FAILED ∧
    fieldAt b 6 2 = s.freeVfs.length ∧ (∀ u < 64, fieldAt b (8 + 2 * u) 2 = (SMap.get s.mov.allot u []).length % 65536)) ∧
  Does .movAllotSet 0xC601 .admin 4 (fun _ p s => s.isUsp (p8 p 0) = true ∧ p16 p 2 ≤ 1024 ∧ p8 p 0 ∉ s.mov.vfEnable ∧ s.mov.allot = [])
    (fun _ p s => ({ s with mov := { s.mov with allot := SMap.store [] (p8 p 0) (List.range (p16 p 2)) [] } }).journal
      (.allot (p8 p 0) (List.range (p16 p 2)))) ∧
  (∀ (h : Hdr) (p : Bytes) (s : State), Operating s → Privileged .admin h s → p.length = 4 → s.isUsp (p8 p 0) = true → p16 p 2 ≤ 1024 →
    p8 p 0 ∈ s.mov.vfEnable →
    exec (.movAllotSet h p) s = .next (answered 0xC601 stConflict h s [] (request 0xC601 .admin h p s))) ∧
  Does .movHostWeightSet 0xC602 .operate 2 (fun _ p s => s.isUsp (p8 p 0) = true ∧ 1 ≤ p8 p 1)
    (fun _ p s => (s.set Reg.MOV_HOST_WEIGHT_WEIGHT (p8 p 0) (p8 p 1)).journal
      (.field (Reg.MOV_HOST_WEIGHT_WEIGHT.key (p8 p 0)) (p8 p 1))) ∧
  Reads .movFnRead 0xC603 .observe 2 (fun _ p s => s.fnOperand (p16 p 0) = true) (fun _ p s b => b.length = 400 ∧
    fieldAt b 384 8 = (s.fn (p16 p 0)).bytesMoved % 2 ^ 64 ∧ fieldAt b 392 8 = (s.fn (p16 p 0)).descDone % 2 ^ 64) ∧
  (∀ (h : Hdr) (p : Bytes) (s : State), SMap.wf s.mov.fns → Operating s → Privileged .operate h s → p.length = 2 → p16 p 0 < 1024 →
    s.fnLive (p16 p 0) = true → (s.fn (p16 p 0)).flr = false →
    ∃ t, exec (.movFnReset h p) s = .next t ∧ (t.fn (p16 p 0)).flr = true ∧ (t.fn (p16 p 0)).gen = ((s.fn (p16 p 0)).gen + 1) % 256 ∧
      (t.tbl.waits.map Waiting.what) = s.tbl.waits.map Waiting.what ++ [.fnReset (p16 p 0)] ∧ t.out = s.out) ∧
  Reads .movStats 0xC620 .observe 4 (fun _ p _ => p16 p 0 < 1024 ∧ 1 ≤ p16 p 2 ∧ p16 p 2 ≤ 240 ∧ p16 p 0 + p16 p 2 ≤ 1024)
    (fun _ p s b => b.length = 256 + 16 * p16 p 2 ∧ ∀ i < p16 p 2,
      fieldAt b (256 + 16 * i) 8 = (s.fn (p16 p 0 + i)).bytesMoved % 2 ^ 64 ∧ fieldAt b (264 + 16 * i) 8 = (s.fn (p16 p 0 + i)).descDone % 2 ^ 64)
end

