-- ==== Sys2Proof/Laws/Maps.lean ====
section
/-! SUPPORT. Laws of sparse arrays: reads after writes, and that every operation keeps the canonical form. -/

namespace Sys2Proof.Machine

variable {α : Type}

@[simp] theorem SMap.find_nil (k : Nat) : SMap.find ([] : SMap α) k = none := rfl

@[simp] theorem SMap.get_nil (k : Nat) (d : α) : SMap.get ([] : SMap α) k d = d := rfl

/-- A read after a write: the new value at the key written, the old value at every other key. -/
theorem SMap.find_put (m : SMap α) (k : Nat) (v : α) (j : Nat) :
    SMap.find (SMap.put m k v) j = if k = j then some v else SMap.find m j := by
  induction m with
  | nil => simp [SMap.put, SMap.find]
  | cons a m ih =>
    obtain ⟨i, w⟩ := a
    by_cases h1 : k < i
    · simp [SMap.put, SMap.find, h1]
    · by_cases h2 : k = i
      · subst h2
        by_cases h : k = j <;> simp [SMap.put, SMap.find, h]
      · by_cases h : i = j
        · subst h
          simp [SMap.put, SMap.find, h1, h2]
        · simp [SMap.put, SMap.find, h1, h2, h, ih]

/-- Removing a key leaves every other key. -/
theorem SMap.find_del_ne (m : SMap α) {k j : Nat} (h : k ≠ j) : SMap.find (SMap.del m k) j = SMap.find m j := by
  induction m with
  | nil => rfl
  | cons a m ih =>
    obtain ⟨i, w⟩ := a
    by_cases h1 : i = k
    · subst h1
      simp [SMap.del, SMap.find, h]
    · by_cases h2 : i = j
      · subst h2
        simp [SMap.del, SMap.find, h1]
      · simp [SMap.del, SMap.find, h1, h2, ih]

/-- The canonical form of a non-empty list. -/
theorem SMap.wf_cons (a : Nat × α) (m : SMap α) : SMap.wf (a :: m) ↔ (∀ b ∈ m, a.1 < b.1) ∧ SMap.wf m := by
  simp [SMap.wf]

@[simp] theorem SMap.wf_nil : SMap.wf ([] : SMap α) := by simp [SMap.wf]

/-- A key below every listed key is not listed. -/
theorem SMap.find_below (m : SMap α) {k : Nat} (h : ∀ b ∈ m, k < b.1) : SMap.find m k = none := by
  induction m with
  | nil => rfl
  | cons a m ih =>
    obtain ⟨i, w⟩ := a
    have h1 : k < i := h (i, w) (by simp)
    have h2 : SMap.find m k = none := ih (fun b hb => h b (by simp [hb]))
    simp [SMap.find, Nat.ne_of_gt h1, h2]

/-- A removed key is no longer listed. -/
theorem SMap.find_del_self (m : SMap α) (k : Nat) (h : SMap.wf m) : SMap.find (SMap.del m k) k = none := by
  induction m with
  | nil => rfl
  | cons a m ih =>
    obtain ⟨i, w⟩ := a
    have hc := (SMap.wf_cons _ _).1 h
    by_cases h1 : i = k
    · subst h1
      simpa [SMap.del] using SMap.find_below m hc.1
    · simp [SMap.del, SMap.find, h1, ih hc.2]

/-- Every key of a list after a write is the key written or was there before. -/
theorem SMap.mem_put {m : SMap α} {k : Nat} {v : α} {b : Nat × α} (h : b ∈ SMap.put m k v) : b.1 = k ∨ b ∈ m := by
  induction m with
  | nil => simp [SMap.put] at h; simp [h]
  | cons a m ih =>
    obtain ⟨i, w⟩ := a
    by_cases h1 : k < i
    · simp [SMap.put, h1] at h
      rcases h with h | h | h <;> simp [h]
    · by_cases h2 : k = i
      · simp [SMap.put, h2] at h
        rcases h with h | h <;> simp [h, h2]
      · simp [SMap.put, h1, h2] at h
        rcases h with h | h
        · simp [h]
        · rcases ih h with h | h <;> simp [h]

/-- Writing keeps the canonical form. -/
theorem SMap.wf_put (m : SMap α) (k : Nat) (v : α) (h : SMap.wf m) : SMap.wf (SMap.put m k v) := by
  induction m with
  | nil => simp [SMap.put, SMap.wf]
  | cons a m ih =>
    obtain ⟨i, w⟩ := a
    have hc := (SMap.wf_cons _ _).1 h
    by_cases h1 : k < i
    · simp only [SMap.put, h1, if_true]
      refine (SMap.wf_cons _ _).2 ⟨?_, h⟩
      intro b hb
      rcases List.mem_cons.1 hb with rfl | hb
      · exact h1
      · exact Nat.lt_trans h1 (hc.1 b hb)
    · by_cases h2 : k = i
      · subst h2
        simp only [SMap.put, h1, if_false, if_true]
        exact (SMap.wf_cons _ _).2 ⟨hc.1, hc.2⟩
      · simp only [SMap.put, h1, h2, if_false]
        refine (SMap.wf_cons _ _).2 ⟨?_, ih hc.2⟩
        intro b hb
        rcases SMap.mem_put hb with hb | hb
        · simp only [hb]; omega
        · exact hc.1 b hb

/-- What stays after a removal was there before. -/
theorem SMap.mem_del {m : SMap α} {k : Nat} {b : Nat × α} (h : b ∈ SMap.del m k) : b ∈ m := by
  induction m with
  | nil => simp [SMap.del] at h
  | cons a m ih =>
    obtain ⟨i, w⟩ := a
    by_cases h1 : i = k
    · simp [SMap.del, h1] at h; simp [h]
    · simp [SMap.del, h1] at h
      rcases h with h | h
      · simp [h]
      · simp [ih h]

/-- Removing keeps the canonical form. -/
theorem SMap.wf_del (m : SMap α) (k : Nat) (h : SMap.wf m) : SMap.wf (SMap.del m k) := by
  induction m with
  | nil => simp [SMap.del]
  | cons a m ih =>
    obtain ⟨i, w⟩ := a
    have hc := (SMap.wf_cons _ _).1 h
    by_cases h1 : i = k
    · simpa [SMap.del, h1] using hc.2
    · simp only [SMap.del, h1, if_false]
      exact (SMap.wf_cons _ _).2 ⟨fun b hb => hc.1 b (SMap.mem_del hb), ih hc.2⟩

section Store

variable [DecidableEq α]

/-- Storing keeps the canonical form. -/
theorem SMap.wf_store (m : SMap α) (k : Nat) (v d : α) (h : SMap.wf m) : SMap.wf (SMap.store m k v d) := by
  unfold SMap.store
  split
  · exact SMap.wf_del m k h
  · exact SMap.wf_put m k v h

/-- Changing one value keeps the canonical form. -/
theorem SMap.wf_modify (m : SMap α) (k : Nat) (d : α) (f : α → α) (h : SMap.wf m) : SMap.wf (SMap.modify m k d f) :=
  SMap.wf_store m k _ d h

/-- A stored value is read back. -/
theorem SMap.get_store_self (m : SMap α) (k : Nat) (v d : α) (h : SMap.wf m) : SMap.get (SMap.store m k v d) k d = v := by
  unfold SMap.get SMap.store
  split
  · rename_i hv
    simp [SMap.find_del_self m k h, hv]
  · simp [SMap.find_put]

/-- Storing leaves every other key. -/
theorem SMap.get_store_ne (m : SMap α) {k j : Nat} (v d e : α) (h : k ≠ j) :
    SMap.get (SMap.store m k v d) j e = SMap.get m j e := by
  unfold SMap.get SMap.store
  split
  · rw [SMap.find_del_ne m h]
  · simp [SMap.find_put, h]

/-- A changed value is read back. -/
theorem SMap.get_modify_self (m : SMap α) (k : Nat) (d : α) (f : α → α) (h : SMap.wf m) :
    SMap.get (SMap.modify m k d f) k d = f (SMap.get m k d) :=
  SMap.get_store_self m k _ d h

/-- Changing one value leaves every other key. -/
theorem SMap.get_modify_ne (m : SMap α) {k j : Nat} (d e : α) (f : α → α) (h : k ≠ j) :
    SMap.get (SMap.modify m k d f) j e = SMap.get m j e :=
  SMap.get_store_ne m _ d e h

end Store

/-- Changing every value keeps the canonical form. -/
theorem SMap.wf_modAll (m : SMap α) (f : α → α) (h : SMap.wf m) : SMap.wf (SMap.modAll f m) := by
  unfold SMap.wf at *
  simpa [SMap.modAll, List.map_map, Function.comp_def] using h

/-- Keeping a part of a list keeps the canonical form. -/
theorem SMap.wf_filter (m : SMap α) (p : Nat × α → Bool) (h : SMap.wf m) : SMap.wf (m.filter p) := by
  unfold SMap.wf at *
  exact List.Pairwise.sublist (List.filter_sublist.map _) h

/-- Writing bytes keeps the canonical form. -/
theorem SMap.wf_write (m : SMap Byte) (dflt : Nat → Byte) (a : Nat) (b : Bytes) (h : SMap.wf m) :
    SMap.wf (SMap.write m dflt a b) := by
  induction b generalizing m a with
  | nil => exact h
  | cons x b ih => exact ih _ _ (SMap.wf_store m a x _ h)

/-- A byte outside the bytes written reads as before. -/
theorem SMap.get_write_ne (m : SMap Byte) (dflt : Nat → Byte) (a : Nat) (b : Bytes) (j : Nat) (d : Byte)
    (h : j < a ∨ a + b.length ≤ j) : SMap.get (SMap.write m dflt a b) j d = SMap.get m j d := by
  induction b generalizing m a with
  | nil => rfl
  | cons x b ih =>
    simp only [List.length_cons] at h
    have h1 : a ≠ j := by omega
    have h2 : j < a + 1 ∨ a + 1 + b.length ≤ j := by omega
    exact (ih _ _ h2).trans (SMap.get_store_ne m x _ d h1)

end Sys2Proof.Machine
end

