-- ==== Sys2Proof/Laws/State.lean ====
section
/-! SUPPORT. One lemma per field per shared update of the state, each true by definition. -/

namespace Sys2Proof.Machine

variable (s : State)

/-! ## `State.set` -/

@[simp] theorem State.set_pending (f : Field) (i v : Nat) : (s.set f i v).pending = s.pending := rfl
@[simp] theorem State.set_out (f : Field) (i v : Nat) : (s.set f i v).out = s.out := rfl
@[simp] theorem State.set_tick (f : Field) (i v : Nat) : (s.set f i v).tick = s.tick := rfl
@[simp] theorem State.set_fresh (f : Field) (i v : Nat) : (s.set f i v).fresh = s.fresh := rfl
@[simp] theorem State.set_pfe (f : Field) (i v : Nat) : (s.set f i v).pfe = s.pfe := rfl
@[simp] theorem State.set_spc (f : Field) (i v : Nat) : (s.set f i v).spc = s.spc := rfl
@[simp] theorem State.set_clk (f : Field) (i v : Nat) : (s.set f i v).clk = s.clk := rfl
@[simp] theorem State.set_jnl (f : Field) (i v : Nat) : (s.set f i v).jnl = s.jnl := rfl
@[simp] theorem State.set_cmd (f : Field) (i v : Nat) : (s.set f i v).cmd = s.cmd := rfl
@[simp] theorem State.set_hlm (f : Field) (i v : Nat) : (s.set f i v).hlm = s.hlm := rfl
@[simp] theorem State.set_flt (f : Field) (i v : Nat) : (s.set f i v).flt = s.flt := rfl
@[simp] theorem State.set_tim (f : Field) (i v : Nat) : (s.set f i v).tim = s.tim := rfl
@[simp] theorem State.set_trec (f : Field) (i v : Nat) : (s.set f i v).trec = s.trec := rfl
@[simp] theorem State.set_jtag (f : Field) (i v : Nat) : (s.set f i v).jtag = s.jtag := rfl
@[simp] theorem State.set_tbl (f : Field) (i v : Nat) : (s.set f i v).tbl = s.tbl := rfl
@[simp] theorem State.set_pol (f : Field) (i v : Nat) : (s.set f i v).pol = s.pol := rfl
@[simp] theorem State.set_dir (f : Field) (i v : Nat) : (s.set f i v).dir = s.dir := rfl
@[simp] theorem State.set_prt (f : Field) (i v : Nat) : (s.set f i v).prt = s.prt := rfl
@[simp] theorem State.set_mov (f : Field) (i v : Nat) : (s.set f i v).mov = s.mov := rfl
@[simp] theorem State.set_xbr (f : Field) (i v : Nat) : (s.set f i v).xbr = s.xbr := rfl
@[simp] theorem State.set_sch (f : Field) (i v : Nat) : (s.set f i v).sch = s.sch := rfl
@[simp] theorem State.set_lnc (f : Field) (i v : Nat) : (s.set f i v).lnc = s.lnc := rfl
@[simp] theorem State.set_sem (f : Field) (i v : Nat) : (s.set f i v).sem = s.sem := rfl
@[simp] theorem State.set_vlt (f : Field) (i v : Nat) : (s.set f i v).vlt = s.vlt := rfl

/-! ## `State.setFlag` -/

@[simp] theorem State.setFlag_pending (f : Field) (i : Nat) (b : Bool) : (s.setFlag f i b).pending = s.pending := rfl
@[simp] theorem State.setFlag_out (f : Field) (i : Nat) (b : Bool) : (s.setFlag f i b).out = s.out := rfl
@[simp] theorem State.setFlag_tick (f : Field) (i : Nat) (b : Bool) : (s.setFlag f i b).tick = s.tick := rfl
@[simp] theorem State.setFlag_fresh (f : Field) (i : Nat) (b : Bool) : (s.setFlag f i b).fresh = s.fresh := rfl
@[simp] theorem State.setFlag_pfe (f : Field) (i : Nat) (b : Bool) : (s.setFlag f i b).pfe = s.pfe := rfl
@[simp] theorem State.setFlag_spc (f : Field) (i : Nat) (b : Bool) : (s.setFlag f i b).spc = s.spc := rfl
@[simp] theorem State.setFlag_clk (f : Field) (i : Nat) (b : Bool) : (s.setFlag f i b).clk = s.clk := rfl
@[simp] theorem State.setFlag_jnl (f : Field) (i : Nat) (b : Bool) : (s.setFlag f i b).jnl = s.jnl := rfl
@[simp] theorem State.setFlag_cmd (f : Field) (i : Nat) (b : Bool) : (s.setFlag f i b).cmd = s.cmd := rfl
@[simp] theorem State.setFlag_hlm (f : Field) (i : Nat) (b : Bool) : (s.setFlag f i b).hlm = s.hlm := rfl
@[simp] theorem State.setFlag_flt (f : Field) (i : Nat) (b : Bool) : (s.setFlag f i b).flt = s.flt := rfl
@[simp] theorem State.setFlag_tim (f : Field) (i : Nat) (b : Bool) : (s.setFlag f i b).tim = s.tim := rfl
@[simp] theorem State.setFlag_trec (f : Field) (i : Nat) (b : Bool) : (s.setFlag f i b).trec = s.trec := rfl
@[simp] theorem State.setFlag_jtag (f : Field) (i : Nat) (b : Bool) : (s.setFlag f i b).jtag = s.jtag := rfl
@[simp] theorem State.setFlag_tbl (f : Field) (i : Nat) (b : Bool) : (s.setFlag f i b).tbl = s.tbl := rfl
@[simp] theorem State.setFlag_pol (f : Field) (i : Nat) (b : Bool) : (s.setFlag f i b).pol = s.pol := rfl
@[simp] theorem State.setFlag_dir (f : Field) (i : Nat) (b : Bool) : (s.setFlag f i b).dir = s.dir := rfl
@[simp] theorem State.setFlag_prt (f : Field) (i : Nat) (b : Bool) : (s.setFlag f i b).prt = s.prt := rfl
@[simp] theorem State.setFlag_mov (f : Field) (i : Nat) (b : Bool) : (s.setFlag f i b).mov = s.mov := rfl
@[simp] theorem State.setFlag_xbr (f : Field) (i : Nat) (b : Bool) : (s.setFlag f i b).xbr = s.xbr := rfl
@[simp] theorem State.setFlag_sch (f : Field) (i : Nat) (b : Bool) : (s.setFlag f i b).sch = s.sch := rfl
@[simp] theorem State.setFlag_lnc (f : Field) (i : Nat) (b : Bool) : (s.setFlag f i b).lnc = s.lnc := rfl
@[simp] theorem State.setFlag_sem (f : Field) (i : Nat) (b : Bool) : (s.setFlag f i b).sem = s.sem := rfl
@[simp] theorem State.setFlag_vlt (f : Field) (i : Nat) (b : Bool) : (s.setFlag f i b).vlt = s.vlt := rfl

/-! ## `State.bump` -/

@[simp] theorem State.bump_pending (f : Field) (i n : Nat) : (s.bump f i n).pending = s.pending := rfl
@[simp] theorem State.bump_out (f : Field) (i n : Nat) : (s.bump f i n).out = s.out := rfl
@[simp] theorem State.bump_tick (f : Field) (i n : Nat) : (s.bump f i n).tick = s.tick := rfl
@[simp] theorem State.bump_fresh (f : Field) (i n : Nat) : (s.bump f i n).fresh = s.fresh := rfl
@[simp] theorem State.bump_pfe (f : Field) (i n : Nat) : (s.bump f i n).pfe = s.pfe := rfl
@[simp] theorem State.bump_spc (f : Field) (i n : Nat) : (s.bump f i n).spc = s.spc := rfl
@[simp] theorem State.bump_clk (f : Field) (i n : Nat) : (s.bump f i n).clk = s.clk := rfl
@[simp] theorem State.bump_jnl (f : Field) (i n : Nat) : (s.bump f i n).jnl = s.jnl := rfl
@[simp] theorem State.bump_cmd (f : Field) (i n : Nat) : (s.bump f i n).cmd = s.cmd := rfl
@[simp] theorem State.bump_hlm (f : Field) (i n : Nat) : (s.bump f i n).hlm = s.hlm := rfl
@[simp] theorem State.bump_flt (f : Field) (i n : Nat) : (s.bump f i n).flt = s.flt := rfl
@[simp] theorem State.bump_tim (f : Field) (i n : Nat) : (s.bump f i n).tim = s.tim := rfl
@[simp] theorem State.bump_trec (f : Field) (i n : Nat) : (s.bump f i n).trec = s.trec := rfl
@[simp] theorem State.bump_jtag (f : Field) (i n : Nat) : (s.bump f i n).jtag = s.jtag := rfl
@[simp] theorem State.bump_tbl (f : Field) (i n : Nat) : (s.bump f i n).tbl = s.tbl := rfl
@[simp] theorem State.bump_pol (f : Field) (i n : Nat) : (s.bump f i n).pol = s.pol := rfl
@[simp] theorem State.bump_dir (f : Field) (i n : Nat) : (s.bump f i n).dir = s.dir := rfl
@[simp] theorem State.bump_prt (f : Field) (i n : Nat) : (s.bump f i n).prt = s.prt := rfl
@[simp] theorem State.bump_mov (f : Field) (i n : Nat) : (s.bump f i n).mov = s.mov := rfl
@[simp] theorem State.bump_xbr (f : Field) (i n : Nat) : (s.bump f i n).xbr = s.xbr := rfl
@[simp] theorem State.bump_sch (f : Field) (i n : Nat) : (s.bump f i n).sch = s.sch := rfl
@[simp] theorem State.bump_lnc (f : Field) (i n : Nat) : (s.bump f i n).lnc = s.lnc := rfl
@[simp] theorem State.bump_sem (f : Field) (i n : Nat) : (s.bump f i n).sem = s.sem := rfl
@[simp] theorem State.bump_vlt (f : Field) (i n : Nat) : (s.bump f i n).vlt = s.vlt := rfl

/-! ## `State.emit` -/

@[simp] theorem State.emit_pending (m : OutMsg) : (s.emit m).pending = s.pending := rfl
@[simp] theorem State.emit_out (m : OutMsg) : (s.emit m).out = m :: s.out := rfl
@[simp] theorem State.emit_regs (m : OutMsg) : (s.emit m).regs = s.regs := rfl
@[simp] theorem State.emit_tick (m : OutMsg) : (s.emit m).tick = s.tick := rfl
@[simp] theorem State.emit_fresh (m : OutMsg) : (s.emit m).fresh = s.fresh := rfl
@[simp] theorem State.emit_pfe (m : OutMsg) : (s.emit m).pfe = s.pfe := rfl
@[simp] theorem State.emit_spc (m : OutMsg) : (s.emit m).spc = s.spc := rfl
@[simp] theorem State.emit_clk (m : OutMsg) : (s.emit m).clk = s.clk := rfl
@[simp] theorem State.emit_jnl (m : OutMsg) : (s.emit m).jnl = s.jnl := rfl
@[simp] theorem State.emit_cmd (m : OutMsg) : (s.emit m).cmd = s.cmd := rfl
@[simp] theorem State.emit_hlm (m : OutMsg) : (s.emit m).hlm = s.hlm := rfl
@[simp] theorem State.emit_flt (m : OutMsg) : (s.emit m).flt = s.flt := rfl
@[simp] theorem State.emit_tim (m : OutMsg) : (s.emit m).tim = s.tim := rfl
@[simp] theorem State.emit_trec (m : OutMsg) : (s.emit m).trec = s.trec := rfl
@[simp] theorem State.emit_jtag (m : OutMsg) : (s.emit m).jtag = s.jtag := rfl
@[simp] theorem State.emit_tbl (m : OutMsg) : (s.emit m).tbl = s.tbl := rfl
@[simp] theorem State.emit_pol (m : OutMsg) : (s.emit m).pol = s.pol := rfl
@[simp] theorem State.emit_dir (m : OutMsg) : (s.emit m).dir = s.dir := rfl
@[simp] theorem State.emit_prt (m : OutMsg) : (s.emit m).prt = s.prt := rfl
@[simp] theorem State.emit_mov (m : OutMsg) : (s.emit m).mov = s.mov := rfl
@[simp] theorem State.emit_xbr (m : OutMsg) : (s.emit m).xbr = s.xbr := rfl
@[simp] theorem State.emit_sch (m : OutMsg) : (s.emit m).sch = s.sch := rfl
@[simp] theorem State.emit_lnc (m : OutMsg) : (s.emit m).lnc = s.lnc := rfl
@[simp] theorem State.emit_sem (m : OutMsg) : (s.emit m).sem = s.sem := rfl
@[simp] theorem State.emit_vlt (m : OutMsg) : (s.emit m).vlt = s.vlt := rfl

/-! ## `State.emits` -/

@[simp] theorem State.emits_pending (ms : List OutMsg) : (s.emits ms).pending = s.pending := rfl
@[simp] theorem State.emits_out (ms : List OutMsg) : (s.emits ms).out = ms.reverse ++ s.out := rfl
@[simp] theorem State.emits_regs (ms : List OutMsg) : (s.emits ms).regs = s.regs := rfl
@[simp] theorem State.emits_tick (ms : List OutMsg) : (s.emits ms).tick = s.tick := rfl
@[simp] theorem State.emits_fresh (ms : List OutMsg) : (s.emits ms).fresh = s.fresh := rfl
@[simp] theorem State.emits_pfe (ms : List OutMsg) : (s.emits ms).pfe = s.pfe := rfl
@[simp] theorem State.emits_spc (ms : List OutMsg) : (s.emits ms).spc = s.spc := rfl
@[simp] theorem State.emits_clk (ms : List OutMsg) : (s.emits ms).clk = s.clk := rfl
@[simp] theorem State.emits_jnl (ms : List OutMsg) : (s.emits ms).jnl = s.jnl := rfl
@[simp] theorem State.emits_cmd (ms : List OutMsg) : (s.emits ms).cmd = s.cmd := rfl
@[simp] theorem State.emits_hlm (ms : List OutMsg) : (s.emits ms).hlm = s.hlm := rfl
@[simp] theorem State.emits_flt (ms : List OutMsg) : (s.emits ms).flt = s.flt := rfl
@[simp] theorem State.emits_tim (ms : List OutMsg) : (s.emits ms).tim = s.tim := rfl
@[simp] theorem State.emits_trec (ms : List OutMsg) : (s.emits ms).trec = s.trec := rfl
@[simp] theorem State.emits_jtag (ms : List OutMsg) : (s.emits ms).jtag = s.jtag := rfl
@[simp] theorem State.emits_tbl (ms : List OutMsg) : (s.emits ms).tbl = s.tbl := rfl
@[simp] theorem State.emits_pol (ms : List OutMsg) : (s.emits ms).pol = s.pol := rfl
@[simp] theorem State.emits_dir (ms : List OutMsg) : (s.emits ms).dir = s.dir := rfl
@[simp] theorem State.emits_prt (ms : List OutMsg) : (s.emits ms).prt = s.prt := rfl
@[simp] theorem State.emits_mov (ms : List OutMsg) : (s.emits ms).mov = s.mov := rfl
@[simp] theorem State.emits_xbr (ms : List OutMsg) : (s.emits ms).xbr = s.xbr := rfl
@[simp] theorem State.emits_sch (ms : List OutMsg) : (s.emits ms).sch = s.sch := rfl
@[simp] theorem State.emits_lnc (ms : List OutMsg) : (s.emits ms).lnc = s.lnc := rfl
@[simp] theorem State.emits_sem (ms : List OutMsg) : (s.emits ms).sem = s.sem := rfl
@[simp] theorem State.emits_vlt (ms : List OutMsg) : (s.emits ms).vlt = s.vlt := rfl

/-! ## `State.drawn` -/

@[simp] theorem State.drawn_pending : (s.drawn).pending = s.pending := rfl
@[simp] theorem State.drawn_out : (s.drawn).out = s.out := rfl
@[simp] theorem State.drawn_regs : (s.drawn).regs = s.regs := rfl
@[simp] theorem State.drawn_tick : (s.drawn).tick = s.tick := rfl
@[simp] theorem State.drawn_fresh : (s.drawn).fresh = s.fresh + 1 := rfl
@[simp] theorem State.drawn_pfe : (s.drawn).pfe = s.pfe := rfl
@[simp] theorem State.drawn_spc : (s.drawn).spc = s.spc := rfl
@[simp] theorem State.drawn_clk : (s.drawn).clk = s.clk := rfl
@[simp] theorem State.drawn_jnl : (s.drawn).jnl = s.jnl := rfl
@[simp] theorem State.drawn_cmd : (s.drawn).cmd = s.cmd := rfl
@[simp] theorem State.drawn_hlm : (s.drawn).hlm = s.hlm := rfl
@[simp] theorem State.drawn_flt : (s.drawn).flt = s.flt := rfl
@[simp] theorem State.drawn_tim : (s.drawn).tim = s.tim := rfl
@[simp] theorem State.drawn_trec : (s.drawn).trec = s.trec := rfl
@[simp] theorem State.drawn_jtag : (s.drawn).jtag = s.jtag := rfl
@[simp] theorem State.drawn_tbl : (s.drawn).tbl = s.tbl := rfl
@[simp] theorem State.drawn_pol : (s.drawn).pol = s.pol := rfl
@[simp] theorem State.drawn_dir : (s.drawn).dir = s.dir := rfl
@[simp] theorem State.drawn_prt : (s.drawn).prt = s.prt := rfl
@[simp] theorem State.drawn_mov : (s.drawn).mov = s.mov := rfl
@[simp] theorem State.drawn_xbr : (s.drawn).xbr = s.xbr := rfl
@[simp] theorem State.drawn_sch : (s.drawn).sch = s.sch := rfl
@[simp] theorem State.drawn_lnc : (s.drawn).lnc = s.lnc := rfl
@[simp] theorem State.drawn_sem : (s.drawn).sem = s.sem := rfl
@[simp] theorem State.drawn_vlt : (s.drawn).vlt = s.vlt := rfl

/-! ## `State.modPort` -/

@[simp] theorem State.modPort_pending (p : Nat) (f : PortSt → PortSt) : (s.modPort p f).pending = s.pending := rfl
@[simp] theorem State.modPort_out (p : Nat) (f : PortSt → PortSt) : (s.modPort p f).out = s.out := rfl
@[simp] theorem State.modPort_regs (p : Nat) (f : PortSt → PortSt) : (s.modPort p f).regs = s.regs := rfl
@[simp] theorem State.modPort_tick (p : Nat) (f : PortSt → PortSt) : (s.modPort p f).tick = s.tick := rfl
@[simp] theorem State.modPort_fresh (p : Nat) (f : PortSt → PortSt) : (s.modPort p f).fresh = s.fresh := rfl
@[simp] theorem State.modPort_pfe (p : Nat) (f : PortSt → PortSt) : (s.modPort p f).pfe = s.pfe := rfl
@[simp] theorem State.modPort_spc (p : Nat) (f : PortSt → PortSt) : (s.modPort p f).spc = s.spc := rfl
@[simp] theorem State.modPort_clk (p : Nat) (f : PortSt → PortSt) : (s.modPort p f).clk = s.clk := rfl
@[simp] theorem State.modPort_jnl (p : Nat) (f : PortSt → PortSt) : (s.modPort p f).jnl = s.jnl := rfl
@[simp] theorem State.modPort_cmd (p : Nat) (f : PortSt → PortSt) : (s.modPort p f).cmd = s.cmd := rfl
@[simp] theorem State.modPort_hlm (p : Nat) (f : PortSt → PortSt) : (s.modPort p f).hlm = s.hlm := rfl
@[simp] theorem State.modPort_flt (p : Nat) (f : PortSt → PortSt) : (s.modPort p f).flt = s.flt := rfl
@[simp] theorem State.modPort_tim (p : Nat) (f : PortSt → PortSt) : (s.modPort p f).tim = s.tim := rfl
@[simp] theorem State.modPort_trec (p : Nat) (f : PortSt → PortSt) : (s.modPort p f).trec = s.trec := rfl
@[simp] theorem State.modPort_jtag (p : Nat) (f : PortSt → PortSt) : (s.modPort p f).jtag = s.jtag := rfl
@[simp] theorem State.modPort_tbl (p : Nat) (f : PortSt → PortSt) : (s.modPort p f).tbl = s.tbl := rfl
@[simp] theorem State.modPort_pol (p : Nat) (f : PortSt → PortSt) : (s.modPort p f).pol = s.pol := rfl
@[simp] theorem State.modPort_dir (p : Nat) (f : PortSt → PortSt) : (s.modPort p f).dir = s.dir := rfl
@[simp] theorem State.modPort_mov (p : Nat) (f : PortSt → PortSt) : (s.modPort p f).mov = s.mov := rfl
@[simp] theorem State.modPort_xbr (p : Nat) (f : PortSt → PortSt) : (s.modPort p f).xbr = s.xbr := rfl
@[simp] theorem State.modPort_sch (p : Nat) (f : PortSt → PortSt) : (s.modPort p f).sch = s.sch := rfl
@[simp] theorem State.modPort_lnc (p : Nat) (f : PortSt → PortSt) : (s.modPort p f).lnc = s.lnc := rfl
@[simp] theorem State.modPort_sem (p : Nat) (f : PortSt → PortSt) : (s.modPort p f).sem = s.sem := rfl
@[simp] theorem State.modPort_vlt (p : Nat) (f : PortSt → PortSt) : (s.modPort p f).vlt = s.vlt := rfl

/-! ## `State.raise` -/

@[simp] theorem State.raise_pending (e : FltEvent) : (s.raise e).pending = s.pending := rfl
@[simp] theorem State.raise_out (e : FltEvent) : (s.raise e).out = s.out := rfl
@[simp] theorem State.raise_regs (e : FltEvent) : (s.raise e).regs = s.regs := rfl
@[simp] theorem State.raise_tick (e : FltEvent) : (s.raise e).tick = s.tick := rfl
@[simp] theorem State.raise_fresh (e : FltEvent) : (s.raise e).fresh = s.fresh := rfl
@[simp] theorem State.raise_pfe (e : FltEvent) : (s.raise e).pfe = s.pfe := rfl
@[simp] theorem State.raise_spc (e : FltEvent) : (s.raise e).spc = s.spc := rfl
@[simp] theorem State.raise_clk (e : FltEvent) : (s.raise e).clk = s.clk := rfl
@[simp] theorem State.raise_jnl (e : FltEvent) : (s.raise e).jnl = s.jnl := rfl
@[simp] theorem State.raise_cmd (e : FltEvent) : (s.raise e).cmd = s.cmd := rfl
@[simp] theorem State.raise_hlm (e : FltEvent) : (s.raise e).hlm = s.hlm := rfl
@[simp] theorem State.raise_tim (e : FltEvent) : (s.raise e).tim = s.tim := rfl
@[simp] theorem State.raise_trec (e : FltEvent) : (s.raise e).trec = s.trec := rfl
@[simp] theorem State.raise_jtag (e : FltEvent) : (s.raise e).jtag = s.jtag := rfl
@[simp] theorem State.raise_tbl (e : FltEvent) : (s.raise e).tbl = s.tbl := rfl
@[simp] theorem State.raise_pol (e : FltEvent) : (s.raise e).pol = s.pol := rfl
@[simp] theorem State.raise_dir (e : FltEvent) : (s.raise e).dir = s.dir := rfl
@[simp] theorem State.raise_prt (e : FltEvent) : (s.raise e).prt = s.prt := rfl
@[simp] theorem State.raise_mov (e : FltEvent) : (s.raise e).mov = s.mov := rfl
@[simp] theorem State.raise_xbr (e : FltEvent) : (s.raise e).xbr = s.xbr := rfl
@[simp] theorem State.raise_sch (e : FltEvent) : (s.raise e).sch = s.sch := rfl
@[simp] theorem State.raise_lnc (e : FltEvent) : (s.raise e).lnc = s.lnc := rfl
@[simp] theorem State.raise_sem (e : FltEvent) : (s.raise e).sem = s.sem := rfl
@[simp] theorem State.raise_vlt (e : FltEvent) : (s.raise e).vlt = s.vlt := rfl

/-! ## `State.report` -/

@[simp] theorem State.report_pending (src cls evt : Nat) (ctx syn : Bytes) : (s.report src cls evt ctx syn).pending = s.pending := rfl
@[simp] theorem State.report_out (src cls evt : Nat) (ctx syn : Bytes) : (s.report src cls evt ctx syn).out = s.out := rfl
@[simp] theorem State.report_regs (src cls evt : Nat) (ctx syn : Bytes) : (s.report src cls evt ctx syn).regs = s.regs := rfl
@[simp] theorem State.report_tick (src cls evt : Nat) (ctx syn : Bytes) : (s.report src cls evt ctx syn).tick = s.tick := rfl
@[simp] theorem State.report_fresh (src cls evt : Nat) (ctx syn : Bytes) : (s.report src cls evt ctx syn).fresh = s.fresh := rfl
@[simp] theorem State.report_pfe (src cls evt : Nat) (ctx syn : Bytes) : (s.report src cls evt ctx syn).pfe = s.pfe := rfl
@[simp] theorem State.report_spc (src cls evt : Nat) (ctx syn : Bytes) : (s.report src cls evt ctx syn).spc = s.spc := rfl
@[simp] theorem State.report_clk (src cls evt : Nat) (ctx syn : Bytes) : (s.report src cls evt ctx syn).clk = s.clk := rfl
@[simp] theorem State.report_jnl (src cls evt : Nat) (ctx syn : Bytes) : (s.report src cls evt ctx syn).jnl = s.jnl := rfl
@[simp] theorem State.report_cmd (src cls evt : Nat) (ctx syn : Bytes) : (s.report src cls evt ctx syn).cmd = s.cmd := rfl
@[simp] theorem State.report_hlm (src cls evt : Nat) (ctx syn : Bytes) : (s.report src cls evt ctx syn).hlm = s.hlm := rfl
@[simp] theorem State.report_tim (src cls evt : Nat) (ctx syn : Bytes) : (s.report src cls evt ctx syn).tim = s.tim := rfl
@[simp] theorem State.report_trec (src cls evt : Nat) (ctx syn : Bytes) : (s.report src cls evt ctx syn).trec = s.trec := rfl
@[simp] theorem State.report_jtag (src cls evt : Nat) (ctx syn : Bytes) : (s.report src cls evt ctx syn).jtag = s.jtag := rfl
@[simp] theorem State.report_tbl (src cls evt : Nat) (ctx syn : Bytes) : (s.report src cls evt ctx syn).tbl = s.tbl := rfl
@[simp] theorem State.report_pol (src cls evt : Nat) (ctx syn : Bytes) : (s.report src cls evt ctx syn).pol = s.pol := rfl
@[simp] theorem State.report_dir (src cls evt : Nat) (ctx syn : Bytes) : (s.report src cls evt ctx syn).dir = s.dir := rfl
@[simp] theorem State.report_prt (src cls evt : Nat) (ctx syn : Bytes) : (s.report src cls evt ctx syn).prt = s.prt := rfl
@[simp] theorem State.report_mov (src cls evt : Nat) (ctx syn : Bytes) : (s.report src cls evt ctx syn).mov = s.mov := rfl
@[simp] theorem State.report_xbr (src cls evt : Nat) (ctx syn : Bytes) : (s.report src cls evt ctx syn).xbr = s.xbr := rfl
@[simp] theorem State.report_sch (src cls evt : Nat) (ctx syn : Bytes) : (s.report src cls evt ctx syn).sch = s.sch := rfl
@[simp] theorem State.report_lnc (src cls evt : Nat) (ctx syn : Bytes) : (s.report src cls evt ctx syn).lnc = s.lnc := rfl
@[simp] theorem State.report_sem (src cls evt : Nat) (ctx syn : Bytes) : (s.report src cls evt ctx syn).sem = s.sem := rfl
@[simp] theorem State.report_vlt (src cls evt : Nat) (ctx syn : Bytes) : (s.report src cls evt ctx syn).vlt = s.vlt := rfl

/-! ## `State.journal` -/

@[simp] theorem State.journal_pending (r : JRec) : (s.journal r).pending = s.pending := rfl
@[simp] theorem State.journal_out (r : JRec) : (s.journal r).out = s.out := rfl
@[simp] theorem State.journal_regs (r : JRec) : (s.journal r).regs = s.regs := rfl
@[simp] theorem State.journal_tick (r : JRec) : (s.journal r).tick = s.tick := rfl
@[simp] theorem State.journal_fresh (r : JRec) : (s.journal r).fresh = s.fresh := rfl
@[simp] theorem State.journal_pfe (r : JRec) : (s.journal r).pfe = s.pfe := rfl
@[simp] theorem State.journal_spc (r : JRec) : (s.journal r).spc = s.spc := rfl
@[simp] theorem State.journal_clk (r : JRec) : (s.journal r).clk = s.clk := rfl
@[simp] theorem State.journal_cmd (r : JRec) : (s.journal r).cmd = s.cmd := rfl
@[simp] theorem State.journal_hlm (r : JRec) : (s.journal r).hlm = s.hlm := rfl
@[simp] theorem State.journal_flt (r : JRec) : (s.journal r).flt = s.flt := rfl
@[simp] theorem State.journal_tim (r : JRec) : (s.journal r).tim = s.tim := rfl
@[simp] theorem State.journal_trec (r : JRec) : (s.journal r).trec = s.trec := rfl
@[simp] theorem State.journal_jtag (r : JRec) : (s.journal r).jtag = s.jtag := rfl
@[simp] theorem State.journal_tbl (r : JRec) : (s.journal r).tbl = s.tbl := rfl
@[simp] theorem State.journal_pol (r : JRec) : (s.journal r).pol = s.pol := rfl
@[simp] theorem State.journal_dir (r : JRec) : (s.journal r).dir = s.dir := rfl
@[simp] theorem State.journal_prt (r : JRec) : (s.journal r).prt = s.prt := rfl
@[simp] theorem State.journal_mov (r : JRec) : (s.journal r).mov = s.mov := rfl
@[simp] theorem State.journal_xbr (r : JRec) : (s.journal r).xbr = s.xbr := rfl
@[simp] theorem State.journal_sch (r : JRec) : (s.journal r).sch = s.sch := rfl
@[simp] theorem State.journal_lnc (r : JRec) : (s.journal r).lnc = s.lnc := rfl
@[simp] theorem State.journal_sem (r : JRec) : (s.journal r).sem = s.sem := rfl
@[simp] theorem State.journal_vlt (r : JRec) : (s.journal r).vlt = s.vlt := rfl

/-! ## `State.ledge` -/

@[simp] theorem State.ledge_pending (kind flags : Nat) (cause area : Bytes) : (s.ledge kind flags cause area).pending = s.pending := rfl
@[simp] theorem State.ledge_out (kind flags : Nat) (cause area : Bytes) : (s.ledge kind flags cause area).out = s.out := rfl
@[simp] theorem State.ledge_regs (kind flags : Nat) (cause area : Bytes) : (s.ledge kind flags cause area).regs = s.regs := rfl
@[simp] theorem State.ledge_tick (kind flags : Nat) (cause area : Bytes) : (s.ledge kind flags cause area).tick = s.tick := rfl
@[simp] theorem State.ledge_fresh (kind flags : Nat) (cause area : Bytes) : (s.ledge kind flags cause area).fresh = s.fresh := rfl
@[simp] theorem State.ledge_pfe (kind flags : Nat) (cause area : Bytes) : (s.ledge kind flags cause area).pfe = s.pfe := rfl
@[simp] theorem State.ledge_spc (kind flags : Nat) (cause area : Bytes) : (s.ledge kind flags cause area).spc = s.spc := rfl
@[simp] theorem State.ledge_clk (kind flags : Nat) (cause area : Bytes) : (s.ledge kind flags cause area).clk = s.clk := rfl
@[simp] theorem State.ledge_jnl (kind flags : Nat) (cause area : Bytes) : (s.ledge kind flags cause area).jnl = s.jnl := rfl
@[simp] theorem State.ledge_cmd (kind flags : Nat) (cause area : Bytes) : (s.ledge kind flags cause area).cmd = s.cmd := rfl
@[simp] theorem State.ledge_flt (kind flags : Nat) (cause area : Bytes) : (s.ledge kind flags cause area).flt = s.flt := rfl
@[simp] theorem State.ledge_tim (kind flags : Nat) (cause area : Bytes) : (s.ledge kind flags cause area).tim = s.tim := rfl
@[simp] theorem State.ledge_trec (kind flags : Nat) (cause area : Bytes) : (s.ledge kind flags cause area).trec = s.trec := rfl
@[simp] theorem State.ledge_jtag (kind flags : Nat) (cause area : Bytes) : (s.ledge kind flags cause area).jtag = s.jtag := rfl
@[simp] theorem State.ledge_tbl (kind flags : Nat) (cause area : Bytes) : (s.ledge kind flags cause area).tbl = s.tbl := rfl
@[simp] theorem State.ledge_pol (kind flags : Nat) (cause area : Bytes) : (s.ledge kind flags cause area).pol = s.pol := rfl
@[simp] theorem State.ledge_dir (kind flags : Nat) (cause area : Bytes) : (s.ledge kind flags cause area).dir = s.dir := rfl
@[simp] theorem State.ledge_prt (kind flags : Nat) (cause area : Bytes) : (s.ledge kind flags cause area).prt = s.prt := rfl
@[simp] theorem State.ledge_mov (kind flags : Nat) (cause area : Bytes) : (s.ledge kind flags cause area).mov = s.mov := rfl
@[simp] theorem State.ledge_xbr (kind flags : Nat) (cause area : Bytes) : (s.ledge kind flags cause area).xbr = s.xbr := rfl
@[simp] theorem State.ledge_sch (kind flags : Nat) (cause area : Bytes) : (s.ledge kind flags cause area).sch = s.sch := rfl
@[simp] theorem State.ledge_lnc (kind flags : Nat) (cause area : Bytes) : (s.ledge kind flags cause area).lnc = s.lnc := rfl
@[simp] theorem State.ledge_sem (kind flags : Nat) (cause area : Bytes) : (s.ledge kind flags cause area).sem = s.sem := rfl
@[simp] theorem State.ledge_vlt (kind flags : Nat) (cause area : Bytes) : (s.ledge kind flags cause area).vlt = s.vlt := rfl

/-! ## `State.askStart` -/

@[simp] theorem State.askStart_pending (kind trigger source : Nat) : (s.askStart kind trigger source).pending = s.pending := rfl
@[simp] theorem State.askStart_out (kind trigger source : Nat) : (s.askStart kind trigger source).out = s.out := rfl
@[simp] theorem State.askStart_regs (kind trigger source : Nat) : (s.askStart kind trigger source).regs = s.regs := rfl
@[simp] theorem State.askStart_tick (kind trigger source : Nat) : (s.askStart kind trigger source).tick = s.tick := rfl
@[simp] theorem State.askStart_fresh (kind trigger source : Nat) : (s.askStart kind trigger source).fresh = s.fresh := rfl
@[simp] theorem State.askStart_pfe (kind trigger source : Nat) : (s.askStart kind trigger source).pfe = s.pfe := rfl
@[simp] theorem State.askStart_spc (kind trigger source : Nat) : (s.askStart kind trigger source).spc = s.spc := rfl
@[simp] theorem State.askStart_jnl (kind trigger source : Nat) : (s.askStart kind trigger source).jnl = s.jnl := rfl
@[simp] theorem State.askStart_cmd (kind trigger source : Nat) : (s.askStart kind trigger source).cmd = s.cmd := rfl
@[simp] theorem State.askStart_hlm (kind trigger source : Nat) : (s.askStart kind trigger source).hlm = s.hlm := rfl
@[simp] theorem State.askStart_flt (kind trigger source : Nat) : (s.askStart kind trigger source).flt = s.flt := rfl
@[simp] theorem State.askStart_tim (kind trigger source : Nat) : (s.askStart kind trigger source).tim = s.tim := rfl
@[simp] theorem State.askStart_trec (kind trigger source : Nat) : (s.askStart kind trigger source).trec = s.trec := rfl
@[simp] theorem State.askStart_jtag (kind trigger source : Nat) : (s.askStart kind trigger source).jtag = s.jtag := rfl
@[simp] theorem State.askStart_tbl (kind trigger source : Nat) : (s.askStart kind trigger source).tbl = s.tbl := rfl
@[simp] theorem State.askStart_pol (kind trigger source : Nat) : (s.askStart kind trigger source).pol = s.pol := rfl
@[simp] theorem State.askStart_dir (kind trigger source : Nat) : (s.askStart kind trigger source).dir = s.dir := rfl
@[simp] theorem State.askStart_prt (kind trigger source : Nat) : (s.askStart kind trigger source).prt = s.prt := rfl
@[simp] theorem State.askStart_mov (kind trigger source : Nat) : (s.askStart kind trigger source).mov = s.mov := rfl
@[simp] theorem State.askStart_xbr (kind trigger source : Nat) : (s.askStart kind trigger source).xbr = s.xbr := rfl
@[simp] theorem State.askStart_sch (kind trigger source : Nat) : (s.askStart kind trigger source).sch = s.sch := rfl
@[simp] theorem State.askStart_lnc (kind trigger source : Nat) : (s.askStart kind trigger source).lnc = s.lnc := rfl
@[simp] theorem State.askStart_sem (kind trigger source : Nat) : (s.askStart kind trigger source).sem = s.sem := rfl
@[simp] theorem State.askStart_vlt (kind trigger source : Nat) : (s.askStart kind trigger source).vlt = s.vlt := rfl

/-! ## `State.moduleCommit` -/

@[simp] theorem State.moduleCommit_pending (origin : Nat) (w : List (Nat × Nat × Bytes)) (x : List (Nat × Nat)) (a : After) : (s.moduleCommit origin w x a).pending = s.pending := rfl
@[simp] theorem State.moduleCommit_out (origin : Nat) (w : List (Nat × Nat × Bytes)) (x : List (Nat × Nat)) (a : After) : (s.moduleCommit origin w x a).out = s.out := rfl
@[simp] theorem State.moduleCommit_regs (origin : Nat) (w : List (Nat × Nat × Bytes)) (x : List (Nat × Nat)) (a : After) : (s.moduleCommit origin w x a).regs = s.regs := rfl
@[simp] theorem State.moduleCommit_tick (origin : Nat) (w : List (Nat × Nat × Bytes)) (x : List (Nat × Nat)) (a : After) : (s.moduleCommit origin w x a).tick = s.tick := rfl
@[simp] theorem State.moduleCommit_fresh (origin : Nat) (w : List (Nat × Nat × Bytes)) (x : List (Nat × Nat)) (a : After) : (s.moduleCommit origin w x a).fresh = s.fresh := rfl
@[simp] theorem State.moduleCommit_pfe (origin : Nat) (w : List (Nat × Nat × Bytes)) (x : List (Nat × Nat)) (a : After) : (s.moduleCommit origin w x a).pfe = s.pfe := rfl
@[simp] theorem State.moduleCommit_spc (origin : Nat) (w : List (Nat × Nat × Bytes)) (x : List (Nat × Nat)) (a : After) : (s.moduleCommit origin w x a).spc = s.spc := rfl
@[simp] theorem State.moduleCommit_clk (origin : Nat) (w : List (Nat × Nat × Bytes)) (x : List (Nat × Nat)) (a : After) : (s.moduleCommit origin w x a).clk = s.clk := rfl
@[simp] theorem State.moduleCommit_jnl (origin : Nat) (w : List (Nat × Nat × Bytes)) (x : List (Nat × Nat)) (a : After) : (s.moduleCommit origin w x a).jnl = s.jnl := rfl
@[simp] theorem State.moduleCommit_cmd (origin : Nat) (w : List (Nat × Nat × Bytes)) (x : List (Nat × Nat)) (a : After) : (s.moduleCommit origin w x a).cmd = s.cmd := rfl
@[simp] theorem State.moduleCommit_hlm (origin : Nat) (w : List (Nat × Nat × Bytes)) (x : List (Nat × Nat)) (a : After) : (s.moduleCommit origin w x a).hlm = s.hlm := rfl
@[simp] theorem State.moduleCommit_flt (origin : Nat) (w : List (Nat × Nat × Bytes)) (x : List (Nat × Nat)) (a : After) : (s.moduleCommit origin w x a).flt = s.flt := rfl
@[simp] theorem State.moduleCommit_tim (origin : Nat) (w : List (Nat × Nat × Bytes)) (x : List (Nat × Nat)) (a : After) : (s.moduleCommit origin w x a).tim = s.tim := rfl
@[simp] theorem State.moduleCommit_trec (origin : Nat) (w : List (Nat × Nat × Bytes)) (x : List (Nat × Nat)) (a : After) : (s.moduleCommit origin w x a).trec = s.trec := rfl
@[simp] theorem State.moduleCommit_jtag (origin : Nat) (w : List (Nat × Nat × Bytes)) (x : List (Nat × Nat)) (a : After) : (s.moduleCommit origin w x a).jtag = s.jtag := rfl
@[simp] theorem State.moduleCommit_pol (origin : Nat) (w : List (Nat × Nat × Bytes)) (x : List (Nat × Nat)) (a : After) : (s.moduleCommit origin w x a).pol = s.pol := rfl
@[simp] theorem State.moduleCommit_dir (origin : Nat) (w : List (Nat × Nat × Bytes)) (x : List (Nat × Nat)) (a : After) : (s.moduleCommit origin w x a).dir = s.dir := rfl
@[simp] theorem State.moduleCommit_prt (origin : Nat) (w : List (Nat × Nat × Bytes)) (x : List (Nat × Nat)) (a : After) : (s.moduleCommit origin w x a).prt = s.prt := rfl
@[simp] theorem State.moduleCommit_mov (origin : Nat) (w : List (Nat × Nat × Bytes)) (x : List (Nat × Nat)) (a : After) : (s.moduleCommit origin w x a).mov = s.mov := rfl
@[simp] theorem State.moduleCommit_xbr (origin : Nat) (w : List (Nat × Nat × Bytes)) (x : List (Nat × Nat)) (a : After) : (s.moduleCommit origin w x a).xbr = s.xbr := rfl
@[simp] theorem State.moduleCommit_sch (origin : Nat) (w : List (Nat × Nat × Bytes)) (x : List (Nat × Nat)) (a : After) : (s.moduleCommit origin w x a).sch = s.sch := rfl
@[simp] theorem State.moduleCommit_lnc (origin : Nat) (w : List (Nat × Nat × Bytes)) (x : List (Nat × Nat)) (a : After) : (s.moduleCommit origin w x a).lnc = s.lnc := rfl
@[simp] theorem State.moduleCommit_sem (origin : Nat) (w : List (Nat × Nat × Bytes)) (x : List (Nat × Nat)) (a : After) : (s.moduleCommit origin w x a).sem = s.sem := rfl
@[simp] theorem State.moduleCommit_vlt (origin : Nat) (w : List (Nat × Nat × Bytes)) (x : List (Nat × Nat)) (a : After) : (s.moduleCommit origin w x a).vlt = s.vlt := rfl

/-! ## `State.modCmd` -/

@[simp] theorem State.modCmd_pending (f : Cmd → Cmd) : (s.modCmd f).pending = s.pending := rfl
@[simp] theorem State.modCmd_out (f : Cmd → Cmd) : (s.modCmd f).out = s.out := rfl
@[simp] theorem State.modCmd_regs (f : Cmd → Cmd) : (s.modCmd f).regs = s.regs := rfl
@[simp] theorem State.modCmd_tick (f : Cmd → Cmd) : (s.modCmd f).tick = s.tick := rfl
@[simp] theorem State.modCmd_fresh (f : Cmd → Cmd) : (s.modCmd f).fresh = s.fresh := rfl
@[simp] theorem State.modCmd_pfe (f : Cmd → Cmd) : (s.modCmd f).pfe = s.pfe := rfl
@[simp] theorem State.modCmd_spc (f : Cmd → Cmd) : (s.modCmd f).spc = s.spc := rfl
@[simp] theorem State.modCmd_clk (f : Cmd → Cmd) : (s.modCmd f).clk = s.clk := rfl
@[simp] theorem State.modCmd_jnl (f : Cmd → Cmd) : (s.modCmd f).jnl = s.jnl := rfl
@[simp] theorem State.modCmd_cmd (f : Cmd → Cmd) : (s.modCmd f).cmd = f s.cmd := rfl
@[simp] theorem State.modCmd_hlm (f : Cmd → Cmd) : (s.modCmd f).hlm = s.hlm := rfl
@[simp] theorem State.modCmd_flt (f : Cmd → Cmd) : (s.modCmd f).flt = s.flt := rfl
@[simp] theorem State.modCmd_tim (f : Cmd → Cmd) : (s.modCmd f).tim = s.tim := rfl
@[simp] theorem State.modCmd_trec (f : Cmd → Cmd) : (s.modCmd f).trec = s.trec := rfl
@[simp] theorem State.modCmd_jtag (f : Cmd → Cmd) : (s.modCmd f).jtag = s.jtag := rfl
@[simp] theorem State.modCmd_tbl (f : Cmd → Cmd) : (s.modCmd f).tbl = s.tbl := rfl
@[simp] theorem State.modCmd_pol (f : Cmd → Cmd) : (s.modCmd f).pol = s.pol := rfl
@[simp] theorem State.modCmd_dir (f : Cmd → Cmd) : (s.modCmd f).dir = s.dir := rfl
@[simp] theorem State.modCmd_prt (f : Cmd → Cmd) : (s.modCmd f).prt = s.prt := rfl
@[simp] theorem State.modCmd_mov (f : Cmd → Cmd) : (s.modCmd f).mov = s.mov := rfl
@[simp] theorem State.modCmd_xbr (f : Cmd → Cmd) : (s.modCmd f).xbr = s.xbr := rfl
@[simp] theorem State.modCmd_sch (f : Cmd → Cmd) : (s.modCmd f).sch = s.sch := rfl
@[simp] theorem State.modCmd_lnc (f : Cmd → Cmd) : (s.modCmd f).lnc = s.lnc := rfl
@[simp] theorem State.modCmd_sem (f : Cmd → Cmd) : (s.modCmd f).sem = s.sem := rfl
@[simp] theorem State.modCmd_vlt (f : Cmd → Cmd) : (s.modCmd f).vlt = s.vlt := rfl

/-! ## `State.endBg` -/

@[simp] theorem State.endBg_pending (id status : Nat) (reply : Bytes) : (s.endBg id status reply).pending = s.pending := rfl
@[simp] theorem State.endBg_out (id status : Nat) (reply : Bytes) : (s.endBg id status reply).out = s.out := rfl
@[simp] theorem State.endBg_regs (id status : Nat) (reply : Bytes) : (s.endBg id status reply).regs = s.regs := rfl
@[simp] theorem State.endBg_tick (id status : Nat) (reply : Bytes) : (s.endBg id status reply).tick = s.tick := rfl
@[simp] theorem State.endBg_fresh (id status : Nat) (reply : Bytes) : (s.endBg id status reply).fresh = s.fresh := rfl
@[simp] theorem State.endBg_pfe (id status : Nat) (reply : Bytes) : (s.endBg id status reply).pfe = s.pfe := rfl
@[simp] theorem State.endBg_spc (id status : Nat) (reply : Bytes) : (s.endBg id status reply).spc = s.spc := rfl
@[simp] theorem State.endBg_clk (id status : Nat) (reply : Bytes) : (s.endBg id status reply).clk = s.clk := rfl
@[simp] theorem State.endBg_jnl (id status : Nat) (reply : Bytes) : (s.endBg id status reply).jnl = s.jnl := rfl
@[simp] theorem State.endBg_hlm (id status : Nat) (reply : Bytes) : (s.endBg id status reply).hlm = s.hlm := rfl
@[simp] theorem State.endBg_flt (id status : Nat) (reply : Bytes) : (s.endBg id status reply).flt = s.flt := rfl
@[simp] theorem State.endBg_tim (id status : Nat) (reply : Bytes) : (s.endBg id status reply).tim = s.tim := rfl
@[simp] theorem State.endBg_trec (id status : Nat) (reply : Bytes) : (s.endBg id status reply).trec = s.trec := rfl
@[simp] theorem State.endBg_jtag (id status : Nat) (reply : Bytes) : (s.endBg id status reply).jtag = s.jtag := rfl
@[simp] theorem State.endBg_tbl (id status : Nat) (reply : Bytes) : (s.endBg id status reply).tbl = s.tbl := rfl
@[simp] theorem State.endBg_pol (id status : Nat) (reply : Bytes) : (s.endBg id status reply).pol = s.pol := rfl
@[simp] theorem State.endBg_dir (id status : Nat) (reply : Bytes) : (s.endBg id status reply).dir = s.dir := rfl
@[simp] theorem State.endBg_prt (id status : Nat) (reply : Bytes) : (s.endBg id status reply).prt = s.prt := rfl
@[simp] theorem State.endBg_mov (id status : Nat) (reply : Bytes) : (s.endBg id status reply).mov = s.mov := rfl
@[simp] theorem State.endBg_xbr (id status : Nat) (reply : Bytes) : (s.endBg id status reply).xbr = s.xbr := rfl
@[simp] theorem State.endBg_sch (id status : Nat) (reply : Bytes) : (s.endBg id status reply).sch = s.sch := rfl
@[simp] theorem State.endBg_lnc (id status : Nat) (reply : Bytes) : (s.endBg id status reply).lnc = s.lnc := rfl
@[simp] theorem State.endBg_sem (id status : Nat) (reply : Bytes) : (s.endBg id status reply).sem = s.sem := rfl
@[simp] theorem State.endBg_vlt (id status : Nat) (reply : Bytes) : (s.endBg id status reply).vlt = s.vlt := rfl

end Sys2Proof.Machine
end

