-- ==== Sys2Proof/Laws/Record.lean ====
section
/-! SUPPORT. Reads of register fields after writes, and everything that recording an input can do. -/

namespace Sys2Proof.Machine

/-- A field that was written reads as the bits written. -/
theorem State.get_set_self (s : State) (f : Field) (i v : Nat) (h : SMap.wf s.regs) :
    (s.set f i v).get f i = v % 2 ^ f.width :=
  SMap.get_store_self s.regs _ _ _ h

/-- Writing one field leaves every field with another key. -/
theorem State.get_set_ne (s : State) (f g : Field) (i j v : Nat) (h : f.key i ≠ g.key j) : (s.set f i v).get g j = s.get g j :=
  SMap.get_store_ne s.regs _ _ _ h

/-- The register file stays canonical when a field is written. -/
theorem State.wf_set (s : State) (f : Field) (i v : Nat) (h : SMap.wf s.regs) : SMap.wf (s.set f i v).regs :=
  SMap.wf_store s.regs _ _ _ h

/-- Everything recording an input can do: it changes the Transcript, and may count one more missed record. -/
theorem State.record_cases (s : State) (typ flags : Nat) (b : Bytes) :
    ∃ t, s.record typ flags b = { s with trec := t } ∨ s.record typ flags b = { s.bump Reg.REC_MISSED 0 with trec := t } := by
  unfold State.record
  by_cases h : s.mainUp = true
  · simp only [h, Bool.not_true, Bool.false_eq_true, if_false]
    split
    · exact ⟨_, .inr rfl⟩
    · exact ⟨_, .inl rfl⟩
  · exact ⟨s.trec, .inl (by simp [h])⟩

@[simp] theorem State.record_pending (s : State) (typ flags : Nat) (b : Bytes) : (s.record typ flags b).pending = s.pending := by
  rcases s.record_cases typ flags b with ⟨t, h | h⟩ <;> simp [h]

@[simp] theorem State.record_out (s : State) (typ flags : Nat) (b : Bytes) : (s.record typ flags b).out = s.out := by
  rcases s.record_cases typ flags b with ⟨t, h | h⟩ <;> simp [h]

@[simp] theorem State.record_tick (s : State) (typ flags : Nat) (b : Bytes) : (s.record typ flags b).tick = s.tick := by
  rcases s.record_cases typ flags b with ⟨t, h | h⟩ <;> simp [h]

@[simp] theorem State.record_fresh (s : State) (typ flags : Nat) (b : Bytes) : (s.record typ flags b).fresh = s.fresh := by
  rcases s.record_cases typ flags b with ⟨t, h | h⟩ <;> simp [h]

@[simp] theorem State.record_pfe (s : State) (typ flags : Nat) (b : Bytes) : (s.record typ flags b).pfe = s.pfe := by
  rcases s.record_cases typ flags b with ⟨t, h | h⟩ <;> simp [h]

@[simp] theorem State.record_spc (s : State) (typ flags : Nat) (b : Bytes) : (s.record typ flags b).spc = s.spc := by
  rcases s.record_cases typ flags b with ⟨t, h | h⟩ <;> simp [h]

@[simp] theorem State.record_clk (s : State) (typ flags : Nat) (b : Bytes) : (s.record typ flags b).clk = s.clk := by
  rcases s.record_cases typ flags b with ⟨t, h | h⟩ <;> simp [h]

@[simp] theorem State.record_jnl (s : State) (typ flags : Nat) (b : Bytes) : (s.record typ flags b).jnl = s.jnl := by
  rcases s.record_cases typ flags b with ⟨t, h | h⟩ <;> simp [h]

@[simp] theorem State.record_cmd (s : State) (typ flags : Nat) (b : Bytes) : (s.record typ flags b).cmd = s.cmd := by
  rcases s.record_cases typ flags b with ⟨t, h | h⟩ <;> simp [h]

@[simp] theorem State.record_hlm (s : State) (typ flags : Nat) (b : Bytes) : (s.record typ flags b).hlm = s.hlm := by
  rcases s.record_cases typ flags b with ⟨t, h | h⟩ <;> simp [h]

@[simp] theorem State.record_flt (s : State) (typ flags : Nat) (b : Bytes) : (s.record typ flags b).flt = s.flt := by
  rcases s.record_cases typ flags b with ⟨t, h | h⟩ <;> simp [h]

@[simp] theorem State.record_tim (s : State) (typ flags : Nat) (b : Bytes) : (s.record typ flags b).tim = s.tim := by
  rcases s.record_cases typ flags b with ⟨t, h | h⟩ <;> simp [h]

@[simp] theorem State.record_jtag (s : State) (typ flags : Nat) (b : Bytes) : (s.record typ flags b).jtag = s.jtag := by
  rcases s.record_cases typ flags b with ⟨t, h | h⟩ <;> simp [h]

@[simp] theorem State.record_tbl (s : State) (typ flags : Nat) (b : Bytes) : (s.record typ flags b).tbl = s.tbl := by
  rcases s.record_cases typ flags b with ⟨t, h | h⟩ <;> simp [h]

@[simp] theorem State.record_pol (s : State) (typ flags : Nat) (b : Bytes) : (s.record typ flags b).pol = s.pol := by
  rcases s.record_cases typ flags b with ⟨t, h | h⟩ <;> simp [h]

@[simp] theorem State.record_dir (s : State) (typ flags : Nat) (b : Bytes) : (s.record typ flags b).dir = s.dir := by
  rcases s.record_cases typ flags b with ⟨t, h | h⟩ <;> simp [h]

@[simp] theorem State.record_prt (s : State) (typ flags : Nat) (b : Bytes) : (s.record typ flags b).prt = s.prt := by
  rcases s.record_cases typ flags b with ⟨t, h | h⟩ <;> simp [h]

@[simp] theorem State.record_mov (s : State) (typ flags : Nat) (b : Bytes) : (s.record typ flags b).mov = s.mov := by
  rcases s.record_cases typ flags b with ⟨t, h | h⟩ <;> simp [h]

@[simp] theorem State.record_xbr (s : State) (typ flags : Nat) (b : Bytes) : (s.record typ flags b).xbr = s.xbr := by
  rcases s.record_cases typ flags b with ⟨t, h | h⟩ <;> simp [h]

@[simp] theorem State.record_sch (s : State) (typ flags : Nat) (b : Bytes) : (s.record typ flags b).sch = s.sch := by
  rcases s.record_cases typ flags b with ⟨t, h | h⟩ <;> simp [h]

@[simp] theorem State.record_lnc (s : State) (typ flags : Nat) (b : Bytes) : (s.record typ flags b).lnc = s.lnc := by
  rcases s.record_cases typ flags b with ⟨t, h | h⟩ <;> simp [h]

@[simp] theorem State.record_sem (s : State) (typ flags : Nat) (b : Bytes) : (s.record typ flags b).sem = s.sem := by
  rcases s.record_cases typ flags b with ⟨t, h | h⟩ <;> simp [h]

@[simp] theorem State.record_vlt (s : State) (typ flags : Nat) (b : Bytes) : (s.record typ flags b).vlt = s.vlt := by
  rcases s.record_cases typ flags b with ⟨t, h | h⟩ <;> simp [h]

/-- Recording leaves every field but REC_MISSED. -/
theorem State.record_get (s : State) (typ flags : Nat) (b : Bytes) (f : Field) (i : Nat) (h : Reg.REC_MISSED.key 0 ≠ f.key i) :
    (s.record typ flags b).get f i = s.get f i := by
  obtain ⟨t, e | e⟩ := s.record_cases typ flags b <;> rw [e]
  · rfl
  · exact s.get_set_ne _ _ _ _ _ h

/-- Recording leaves every one-bit field but REC_MISSED. -/
theorem State.record_flag (s : State) (typ flags : Nat) (b : Bytes) (f : Field) (i : Nat) (h : Reg.REC_MISSED.key 0 ≠ f.key i) :
    (s.record typ flags b).flag f i = s.flag f i := by
  simp only [State.flag, s.record_get typ flags b f i h]

/-- Recording keeps the register file canonical. -/
theorem State.record_wf (s : State) (typ flags : Nat) (b : Bytes) (h : SMap.wf s.regs) : SMap.wf (s.record typ flags b).regs := by
  obtain ⟨t, e | e⟩ := s.record_cases typ flags b <;> rw [e]
  · exact h
  · exact s.wf_set _ _ _ h

/-- Recording does not change whether the main domain is up. -/
@[simp] theorem State.record_mainUp (s : State) (typ flags : Nat) (b : Bytes) : (s.record typ flags b).mainUp = s.mainUp := by
  simp [State.mainUp]

end Sys2Proof.Machine
end

