-- ==== Sys2Proof/Laws/Cmd.lean ====
section
/-! SUPPORT. Everything a directly executed command can do: how each outcome of its checks and its work is answered. -/

namespace Sys2Proof.Machine

/-- The state that a command's checks see: its COMMAND record has been made. -/
def CmdSpec.recorded (c : CmdSpec) (h : Hdr) (p : Bytes) (s : State) : State :=
  s.recordCommand h (c.priv == .observe) (mkPacket 0 c.opcode h.tag.toNat h.context.toNat 0 p)

/-- The answer to a command whose COMMAND record got the number of `s`. -/
def CmdSpec.answered (c : CmdSpec) (h : Hdr) (s t : State) (status : Nat) (reply : Bytes) : State :=
  t.answer h.req h.session c.opcode h.tag.toNat h.context.toNat s.trec.next status reply

theorem CmdSpec.direct_off (c : CmdSpec) (h : Hdr) (p : Bytes) (s : State) (hoff : s.clk.phase = .off) :
    c.direct h p s = .next s := by
  simp [CmdSpec.direct, hoff]

/-- A command that succeeds: its reply, in the state its work left. -/
theorem CmdSpec.direct_done (c : CmdSpec) {h : Hdr} {p : Bytes} {s t : State} {reply : Bytes} (hon : s.clk.phase ≠ .off)
    (hlen : c.len p = none) (hout : c.outcome h p (c.recorded h p s) = .done reply t) :
    c.direct h p s = .next (c.answered h s t stSuccess reply) := by
  simp only [CmdSpec.recorded] at hout
  simp [CmdSpec.direct, hon, CmdSpec.exec, hlen, hout, CmdSpec.answered]

/-- A command that starts work in the background: STARTED. -/
theorem CmdSpec.direct_started (c : CmdSpec) {h : Hdr} {p : Bytes} {s t : State} {j : Bool} (hon : s.clk.phase ≠ .off)
    (hlen : c.len p = none) (hout : c.outcome h p (c.recorded h p s) = .started t j) :
    c.direct h p s = .next (c.answered h s (t.beginBg c h p s.trec.next j) stStarted []) := by
  simp only [CmdSpec.recorded] at hout
  simp [CmdSpec.direct, hon, CmdSpec.exec, hlen, hout, CmdSpec.answered]

/-- A command whose background work has ended when it answers: STARTED, with the outcome set. -/
theorem CmdSpec.direct_finished (c : CmdSpec) {h : Hdr} {p : Bytes} {s t : State} {st : Nat} {r : Bytes} (hon : s.clk.phase ≠ .off)
    (hlen : c.len p = none) (hout : c.outcome h p (c.recorded h p s) = .finished t st r) :
    c.direct h p s = .next (c.answered h s ((t.beginBg c h p s.trec.next false).endBg t.cmd.nextBg st r) stStarted []) := by
  simp only [CmdSpec.recorded] at hout
  simp [CmdSpec.direct, hon, CmdSpec.exec, hlen, hout, CmdSpec.answered]

/-- A command that fails leaves only its records and its answer. -/
theorem CmdSpec.direct_fail (c : CmdSpec) {h : Hdr} {p : Bytes} {s : State} {st : Nat} (hon : s.clk.phase ≠ .off)
    (hlen : c.len p = none) (hout : c.outcome h p (c.recorded h p s) = .fail st) :
    c.direct h p s = .next (c.answered h s (c.recorded h p s) st []) := by
  simp only [CmdSpec.recorded] at hout
  simp [CmdSpec.direct, hon, CmdSpec.exec, hlen, hout, CmdSpec.answered, CmdSpec.recorded]

/-- A command with a bad field names it. -/
theorem CmdSpec.direct_bad (c : CmdSpec) {h : Hdr} {p : Bytes} {s : State} {off : Nat} (hon : s.clk.phase ≠ .off)
    (hlen : c.len p = none) (hout : c.outcome h p (c.recorded h p s) = .bad off) :
    c.direct h p s = .next (c.answered h s (c.recorded h p s) stBadParam (offsetReply off)) := by
  simp only [CmdSpec.recorded] at hout
  simp [CmdSpec.direct, hon, CmdSpec.exec, hlen, hout, CmdSpec.answered, CmdSpec.recorded]

/-- A command of the wrong length. -/
theorem CmdSpec.direct_badLength (c : CmdSpec) {h : Hdr} {p : Bytes} {s : State} {off : Nat} (hon : s.clk.phase ≠ .off)
    (hlen : c.len p = some off) :
    c.direct h p s = .next (c.answered h s (c.recorded h p s) stBadLength (offsetReply off)) := by
  simp [CmdSpec.direct, hon, CmdSpec.exec, hlen, CmdSpec.answered, CmdSpec.recorded]

/-- A command that passes every check does its work. -/
theorem CmdSpec.outcome_run (c : CmdSpec) {h : Hdr} {p : Bytes} {s : State} (hmay : s.mayIssue c h p = true)
    (hdeny : c.deny h p s = false) (hlock : (c.locks p s && s.flag Reg.HLM_STATUS_LOCKED) = false)
    (hcheck : c.check h p s = none) (hserve : s.serves c h = true) :
    c.outcome h p s = match c.run h p s with
      | .started s' j => if 16 ≤ s.cmd.bg.length then .fail stNoResource else .started s' j
      | .finished s' st r => if 16 ≤ s.cmd.bg.length then .fail stNoResource else .finished s' st r
      | r => r := by
  simp only [CmdSpec.outcome, hmay, hdeny, hlock, hcheck, hserve]
  cases c.run h p s <;> simp

/-- A requester that is no TENANT may issue what its privilege reaches. -/
theorem State.mayIssue_of (s : State) (c : CmdSpec) (h : Hdr) (p : Bytes) (hten : s.privOf h ≠ .tenant)
    (hpriv : privRank (c.privAt h s) ≤ privRank (s.privOf h)) : s.mayIssue c h p = true := by
  unfold State.mayIssue
  split
  · exact absurd ‹_› hten
  · simpa using hpriv

/-- In operation every command is served. -/
theorem State.serves_ready (s : State) (c : CmdSpec) (h : Hdr) (hr : s.clk.phase = .ready)
    (hsafe : s.flag Reg.FLT_STATUS_SAFE_MODULE = false) : s.serves c h = true := by
  simp [State.serves, hr, hsafe]

/-- A session's privilege does not change with a COMMAND record. -/
theorem State.record_privOf (s : State) (typ flags : Nat) (b : Bytes) (h : Hdr) : (s.record typ flags b).privOf h = s.privOf h := by
  have hs : (s.record typ flags b).sessionPriv h = s.sessionPriv h := by
    simp only [State.sessionPriv, State.sessionOf, State.record_hlm]
    rw [State.record_flag _ _ _ _ _ _ (by decide)]
  unfold State.privOf
  split
  · rename_i u _
    rw [State.record_flag _ _ _ _ _ _ (by simp only [Field.key]; simp [Reg.REC_MISSED, Reg.PRT_PORT_CFG_VDM_MGMT]; omega), hs]
  · rfl
  · exact hs

end Sys2Proof.Machine
end

