-- ==== Sys2Proof/WellFormed.lean ====
section
/-! DEFINITION. Well-formed commands: the operand sizes that the manual's formats fix. Unit numbers are well formed by their types. -/

namespace Sys2Proof

/-- Parameter bytes of a command fit a packet (R457: LENGTH at most 4,096). -/
def WellFormed.params (p : Bytes) : Bool := decide (p.length ≤ 4096)

/-- A 64-byte line payload where one is carried. -/
def WellFormed.line (b : Bytes) : Bool := decide (b.length = 64)

/-- A CXL.mem request: a 52-bit line address, and 64 bytes of data with a write. -/
def WellFormed.memReq (m : MemReq) : Bool :=
  decide (m.hpa < 2 ^ 52 ∧ m.hpa % 64 = 0 ∧ (m.op = .memWr ∨ m.op = .memWrPtl → m.data.length = 64))

/-- An AtomicOp: 4 or 8 bytes (16 for CAS), aligned to its size. -/
def WellFormed.atom (a : AtomReq) : Bool :=
  decide ((a.size = 4 ∨ a.size = 8 ∨ (a.size = 16 ∧ a.op = .cas)) ∧ a.hpa % a.size = 0 ∧ a.operand < 2 ^ (8 * a.size)
    ∧ a.compare < 2 ^ (8 * a.size))

/-- The commands whose operands the formats of the manual allow. -/
def Instr.wf : Instr → Bool
  | .fmApiCommand _ _ _ p => WellFormed.params p
  | .commandPacketReceive _ _ pkt => decide (pkt.length ≤ 4096 + 36)
  | .registerWrite _ a _ => decide (a.toNat % 4 = 0)
  | .breakerCurveWrite _ a _ => decide (a.toNat % 4 = 0)
  | .migrationKeyInstall _ _ _ key => decide (key.length = 48)
  | .descriptorFetch _ d => decide (d.length = 64)
  | .cxlMemRequest _ m => WellFormed.memReq m
  | .atomicopReceive _ a => WellFormed.atom a
  | .ownerWritebackReceive _ _ _ _ d => WellFormed.line d
  | .vaultSubpageWrite _ off d _ => decide (off + d.length ≤ 2048)
  | .vaultFullPageWrite _ d => decide (d.length = 2048)
  | _ => true

end Sys2Proof
end

