-- ==== Sys2Proof/Tests/Slice0.lean ====
section
/-! SUPPORT. Tests: ill-formed commands are refused by the check, states and operands meet the hypotheses of every statement,
and steps whose results the manual fixes. -/

namespace Sys2Proof.Tests

open Sys2Proof.Machine Sys2Proof.Claims

/-! ## Small states and operands -/

/-- A requester on the I3C bus without a session (OPERATE). -/
def wire : Hdr := { req := { transport := .i3c, source := 0x20 }, session := none, tag := 7, context := 3 }

/-- The same requester in its session (ADMIN in `ready`). -/
def boss : Hdr := { wire with session := some 1 }

/-- A module in operation with an ADMIN session. -/
def ready : State :=
  { State.reset with
    clk := { Clk.reset with phase := .ready, modReady := true, bootWritten := true }
    hlm := { Hlm.reset with sessions := [{ id := 1, link := .mctp wire.req, opened := true, leaf := [], admin := true, factory := false }] } }

/-- Feed A in range and qualified. -/
def fedA : State :=
  (State.reset.modPfe (fun p => { p with feeds :=
    [{ tenthV := 480, uvOk := true, ovOk := true, everRange := true }, { tenthV := 0, uvOk := false, ovOk := true, everRange := false }] })).setFeedOk 0 true

/-- The pair of feed A closed. -/
def onA : State := fedA.modPfe (fun p => { p with closed := some 0, vbusUp := true, standbyOn := true })

/-- The pair of feed A closed in a module in operation. -/
def runA : State := { onA with clk := ready.clk }

/-- Ports 0 (USP) and 8 (PASS DSP), the DSP bound to vPPB 18 of the USP, its channel 2 on. -/
def slotted : State :=
  let s := ((ready.set Reg.PRT_PORT_CFG_ROLE 0 1).set Reg.PRT_PORT_CFG_ROLE 8 2).setFlag Reg.SPC_CH_STATUS_ON 2 true
  { s with prt := { s.prt with binds := [(18, { port := 8, ldId := none })] } }

/-- As `slotted`, the DSP free of a channel. -/
def slottedFree : State := slotted.set Reg.SPC_CH_CFG_PORT 2 0x7F

/-- Port 8 an unbound PASS DSP without a channel that may train. -/
def freePort : State := (ready.set Reg.SPC_CH_CFG_PORT 2 0x7F).setFlag Reg.LNC_BAY_CFG_PLL_LOCK 2 true

/-- As `freePort`, the link in L0 at full width with its first lane in use. -/
def linked : State :=
  ((((freePort.modPort 8 (fun x => { x with up := true })).set Reg.LNC_PORT_STATUS_WIDTH 8 16).setFlag Reg.LNC_LANE_STATUS_IN_USE 32 true).set
    Reg.LNC_PORT_STATUS_LTSSM 8 4)

/-- As `slotted`, both links up; the routing table sends the first megabyte to vPPB 18. -/
def windowed : State :=
  ((slotted.modPort 0 (fun x => { x with up := true, memUp := true })).modPort 8 (fun x => { x with up := true })).setTable 0x0680
    { TableSt.dflt with active := [(476, 2), (478, 9)] }

/-- A USP at port 0 with its first decoder over the first 16 MiB. -/
def decoded : State :=
  ((ready.set Reg.PRT_PORT_CFG_ROLE 0 1).modPort 0 (fun x => { x with up := true, memUp := true })).setTable 0x0A00
    { TableSt.dflt with active := [(11, 1), (26, 1)] }

/-- Bundle 1 of the Seam ACTIVE with stream 1. -/
def bundled : State := (ready.set Reg.SEM_BUNDLE_STATUS_STATE 1 8).modStream 1 (fun y => { y with onBundle := some 1 })

/-- The first page of the Transcript region formed. -/
def paged : State :=
  { ready with vlt := { Vlt.reset with pages := [(1146880, { formed := true, wseq := 1, data := [(100, 9), (200, 8)], errBits := 0, anneal := 0 })] } }

/-- A USP at port 0 and a POOL DSP at port 8. -/
def uspOn : State := ((ready.set Reg.PRT_PORT_CFG_ROLE 0 1).set Reg.PRT_PORT_CFG_ROLE 8 2).set Reg.POL_DSP_CFG_PERSONALITY 8 2

/-- A memory read of line 0 by the host at port 0, with ownership, under an extent map entry. -/
def rdReq (e : Nat) : HomeReq :=
  { src := 0, usp := some 0, line := 0, op := .memRd, snp := .snpInv, mval := some .a, tag := 5, data := [], mask := 0, poison := false, atom := none,
    ctx := none, relocSlot := none, ld := 0, entry := e, stamp := 0, track := .none }

/-- A victim on line 5. -/
def victim : Evict :=
  { line := 5, owner := none, snoops := 0, twinSnoop := false, entry := 0, stamp := 0, accs := [], data := none, twin := none, rsp := none,
    flush := false, asked := 0, askedTwin := false, lostOwner := false, op := 0 }

/-- LD 0 of the USP at port 0 holds extent 0 on page 1 of the device at port 8. -/
def pooled : State :=
  let s := (uspOn.setFlag Reg.POL_DSP_CFG_DEVICE_OK 8 true).modPort 8 (fun x => { x with up := true })
  { s.setTable 0x0A00 { TableSt.dflt with active := [(0x1000, 0x88)] } with pol := { s.pol with lds := [0], map := [(0, 17825793)] } }

/-- LDs 0 and 1 are members of share group 5. -/
def grouped : State :=
  { pooled.setTable 0x0A00 { TableSt.dflt with active := [(0x800, 32), (0x880, 32)] } with pol := { pooled.pol with lds := [0, 1] } }

/-- A read of extent 0 by LD 0 that waits for its map entry. -/
def heldReq : MissHold :=
  { port := 0, slot := 2, usp := 0, req := (rdReq 0).message, ld := 0, dpa := 64, extent := 0, pair := none, stamp := 0 }

/-- A grant of extent 1 to LD 0 on page 2 of the device at port 8. -/
def grantOf : Grant := { id := 3, bgId := none, lds := [0], entries := [(1, 34603009)], fills := 1, mod := none, offered := false }

/-- The relocation of extent 0 to port 9. -/
def moving : Reloc :=
  { ctx := none, aborting := false, slot := 0, extent := 0, origEntry := 17825793, origPair := none, dstCopy := cwMake false 9 3 1 0,
    srcCopy := cwMake false 8 1 0 0, dstEntry := 17956865, written := [], poison := [], staged := [], leg := 1, bgId := 1, batch := 4, freeAt := none }

/-- Extent 0 mirrored by pair 7 on ports 8 and 9, copy 1 fenced. -/
def fencedPair : State :=
  let s := (pooled.set Reg.PRT_PORT_CFG_ROLE 9 2).set Reg.POL_DSP_CFG_PERSONALITY 9 2
  { s.setTable 0x0A41
      { TableSt.dflt with active := SMap.write [] (fun _ => 0) 112 (leBytes 8 (cwMake false 8 1 0 0) ++ leBytes 8 (cwMake false 9 1 2 0)) } with
    pol := { s.pol with map := [(0, 117440517)] } }

/-- A FILL of 100 bytes at host address 0x2000. -/
def fillDesc : Bytes := [2, 0, 0, 0, 9, 9, 9, 9, 100, 0, 0, 0, 0, 0, 0, 0] ++ List.replicate 8 0 ++ [0, 32] ++ List.replicate 38 0

/-- The FILL in execution on engine 0 for VF 0. -/
def filling : Ctx :=
  { id := 7, fn := 0, gen := 0, sq := 0, seq := 1, desc := fillDesc, engine := 0, next := 0, chunks := [], accs := [], fail := none, result := 0,
    squashed := false, leg := 0, shared := false }

/-- A COPY of 64 bytes from host address 0x3000, its read outstanding. -/
def copying : Ctx :=
  { filling with
    desc := [1, 0, 0, 0, 9, 9, 9, 9, 64, 0, 0, 0, 0, 0, 0, 0] ++ [0, 48, 0, 0, 0, 0, 0, 0] ++ [0, 32] ++ List.replicate 38 0
    next := 64, chunks := [(0, 64)], accs := [{ key := 12288, pool := false, isRead := true, off := 0, len := 64 }] }

/-- VF 0: ring 0 with a fetched descriptor, ring 1 with work posted, the completion ring on, vectors unmasked. -/
def vf0 : FnSt :=
  { FnSt.dflt 4 with
    sqs := [{ Sq.dflt with en := true, fetched := [(5, fillDesc)] }, { Sq.dflt with en := true, base := 4096, tail := 3 }, Sq.dflt, Sq.dflt]
    cqEn := true, cqTail := 12, cqHead := 3, nextSq := 1, nextSeq := 6, vecs := List.replicate 4 { Vec.dflt with masked := false, addr := 64 } }

/-- A USP at port 0 whose PF has VF 0 on. -/
def ringing : State :=
  { uspOn.modPort 0 (fun x => { x with up := true }) with
    mov := { Mov.reset with fns := [(0, vf0)], allot := [(0, [0])], numVfs := [(0, 1)], vfEnable := [0], nextCtx := 8 } }

/-- As `ringing`, a reset of VF 0 running. -/
def resetting : State := ringing.setFn 0 { vf0 with flr := true }

/-- As `ringing`, an event of vector 1 pending. -/
def coalescing : State := ringing.setFn 0 { vf0 with coalTime := 5, vecs := List.replicate 4 { Vec.dflt with events := 1 } }

/-- As `ringing`, one context open. -/
def worked (c : Ctx) : State := { ringing with mov := { ringing.mov with ctxs := [c] } }

/-- VF 0 on its way to FROZEN. -/
def freezing : State :=
  (ringing.setFn 0 { vf0 with freezing := true }).setFn 0x8000 { FnSt.dflt 16 with migBusy := true }

/-- VF 0 FROZEN, key 2 installed. -/
def frozenVf : State :=
  { ringing.setFn 0 { FnSt.dflt 4 with frozen := true } with hlm := { ringing.hlm with migKeys := [(0, 2, List.replicate 48 7)] } }

/-- A journal with one long record. -/
def longJournal (n : Nat) : State := { ready with jnl := { flash := [.group 0 (List.replicate n 0) []], buf := [], bad := none } }

theorem longJournal_high (n : Nat) (h : 7000000 ≤ n) :
    (longJournal n).jnl.high = true ∧ (longJournal n).jnl.bad = none ∧ (longJournal n).clk.phase ≠ .off := by
  refine ⟨?_, rfl, (by decide : ready.clk.phase ≠ .off)⟩
  simp [longJournal, Journal.high, Journal.flashBytes, JRec.parts, JRec.size]
  omega

/-- A remap table with `k` entries and a page to retire. -/
def fullTable (k : Nat) : State :=
  { ready with vlt := { Vlt.reset with due := [(1146880, false)], remaps := (List.range k).map (fun i => (i, i, false)) } }

theorem fullTable_target (k : Nat) (h : 1048576 ≤ k) (h2 : k ≤ 1146880) : (fullTable k).retireTarget 1146880 = none := by
  have hn : (fullTable k).remapOf 1146880 = none := by
    simp [State.remapOf, fullTable, List.find?_eq_none]
    omega
  have hd : ((fullTable k).vlt.remaps.map Prod.fst) = List.range k := by
    simp [fullTable, List.map_map, Function.comp_def]
  have hf : (fullTable k).remapFull 1146880 = true := by
    simp only [State.remapFull, hn, hd, Option.isNone_none, Bool.true_and, decide_eq_true_eq]
    rw [List.Nodup.dedup List.nodup_range]; simpa using h
  simp [State.retireTarget, hf]

theorem fullTable_meets (k : Nat) (h : 1048576 ≤ k) (h2 : k ≤ 1146880) : SMap.wf (fullTable k).regs ∧
    (fullTable k).vlt.due.find? (fun d => d.1 == 1146880) = some (1146880, false) ∧
    (fullTable k).retireTarget 1146880 = none ∧ (fullTable k).flag Reg.VLT_STATUS_RESERVE_OUT = false :=
  ⟨(by decide : SMap.wf ready.regs), rfl, fullTable_target k h h2, (by decide : ready.flag Reg.VLT_STATUS_RESERVE_OUT = false)⟩

/-- As `ready`, with TEST_EN. -/
def touchable : State := ready.setFlag Reg.FLT_STATUS_TEST_EN 0 true

theorem leNat_leBytes (n v : Nat) (h : v < 2 ^ (8 * n)) : leNat (leBytes n v) = v := by
  induction n generalizing v with
  | zero => simp [leBytes, leNat] at *; omega
  | succ n ih =>
    have h8 : v / 256 < 2 ^ (8 * n) := by
      rw [show 8 * (n + 1) = 8 * n + 8 by omega, Nat.pow_add] at h
      omega
    simp only [leBytes, leNat, ih _ h8, BitVec.toNat_ofNat]
    omega

theorem touchable_token : Operating touchable ∧ Privileged .operate wire touchable ∧
    (leBytes 8 Config.deviceSerial.toNat ++ List.replicate 104 (0 : Byte)).length = 112 ∧
    transportWired wire.req.transport = true ∧ touchable.flag Reg.FLT_STATUS_TEST_EN = true ∧
    touchable.flag Reg.HLM_STATUS_LOCKED = false ∧ touchable.flag Reg.FLT_STATUS_TOUCHSTONE = false ∧
    p64 (leBytes 8 Config.deviceSerial.toNat ++ List.replicate 104 0) 0 = Config.deviceSerial.toNat ∧
    p32 (leBytes 8 Config.deviceSerial.toNat ++ List.replicate 104 0) 8 = touchable.get Reg.HLM_BOOT_COUNTER := by
  refine ⟨by decide, by decide, rfl, by decide, by decide, by decide, by decide, ?_, ?_⟩
  · exact leNat_leBytes 8 _ (by have := Config.deviceSerial.isLt; omega)
  · have h : p32 (leBytes 8 Config.deviceSerial.toNat ++ List.replicate 104 0) 8 = 0 := rfl
    rw [h]; decide

/-- The body of a migration blob of this module under key 2. -/
def blobOf : Bytes := [67, 90, 77, 86, 1, 0, 0, 2] ++ (leBytes 8 Config.deviceSerial.toNat ++ ([0, 0, 0, 0, 2] ++ List.replicate 443 0))

theorem blobOf_serial : fieldAt blobOf 8 8 = Config.deviceSerial.toNat :=
  leNat_leBytes 8 _ (by have := Config.deviceSerial.isLt; omega)

theorem digestBytes_length (d : BitVec 384) : (digestBytes d).length = 48 := rfl

theorem blob_meets : SMap.wf frozenVf.mov.fns ∧ frozenVf.isUsp 0 = true ∧ (frozenVf.fn 0x8000).migBusy = false ∧
    frozenVf.migVf? 0 0 = some 0 ∧ 0 < 1024 ∧ (frozenVf.fn 0).sqs.any Sq.en = false ∧ (frozenVf.fn 0).cqEn = false ∧
    (frozenVf.fn 0).flr = false ∧ blobOf.length = 464 ∧
    (digestBytes (Config.hmac384 (List.replicate 48 7) blobOf)).length = 48 ∧ fieldAt blobOf 0 4 = 0x564D5A43 ∧
    fieldAt blobOf 4 2 = 1 ∧ fieldAt blobOf 8 8 = Config.deviceSerial.toNat ∧ fieldAt blobOf 16 4 = frozenVf.get Reg.HLM_BOOT_COUNTER ∧
    fieldAt blobOf 20 1 = 2 ∧
    frozenVf.hlm.migKeys.find? (fun y => y.1 == 0 && y.2.1 == 2) = some (0, 2, List.replicate 48 7) := by
  refine ⟨by decide, by decide, by decide, by decide, by decide, by decide, by decide, by decide, 
    by simp only [blobOf, List.length_append, List.length_replicate, leBytes, List.length_cons, List.length_nil], rfl,
    by decide, by decide, blobOf_serial, rfl, rfl, by decide⟩

/-! ## Witnesses -/

/-- Operands and states that meet the hypotheses of IdleStep, clause by clause. -/
theorem IdleStep_witness :
    (∃ (s : State), s.pending = [] ∧ s.clk.phase = .off) ∧
    (∃ (s : State), s.pending = [] ∧ s.clk.phase ≠ .off ∧ s.cmd.jobs = [] ∧ s.tbl.pend = []) ∧
    (∃ (q : Queued) (urgent : Bool) (c : CmdSpec) (s : State), s.pending = [] ∧ s.acrakFree = true ∧ s.tbl.pend = [] ∧ s.cmd.jobs = [{ cmds := [q], urgent := urgent }] ∧ specOf (pktOpcode q.pkt) = some c ∧ c.len (pktParams q.pkt) ≠ none) :=
  ⟨⟨State.reset, by decide⟩,
   ⟨ready, by decide⟩,
   ⟨{ req := wire.req, session := none, pkt := mkPacket 0 0xC000 7 3 0 [1], seq := 0 }, false, specModuleIdentify, ready.modCmd (fun c => { c with jobs := [{ cmds := [{ req := wire.req, session := none, pkt := mkPacket 0 0xC000 7 3 0 [1], seq := 0 }], urgent := false }] }), ⟨rfl, by decide, rfl, rfl, by set_option maxRecDepth 20000 in rfl, by set_option maxRecDepth 20000 in decide⟩⟩⟩

/-- Operands and states that meet the hypotheses of ResetState, clause by clause. -/
theorem ResetState_witness :
    (∃ (s : State), s = State.reset) :=
  ⟨State.reset, by decide⟩

/-- Operands and states that meet the hypotheses of ChecksInOrder, clause by clause. -/
theorem ChecksInOrder_witness :
    (∃ (r : Requester) (k : Bytes) (s : State), s.clk.phase ≠ .off ∧ transportWired r.transport = true ∧ (k.length ≠ 20 + roundUp (pktPlen k) 4 ∨ 4096 < pktPlen k)) ∧
    (∃ (r : Requester) (k : Bytes) (s : State), s.clk.phase ≠ .off ∧ transportWired r.transport = true ∧ k.length = 20 + roundUp (pktPlen k) 4 ∧ pktPlen k ≤ 4096 ∧ leNat (k.drop (k.length - 4)) ≠ (crc32c (k.take (k.length - 4))).toNat) ∧
    (∃ (r : Requester) (k : Bytes) (s : State), s.clk.phase ≠ .off ∧ transportWired r.transport = true ∧ k.length = 20 + roundUp (pktPlen k) 4 ∧ pktPlen k ≤ 4096 ∧ leNat (k.drop (k.length - 4)) = (crc32c (k.take (k.length - 4))).toNat ∧ (fieldAt k 0 1 ≠ 1 ∨ bitOf (pktFlags k) 0 = true ∨ bitOf (pktFlags k) 1 = true)) ∧
    (∃ (r : Requester) (k : Bytes) (s : State), s.clk.phase ≠ .off ∧ transportWired r.transport = true ∧ framing k = none ∧ opPriv (pktOpcode k) = none) ∧
    (∃ (i : Instr) (c : CmdSpec) (h : Hdr) (p : Bytes) (off : Nat) (s : State), commandOf i = some (c, h, p) ∧ s.clk.phase ≠ .off ∧ c.len p = some off) ∧
    (∃ (i : Instr) (c : CmdSpec) (h : Hdr) (p : Bytes) (s : State), commandOf i = some (c, h, p) ∧ s.clk.phase ≠ .off ∧ c.len p = none ∧ (request c.opcode c.priv h p s).mayIssue c h p = false) ∧
    (∃ (i : Instr) (c : CmdSpec) (h : Hdr) (p : Bytes) (s : State), commandOf i = some (c, h, p) ∧ s.clk.phase ≠ .off ∧ c.len p = none ∧ (request c.opcode c.priv h p s).mayIssue c h p = true ∧ c.deny h p (request c.opcode c.priv h p s) = false ∧ c.locks p (request c.opcode c.priv h p s) = true ∧ (request c.opcode c.priv h p s).flag Reg.HLM_STATUS_LOCKED = true) ∧
    (∃ (i : Instr) (c : CmdSpec) (h : Hdr) (p : Bytes) (off : Nat) (s : State), commandOf i = some (c, h, p) ∧ s.clk.phase ≠ .off ∧ c.len p = none ∧ (request c.opcode c.priv h p s).mayIssue c h p = true ∧ c.deny h p (request c.opcode c.priv h p s) = false ∧ (request c.opcode c.priv h p s).flag Reg.HLM_STATUS_LOCKED = false ∧ c.check h p (request c.opcode c.priv h p s) = some off) ∧
    (∃ (i : Instr) (c : CmdSpec) (h : Hdr) (p : Bytes) (s : State), commandOf i = some (c, h, p) ∧ s.clk.phase ≠ .off ∧ c.len p = none ∧ (request c.opcode c.priv h p s).mayIssue c h p = true ∧ c.deny h p (request c.opcode c.priv h p s) = false ∧ (request c.opcode c.priv h p s).flag Reg.HLM_STATUS_LOCKED = false ∧ c.check h p (request c.opcode c.priv h p s) = none ∧ (request c.opcode c.priv h p s).serves c h = false) ∧
    (∃ (i : Instr) (c : CmdSpec) (h : Hdr) (p : Bytes) (st : Nat) (s : State), commandOf i = some (c, h, p) ∧ s.clk.phase ≠ .off ∧ c.len p = none ∧ (request c.opcode c.priv h p s).mayIssue c h p = true ∧ c.deny h p (request c.opcode c.priv h p s) = false ∧ (request c.opcode c.priv h p s).flag Reg.HLM_STATUS_LOCKED = false ∧ c.check h p (request c.opcode c.priv h p s) = none ∧ (request c.opcode c.priv h p s).serves c h = true ∧ c.run h p (request c.opcode c.priv h p s) = .fail st) :=
  ⟨⟨wire.req, [1, 0], ready, by decide⟩,
   ⟨wire.req, (mkPacket 0 0xC000 7 3 0 []).dropLast ++ [0], ready, by set_option maxRecDepth 20000 in decide⟩,
   ⟨wire.req, mkPacket 1 0xC000 7 3 0 [], ready, by set_option maxRecDepth 20000 in decide⟩,
   ⟨wire.req, mkPacket 0 0xC0FF 7 3 0 [], ready, by set_option maxRecDepth 20000 in decide⟩,
   ⟨.moduleIdentify wire [1], specModuleIdentify, wire, [1], headerOffset, ready, ⟨rfl, by decide, rfl⟩⟩,
   ⟨.configLock wire [], specConfigLock, wire, [], ready, ⟨rfl, by decide, rfl, by decide⟩⟩,
   ⟨.portRoleSet boss [0, 1], specPortRoleSet, boss, [0, 1], ready.setFlag Reg.HLM_STATUS_LOCKED 0 true, ⟨rfl, by decide, rfl, by decide, by decide, by decide, by decide⟩⟩,
   ⟨.regRead wire [1, 0, 0, 15, 3, 0], specRegRead, wire, [1, 0, 0, 15, 3, 0], 0, ready, ⟨rfl, by decide, rfl, by decide, by decide, by decide, by decide⟩⟩,
   ⟨.dirInfo wire [], specDirInfo, wire, [], { ready with clk := { Clk.reset with phase := .boot } }, ⟨rfl, by decide, rfl, by decide, by decide, by decide, by decide, by decide⟩⟩,
   ⟨.movAllotSet boss [0, 0, 3, 0], specMovAllotSet, boss, [0, 0, 3, 0], stConflict, ringing, ⟨rfl, by decide, rfl, by decide, by decide, by decide, by set_option maxRecDepth 20000 in decide, by decide, rfl⟩⟩⟩

/-- Operands and states that meet the hypotheses of PrivilegeOfCommands, clause by clause. -/
theorem PrivilegeOfCommands_witness :
    (∃ (a : Priv) (b : Priv), (a, b) ∈ [(Priv.observe, Priv.operate), (Priv.operate, Priv.admin), (Priv.admin, Priv.factory)]) ∧
    (∃ (h : Hdr) (s : State), s.privOf h ≠ .tenant) ∧
    (∃ (u : Port) (h : Hdr) (s : State), s.privOf h = .tenant ∧ h.req.transport = .vdm u) ∧
    (∃ (i : Instr) (c : CmdSpec) (h : Hdr) (p : Bytes) (s : State), commandOf i = some (c, h, p) ∧ s.clk.phase ≠ .off ∧ c.len p = none ∧ privRank ((request c.opcode c.priv h p s).privOf h) < privRank (c.privAt h (request c.opcode c.priv h p s))) :=
  ⟨⟨.operate, .admin, by decide⟩,
   ⟨wire, ready, (by decide : ready.privOf wire ≠ .tenant)⟩,
   ⟨8, { wire with req := { transport := .vdm 8, source := 0 } }, ready, ⟨by decide, rfl⟩⟩,
   ⟨.configLock wire [], specConfigLock, wire, [], ready, ⟨rfl, by decide, rfl, by decide⟩⟩⟩

/-- Operands and states that meet the hypotheses of UnpoweredStaysSilent, clause by clause. -/
theorem UnpoweredStaysSilent_witness :
    (∃ (o : List OutMsg) (s : State) (t : State), Dark o s ∧ step s = .next t) :=
  ⟨[], { State.reset with pending := [.moduleIdentify wire []] }, State.reset, ⟨⟨rfl, rfl, by decide⟩, rfl⟩⟩

/-- Operands and states that meet the hypotheses of EveryStepKeepsCanonical, clause by clause. -/
theorem EveryStepKeepsCanonical_witness :
    (∃ (s : State) (t : State), Safety.Canonical s ∧ step s = .next t) :=
  ⟨ready, nextOf ready (step ready), ⟨⟨by decide, by decide⟩, rfl⟩⟩

/-- Operands and states that meet the hypotheses of PacketTrailer, clause by clause. -/
theorem PacketTrailer_witness :
    (∃ (k : Bytes), k.length = 20 + roundUp (pktPlen k) 4 ∧ pktPlen k ≤ 4096) :=
  ⟨mkPacket 0 0xC000 7 3 0 [], by set_option maxRecDepth 20000 in decide⟩

/-- Operands and states that meet the hypotheses of QueueLimit, clause by clause. -/
theorem QueueLimit_witness :
    (∃ (r : Requester) (ses : Option Nat) (k : Bytes) (s : State) (t : State), ((∀ x, s.cmd.queuedOn x ≤ 16)) ∧ exec (.commandPacketReceive r ses k) s = .next t) ∧
    (∃ (s : State) (t : State), ((∀ x, s.cmd.queuedOn x ≤ 16)) ∧ exec .mbxGo s = .next t) ∧
    (∃ (r : Requester) (k : Bytes) (s : State), s.clk.phase ≠ .off ∧ transportWired r.transport = true ∧ framing k = none ∧ (opPriv (pktOpcode k)).isSome = true ∧ s.cmd.chainOf r (pktContext k) = none ∧ 16 ≤ s.cmd.queuedOn r.transport) ∧
    (∃ (r : Requester) (k : Bytes) (s : State), s.clk.phase ≠ .off ∧ r.transport ≠ .mailbox ∧ framing k = none ∧ (opPriv (pktOpcode k)).isSome = true ∧ s.cmd.chainOf r (pktContext k) = none ∧ 16 ≤ s.cmd.queuedOn r.transport) :=
  ⟨⟨wire.req, none, [], ready, nextOf ready (exec (.commandPacketReceive wire.req none []) ready), ⟨fun _ => Nat.zero_le 16, rfl⟩⟩,
   ⟨ready, ready, ⟨fun _ => Nat.zero_le 16, rfl⟩⟩,
   ⟨wire.req, mkPacket 0 0xC000 7 3 0 [], ready.modCmd (fun c => { c with jobs := List.replicate 16 { cmds := [{ req := wire.req, session := none, pkt := [], seq := 0 }], urgent := false } }), by set_option maxRecDepth 20000 in decide⟩,
   ⟨wire.req, mkPacket 0 0xC000 7 3 0 [], ready.modCmd (fun c => { c with jobs := List.replicate 16 { cmds := [{ req := wire.req, session := none, pkt := [], seq := 0 }], urgent := false } }), by set_option maxRecDepth 20000 in decide⟩⟩

/-- Operands and states that meet the hypotheses of AllotmentNeedsVfDisable, clause by clause. -/
theorem AllotmentNeedsVfDisable_witness :
    (∃ (h : Hdr) (p : Bytes) (s : State) (t : State), exec (.movAllotSet h p) s = .next t ∧ SMap.get t.mov.allot (p8 p 0) [] ≠ SMap.get s.mov.allot (p8 p 0) []) ∧
    (∃ (h : Hdr) (p : Bytes) (s : State), Operating s ∧ Privileged .admin h s ∧ p.length = 4 ∧ s.isUsp (p8 p 0) = true ∧ p16 p 2 ≤ 1024 ∧ p8 p 0 ∈ s.mov.vfEnable) ∧
    (∃ (h : Hdr) (p : Bytes) (s : State), SMap.wf s.mov.allot ∧ Operating s ∧ Privileged .admin h s ∧ p.length = 4 ∧ s.isUsp (p8 p 0) = true ∧ p8 p 0 ∉ s.mov.vfEnable ∧ ((s.mov.allot.filter (fun a => a.1 != p8 p 0)).map (fun a => a.2.length)).sum + p16 p 2 ≤ 1024) :=
  ⟨⟨boss, [0, 0, 3, 0], uspOn, nextOf uspOn (exec (.movAllotSet boss [0, 0, 3, 0]) uspOn), ⟨rfl, by set_option maxRecDepth 20000 in decide⟩⟩,
   ⟨boss, [0, 0, 3, 0], ringing, by set_option maxRecDepth 20000 in decide⟩,
   ⟨boss, [0, 0, 3, 0], { uspOn with mov := { Mov.reset with allot := [(0, [0])] } }, by set_option maxRecDepth 20000 in decide⟩⟩

/-- Operands and states that meet the hypotheses of SuppressedRecords, clause by clause. -/
theorem SuppressedRecords_witness :
    (∃ (c : Ctx) (s : State), SMap.wf s.mov.fns ∧ s.mov.ctxs = [c] ∧ s.descDone c = true ∧ c.fn ≠ mgmtKey ∧ c.fail = none ∧ bitOf (fieldAt c.desc 1 1) 2 = true) ∧
    (∃ (c : Ctx) (u : Nat) (off : Nat) (st : Nat) (s : State), SMap.wf s.mov.fns ∧ s.mov.ctxs = [c] ∧ s.descDone c = true ∧ c.fn ≠ mgmtKey ∧ c.fail = some (off, st) ∧ st ≠ 0 ∧ s.fnUsp c.fn = some u ∧ (s.port u).up = true) :=
  ⟨⟨{ filling with next := 100, desc := 2 :: 4 :: fillDesc.drop 2 }, worked { filling with next := 100, desc := 2 :: 4 :: fillDesc.drop 2 }, by set_option maxRecDepth 20000 in decide⟩,
   ⟨{ filling with fail := some (0, 7), desc := 2 :: 4 :: fillDesc.drop 2 }, 0, 0, 7, worked { filling with fail := some (0, 7), desc := 2 :: 4 :: fillDesc.drop 2 }, by set_option maxRecDepth 20000 in decide⟩⟩

/-- Operands and states that meet the hypotheses of SpeculativeReads, clause by clause. -/
theorem SpeculativeReads_witness :
    (∃ (m : MemReq), m.op = .memSpecRd) :=
  ⟨{ op := .memSpecRd, snp := .noOp, mval := none, hpa := 64, tag := 3, data := [], mask := 0, poison := false, pbr := none }, by decide⟩

/-- Operands and states that meet the hypotheses of FeedSelection, clause by clause. -/
theorem FeedSelection_witness :
    (∃ (f : Feed) (v : Nat) (s : State), (s.pfe.feed f.val).uvOk = true ∧ (s.pfe.feed f.val).ovOk = true ∧ s.get Reg.PFE_FEED_THR_UV_FALL f.val < v ∧ v < s.get Reg.PFE_FEED_THR_OV_RISE f.val) ∧
    (∃ (f : Feed) (v : Nat) (s : State), (s.pfe.feed f.val).uvOk = true ∧ (s.pfe.feed f.val).ovOk = true ∧ v ≤ s.get Reg.PFE_FEED_THR_UV_FALL f.val ∧ v < s.get Reg.PFE_FEED_THR_OV_RISE f.val ∧ s.pfe.closed ≠ some f) ∧
    (∃ (f : Feed) (s : State), s.feedInRange f.val = true ∧ s.feedOk f.val = false ∧ s.pfe.closed = none ∧ s.mayClose = true ∧ s.feedUnusable f.val = false) ∧
    (∃ (f : Feed) (s : State), s.feedInRange f.val = true ∧ s.feedOk f.val = false ∧ s.pfe.closed ≠ none) ∧
    (∃ (g : Feed) (s : State), s.pfe.want = some g ∧ s.feedOk g.val = true ∧ s.feedUnusable g.val = false ∧ s.mayClose = true) ∧
    (∃ (g : Feed) (s : State), s.pfe.want = some g ∧ s.feedOk g.val = false) ∧
    (∃ (s : State), s.flag Reg.PFE_FEED_CTL_RETURN_EN = true ∧ s.feedOk s.preferred.val = true ∧ s.feedUnusable s.preferred.val = false ∧ s.mayClose = true ∧ s.pfe.closed = some (otherFeed s.preferred) ∧ s.pfe.settling = false) ∧
    (∃ (f : Feed) (s : State), s.pfe.closed = some f ∧ s.feedOk (otherFeed f).val = false) ∧
    (∃ (f : Feed) (s : State), s.pfe.closed = some f ∧ s.pfe.settling = true ∧ s.feedOk (otherFeed f).val = false) :=
  ⟨⟨0, 480, onA, by decide⟩,
   ⟨0, 10, fedA, by decide⟩,
   ⟨0, fedA.setFeedOk 0 false, by decide⟩,
   ⟨0, onA.setFeedOk 0 false, by decide⟩,
   ⟨0, fedA.modPfe (fun p => { p with want := some 0 }), by decide⟩,
   ⟨1, fedA.modPfe (fun p => { p with want := some 1 }), by decide⟩,
   ⟨(fedA.modPfe (fun p => { p with closed := some 1 })).setFlag Reg.PFE_FEED_CTL_RETURN_EN 0 true, by decide⟩,
   ⟨0, onA, by decide⟩,
   ⟨0, onA.modPfe (fun p => { p with settling := true }), by decide⟩⟩

/-- Operands and states that meet the hypotheses of HoldupRun, clause by clause. -/
theorem HoldupRun_witness :
    (∃ (f : Feed) (s : State), SMap.wf s.regs ∧ s.pfe.closed = some f ∧ s.pfe.settling = true) ∧
    (∃ (s : State), s.pfe.charging = true ∧ s.pfe.holdupTest = none) ∧
    (∃ (s : State), s.flag Reg.PFE_STATUS_HU_READY = false ∧ s.pfe.charging = true) ∧
    (∃ (s : State), s.pfe.vbusUp = true ∧ s.pfe.closed = none ∧ s.feedOk 0 = false ∧ s.feedOk 1 = false ∧ s.flag Reg.PFE_STATUS_ON_HOLDUP = false) ∧
    (∃ (s : State), SMap.wf s.regs ∧ s.pfe.vbusUp = true ∧ s.pfe.closed = none ∧ s.pfe.imminent = false ∧ s.clk.phase ≠ .off) ∧
    (∃ (s : State), s.pfe.vbusUp = true ∧ s.pfe.imminent = true) ∧
    (∃ (s : State), (s.pfe.feed 0).tenthV < 70 ∧ (s.pfe.feed 1).tenthV < 70) :=
  ⟨⟨0, fedA.modPfe (fun p => { p with closed := some 0, settling := true }), by decide⟩,
   ⟨onA.modPfe (fun p => { p with charging := true }), by decide⟩,
   ⟨onA.modPfe (fun p => { p with charging := true }), by decide⟩,
   ⟨State.reset.modPfe (fun p => { p with vbusUp := true }), by decide⟩,
   ⟨{ ready with pfe := { Pfe.reset with vbusUp := true } }, by decide⟩,
   ⟨State.reset.modPfe (fun p => { p with vbusUp := true, imminent := true }), by decide⟩,
   ⟨State.reset, by decide⟩⟩

/-- Operands and states that meet the hypotheses of BreakerAndTrips, clause by clause. -/
theorem BreakerAndTrips_witness :
    (∃ (s : State), SMap.wf s.regs ∧ s.pfe.closed ≠ none ∧ s.clk.phase ≠ .off ∧ s.pfe.settling = true) ∧
    (∃ (c : Fin 4) (s : State), SMap.wf s.regs ∧ s.pfe.closed ≠ none ∧ s.clk.phase ≠ .off ∧ c ≠ 0) ∧
    (∃ (a : Nat) (s : State), SMap.wf s.regs ∧ s.pfe.closed ≠ none ∧ s.clk.phase ≠ .off ∧ s.get Reg.PFE_BKR_CTL_FAST_TRIP ≤ a) ∧
    (∃ (a : Nat) (s : State), SMap.wf s.regs ∧ s.pfe.closed ≠ none ∧ s.clk.phase ≠ .off ∧ 2 ^ 32 ≤ (accStep s.feedPoints (decide (s.get Reg.PFE_BKR_CTL_I_LIM ≤ a)) a (s.get Reg.PFE_ACC) (s.get Reg.PFE_BKR_CTL2_DECAY_MS)).1) ∧
    (∃ (a : Nat) (f : Feed) (s : State), SMap.wf s.regs ∧ s.pfe.closed = some f ∧ s.get Reg.PFE_BKR_CTL_I_LIM ≤ a ∧ s.feedPoints = [] ∧ s.get Reg.PFE_ACC ≤ 2 ^ 32 / (s.get Reg.PFE_BKR_CTL2_DECAY_MS * 1000)) ∧
    (∃ (s : State), s.pfe.coolDown = true ∧ s.flag Reg.PFE_BKR_CTL2_RETRY_EN = false) ∧
    (∃ (r : Fin 11) (s : State), s.flag Reg.PFE_RAIL_IN_WINDOW r.val = true ∧ s.clk.phase ≠ .off) ∧
    (∃ (s : State), ((∀ r < 11, s.flag Reg.PFE_RAIL_IN_WINDOW r = true)) ∧ s.flag Reg.PFE_STATUS_ACC_IDLE = true ∧ s.pfe.pwrgdQual = true) :=
  ⟨⟨{ runA with pfe := { runA.pfe with settling := true } }, by decide⟩,
   ⟨2, runA, by decide⟩,
   ⟨1250, runA, by decide⟩,
   ⟨1200, runA.set Reg.PFE_ACC 0 (2 ^ 32 - 1), by decide⟩,
   ⟨4095, 0, forEach (List.range 5) (fun k s => s.setFlag Reg.PFE_BKR_PT_VALID k false) runA, by decide⟩,
   ⟨(State.reset.setFlag Reg.PFE_BKR_CTL2_RETRY_EN 0 false).modPfe (fun p => { p with coolDown := true }), by decide⟩,
   ⟨3, runA.setFlag Reg.PFE_RAIL_IN_WINDOW 3 true, by decide⟩,
   ⟨forEach (List.range 11) (fun r s => s.setFlag Reg.PFE_RAIL_IN_WINDOW r true) ((onA.setFlag Reg.PFE_STATUS_ACC_IDLE 0 true).modPfe (fun p => { p with pwrgdQual := true })), by decide⟩⟩

/-- Operands and states that meet the hypotheses of SlotBusAndPresence, clause by clause. -/
theorem SlotBusAndPresence_witness :
    (∃ (v : Nat) (s : State), s.clk.phase ≠ .off ∧ s.spc.uvOk = true ∧ s.spc.ovOk = true ∧ s.get Reg.SPC_BUS_CTL_UV_FALL < v ∧ v < s.get Reg.SPC_BUS_CTL_OV_RISE) ∧
    (∃ (v : Nat) (s : State), s.clk.phase ≠ .off ∧ s.spc.uvOk = true ∧ s.spc.ovOk = true ∧ v ≤ s.get Reg.SPC_BUS_CTL_UV_FALL ∧ v < s.get Reg.SPC_BUS_CTL_OV_RISE ∧ ((∀ n < 16, s.flag Reg.SPC_CH_STATUS_ON n = false))) ∧
    (∃ (s : State), s.clk.phase ≠ .off ∧ s.clk.modReady = true) ∧
    (∃ (n : Chan) (s : State), SMap.wf s.regs ∧ (s.chan n.val).debounce = true ∧ s.flag Reg.SPC_CH_STATUS_PRSNT_RAW n.val = true ∧ s.flag Reg.SPC_CH_STATUS_PRSNT n.val = false ∧ s.flag Reg.SPC_CH_CFG_AUTO_POWER n.val = true ∧ s.flag Reg.SPC_CH_STATUS_COOLING n.val = false ∧ s.flag Reg.SPC_CH_STATUS_LATCHED n.val = false) ∧
    (∃ (n : Chan) (s : State), s.clk.phase ≠ .off ∧ s.flag Reg.SPC_CH_STATUS_ON n.val = false ∧ s.flag Reg.SPC_CH_STATUS_PRSNT n.val = false) ∧
    (∃ (n : Chan) (s : State), SMap.wf s.regs ∧ s.clk.phase ≠ .off ∧ s.flag Reg.SPC_CH_STATUS_ON n.val = true ∧ 64 ≤ s.get Reg.SPC_CH_CFG_PORT n.val ∧ s.flag Reg.SPC_CH_STATUS_PRSNT n.val = true ∧ (s.chan n.val).openPend = false) ∧
    (∃ (n : Chan) (s : State), s.clk.phase ≠ .off ∧ s.chanVppb n.val = none) :=
  ⟨⟨120, { ready with spc := { Spc.reset with uvOk := true } }, by decide⟩,
   ⟨10, { ready with spc := { Spc.reset with uvOk := true } }, by decide⟩,
   ⟨ready, by decide⟩,
   ⟨2, (ready.modChan 2 (fun x => { x with debounce := true })).setFlag Reg.SPC_CH_STATUS_PRSNT_RAW 2 true |>.setFlag Reg.SPC_CH_CFG_AUTO_POWER 2 true, by decide⟩,
   ⟨2, ready, by decide⟩,
   ⟨2, ((ready.setFlag Reg.SPC_CH_STATUS_ON 2 true).setFlag Reg.SPC_CH_STATUS_PRSNT 2 true).set Reg.SPC_CH_CFG_PORT 2 0x7F, by decide⟩,
   ⟨2, ready, by decide⟩⟩

/-- Operands and states that meet the hypotheses of SlotChannelPower, clause by clause. -/
theorem SlotChannelPower_witness :
    (∃ (n : Chan) (s : State), s.mayClosePower n.val = true ∧ s.flag Reg.SPC_CH_STATUS_ON n.val = false) ∧
    (∃ (n : Chan) (s : State), SMap.wf s.regs ∧ s.flag Reg.SPC_CH_STATUS_ON n.val = true ∧ s.flag Reg.SPC_CH_STATUS_PGOOD n.val = false ∧ (s.chan n.val).openPend = false) ∧
    (∃ (n : Chan) (s : State), SMap.wf s.regs ∧ s.flag Reg.SPC_CH_STATUS_ON n.val = true ∧ s.flag Reg.SPC_CH_STATUS_PGOOD n.val = false ∧ (s.chan n.val).openPend = false) ∧
    (∃ (n : Chan) (c : Fin 4) (s : State), SMap.wf s.regs ∧ s.flag Reg.SPC_CH_STATUS_ON n.val = true ∧ c ≠ 0 ∧ (s.chan n.val).openPend = false) ∧
    (∃ (n : Chan) (a : Nat) (s : State), SMap.wf s.regs ∧ s.clk.phase ≠ .off ∧ s.flag Reg.SPC_CH_STATUS_ON n.val = true ∧ s.get Reg.SPC_CH_LIM_FAST_TRIP n.val ≤ a ∧ (s.chan n.val).openPend = false) ∧
    (∃ (n : Chan) (s : State), SMap.wf s.regs ∧ s.clk.phase ≠ .off ∧ s.flag Reg.SPC_CH_STATUS_ON n.val = false ∧ s.get Reg.SPC_CH_ACC n.val = 0 ∧ s.chanPoints n.val = []) ∧
    (∃ (n : Chan) (s : State), s.flag Reg.SPC_CH_STATUS_ON n.val = true ∧ s.flag Reg.SPC_CH_STATUS_ACC_IDLE n.val = true ∧ s.flag Reg.SPC_CH_STATUS_PGOOD n.val = false ∧ (s.chan n.val).openPend = false) ∧
    (∃ (n : Chan) (s : State), (s.chan n.val).perstPend = true ∧ s.flag Reg.SPC_CH_STATUS_PGOOD n.val = true) ∧
    (∃ (n : Chan) (s : State), SMap.wf s.regs ∧ s.flag Reg.SPC_CH_STATUS_REQ_ON n.val = true ∧ s.flag Reg.SPC_CH_STATUS_ON n.val = true) ∧
    (∃ (n : Chan) (s : State), SMap.wf s.regs ∧ (s.chan n.val).openPend = true ∧ s.chanVppb n.val = none) ∧
    (∃ (n : Chan) (s : State), s.flag Reg.SPC_CH_STATUS_COOLING n.val = true) ∧
    (∃ (u : Port) (v : Fin 32) (n : Nat) (b : Bind) (s : State), SMap.wf s.regs ∧ s.isUsp u.val = true ∧ bindable v.val = true ∧ s.bindOf u.val v.val = some b ∧ b.ldId = none ∧ s.slotOf u.val v.val = some n ∧ s.flag Reg.SPC_CH_STATUS_ON n = true) :=
  ⟨⟨2, (((ready.setFlag Reg.SPC_CH_STATUS_REQ_ON 2 true).setFlag Reg.SPC_CH_STATUS_PRSNT 2 true).setFlag Reg.SPC_BUS_STATUS_OK 0 true), by decide⟩,
   ⟨2, (ready.setFlag Reg.SPC_CH_STATUS_ON 2 true), by decide⟩,
   ⟨2, (ready.setFlag Reg.SPC_CH_STATUS_ON 2 true), by decide⟩,
   ⟨2, 2, (ready.setFlag Reg.SPC_CH_STATUS_ON 2 true), by decide⟩,
   ⟨2, 4095, (ready.setFlag Reg.SPC_CH_STATUS_ON 2 true), by decide⟩,
   ⟨2, forEach (List.range 16) (fun k s => s.setFlag Reg.SPC_BKR_PT_VALID (32 + k) false) ready, by decide⟩,
   ⟨2, (ready.setFlag Reg.SPC_CH_STATUS_ON 2 true).setFlag Reg.SPC_CH_STATUS_ACC_IDLE 2 true, by decide⟩,
   ⟨2, (ready.setFlag Reg.SPC_CH_STATUS_PGOOD 2 true).modChan 2 (fun x => { x with perstPend := true }), by decide⟩,
   ⟨2, (ready.setFlag Reg.SPC_CH_STATUS_ON 2 true).setFlag Reg.SPC_CH_STATUS_REQ_ON 2 true, by decide⟩,
   ⟨2, (ready.setFlag Reg.SPC_CH_STATUS_ON 2 true).modChan 2 (fun x => { x with openPend := true }), by decide⟩,
   ⟨2, ready.setFlag Reg.SPC_CH_STATUS_COOLING 2 true, by decide⟩,
   ⟨0, 18, 2, { port := 8, ldId := none }, slotted, by decide⟩⟩

/-- Operands and states that meet the hypotheses of PowerAndSlotCommands, clause by clause. -/
theorem PowerAndSlotCommands_witness :
    (∃ (h : Hdr) (p : Bytes) (s : State), Operating s ∧ Privileged .observe h s ∧ p.length = 0) ∧
    (∃ (f : Feed) (h : Hdr) (p : Bytes) (s : State), Operating s ∧ Privileged .operate h s ∧ p.length = 0 ∧ s.pfe.closed = some f ∧ s.feedOk (otherFeed f).val = true ∧ s.feedUnusable (otherFeed f).val = false ∧ s.pfe.want = none ∧ s.pfe.settling = false) ∧
    (∃ (h : Hdr) (p : Bytes) (s : State), Operating s ∧ Privileged .admin h s ∧ p.length = 0 ∧ s.cmd.bg.length < 16 ∧ (fun _ _ s => s.flag Reg.PFE_STATUS_ON_HOLDUP = false ∧ s.pfe.holdupTest = none) h p s) ∧
    (∃ (h : Hdr) (p : Bytes) (s : State), Operating s ∧ Privileged .observe h s ∧ p.length = 0) ∧
    (∃ (h : Hdr) (p : Bytes) (s : State), Operating s ∧ Privileged .operate h s ∧ p.length = 3 ∧ (fun _ p s => p8 p 0 < 16 ∧ p8 p 1 = 1 ∧ s.hostChan (p8 p 0) = false) h p s) ∧
    (∃ (h : Hdr) (p : Bytes) (s : State), Operating s ∧ Privileged .operate h s ∧ p.length = 3 ∧ (fun _ p s => p8 p 0 < 16 ∧ p8 p 1 = 0 ∧ s.hostChan (p8 p 0) = false ∧ 64 ≤ s.get Reg.SPC_CH_CFG_PORT (p8 p 0)) h p s) ∧
    (∃ (h : Hdr) (p : Bytes) (s : State), Operating s ∧ Privileged .operate h s ∧ p.length = 3 ∧ (fun _ p _ => p8 p 0 < 16 ∧ p8 p 1 = 2) h p s) ∧
    (∃ (h : Hdr) (p : Bytes) (s : State), Operating s ∧ Privileged .admin h s ∧ p.length = 2 ∧ (fun _ p s => p8 p 0 < 16 ∧ p8 p 1 < 64 ∧ p8 p 1 ≠ s.get Reg.SPC_CH_CFG_PORT (p8 p 0) ∧ s.chanBindRefused (p8 p 0) (p8 p 1) = false) h p s) ∧
    (∃ (h : Hdr) (p : Bytes) (s : State), Operating s ∧ Privileged .operate h s ∧ p.length = 3 ∧ (fun _ p s => p8 p 0 < 16 ∧ 1 ≤ p8 p 1 ∧ p8 p 1 < 4 ∧ 1 ≤ p8 p 2 ∧ p8 p 2 < 4 ∧ s.hostChan (p8 p 0) = false) h p s) :=
  ⟨⟨wire, [], ready, by decide⟩,
   ⟨0, wire, [], { runA with clk := ready.clk }.setFeedOk 1 true, by decide⟩,
   ⟨boss, [], ready, by decide⟩,
   ⟨wire, [], ready, by decide⟩,
   ⟨wire, [0, 1, 0], ready, by decide⟩,
   ⟨wire, [0, 0, 0], ready.set Reg.SPC_CH_CFG_PORT 0 0x7F, by decide⟩,
   ⟨wire, [0, 2, 0], ready, by decide⟩,
   ⟨boss, [0, 8], slottedFree, by decide⟩,
   ⟨wire, [0, 2, 3], ready, by decide⟩⟩

/-- Operands and states that meet the hypotheses of StartKinds, clause by clause. -/
theorem StartKinds_witness :
    (∃ (s : State), SMap.wf s.regs ∧ s.clk.phase = .off ∧ s.pfe.standbyOn = true ∧ s.clk.mrstLow = false) ∧
    (∃ (s : State), s.clk.phase ≠ .off) ∧
    (∃ (s : State), s.clk.phase ≠ .off ∧ s.clk.mrstLow = true) ∧
    (∃ (x : BitVec 8) (y : BitVec 16) (s : State), SMap.wf s.regs ∧ s.clk.phase ≠ .off ∧ s.clk.mrstLow = false ∧ s.clk.startPend = some { kind := 2, trigger := x.toNat, source := y.toNat } ∧ s.clk.commanded = false) ∧
    (∃ (x : BitVec 8) (s : State), SMap.wf s.regs ∧ s.mainUp = true ∧ s.flag Reg.FLT_STATUS_SAFE_MODULE = false ∧ s.clk.mrstLow = false ∧ s.clk.startPend = some { kind := 3, trigger := x.toNat, source := 0 } ∧ s.vlt.crucible = []) ∧
    (∃ (s : State), s.clk.phase = .released) ∧
    (∃ (s : State), s.clk.phase = .restored ∧ s.canBeReady = true) :=
  ⟨⟨onA, by decide⟩,
   ⟨ready, by decide⟩,
   ⟨{ ready with clk := { ready.clk with mrstLow := true } }, by decide⟩,
   ⟨1, 0, { ready with clk := { ready.clk with startPend := some { kind := 2, trigger := 1, source := 0 } } }, by decide⟩,
   ⟨5, { ready with clk := { ready.clk with startPend := some { kind := 3, trigger := 5, source := 0 } } }, by decide⟩,
   ⟨{ ready with clk := { ready.clk with phase := .released } }, by decide⟩,
   ⟨forEach (List.range 19) (fun i s => s.setFlag Reg.COMMON_READY i true) { ready with clk := { ready.clk with phase := .restored, lockApplied := true, startRecord := true, checkpointed := true } }, by decide⟩⟩

/-- Operands and states that meet the hypotheses of ClocksThermalJtagAndJournal, clause by clause. -/
theorem ClocksThermalJtagAndJournal_witness :
    (∃ (s : State), SMap.wf s.regs ∧ s.clk.phase ≠ .off ∧ s.clk.rootPll = true) ∧
    (∃ (s : State), s.clk.phase = .boot) ∧
    (∃ (c : Int) (s : State), s.clk.phase ≠ .off ∧ 88 ≤ c ∧ s.clk.thermN = false) ∧
    (∃ (c : Int) (s : State), s.clk.phase ≠ .off ∧ c ≤ 85 ∧ s.clk.thermN = true) ∧
    (∃ (n : Fin 33) (c : Int) (s : State), s.clk.phase ≠ .off ∧ n.val < 32 ∧ 120 ≤ c) ∧
    (∃ (c : Int) (s : State), s.clk.phase ≠ .off ∧ 98 ≤ c) ∧
    (∃ (s : State), s.clk.phase ≠ .off) ∧
    (∃ (s : State), s.clk.phase ≠ .off ∧ s.flag Reg.FLT_STATUS_TEST_EN = false) ∧
    (∃ (s : State), s.clk.phase ≠ .off) ∧
    (∃ (s : State), s.jnl.high = true ∧ s.jnl.bad = none ∧ s.clk.phase ≠ .off) ∧
    (∃ (h : Hdr) (p : Bytes) (s : State), Operating s ∧ Privileged .admin h s ∧ p.length = 0 ∧ (fun _ _ s => s.clk.startPend = none) h p s) ∧
    (∃ (h : Hdr) (p : Bytes) (s : State), Operating s ∧ Privileged .admin h s ∧ p.length = 0 ∧ s.clk.startPend = none) ∧
    (∃ (h : Hdr) (p : Bytes) (s : State), Operating s ∧ Privileged .operate h s ∧ p.length = 0) ∧
    (∃ (h : Hdr) (p : Bytes) (s : State), Operating s ∧ Privileged .admin h s ∧ p.length = 1 ∧ (fun _ p s => s.flag Reg.HLM_STATUS_LOCKED = false ∧ s.validExtents = [] ∧ s.flag Reg.SEM_TWIN_STATUS_ENABLED = false ∧ p8 p 0 = 1) h p s) :=
  ⟨⟨{ ready with clk := { ready.clk with rootPll := true } }, by decide⟩,
   ⟨{ ready with clk := { ready.clk with phase := .boot } }, by decide⟩,
   ⟨88, ready, by decide⟩,
   ⟨85, { ready with clk := { ready.clk with thermN := true } }, by decide⟩,
   ⟨3, 120, ready, by decide⟩,
   ⟨98, ready, by decide⟩,
   ⟨ready, by decide⟩,
   ⟨ready, by decide⟩,
   ⟨ready, by decide⟩,
   ⟨longJournal 7000000, longJournal_high 7000000 (Nat.le_refl _)⟩,
   ⟨boss, [], ready, by decide⟩,
   ⟨boss, [], ready, by decide⟩,
   ⟨wire, [], ready, by decide⟩,
   ⟨boss, [1], ready, by decide⟩⟩

/-- Operands and states that meet the hypotheses of MeasuredBootAndLedger, clause by clause. -/
theorem MeasuredBootAndLedger_witness :
    (∃ (a : Bool) (b : Bool) (i : Nat) (s : State), SMap.wf s.regs ∧ s.clk.phase = .boot ∧ s.hlm.trialSlot = none ∧ s.hlm.committed = i ∧ i ≤ 1 ∧ (if i = 0 then a else b) = true ∧ s.slotBoots i = true ∧ s.jnl = Journal.reset ∧ s.hlm.ledger = [] ∧ s.hlm.torn = [] ∧ s.hlm.gapLost = none ∧ s.hlm.dropped = 0 ∧ s.get Reg.HLM_LEDGER_HEAD = 0) ∧
    (∃ (s : State), s.clk.phase = .boot ∧ s.hlm.trialSlot = none) ∧
    (∃ (s : State), SMap.wf s.regs ∧ s.clk.phase = .keyed ∧ s.clk.rootPll = true ∧ s.flag Reg.FLT_STATUS_SAFE_MODULE = false) ∧
    (∃ (x : Nat) (y : Nat) (s : State), s.tim.anchor = some (1, x, y) ∧ s.hlmRuns = true) ∧
    (∃ (o : Occasion) (r : List Occasion) (s : State), SMap.wf s.regs ∧ s.hlm.due = o :: r ∧ s.hlmRuns = true ∧ s.hlm.torn = [] ∧ s.ledgerFull = false ∧ s.hlm.pend = [] ∧ s.pfe.imminent = false ∧ s.hlm.gapLost = none ∧ s.hlm.dropped = 0 ∧ o.kind < 16 ∧ o.flags % 16 = 0) ∧
    (∃ (s : State), s.ledgerFull = false ∧ s.clk.phase = .ledgerHold) ∧
    (∃ (s : State), s.flag Reg.HLM_STATUS_TRIAL = true ∧ s.clk.phase = .released) :=
  ⟨⟨true, false, 0, { State.reset with clk := { Clk.reset with phase := .boot } }, by decide⟩,
   ⟨{ State.reset with clk := { Clk.reset with phase := .boot } }, by decide⟩,
   ⟨{ State.reset with clk := { Clk.reset with phase := .keyed, rootPll := true } }, by decide⟩,
   ⟨5, 6, { ready with tim := { Tim.reset with anchor := some (1, 5, 6) } }, by decide⟩,
   ⟨{ kind := 4, flags := 0, cause := [], area := [], time := none }, [], { ready with hlm := { Hlm.reset with due := [{ kind := 4, flags := 0, cause := [], area := [], time := none }] } }, by decide⟩,
   ⟨{ State.reset with clk := { Clk.reset with phase := .ledgerHold } }, by decide⟩,
   ⟨{ ready with clk := { ready.clk with phase := .released } }.setFlag Reg.HLM_STATUS_TRIAL 0 true, by decide⟩⟩

/-- Operands and states that meet the hypotheses of SessionsAndKeys, clause by clause. -/
theorem SessionsAndKeys_witness :
    (∃ (s : State), s.hlmRuns = true) ∧
    (∃ (s : State), s.hlmRuns = true) ∧
    (∃ (l : SpdmLink) (s : State), s.hlmRuns = true ∧ s.hlm.sessions.length < 16 ∧ s.sessionsOn l < 4) ∧
    (∃ (l : SpdmLink) (id : Nat) (d : Bytes) (s : State), s.hlmRuns = true ∧ (s.sessionBy l id false).isSome = true ∧ d ≠ zeroHash ∧ d ∈ s.hlm.mgmtRoots) ∧
    (∃ (u : Port) (id : Nat) (key : Bytes) (s : State), s.hlmRuns = true ∧ (s.sessionBy (.doePf u) id true).isSome = true ∧ key.length = 48) ∧
    (∃ (u : Port) (id : Nat) (key : Bytes) (s : State), SMap.wf s.regs ∧ s.hlmRuns = true ∧ (s.sessionBy (.doeUsp u) id true).isSome = true ∧ s.isUsp u.val = true ∧ key.length = 32) :=
  ⟨⟨ready, by decide⟩,
   ⟨ready, by decide⟩,
   ⟨.mctp wire.req, ready, by decide⟩,
   ⟨.mctp wire.req, 1, List.replicate 48 7, { ready with hlm := { ready.hlm with mgmtRoots := [List.replicate 48 7, zeroHash], sessions := [{ id := 1, link := .mctp wire.req, opened := false, leaf := [], admin := false, factory := false }] } }, by decide⟩,
   ⟨0, 1, List.replicate 48 1, { ready with hlm := { ready.hlm with sessions := [{ id := 1, link := .doePf 0, opened := true, leaf := [], admin := false, factory := false }] } }, by decide⟩,
   ⟨0, 1, List.replicate 32 1, { (ready.set Reg.PRT_PORT_CFG_ROLE 0 1) with hlm := { ready.hlm with sessions := [{ id := 1, link := .doeUsp 0, opened := true, leaf := [], admin := false, factory := false }] } }, by decide⟩⟩

/-- Operands and states that meet the hypotheses of HallmarkCommands, clause by clause. -/
theorem HallmarkCommands_witness :
    (∃ (h : Hdr) (p : Bytes) (s : State), Operating s ∧ Privileged .observe h s ∧ p.length = 0) ∧
    (∃ (h : Hdr) (p : Bytes) (s : State), Operating s ∧ Privileged .observe h s ∧ p.length = 5 ∧ (fun _ p s => p8 p 4 = 1 ∧ (SMap.find s.hlm.ledger (p32 p 0)).isSome = true) h p s) ∧
    (∃ (h : Hdr) (p : Bytes) (s : State), Operating s ∧ Privileged .operate h s ∧ p.length = 4 ∧ (fun _ p s => p32 p 0 < s.ledgerHead) h p s) ∧
    (∃ (h : Hdr) (p : Bytes) (s : State), Operating s ∧ Privileged .observe h s ∧ p.length = 8 ∧ 4 ≤ p32 p 4 ∧ p32 p 4 ≤ 4064) ∧
    (∃ (h : Hdr) (p : Bytes) (s : State), Operating s ∧ Privileged .admin h s ∧ p.length = 1 ∧ (fun _ p s => p8 p 0 ≤ 1 ∧ p8 p 0 ≠ s.get Reg.HLM_STATUS_SLOT ∧ s.hlm.verifying = none ∧ s.hlm.trialSlot = none ∧ s.hlm.trialNext = none) h p s) ∧
    (∃ (i : Nat) (h : Hdr) (p : Bytes) (s : State), Operating s ∧ Privileged .admin h s ∧ 8 ≤ p.length ∧ p.length ≤ 4096 ∧ s.hlm.target = some i ∧ (s.slotAt? i).written ≤ p32 p 0 ∧ p32 p 0 + (p.length - 8) ≤ 2 ^ 24 ∧ i ≠ s.get Reg.HLM_STATUS_SLOT ∧ s.hlm.verifying = none ∧ s.hlm.trialSlot = none ∧ s.hlm.trialNext = none) ∧
    (∃ (h : Hdr) (p : Bytes) (s : State), Operating s ∧ Privileged .admin h s ∧ p.length = 1 ∧ s.cmd.bg.length < 16 ∧ (fun _ p s => p8 p 0 ≤ 1 ∧ p8 p 0 ≠ s.get Reg.HLM_STATUS_SLOT ∧ s.hlm.verifying = none) h p s) ∧
    (∃ (h : Hdr) (p : Bytes) (s : State), Operating s ∧ Privileged .admin h s ∧ p.length = 2 ∧ (fun _ p s => p8 p 0 ≤ 1 ∧ p8 p 1 = 0 ∧ (s.slotAt? (p8 p 0)).valid = true ∧ p8 p 0 ≠ s.get Reg.HLM_STATUS_SLOT ∧ s.flag Reg.HLM_STATUS_TRIAL = false) h p s) ∧
    (∃ (h : Hdr) (p : Bytes) (s : State), Operating s ∧ Privileged .admin h s ∧ p.length = 0 ∧ SMap.wf s.regs ∧ s.flag Reg.HLM_STATUS_TRIAL = true ∧ s.clk.startPend = none) ∧
    (∃ (x : Bool) (h : Hdr) (p : Bytes) (s : State), Operating s ∧ Privileged .admin h s ∧ p.length = 0 ∧ s.flag Reg.HLM_STATUS_LOCKED = !x) ∧
    (∃ (h : Hdr) (p : Bytes) (s : State), Operating s ∧ Privileged .admin h s ∧ p.length = 52 ∧ (fun _ p s => s.flag Reg.HLM_STATUS_LOCKED = false ∧ p8 p 0 = 0 ∧ p8 p 1 < 2) h p s) ∧
    (∃ (h : Hdr) (p : Bytes) (s : State), Operating s ∧ Privileged .admin h s ∧ p.length = 52 ∧ (fun _ p s => s.flag Reg.HLM_STATUS_LOCKED = false ∧ p8 p 0 = 1 ∧ p8 p 1 < 4) h p s) :=
  ⟨⟨wire, [], ready, by decide⟩,
   ⟨wire, [0, 0, 0, 0, 1], { ready with hlm := { ready.hlm with ledger := [(0, [1, 2, 3])] } }, by decide⟩,
   ⟨wire, [0, 0, 0, 0], { ready with hlm := { ready.hlm with ledger := [(0, [1, 2, 3])] } }.set Reg.HLM_LEDGER_HEAD 0 1, by decide⟩,
   ⟨wire, [0, 0, 0, 0, 4, 0, 0, 0], ready, by decide⟩,
   ⟨boss, [1], ready, by decide⟩,
   ⟨1, boss, [0, 0, 0, 0, 0, 0, 0, 0, 5], { ready with hlm := { ready.hlm with target := some 1 } }, by decide⟩,
   ⟨boss, [1], ready, by decide⟩,
   ⟨boss, [1, 0], { ready with hlm := { ready.hlm with slots := [FwSlot.empty, { FwSlot.empty with valid := true }] } }, by decide⟩,
   ⟨boss, [], ready.setFlag Reg.HLM_STATUS_TRIAL 0 true, by decide⟩,
   ⟨true, boss, [], ready, by decide⟩,
   ⟨boss, List.replicate 52 0, ready, by decide⟩,
   ⟨boss, [1, 3] ++ List.replicate 50 0, ready, by decide⟩⟩

/-- Operands and states that meet the hypotheses of TimeDiscipline, clause by clause. -/
theorem TimeDiscipline_witness :
    (∃ (d : Nat) (s : State), s.clk.phase ≠ .off ∧ s.flag Reg.TIM_CTL_PTP_EN = true ∧ d = s.tim.domain) ∧
    (∃ (m : Nat) (x : Master) (s : State), s.clk.phase ≠ .off ∧ s.flag Reg.TIM_CTL_PTP_EN = true ∧ s.tim.master = some x ∧ x.ident = m) ∧
    (∃ (y : Int) (x : Master) (s : State), SMap.wf s.regs ∧ s.clk.phase ≠ .off ∧ s.flag Reg.TIM_CTL_PTP_EN = true ∧ s.tim.master = some x ∧ s.usesPtp = true ∧ s.servo = servoLocked ∧ y ≤ 4 * ((s.get Reg.TIM_SERVO_LOCK_NS : Int) * nsUnit) ∧ -(4 * ((s.get Reg.TIM_SERVO_LOCK_NS : Int) * nsUnit)) ≤ y) ∧
    (∃ (s : State), s.clk.phase ≠ .off ∧ s.flag Reg.TIM_CTL_PPS_IN_EN = true ∧ s.tim.secondsKnown = true ∧ s.tim.ppsDiscard = true) ∧
    (∃ (s : State), s.clk.phase ≠ .off ∧ s.flag Reg.TIM_CTL_PPS_IN_EN = true ∧ s.tim.secondsKnown = true ∧ s.tim.ppsDiscard = false ∧ s.tim.master = none ∧ s.get Reg.TIM_STATUS_SRC = 1 ∧ s.servo = servoLocked ∧ s.ppsOffset ≤ 4 * ((s.get Reg.TIM_SERVO_LOCK_NS : Int) * nsUnit) ∧ -(4 * ((s.get Reg.TIM_SERVO_LOCK_NS : Int) * nsUnit)) ≤ s.ppsOffset) ∧
    (∃ (s : State), SMap.wf s.regs ∧ s.servo = servoAcquire ∧ 16 ≤ s.tim.good ∧ s.tim.lockedOnce = false) ∧
    (∃ (s : State), SMap.wf s.regs ∧ s.servo = servoLocked ∧ s.get Reg.TIM_STATUS_SRC = 1) ∧
    (∃ (s : State), SMap.wf s.regs ∧ s.servo = servoHoldover) ∧
    (∃ (s : State), s.flag Reg.TIM_CTL_PPS_OUT_EN = true ∧ s.quality ≠ 0) ∧
    (∃ (h : Hdr) (p : Bytes) (s : State), Operating s ∧ Privileged .observe h s ∧ p.length = 0) ∧
    (∃ (h : Hdr) (p : Bytes) (s : State), Operating s ∧ Privileged .operate h s ∧ p.length = 16 ∧ (fun _ p _ => p8 p 0 = 0 ∧ p8 p 1 ≤ 127) h p s) ∧
    (∃ (h : Hdr) (p : Bytes) (s : State), Operating s ∧ Privileged .admin h s ∧ p.length = 12 ∧ (fun _ p s => fieldAt p 2 4 < 1000000000 ∧ s.servo = servoFree) h p s) :=
  ⟨⟨0, ready.setFlag Reg.TIM_CTL_PTP_EN 0 true, by decide⟩,
   ⟨9, { ident := 9, priority := 1, count := 3, steps := 0 }, { (ready.setFlag Reg.TIM_CTL_PTP_EN 0 true) with tim := { Tim.reset with master := some { ident := 9, priority := 1, count := 3, steps := 0 } } }, by decide⟩,
   ⟨3, { ident := 9, priority := 1, count := 3, steps := 0 }, { ((ready.setFlag Reg.TIM_CTL_PTP_EN 0 true).set Reg.TIM_STATUS_STATE 0 2) with tim := { Tim.reset with master := some { ident := 9, priority := 1, count := 3, steps := 0 } } }, by decide⟩,
   ⟨{ (ready.setFlag Reg.TIM_CTL_PPS_IN_EN 0 true) with tim := { Tim.reset with secondsKnown := true, ppsDiscard := true } }, by decide⟩,
   ⟨{ (((ready.setFlag Reg.TIM_CTL_PPS_IN_EN 0 true).set Reg.TIM_STATUS_STATE 0 2).set Reg.TIM_STATUS_SRC 0 1) with tim := { Tim.reset with secondsKnown := true } }, by decide⟩,
   ⟨{ (ready.set Reg.TIM_STATUS_STATE 0 1) with tim := { Tim.reset with good := 16, shadow := 1000 } }, by decide⟩,
   ⟨(ready.set Reg.TIM_STATUS_STATE 0 2).set Reg.TIM_STATUS_SRC 0 1, by decide⟩,
   ⟨(ready.set Reg.TIM_STATUS_STATE 0 3).set Reg.TIM_STATUS_QUALITY 0 1, by decide⟩,
   ⟨(ready.setFlag Reg.TIM_CTL_PPS_OUT_EN 0 true).set Reg.TIM_STATUS_QUALITY 0 2, by decide⟩,
   ⟨wire, [], ready, by decide⟩,
   ⟨wire, List.replicate 16 0, ready, by decide⟩,
   ⟨boss, List.replicate 12 0, ready, by decide⟩⟩

/-- Operands and states that meet the hypotheses of TranscriptRecording, clause by clause. -/
theorem TranscriptRecording_witness :
    (∃ (s : State), s.mainUp = true ∧ s.trec.gapFrom = none ∧ s.trec.bufBytes + 8192 ≤ 262144 ∧ s.trec.frozen = none ∧ s.trec.replay = none) ∧
    (∃ (s : State), SMap.wf s.regs ∧ s.mainUp = true ∧ 262144 ≤ s.trec.bufBytes) ∧
    (∃ (s : State), s.mainUp = false) ∧
    (∃ (s : State), s.clk.phase = .ready) ∧
    (∃ (f : Nat) (s : State), s.mainUp = true ∧ s.trec.gapFrom = some f ∧ s.trec.gapCause = 2) ∧
    (∃ (a : Nat) (b : Nat) (s : State), s.trec.records.any (fun r => decide (a ≤ r.seq) && decide (r.seq ≤ b)) = true) :=
  ⟨⟨ready, by decide⟩,
   ⟨{ ready with trec := { Rec.reset with bufBytes := 262144 } }, by decide⟩,
   ⟨State.reset, by decide⟩,
   ⟨ready, by decide⟩,
   ⟨3, { ready with trec := { Rec.reset with gapFrom := some 3, gapCause := 2, gapCount := 4, next := 7 } }, by decide⟩,
   ⟨0, 5, { ready with trec := { Rec.reset with next := 2, records := [{ typ := 6, flags := 0, seq := 1, time := 0, quality := 0, epoch := 0, boot := 0, payload := [], bad := false }] } }, by decide⟩⟩

/-- Operands and states that meet the hypotheses of TranscriptCommandsAndReplay, clause by clause. -/
theorem TranscriptCommandsAndReplay_witness :
    (∃ (h : Hdr) (p : Bytes) (s : State), Operating s ∧ Privileged .observe h s ∧ p.length = 0) ∧
    (∃ (r : TRec) (h : Hdr) (p : Bytes) (s : State), Operating s ∧ Privileged .observe h s ∧ p.length = 16 ∧ (request 0xCB01 .observe h p s).trec.at (p64 p 0) = some r ∧ r.bad = false ∧ 4 ≤ p32 p 12 ∧ p32 p 12 ≤ 4064 ∧ p32 p 8 + p32 p 12 ≤ r.len) ∧
    (∃ (u : Nat) (h : Hdr) (p : Bytes) (s : State), Operating s ∧ Privileged .operate h s ∧ p.length = 24 ∧ s.cmd.bg.length < 16 ∧ s.mgmtUsp = some u ∧ (request 0xCB02 .operate h p s).trec.oldest ≤ p64 p 0 ∧ p64 p 0 ≤ p64 p 8 ∧ p64 p 8 < (request 0xCB02 .operate h p s).trec.next ∧ p64 p 16 % 4096 = 0 ∧ (request 0xCB02 .operate h p s).trec.records.all (fun r => !r.bad) = true) ∧
    (∃ (h : Hdr) (p : Bytes) (s : State), Operating s ∧ Privileged .operate h s ∧ p.length = 16 ∧ (fun _ p _ => bitOf (p8 p 0) 0 = true) h p s) ∧
    (∃ (h : Hdr) (p : Bytes) (s : State), Operating s ∧ Privileged .operate h s ∧ p.length = 16 ∧ (fun _ p _ => bitOf (p8 p 0) 0 = false) h p s) ∧
    (∃ (h : Hdr) (p : Bytes) (s : State), Operating s ∧ Privileged .operate h s ∧ p.length = 0 ∧ s.cmd.bg.length < 16) ∧
    (∃ (c : TRec) (z : TRec) (h : Hdr) (p : Bytes) (s : State), Operating s ∧ Privileged .operate h s ∧ p.length = 16 ∧ s.cmd.bg.length < 16 ∧ (request 0xCB10 .operate h p s).trec.at (p64 p 0) = some c ∧ c.typ = 0x02 ∧ fieldAt c.payload 0 2 = 0 ∧ p64 p 0 ≤ p64 p 8 ∧ p64 p 8 < (request 0xCB10 .operate h p s).trec.next ∧ (request 0xCB10 .operate h p s).trec.startOf (p64 p 0) = some z ∧ s.sameImage z = true ∧ s.cmd.cores.all id = true ∧ s.trec.replay = none ∧ 131072 ≤ s.get Reg.VLT_UNALLOC_FREE) ∧
    (∃ (h : Hdr) (p : Bytes) (s : State), Operating s ∧ Privileged .observe h s ∧ p.length = 0) ∧
    (∃ (r : Replay) (h : Hdr) (p : Bytes) (s : State), Operating s ∧ Privileged .operate h s ∧ p.length = 0 ∧ s.trec.replay = some r) ∧
    (∃ (r : Replay) (s : State), SMap.wf s.regs ∧ s.trec.replay = some r) :=
  ⟨⟨wire, [], ready, by decide⟩,
   ⟨{ typ := 3, flags := 4, seq := 0, time := 0, quality := 0, epoch := 0, boot := 0, payload := [0, 2, 0x20, 0, 0, 0, 0, 0] ++ mkPacket 0 0xCB01 7 3 0 [0, 0, 0, 0, 0, 0, 0, 0, 0, 0, 0, 0, 4, 0, 0, 0], bad := false }, wire, [0, 0, 0, 0, 0, 0, 0, 0, 0, 0, 0, 0, 4, 0, 0, 0], ready, by set_option maxRecDepth 20000 in decide⟩,
   ⟨0, wire, List.replicate 24 0, (ready.set Reg.PRT_PORT_CFG_ROLE 0 1).setFlag Reg.PRT_PORT_CFG_MGMT_USP 0 true, by decide⟩,
   ⟨wire, [1, 0, 0, 0, 0, 0, 0, 0, 5, 0, 0, 0, 0, 0, 0, 0], ready, by decide⟩,
   ⟨wire, [0, 0, 0, 0, 0, 0, 0, 0, 5, 0, 0, 0, 0, 0, 0, 0], ready, by decide⟩,
   ⟨wire, [], ready, by decide⟩,
   ⟨{ typ := 2, flags := 0, seq := 1, time := 0, quality := 0, epoch := 0, boot := 0, payload := [0, 0], bad := false }, { typ := 1, flags := 0, seq := 0, time := 0, quality := 0, epoch := 0, boot := 0, payload := [], bad := false }, wire, [1, 0, 0, 0, 0, 0, 0, 0, 1, 0, 0, 0, 0, 0, 0, 0], { (ready.set Reg.VLT_UNALLOC_FREE 0 200000) with trec := { Rec.reset with next := 2, records := [{ typ := 2, flags := 0, seq := 1, time := 0, quality := 0, epoch := 0, boot := 0, payload := [0, 0], bad := false }, { typ := 1, flags := 0, seq := 0, time := 0, quality := 0, epoch := 0, boot := 0, payload := [], bad := false }] } }, by decide⟩,
   ⟨wire, [], ready, by decide⟩,
   ⟨{ bgId := 4, first := 0, last := 1, done := 0, commits := 0 }, wire, [], { ready with trec := { Rec.reset with replay := some { bgId := 4, first := 0, last := 1, done := 0, commits := 0 } } }, by decide⟩,
   ⟨{ bgId := 4, first := 0, last := 1, done := 0, commits := 0 }, { ready with trec := { Rec.reset with replay := some { bgId := 4, first := 0, last := 1, done := 0, commits := 0 } } }, by decide⟩⟩

/-- Operands and states that meet the hypotheses of FaultCollection, clause by clause. -/
theorem FaultCollection_witness :
    (∃ (e : FltEvent) (s : State), SMap.wf s.regs ∧ s.clk.phase ≠ .off ∧ s.nextEvent = some e ∧ e.count = 1 ∧ e.cls = contained ∧ e.src ≠ 0x0109 ∧ s.mergeInto e false = none ∧ s.quenchMatch e.src e.cls e.evt = none ∧ s.get Reg.FLT_HIST_TAIL_UNREAD < 63) ∧
    (∃ (e : FltEvent) (s : State), SMap.wf s.regs ∧ s.clk.phase ≠ .off ∧ s.nextEvent = some e ∧ e.count = 1 ∧ e.cls = fatal ∧ e.injected = false ∧ e.src = 0x0B00 ∧ s.mergeInto e false = none ∧ s.quenchMatch e.src e.cls e.evt = none ∧ s.flt.safeMover = false ∧ s.flt.flush = none ∧ s.flt.dump = none ∧ s.flt.erase = none ∧ s.pfe.imminent = false) ∧
    (∃ (src : BitVec 16) (i : Nat) (q : QSlot) (s : State), s.slotOfSrc src.toNat = some (i, q) ∧ SMap.find s.flt.slots i = some q ∧ q.promo ≠ 0 ∧ q.state ≠ .observe) ∧
    (∃ (src : BitVec 16) (i : Nat) (q : QSlot) (s : State), SMap.wf s.flt.slots ∧ s.slotOfSrc src.toNat = some (i, q) ∧ SMap.find s.flt.slots i = some q ∧ q.promo ≠ 0 ∧ q.state = .observe ∧ q.holds = []) ∧
    (∃ (src : BitVec 16) (i : Nat) (q : QSlot) (r : FltRec) (s : State), s.slotOfSrc src.toNat = some (i, q) ∧ SMap.find s.flt.slots i = some q ∧ q.src = src.toNat ∧ q.state = .grace ∧ s.get Reg.FLT_QENTRY_QUENCH q.entry = 0x20 ∧ s.newestOf src.toNat = some r ∧ r.injected = false ∧ r.src = src.toNat) ∧
    (∃ (x : Flush) (d : Dump) (s : State), s.flt.flush = some x ∧ s.flt.dump = some d ∧ x.waits = false ∧ x.noMain = false ∧ s.mainUp = true ∧ s.stagingLost = false ∧ x.thenReset = none ∧ s.flag Reg.FLT_CTL_AUTO_RESET = false) ∧
    (∃ (id : Nat) (s : State), s.flt.erase = some id ∧ s.flt.flush = none) ∧
    (∃ (m : Nat) (n : Nat) (s : State), s.mainUp = true ∧ s.cmd.pair = [m, n] ∧ s.clk.modReady = false) ∧
    (∃ (s : State), s.mainUp = true ∧ s.cmd.pair = [0, 1] ∧ s.cmd.cores = [true, true, true] ∧ s.clk.modReady = true ∧ s.trec.replay = none) ∧
    (∃ (c : Nat) (s : State), SMap.wf s.regs ∧ s.cmd.failover = some c ∧ c < 3 ∧ s.tbl.waits = [] ∧ s.cmd.bg = [] ∧ s.cmd.heldNotify = []) :=
  ⟨⟨{ src := 0x0B02, cls := 2, evt := 1, ctx := [], syn := [], injected := false, tick := 0, count := 1, openOp := false, ended := false }, { ((ready.setFlag Reg.FLT_QENTRY_VALID 5 false).setFlag Reg.FLT_QENTRY_VALID 6 false) with flt := { Flt.reset with waiting := [{ src := 0x0B02, cls := 2, evt := 1, ctx := [], syn := [], injected := false, tick := 0, count := 1, openOp := false, ended := false }] } }, by decide⟩,
   ⟨{ src := 0x0B00, cls := 3, evt := 1, ctx := [], syn := [], injected := false, tick := 0, count := 1, openOp := false, ended := false }, { ((ready.setFlag Reg.FLT_QENTRY_VALID 5 false).setFlag Reg.FLT_QENTRY_VALID 6 false) with flt := { Flt.reset with waiting := [{ src := 0x0B00, cls := 3, evt := 1, ctx := [], syn := [], injected := false, tick := 0, count := 1, openOp := false, ended := false }] } }, by decide⟩,
   ⟨0x0301, 4, { src := 0x0301, state := .settled, entry := 0, graceTick := 0, esc := 0, promo := 2, holds := [], age := 0 }, { ready with flt := { Flt.reset with slots := [(4, { src := 0x0301, state := .settled, entry := 0, graceTick := 0, esc := 0, promo := 2, holds := [], age := 0 })] } }, by decide⟩,
   ⟨0x0301, 4, { src := 0x0301, state := .observe, entry := 0, graceTick := 0, esc := 0, promo := 2, holds := [], age := 0 }, { ready with flt := { Flt.reset with slots := [(4, { src := 0x0301, state := .observe, entry := 0, graceTick := 0, esc := 0, promo := 2, holds := [], age := 0 })] } }, by decide⟩,
   ⟨0x0301, 4, { src := 0x0301, state := .grace, entry := 9, graceTick := 0, esc := 1, promo := 0, holds := [], age := 0 }, { time := 0, src := 0x0301, cls := 2, quality := 0, promoted := false, injected := false, repeats := 0, evt := 0, syn := [], ctx := [], tick := 0, openOp := false }, { ((ready.set Reg.FLT_QENTRY_QUENCH 9 0x20).set Reg.FLT_HIST_HEAD_INDEX 0 1) with flt := { Flt.reset with slots := [(4, { src := 0x0301, state := .grace, entry := 9, graceTick := 0, esc := 1, promo := 0, holds := [], age := 0 })], hist := [(0, { time := 0, src := 0x0301, cls := 2, quality := 0, promoted := false, injected := false, repeats := 0, evt := 0, syn := [], ctx := [], tick := 0, openOp := false })] } }, by decide⟩,
   ⟨{ trigger := { time := 0, src := 0x0301, cls := 3, quality := 0, promoted := false, injected := false, repeats := 0, evt := 0, syn := [], ctx := [], tick := 0, openOp := false }, waits := false, noMain := false, injected := false, thenReset := none }, { trigger := { time := 0, src := 0x0301, cls := 3, quality := 0, promoted := false, injected := false, repeats := 0, evt := 0, syn := [], ctx := [], tick := 0, openOp := false }, boot := 0, after := 0, sizes := [], sections := [[]], ended := false, complete := false }, { ready with flt := { Flt.reset with flush := some { trigger := { time := 0, src := 0x0301, cls := 3, quality := 0, promoted := false, injected := false, repeats := 0, evt := 0, syn := [], ctx := [], tick := 0, openOp := false }, waits := false, noMain := false, injected := false, thenReset := none }, dump := some { trigger := { time := 0, src := 0x0301, cls := 3, quality := 0, promoted := false, injected := false, repeats := 0, evt := 0, syn := [], ctx := [], tick := 0, openOp := false }, boot := 0, after := 0, sizes := [], sections := [[]], ended := false, complete := false } } }, by decide⟩,
   ⟨1, { ready with flt := { Flt.reset with erase := some 1 } }, by decide⟩,
   ⟨0, 1, { ready with clk := { ready.clk with modReady := false } }, by decide⟩,
   ⟨ready, by decide⟩,
   ⟨0, { ready with cmd := { Cmd.reset with cores := [false, true, true], pair := [1, 2], failover := some 0 } }, by decide⟩⟩

/-- Operands and states that meet the hypotheses of FaultCommands, clause by clause. -/
theorem FaultCommands_witness :
    (∃ (h : Hdr) (p : Bytes) (s : State), Operating s ∧ Privileged .observe h s ∧ p.length = 0) ∧
    (∃ (h : Hdr) (p : Bytes) (s : State), Operating s ∧ Privileged .observe h s ∧ p.length = 2 ∧ (fun _ p _ => p8 p 0 < 64 ∧ 1 ≤ p8 p 1 ∧ p8 p 1 ≤ 64) h p s) ∧
    (∃ (h : Hdr) (p : Bytes) (s : State), Operating s ∧ Privileged .operate h s ∧ p.length = 1 ∧ (fun _ p s => p8 p 0 < 64 ∧ p8 p 0 = s.get Reg.FLT_HIST_HEAD_INDEX) h p s) ∧
    (∃ (h : Hdr) (p : Bytes) (s : State), Operating s ∧ Privileged .observe h s ∧ p.length = 4 ∧ (fun _ p _ => 0x0100 ≤ p16 p 0 ∧ p16 p 0 ≤ 0x12FF ∧ 1 ≤ p16 p 2 ∧ p16 p 2 ≤ 1016 ∧ p16 p 0 + p16 p 2 ≤ 0x1300) h p s) ∧
    (∃ (h : Hdr) (p : Bytes) (s : State), Operating s ∧ Privileged .operate h s ∧ p.length = 2 ∧ (fun h p s => bitOf (p8 p 0) 0 = true ∧ 1 ≤ p8 p 1 ∧ p8 p 1 ≤ 3 ∧ (s.cmd.subs.filter (fun x => x.1 != h.req)).length < 8) h p s) ∧
    (∃ (h : Hdr) (p : Bytes) (s : State), Operating s ∧ Privileged .observe h s ∧ p.length = 2 ∧ (fun _ p _ => 1 ≤ p8 p 1 ∧ p8 p 0 + p8 p 1 ≤ 256) h p s) ∧
    (∃ (i : Nat) (q : QSlot) (h : Hdr) (p : Bytes) (s : State), Operating s ∧ Privileged .operate h s ∧ p.length = 2 ∧ s.slotOfSrc (p16 p 0) = some (i, q) ∧ SMap.find s.flt.slots i = some q ∧ q.state = .quenched ∧ q.holds ≠ []) ∧
    (∃ (i : Nat) (q : QSlot) (h : Hdr) (p : Bytes) (s : State), SMap.wf s.flt.slots ∧ Operating s ∧ Privileged .operate h s ∧ p.length = 2 ∧ s.slotOfSrc (p16 p 0) = some (i, q) ∧ SMap.find s.flt.slots i = some q ∧ q.state = .settled ∧ q.holds = [.faultN] ∧ q.promo = 0) ∧
    (∃ (h : Hdr) (p : Bytes) (s : State), Operating s ∧ Privileged .observe h s ∧ p.length = 8 ∧ (fun _ p s => 4 ≤ p32 p 4 ∧ p32 p 4 ≤ 4064 ∧ p32 p 4 % 4 = 0 ∧ p32 p 0 + p32 p 4 ≤ 0x800000 ∧ s.flt.erase = none) h p s) ∧
    (∃ (h : Hdr) (p : Bytes) (s : State), Operating s ∧ Privileged .admin h s ∧ p.length = 0 ∧ s.cmd.bg.length < 16 ∧ (fun _ _ s => s.flt.flush = none ∧ s.flt.erase = none) h p s) ∧
    (∃ (h : Hdr) (p : Bytes) (s : State), s.clk.phase ≠ .off ∧ s.flag Reg.FLT_STATUS_SAFE_MODULE = true ∧ transportWired h.req.transport = true ∧ Privileged .admin h s ∧ p.length = 0 ∧ s.flt.flush = none) ∧
    (∃ (h : Hdr) (p : Bytes) (s : State), Operating s ∧ Privileged .operate h s ∧ p.length = 112 ∧ transportWired h.req.transport = true ∧ s.flag Reg.FLT_STATUS_TEST_EN = true ∧ s.flag Reg.HLM_STATUS_LOCKED = false ∧ s.flag Reg.FLT_STATUS_TOUCHSTONE = false ∧ p64 p 0 = Config.deviceSerial.toNat ∧ p32 p 8 = s.get Reg.HLM_BOOT_COUNTER) ∧
    (∃ (h : Hdr) (p : Bytes) (s : State), Operating s ∧ Privileged .factory h s ∧ p.length = 16 ∧ (fun _ p s => s.flag Reg.FLT_STATUS_TOUCHSTONE = true ∧ p8 p 0 = 5 ∧ p8 p 1 = 1 ∧ p8 (p.drop 8) 0 < 5) h p s) ∧
    (∃ (x : Injection) (xs : List Injection) (s : State), s.flt.inject = x :: xs ∧ x.kind = 5 ∧ 2 ≤ x.left) :=
  ⟨⟨wire, [], ready, by decide⟩,
   ⟨wire, [2, 3], ready, by decide⟩,
   ⟨wire, [5], ready.set Reg.FLT_HIST_HEAD_INDEX 0 5, by decide⟩,
   ⟨wire, [0, 1, 2, 0], ready, by decide⟩,
   ⟨wire, [1, 2], ready, by decide⟩,
   ⟨wire, [254, 2], ready, by decide⟩,
   ⟨4, { src := 0x0301, state := .quenched, entry := 0, graceTick := 0, esc := 0, promo := 0, holds := [.faultN], age := 0 }, wire, [1, 3], { ready with flt := { Flt.reset with slots := [(4, { src := 0x0301, state := .quenched, entry := 0, graceTick := 0, esc := 0, promo := 0, holds := [.faultN], age := 0 })] } }, by decide⟩,
   ⟨4, { src := 0x0301, state := .settled, entry := 0, graceTick := 0, esc := 0, promo := 0, holds := [.faultN], age := 0 }, wire, [1, 3], { ready with flt := { Flt.reset with slots := [(4, { src := 0x0301, state := .settled, entry := 0, graceTick := 0, esc := 0, promo := 0, holds := [.faultN], age := 0 })] } }, by decide⟩,
   ⟨wire, [0, 0, 0, 0, 8, 0, 0, 0], ready, by decide⟩,
   ⟨boss, [], ready, by decide⟩,
   ⟨boss, [], ready.setFlag Reg.FLT_STATUS_SAFE_MODULE 0 true, by decide⟩,
   ⟨wire, leBytes 8 Config.deviceSerial.toNat ++ List.replicate 104 0, touchable, touchable_token⟩,
   ⟨{ wire with session := some 1 }, [5, 1, 0, 0, 0, 0, 0, 0, 3, 0, 0, 0, 0, 0, 0, 0], { (ready.setFlag Reg.FLT_STATUS_TOUCHSTONE 0 true) with hlm := { Hlm.reset with sessions := [{ id := 1, link := .mctp wire.req, opened := true, leaf := [], admin := true, factory := true }] } }, by decide⟩,
   ⟨{ kind := 5, left := 2, delay := 8, arg := [3] }, [], { ready with flt := { Flt.reset with inject := [{ kind := 5, left := 2, delay := 8, arg := [3] }] } }, by decide⟩⟩

/-- Operands and states that meet the hypotheses of CommandReception, clause by clause. -/
theorem CommandReception_witness :
    (∃ (q : Priv) (r : Requester) (k : Bytes) (s : State), s.clk.phase ≠ .off ∧ r.transport ≠ .mailbox ∧ framing k = none ∧ opPriv (pktOpcode k) = some q ∧ bitOf (pktFlags k) 2 = false ∧ s.cmd.chainOf r (pktContext k) = none ∧ s.cmd.queuedOn r.transport < 16) ∧
    (∃ (r : Requester) (k : Bytes) (s : State), s.clk.phase ≠ .off ∧ transportWired r.transport = true ∧ framing k = some stBadCheck) ∧
    (∃ (x : Chain) (q : Queued) (r : Requester) (c : BitVec 16) (s : State), s.cmd.chainOf r c.toNat = some x ∧ x.cmds = [q]) ∧
    (∃ (q : Priv) (u : Nat) (k : Bytes) (s : State), s.mainUp = true ∧ s.mgmtUsp = some u ∧ s.cmd.mbx.busy = false ∧ slice s.cmd.mbx.reqBuf 0 s.cmd.mbx.reqLen = k ∧ framing k = none ∧ opPriv (pktOpcode k) = some q ∧ bitOf (pktFlags k) 2 = false ∧ s.cmd.chainOf { transport := .mailbox, source := u } (pktContext k) = none ∧ s.cmd.queuedOn .mailbox < 16) ∧
    (∃ (s : State), s.cmd.mbx.busy = true) ∧
    (∃ (e : Bytes) (s : State), s.mainUp = true ∧ s.cmd.mbx.evt = some e ∧ s.cmd.mbx.held = []) :=
  ⟨⟨.observe, wire.req, mkPacket 0 0xC000 7 3 0 [], ready, by set_option maxRecDepth 20000 in decide⟩,
   ⟨wire.req, (mkPacket 0 0xC000 7 3 0 []).dropLast ++ [0], ready, by set_option maxRecDepth 20000 in decide⟩,
   ⟨{ req := wire.req, context := 3, cmds := [{ req := wire.req, session := none, pkt := [], seq := 0 }] }, { req := wire.req, session := none, pkt := [], seq := 0 }, wire.req, 3, { ready with cmd := { Cmd.reset with chains := [{ req := wire.req, context := 3, cmds := [{ req := wire.req, session := none, pkt := [], seq := 0 }] }] } }, by decide⟩,
   ⟨.observe, 0, mkPacket 0 0xC000 7 3 0 [], { ((ready.set Reg.PRT_PORT_CFG_ROLE 0 1).setFlag Reg.PRT_PORT_CFG_MGMT_USP 0 true) with cmd := { Cmd.reset with mbx := { Mailbox.reset with reqBuf := mkPacket 0 0xC000 7 3 0 [], reqLen := (mkPacket 0 0xC000 7 3 0 []).length } } }, by set_option maxRecDepth 20000 in decide⟩,
   ⟨{ ready with cmd := { Cmd.reset with mbx := { Mailbox.reset with busy := true } } }, by decide⟩,
   ⟨[1], { ready with cmd := { Cmd.reset with mbx := { Mailbox.reset with evt := some [1] } } }, by decide⟩⟩

/-- Operands and states that meet the hypotheses of CommandStatusAndEnd, clause by clause. -/
theorem CommandStatusAndEnd_witness :
    (∃ (h : Hdr) (p : Bytes) (s : State), Operating s ∧ Privileged .observe h s ∧ p.length = 0) ∧
    (∃ (h : Hdr) (p : Bytes) (s : State), Operating s ∧ Privileged .observe h s ∧ p.length = 0) ∧
    (∃ (x : Nat × Nat) (h : Hdr) (p : Bytes) (s : State), Operating s ∧ Privileged .observe h s ∧ p.length = 6 ∧ s.outcomeOf h.req (p32 p 0) (p16 p 4) = some x) ∧
    (∃ (q : Queued) (j : Job) (h : Hdr) (p : Bytes) (s : State), Operating s ∧ Privileged .observe h s ∧ p.length = 6 ∧ s.cmd.jobs = [j] ∧ j.cmds = [q] ∧ q.named h.req (p32 p 0) (p16 p 4) = true) ∧
    (∃ (id : Nat) (st : Nat) (r : Bytes) (b : Background) (s : State), s.cmd.bg.find? (fun x => x.id == id) = some b ∧ b.result = some (st, r) ∧ b.dropped = false ∧ 0x8000 ≤ b.opcode ∧ b.req.transport = .i3c) :=
  ⟨⟨wire, [], ready, by decide⟩,
   ⟨wire, [], ready, by decide⟩,
   ⟨(0xCB02, 1), wire, [7, 0, 0, 0, 3, 0], { ready with cmd := { Cmd.reset with bg := [{ id := 1, req := wire.req, session := none, opcode := 0xCB02, tag := 7, context := 3, seq := 0, params := [], journaled := false, result := none, dropped := false }] } }, by decide⟩,
   ⟨{ req := wire.req, session := none, pkt := mkPacket 0 0xC000 7 3 0 [], seq := 0 }, { cmds := [{ req := wire.req, session := none, pkt := mkPacket 0 0xC000 7 3 0 [], seq := 0 }], urgent := false }, wire, [7, 0, 0, 0, 3, 0], { ready with cmd := { Cmd.reset with jobs := [{ cmds := [{ req := wire.req, session := none, pkt := mkPacket 0 0xC000 7 3 0 [], seq := 0 }], urgent := false }] } }, by set_option maxRecDepth 20000 in decide⟩,
   ⟨1, 0, [], { id := 1, req := wire.req, session := none, opcode := 0xCB02, tag := 7, context := 3, seq := 0, params := [], journaled := false, result := some (0, []), dropped := false }, { ready with cmd := { Cmd.reset with bg := [{ id := 1, req := wire.req, session := none, opcode := 0xCB02, tag := 7, context := 3, seq := 0, params := [], journaled := false, result := some (0, []), dropped := false }] } }, by decide⟩⟩

/-- Operands and states that meet the hypotheses of RegisterAccess, clause by clause. -/
theorem RegisterAccess_witness :
    (∃ (h : Hdr) (p : Bytes) (s : State), Operating s ∧ Privileged .observe h s ∧ p.length = 6 ∧ (fun _ p _ => p32 p 0 % 4 = 0 ∧ assigned (p32 p 0) = true ∧ 1 ≤ p16 p 4 ∧ p16 p 4 ≤ 1024 ∧ assigned (p32 p 0 + 4 * (p16 p 4 - 1)) = true) h p s) ∧
    (∃ (h : Hdr) (s : State), Operating s ∧ Privileged .operate h s) ∧
    (∃ (h : Hdr) (s : State), Operating s ∧ Privileged .operate h s) ∧
    (∃ (h : Hdr) (s : State), Operating s ∧ Privileged .admin h s ∧ s.flag Reg.HLM_STATUS_LOCKED = true) ∧
    (∃ (h : Hdr) (s : State), Operating s ∧ s.privOf h = .operate) ∧
    (∃ (a : Word) (h : Hdr) (s : State), Operating s ∧ Privileged .admin h s ∧ s.flag Reg.HLM_STATUS_LOCKED = false ∧ a.toNat % 4 ≠ 0) ∧
    (∃ (q : Port) (v : BitVec 2) (h : Hdr) (s : State), Operating s ∧ Privileged .admin h s ∧ s.flag Reg.HLM_STATUS_LOCKED = false ∧ s.present q.val = true ∧ v.toNat < 3 ∧ s.roleRefused q.val v.toNat = none) ∧
    (∃ (q : Port) (v : BitVec 2) (h : Hdr) (s : State), Operating s ∧ Privileged .operate h s ∧ s.isDsp q.val = true ∧ 1 ≤ v.toNat ∧ v.toNat < 3 ∧ s.personalityRefused q.val v.toNat = none) ∧
    (∃ (k : Fin 16) (v : Word) (h : Hdr) (s : State), SMap.wf s.regs ∧ Operating s ∧ Privileged .admin h s ∧ s.flag Reg.HLM_STATUS_LOCKED = false ∧ curveOk (s.afterWords [{ addr := 0x01000140 + 4 * k.val, value := v.toNat, mask := 0xFFFFFFFF }]).feedPoints = true) :=
  ⟨⟨wire, [0, 1, 0, 15, 3, 0], ready, by decide⟩,
   ⟨wire, ready, by decide⟩,
   ⟨wire, ready, by decide⟩,
   ⟨boss, ready.setFlag Reg.HLM_STATUS_LOCKED 0 true, by decide⟩,
   ⟨wire, ready, by decide⟩,
   ⟨5, boss, ready, by decide⟩,
   ⟨8, 1, boss, ready.set Reg.SPC_CH_CFG_PORT 2 0x7F, by set_option maxRecDepth 20000 in decide⟩,
   ⟨8, 2, wire, ready, by set_option maxRecDepth 20000 in decide⟩,
   ⟨4, 0xB000144C, boss, ready, by decide⟩⟩

/-- Operands and states that meet the hypotheses of CommitEngine, clause by clause. -/
theorem CommitEngine_witness :
    (∃ (h : Hdr) (p : Bytes) (s : State), Operating s ∧ Privileged .observe h s ∧ p.length = 12 ∧ (fun _ p _ => tblAssigned (p16 p 0) = true ∧ p16 p 0 ≠ 0x0A42 ∧ p8 p 2 < 2 ∧ p32 p 4 % 4 = 0 ∧ 4 ≤ p32 p 8 ∧ p32 p 8 ≤ 4064 ∧ p32 p 8 % 4 = 0 ∧ p32 p 4 + p32 p 8 ≤ (tblLen (p16 p 0)).getD 0) h p s) ∧
    (∃ (h : Hdr) (p : Bytes) (s : State), Operating s ∧ Privileged .observe h s ∧ p.length = 6 ∧ p8 p 0 = 1 ∧ tblAssigned (p16 p 4) = true ∧ p16 p 4 ≠ 0x0A42) ∧
    (∃ (h : Hdr) (p : Bytes) (s : State), Operating s ∧ Privileged .operate h s ∧ 12 ≤ p.length ∧ p.length ≤ 4096 ∧ p.length % 4 = 0 ∧ tblManaged (p16 p 0) = true ∧ s.writable (p16 p 0) = true ∧ p32 p 4 % 4 = 0 ∧ p32 p 4 + (p.length - 8) ≤ (tblLen (p16 p 0)).getD 0) ∧
    (∃ (h : Hdr) (p : Bytes) (s : State), Operating s ∧ Privileged .operate h s ∧ p.length = 8 ∧ p8 p 0 = 1 ∧ tblManaged (p16 p 4) = true ∧ (s.table (p16 p 4)).tag ≠ p16 p 6) ∧
    (∃ (h : Hdr) (p : Bytes) (s : State), SMap.wf s.tbl.tables ∧ Operating s ∧ Privileged .operate h s ∧ p.length = 8 ∧ p8 p 0 = 1 ∧ tblManaged (p16 p 4) = true ∧ s.commitRefused [(p16 p 4, p16 p 6)] = none ∧ s.tbl.pend = [] ∧ s.tbl.waits = []) ∧
    (∃ (pl : Pipeline) (c : PendCommit) (w : Waiting) (s : State), s.mainUp = true ∧ s.tbl.pend = [c] ∧ c.waiting = [pl] ∧ c.after = .nothing ∧ s.tbl.held = [] ∧ s.tbl.waits = [w] ∧ w.what = .commit c.epoch true ∧ w.rest = [] ∧ w.dropped = false) ∧
    (∃ (c : PendCommit) (s : State), s.mainUp = true ∧ s.tbl.pend = [c] ∧ .mover ∈ c.waiting ∧ s.tbl.held = [] ∧ s.tbl.waits = []) ∧
    (∃ (x : BitVec 16) (s : State), s.mainUp = true ∧ x.toNat ≠ 0x0A42 ∧ s.tbl.pend = [] ∧ (s.table x.toNat).former = true ∧ s.stamps.any (fun y => earlier y (s.table x.toNat).tag) = false) ∧
    (∃ (m : ModCommit) (w : Nat × Nat × Bytes) (s : State), SMap.wf s.tbl.tables ∧ s.mainUp = true ∧ s.tbl.modq = [m] ∧ m.writes = [w] ∧ m.extents = [] ∧ m.after = .nothing ∧ s.modReady m = true ∧ s.tbl.pend = [] ∧ s.tbl.waits = []) :=
  ⟨⟨wire, [0, 8, 0, 0, 0, 0, 0, 0, 16, 0, 0, 0], ready, by decide⟩,
   ⟨wire, [1, 0, 0, 0, 0, 8], ready, by decide⟩,
   ⟨wire, [0, 8, 0, 0, 0, 0, 0, 0, 1, 2, 3, 4], ready, by decide⟩,
   ⟨wire, [1, 0, 0, 0, 0, 8, 1, 0], ready, by decide⟩,
   ⟨wire, [1, 0, 0, 0, 0, 8, 0, 0], ready, by decide⟩,
   ⟨.mover, { epoch := 0, tables := [0x0700], waiting := [.mover], after := .nothing }, { req := wire.req, session := none, opcode := 0xCC20, tag := 7, context := 3, seq := 0, what := .commit 0 true, rest := [], dropped := false }, { ready with tbl := { Tbl.reset with pend := [{ epoch := 0, tables := [0x0700], waiting := [.mover], after := .nothing }], waits := [{ req := wire.req, session := none, opcode := 0xCC20, tag := 7, context := 3, seq := 0, what := .commit 0 true, rest := [], dropped := false }] } }, by decide⟩,
   ⟨{ epoch := 0, tables := [0x0700], waiting := [.mover], after := .nothing }, { ready with tbl := { Tbl.reset with pend := [{ epoch := 0, tables := [0x0700], waiting := [.mover], after := .nothing }] } }, by decide⟩,
   ⟨0x0800, ready.setTable 0x0800 { TableSt.dflt with former := true }, by decide⟩,
   ⟨{ id := 1, origin := 0, writes := [(0x0701, 4, [9])], extents := [], after := .nothing }, (0x0701, 4, [9]), { ready with tbl := { Tbl.reset with nextMod := 2, modq := [{ id := 1, origin := 0, writes := [(0x0701, 4, [9])], extents := [], after := .nothing }] } }, by decide⟩⟩

/-- Operands and states that meet the hypotheses of DeviceCompletions, clause by clause. -/
theorem DeviceCompletions_witness :
    (∃ (p : Port) (c : DevCpl) (s : State), s.mainUp = true ∧ slotOk c.kind c.slot = true ∧ (s.slotAt p.val c.kind c.slot).user = none ∧ (s.slotAt p.val c.kind c.slot).quar = false) ∧
    (∃ (p : Port) (c : DevCpl) (s : State), s.mainUp = true ∧ c.kind = .io ∧ c.slot < 1024 ∧ (s.ioSlot p.val c.slot).quar = true) ∧
    (∃ (n : Nat) (p : Port) (c : DevCpl) (s : State), s.mainUp = true ∧ c.kind = .io ∧ c.slot < 1024 ∧ (s.ioSlot p.val c.slot).quar = false ∧ (s.ioSlot p.val c.slot).user = some (.acrak n) ∧ c.ok = true ∧ s.flt.cplDropInject = []) ∧
    (∃ (p : Port) (c : DevCpl) (s : State), s.mainUp = true ∧ c.kind = .io ∧ c.slot < 1024 ∧ (s.ioSlot p.val c.slot).quar = false ∧ (s.ioSlot p.val c.slot).user.isSome = true ∧ s.flt.cplDropInject = [p.val]) ∧
    (∃ (n : Nat) (p : Port) (k : Nat) (s : State), k < 1024 ∧ (s.ioSlot p.val k).quar = false ∧ (s.ioSlot p.val k).user = some (.acrak n) ∧ s.isPool p.val = false ∧ s.flt.cplDropped = []) ∧
    (∃ (p : Port) (k : Nat) (s : State), k < 1024 ∧ (s.ioSlot p.val k).quar = true) :=
  ⟨⟨9, { kind := .mem, slot := 5, gen := 0, ok := true, poison := false, data := [] }, ready, by decide⟩,
   ⟨9, { kind := .io, slot := 5, gen := 0, ok := true, poison := false, data := [] }, ready.setIoSlot 9 5 { TagSlot.dflt with quar := true }, by decide⟩,
   ⟨1, 9, { kind := .io, slot := 5, gen := 0, ok := true, poison := false, data := [] }, ready.setIoSlot 9 5 { TagSlot.dflt with user := some (.acrak 1) }, by decide⟩,
   ⟨9, { kind := .io, slot := 5, gen := 0, ok := true, poison := false, data := [] }, { ready.setIoSlot 9 5 { TagSlot.dflt with user := some (.acrak 1) } with flt := { Flt.reset with cplDropInject := [9] } }, by decide⟩,
   ⟨1, 9, 5, ready.setIoSlot 9 5 { TagSlot.dflt with user := some (.acrak 1) }, by decide⟩,
   ⟨9, 5, ready.setIoSlot 9 5 { TagSlot.dflt with quar := true }, by decide⟩⟩

/-- Operands and states that meet the hypotheses of BindingAndHostConfiguration, clause by clause. -/
theorem BindingAndHostConfiguration_witness :
    (∃ (h : Hdr) (p : Bytes) (s : State), Operating s ∧ Privileged .operate h s ∧ p.length = 2 ∧ (fun _ p s => s.isUsp (p8 p 0) = true ∧ p8 p 1 < 16 ∧ s.bindBusy (p8 p 0) = false ∧ s.hasLd (ldParam p) = false) h p s) ∧
    (∃ (h : Hdr) (p : Bytes) (s : State), Operating s ∧ Privileged .operate h s ∧ p.length = 2 ∧ s.cmd.bg.length < 16 ∧ (fun _ p s => s.isUsp (p8 p 0) = true ∧ p8 p 1 < 16 ∧ (s.pol.bindOps.find? (fun o => o.usp == p8 p 0)).map BindOp.started = some true) h p s) ∧
    (∃ (h : Hdr) (p : Bytes) (s : State), Operating s ∧ Privileged .operate h s ∧ p.length = 3 ∧ s.isUsp (p8 p 0) = true ∧ p8 p 1 < 16 ∧ p8 p 2 = 0 ∧ s.bindBusy (p8 p 0) = false ∧ s.hasLd (ldParam p) = true ∧ s.ldHolds (ldParam p) = false ∧ s.pol.releases = [] ∧ s.pol.grants = [] ∧ s.dir.flushes = []) ∧
    (∃ (u : Port) (v : Fin 32) (o : BindOp) (s : State), s.pol.bindOps = [o] ∧ o.usp = u.val ∧ o.managed = true ∧ p8 o.params 1 = v.val) ∧
    (∃ (u : Port) (v : Fin 32) (b : Bind) (s : State), SMap.wf s.prt.binds ∧ s.bindOf u.val v.val = some b ∧ b.ldId = none ∧ s.dpcEnabled (32 * u.val + v.val) = false ∧ (s.port b.port).outReqs = []) ∧
    (∃ (u : Port) (k : CfgTarget) (s : State), s.isUsp u.val = true ∧ (s.port u.val).up = true ∧ (s.port u.val).l1 = false ∧ s.cfgRetry u.val k = true) ∧
    (∃ (u : Port) (s : State), s.isUsp u.val = true ∧ (s.port u.val).up = true ∧ (s.port u.val).l1 = false ∧ s.cfgRetry u.val .usp = false) ∧
    (∃ (u : Port) (s : State), SMap.wf s.prt.cfg ∧ s.isUsp u.val = true ∧ (s.port u.val).up = true ∧ (s.port u.val).l1 = false ∧ s.cfgRetry u.val .hostPf = false) ∧
    (∃ (h : Hdr) (s : State), Operating s ∧ Privileged .observe h s) ∧
    (∃ (s : State), s.clk.phase ≠ .off) :=
  ⟨⟨wire, [0, 3], ready.set Reg.PRT_PORT_CFG_ROLE 0 1, by decide⟩,
   ⟨wire, [0, 3], { (ready.set Reg.PRT_PORT_CFG_ROLE 0 1) with pol := { Pol.reset with bindOps := [{ usp := 0, bgId := 9, opcode := 0x5202, params := [0, 2], managed := true, linkDown := false, started := true }] } }, by decide⟩,
   ⟨wire, [0, 3, 0], { (ready.set Reg.PRT_PORT_CFG_ROLE 0 1) with pol := { Pol.reset with lds := [3] } }, by decide⟩,
   ⟨0, 2, { usp := 0, bgId := 9, opcode := 0x5202, params := [0, 2], managed := true, linkDown := false, started := true }, { ready with pol := { Pol.reset with bindOps := [{ usp := 0, bgId := 9, opcode := 0x5202, params := [0, 2], managed := true, linkDown := false, started := true }] } }, by decide⟩,
   ⟨0, 18, { port := 8, ldId := none }, slotted, by decide⟩,
   ⟨0, .usp, (ready.set Reg.PRT_PORT_CFG_ROLE 0 1).modPort 0 (fun x => { x with up := true }), by decide⟩,
   ⟨0, (ready.set Reg.PRT_PORT_CFG_ROLE 0 1).modPort 0 (fun x => { x with up := true, crs := false }), by decide⟩,
   ⟨0, (ready.set Reg.PRT_PORT_CFG_ROLE 0 1).modPort 0 (fun x => { x with up := true, crs := false }), by decide⟩,
   ⟨wire, ready, by decide⟩,
   ⟨ready, by decide⟩⟩

/-- Operands and states that meet the hypotheses of LinksAndLanes, clause by clause. -/
theorem LinksAndLanes_witness :
    (∃ (p : Port) (l : LinkParams) (s : State), SMap.wf s.regs ∧ s.mayTrain p.val = true ∧ (s.port p.val).up = false ∧ 1 ≤ l.width ∧ 1 ≤ s.fullWidth p.val ∧ s.retiredLanes p.val = [] ∧ s.isUsp p.val = false ∧ s.isPool p.val = false ∧ s.get Reg.HLM_IDE_CFG_POLICY p.val = 0) ∧
    (∃ (p : Port) (s : State), SMap.wf s.regs ∧ (s.port p.val).up = true ∧ s.isUsp p.val = false ∧ s.isPool p.val = false ∧ s.bindsTo p.val = [] ∧ s.pol.bindOps = [] ∧ (s.port p.val).margin = none) ∧
    (∃ (n : Lane) (x : Nat × Nat) (s : State), s.laneOf n.val = some x ∧ (s.port x.1).up = true ∧ s.flag Reg.LNC_LANE_STATUS_IN_USE n.val = true ∧ (SMap.get s.lnc.lanes n.val LaneSt.dflt).seen = true) ∧
    (∃ (b : Bundle) (i : Fin 17) (s : State), s.get Reg.SEM_BUNDLE_STATUS_STATE b.val = 8 ∧ s.flag Reg.SEM_LANE_STATUS_LOST (32 * b.val + i.val) = false) ∧
    (∃ (n : Lane) (x : Nat × Nat) (s : State), s.laneOf n.val = some x ∧ (s.port x.1).up = true ∧ s.flag Reg.LNC_LANE_STATUS_IN_USE n.val = true ∧ s.get Reg.LNC_LANE_STATUS_FOM n.val < s.get Reg.LNC_PORT_CTL_FOM_ALERT x.1 ∧ (SMap.get s.lnc.lanes n.val LaneSt.dflt).alerted = false) ∧
    (∃ (p : Port) (r : EqRun) (f : BitVec 8) (fs : List (BitVec 8)) (s : State), SMap.wf s.regs ∧ (s.port p.val).up = true ∧ r.bypass = none ∧ r.presets = f :: fs ∧ 200 ≤ f.toNat ∧ s.get Reg.LNC_PORT_CTL_EQ_MIN_FOM p.val ≤ f.toNat) ∧
    (∃ (n : Lane) (x : Nat × Nat) (s : State), SMap.wf s.regs ∧ s.laneOf n.val = some x ∧ (s.port x.1).up = true ∧ s.flag Reg.LNC_LANE_STATUS_IN_USE n.val = true ∧ s.lnc.margin = [] ∧ 2 ≤ s.get Reg.LNC_PORT_STATUS_WIDTH x.1 ∧ s.flag Reg.LNC_PORT_CTL_L0P_EN x.1 = false ∧ (s.retireLane x.1 n.val x.2).recoveryWidth x.1 ≠ (0, false) ∧ (s.retireLane x.1 n.val x.2).recoveryWidth x.1 ≠ (0, true)) ∧
    (∃ (p : Port) (s : State), (s.port p.val).up = true ∧ s.flag Reg.LNC_PORT_STATUS_L0P p.val = false) ∧
    (∃ (p : Port) (w : Nat) (s : State), (s.port p.val).up = true ∧ s.flag Reg.LNC_PORT_STATUS_L0P p.val = true ∧ s.flag Reg.LNC_PORT_CTL_L0P_EN p.val = true ∧ 1 ≤ w ∧ min (pow2le w) (s.l0pWidth p.val) = s.get Reg.LNC_PORT_STATUS_WIDTH p.val) ∧
    (∃ (p : Port) (s : State), (s.port p.val).up = false ∧ (s.port p.val).trainPend = true ∧ s.flag Reg.LNC_PORT_STATUS_PARKED p.val = false ∧ s.get Reg.LNC_PORT_STATUS_FAIL_COUNT p.val < 7) ∧
    (∃ (p : Port) (s : State), (s.port p.val).up = false ∧ (s.port p.val).trainPend = true ∧ s.flag Reg.LNC_PORT_STATUS_PARKED p.val = false ∧ 7 ≤ s.get Reg.LNC_PORT_STATUS_FAIL_COUNT p.val) ∧
    (∃ (p : Port) (s : State), s.flag Reg.LNC_PORT_STATUS_PARKED p.val = true ∧ s.mayTrain p.val = true) ∧
    (∃ (n : Lane) (x : Nat × Nat) (s : State), s.laneOf n.val = some x ∧ (s.port x.1).up = true ∧ 3 ≤ s.get Reg.LNC_PORT_STATUS_RATE x.1 ∧ (s.port x.1).margin = none) ∧
    (∃ (b : Bay) (s : State), s.flag Reg.LNC_BAY_CFG_PLL_LOCK b.val = true ∧ (s.bayPorts b.val).all (fun q => !(s.port q).up) = true) ∧
    (∃ (b : Bay) (s : State), SMap.wf s.regs ∧ s.flag Reg.LNC_BAY_CFG_PLL_LOCK b.val = false ∧ s.mainUp = true) ∧
    (∃ (n : Lane) (x : Nat × Nat) (m : LaneTest) (s : State), s.laneOf n.val = some x ∧ (s.port x.1).testMode = some m ∧ 1 ≤ m.mode ∧ (SMap.get s.lnc.lanes n.val LaneSt.dflt).lockTick = none) :=
  ⟨⟨8, { width := 16, rate := 5, reversed := false, polInv := 0, cxl := false, flit256 := false, latencyOpt := false, pcieFlit := true, l0p := false, ide := .failed }, freePort, by decide⟩,
   ⟨8, freePort.modPort 8 (fun x => { x with up := true }), by decide⟩,
   ⟨32, (8, 0), (linked.modLane 32 (fun x => { x with seen := true })), by decide⟩,
   ⟨0, 3, ready.set Reg.SEM_BUNDLE_STATUS_STATE 0 8, by decide⟩,
   ⟨32, (8, 0), linked, by decide⟩,
   ⟨8, { bypass := none, presets := [210], steps := [], lowLane := 0 }, 210, [], linked, by decide⟩,
   ⟨40, (8, 8), (linked.setFlag Reg.LNC_LANE_STATUS_IN_USE 40 true).setFlag Reg.LNC_PORT_CTL_L0P_EN 8 false, by decide⟩,
   ⟨8, linked, by decide⟩,
   ⟨8, 16, (linked.setFlag Reg.LNC_PORT_STATUS_L0P 8 true).setFlag Reg.LNC_PORT_CTL_L0P_EN 8 true, by decide⟩,
   ⟨8, freePort.modPort 8 (fun x => { x with trainPend := true }), by decide⟩,
   ⟨8, (freePort.modPort 8 (fun x => { x with trainPend := true })).set Reg.LNC_PORT_STATUS_FAIL_COUNT 8 7, by decide⟩,
   ⟨8, freePort.setFlag Reg.LNC_PORT_STATUS_PARKED 8 true, by decide⟩,
   ⟨32, (8, 0), linked.set Reg.LNC_PORT_STATUS_RATE 8 3, by decide⟩,
   ⟨2, ready.setFlag Reg.LNC_BAY_CFG_PLL_LOCK 2 true, by decide⟩,
   ⟨2, ready.setFlag Reg.LNC_BAY_CFG_PLL_LOCK 2 false, by decide⟩,
   ⟨32, (8, 0), { mode := 1, pattern := 0, rate := 5, user := 0 }, freePort.modPort 8 (fun x => { x with testMode := some { mode := 1, pattern := 0, rate := 5, user := 0 } }), by decide⟩⟩

/-- Operands and states that meet the hypotheses of LaneCommands, clause by clause. -/
theorem LaneCommands_witness :
    (∃ (h : Hdr) (p : Bytes) (s : State), Operating s ∧ Privileged .observe h s ∧ p.length = 1 ∧ p8 p 0 < 16) ∧
    (∃ (h : Hdr) (p : Bytes) (s : State), SMap.wf s.regs ∧ Operating s ∧ Privileged .admin h s ∧ p.length = 2 ∧ p8 p 0 < 16 ∧ p8 p 1 < 3 ∧ s.flag Reg.HLM_STATUS_LOCKED = false ∧ (s.bayPorts (p8 p 0)).all (fun q => s.portFree q && !(s.port q).up && (s.port q).testMode.isNone) = true) ∧
    (∃ (h : Hdr) (p : Bytes) (s : State), Operating s ∧ Privileged .operate h s ∧ p.length = 2 ∧ (fun _ p s => s.present (p8 p 0) = true ∧ p8 p 1 = 0 ∧ (s.port (p8 p 0)).up = true) h p s) ∧
    (∃ (h : Hdr) (p : Bytes) (s : State), SMap.wf s.regs ∧ Operating s ∧ Privileged .operate h s ∧ p.length = 2 ∧ s.isDsp (p8 p 0) = true ∧ p8 p 1 = 2 ∧ (s.port (p8 p 0)).up = false ∧ (s.port (p8 p 0)).testMode = none) ∧
    (∃ (h : Hdr) (p : Bytes) (s : State), Operating s ∧ Privileged .operate h s ∧ p.length = 6 ∧ s.cmd.bg.length < 16 ∧ (fun _ p s => s.present (p8 p 0) = true ∧ p16 p 2 ≠ 0 ∧ p16 p 2 < 2 ^ s.fullWidth (p8 p 0) ∧ 1 ≤ p8 p 4 ∧ p8 p 4 < 4 ∧ 1 ≤ p8 p 5 ∧ p8 p 5 ≤ 63 ∧ (s.port (p8 p 0)).up = true ∧ 3 ≤ s.get Reg.LNC_PORT_STATUS_RATE (p8 p 0) ∧ (s.port (p8 p 0)).hostMargin = [] ∧ (s.port (p8 p 0)).margin = none) h p s) ∧
    (∃ (h : Hdr) (p : Bytes) (s : State), Operating s ∧ Privileged .operate h s ∧ p.length = 16 ∧ (fun _ p s => s.present (p8 p 0) = true ∧ p8 p 1 = 1 ∧ p8 p 2 < 5 ∧ p8 p 3 < 9 ∧ p8 p 4 < 6 ∧ s.get Reg.PRT_PORT_CFG_ROLE (p8 p 0) = 0 ∧ (s.port (p8 p 0)).testMode = none) h p s) :=
  ⟨⟨wire, [2], ready, by decide⟩,
   ⟨boss, [2, 1], ready, by set_option maxRecDepth 20000 in decide⟩,
   ⟨wire, [8, 0], linked, by decide⟩,
   ⟨wire, [8, 2], freePort, by decide⟩,
   ⟨wire, [8, 0, 3, 0, 1, 5], linked.set Reg.LNC_PORT_STATUS_RATE 8 3, by decide⟩,
   ⟨wire, [8, 1, 1, 0, 5, 0, 0, 0, 0, 0, 0, 0, 0, 0, 0, 0], freePort.set Reg.PRT_PORT_CFG_ROLE 8 0, by decide⟩⟩

/-- Operands and states that meet the hypotheses of PortCommands, clause by clause. -/
theorem PortCommands_witness :
    (∃ (h : Hdr) (p : Bytes) (s : State), Operating s ∧ Privileged .admin h s ∧ p.length = 2 ∧ (fun _ p s => s.present (p8 p 0) = true ∧ p8 p 1 < 3 ∧ s.flag Reg.HLM_STATUS_LOCKED = false ∧ s.roleRefused (p8 p 0) (p8 p 1) = none) h p s) ∧
    (∃ (p : Port) (r : Fin 3) (s : State), SMap.wf s.regs ∧ (s.port p.val).up = false ∧ (s.port p.val).testMode = none ∧ s.get Reg.PRT_PORT_CFG_ROLE p.val ≠ r.val) ∧
    (∃ (h : Hdr) (p : Bytes) (s : State), Operating s ∧ Privileged .admin h s ∧ p.length = 2 ∧ (fun _ p s => s.isDsp (p8 p 0) = true ∧ 1 ≤ p8 p 1 ∧ p8 p 1 ≤ 2 ∧ s.personalityRefused (p8 p 0) (p8 p 1) = none) h p s) ∧
    (∃ (p : Port) (v : Fin 3) (s : State), SMap.wf s.regs ∧ (s.port p.val).up = false ∧ (s.port p.val).testMode = none ∧ s.get Reg.POL_DSP_CFG_PERSONALITY p.val ≠ v.val) ∧
    (∃ (h : Hdr) (p : Bytes) (s : State), Operating s ∧ Privileged .admin h s ∧ p.length = 2 ∧ (fun _ p s => s.isUsp (p8 p 0) = true ∧ s.flag Reg.HLM_STATUS_LOCKED = false ∧ s.otherMgmt (p8 p 0) = false) h p s) ∧
    (∃ (h : Hdr) (p : Bytes) (s : State), Operating s ∧ Privileged .observe h s ∧ p.length = 0) ∧
    (∃ (h : Hdr) (p : Bytes) (s : State), Operating s ∧ Privileged .observe h s ∧ p.length = 1 ∧ (fun _ p s => s.present (p8 p 0) = true) h p s) ∧
    (∃ (h : Hdr) (p : Bytes) (s : State), Operating s ∧ Privileged .observe h s ∧ p.length = 1 ∧ (fun _ p s => s.present (p8 p 0) = true) h p s) ∧
    (∃ (h : Hdr) (p : Bytes) (s : State), Operating s ∧ Privileged .operate h s ∧ p.length = 9 ∧ (fun _ p s => s.isUsp (p8 p 8) = true ∧ p64 p 0 = SMap.get s.prt.mcAllot (p8 p 8) 0) h p s) ∧
    (∃ (h : Hdr) (p : Bytes) (s : State), SMap.wf s.prt.mcAllot ∧ Operating s ∧ Privileged .operate h s ∧ p.length = 9 ∧ s.isUsp (p8 p 8) = true ∧ p64 p 0 ≠ SMap.get s.prt.mcAllot (p8 p 8) 0 ∧ s.mcEnabled (p8 p 8) = false ∧ s.prt.mcAllot.any (fun a => a.1 != p8 p 8 && a.2 &&& p64 p 0 != 0) = false) :=
  ⟨⟨boss, [8, 1], freePort, by set_option maxRecDepth 20000 in decide⟩,
   ⟨8, 1, freePort, by decide⟩,
   ⟨boss, [8, 2], freePort, by set_option maxRecDepth 20000 in decide⟩,
   ⟨8, 2, freePort, by decide⟩,
   ⟨boss, [0, 3], ready.set Reg.PRT_PORT_CFG_ROLE 0 1, by decide⟩,
   ⟨wire, [], ready, by decide⟩,
   ⟨wire, [8], ready, by decide⟩,
   ⟨wire, [8], ready, by decide⟩,
   ⟨wire, [0, 0, 0, 0, 0, 0, 0, 0, 0], ready.set Reg.PRT_PORT_CFG_ROLE 0 1, by decide⟩,
   ⟨wire, [1, 0, 0, 0, 0, 0, 0, 0, 0], ready.set Reg.PRT_PORT_CFG_ROLE 0 1, by set_option maxRecDepth 20000 in decide⟩⟩

/-- Operands and states that meet the hypotheses of PortEvents, clause by clause. -/
theorem PortEvents_witness :
    (∃ (u : Port) (s : State), s.isUsp u.val = true ∧ SMap.get s.prt.mcAllot u.val 0 = 0) ∧
    (∃ (u : Port) (k : Fin 16) (w : HdmWrite) (s : State), s.isUsp u.val = true ∧ s.hasLd (16 * u.val + k.val) = true ∧ Decoder.fits { base := w.base, size := w.size, dpa := w.skip, iw := w.iw, ig := w.ig, valid := true } (((s.decodersOf u.val).filter (fun y => y.1 != 4 * k.val)).map Prod.snd) = true) ∧
    (∃ (u : Port) (k : Fin 16) (w : HdmWrite) (s : State), s.isUsp u.val = true ∧ s.hasLd (16 * u.val + k.val) = true ∧ w.base % 2 ^ 28 ≠ 0) ∧
    (∃ (p : Port) (fn : CfgTarget) (e : AerErr) (u : Nat) (s : State), SMap.wf s.prt.aer ∧ s.vcsOf p.val fn = some u ∧ s.cfgPresent u fn = true ∧ e.correctable = true) ∧
    (∃ (u : Port) (v : Fin 32) (d : Nat) (b : Bind) (s : State), s.bindOf u.val v.val = some b ∧ b.ldId = some d ∧ s.dpcEnabled (32 * u.val + v.val) = true ∧ 32 * u.val + v.val ∉ s.prt.dpc) ∧
    (∃ (u : Port) (v : Fin 32) (d : Nat) (b : Bind) (s : State), s.bindOf u.val v.val = some b ∧ b.ldId = some d ∧ 32 * u.val + v.val ∈ s.prt.dpc) ∧
    (∃ (p : Port) (x : IdeStream) (s : State), SMap.find s.hlm.ide (8 * p.val) = some x) ∧
    (∃ (p : Port) (x : IdeStream) (s : State), SMap.find s.hlm.ide (8 * p.val) = some x ∧ s.isDsp p.val = true ∧ s.get Reg.HLM_IDE_CFG_STATE p.val = 1 ∧ s.get Reg.HLM_IDE_CFG_REKEY_H p.val ≠ 0) ∧
    (∃ (p : Port) (root : Bytes) (s : State), SMap.wf s.regs ∧ s.isDsp p.val = true ∧ (s.port p.val).up = true ∧ s.get Reg.HLM_IDE_CFG_STATE p.val = 3 ∧ s.get Reg.HLM_IDE_CFG_POLICY p.val = 2 ∧ s.isDeviceRoot root = true) ∧
    (∃ (u : Port) (s : State), s.isUsp u.val = true ∧ (s.port u.val).up = true ∧ s.passDsps u.val = []) ∧
    (∃ (u : Port) (s : State), s.isUsp u.val = true ∧ (s.port u.val).up = true ∧ s.passDsps u.val ≠ []) ∧
    (∃ (u : Port) (s : State), (s.port u.val).pmePend ≠ []) ∧
    (∃ (p : Port) (s : State), (s.port p.val).up = true ∧ s.l1Enabled p.val = true ∧ s.get Reg.LNC_PORT_STATUS_LTSSM p.val = 4 ∧ s.isUsp p.val = false ∧ s.prt.ioSlots = [] ∧ s.prt.memSlots = []) ∧
    (∃ (u : Port) (s : State), s.isUsp u.val = true ∧ (s.port u.val).up = true ∧ s.dir.slices = [] ∧ s.mov = Mov.reset ∧ s.pol.bindOps = []) ∧
    (∃ (p : Port) (s : State), s.isUsp p.val = true ∧ (s.port p.val).perst = false) ∧
    (∃ (u : Port) (v : Fin 32) (d : Nat) (b : Bind) (s : State), s.isUsp u.val = true ∧ 18 ≤ v.val ∧ s.bindOf u.val v.val = some b ∧ b.ldId = some d) ∧
    (∃ (u : Port) (v : Fin 32) (b : Bind) (s : State), s.isUsp u.val = true ∧ s.bindOf u.val v.val = some b ∧ b.ldId = none ∧ 7 ∉ (s.port b.port).disabledBy ∧ s.flag Reg.LNC_PORT_STATUS_PARKED b.port = true) :=
  ⟨⟨0, ready.set Reg.PRT_PORT_CFG_ROLE 0 1, by decide⟩,
   ⟨0, 3, { base := 0, size := 2 ^ 28, ig := 0, iw := 0, skip := 0 }, { (ready.set Reg.PRT_PORT_CFG_ROLE 0 1) with pol := { Pol.reset with lds := [3] } }, by set_option maxRecDepth 20000 in decide⟩,
   ⟨0, 3, { base := 1, size := 2 ^ 28, ig := 0, iw := 0, skip := 0 }, { (ready.set Reg.PRT_PORT_CFG_ROLE 0 1) with pol := { Pol.reset with lds := [3] } }, by decide⟩,
   ⟨0, .usp, { bit := 6, correctable := true, header := 0 }, 0, ready.set Reg.PRT_PORT_CFG_ROLE 0 1, by decide⟩,
   ⟨0, 18, 2, { port := 8, ldId := some 2 }, { (ready.set Reg.PRT_PORT_CFG_ROLE 0 1) with prt := { Prt.reset with binds := [(18, { port := 8, ldId := some 2 })], cfg := [(cfgAddr 0 (.vppb 18) 0x166, 1)] } }, by set_option maxRecDepth 20000 in decide⟩,
   ⟨0, 18, 2, { port := 8, ldId := some 2 }, { ready with prt := { Prt.reset with binds := [(18, { port := 8, ldId := some 2 })], dpc := [18] } }, by decide⟩,
   ⟨8, { keySet := 0, keys := [], rekeyTick := 0 }, { ready with hlm := { Hlm.reset with ide := [(64, { keySet := 0, keys := [], rekeyTick := 0 })] } }, by decide⟩,
   ⟨8, { keySet := 0, keys := [], rekeyTick := 0 }, { ((ready.set Reg.HLM_IDE_CFG_STATE 8 1).set Reg.HLM_IDE_CFG_REKEY_H 8 24) with hlm := { Hlm.reset with ide := [(64, { keySet := 0, keys := [], rekeyTick := 0 })] } }, by decide⟩,
   ⟨8, List.replicate 48 1, { ((linked.set Reg.HLM_IDE_CFG_STATE 8 3).set Reg.HLM_IDE_CFG_POLICY 8 2) with hlm := { Hlm.reset with devRoots := [List.replicate 48 1] } }, by decide⟩,
   ⟨0, (ready.set Reg.PRT_PORT_CFG_ROLE 0 1).modPort 0 (fun x => { x with up := true }), by decide⟩,
   ⟨0, (slotted.modPort 0 (fun x => { x with up := true })).modPort 8 (fun x => { x with up := true }), by decide⟩,
   ⟨0, ready.modPort 0 (fun x => { x with pmePend := [8] }), by decide⟩,
   ⟨8, { linked with prt := { linked.prt with binds := [(18, { port := 8, ldId := none })], cfg := [(cfgAddr 0 (.vppb 18) 0x80, 2)] } }, by set_option maxRecDepth 20000 in decide⟩,
   ⟨0, (ready.set Reg.PRT_PORT_CFG_ROLE 0 1).modPort 0 (fun x => { x with up := true }), by decide⟩,
   ⟨0, ready.set Reg.PRT_PORT_CFG_ROLE 0 1, by decide⟩,
   ⟨0, 18, 2, { port := 8, ldId := some 2 }, { (ready.set Reg.PRT_PORT_CFG_ROLE 0 1) with prt := { Prt.reset with binds := [(18, { port := 8, ldId := some 2 })] } }, by decide⟩,
   ⟨0, 18, { port := 8, ldId := none }, slotted.setFlag Reg.LNC_PORT_STATUS_PARKED 8 true, by decide⟩⟩

/-- Operands and states that meet the hypotheses of TrafficAtThePorts, clause by clause. -/
theorem TrafficAtThePorts_witness :
    (∃ (p : Port) (v : Nat) (b : Bind) (m : MemReq) (s : State), s.takes p.val = true ∧ (s.port p.val).memUp = true ∧ (s.port p.val).l1 = false ∧ m.pbr = none ∧ m.op = .memWr ∧ s.isUsp p.val = true ∧ s.decodeHpa p.val m.hpa (s.inStamp p.val) = none ∧ s.windowOf p.val m.hpa (s.inStamp p.val) = some (v, b) ∧ 32 * p.val + v ∉ s.prt.dpc ∧ (s.port b.port).up = true) ∧
    (∃ (p : Port) (m : MemReq) (s : State), s.takes p.val = true ∧ (s.port p.val).memUp = true ∧ (s.port p.val).l1 = false ∧ m.pbr = none ∧ m.op = .memWr ∧ s.isUsp p.val = true ∧ s.decodeHpa p.val m.hpa (s.inStamp p.val) = none ∧ s.windowOf p.val m.hpa (s.inStamp p.val) = none) ∧
    (∃ (p : Port) (k : Nat) (t : Tlp) (s : State), s.takes p.val = true ∧ (s.port p.val).l1 = false ∧ t.pbr = none ∧ t.kind = .msg ∧ t.ld = none ∧ s.isUsp p.val = false ∧ s.isPool p.val = false ∧ s.bindsTo p.val = [(k, none)] ∧ k ∉ s.prt.dpc ∧ s.flag Reg.XBR_CTL_CT_EN = false ∧ k / 32 < 64) ∧
    (∃ (u : Port) (hpa : BitVec 64) (x : Nat × Nat) (s : State), s.isUsp u.val = true ∧ s.takes u.val = true ∧ (s.port u.val).l1 = false ∧ s.decodeHpa u.val hpa.toNat (s.inStamp u.val) = some x) ∧
    (∃ (u : Port) (a : AtomReq) (v : Nat) (b : Bind) (s : State), s.isUsp u.val = true ∧ s.takes u.val = true ∧ (s.port u.val).l1 = false ∧ s.decodeHpa u.val a.hpa (s.inStamp u.val) = none ∧ s.barHit u.val a.hpa = none ∧ s.windowOf u.val a.hpa (s.inStamp u.val) = some (v, b)) ∧
    (∃ (p : Port) (v : Nat) (b : Bind) (m : PassMsg) (s : State), s.takes p.val = true ∧ (s.port p.val).l1 = false ∧ s.isUsp p.val = true ∧ m.peer = some v ∧ s.bindOf p.val v = some b ∧ 32 * p.val + v ∉ s.prt.dpc ∧ (s.port b.port).up = true) :=
  ⟨⟨0, 18, { port := 8, ldId := none }, { op := .memWr, snp := .noOp, mval := none, hpa := 64, tag := 5, data := [], mask := 0, poison := false, pbr := none }, windowed, by set_option maxRecDepth 20000 in decide⟩,
   ⟨0, { op := .memWr, snp := .noOp, mval := none, hpa := 2 ^ 30, tag := 5, data := [], mask := 0, poison := false, pbr := none }, windowed, by set_option maxRecDepth 20000 in decide⟩,
   ⟨8, 18, { kind := .msg, addr := 0, rid := 0, reqId := 0, pbr := none, tag := 5, bytes := 16, len := 0, ro := false, ide := false, ld := none, data := [] }, windowed.setFlag Reg.XBR_CTL_CT_EN 0 false, by set_option maxRecDepth 20000 in decide⟩,
   ⟨0, 64, (0, 64), decoded, by set_option maxRecDepth 20000 in decide⟩,
   ⟨0, { op := .swap, size := 4, hpa := 64, operand := 1, compare := 0, tag := 5 }, 18, { port := 8, ldId := none }, windowed, by set_option maxRecDepth 20000 in decide⟩,
   ⟨0, 18, { port := 8, ldId := none }, { cache := false, response := false, peer := some 18, tag := 5, bytes := 64 }, windowed, by set_option maxRecDepth 20000 in decide⟩⟩

/-- Operands and states that meet the hypotheses of FabricCore, clause by clause. -/
theorem FabricCore_witness :
    (∃ (src : Fin 78) (dest : Fin 78) (q : Fin 8) (m : Msg) (ms : List Msg) (s : State), SMap.wf s.xbr.resv ∧ SMap.wf s.xbr.queues ∧ SMap.wf s.xbr.shared ∧ 64 ≤ src.val ∧ s.resvOf (flow src.val dest.val q.val) = m :: ms ∧ m.mc = none ∧ SMap.get s.xbr.sentOff (flow src.val dest.val q.val) 0 = 0 ∧ takeShared (s.kq q.val) m.ingots (s.sharedOf (flow src.val dest.val q.val)) s.sharedFree = true) ∧
    (∃ (src : Fin 78) (dest : Fin 78) (p : Nat) (m : Msg) (s : State), s.activePlanes = [p] ∧ s.xbr.queues = [(flow src.val dest.val 0, [m])] ∧ s.xbr.resv = [] ∧ m.ingots = 1 ∧ SMap.get s.xbr.sentOff (flow src.val dest.val 0) 0 = 0 ∧ s.xbr.egress = [] ∧ s.xbr.stored = [] ∧ s.xbr.retained = []) ∧
    (∃ (src : Fin 78) (dest : Fin 78) (q : Fin 8) (seq : BitVec 16) (g : Ingot) (p : Nat) (s : State), s.xbr.retained = [g] ∧ s.xbr.cuts = [] ∧ g.is (flow src.val dest.val q.val) seq = true ∧ s.otherPlane g.plane = some p ∧ s.planeFailed g.plane = false ∧ g.plane ∉ s.xbr.probes) ∧
    (∃ (p : Plane) (s : State), SMap.wf s.regs ∧ p.val ∈ s.xbr.probes ∧ s.planeFailed p.val = false ∧ s.xbr.retained = []) ∧
    (∃ (p : Nat) (s : State), SMap.wf s.regs ∧ s.sparePlane = some p ∧ s.xbr.retained = []) ∧
    (∃ (d : Fin 78) (g : IngotHdr) (s : State), g.dest = d ∧ s.flt.hchkInject = [] ∧ g.crcOk = true ∧ s.seqSeen (flow g.src.val g.dest.val g.q.val) g.seq = true) ∧
    (∃ (d : Fin 78) (g : IngotHdr) (r : Ingot) (m : Msg) (s : State), SMap.wf s.xbr.expect ∧ SMap.wf s.xbr.inflight ∧ g.dest = d ∧ 64 ≤ g.src.val ∧ s.flt.hchkInject = [] ∧ g.crcOk = true ∧ g.eccOk = true ∧ s.seqSeen (flow g.src.val g.dest.val g.q.val) g.seq = false ∧ SMap.get s.xbr.expect (flow g.src.val g.dest.val g.q.val) 0 = g.seq.toNat ∧ s.xbr.retained = [r] ∧ r.resv = true ∧ r.hdr = g ∧ g.last = true ∧ s.xbr.stored = [] ∧ SMap.get s.xbr.inflight (flow g.src.val g.dest.val g.q.val) [] = [m] ∧ m.dest = d.val ∧ m.ct = false ∧ m.gone = false ∧ m.q = g.q.val ∧ s.attUp d.val = true) ∧
    (∃ (i : Slice) (w : McWait) (s : State), s.xbr.mcWaits = [w] ∧ w.slice = i.val ∧ s.allPass w.copies = true) ∧
    (∃ (h : Hdr) (p : Bytes) (s : State), Operating s ∧ Privileged .observe h s ∧ p.length = 0) ∧
    (∃ (h : Hdr) (p : Bytes) (s : State), Operating s ∧ Privileged .operate h s ∧ p.length = 2 ∧ p8 p 0 < 64 ∧ p8 p 1 < 2) ∧
    (∃ (sp : Nat) (h : Hdr) (p : Bytes) (s : State), SMap.wf s.regs ∧ Operating s ∧ Privileged .admin h s ∧ p.length = 1 ∧ p8 p 0 < 5 ∧ p8 p 0 ∈ s.activePlanes ∧ s.sparePlane = some sp) ∧
    (∃ (h : Hdr) (p : Bytes) (s : State), Operating s ∧ Privileged .observe h s ∧ p.length = 0) :=
  ⟨⟨72, 8, 2, { src := 72, dest := 8, q := 2, len := 64, ingots := 1, epoch := 0, mc := none, pbar := none, hr := false, perr := false, body := .pps }, [], { ready with xbr := { Xbr.reset with resv := [(flow 72 8 2, [{ src := 72, dest := 8, q := 2, len := 64, ingots := 1, epoch := 0, mc := none, pbar := none, hr := false, perr := false, body := .pps }])] } }, by decide⟩,
   ⟨72, 8, 1, { src := 72, dest := 8, q := 0, len := 64, ingots := 1, epoch := 0, mc := none, pbar := none, hr := false, perr := false, body := .pps }, { (ready.set Reg.XBR_PLANE_STATUS_FAILED 0 29) with xbr := { Xbr.reset with queues := [(flow 72 8 0, [{ src := 72, dest := 8, q := 0, len := 64, ingots := 1, epoch := 0, mc := none, pbar := none, hr := false, perr := false, body := .pps }])] } }, by decide⟩,
   ⟨72, 8, 2, 5, { hdr := { src := 72, dest := 8, q := 2, seq := 5, first := true, last := true, len := 64, epoch := 0, mc := none, crcOk := true, eccOk := true, dup := false }, plane := 1, resv := true }, 2, { ready with xbr := { Xbr.reset with retained := [{ hdr := { src := 72, dest := 8, q := 2, seq := 5, first := true, last := true, len := 64, epoch := 0, mc := none, crcOk := true, eccOk := true, dup := false }, plane := 1, resv := true }] } }, by decide⟩,
   ⟨1, { ready with xbr := { Xbr.reset with probes := [1] } }, by decide⟩,
   ⟨4, ready, by decide⟩,
   ⟨8, { src := 72, dest := 8, q := 2, seq := 5, first := true, last := true, len := 64, epoch := 0, mc := none, crcOk := true, eccOk := true, dup := false }, { ready with xbr := { Xbr.reset with expect := [(flow 72 8 2, 6)] } }, by decide⟩,
   ⟨8, { src := 72, dest := 8, q := 2, seq := 5, first := true, last := true, len := 64, epoch := 0, mc := none, crcOk := true, eccOk := true, dup := false }, { hdr := { src := 72, dest := 8, q := 2, seq := 5, first := true, last := true, len := 64, epoch := 0, mc := none, crcOk := true, eccOk := true, dup := false }, plane := 1, resv := true }, { src := 72, dest := 8, q := 2, len := 64, ingots := 1, epoch := 0, mc := none, pbar := none, hr := false, perr := false, body := .pps }, { linked with xbr := { Xbr.reset with expect := [(flow 72 8 2, 5)], retained := [{ hdr := { src := 72, dest := 8, q := 2, seq := 5, first := true, last := true, len := 64, epoch := 0, mc := none, crcOk := true, eccOk := true, dup := false }, plane := 1, resv := true }], inflight := [(flow 72 8 2, [{ src := 72, dest := 8, q := 2, len := 64, ingots := 1, epoch := 0, mc := none, pbar := none, hr := false, perr := false, body := .pps }])] } }, by decide⟩,
   ⟨3, { slice := 3, copies := [] }, { ready with xbr := { Xbr.reset with mcWaits := [{ slice := 3, copies := [] }] } }, by decide⟩,
   ⟨wire, [], ready, by decide⟩,
   ⟨wire, [5, 1], ready, by decide⟩,
   ⟨4, boss, [1], ready, by decide⟩,
   ⟨wire, [], ready, by decide⟩⟩

/-- Operands and states that meet the hypotheses of SchedulingAndTelemetry, clause by clause. -/
theorem SchedulingAndTelemetry_witness :
    (∃ (e : Fin 68) (m : Msg) (ms : List Msg) (s : State), SMap.wf s.xbr.egress ∧ s.eligible e.val 0 = true ∧ s.guardOk e.val 0 = true ∧ s.egressOf e.val 0 = m :: ms ∧ 64 ≤ e.val) ∧
    (∃ (e : Fin 68) (s : State), ([0, 1, 2, 3, 4, 5, 6, 7].any (s.eligible e.val)) = false) ∧
    (∃ (k : Nat) (v : Int) (s : State), s.sch.shaper = [(k, v)] ∧ s.sch.guard = [] ∧ s.sch.policer = []) ∧
    (∃ (s : State), s.flag Reg.SCH_CTL_TELEM_EN = true ∧ s.busyQueues = []) ∧
    (∃ (s : State), s.flag Reg.SCH_CTL_TELEM_EN = true ∧ s.sch.archive.length < 13701) ∧
    (∃ (s : State), SMap.wf s.regs ∧ s.flag Reg.SCH_CTL_TELEM_EN = true) ∧
    (∃ (s : State), s.flag Reg.SCH_CTL_TELEM_EN = false) ∧
    (∃ (h : Hdr) (p : Bytes) (s : State), Operating s ∧ Privileged .observe h s ∧ p.length = 0) ∧
    (∃ (r : TelemRec) (h : Hdr) (p : Bytes) (s : State), Operating s ∧ Privileged .observe h s ∧ p.length = 12 ∧ s.telemRec (p32 p 0) = some r ∧ p32 p 4 < 78368 ∧ 1 ≤ p32 p 8 ∧ p32 p 8 ≤ 4064 ∧ p32 p 4 + p32 p 8 ≤ 78368 ∧ s.telemLost r.seq (p32 p 4) (p32 p 8) = false) ∧
    (∃ (r : TelemRec) (u : Nat) (h : Hdr) (p : Bytes) (s : State), Operating s ∧ Privileged .operate h s ∧ p.length = 16 ∧ s.telemRec (p32 p 0) = some r ∧ p32 p 4 = 1 ∧ p64 p 8 % 4096 = 0 ∧ s.mgmtUsp = some u ∧ s.telemLost r.seq 0 telemLen = false ∧ s.cmd.bg.length < 16) ∧
    (∃ (h : Hdr) (p : Bytes) (s : State), Operating s ∧ Privileged .operate h s ∧ p.length = 0) ∧
    (∃ (h : Hdr) (p : Bytes) (s : State), Operating s ∧ Privileged .observe h s ∧ p.length = 1 ∧ (fun _ p s => s.isUsp (p8 p 0) = true) h p s) :=
  ⟨⟨64, { src := 72, dest := 73, q := 0, len := 64, ingots := 1, epoch := 0, mc := none, pbar := none, hr := false, perr := false, body := .pps }, [], { (ready.set Reg.SEM_BUNDLE_STATUS_STATE 0 8) with xbr := { Xbr.reset with egress := [(8 * 73, [{ src := 72, dest := 73, q := 0, len := 64, ingots := 1, epoch := 0, mc := none, pbar := none, hr := false, perr := false, body := .pps }])] }, sem := { Sem.reset with streams := [(0, { Stream.dflt with onBundle := some 0 })] } }, by decide⟩,
   ⟨64, ready, by decide⟩,
   ⟨512, 5, { ready with sch := { Sch.reset with shaper := [(512, 5)] } }, by decide⟩,
   ⟨ready.setFlag Reg.SCH_CTL_TELEM_EN 0 true, by set_option maxRecDepth 20000 in decide⟩,
   ⟨ready.setFlag Reg.SCH_CTL_TELEM_EN 0 true, by decide⟩,
   ⟨ready.setFlag Reg.SCH_CTL_TELEM_EN 0 true, by decide⟩,
   ⟨ready.setFlag Reg.SCH_CTL_TELEM_EN 0 false, by decide⟩,
   ⟨wire, [], ready, by decide⟩,
   ⟨{ seq := 0, head := [], samples := 0, entries := [] }, wire, [0, 0, 0, 0, 0, 0, 0, 0, 16, 0, 0, 0], { ready with sch := { Sch.reset with archive := [{ seq := 0, head := [], samples := 0, entries := [] }] } }, by set_option maxRecDepth 20000 in decide⟩,
   ⟨{ seq := 0, head := [], samples := 0, entries := [] }, 0, wire, [0, 0, 0, 0, 1, 0, 0, 0, 0, 16, 0, 0, 0, 0, 0, 0], { ((ready.set Reg.PRT_PORT_CFG_ROLE 0 1).setFlag Reg.PRT_PORT_CFG_MGMT_USP 0 true) with sch := { Sch.reset with archive := [{ seq := 0, head := [], samples := 0, entries := [] }] } }, by set_option maxRecDepth 20000 in decide⟩,
   ⟨wire, [], ready, by decide⟩,
   ⟨wire, [0], ready.set Reg.PRT_PORT_CFG_ROLE 0 1, by decide⟩⟩

/-- Operands and states that meet the hypotheses of SeamBundles, clause by clause. -/
theorem SeamBundles_witness :
    (∃ (b : Bundle) (s : State), SMap.wf s.regs ∧ SMap.wf s.sem.streams ∧ s.bundleUp b.val = true) ∧
    (∃ (b : Bundle) (s : State), SMap.wf s.regs ∧ s.mainUp = true ∧ s.bundleUp b.val = false ∧ (s.bundle b.val).disabled = false) ∧
    (∃ (b : Bundle) (s : State), 2 ≤ s.bundleState b.val ∧ s.bundleState b.val ≤ 8) ∧
    (∃ (b : Bundle) (r : SeamTrain) (s : State), SMap.wf s.regs ∧ s.mainUp = true ∧ r.agree = true ∧ s.bundleState b.val = 0) ∧
    (∃ (b : Bundle) (r : SeamTrain) (i : Nat) (s : State), s.mainUp = true ∧ r.agree = true ∧ s.bundleState b.val = 2 ∧ i < 17 ∧ s.flag Reg.SEM_LANE_STATUS_LOCK (32 * b.val + i) = false) ∧
    (∃ (b : Bundle) (r : SeamTrain) (s : State), SMap.wf s.regs ∧ s.mainUp = true ∧ r.agree = true ∧ s.bundleState b.val = 3 ∧ (r.bundle ≠ b ∨ r.twinB = s.flag Reg.SEM_TWIN_STATUS_TWIN_B) ∧ s.flag Reg.SEM_BUNDLE_STATUS_ID_ERR b.val = false) ∧
    (∃ (b : Bundle) (r : SeamTrain) (s : State), SMap.wf s.regs ∧ s.mainUp = true ∧ r.agree = true ∧ s.bundleState b.val = 3 ∧ r.bundle = b ∧ r.twinB = !s.flag Reg.SEM_TWIN_STATUS_TWIN_B ∧ ((∀ i < 17, laneAt r.types i = 0x5E ∨ laneAt r.types i = 0xA1)) ∧ ((∀ i < 17, (r.lanes.getD i 0x7F).toNat = 16 - i))) ∧
    (∃ (b : Bundle) (r : SeamTrain) (s : State), SMap.wf s.regs ∧ s.mainUp = true ∧ r.agree = true ∧ s.bundleState b.val = 6) ∧
    (∃ (b : Bundle) (i : Fin 17) (x : BitVec 8) (s : State), SMap.wf s.regs ∧ s.bundleState b.val = 5 ∧ x.toNat < s.get Reg.SEM_CTL_FOM_TARGET ∧ SMap.get (s.bundle b.val).adapt i.val 0 < 64) ∧
    (∃ (b : Bundle) (i : Fin 17) (s : State), SMap.wf s.regs ∧ s.bundleUp b.val = true ∧ i.val < 16 ∧ s.flag Reg.SEM_LANE_STATUS_LOST (32 * b.val + i.val) = false ∧ s.get Reg.SEM_BUNDLE_STATUS_SPARE_FOR b.val = 31 ∧ s.flag Reg.SEM_BUNDLE_STATUS_SPARE_FAILED b.val = false ∧ (s.bundle b.val).spareTx = none) ∧
    (∃ (b : Bundle) (i : Fin 17) (s : State), SMap.wf s.regs ∧ SMap.wf s.sem.streams ∧ s.bundleUp b.val = true ∧ i.val < 16 ∧ s.flag Reg.SEM_LANE_STATUS_LOST (32 * b.val + i.val) = false ∧ (s.get Reg.SEM_BUNDLE_STATUS_SPARE_FOR b.val ≠ 31 ∨ s.flag Reg.SEM_BUNDLE_STATUS_SPARE_FAILED b.val = true)) ∧
    (∃ (b : Bundle) (s : State), SMap.wf s.sem.bundles ∧ s.bundleUp b.val = true ∧ (s.bundle b.val).spareTx = none) ∧
    (∃ (b : Bundle) (s : State), s.bundleUp b.val = true ∧ s.flag Reg.SEM_BUNDLE_STATUS_SPARE_FAILED b.val = false ∧ s.get Reg.SEM_BUNDLE_STATUS_SPARE_FOR b.val = 31 ∧ SMap.wf s.regs) ∧
    (∃ (x : Fin 4) (c : Nat) (s : State), SMap.wf s.regs ∧ SMap.wf s.sem.streams ∧ s.bundleUp x.val = true ∧ (s.stream x.val).onBundle = some c ∧ c ≠ x.val ∧ (s.stream x.val).unacked = [] ∧ (s.stream x.val).waiting = []) :=
  ⟨⟨1, bundled, by decide⟩,
   ⟨1, ready, by set_option maxRecDepth 20000 in decide⟩,
   ⟨1, ready.set Reg.SEM_BUNDLE_STATUS_STATE 1 3, by decide⟩,
   ⟨1, { agree := true, types := [], lanes := [], bundle := 1, twinB := true, foms := [] }, ready.set Reg.SEM_BUNDLE_STATUS_STATE 1 0, by decide⟩,
   ⟨1, { agree := true, types := [], lanes := [], bundle := 1, twinB := true, foms := [] }, 4, ready.set Reg.SEM_BUNDLE_STATUS_STATE 1 2, by decide⟩,
   ⟨1, { agree := true, types := [], lanes := [], bundle := 2, twinB := true, foms := [] }, ready.set Reg.SEM_BUNDLE_STATUS_STATE 1 3, by decide⟩,
   ⟨1, { agree := true, types := 0xA1 :: List.replicate 16 0x5E, lanes := [16, 15, 14, 13, 12, 11, 10, 9, 8, 7, 6, 5, 4, 3, 2, 1, 0], bundle := 1, twinB := true, foms := [] }, ready.set Reg.SEM_BUNDLE_STATUS_STATE 1 3, by set_option maxRecDepth 20000 in decide⟩,
   ⟨1, { agree := true, types := [], lanes := [], bundle := 1, twinB := true, foms := [] }, ready.set Reg.SEM_BUNDLE_STATUS_STATE 1 6, by decide⟩,
   ⟨1, 5, 100, ready.set Reg.SEM_BUNDLE_STATUS_STATE 1 5, by decide⟩,
   ⟨1, 5, bundled, by decide⟩,
   ⟨1, 5, bundled.set Reg.SEM_BUNDLE_STATUS_SPARE_FOR 1 3, by decide⟩,
   ⟨1, bundled, by decide⟩,
   ⟨1, bundled, by decide⟩,
   ⟨1, 0, (bundled.set Reg.SEM_BUNDLE_STATUS_STATE 0 8).modStream 1 (fun y => { y with onBundle := some 0 }), by decide⟩⟩

/-- Operands and states that meet the hypotheses of SeamFramesAndTwin, clause by clause. -/
theorem SeamFramesAndTwin_witness :
    (∃ (b : Bundle) (f : SeamFrame) (c : Nat) (s : State), SMap.wf s.regs ∧ SMap.wf s.sem.streams ∧ s.bundleUp b.val = true ∧ f.crcOk = false ∧ (s.stream f.stream.val).onBundle = some c ∧ s.bundleUp c = true ∧ (s.stream f.stream.val).crcTick = none) ∧
    (∃ (b : Bundle) (f : SeamFrame) (c : Nat) (s : State), SMap.wf s.sem.streams ∧ s.bundleUp b.val = true ∧ f.crcOk = true ∧ f.fseq.toNat ≠ (s.stream f.stream.val).expectF ∧ (s.stream f.stream.val).onBundle = some c ∧ s.bundleUp c = true) ∧
    (∃ (b : Bundle) (f : SeamFrame) (g : SeamFrame) (s : State), SMap.wf s.sem.streams ∧ s.bundleUp b.val = true ∧ f.crcOk = true ∧ f.fseq.toNat = (s.stream f.stream.val).expectF ∧ f.slots = [] ∧ (s.stream f.stream.val).unacked = [g] ∧ g.fseq = f.ack ∧ (s.stream f.stream.val).waiting = []) ∧
    (∃ (b : Bundle) (f : SeamFrame) (c : Nat) (g : Fin 1024) (on : Bool) (s : State), SMap.wf s.regs ∧ SMap.wf s.sem.streams ∧ s.bundleUp b.val = true ∧ f.crcOk = true ∧ f.fseq.toNat = (s.stream f.stream.val).expectF ∧ f.slots = [.group g on] ∧ (s.stream f.stream.val).waiting = [] ∧ (s.stream f.stream.val).onBundle = some c ∧ s.bundleUp c = true) ∧
    (∃ (x : Fin 4) (c : Nat) (s : State), SMap.wf s.regs ∧ SMap.wf s.sem.streams ∧ (s.stream x.val).onBundle = some c ∧ s.bundleUp c = true ∧ (s.stream x.val).unacked ≠ [] ∧ (s.stream x.val).resends < 15) ∧
    (∃ (x : Fin 4) (c : Nat) (s : State), SMap.wf s.regs ∧ SMap.wf s.sem.streams ∧ c < 4 ∧ (s.stream x.val).onBundle = some c ∧ s.bundleUp c = true ∧ (s.stream x.val).unacked ≠ [] ∧ (s.stream x.val).resends = 15) ∧
    (∃ (b : Bundle) (p : Port) (m : RelayReq) (k : Nat) (s : State), s.sem.inbox = [(b.val, p, m)] ∧ s.freeMem p.val = some k) ∧
    (∃ (s : State), SMap.wf s.regs ∧ s.twinOn = true ∧ s.bundlesUp = [] ∧ s.sem.run = none ∧ s.sem.asks = [] ∧ s.pol.relocs = [] ∧ s.dir.entries = [] ∧ s.dir.slices = [] ∧ s.tbl.waits = [] ∧ s.flag Reg.DIR_LOST_TWIN = false ∧ ((∀ n < 64, s.mirrorsOn (64 + n) = []))) ∧
    (∃ (h : Hdr) (p : Bytes) (s : State), Operating s ∧ Privileged .observe h s ∧ p.length = 0) ∧
    (∃ (h : Hdr) (p : Bytes) (s : State), Operating s ∧ Privileged .operate h s ∧ p.length = 2 ∧ (fun _ p _ => p8 p 0 < 4 ∧ p8 p 1 = 0) h p s) ∧
    (∃ (h : Hdr) (p : Bytes) (s : State), Operating s ∧ Privileged .operate h s ∧ p.length = 2 ∧ (fun _ p s => p8 p 0 < 4 ∧ p8 p 1 = 1 ∧ s.flag Reg.SEM_TWIN_STATUS_ENABLED = false) h p s) ∧
    (∃ (h : Hdr) (p : Bytes) (s : State), Operating s ∧ Privileged .operate h s ∧ p.length = 2 ∧ (fun _ p s => p8 p 0 < 4 ∧ p8 p 1 = 2 ∧ (s.bundle (p8 p 0)).disabled = true) h p s) ∧
    (∃ (h : Hdr) (p : Bytes) (s : State), Operating s ∧ Privileged .admin h s ∧ p.length = 0 ∧ s.cmd.bg.length < 16 ∧ (fun _ _ s => s.flag Reg.SEM_TWIN_STATUS_PRIMARY = true ∧ s.flag Reg.SEM_TWIN_STATUS_SUSPENDED = false ∧ s.flag Reg.SEM_TWIN_STATUS_ENABLED = false ∧ s.bundlesUp ≠ [] ∧ s.sem.run = none ∧ s.twinId.clear = true) h p s) ∧
    (∃ (h : Hdr) (p : Bytes) (s : State), Operating s ∧ Privileged .admin h s ∧ p.length = 0 ∧ s.cmd.bg.length < 16 ∧ ((fun _ _ s => s.flag Reg.SEM_TWIN_STATUS_PRIMARY = true ∧ s.twinOn = true ∧ s.sem.run = none ∧ (∀ n < 64, s.poolNames (64 + n) = false)) h p s)) ∧
    (∃ (h : Hdr) (p : Bytes) (s : State), Operating s ∧ Privileged .operate h s ∧ p.length = 3 ∧ (fun _ p s => p16 p 0 < 1024 ∧ p8 p 2 < 2 ∧ s.flag Reg.SEM_TWIN_STATUS_PRIMARY = true ∧ s.sem.run = none ∧ s.validExtents = [] ∧ s.twinOn = false) h p s) ∧
    (∃ (h : Hdr) (p : Bytes) (s : State), Operating s ∧ Privileged .observe h s ∧ 20 ≤ p.length ∧ p.length ≤ 4096 ∧ pktOpcode p ≠ 0xC004 ∧ pktOpcode p / 256 ≠ 0xCF ∧ (opPriv (pktOpcode p)).all (fun q => decide (privRank q ≤ privRank (s.privOf h))) = true ∧ s.flag Reg.SEM_TWIN_STATUS_ENABLED = true ∧ s.bundlesUp ≠ [] ∧ SMap.wf s.sem.relays) :=
  ⟨⟨1, { stream := 1, slots := [], fseq := 0, ack := 0xFFFF, nak := false, credit := none, crcOk := false }, 1, bundled, by decide⟩,
   ⟨1, { stream := 1, slots := [], fseq := 5, ack := 0xFFFF, nak := false, credit := none, crcOk := true }, 1, bundled, by decide⟩,
   ⟨1, { stream := 1, slots := [], fseq := 0, ack := 7, nak := false, credit := none, crcOk := true }, { stream := 1, slots := [], fseq := 7, ack := 0, nak := false, credit := none, crcOk := true }, bundled.modStream 1 (fun y => { y with unacked := [{ stream := 1, slots := [], fseq := 7, ack := 0, nak := false, credit := none, crcOk := true }] }), by decide⟩,
   ⟨1, { stream := 1, slots := [.group 5 true], fseq := 0, ack := 0xFFFF, nak := false, credit := none, crcOk := true }, 1, 5, true, bundled, by decide⟩,
   ⟨1, 1, bundled.modStream 1 (fun y => { y with unacked := [{ stream := 1, slots := [], fseq := 7, ack := 0, nak := false, credit := none, crcOk := true }] }), by decide⟩,
   ⟨1, 1, bundled.modStream 1 (fun y => { y with resends := 15, unacked := [{ stream := 1, slots := [], fseq := 7, ack := 0, nak := false, credit := none, crcOk := true }] }), by decide⟩,
   ⟨1, 8, { read := true, dpa := 64, tag := 5, data := [], mask := 0, mval := none, poison := false }, 0, { bundled with sem := { bundled.sem with inbox := [(1, 8, { read := true, dpa := 64, tag := 5, data := [], mask := 0, mval := none, poison := false })] } }, by set_option maxRecDepth 100000 in decide⟩,
   ⟨(ready.setFlag Reg.SEM_TWIN_STATUS_ENABLED 0 true).setFlag Reg.SEM_TWIN_STATUS_SUSPENDED 0 false, by set_option maxRecDepth 20000 in decide⟩,
   ⟨wire, [], ready, by decide⟩,
   ⟨wire, [1, 0], bundled, by decide⟩,
   ⟨wire, [1, 1], bundled, by decide⟩,
   ⟨wire, [1, 2], (bundled.set Reg.SEM_BUNDLE_STATUS_STATE 1 9).modBundle 1 (fun x => { x with disabled := true }), by decide⟩,
   ⟨boss, [], bundled.setFlag Reg.SEM_TWIN_STATUS_PRIMARY 0 true, by decide⟩,
   ⟨boss, [], (bundled.setFlag Reg.SEM_TWIN_STATUS_PRIMARY 0 true).setFlag Reg.SEM_TWIN_STATUS_ENABLED 0 true, by set_option maxRecDepth 20000 in decide⟩,
   ⟨wire, [5, 0, 1], ready.setFlag Reg.SEM_TWIN_STATUS_PRIMARY 0 true, by decide⟩,
   ⟨wire, mkPacket 0 0xC220 5 6 0 [], bundled.setFlag Reg.SEM_TWIN_STATUS_ENABLED 0 true, by decide⟩⟩

/-- Operands and states that meet the hypotheses of VaultPages, clause by clause. -/
theorem VaultPages_witness :
    (∃ (n : Nat) (s : State), s.mainUp = true ∧ n < logicalPages ∧ s.pageLost n = false ∧ (s.page n).formed = false ∧ s.inCrucible n = false) ∧
    (∃ (n : Nat) (s : State), s.mainUp = true ∧ n < logicalPages ∧ s.inCrucible n = true) ∧
    (∃ (n : Nat) (bits : Nat) (e : Nat) (s : State), SMap.wf s.regs ∧ SMap.wf s.vlt.pages ∧ s.mainUp = true ∧ n < logicalPages ∧ s.pageLost n = false ∧ s.inCrucible n = false ∧ (s.page n).formed = true ∧ s.injectedBits n = 0 ∧ e = (s.page n).errBits + bits ∧ 0 < e ∧ e ≤ strengthT (s.pageStrength n)) ∧
    (∃ (n : Nat) (bits : Nat) (s : State), SMap.wf s.regs ∧ SMap.wf s.vlt.pages ∧ s.mainUp = true ∧ n < logicalPages ∧ s.pageLost n = false ∧ s.inCrucible n = false ∧ (s.page n).formed = true ∧ s.injectedBits n = 0 ∧ strengthT (s.pageStrength n) < (s.page n).errBits + bits) ∧
    (∃ (n : Nat) (off : Nat) (bits : Nat) (d : Bytes) (s : State), SMap.wf s.vlt.pages ∧ SMap.wf (s.page n).data ∧ s.mainUp = true ∧ n < logicalPages ∧ s.pageLost n = false ∧ s.inCrucible n = false ∧ (s.page n).errBits + bits + s.injectedBits n = 0 ∧ off + d.length ≤ 2048 ∧ d.length < 2048) ∧
    (∃ (n : Nat) (off : Nat) (d : Bytes) (s : State), s.mainUp = true ∧ n < logicalPages ∧ s.pageLost n = true ∧ s.inCrucible n = false ∧ off + d.length ≤ 2048 ∧ d.length < 2048) ∧
    (∃ (n : Nat) (d : Bytes) (s : State), SMap.wf s.vlt.pages ∧ s.mainUp = true ∧ n < logicalPages ∧ s.onFailed n = false ∧ s.inCrucible n = false ∧ d.length = 2048) ∧
    (∃ (n : Nat) (s : State), SMap.wf s.vlt.pages ∧ s.inCrucible n = true) ∧
    (∃ (n : Nat) (p : Nat) (lost : Bool) (s : State), SMap.wf s.regs ∧ SMap.wf s.vlt.pages ∧ s.vlt.due.find? (fun d => d.1 == n) = some (n, lost) ∧ s.retireTarget n = some p) ∧
    (∃ (n : Nat) (lost : Bool) (s : State), SMap.wf s.regs ∧ s.vlt.due.find? (fun d => d.1 == n) = some (n, lost) ∧ s.retireTarget n = none ∧ s.flag Reg.VLT_STATUS_RESERVE_OUT = false) :=
  ⟨⟨1146880, ready, by decide⟩,
   ⟨1146880, paged.toCrucible 1146880, by decide⟩,
   ⟨1146880, 8, 8, paged, by decide⟩,
   ⟨1146880, 17, paged, by decide⟩,
   ⟨1146880, 100, 0, [1, 2, 3], paged, by decide⟩,
   ⟨1146880, 100, [1, 2, 3], { ready with vlt := { Vlt.reset with due := [(1146880, true)] } }, by decide⟩,
   ⟨1146880, List.replicate 2048 7, ready, by set_option maxRecDepth 20000 in decide⟩,
   ⟨1146880, paged.toCrucible 1146880, by decide⟩,
   ⟨1146880, 740200, true, { paged with vlt := { paged.vlt with due := [(1146880, true)] } }, by decide⟩,
   ⟨1146880, false, fullTable 1048576, fullTable_meets 1048576 (Nat.le_refl _) (by omega)⟩⟩

/-- Operands and states that meet the hypotheses of VaultUpkeep, clause by clause. -/
theorem VaultUpkeep_witness :
    (∃ (n : Nat) (bits : Nat) (s : State), SMap.wf s.regs ∧ SMap.wf s.vlt.pages ∧ s.mainUp = true ∧ s.flag Reg.VLT_ANNEAL_EN = true ∧ s.annealNext = some n ∧ n < logicalPages ∧ s.inCrucible n = false ∧ (s.page n).errBits + bits + s.injectedBits n = 0) ∧
    (∃ (s : State), SMap.wf s.regs ∧ s.mainUp = true ∧ s.flag Reg.VLT_ANNEAL_EN = true ∧ s.annealNext = none) ∧
    (∃ (s : State), s.flag Reg.VLT_ANNEAL_EN = true ∧ s.vlt.annealRunning = true) ∧
    (∃ (s : State), SMap.wf s.regs ∧ s.mainUp = true ∧ s.get Reg.VLT_PC_FAILED = 0 ∧ s.vlt.crucible = []) ∧
    (∃ (i : Fin 32) (j : Fin 32) (s : State), SMap.wf s.regs ∧ s.mainUp = true ∧ s.get Reg.VLT_PC_FAILED = 2 ^ j.val ∧ j.val / 2 ≠ i.val / 2) ∧
    (∃ (b : Fin 512) (s : State), SMap.wf s.regs ∧ SMap.wf s.vlt.banks ∧ SMap.wf (s.bank b.val).correctable ∧ s.mainUp = true) ∧
    (∃ (b : Fin 512) (s : State), SMap.wf s.regs ∧ SMap.wf s.vlt.banks ∧ s.mainUp = true ∧ (s.bank b.val).sparedRows.length < 16) ∧
    (∃ (b : Fin 512) (r : Fin 1024) (s : State), SMap.wf s.regs ∧ SMap.wf s.vlt.banks ∧ 4 ≤ (SMap.get (s.bank b.val).correctable r.val []).length ∧ (s.bank b.val).sparedRows.length < 16) ∧
    (∃ (b : Fin 512) (r : Fin 1024) (s : State), SMap.wf s.regs ∧ SMap.wf s.vlt.banks ∧ 4 ≤ (SMap.get (s.bank b.val).correctable r.val []).length ∧ 16 ≤ (s.bank b.val).sparedRows.length ∧ (s.bank b.val).copying = false ∧ 0 < s.get Reg.VLT_SRAM_STATUS_SPARE_BANKS_FREE) ∧
    (∃ (b : Fin 512) (s : State), SMap.wf s.vlt.banks ∧ (s.bank b.val).copying = true) ∧
    (∃ (b : Nat) (r : Nat) (w : Nat) (s : State), SMap.wf s.regs ∧ s.mainUp = true ∧ s.flag Reg.VLT_ANNEAL_EN = true ∧ s.vlt.flips = [(b, r, w, 1)] ∧ s.vlt.banks = []) ∧
    (∃ (h : Hdr) (p : Bytes) (s : State), Operating s ∧ Privileged .observe h s ∧ p.length = 0) ∧
    (∃ (h : Hdr) (p : Bytes) (s : State), SMap.wf s.regs ∧ Operating s ∧ Privileged .admin h s ∧ p.length = 4 ∧ p32 p 0 < logicalPages ∧ s.inCrucible (p32 p 0) = true) ∧
    (∃ (h : Hdr) (p : Bytes) (s : State), Operating s ∧ Privileged .admin h s ∧ p.length = 2 ∧ (fun _ p _ => 1 ≤ p8 p 0 ∧ p8 p 0 ≤ 11 ∧ p8 p 1 < 6) h p s) ∧
    (∃ (h : Hdr) (p : Bytes) (s : State), Operating s ∧ Privileged .operate h s ∧ p.length = 5 ∧ ((fun _ p _ => 60 ≤ p16 p 0 ∧ p16 p 0 ≤ 10080 ∧ 1 ≤ p16 p 2 ∧ p16 p 2 ≤ 3600 ∧ (p8 p 4 = 0 ∨ p8 p 4 = 1)) h p s)) ∧
    (∃ (h : Hdr) (p : Bytes) (k : Nat) (s : State), SMap.wf s.regs ∧ Operating s ∧ Privileged .admin h s ∧ p.length = 4 ∧ p32 p 0 < logicalPages ∧ s.retireTarget (p32 p 0) = some k ∧ s.pageLost (p32 p 0) = false) ∧
    (∃ (h : Hdr) (p : Bytes) (s : State), Operating s ∧ Privileged .observe h s ∧ p.length = 6 ∧ (fun _ p _ => 1 ≤ p16 p 4 ∧ p16 p 4 ≤ 512) h p s) ∧
    (∃ (h : Hdr) (p : Bytes) (s : State), Operating s ∧ Privileged .observe h s ∧ p.length = 0) :=
  ⟨⟨1146880, 0, paged, by decide⟩,
   ⟨ready, by decide⟩,
   ⟨{ ready with vlt := { Vlt.reset with annealRunning := true } }, by decide⟩,
   ⟨ready, by set_option maxRecDepth 20000 in decide⟩,
   ⟨3, 8, ready.set Reg.VLT_PC_FAILED 0 256, by decide⟩,
   ⟨5, ready, by decide⟩,
   ⟨5, ready, by decide⟩,
   ⟨5, 6, { ready with vlt := { Vlt.reset with banks := [(5, { sparedRows := [], correctable := [(6, [1, 2, 3, 4])], copying := false, replaced := 0 })] } }, by decide⟩,
   ⟨5, 6, { ready with vlt := { Vlt.reset with banks := [(5, { sparedRows := List.range 16, correctable := [(6, [1, 2, 3, 4])], copying := false, replaced := 0 })] } }, by decide⟩,
   ⟨5, { ready with vlt := { Vlt.reset with banks := [(5, { sparedRows := List.range 16, correctable := [(6, [1, 2, 3, 4])], copying := true, replaced := 0 })] } }, by decide⟩,
   ⟨5, 6, 7, { ready with vlt := { Vlt.reset with flips := [(5, 6, 7, 1)] } }, by decide⟩,
   ⟨wire, [], ready, by decide⟩,
   ⟨boss, [0, 128, 17, 0], paged.toCrucible 1146880, by decide⟩,
   ⟨boss, [5, 2], ready, by decide⟩,
   ⟨wire, [100, 0, 60, 0, 1], ready, by decide⟩,
   ⟨boss, [0, 128, 17, 0], 740200, ready, by decide⟩,
   ⟨wire, [0, 0, 0, 0, 5, 0], ready, by decide⟩,
   ⟨wire, [], ready, by decide⟩⟩

/-- Operands and states that meet the hypotheses of HomeSlices, clause by clause. -/
theorem HomeSlices_witness :
    (∃ (i : Slice) (r : HomeReq) (c : Copy) (k : Nat) (s : State), SMap.wf s.regs ∧ SMap.wf s.dir.slices ∧ s.mainUp = true ∧ s.flag Reg.DIR_SLICE_STATUS_FAILED i.val = false ∧ s.pipeHeld (.slice i) = false ∧ s.homeSlice i.val = { SliceSt.dflt with srcQ := [r] } ∧ s.isUsp r.src = true ∧ s.get Reg.DIR_TRK_CTL_WR_RESV < 32 ∧ entShared r.entry = false ∧ r.op = .memRd ∧ r.atom = none ∧ r.relocSlot = none ∧ s.readCopy r.entry r.line r.stamp = some c ∧ c.port < 64 ∧ s.freeMem c.port = some k) ∧
    (∃ (i : Slice) (r : HomeReq) (c : Copy) (k : Nat) (w : Nat) (s : State), SMap.wf s.regs ∧ SMap.wf s.dir.slices ∧ SMap.wf s.dir.entries ∧ s.mainUp = true ∧ s.flag Reg.DIR_SLICE_STATUS_FAILED i.val = false ∧ s.pipeHeld (.slice i) = false ∧ s.homeSlice i.val = { SliceSt.dflt with srcQ := [r], cached := [pageOf r.line] } ∧ s.isUsp r.src = true ∧ s.get Reg.DIR_TRK_CTL_WR_RESV < 32 ∧ entShared r.entry = true ∧ r.op = .memRd ∧ r.snp = .snpInv ∧ r.mval = some .a ∧ r.usp.isSome = true ∧ r.atom = none ∧ r.relocSlot = none ∧ s.dir.flushes = [] ∧ s.findWay r.line = none ∧ s.freeWay (setOf r.line) = some w ∧ s.readCopy r.entry r.line r.stamp = some c ∧ c.port < 64 ∧ s.freeMem c.port = some k) ∧
    (∃ (i : Slice) (s : State), s.homeSlice i.val = SliceSt.dflt) ∧
    (∃ (i : Slice) (line : Line) (x : Txn) (u : Nat) (w : Nat) (s : State), SMap.wf s.dir.slices ∧ SMap.wf s.dir.entries ∧ s.homeSlice i.val = { SliceSt.dflt with txns := [x] } ∧ x.req.line = line ∧ x.req.usp = some u ∧ u < 64 ∧ s.isLost u = false ∧ x.way = some w ∧ w < 16 ∧ (x.cat = .rdS ∨ x.cat = .rdO) ∧ (s.way (setOf line) w).stable = .i ∧ s.flag Reg.DIR_CTL_RD_S_GRANT_E = false ∧ x.snooped = true ∧ x.accs = [] ∧ x.answered = true ∧ x.poisonLine = false ∧ x.lostOwner = false ∧ s.dir.flushes = [] ∧ s.sem.snps = []) ∧
    (∃ (i : Slice) (line : Line) (v : Evict) (s : State), SMap.wf s.regs ∧ SMap.wf s.dir.slices ∧ s.homeSlice i.val = { SliceSt.dflt with evb := [v] } ∧ v.line = line ∧ v.snoops = 0 ∧ v.twinSnoop = false ∧ v.accs = [] ∧ v.flush = false ∧ v.twin = none ∧ s.dir.flushes = [] ∧ s.sem.snps = []) ∧
    (∃ (u : Port) (line : Line) (i : Slice) (v : Evict) (s : State), SMap.wf s.dir.slices ∧ s.snoopedBy u.val line = some (i.val, false) ∧ s.evictOf i.val line = some v ∧ v.twin = none) ∧
    (∃ (u : Port) (line : Line) (s : State), SMap.wf s.regs ∧ SMap.wf s.dir.slices ∧ s.snoopedBy u.val line = none ∧ s.flag Reg.DIR_SLICE_STATUS_FAILED ((s.homeAt line s.tbl.epoch).getD 0) = false) ∧
    (∃ (u : Port) (line : Line) (d : Bytes) (i : Slice) (v : Evict) (c : Copy) (k : Nat) (s : State), SMap.wf s.dir.slices ∧ SMap.wf s.regs ∧ s.snoopedBy u.val line = some (i.val, false) ∧ s.evictOf i.val line = some v ∧ s.isLost u.val = false ∧ entReloc v.entry = false ∧ s.writeCopies v.entry line v.stamp = [c] ∧ c.port < 64 ∧ s.freeMem c.port = some k ∧ d.length = 64) ∧
    (∃ (s : State), SMap.wf s.regs) ∧
    (∃ (u : Port) (line : Line) (i : Slice) (v : Evict) (s : State), SMap.wf s.dir.slices ∧ s.snoopedBy u.val line = some (i.val, false) ∧ s.evictOf i.val line = some v ∧ v.owner ≠ some u.val) :=
  ⟨⟨3, rdReq 17825793, { slot := 0, no := 0, state := 0, port := 8, dpa := 2097152 }, 0, { uspOn with dir := { Dir.reset with slices := [(3, { SliceSt.dflt with srcQ := [rdReq 17825793] })] } }, by set_option maxRecDepth 100000 in decide⟩,
   ⟨3, rdReq 17825795, { slot := 0, no := 0, state := 0, port := 8, dpa := 2097152 }, 0, 0, { uspOn with dir := { Dir.reset with slices := [(3, { SliceSt.dflt with srcQ := [rdReq 17825795], cached := [0] })] } }, by set_option maxRecDepth 100000 in decide⟩,
   ⟨3, ready, by decide⟩,
   ⟨3, 0, { Txn.start (rdReq 17825795) .rdO with way := some 2, answered := true, data := some [] }, 0, 2, { uspOn with dir := { Dir.reset with entries := [(2, { DirEntry.dflt with state := .fill, pinned := true })], slices := [(3, { SliceSt.dflt with txns := [{ Txn.start (rdReq 17825795) .rdO with way := some 2, answered := true, data := some [] }] })] } }, by decide⟩,
   ⟨3, 5, victim, { uspOn with dir := { Dir.reset with slices := [(3, { SliceSt.dflt with evb := [victim] })] } }, by decide⟩,
   ⟨4, 5, 3, { victim with snoops := 16 }, { uspOn with dir := { Dir.reset with slices := [(3, { SliceSt.dflt with evb := [{ victim with snoops := 16 }] })] } }, by decide⟩,
   ⟨4, 5, ready, by decide⟩,
   ⟨4, 5, List.replicate 64 7, 3, { victim with snoops := 16, owner := some 4, entry := 17825795 }, { slot := 0, no := 0, state := 0, port := 8, dpa := 2097472 }, 0, { uspOn with dir := { Dir.reset with slices := [(3, { SliceSt.dflt with evb := [{ victim with snoops := 16, owner := some 4, entry := 17825795 }] })] } }, by set_option maxRecDepth 100000 in decide⟩,
   ⟨ready, by decide⟩,
   ⟨4, 5, 3, { victim with snoops := 16 }, { uspOn with dir := { Dir.reset with slices := [(3, { SliceSt.dflt with evb := [{ victim with snoops := 16 }] })] } }, by decide⟩⟩

/-- Operands and states that meet the hypotheses of DirectoryUpkeep, clause by clause. -/
theorem DirectoryUpkeep_witness :
    (∃ (i : Slice) (pg : Nat) (r : HomeReq) (s : State), SMap.wf s.dir.slices ∧ (s.homeSlice i.val).missing = [(pg, r)] ∧ pg ∉ (s.homeSlice i.val).cached ∧ (s.homeSlice i.val).cached.length + (s.homeSlice i.val).dirty.length < 2048 ∧ pageOf r.line ≠ pg ∧ entShared r.entry = true ∧ pageOf r.line ∉ (s.homeSlice i.val).cached ∧ s.dir.flushes = [] ∧ SMap.wf s.regs) ∧
    (∃ (i : Slice) (s : State), SMap.wf s.dir.slices ∧ 512 ≤ (s.homeSlice i.val).dirty.length ∧ (s.homeSlice i.val).missing = []) ∧
    (∃ (u : Port) (s : State), SMap.wf s.regs ∧ SMap.wf s.dir.entries ∧ s.dir.walk = some { ports := 2 ^ u.val, twin := false, late := 0, lateTwin := false, extra := false } ∧ s.isLost u.val = true ∧ s.dir.slices.all (fun x => !x.2.asks u.val) = true) ∧
    (∃ (n : Nat) (s : State), SMap.wf s.dir.slices ∧ ((∀ j < 8, (s.homeSlice j).heldStamp = some n ∧ (s.homeSlice j).txns = [] ∧ (s.homeSlice j).retry = [] ∧ (s.homeSlice j).lineQ = [] ∧ (s.homeSlice j).missing = [] ∧ (s.homeSlice j).srcQ.all (fun r => !earlier r.stamp n) = true))) ∧
    (∃ (pg : Nat) (s : State), SMap.wf s.dir.entries ∧ pg < 1048576 ∧ s.dir.flushes = [] ∧ s.dir.slices = [] ∧ s.validExtents = []) ∧
    (∃ (i : Slice) (r : HomeReq) (u : Nat) (s : State), SMap.wf s.regs ∧ SMap.wf s.dir.slices ∧ s.flag Reg.DIR_SLICE_STATUS_FAILED i.val = false ∧ s.dir.flushes = [] ∧ (s.homeSlice i.val).unanswered = [r] ∧ r.usp = some u ∧ u < 64 ∧ s.isLost u = false ∧ r.atom = none ∧ r.op = .memRd) ∧
    (∃ (h : Hdr) (p : Bytes) (s : State), Operating s ∧ Privileged .observe h s ∧ p.length = 0) ∧
    (∃ (h : Hdr) (p : Bytes) (s : State), Operating s ∧ Privileged .observe h s ∧ p.length = 8 ∧ (fun _ p _ => p64 p 0 < 2 ^ 45) h p s) ∧
    (∃ (h : Hdr) (p : Bytes) (s : State), Operating s ∧ Privileged .observe h s ∧ p.length = 4 ∧ (fun _ p _ => p32 p 0 < 2 ^ 23) h p s) ∧
    (∃ (h : Hdr) (p : Bytes) (s : State), Operating s ∧ Privileged .operate h s ∧ p.length = 12 ∧ p64 p 0 % pageBytes = 0 ∧ p64 p 0 < 2 ^ 45 ∧ 1 ≤ p32 p 8 ∧ p64 p 0 / pageBytes + p32 p 8 ≤ 2 ^ 24 ∧ s.rangeRelocating p = false ∧ s.dir.entries = [] ∧ s.cmd.bg.length < 16) ∧
    (∃ (h : Hdr) (p : Bytes) (s : State), Operating s ∧ Privileged .admin h s ∧ p.length = 12 ∧ p64 p 0 % pageBytes = 0 ∧ p64 p 0 < 2 ^ 45 ∧ 1 ≤ p32 p 8 ∧ p64 p 0 / pageBytes + p32 p 8 ≤ 2 ^ 24 ∧ s.validExtents.all (fun e => !entPoisoned e.2 && !entReloc e.2) = true ∧ s.dir.entries = [] ∧ s.cmd.bg.length < 16) ∧
    (∃ (k : Nat) (x : Nat) (e : DirEntry) (h : Hdr) (p : Bytes) (s : State), Operating s ∧ Privileged .admin h s ∧ p.length = 12 ∧ p64 p 0 % pageBytes = 0 ∧ p64 p 0 < 2 ^ 45 ∧ p32 p 8 = 1 ∧ s.cmd.bg.length < 16 ∧ s.dir.entries = [(k, e)] ∧ e.poisoned = true ∧ e.pinned = false ∧ extentOf (lineOf (k / 16) e.tag) = p64 p 0 / pageBytes ∧ s.validExtents = [(p64 p 0 / pageBytes, x)] ∧ entPoisoned x = true ∧ entReloc x = false) ∧
    (∃ (h : Hdr) (p : Bytes) (s : State), Operating s ∧ Privileged .observe h s ∧ p.length = 0) :=
  ⟨⟨3, 7, rdReq 17825795, { uspOn with dir := { Dir.reset with slices := [(3, { SliceSt.dflt with missing := [(7, rdReq 17825795)] })] } }, by decide⟩,
   ⟨3, { ready with dir := { Dir.reset with slices := [(3, { SliceSt.dflt with dirty := List.range 512 })] } }, by set_option maxRecDepth 20000 in decide⟩,
   ⟨4, { (ready.set Reg.DIR_LOST_LO 0 16) with dir := { Dir.reset with entries := [(33, { DirEntry.dflt with state := .e, owner := 4 })], walk := some { ports := 16, twin := false, late := 0, lateTwin := false, extra := false } } }, by decide⟩,
   ⟨5, { ready with dir := { Dir.reset with slices := (List.range 8).map (fun i => (i, { SliceSt.dflt with heldStamp := some 5 })) } }, by decide⟩,
   ⟨7, { ready with dir := { Dir.reset with entries := [(16 * 56, { DirEntry.dflt with state := .e, owner := 4 })] } }, by decide⟩,
   ⟨3, rdReq 17825795, 0, { ready with dir := { Dir.reset with slices := [(3, { SliceSt.dflt with srcQ := [rdReq 17825795] })] } }, by set_option maxRecDepth 20000 in decide⟩,
   ⟨wire, [], ready, by decide⟩,
   ⟨wire, [0, 0, 0, 0, 0, 0, 0, 0], ready, by decide⟩,
   ⟨wire, [0, 0, 0, 0], ready, by decide⟩,
   ⟨wire, [0, 0, 0, 0, 0, 0, 0, 0, 1, 0, 0, 0], ready, by decide⟩,
   ⟨boss, [0, 0, 0, 0, 0, 0, 0, 0, 1, 0, 0, 0], ready, by decide⟩,
   ⟨0, 19, { DirEntry.dflt with poisoned := true }, boss, [0, 0, 0, 0, 0, 0, 0, 0, 1, 0, 0, 0], { ready with dir := { Dir.reset with entries := [(0, { DirEntry.dflt with poisoned := true })] }, pol := { ready.pol with map := [(0, 19)] } }, by decide⟩,
   ⟨wire, [], ready, by decide⟩⟩

/-- Operands and states that meet the hypotheses of PoolDevicesAndLookups, clause by clause. -/
theorem PoolDevicesAndLookups_witness :
    (∃ (ld : Fin 1024) (x : Held) (i : Nat) (s : State), SMap.wf s.sch.holds ∧ SMap.wf s.sch.policer ∧ SMap.wf s.dir.slices ∧ 0 < s.policerTokens ld.val ∧ s.holdOf (ld.val / 16) = [x] ∧ x.ld = ld.val ∧ s.homeAt x.req.line x.req.stamp = some i ∧ bitOf s.flt.safeSlices i = false ∧ s.flag Reg.DIR_SLICE_STATUS_FAILED i = false ∧ entShared x.req.entry = false) ∧
    (∃ (p : Port) (k : Fin 64) (m : MissHold) (n : Nat) (i : Nat) (s : State), SMap.wf s.dir.slices ∧ SMap.wf s.pol.mapCache ∧ s.pol.misses = [m] ∧ m.port = p.val ∧ m.slot = k.val ∧ m.pair = none ∧ s.pol.badPages = [] ∧ s.pairMiss (s.entryAt m.extent m.stamp) m.stamp = none ∧ s.poolRow m.ld m.dpa m.stamp (isWriteOp m.req.op) = (9, n) ∧ policerCharges (s.policerEntry m.ld) (isWriteOp m.req.op) = false ∧ s.homeAt (m.dpa % 2 ^ 45 / 64) m.stamp = some i ∧ bitOf s.flt.safeSlices i = false ∧ s.flag Reg.DIR_SLICE_STATUS_FAILED i = false ∧ s.pol.startHold = false ∧ entShared (s.entryAt (extentOf (m.dpa % 2 ^ 45 / 64)) m.stamp) = false) ∧
    (∃ (m : MissHold) (n : Nat) (s : State), s.pol.startHold = true ∧ s.pol.held = [m] ∧ m.port < 64 ∧ s.poolRow m.ld m.dpa m.stamp false = (8, n) ∧ isWriteOp m.req.op = false) ∧
    (∃ (p : Port) (d : DevIdent) (s : State), SMap.wf s.regs ∧ SMap.wf s.pol.devices ∧ s.isPool p.val = true ∧ (s.port p.val).up = true ∧ s.flag Reg.POL_DSP_CFG_DEVICE_OK p.val = false ∧ d.ok = true ∧ d.cxlMem = true ∧ d.type3 = true ∧ pageBytes ≤ d.capacity ∧ d.capacity / pageBytes < 2 ^ 24 ∧ (s.poolDev p.val).known = false ∧ s.pagesUsed p.val ≤ d.capacity / pageBytes ∧ s.pol.held = []) ∧
    (∃ (p : Port) (d : DevIdent) (s : State), s.isPool p.val = true ∧ (s.port p.val).up = true ∧ s.flag Reg.POL_DSP_CFG_DEVICE_OK p.val = false ∧ (d.ok = false ∨ d.cxlMem = false ∨ d.type3 = false ∨ d.capacity < pageBytes)) ∧
    (∃ (p : Port) (s : State), s.isPool p.val = true ∧ s.flag Reg.POL_DSP_CFG_DEVICE_OK p.val = true) ∧
    (∃ (p : Port) (s : State), s.isPool p.val = true) :=
  ⟨⟨0, { ld := 0, cost := 64, req := rdReq 17825793 }, 0, { pooled with sch := { Sch.reset with holds := [(0, [{ ld := 0, cost := 64, req := rdReq 17825793 }])], policer := [(0, 5)] } }, by set_option maxRecDepth 20000 in decide⟩,
   ⟨0, 2, heldReq, 8, 0, { pooled with pol := { pooled.pol with misses := [heldReq] } }, by set_option maxRecDepth 20000 in decide⟩,
   ⟨heldReq, 8, { (pooled.setFlag Reg.POL_DSP_CFG_DEVICE_OK 8 false) with pol := { pooled.pol with startHold := true, held := [heldReq] } }, by set_option maxRecDepth 20000 in decide⟩,
   ⟨8, { cxlMem := true, type3 := true, serial := 77, capacity := 10000000, ok := true }, pooled.setFlag Reg.POL_DSP_CFG_DEVICE_OK 8 false, by set_option maxRecDepth 20000 in decide⟩,
   ⟨8, { cxlMem := true, type3 := true, serial := 77, capacity := 1000000, ok := true }, pooled.setFlag Reg.POL_DSP_CFG_DEVICE_OK 8 false, by set_option maxRecDepth 20000 in decide⟩,
   ⟨8, pooled, by set_option maxRecDepth 20000 in decide⟩,
   ⟨8, pooled, by set_option maxRecDepth 20000 in decide⟩⟩

/-- Operands and states that meet the hypotheses of CapacityAndGroups, clause by clause. -/
theorem CapacityAndGroups_witness :
    (∃ (g : Nat) (ld : Nat) (m : Nat) (r : Release) (o : FlushOp) (s : State), s.pol.releases = [r] ∧ s.dir.flushes = [o] ∧ o.release = some r.id ∧ s.releaseClear r.id = true ∧ r.extents = [] ∧ r.leavers = [(ld, g)] ∧ r.joiners = [] ∧ r.destroy = false ∧ m ∈ s.members g ∧ m ≠ ld) ∧
    (∃ (ld : Fin 1024) (x : Nat) (s : State), s.holdsExtent ld.val x = true ∧ s.stagedExtent x = false ∧ entShared (s.entry x) = false ∧ s.pol.releases = [] ∧ s.relocOf x = none ∧ s.dir.flushes = []) ∧
    (∃ (ld : Fin 1024) (first : Nat) (count : Nat) (x : Nat) (s : State), first ≤ x ∧ x < first + count ∧ s.holdsExtent ld.val x = false) ∧
    (∃ (r : Release) (s : State), s.pol.releases = [r] ∧ r.waitHost = true) ∧
    (∃ (g : Grant) (x : Nat) (e : Nat) (c : Copy) (s : State), s.pol.grants = [g] ∧ g.fills ≠ 0 ∧ g.entries = [(x, e)] ∧ s.copies e (x * linesPerExtent) s.tbl.epoch = [c]) ∧
    (∃ (ld : Fin 1024) (g : Grant) (acc : List (Nat × Nat)) (s : State), s.pol.grants = [g] ∧ g.offered = true ∧ g.lds = [ld.val] ∧ g.entries.all (fun e => acc.any (fun a => a.1 ≤ e.1 && e.1 < a.1 + a.2)) = true) ∧
    (∃ (ld : Fin 1024) (g : Grant) (x : Nat) (e : Nat) (s : State), s.pol.grants = [g] ∧ g.offered = true ∧ g.lds = [ld.val] ∧ g.entries = [(x, e)] ∧ s.holdsExtent ld.val x = true ∧ s.stagedExtent x = false ∧ entShared (s.entry x) = false ∧ s.relocOf x = none ∧ s.dir.flushes = []) ∧
    (∃ (page : Nat) (pair : Bool) (s : State), s.pol.badPages = [(page, pair)]) ∧
    (∃ (h : Hdr) (p : Bytes) (s : State), Operating s ∧ Privileged .observe h s ∧ p.length = 0) ∧
    (∃ (h : Hdr) (p : Bytes) (s : State), Operating s ∧ Privileged .admin h s ∧ p.length = 32 ∧ s.isUsp (p8 p 0) = true ∧ ((∀ i < 16, bitOf (p8 p (16 + i)) 7 = true → s.targetOk (p8 p (16 + i) % 128) = true)) ∧ s.validExtents = []) ∧
    (∃ (h : Hdr) (p : Bytes) (s : State), Operating s ∧ Privileged .operate h s ∧ p.length = 32 ∧ p16 p 0 = 1 ∧ p8 p 2 = 0 ∧ s.ldOperand (p16 p 4) = true ∧ entShared (grantRun p 0).entry = false ∧ s.grantBad (grantRun p 0) = none ∧ s.hasLd (p16 p 4) = true ∧ s.grantRefused ((grantRun p 0).entries (p16 p 4)) false = none ∧ s.cmd.bg.length < 16) ∧
    (∃ (x : Nat × Nat) (h : Hdr) (p : Bytes) (s : State), Operating s ∧ Privileged .operate h s ∧ p.length = 12 ∧ s.ldOperand (p16 p 0) = true ∧ p32 p 4 < 2 ^ 24 ∧ p32 p 8 = 1 ∧ s.validExtents = [x] ∧ x.1 = p32 p 4 ∧ s.holdsExtent (p16 p 0) x.1 = true ∧ s.stagedExtent x.1 = false ∧ s.cmd.bg.length < 16) ∧
    (∃ (h : Hdr) (p : Bytes) (s : State), Operating s ∧ Privileged .observe h s ∧ p.length = 6 ∧ (fun _ p _ => 1 ≤ p16 p 4 ∧ p16 p 4 ≤ 508 ∧ p32 p 0 + p16 p 4 ≤ 2 ^ 24) h p s) ∧
    (∃ (h : Hdr) (p : Bytes) (s : State), Operating s ∧ Privileged .operate h s ∧ p.length = 160 ∧ (fun _ p s => p16 p 0 < 1024 ∧ s.members (p16 p 0) = [] ∧ fieldAt p 32 128 = 0 ∧ s.groupExtents (p16 p 0) = []) h p s) ∧
    (∃ (m : Fin 1024) (h : Hdr) (p : Bytes) (s : State), Operating s ∧ Privileged .operate h s ∧ p.length = 160 ∧ p16 p 0 < 1024 ∧ fieldAt p 32 128 = 2 ^ m.val ∧ s.hasLd m.val = true ∧ s.members (p16 p 0) = [] ∧ s.groupExtents (p16 p 0) = [] ∧ s.dir.flushes = []) :=
  ⟨⟨5, 0, 1, { id := 3, bgId := none, ld := 0, extents := [], waitHost := false, destroy := false, leavers := [(0, 5)], joiners := [], asked := (0, 0) }, { op := 0, ranges := [], usp := some 0, bgId := none, release := some 3, page := none, twin := false }, { grouped with pol := { grouped.pol with releases := [{ id := 3, bgId := none, ld := 0, extents := [], waitHost := false, destroy := false, leavers := [(0, 5)], joiners := [], asked := (0, 0) }] }, dir := { Dir.reset with flushes := [{ op := 0, ranges := [], usp := some 0, bgId := none, release := some 3, page := none, twin := false }] } }, by set_option maxRecDepth 20000 in decide⟩,
   ⟨0, 0, pooled, by set_option maxRecDepth 20000 in decide⟩,
   ⟨0, 5, 2, 6, pooled, by set_option maxRecDepth 20000 in decide⟩,
   ⟨{ id := 3, bgId := none, ld := 0, extents := [], waitHost := true, destroy := false, leavers := [], joiners := [], asked := (0, 1) }, { ready with pol := { ready.pol with releases := [{ id := 3, bgId := none, ld := 0, extents := [], waitHost := true, destroy := false, leavers := [], joiners := [], asked := (0, 1) }] } }, by decide⟩,
   ⟨grantOf, 1, 34603009, { no := 0, state := 0, port := 8, dpa := 4194304, slot := 0 }, { pooled with pol := { pooled.pol with grants := [grantOf] } }, by set_option maxRecDepth 20000 in decide⟩,
   ⟨0, { grantOf with offered := true }, [(0, 5)], { pooled with pol := { pooled.pol with grants := [{ grantOf with offered := true }] } }, by set_option maxRecDepth 20000 in decide⟩,
   ⟨0, { grantOf with offered := true, entries := [(0, 17825793)] }, 0, 17825793, { pooled with pol := { pooled.pol with grants := [{ grantOf with offered := true, entries := [(0, 17825793)] }] } }, by set_option maxRecDepth 20000 in decide⟩,
   ⟨5, true, { ready with pol := { ready.pol with badPages := [(5, true)] } }, by decide⟩,
   ⟨wire, [], ready, by set_option maxRecDepth 20000 in decide⟩,
   ⟨boss, List.replicate 32 0, uspOn, by set_option maxRecDepth 20000 in decide⟩,
   ⟨wire, [1, 0, 0, 0, 0, 0, 0, 0, 0, 0, 0, 0, 0, 0, 0, 0, 1, 0, 0, 0, 1, 0, 0, 0, 1, 0, 16, 2, 0, 0, 0, 0], pooled, by set_option maxRecDepth 20000 in decide⟩,
   ⟨(0, 17825793), wire, [0, 0, 0, 0, 0, 0, 0, 0, 1, 0, 0, 0], pooled, by set_option maxRecDepth 20000 in decide⟩,
   ⟨wire, [0, 0, 0, 0, 2, 0], pooled, by set_option maxRecDepth 20000 in decide⟩,
   ⟨wire, List.replicate 160 0, ready, by set_option maxRecDepth 20000 in decide⟩,
   ⟨0, wire, List.replicate 32 0 ++ 1 :: List.replicate 127 0, pooled, by set_option maxRecDepth 20000 in decide⟩⟩

/-- Operands and states that meet the hypotheses of LiveRelocation, clause by clause. -/
theorem LiveRelocation_witness :
    (∃ (i : RelocItem) (k : Nat) (s : State), SMap.wf s.pol.map ∧ s.pol.relocs = [] ∧ s.pol.relocCmds = [] ∧ i.copy = none ∧ s.freeSlot = some k ∧ 1 ≤ s.get Reg.POL_RELOC_CTL_BATCH ∧ SMap.wf (s.table 0x0A41).active ∧ SMap.wf s.tbl.tables) ∧
    (∃ (r : Reloc) (s : State), s.pol.relocs = [r] ∧ r.freeAt = none ∧ r.aborting = false ∧ r.leg = 3 ∧ r.origPair = none) ∧
    (∃ (r : Reloc) (s : State), s.pol.relocs = [r] ∧ r.freeAt = none ∧ r.aborting = false ∧ r.leg < 4 ∧ r.origPair = none) ∧
    (∃ (r : Reloc) (e : Nat) (s : State), s.pol.relocs = [r] ∧ r.freeAt = some e ∧ (s.stamps.any (fun t => earlier t e)) = false ∧ s.pol.relocCmds = []) ∧
    (∃ (h : Hdr) (p : Bytes) (s : State), Operating s ∧ Privileged .operate h s ∧ p.length = 32 ∧ s.cmd.bg.length < 16 ∧ (fun _ p s => p8 p 0 = 0 ∧ p16 p 2 = 1 ∧ p32 p 16 < 2 ^ 24 ∧ p32 p 20 < 2 ^ 24 ∧ s.destOk (bitOf (p8 p 25) 0) (p8 p 24) (entMirrored (s.entry (p32 p 16))) = true ∧ s.itemConflict (listItem s p 0) = false ∧ mapRuns s.pol.map < 196608) h p s) ∧
    (∃ (r : Reloc) (c : RelocCmd) (h : Hdr) (s : State), Operating s ∧ Privileged .operate h s ∧ s.cmd.bg.length < 16 ∧ s.pol.relocs = [r] ∧ s.pol.relocCmds = [c] ∧ s.pol.abortBg = none ∧ r.freeAt = none ∧ r.aborting = false ∧ r.leg < 4 ∧ r.origPair = none ∧ c.current = some r.batch) ∧
    (∃ (h : Hdr) (p : Bytes) (s : State), Operating s ∧ Privileged .observe h s ∧ p.length = 0) ∧
    (∃ (h : Hdr) (p : Bytes) (s : State), Operating s ∧ Privileged .operate h s ∧ p.length = 12 ∧ s.cmd.bg.length < 16 ∧ (fun _ p s => p32 p 0 < 1046536 ∧ p8 p 4 ≤ 1 ∧ s.destOk (bitOf (p8 p 6) 0) (p8 p 5) true = true ∧ p32 p 8 < 2 ^ 24 ∧ cwState (s.copyWord (p32 p 0) (p8 p 4)) = 2 ∧ s.validExtents.length = 1 ∧ (s.validExtents.all (fun x => entMirrored x.2 && entPage x.2 == p32 p 0 && !s.itemConflict { extent := x.1, copy := some (p8 p 4), target := p8 p 5, il := bitOf (p8 p 6) 0, page := p32 p 8 })) = true) h p s) :=
  ⟨⟨{ extent := 0, copy := none, target := 9, il := false, page := 3 }, 0, pooled, by set_option maxRecDepth 20000 in decide⟩,
   ⟨{ moving with leg := 3 }, { pooled with pol := { pooled.pol with relocs := [{ moving with leg := 3 }] } }, by decide⟩,
   ⟨moving, { pooled with pol := { pooled.pol with relocs := [moving] } }, by decide⟩,
   ⟨{ moving with freeAt := some 0 }, 0, { pooled with pol := { pooled.pol with relocs := [{ moving with freeAt := some 0 }] } }, by set_option maxRecDepth 20000 in decide⟩,
   ⟨wire, [0, 0, 1, 0, 0, 0, 0, 0, 0, 0, 0, 0, 0, 0, 0, 0, 0, 0, 0, 0, 3, 0, 0, 0, 9, 0, 0, 0, 0, 0, 0, 0], (pooled.set Reg.PRT_PORT_CFG_ROLE 9 2).set Reg.POL_DSP_CFG_PERSONALITY 9 2, by set_option maxRecDepth 20000 in decide⟩,
   ⟨moving, { bgId := 1, todo := [{ extent := 4, copy := none, target := 9, il := false, page := 3 }], batches := 1, batchesDone := 0, moved := 0, aborted := 0, current := some 4 }, wire, { pooled with pol := { pooled.pol with relocs := [moving], relocCmds := [{ bgId := 1, todo := [{ extent := 4, copy := none, target := 9, il := false, page := 3 }], batches := 1, batchesDone := 0, moved := 0, aborted := 0, current := some 4 }] } }, by decide⟩,
   ⟨wire, [], ready, by decide⟩,
   ⟨wire, [7, 0, 0, 0, 1, 9, 0, 0, 3, 0, 0, 0], fencedPair, by set_option maxRecDepth 20000 in decide⟩⟩

/-- Operands and states that meet the hypotheses of MoverRings, clause by clause. -/
theorem MoverRings_witness :
    (∃ (s : State), SMap.wf s.mov.fns) ∧
    (∃ (f : Fn) (r : Fin 4) (tail : BitVec 16) (s : State), s.fnLive (fnKey f) = true ∧ (s.fn (fnKey f)).flr = false ∧ tail.toNat < ((s.fn (fnKey f)).sq r.val).depth ∧ ringDist ((s.fn (fnKey f)).sq r.val).depth ((s.fn (fnKey f)).sq r.val).head ((s.fn (fnKey f)).sq r.val).tail + ringDist ((s.fn (fnKey f)).sq r.val).depth ((s.fn (fnKey f)).sq r.val).tail tail.toNat < ((s.fn (fnKey f)).sq r.val).depth) ∧
    (∃ (f : Fn) (r : Fin 4) (tail : BitVec 16) (s : State), s.fnLive (fnKey f) = true ∧ (s.fn (fnKey f)).flr = false ∧ ((s.fn (fnKey f)).sq r.val).depth ≤ tail.toNat) ∧
    (∃ (f : Fn) (s : State), s.fnLive (fnKey f) = true ∧ (s.fn (fnKey f)).flr = false) ∧
    (∃ (f : Fn) (s : State), (s.fn (fnKey f)).flr = true) ∧
    (∃ (f : Fn) (r : Fin 4) (s : State), s.fnLive (fnKey f) = true ∧ (s.fn (fnKey f)).flr = false ∧ ((s.fn (fnKey f)).sq r.val).en = false) ∧
    (∃ (f : Fn) (s : State), s.fnLive (fnKey f) = true ∧ (s.fn (fnKey f)).flr = false ∧ SMap.wf s.mov.fns ∧ (s.fn (fnKey f)).freezing = false) ∧
    (∃ (f : Fn) (s : State), s.fnLive (fnKey f) = true ∧ (s.fn (fnKey f)).flr = false ∧ (s.fn (fnKey f)).cqEn = false ∧ (s.fn (fnKey f)).cqBase % (32 * 2 ^ (s.fn (fnKey f)).cqLog2) = 0) ∧
    (∃ (f : Fn) (s : State), s.fnLive (fnKey f) = true ∧ (s.fn (fnKey f)).flr = false) ∧
    (∃ (f : Fn) (r : Fin 4) (d : Bytes) (s : State), s.fnFetches (fnKey f) = true ∧ (s.fn (fnKey f)).nextSq = r.val ∧ d.length = 64 ∧ ((s.fn (fnKey f)).sq r.val).en = true ∧ ((s.fn (fnKey f)).sq r.val).halted = false ∧ ((s.fn (fnKey f)).sq r.val).head ≠ ((s.fn (fnKey f)).sq r.val).tail) ∧
    (∃ (f : Fn) (r : Fin 4) (s : State), SMap.wf s.mov.fns ∧ s.fnFetches (fnKey f) = true ∧ r.val < (s.fn (fnKey f)).sqs.length ∧ ((s.fn (fnKey f)).sq r.val).en = true ∧ ((s.fn (fnKey f)).sq r.val).halted = false ∧ ((s.fn (fnKey f)).sq r.val).head ≠ ((s.fn (fnKey f)).sq r.val).tail ∧ (s.fn (fnKey f)).coalCount ≤ 1 ∧ ((s.fn (fnKey f)).vec (s.fn (fnKey f)).errVector).masked = false ∧ (s.fn (fnKey f)).funcMask = false ∧ s.fnHolds (fnKey f) = false) ∧
    (∃ (f : Fn) (sh : Bool) (e : Nat) (r : Nat) (q : Nat) (d : Bytes) (s : State), SMap.wf s.mov.fns ∧ f ≠ .mgmtPf ∧ s.pipeHeld .mover = false ∧ s.ctxFor (fnKey f) = some sh ∧ s.leastLoaded (s.enginesFor (fnKey f)) = some e ∧ s.fnRuns (fnKey f) = true ∧ s.pfD3 ((s.fnUsp (fnKey f)).getD 0) = false ∧ (s.fn (fnKey f)).cqRoom = true ∧ s.openRing (fnKey f) = some (r, q, d)) ∧
    (∃ (f : Fn) (s : State), f ≠ .mgmtPf ∧ ((∀ r < 4, ∀ x, ((s.fn (fnKey f)).sq r).fetched.head? = some x → (dOrdered x.2 = true ∧ ∃ c ∈ s.fnCtxs (fnKey f), c.sq = r) ∨ ∃ q ∈ s.fences (fnKey f), q < x.1))) ∧
    (∃ (sh : Bool) (e : Nat) (d : Bytes) (r : Reloc) (s : State), s.pipeHeld .mover = false ∧ s.ctxFor mgmtKey = some sh ∧ s.leastLoaded (s.enginesFor mgmtKey) = some e ∧ s.moverSafe = false ∧ s.mov.pfPend = [(r.slot, d)] ∧ s.pol.relocs = [r] ∧ dDst d % 2048 = r.slot ∧ r.freeAt = none ∧ r.aborting = false) :=
  ⟨⟨ready, by decide⟩,
   ⟨.vf 0, 1, 9, ringing, by set_option maxRecDepth 20000 in decide⟩,
   ⟨.vf 0, 1, 64, ringing, by set_option maxRecDepth 20000 in decide⟩,
   ⟨.vf 0, ringing, by set_option maxRecDepth 20000 in decide⟩,
   ⟨.vf 0, resetting, by decide⟩,
   ⟨.vf 0, 2, ringing, by set_option maxRecDepth 20000 in decide⟩,
   ⟨.vf 0, ringing, by set_option maxRecDepth 20000 in decide⟩,
   ⟨.hostPf 0, ringing, by set_option maxRecDepth 20000 in decide⟩,
   ⟨.vf 0, ringing, by set_option maxRecDepth 20000 in decide⟩,
   ⟨.vf 0, 1, fillDesc, ringing, by set_option maxRecDepth 20000 in decide⟩,
   ⟨.vf 0, 1, ringing, by set_option maxRecDepth 20000 in decide⟩,
   ⟨.vf 0, false, 0, 0, 5, fillDesc, ringing, by set_option maxRecDepth 20000 in decide⟩,
   ⟨.vf 0, { ringing with mov := { ringing.mov with ctxs := [{ filling with desc := 4 :: fillDesc.drop 1, seq := 1 }] } }, by set_option maxRecDepth 20000 in decide⟩,
   ⟨false, 0, List.replicate 64 0, moving, { pooled with pol := { pooled.pol with relocs := [moving] }, mov := { Mov.reset with pfPend := [(0, List.replicate 64 0)] } }, by set_option maxRecDepth 20000 in decide⟩⟩

/-- Operands and states that meet the hypotheses of MoverWork, clause by clause. -/
theorem MoverWork_witness :
    (∃ (e : Fin 32) (c : Ctx) (u : Nat) (n : Nat) (s : State), SMap.wf s.mov.fns ∧ SMap.wf s.mov.engBytes ∧ SMap.wf s.mov.dh ∧ SMap.wf s.mov.df ∧ s.engineOk e.val = true ∧ s.pipeHeld .mover = false ∧ s.mov.ctxs = [c] ∧ c.engine = e.val ∧ s.chunkReady c = true ∧ c.chunks = [] ∧ c.accs = [] ∧ c.leg = 0 ∧ c.fn ≠ mgmtKey ∧ s.fnUsp c.fn = some u ∧ dOp c.desc = 2 ∧ n = min (dLen c.desc - c.next) (4096 - (dDst c.desc + c.next) % 4096) ∧ s.resolve c.fn (dDst c.desc + c.next) n = .host) ∧
    (∃ (e : Fin 32) (s : State), (s.engineOk e.val = false ∨ 16 ≤ s.inFlight e.val)) ∧
    (∃ (id : Nat) (addr : Nat) (u : Nat) (j : Nat) (o : Nat) (n : Nat) (x : TagSlot) (c : Ctx) (a : ChAcc) (s : State), SMap.wf s.mov.fns ∧ s.mov.rsps.all (fun y => y.1 != id || y.2.1 != addr) = true ∧ s.prt.ioSlots = [(j, x)] ∧ x.user = some (.mover id addr) ∧ s.mov.ctxs = [c] ∧ c.id = id ∧ c.fn ≠ mgmtKey ∧ s.fnUsp c.fn = some u ∧ c.squashed = false ∧ c.leg = 0 ∧ c.fail = none ∧ c.chunks = [(o, n)] ∧ c.accs = [a] ∧ a.key = addr ∧ a.isRead = true ∧ a.pool = false ∧ o ≤ a.off ∧ a.off < o + n ∧ dOp c.desc = 1 ∧ (s.port u).up = true ∧ s.resolve c.fn (dDst c.desc + a.off) a.len = .host) ∧
    (∃ (id : Nat) (addr : Nat) (rsp : ChunkRsp) (j : Nat) (o : Nat) (n : Nat) (x : TagSlot) (c : Ctx) (a : ChAcc) (s : State), SMap.wf s.mov.fns ∧ s.mov.rsps.all (fun y => y.1 != id || y.2.1 != addr) = true ∧ s.prt.ioSlots = [(j, x)] ∧ x.user = some (.mover id addr) ∧ s.mov.ctxs = [c] ∧ c.id = id ∧ c.fn ≠ mgmtKey ∧ c.squashed = false ∧ c.leg = 0 ∧ c.fail = none ∧ c.chunks = [(o, n)] ∧ c.accs = [a] ∧ a.key = addr ∧ a.isRead = true ∧ o ≤ a.off ∧ a.off < o + n ∧ dOp c.desc = 1 ∧ (rsp = .poison ∨ rsp = .hostUr ∨ rsp = .hostCa ∨ rsp = .timeout)) ∧
    (∃ (id : Nat) (addr : Nat) (row : Fin 10) (w : Bool) (o : Nat) (n : Nat) (c : Ctx) (a : ChAcc) (s : State), SMap.wf s.mov.fns ∧ s.mov.rsps = [(id, addr, .row row w)] ∧ s.mov.ctxs = [c] ∧ c.id = id ∧ c.squashed = false ∧ c.leg = 0 ∧ c.fail = none ∧ c.chunks = [(o, n)] ∧ c.accs = [a] ∧ a.key = addr ∧ a.isRead = !w ∧ o ≤ a.off ∧ a.off < o + n ∧ dOp c.desc = 1) ∧
    (∃ (c : Ctx), c.desc.length = 64 ∧ c.sq < 4 ∧ dBytes c.desc < 2 ^ 64) ∧
    (∃ (c : Ctx) (u : Nat) (s : State), SMap.wf s.mov.fns ∧ s.mov.ctxs = [c] ∧ s.descDone c = true ∧ c.fn ≠ mgmtKey ∧ c.fail = none ∧ (s.fn c.fn).freezing = false ∧ s.fnUsp c.fn = some u ∧ (s.port u).up = true ∧ bitOf (fieldAt c.desc 1 1) 2 = false ∧ bitOf (fieldAt c.desc 1 1) 0 = false) ∧
    (∃ (c : Ctx) (s : State), SMap.wf s.mov.fns ∧ s.mov.ctxs = [c] ∧ s.descDone c = true ∧ c.fn ≠ mgmtKey ∧ c.fail = none ∧ (s.fn c.fn).freezing = false ∧ bitOf (fieldAt c.desc 1 1) 2 = true ∧ bitOf (fieldAt c.desc 1 1) 0 = false) ∧
    (∃ (c : Ctx) (u : Nat) (s : State), SMap.wf s.mov.fns ∧ s.mov.ctxs = [c] ∧ s.descDone c = true ∧ c.fn ≠ mgmtKey ∧ (s.fn c.fn).freezing = false ∧ s.fnUsp c.fn = some u ∧ (s.port u).up = true ∧ bitOf (fieldAt c.desc 1 1) 2 = false ∧ bitOf (fieldAt c.desc 1 1) 0 = true ∧ (s.fn c.fn).coalCount ≤ 1 ∧ ((s.fn c.fn).vec (s.fn c.fn).cqVector).masked = false ∧ (s.fn c.fn).funcMask = false ∧ s.fnHolds c.fn = false) ∧
    (∃ (f : Fn) (v : Fin 16) (s : State), SMap.wf s.mov.fns ∧ v.val < (s.fn (fnKey f)).vecs.length ∧ (s.fn (fnKey f)).coalTime ≠ 0 ∧ 0 < ((s.fn (fnKey f)).vec v.val).events) ∧
    (∃ (f : Fn) (v : Fin 16) (s : State), SMap.wf s.mov.fns ∧ v.val < (s.fn (fnKey f)).vecs.length ∧ s.fnLive (fnKey f) = true ∧ (s.fn (fnKey f)).funcMask = false ∧ s.fnHolds (fnKey f) = false) ∧
    (∃ (f : Fn) (s : State), SMap.wf s.mov.fns ∧ s.fnLive (fnKey f) = true ∧ (s.fn (fnKey f)).vecs.any Vec.pba = false) :=
  ⟨⟨0, filling, 0, 100, worked filling, by set_option maxRecDepth 20000 in decide⟩,
   ⟨3, ready.set Reg.MOV_ENGINE_FAILED 0 8, by decide⟩,
   ⟨7, 12288, 0, 0, 0, 64, { TagSlot.dflt with user := some (.mover 7 12288), isRead := true }, copying, { key := 12288, pool := false, isRead := true, off := 0, len := 64 }, { (worked copying) with prt := { (worked copying).prt with ioSlots := [(0, { TagSlot.dflt with user := some (.mover 7 12288), isRead := true })] } }, by set_option maxRecDepth 20000 in decide⟩,
   ⟨7, 12288, .hostUr, 0, 0, 64, { TagSlot.dflt with user := some (.mover 7 12288), isRead := true }, copying, { key := 12288, pool := false, isRead := true, off := 0, len := 64 }, { (worked copying) with prt := { (worked copying).prt with ioSlots := [(0, { TagSlot.dflt with user := some (.mover 7 12288), isRead := true })] } }, by set_option maxRecDepth 20000 in decide⟩,
   ⟨7, 12288, 8, false, 0, 64, copying, { key := 12288, pool := false, isRead := true, off := 0, len := 64 }, { (worked copying) with mov := { (worked copying).mov with rsps := [(7, 12288, .row 8 false)] } }, by set_option maxRecDepth 20000 in decide⟩,
   ⟨filling, by set_option maxRecDepth 20000 in decide⟩,
   ⟨{ filling with next := 100 }, 0, worked { filling with next := 100 }, by set_option maxRecDepth 20000 in decide⟩,
   ⟨{ filling with next := 100, desc := 2 :: 4 :: fillDesc.drop 2 }, worked { filling with next := 100, desc := 2 :: 4 :: fillDesc.drop 2 }, by set_option maxRecDepth 20000 in decide⟩,
   ⟨{ filling with next := 100, desc := 2 :: 1 :: fillDesc.drop 2 }, 0, worked { filling with next := 100, desc := 2 :: 1 :: fillDesc.drop 2 }, by set_option maxRecDepth 20000 in decide⟩,
   ⟨.vf 0, 1, coalescing, by set_option maxRecDepth 20000 in decide⟩,
   ⟨.vf 0, 1, ringing, by set_option maxRecDepth 20000 in decide⟩,
   ⟨.vf 0, ringing, by set_option maxRecDepth 20000 in decide⟩⟩

/-- Operands and states that meet the hypotheses of MoverResets, clause by clause. -/
theorem MoverResets_witness :
    (∃ (g : Fin 1024) (s : State), SMap.wf s.mov.fns ∧ s.fnLive g.val = true ∧ (s.fn g.val).flr = false) ∧
    (∃ (u : Port) (s : State), SMap.wf s.mov.fns ∧ s.isUsp u.val = true ∧ (s.fn (0x8000 + u.val)).flr = false) ∧
    (∃ (g : Fin 1024) (s : State), SMap.wf s.mov.fns ∧ (s.fn g.val).flr = true ∧ s.tbl.waits = [] ∧ s.prt.ioSlots = []) ∧
    (∃ (u : Port) (s : State), s.isUsp u.val = true ∧ u.val ∉ s.mov.vfEnable ∧ SMap.wf s.mov.numVfs) ∧
    (∃ (u : Port) (s : State), SMap.wf s.mov.fns ∧ s.isUsp u.val = true ∧ u.val ∈ s.mov.vfEnable) ∧
    (∃ (e : Fin 32) (s : State), SMap.wf s.regs ∧ s.engineOk e.val = true ∧ s.bound e.val = 0) ∧
    (∃ (e : Fin 32) (c : Ctx) (s : State), SMap.wf s.regs ∧ s.engineOk e.val = true ∧ s.mov.ctxs = [c] ∧ c.engine = e.val ∧ c.squashed = false ∧ dOp c.desc ≠ 3 ∧ c.fn ≠ mgmtKey ∧ ((∃ j < 32, j ≠ e.val ∧ s.engineOk j = true)) ∧ s.descCheck c.fn c.desc = 0) ∧
    (∃ (s : State), SMap.wf s.mov.fns) :=
  ⟨⟨0, ringing, by set_option maxRecDepth 20000 in decide⟩,
   ⟨0, ringing, by set_option maxRecDepth 20000 in decide⟩,
   ⟨0, resetting, by set_option maxRecDepth 20000 in decide⟩,
   ⟨0, uspOn, by set_option maxRecDepth 20000 in decide⟩,
   ⟨0, ringing, by set_option maxRecDepth 20000 in decide⟩,
   ⟨3, ready, by set_option maxRecDepth 20000 in decide⟩,
   ⟨0, filling, worked filling, by set_option maxRecDepth 20000 in decide⟩,
   ⟨ringing, by set_option maxRecDepth 20000 in decide⟩⟩

/-- Operands and states that meet the hypotheses of MigrationAndMoverCommands, clause by clause. -/
theorem MigrationAndMoverCommands_witness :
    (∃ (u : Port) (vf : Fin 1024) (k : Nat) (s : State), SMap.wf s.mov.fns ∧ s.isUsp u.val = true ∧ (s.fn (0x8000 + u.val)).migBusy = false ∧ s.migVf? u.val vf.val = some k ∧ k < 1024 ∧ s.fnUsp k = some u.val ∧ (s.fn k).freezing = false ∧ (s.fn k).frozen = false ∧ (s.fn k).flr = false) ∧
    (∃ (f : Fin 1024) (u : Nat) (s : State), SMap.wf s.mov.fns ∧ s.fnUsp f.val = some u ∧ (s.fn f.val).freezing = true ∧ (s.fn (0x8000 + u)).migBusy = true ∧ (s.fn (0x8000 + u)).migOp = 0 ∧ s.vfGlobal u (s.fn (0x8000 + u)).migVf = some f.val) ∧
    (∃ (u : Port) (vf : Fin 1024) (k : Nat) (s : State), SMap.wf s.mov.fns ∧ s.isUsp u.val = true ∧ (s.fn (0x8000 + u.val)).migBusy = false ∧ s.migVf? u.val vf.val = some k ∧ k < 1024 ∧ (s.fn k).frozen = false ∧ (s.fn k).freezing = false) ∧
    (∃ (u : Port) (vf : Fin 1024) (key : Fin 8) (k : Nat) (x : Bytes) (s : State), SMap.wf s.mov.fns ∧ s.isUsp u.val = true ∧ (s.fn (0x8000 + u.val)).migBusy = false ∧ s.migVf? u.val vf.val = some k ∧ k < 1024 ∧ (s.fn k).frozen = true ∧ (s.fn k).flr = false ∧ s.hlm.migKeys.find? (fun y => y.1 == u.val && y.2.1 == key.val) = some (u.val, key.val, x)) ∧
    (∃ (u : Port) (vf : Fin 1024) (key : Fin 8) (k : Nat) (s : State), SMap.wf s.mov.fns ∧ s.isUsp u.val = true ∧ (s.fn (0x8000 + u.val)).migBusy = false ∧ s.migVf? u.val vf.val = some k ∧ (s.fn k).frozen = true ∧ (s.fn k).flr = false ∧ k < 1024 ∧ s.hlm.migKeys.all (fun y => y.1 != u.val || y.2.1 != key.val) = true) ∧
    (∃ (u : Port) (vf : Fin 1024) (key : Nat) (k : Nat) (x : Bytes) (body : Bytes) (mac : Bytes) (s : State), SMap.wf s.mov.fns ∧ s.isUsp u.val = true ∧ (s.fn (0x8000 + u.val)).migBusy = false ∧ s.migVf? u.val vf.val = some k ∧ k < 1024 ∧ (s.fn k).sqs.any Sq.en = false ∧ (s.fn k).cqEn = false ∧ (s.fn k).flr = false ∧ body.length = 464 ∧ mac.length = 48 ∧ fieldAt body 0 4 = 0x564D5A43 ∧ fieldAt body 4 2 = 1 ∧ fieldAt body 8 8 = Config.deviceSerial.toNat ∧ fieldAt body 16 4 = s.get Reg.HLM_BOOT_COUNTER ∧ fieldAt body 20 1 = key ∧ s.hlm.migKeys.find? (fun y => y.1 == u.val && y.2.1 == key) = some (u.val, key, x)) ∧
    (∃ (u : Port) (vf : Fin 1024) (k : Nat) (s : State), SMap.wf s.mov.fns ∧ s.isUsp u.val = true ∧ (s.fn (0x8000 + u.val)).migBusy = false ∧ s.migVf? u.val vf.val = some k ∧ k < 1024 ∧ (s.fn k).frozen = true ∧ (s.fn k).flr = false ∧ (s.fn k).vecs.any Vec.pba = false) ∧
    (∃ (h : Hdr) (p : Bytes) (s : State), Operating s ∧ Privileged .observe h s ∧ p.length = 0) ∧
    (∃ (h : Hdr) (p : Bytes) (s : State), Operating s ∧ Privileged .admin h s ∧ p.length = 4 ∧ (fun _ p s => s.isUsp (p8 p 0) = true ∧ p16 p 2 ≤ 1024 ∧ p8 p 0 ∉ s.mov.vfEnable ∧ s.mov.allot = []) h p s) ∧
    (∃ (h : Hdr) (p : Bytes) (s : State), Operating s ∧ Privileged .admin h s ∧ p.length = 4 ∧ s.isUsp (p8 p 0) = true ∧ p16 p 2 ≤ 1024 ∧ p8 p 0 ∈ s.mov.vfEnable) ∧
    (∃ (h : Hdr) (p : Bytes) (s : State), Operating s ∧ Privileged .operate h s ∧ p.length = 2 ∧ (fun _ p s => s.isUsp (p8 p 0) = true ∧ 1 ≤ p8 p 1) h p s) ∧
    (∃ (h : Hdr) (p : Bytes) (s : State), Operating s ∧ Privileged .observe h s ∧ p.length = 2 ∧ (fun _ p s => s.fnOperand (p16 p 0) = true) h p s) ∧
    (∃ (h : Hdr) (p : Bytes) (s : State), SMap.wf s.mov.fns ∧ Operating s ∧ Privileged .operate h s ∧ p.length = 2 ∧ p16 p 0 < 1024 ∧ s.fnLive (p16 p 0) = true ∧ (s.fn (p16 p 0)).flr = false) ∧
    (∃ (h : Hdr) (p : Bytes) (s : State), Operating s ∧ Privileged .observe h s ∧ p.length = 4 ∧ (fun _ p _ => p16 p 0 < 1024 ∧ 1 ≤ p16 p 2 ∧ p16 p 2 ≤ 240 ∧ p16 p 0 + p16 p 2 ≤ 1024) h p s) :=
  ⟨⟨0, 0, 0, ringing, by set_option maxRecDepth 20000 in decide⟩,
   ⟨0, 0, freezing, by set_option maxRecDepth 20000 in decide⟩,
   ⟨0, 0, 0, ringing, by set_option maxRecDepth 20000 in decide⟩,
   ⟨0, 0, 2, 0, List.replicate 48 7, frozenVf, by set_option maxRecDepth 20000 in decide⟩,
   ⟨0, 0, 3, 0, frozenVf, by set_option maxRecDepth 20000 in decide⟩,
   ⟨0, 0, 2, 0, List.replicate 48 7, blobOf, digestBytes (Config.hmac384 (List.replicate 48 7) blobOf), frozenVf, blob_meets⟩,
   ⟨0, 0, 0, frozenVf, by set_option maxRecDepth 20000 in decide⟩,
   ⟨wire, [], ready, by set_option maxRecDepth 20000 in decide⟩,
   ⟨boss, [0, 0, 3, 0], uspOn, by set_option maxRecDepth 20000 in decide⟩,
   ⟨boss, [0, 0, 3, 0], ringing, by set_option maxRecDepth 20000 in decide⟩,
   ⟨wire, [0, 9], uspOn, by set_option maxRecDepth 20000 in decide⟩,
   ⟨wire, [0, 0], ringing, by set_option maxRecDepth 20000 in decide⟩,
   ⟨wire, [0, 0], ringing, by set_option maxRecDepth 20000 in decide⟩,
   ⟨wire, [0, 0, 3, 0], ringing, by set_option maxRecDepth 20000 in decide⟩⟩


/-! ## Ill-formed commands are refused by the check -/

theorem test_wf_packet_too_long : (Instr.commandPacketReceive wire.req none (List.replicate 4133 0)).wf = false := by
  simp only [Instr.wf, List.length_replicate]; decide

theorem test_wf_params_too_long : (Instr.fmApiCommand wire false 0x5600 (List.replicate 4097 0)).wf = false := by
  simp only [Instr.wf, WellFormed.params, List.length_replicate]; decide

theorem test_wf_register_misaligned : (Instr.registerWrite wire 0x0A000102 0).wf = false := by decide

theorem test_wf_curve_misaligned : (Instr.breakerCurveWrite wire 0x01000141 0).wf = false := by decide

theorem test_wf_key_short : (Instr.migrationKeyInstall 1 0 2 (List.replicate 47 0)).wf = false := by decide

theorem test_wf_descriptor_short : (Instr.descriptorFetch (.vf 0) (List.replicate 63 0)).wf = false := by decide

theorem test_wf_request_off_line : (Instr.cxlMemRequest 0 { (rdReq 0).message with hpa := 65 }).wf = false := by decide

theorem test_wf_write_without_data : (Instr.cxlMemRequest 0 { (rdReq 0).message with op := .memWr, hpa := 64 }).wf = false := by decide

theorem test_wf_atomic_misaligned :
    (Instr.atomicopReceive 0 { op := .fetchAdd, size := 8, hpa := 4, operand := 1, compare := 0, tag := 3 }).wf = false := by decide

theorem test_wf_atomic_size :
    (Instr.atomicopReceive 0 { op := .fetchAdd, size := 16, hpa := 16, operand := 1, compare := 0, tag := 3 }).wf = false := by decide

theorem test_wf_subpage_past_end : (Instr.vaultSubpageWrite 0 2047 [1, 2] 0).wf = false := by decide

theorem test_wf_page_short : (Instr.vaultFullPageWrite 0 [1, 2]).wf = false := by decide

theorem test_wf_well_formed : (Instr.registerWrite wire 0x0A000104 7).wf = true := by decide

/-! ## Steps whose results the manual fixes -/

/-- The check value of CRC-32C over the digits 1 to 9. -/
theorem test_crc : crc32c [49, 50, 51, 52, 53, 54, 55, 56, 57] = 0xE3069283#32 := by set_option maxRecDepth 100000 in decide

/-- The worked example under R77: page 10, offset 0x14_5640 of a 4-way set lies on way 1, target 41, at device address 0x2_0055_1640. -/
theorem test_interleave : isetPlace ([2, 0, 0, 0, 64, 0, 0, 0, 0, 16, 0, 40, 0, 16, 0, 41, 0, 8, 0, 42, 0, 8, 0, 43] ++ List.replicate 104 0) 10 0x145640 = (41, 0x200551640) := by
  set_option maxRecDepth 100000 in decide

/-- R56: a 2-way decoder of 256 B granularity sends HPA offset 0x240 to DPA 0x140. -/
theorem test_decoder : (Decoder.toDpa { base := 0x1000000, size := 0x20000000, dpa := 0, iw := 1, ig := 0, valid := true } 0x1000240) = 0x140 := by
  decide

/-- R200: a tail that is not below the depth sets DB_ERR and leaves the tail. -/
theorem test_doorbell : (Sq.doorbell { Sq.dflt with tail := 5 } 64) = { Sq.dflt with tail := 5, dbErr := true } := by decide

/-- R156: CAS stores its operand only where the original equals the compare value. -/
theorem test_cas :
    (atomValue { op := .cas, size := 4, hpa := 0, operand := 9, compare := 5, tag := 0 } 5,
      atomValue { op := .cas, size := 4, hpa := 0, operand := 9, compare := 6, tag := 0 } 5) = (9, 5) := by decide

/-- R156: FetchAdd wraps at the operand's size. -/
theorem test_fetch_add_wraps : atomValue { op := .fetchAdd, size := 4, hpa := 0, operand := 1, compare := 0, tag := 0 } 0xFFFFFFFF = 0 := by
  decide

/-- R63: an all-zero extent map entry is not VALID. -/
theorem test_zero_entry : entValid 0 = false := by decide

end Sys2Proof.Tests
end

namespace Sys2Proof.Safety
open Sys2Proof.Machine

/-! PROOF of O8. One lemma per function of the model that answers a state: from a canonical state it answers a canonical one. A
function that changes neither the register file nor the pool keeps the form by `Canonical.update`; the few that do change one of
them rest on the laws of sparse arrays. The lemmas follow the model's files; each cites those of the functions it calls, so that
`Canonical.set h` reads: setting a field keeps what `h` says. -/

/-! ## Canonical form and the shapes a meaning answers in -/

/-- The state in an optional state is canonical. -/
inductive OptCanonical : Option State → Prop
  | none : OptCanonical none
  | some {s : State} (h : Canonical s) : OptCanonical (some s)

/-- The state that a pair begins with is canonical. -/
inductive FstCanonical {α : Type} : State × α → Prop
  | mk {s : State} {a : α} (h : Canonical s) : FstCanonical (s, a)

/-- The state that a pair ends with is canonical. -/
inductive SndCanonical {α : Type} : α × State → Prop
  | mk {a : α} {s : State} (h : Canonical s) : SndCanonical (a, s)

/-- The state that an optional pair ends with is canonical. -/
inductive OptSndCanonical {α : Type} : Option (α × State) → Prop
  | none : OptSndCanonical none
  | some {a : α} {s : State} (h : Canonical s) : OptSndCanonical (some (a, s))

/-- The state that a command's work leaves is canonical. -/
inductive ResultCanonical : CmdResult → Prop
  | done {b : Bytes} {s : State} (h : Canonical s) : ResultCanonical (.done b s)
  | started {s : State} {j : Bool} (h : Canonical s) : ResultCanonical (.started s j)
  | finished {s : State} {st : Nat} {b : Bytes} (h : Canonical s) : ResultCanonical (.finished s st b)
  | bad {off : Nat} : ResultCanonical (.bad off)
  | fail {st : Nat} : ResultCanonical (.fail st)
  | failed {st : Nat} {s : State} (h : Canonical s) : ResultCanonical (.failed st s)
  | waits {w : WaitFor} {s : State} (h : Canonical s) : ResultCanonical (.waits w s)

/-- The next state, where a meaning answers one, is canonical. -/
inductive OutcomeCanonical : Host.Outcome State Fault Refusal → Prop
  | next {s : State} (h : Canonical s) : OutcomeCanonical (.next s)
  | fault {r : Fault} : OutcomeCanonical (.fault r)
  | refused {r : Refusal} : OutcomeCanonical (.refused r)

/-- The work of a command keeps the canonical form. -/
def RunCanonical (c : CmdSpec) : Prop := ∀ h p s, Canonical s → ResultCanonical (c.run h p s)

section
variable {s t : State} {α : Type}

/-- A state with the register file and the extent map of a canonical one is canonical. -/
theorem Canonical.frame (h : Canonical s) (hr : t.regs = s.regs) (hm : t.pol.map = s.pol.map) : Canonical t :=
  ⟨hr ▸ h.1, hm ▸ h.2⟩

/-- An update of neither the register file nor the pool keeps the canonical form. -/
theorem Canonical.update {pending out tick fresh pfe spc clk jnl cmd hlm flt tim trec jtag tbl dir prt mov xbr sch lnc sem vlt}
    (h : Canonical s) : Canonical ⟨pending, out, s.regs, tick, fresh, pfe, spc, clk, jnl, cmd, hlm, flt, tim, trec, jtag, tbl, s.pol, dir,
      prt, mov, xbr, sch, lnc, sem, vlt⟩ := h

theorem Canonical.fst {r : State × α} (h : FstCanonical r) : Canonical r.1 := by
  cases h; assumption

theorem Canonical.snd {r : α × State} (h : SndCanonical r) : Canonical r.2 := by
  cases h; assumption

theorem Canonical.of_fst {r : State × α} {a : α} (h : FstCanonical r) (e : r = (s, a)) : Canonical s := by
  subst e; exact .fst h

theorem Canonical.of_snd {r : α × State} {a : α} (h : SndCanonical r) (e : r = (a, s)) : Canonical s := by
  subst e; exact .snd h

theorem Canonical.of_some {o : Option State} (h : OptCanonical o) (e : o = some s) : Canonical s := by
  subst e; cases h; assumption

theorem Canonical.of_some_snd {o : Option (α × State)} {a : α} (h : OptSndCanonical o) (e : o = some (a, s)) : Canonical s := by
  subst e; cases h; assumption

theorem Canonical.getD {o : Option State} (ho : OptCanonical o) (h : Canonical s) : Canonical (o.getD s) := by
  cases ho with
  | none => exact h
  | some ho => exact ho

/-- What every round of a loop keeps, the loop keeps. -/
theorem Canonical.foldl {l : List α} {f : State → α → State} (h : Canonical s)
    (hf : ∀ a s, Canonical s → Canonical (f s a)) : Canonical (l.foldl f s) :=
  List.foldlRecOn l _ h fun s hs a _ => hf a s hs

theorem Canonical.forEach {l : List α} {f : α → State → State} (h : Canonical s)
    (hf : ∀ a s, Canonical s → Canonical (f a s)) : Canonical (forEach l f s) := .foldl h hf

theorem OptCanonical.map {o : Option α} {f : α → State} (hf : ∀ a, Canonical (f a)) : OptCanonical (o.map f) := by
  cases o with
  | none => exact .none
  | some a => exact .some (hf a)

theorem OptCanonical.bind {o : Option α} {f : α → Option State} (hf : ∀ a, OptCanonical (f a)) : OptCanonical (o.bind f) := by
  cases o with
  | none => exact .none
  | some a => exact hf a

theorem OptSndCanonical.map {β : Type} {o : Option α} {f : α → β × State} (hf : ∀ a, Canonical (f a).2) :
    OptSndCanonical (o.map f) := by
  cases o with
  | none => exact .none
  | some a => exact .some (hf a)

end

section
variable {c : Prop} [Decidable c] {α : Type}

theorem Canonical.ite {s t : State} (hs : Canonical s) (ht : Canonical t) : Canonical (if c then s else t) :=
  iteInduction (fun _ => hs) (fun _ => ht)

theorem OptCanonical.ite {o q : Option State} (ho : OptCanonical o) (hq : OptCanonical q) : OptCanonical (if c then o else q) :=
  iteInduction (fun _ => ho) (fun _ => hq)

theorem FstCanonical.ite {r q : State × α} (hr : FstCanonical r) (hq : FstCanonical q) : FstCanonical (if c then r else q) :=
  iteInduction (fun _ => hr) (fun _ => hq)

theorem SndCanonical.ite {r q : α × State} (hr : SndCanonical r) (hq : SndCanonical q) : SndCanonical (if c then r else q) :=
  iteInduction (fun _ => hr) (fun _ => hq)

theorem OptSndCanonical.ite {r q : Option (α × State)} (hr : OptSndCanonical r) (hq : OptSndCanonical q) :
    OptSndCanonical (if c then r else q) :=
  iteInduction (fun _ => hr) (fun _ => hq)

theorem ResultCanonical.ite {r q : CmdResult} (hr : ResultCanonical r) (hq : ResultCanonical q) :
    ResultCanonical (if c then r else q) :=
  iteInduction (fun _ => hr) (fun _ => hq)

theorem OutcomeCanonical.ite {r q : Host.Outcome State Fault Refusal} (hr : OutcomeCanonical r) (hq : OutcomeCanonical q) :
    OutcomeCanonical (if c then r else q) :=
  iteInduction (fun _ => hr) (fun _ => hq)

end

section
variable {s : State}

/-- Setting a register field keeps the canonical form. -/
theorem Canonical.set {f i v} (h : Canonical s) : Canonical (s.set f i v) := ⟨s.wf_set f i v h.1, h.2⟩

/-! ## `Machine/Ops` -/

theorem Canonical.setFlag {f i b} (h : Canonical s) : Canonical (s.setFlag f i b) := .set h
theorem Canonical.bump {f i n} (h : Canonical s) : Canonical (s.bump f i n) := .set h
theorem Canonical.emit {m} (h : Canonical s) : Canonical (s.emit m) := .update h
theorem Canonical.emits {ms} (h : Canonical s) : Canonical (s.emits ms) := .update h
theorem Canonical.drawn (h : Canonical s) : Canonical (s.drawn) := .update h
theorem Canonical.modPort {p f} (h : Canonical s) : Canonical (s.modPort p f) := .update h
theorem Canonical.withhold {p w} (h : Canonical s) : Canonical (s.withhold p w) := .modPort h
theorem Canonical.unhold {p w} (h : Canonical s) : Canonical (s.unhold p w) := .modPort h
theorem Canonical.wake {p} (h : Canonical s) : Canonical (s.wake p) := .ite (.set (.modPort h)) h
theorem Canonical.raise {e} (h : Canonical s) : Canonical (s.raise e) := .update h
theorem Canonical.asInjected {f} (h : Canonical s) (hf : ∀ t, Canonical t → Canonical (f t)) : Canonical (s.asInjected f) :=
  .foldl (.update (hf _ (.update h))) fun _ _ hx => .raise hx
theorem Canonical.report {src cls evt ctx syn} (h : Canonical s) : Canonical (s.report src cls evt ctx syn) := .raise h
theorem Canonical.reportOpen {src cls evt ctx} (h : Canonical s) : Canonical (s.reportOpen src cls evt ctx) := .raise h
theorem Canonical.reportIx {base i cls evt} (h : Canonical s) : Canonical (s.reportIx base i cls evt) := .report h
theorem Canonical.record {typ flags payload} (h : Canonical s) : Canonical (s.record typ flags payload) :=
  .ite h (.ite (.update (.bump h)) (.update h))
theorem Canonical.recordEvent {src kind data injected} (h : Canonical s) :
    Canonical (s.recordEvent src kind data injected) := .record h
theorem Canonical.recordTime {kind q0 q1 before after} (h : Canonical s) :
    Canonical (s.recordTime kind q0 q1 before after) := .record h
theorem Canonical.recordMark {kind seq} (h : Canonical s) : Canonical (s.recordMark kind seq) := .record h
theorem Canonical.recordGap {first last cause missed} (h : Canonical s) : Canonical (s.recordGap first last cause missed) :=
  .report (.setFlag (.record h))
theorem Canonical.journal {r} (h : Canonical s) : Canonical (s.journal r) := .update h
theorem Canonical.setJ {f i v} (h : Canonical s) : Canonical (s.setJ f i v) := .journal (.set h)
theorem Canonical.journals {rs} (h : Canonical s) : Canonical (s.journals rs) := .forEach h fun _ _ hx => .journal hx
theorem Canonical.ledge {kind flags cause area} (h : Canonical s) : Canonical (s.ledge kind flags cause area) := .update h
theorem Canonical.ledgeAt {kind area time} (h : Canonical s) : Canonical (s.ledgeAt kind area time) := .update h
theorem Canonical.askStart {kind trigger source} (h : Canonical s) : Canonical (s.askStart kind trigger source) := .update h

theorem Canonical.moduleCommit {origin writes extents after} (h : Canonical s) :
    Canonical (s.moduleCommit origin writes extents after) :=
  .update h

theorem Canonical.quenchCommit {writes} (h : Canonical s) : Canonical (s.quenchCommit writes) := .update h

/-! ## `Machine/SeamBase` -/

theorem Canonical.modSem {f} (h : Canonical s) : Canonical (s.modSem f) := .update h
theorem Canonical.modStream {x f} (h : Canonical s) : Canonical (s.modStream x f) := .modSem h
theorem Canonical.sendFrame {n b} (h : Canonical s) : Canonical (s.sendFrame n b) := .emit (.modStream h)

theorem Canonical.pumpStream {n fuel} (h : Canonical s) : Canonical (s.pumpStream n fuel) := by
  induction fuel generalizing s with
  | zero => exact h
  | succ fuel ih =>
    unfold State.pumpStream
    dsimp only
    split
    · exact .ite (ih (.sendFrame h)) h
    · exact h

theorem Canonical.pump {n} (h : Canonical s) : Canonical (s.pump n) := .pumpStream h
theorem Canonical.twinSend {n q m} (h : Canonical s) : Canonical (s.twinSend n q m) := .pump (.modStream h)

theorem Canonical.ctlSend {m} (h : Canonical s) : Canonical (s.ctlSend m) := by
  unfold State.ctlSend
  split
  · exact .twinSend h
  · exact h

theorem Canonical.showStreams (h : Canonical s) : Canonical (s.showStreams) := .forEach h fun _ _ hx => .set hx
theorem Canonical.placeStreams (h : Canonical s) : Canonical (s.placeStreams) :=
  .forEach (.showStreams (.forEach h fun _ _ hx => .ite hx (.modStream (.modStream hx)))) fun _ _ hx => .pump hx
theorem Canonical.ask {tag a} (h : Canonical s) : Canonical (s.ask tag a) := .modSem h
theorem Canonical.twinDev {q} (h : Canonical s) : Canonical (s.twinDev q) := .ite (.twinSend (.ask h)) (.twinSend (.ask h))
theorem Canonical.proxyAsk {user r} (h : Canonical s) : Canonical (s.proxyAsk user r) := .twinSend (.ask h)

/-! ## `Machine/Tables` -/

theorem Canonical.setTable {tid t} (h : Canonical s) : Canonical (s.setTable tid t) := .update h
theorem Canonical.writeShadow {tid off bs} (h : Canonical s) : Canonical (s.writeShadow tid off bs) := .setTable h
theorem Canonical.writeBoth {tid off bs} (h : Canonical s) : Canonical (s.writeBoth tid off bs) := .setTable h
theorem Canonical.recordCommit {origin tags result body} (h : Canonical s) : Canonical (s.recordCommit origin tags result body) :=
  .record (.update h)
theorem Canonical.holdSlices {e} (h : Canonical s) : Canonical (s.holdSlices e) := .update h

/-- Installing extents keeps the extent map canonical. -/
theorem applyChanges_map_wf {e} {p : Pol} {xs : List (Nat × Nat)} (h : SMap.wf p.map) : SMap.wf (p.applyChanges e xs).map :=
  List.foldlRecOn (motive := fun q : Pol => SMap.wf q.map) xs _ h fun _ hq _ _ => SMap.wf_store _ _ _ _ hq

theorem Canonical.accept {origin tids extents after} (h : Canonical s) : Canonical (s.accept origin tids extents after) := by
  unfold State.accept
  extract_lets _ _ _ _ _ _ s1 s2 s3 s4 _ s5 s6 s7 s8
  have hs1 : Canonical s1 := .update h
  have hs4 : Canonical s4 := .forEach (.recordCommit (.journals hs1)) fun _ _ hx => .setTable hx
  have hs6 : Canonical s6 := .ite hs4 ⟨hs4.1, applyChanges_map_wf hs4.2⟩
  have hs7 : Canonical s7 := .ite hs6 (.setFlag hs6)
  have hs8 : Canonical s8 := .ite (.holdSlices hs7) hs7
  exact .update hs8

theorem Canonical.stageModule {m} (h : Canonical s) : Canonical (s.stageModule m) :=
  .forEach (.forEach h fun _ _ hx => .setTable hx) fun _ _ hx => .writeShadow hx
theorem Canonical.takeModule {m} (h : Canonical s) :
    Canonical (s.takeModule m) := .accept (.frame (.stageModule (.update h)) rfl rfl)
theorem Canonical.switchPipeline {pl} (h : Canonical s) : Canonical (s.switchPipeline pl) := .update h

/-! ## `Machine/Cmd` -/

theorem ResultCanonical.outcome {c : CmdSpec} {h p} (hc : RunCanonical c) (hs : Canonical s) :
    ResultCanonical (c.outcome h p s) := by
  unfold CmdSpec.outcome
  refine .ite .fail (.ite .fail ?_)
  split
  · exact .bad
  · refine .ite .fail ?_
    have hr := hc h p s hs
    generalize c.run h p s = r at hr ⊢
    cases hr with
    | started hs' => exact .ite .fail (.started hs')
    | finished hs' => exact .ite .fail (.finished hs')
    | done hs' => exact .done hs'
    | bad => exact .bad
    | fail => exact .fail
    | failed hs' => exact .failed hs'
    | waits hs' => exact .waits hs'

theorem Canonical.modCmd {f} (h : Canonical s) : Canonical (s.modCmd f) := .update h
theorem Canonical.recordResponse {seq status reply} (h : Canonical s) : Canonical (s.recordResponse seq status reply) := .record h
theorem Canonical.mbxIrq {v} (h : Canonical s) : Canonical (s.mbxIrq v) := .ite h (.ite (.update h) (.emit h))

theorem Canonical.sendPacket {req session k} (h : Canonical s) : Canonical (s.sendPacket req session k) := by
  unfold State.sendPacket
  split
  · exact .mbxIrq (.modCmd h)
  · exact .ctlSend h
  · exact .emit h

theorem Canonical.answer {req session opcode tag context seq status reply} (h : Canonical s) :
    Canonical (s.answer req session opcode tag context seq status reply) :=
  .recordResponse (.sendPacket h)

theorem Canonical.beginBg {c h p seq j} (hs : Canonical s) : Canonical (s.beginBg c h p seq j) := .modCmd hs
theorem Canonical.endBg {id status reply} (h : Canonical s) : Canonical (s.endBg id status reply) := .modCmd h

theorem Canonical.endBg? {id status reply} (h : Canonical s) : Canonical (s.endBg? id status reply) := by
  unfold State.endBg?
  split
  · exact h
  · exact .endBg h

theorem FstCanonical.exec {c : CmdSpec} {h p seq} (hc : RunCanonical c) (hs : Canonical s) : FstCanonical (c.exec h p seq s) := by
  unfold CmdSpec.exec
  dsimp only
  split
  · exact .mk (.answer hs)
  · have hr : ResultCanonical (c.outcome h p s) := .outcome hc hs
    generalize c.outcome h p s = r at hr ⊢
    cases hr with
    | done hs' => exact .mk (.answer hs')
    | started hs' => exact .mk (.answer (.beginBg hs'))
    | finished hs' => exact .mk (.answer (.endBg (.beginBg hs')))
    | bad => exact .mk (.answer hs)
    | fail => exact .mk (.answer hs)
    | failed hs' => exact .mk (.answer hs')
    | waits hs' => exact .mk (.update hs')

theorem Canonical.recordCommand {h skip packet} (hs : Canonical s) : Canonical (s.recordCommand h skip packet) := .record hs

theorem OutcomeCanonical.direct {c : CmdSpec} {h p} (hc : RunCanonical c) (hs : Canonical s) :
    OutcomeCanonical (c.direct h p s) :=
  .next (.ite hs (.fst (.exec hc (.recordCommand hs))))

theorem Canonical.answerWaits {p status reply} (h : Canonical s) : Canonical (s.answerWaits p status reply) := by
  unfold State.answerWaits
  extract_lets _ _ s1
  have hs1 : Canonical s1 := .update h
  exact .forEach hs1 fun _ _ hx => .ite (.ite (.ite (.recordResponse hx) (.answer hx)) (.modCmd (.ite (.recordResponse
    hx) (.answer hx)))) (.forEach (.ite (.recordResponse hx) (.answer hx)) fun _ _ hy => .answer hy)

/-! ## `Machine/PoolBase` -/

theorem Canonical.setMemSlot {p k x} (h : Canonical s) : Canonical (s.setMemSlot p k x) := .update h
theorem Canonical.setIoSlot {p k x} (h : Canonical s) : Canonical (s.setIoSlot p k x) := .update h
theorem Canonical.sendDev {q k} (h : Canonical s) :
    Canonical (s.sendDev q k) := .ite (.emit (.setMemSlot h)) (.emit (.setMemSlot h))

theorem Canonical.issueDev {q} (h : Canonical s) : Canonical (s.issueDev q) := by
  unfold State.issueDev
  refine .ite (.twinDev h) ?_
  split
  · exact .sendDev h
  · exact .update h

theorem Canonical.pumpDev {p} (h : Canonical s) : Canonical (s.pumpDev p) := by
  unfold State.pumpDev
  split
  · exact .sendDev (.update h)
  · exact h

theorem Canonical.freeAcrak {p} (h : Canonical s) : Canonical (s.freeAcrak p) := .update h
theorem Canonical.reportDsp {t cls evt ctx} (h : Canonical s) : Canonical (s.reportDsp t cls evt ctx) := .report h
theorem Canonical.fence {p c} (h : Canonical s) : Canonical (s.fence p c) := .ite (.report (.record (.journal (.writeBoth h)))) h
theorem Canonical.modReloc {slot f} (h : Canonical s) : Canonical (s.modReloc slot f) := .frame h rfl rfl

theorem Canonical.abortReloc {r lost} (h : Canonical s) : Canonical (s.abortReloc r lost) := by
  unfold State.abortReloc
  extract_lets s1 _ s2 s3 _ s4
  have hs1 : Canonical s1 := .modReloc h
  have hs2 : Canonical s2 := by
    unfold s2
    split
    · exact hs1
    · exact .update hs1
  have hs3 : Canonical s3 := by
    unfold s3
    split
    · exact .ite hs2 (.fence hs2)
    · exact hs2
  have hs4 : Canonical s4 := .journals hs3
  exact .moduleCommit hs4

theorem Canonical.destFailed {r} (h : Canonical s) : Canonical (s.destFailed r) := .report (.abortReloc h)
theorem Canonical.sourceFailed {r} (h : Canonical s) : Canonical (s.sourceFailed r) := .reportDsp (.abortReloc h)

/-! ## `Machine/CfgSpace` -/

theorem Canonical.cfgStore {u t off v} (h : Canonical s) : Canonical (s.cfgStore u t off v) := .update h
theorem Canonical.cfgWrite {u t off be v} (h : Canonical s) : Canonical (s.cfgWrite u t off be v) :=
  .forEach h fun _ _ hx => .ite (.cfgStore hx) hx
theorem Canonical.cfgReset {u} (h : Canonical s) : Canonical (s.cfgReset u) := .update h
theorem Canonical.cfgResetFn {u t} (h : Canonical s) : Canonical (s.cfgResetFn u t) := .update h
theorem Canonical.commitRoutes {u after} (h : Canonical s) : Canonical (s.commitRoutes u after) := .moduleCommit h

/-! ## `Machine/XbrBase` -/

theorem Canonical.modXbr {f} (h : Canonical s) : Canonical (s.modXbr f) := .update h
theorem Canonical.setResv {k l} (h : Canonical s) : Canonical (s.setResv k l) := .modXbr h
theorem Canonical.setQueue {k l} (h : Canonical s) : Canonical (s.setQueue k l) := .modXbr h
theorem Canonical.setShared {k n} (h : Canonical s) : Canonical (s.setShared k n) := .modXbr h
theorem Canonical.creditCheck {src} (h : Canonical s) : Canonical (s.creditCheck src) := .ite (.ite (.withhold h) (.unhold h)) h
theorem Canonical.noteHead {k} (h : Canonical s) : Canonical (s.noteHead k) := .modXbr h
theorem FstCanonical.stampPbar {m pb} (h : Canonical s) : FstCanonical (s.stampPbar m pb) := .mk (.ite (.modXbr h) h)
theorem Canonical.postedDone {src dest q} (h : Canonical s) : Canonical (s.postedDone src dest q) := .ite (.modXbr h) h
theorem Canonical.enterMsg {m pb} (h : Canonical s) : Canonical (s.enterMsg m pb) :=
  .creditCheck (.setResv (.fst (.ite (.mk (.ite (.noteHead h) h)) (.stampPbar (.ite (.noteHead h) h)))))
theorem Canonical.pushQueue {m} (h : Canonical s) :
    Canonical (s.pushQueue m) := .setQueue (.fst (.stampPbar (.ite (.noteHead h) h)))
theorem Canonical.promote {m} (h : Canonical s) : Canonical (s.promote m) := .pushQueue (.ite (.modXbr h) (.setShared h))

theorem Canonical.sendSnoops {i ports line kind} (h : Canonical s) : Canonical (s.sendSnoops i ports line kind) := by
  unfold State.sendSnoops
  extract_lets
  exact .ite h (.ite (.forEach h fun _ _ hx => .promote hx) (.ite (.forEach h fun _ _ hx => .promote hx) (.ite
    (.modXbr h) (.forEach h fun _ _ hx => .enterMsg hx))))

/-! ## `Machine/HomeBase` -/

theorem Canonical.setHome {i x} (h : Canonical s) : Canonical (s.setHome i x) := .update h
theorem Canonical.modHome {i f} (h : Canonical s) : Canonical (s.modHome i f) := .setHome h

theorem Canonical.countDir {i k n} (h : Canonical s) : Canonical (s.countDir i k n) := by
  unfold State.countDir
  extract_lets s1
  have hs1 : Canonical s1 := .modHome h
  split
  · exact .bump hs1
  · exact hs1

theorem Canonical.anomaly {i} (h : Canonical s) : Canonical (s.anomaly i) := .report (.countDir h)
theorem Canonical.touchPage {i page} (h : Canonical s) : Canonical (s.touchPage i page) := .modHome h
theorem Canonical.setWay {i set w e} (h : Canonical s) : Canonical (s.setWay i set w e) := .touchPage (.update h)
theorem Canonical.ageSet {i set w hit} (h : Canonical s) : Canonical (s.ageSet i set w hit) :=
  .setWay (.ite (.forEach h fun _ _ hx => .setWay hx) h)
theorem Canonical.toHost {u c} (h : Canonical s) : Canonical (s.toHost u c) := .ite (.twinSend h) (.emit h)
theorem FstCanonical.snoop {i parties line kind} (h : Canonical s) : FstCanonical (s.snoop i parties line kind) :=
  .mk (.ite (.sendSnoops (.ite (.twinSend h) h)) (.countDir (.sendSnoops (.ite (.twinSend h) h))))

theorem Canonical.answerHome {r row data poison grant} (h : Canonical s) : Canonical (s.answerHome r row data poison grant) := by
  unfold State.answerHome
  split
  · exact .ite h (.toHost h)
  · exact .update h
  · exact h

theorem Canonical.answerAtom {r a orig} (h : Canonical s) : Canonical (s.answerAtom r a orig) := by
  unfold State.answerAtom
  split
  · exact .update h
  · split
    · exact h
    · refine .ite h (.ite (.twinSend h) ?_)
      split <;> exact .emit h

theorem Canonical.reportPoison {r evt} (h : Canonical s) : Canonical (s.reportPoison r evt) := by
  unfold State.reportPoison
  split
  · exact .report h
  · exact .ite (.report h) h

theorem Canonical.readDev {user c} (h : Canonical s) : Canonical (s.readDev user c) := .issueDev h

theorem Canonical.writeDevs {user cs data mask mta poison} (h : Canonical s) :
    Canonical (s.writeDevs user cs data mask mta poison) :=
  .forEach h fun _ _ hx => .issueDev hx

theorem Canonical.noteWrite {e line stamp} (h : Canonical s) : Canonical (s.noteWrite e line stamp) := by
  unfold State.noteWrite
  refine .ite ?_ h
  split
  · exact .modReloc h
  · exact h

theorem Canonical.evict {i line e stamp op} (h : Canonical s) : Canonical (s.evict i line e stamp op) :=
  .ite (.writeDevs (.modHome h)) (.modHome (.fst (.snoop h)))

theorem OptSndCanonical.allocWay {i line stamp} (h : Canonical s) : OptSndCanonical (s.allocWay i line stamp) := by
  unfold State.allocWay
  extract_lets
  split
  · exact .some h
  · split
    · exact .none
    · exact .ite .none (.some (.evict h))

/-! ## `Machine/Home` -/

theorem Canonical.modTxn {i line f} (h : Canonical s) : Canonical (s.modTxn i line f) := .modHome h

theorem Canonical.txnRead {i t} (h : Canonical s) : Canonical (s.txnRead i t) := by
  unfold State.txnRead
  extract_lets
  split
  · exact .modTxn h
  · exact .ite (.proxyAsk (.modTxn h)) (.readDev (.modTxn h))

theorem Canonical.txnWrite {i t data mask mta} (h : Canonical s) : Canonical (s.txnWrite i t data mask mta) :=
  .writeDevs (.modTxn (.noteWrite h))
theorem Canonical.txnReloc {i t} (h : Canonical s) : Canonical (s.txnReloc i t) := .writeDevs (.modTxn h)

theorem Canonical.answerRead {i t} (h : Canonical s) : Canonical (s.answerRead i t) := by
  unfold State.answerRead
  extract_lets _ _ s1 s2
  have hs1 : Canonical s1 := .modTxn h
  have hs2 : Canonical s2 := .ite (.reportPoison hs1) hs1
  exact .ite (.answerHome hs2) (.answerHome hs2)

theorem Canonical.txnAtom {i t a} (h : Canonical s) : Canonical (s.txnAtom i t a) := .txnWrite (.modTxn (.modHome h))

theorem Canonical.answerAtoms {i t} (h : Canonical s) : Canonical (s.answerAtoms i t) := by
  unfold State.answerAtoms
  extract_lets s1 own own1
  have hs1 : Canonical s1 := .modTxn h
  have hown : Canonical own := by
    unfold own
    split
    · exact hs1
    · exact .answerAtom hs1
  have hown1 : Canonical own1 := .ite (.reportPoison hown) hown
  refine .forEach hown1 fun _ _ hx => ?_
  split
  · exact hx
  · exact .answerAtom hx

theorem Canonical.settleIssue {i line} (h : Canonical s) : Canonical (s.settleIssue i line) := by
  unfold State.settleIssue
  extract_lets s1
  have hs1 : Canonical s1 := .modTxn h
  split
  · exact h
  · refine .ite h ?_
    split
    case h_1 | h_2 | h_3 | h_4 => exact .ite (.txnRead h) h
    case h_5 | h_6 =>
      refine .ite (.ite (.modTxn h) ?_) h
      split <;> exact .txnWrite hs1
    case h_7 =>
      refine .ite h (.ite (.modTxn h) (.ite (.txnRead (.modTxn h)) ?_))
      split
      · exact .txnRead h
      · exact .txnAtom h
      · exact h
    case h_8 => exact .ite h (.txnReloc h)

theorem Canonical.settleAnswer {i line} (h : Canonical s) : Canonical (s.settleAnswer i line) := by
  unfold State.settleAnswer
  extract_lets s1
  have hs1 : Canonical s1 := .modTxn h
  split
  · exact h
  · extract_lets s2
    have hs2 : Canonical s2 := .ite (.reportPoison hs1) hs1
    refine .ite h ?_
    split
    case h_1 | h_2 | h_3 | h_4 => exact .ite (.answerRead h) h
    case h_5 | h_6 => exact .ite (.answerHome hs2) h
    case h_7 => exact .ite (.answerAtoms h) h
    case h_8 => exact .ite (.answerHome (.modTxn h)) h

theorem Canonical.settle {i line} (h : Canonical s) : Canonical (s.settle i line) := .settleAnswer (.settleIssue (.settleIssue h))
theorem Canonical.addTxn {i t} (h : Canonical s) : Canonical (s.addTxn i t) := .modHome h
theorem Canonical.beginPrivate {i r} (h : Canonical s) : Canonical (s.beginPrivate i r) := .settle (.addTxn h)

theorem Canonical.beginPoisoned {i r w} (h : Canonical s) : Canonical (s.beginPoisoned i r w) := by
  unfold State.beginPoisoned
  extract_lets _ _ s1
  have hs1 : Canonical s1 := .addTxn h
  split
  case h_1 | h_2 | h_3 | h_4 => exact .answerHome (.reportPoison (.modTxn hs1))
  case h_5 | h_6 => exact .ite (.settle hs1) (.answerHome (.reportPoison (.modTxn hs1)))
  case h_7 => exact .answerAtoms hs1
  case h_8 => exact .settle hs1

theorem Canonical.ownerData {i t tag u mta data mask} (h : Canonical s) : Canonical (s.ownerData i t tag u mta data mask) := by
  unfold State.ownerData
  extract_lets _ _ _ s1 s2 _ _ _ _ s3 s4
  have hs1 : Canonical s1 := .ite (.modTxn h) (.modTxn h)
  have hs2 : Canonical s2 := .countDir hs1
  have hs3 : Canonical s3 := .txnWrite hs2
  have hs4 : Canonical s4 := .ite hs3 (.toHost hs3)
  split
  · exact hs4
  · exact .ite (.answerRead hs4) hs4

theorem Canonical.noteAnomaly {i r c} (h : Canonical s) : Canonical (s.noteAnomaly i r c) := .ite (.anomaly h) h

theorem OptCanonical.beginShared {i r} (h : Canonical s) : OptCanonical (s.beginShared i r) := by
  unfold State.beginShared
  extract_lets s1 _ s2 c
  clear_value c
  have hs1 : Canonical s1 := .countDir h
  have hs2 : Canonical s2 := by
    unfold s2
    split
    · exact hs1
    · exact .ite (.ite (.reportOpen hs1) hs1) (.setWay (.ite (.reportOpen hs1) hs1))
  split
  · extract_lets _ s3 _ _ _ _ s4 k _ _ _ s5 s6
    have hs3 : Canonical s3 := .ageSet hs2
    have hs4 : Canonical s4 := .setWay hs3
    have hk : FstCanonical k := .snoop hs4
    have hs5 : Canonical s5 := .noteAnomaly (.addTxn (.fst hk))
    have hs6 : Canonical s6 := by
      unfold s6
      split
      · exact .ownerData (.setHome hs5)
      · exact hs5
    exact .ite (.some (.beginPoisoned hs2)) (.some (.settle hs6))
  · split
    case h_1 | h_2 | h_3 =>
      split
      · exact .none
      · exact .some (.settle (.addTxn (.setWay (.of_some_snd (.allocWay hs2) ‹_›))))
    case h_4 => exact .some (.settle (.noteAnomaly (.addTxn hs2)))

theorem OptCanonical.activate {i r} (h : Canonical s) : OptCanonical (s.activate i r) :=
  .ite (.some (.beginPrivate h)) (.ite .none (.ite (.some (.modHome (.countDir h))) (.ite (.some (.modHome h))
    (.beginShared h))))

theorem Canonical.toRetry {i r} (h : Canonical s) : Canonical (s.toRetry i r) := .modHome (.countDir h)
theorem Canonical.resume {i r} (h : Canonical s) : Canonical (s.resume i r) := .getD (.activate h) (.toRetry h)

theorem Canonical.flushLine {o k line} (h : Canonical s) : Canonical (s.flushLine o k line) := by
  unfold State.flushLine
  split
  · exact h
  · exact .ite h (.modHome (.setWay (.fst (.snoop h))))

theorem Canonical.flushedTwin {twin} (h : Canonical s) : Canonical (s.flushedTwin twin) := by
  unfold State.flushedTwin
  split
  · exact h
  · exact .ite h (.ite (.ctlSend (.modSem h)) (.ctlSend (.modSem h)))

theorem Canonical.pumpFlush (h : Canonical s) : Canonical (s.pumpFlush) := by
  unfold State.pumpFlush
  extract_lets s1
  have hs1 : Canonical s1 := .forEach h fun _ _ hx => .forEach hx fun _ _ hy => .flushLine hy
  refine .forEach hs1 fun _ _ hx => .ite hx ?_
  split
  · exact .flushedTwin (.endBg? (.update hx))
  · exact .forEach (.flushedTwin (.endBg? (.update hx))) fun _ _ hy => .ite hy (.update hy)

theorem Canonical.startFlush {ranges usp bg rel twin} (h : Canonical s) : Canonical (s.startFlush ranges usp bg rel twin) :=
  .pumpFlush (.update h)

theorem Canonical.nextFor {i line} (h : Canonical s) : Canonical (s.nextFor i line) := by
  unfold State.nextFor
  refine .ite h ?_
  split
  · exact h
  · exact .resume (.modHome h)

theorem Canonical.modEvict {i line f} (h : Canonical s) : Canonical (s.modEvict i line f) := .modHome h
theorem Canonical.evictLost {i e} (h : Canonical s) : Canonical (s.evictLost i e) :=
  .ite (.modEvict h) (.writeDevs (.modEvict (.modEvict h)))

theorem Canonical.proxySnoop {line kind} (h : Canonical s) : Canonical (s.proxySnoop line kind) := by
  unfold State.proxySnoop
  extract_lets
  split
  · extract_lets _ _ _ _ _ q s1
    have hq : FstCanonical q := .snoop h
    have hs1 : Canonical s1 := .ite (.fst hq) (.setWay (.fst hq))
    exact .ite (.twinSend h) (.ite (.twinSend h) (.ite (.twinSend h) (.ite (.modSem h) (.modHome hs1))))
  · exact .twinSend h

theorem Canonical.proxyDone {v} (h : Canonical s) : Canonical (s.proxyDone v) := by
  unfold State.proxyDone
  split
  · exact h
  · exact .twinSend h

theorem Canonical.pumpSnps {line} (h : Canonical s) : Canonical (s.pumpSnps line) := by
  unfold State.pumpSnps
  split
  · exact h
  · exact .proxySnoop (.modSem h)

theorem OutcomeCanonical.execTransactionEnd {i line} (h : Canonical s) : OutcomeCanonical (execTransactionEnd i line s) := by
  unfold Machine.execTransactionEnd
  refine .next ?_
  split
  · exact h
  · extract_lets _ s1 s2
    have hs1 : Canonical s1 := by
      unfold s1
      split
      · exact h
      · exact .setWay h
    have hs2 : Canonical s2 := .modHome hs1
    exact .ite (.pumpSnps (.nextFor (.pumpFlush hs2))) h

theorem OutcomeCanonical.execEvictionEnd {i line} (h : Canonical s) : OutcomeCanonical (execEvictionEnd i line s) := by
  unfold Machine.execEvictionEnd
  extract_lets s1
  have hs1 : Canonical s1 := .modHome h
  refine .next ?_
  split
  · exact h
  · extract_lets s2
    have hs2 : Canonical s2 := by
      unfold s2
      refine .ite ?_ (.countDir hs1)
      split
      · exact hs1
      · exact .setWay hs1
    exact .ite (.pumpSnps (.nextFor (.pumpFlush (.proxyDone hs2)))) h

theorem Canonical.evictData {i v tag u mta data mask} (h : Canonical s) : Canonical (s.evictData i v tag u mta data mask) := by
  unfold State.evictData
  extract_lets _ s1 s2 s3
  have hs1 : Canonical s1 := .modEvict h
  have hs2 : Canonical s2 := .noteWrite (.countDir hs1)
  have hs3 : Canonical s3 := .writeDevs hs2
  exact .ite hs3 (.toHost hs3)

theorem OptCanonical.takeWriteback {u line tag mta data mask} (h : Canonical s) :
    OptCanonical (s.takeWriteback u line tag mta data mask) := by
  unfold State.takeWriteback
  split
  · exact .bind fun _ => .ite (.some (.settle (.ownerData h))) .none
  · exact .map fun _ => .evictData h
  · exact .none

theorem Canonical.answerSafe {r} (h : Canonical s) : Canonical (s.answerSafe r) := by
  unfold State.answerSafe
  split
  · exact .reportPoison (.answerAtom h)
  · exact .reportPoison (.answerHome h)

theorem Canonical.arrive {i r} (h : Canonical s) : Canonical (s.arrive i r) := by
  unfold State.arrive
  extract_lets _ taken
  have htaken : OptCanonical taken := by
    unfold taken
    split
    · exact .ite (.takeWriteback h) .none
    · exact .none
  clear_value taken
  refine .ite (.answerSafe h) ?_
  cases htaken with
  | some ht => exact ht
  | none => exact .ite (.modHome h) (.modHome h)

theorem OptCanonical.lateWrite {i r} (h : Canonical s) : OptCanonical (s.lateWrite i r) :=
  .ite (.bind fun _ => .takeWriteback (.modHome h)) .none

theorem OptCanonical.takeRequest {i r} (h : Canonical s) : OptCanonical (s.takeRequest i r) := by
  unfold State.takeRequest
  extract_lets _ s1
  have hs1 : Canonical s1 := .modHome h
  refine .ite (.lateWrite h) (.ite .none ?_)
  split
  · exact .none
  · extract_lets
    refine .ite (.some (.modHome hs1)) ?_
    split
    · exact .some (.of_some (.activate hs1) ‹_›)
    · exact .ite .none (.some (.toRetry hs1))

theorem OptSndCanonical.admitFirst {i rs} (h : Canonical s) : OptSndCanonical (s.admitFirst i rs) := by
  induction rs with
  | nil => exact .none
  | cons r rs ih =>
    unfold State.admitFirst
    split
    · exact .some (.of_some (.takeRequest h) ‹_›)
    · exact ih

theorem OutcomeCanonical.execSliceAdmit {i} (h : Canonical s) : OutcomeCanonical (execSliceAdmit i s) := by
  unfold Machine.execSliceAdmit
  extract_lets
  refine .next (.ite h ?_)
  split
  · exact .of_some (.bind fun _ => .activate (.modHome h)) ‹_›
  · refine .ite h ?_
    split
    · exact .set (.of_some_snd (.admitFirst h) ‹_›)
    · exact h

theorem Canonical.continuePage {i page} (h : Canonical s) : Canonical (s.continuePage i page) :=
  .forEach (.modHome h) fun _ _ hx => .resume hx

theorem Canonical.cacheRoom {i} (h : Canonical s) : Canonical (s.cacheRoom i) := by
  unfold State.cacheRoom
  extract_lets
  refine .ite h ?_
  split
  · exact h
  · exact .modHome h

theorem OutcomeCanonical.execDirCacheMissFill {i page} (h : Canonical s) : OutcomeCanonical (execDirCacheMissFill i page s) :=
  .next (.ite (.continuePage (.modHome (.cacheRoom h))) h)

theorem OutcomeCanonical.execDirtyPageWriteback {i} (h : Canonical s) : OutcomeCanonical (execDirtyPageWriteback i s) := by
  unfold Machine.execDirtyPageWriteback
  extract_lets _ s1
  have hs1 : Canonical s1 := .modHome h
  refine .next (.ite h ?_)
  split
  · exact hs1
  · exact .continuePage hs1

theorem Canonical.snoopEnd {i t u r} (h : Canonical s) : Canonical (s.snoopEnd i t u r) := .settle (.modTxn h)
theorem Canonical.evictSnoopEnd {i v u r} (h : Canonical s) : Canonical (s.evictSnoopEnd i v u r) :=
  .ite (.evictLost (.modEvict h)) (.modEvict h)

theorem Canonical.biRsp {u line r} (h : Canonical s) : Canonical (s.biRsp u line r) := by
  unfold State.biRsp
  split
  · split
    · exact h
    · exact .ite (.snoopEnd h) (.snoopEnd (.anomaly h))
  · split
    · exact h
    · exact .evictSnoopEnd (.ite h (.anomaly h))
  · exact .ite h (.anomaly h)

theorem OutcomeCanonical.execBirspReceive {u line r} (h : Canonical s) : OutcomeCanonical (execBirspReceive u line r s) :=
  .next (.biRsp h)

theorem OutcomeCanonical.execOwnerWritebackReceive {u line tag mta data} (h : Canonical s) :
    OutcomeCanonical (execOwnerWritebackReceive u line tag mta data s) :=
  .next (.getD (.takeWriteback h) h)

theorem OutcomeCanonical.execBiconflictReceive {u line} (h : Canonical s) : OutcomeCanonical (execBiconflictReceive u line s) :=
  .next (.emit (.countDir h))

theorem OutcomeCanonical.execSnoopTimeout {u line} (h : Canonical s) : OutcomeCanonical (execSnoopTimeout u line s) := by
  unfold Machine.execSnoopTimeout
  refine .next ?_
  split
  · exact h
  · split
    · exact h
    · exact .snoopEnd (.report h)
  · split
    · exact h
    · exact .evictSnoopEnd (.report h)

theorem OptCanonical.secondRead {i t no} (h : Canonical s) : OptCanonical (s.secondRead i t no) := by
  unfold State.secondRead
  extract_lets _ cs
  clear_value cs
  split
  · exact .none
  · exact .some (.readDev (.modTxn h))

theorem Canonical.homeDev {i line no isRead ok poison data} (h : Canonical s) :
    Canonical (s.homeDev i line no isRead ok poison data) := by
  unfold State.homeDev
  extract_lets s1 s2
  have hs1 : Canonical s1 := .modTxn h
  have hs2 : Canonical s2 := .modTxn hs1
  split
  · exact h
  · extract_lets _ _ _ _ _ s3 lost s4 s5
    have hs3 : Canonical s3 := .ite (.fence hs1) hs1
    have hlost : Canonical lost := .modTxn hs3
    have hs4 : Canonical s4 := .ite (.modTxn hs3) hs3
    have hs5 : Canonical s5 := by
      unfold s5
      refine .ite (.ite ?_ (.ite (.getD (.secondRead hs4) hlost) hlost)) (.ite hs1 (.ite ?_ (.ite (.fence hs1) hs1)))
      · split
        · exact hs2
        · exact .forEach (.writeDevs (.modTxn hs2)) fun _ _ hx => .reportDsp hx
      · split
        · exact .destFailed hs1
        · exact hs1
    exact .settle hs5

theorem Canonical.evictDev {i line no ok} (h : Canonical s) : Canonical (s.evictDev i line no ok) := by
  unfold State.evictDev
  extract_lets s1
  have hs1 : Canonical s1 := .modEvict h
  split
  · exact h
  · refine .ite hs1 (.ite ?_ (.ite (.fence hs1) hs1))
    split
    · exact .destFailed hs1
    · exact hs1

theorem Canonical.setLost {u b} (h : Canonical s) : Canonical (s.setLost u b) := .ite (.setFlag h) (.set (.set h))

theorem Canonical.loseParty {u} (h : Canonical s) : Canonical (s.loseParty u) := by
  unfold State.loseParty
  extract_lets s1 s2 _ _ s3
  have hs1 : Canonical s1 := .setLost h
  have hs2 : Canonical s2 := .ite (.modPort (.withhold hs1)) hs1
  have hs3 : Canonical s3 := .set (.update hs2)
  refine .ite h (.forEach hs3 fun _ _ hx => .forEach (.forEach hx fun _ _ hy => ?_) fun _ _ hy => .ite (.evictSnoopEnd
    (.ite (.reportOpen hy) hy)) hy)
  split
  · exact hy
  · exact .ite (.snoopEnd (.ite (.reportOpen hy) hy)) hy

theorem Canonical.walkAll (h : Canonical s) : Canonical (s.walkAll) := by
  unfold State.walkAll
  refine .forEach h fun _ _ hx => ?_
  split
  exact .ite (.ite hx (.update hx)) (.ite hx (.update (.ite (.reportOpen hx) hx)))

theorem Canonical.closeOpen {srcs} (h : Canonical s) : Canonical (s.closeOpen srcs) := .update h

theorem OutcomeCanonical.execLostPortWalkEnd (h : Canonical s) : OutcomeCanonical (execLostPortWalkEnd s) := by
  unfold Machine.execLostPortWalkEnd
  extract_lets s1
  have hs1 : Canonical s1 := .walkAll h
  refine .next ?_
  split
  · exact h
  · extract_lets _ s2 s3 s4 _ _ s5
    have hs2 : Canonical s2 := .forEach hs1 fun _ _ hx => .setLost hx
    have hs3 : Canonical s3 := .forEach hs2 fun _ _ hx => .modPort (.unhold hx)
    have hs4 : Canonical s4 := .closeOpen hs3
    have hs5 : Canonical s5 := .update hs4
    exact .ite h (.ite (.set hs5) hs5)

theorem OutcomeCanonical.execHomeMapHoldEnd (h : Canonical s) : OutcomeCanonical (execHomeMapHoldEnd s) := by
  unfold Machine.execHomeMapHoldEnd
  extract_lets
  refine .next (.forEach h fun _ _ hx => ?_)
  split
  · exact .ite hx (.modHome hx)
  · exact hx

theorem Canonical.dirPageDouble {i page} (h : Canonical s) : Canonical (s.dirPageDouble i page) :=
  .ite h (.pumpFlush (.forEach (.update h) fun _ _ hx => .forEach hx fun _ _ hy => .modHome (.fst (.snoop hy))))
theorem OutcomeCanonical.execDirPageDoubleFail {i page} (h : Canonical s) : OutcomeCanonical (execDirPageDoubleFail i page s) :=
  .next (.ite h (.dirPageDouble (.report h)))
theorem Canonical.loseSlice {i} (h : Canonical s) : Canonical (s.loseSlice i) :=
  .pumpFlush (.forEach (.update (.modHome h)) fun _ _ hx => .answerSafe hx)
theorem OutcomeCanonical.execSliceFailure {i} (h : Canonical s) : OutcomeCanonical (execSliceFailure i s) :=
  .next (.ite h (.report (.loseSlice (.setFlag h))))
theorem RunCanonical.specDirInfo : RunCanonical specDirInfo := fun _ _ _ h => .done h
theorem RunCanonical.specDirLineRead : RunCanonical specDirLineRead := fun _ _ _ h => .done h
theorem RunCanonical.specDirSetRead : RunCanonical specDirSetRead := fun _ _ _ h => .done h
theorem RunCanonical.specDirRangeFlush : RunCanonical specDirRangeFlush :=
  fun _ _ _ h => .ite .fail (.ite (.finished h) (.started (.startFlush h)))
theorem RunCanonical.specDirPoisonClear : RunCanonical specDirPoisonClear :=
  fun _ _ _ h => .ite .fail (.ite (.finished (.update h)) (.started (.moduleCommit (.journals (.update h)))))
theorem RunCanonical.specDirStats : RunCanonical specDirStats := fun _ _ _ h => .done h

/-! ## `Machine/Pool` -/

theorem Canonical.modPol {f} (h : Canonical s) (hf : ∀ p, SMap.wf p.map → SMap.wf (f p).map) : Canonical (s.modPol f) :=
  ⟨h.1, hf _ h.2⟩

theorem Canonical.refuse {usp row ld target m line atom} (h : Canonical s) :
    Canonical (s.refuse usp row ld target m line atom) := by
  unfold State.refuse
  extract_lets _ s1
  have hs1 : Canonical s1 := .emit h
  split
  · exact .report (.emit h)
  · exact .ite (.reportDsp hs1) (.report hs1)

theorem Canonical.chargePolicer {ld} (h : Canonical s) : Canonical (s.chargePolicer ld) := .update h

theorem Canonical.sendHome {usp m r} (h : Canonical s) : Canonical (s.sendHome usp m r) := by
  unfold State.sendHome
  split
  · exact .arrive h
  · exact .refuse h

theorem Canonical.setHold {u l} (h : Canonical s) : Canonical (s.setHold u l) := .update h
theorem Canonical.police {u m r} (h : Canonical s) : Canonical (s.police u m r) :=
  .ite (.ite (.ite (.withhold (.setHold h)) (.setHold h)) (.sendHome (.chargePolicer h))) (.sendHome h)

theorem OutcomeCanonical.execPolicerRelease {ld} (h : Canonical s) : OutcomeCanonical (execPolicerRelease ld s) := by
  unfold Machine.execPolicerRelease
  extract_lets _ s1 s2
  have hs1 : Canonical s1 := .setHold h
  have hs2 : Canonical s2 := .ite (.unhold hs1) hs1
  refine .next (.ite h ?_)
  split
  · exact h
  · exact .sendHome (.chargePolicer hs2)

theorem Canonical.admitPool {p ld dpa stamp m atom} (h : Canonical s) : Canonical (s.admitPool p ld dpa stamp m atom) :=
  .ite (.withhold (.modPol h fun _ hp => hp)) (.ite (.police h) (.refuse h))

theorem Canonical.lookupPool {p ld dpa stamp m atom} (h : Canonical s) : Canonical (s.lookupPool p ld dpa stamp m atom) := by
  unfold State.lookupPool
  extract_lets _ _ _ s1 _ _ s2
  have hs1 : Canonical s1 := .ite h (.ite (.bump h) (.bump h))
  have hs2 : Canonical s2 := .modPol hs1 fun _ hp => hp
  refine .ite (.refuse h) (.ite (.admitPool hs1) (.ite (.admitPool hs2) ?_))
  split
  · exact .withhold hs1
  · exact .ite (.withhold (.modPol hs1 fun _ hp => hp)) (.modPol hs1 fun _ hp => hp)

theorem OutcomeCanonical.execExtentMapMissFill {p slot} (h : Canonical s) :
    OutcomeCanonical (execExtentMapMissFill p slot s) := by
  unfold Machine.execExtentMapMissFill
  refine .next ?_
  split
  · exact h
  · extract_lets _ _ s1
    have hs1 : Canonical s1 := .modPol h fun _ hp => hp
    refine .ite h ?_
    split
    · exact .admitPool (.unhold (.modPol h fun _ hp => hp))
    · split
      · exact .modPol hs1 fun _ hp => hp
      · exact .admitPool (.unhold (.modPol hs1 fun _ hp => hp))

theorem Canonical.endStartHold (h : Canonical s) : Canonical (s.endStartHold) :=
  .forEach (.forEach (.modPol h fun _ hp => hp) fun _ _ hx => .unhold hx) fun _ _ hx => .admitPool hx
theorem OutcomeCanonical.execStartHoldExpiry (h : Canonical s) : OutcomeCanonical (execStartHoldExpiry s) :=
  .next (.ite (.endStartHold h) h)
theorem Canonical.setPoolDev {n d} (h : Canonical s) : Canonical (s.setPoolDev n d) := .modPol h fun _ hp => hp

theorem OutcomeCanonical.execPoolDeviceAccept {p d} (h : Canonical s) : OutcomeCanonical (execPoolDeviceAccept p d s) := by
  unfold Machine.execPoolDeviceAccept
  extract_lets _ s1 _ s2 _ _ _ s3 s4 s5 _ s6 s7 s8 s9 _ s10 s11
  have hs1 : Canonical s1 := .record (.freeAcrak h)
  have hs2 : Canonical s2 := .recordEvent hs1
  have hs3 : Canonical s3 := .setPoolDev hs2
  have hs4 : Canonical s4 := .ite hs3 (.journal hs3)
  have hs5 : Canonical s5 := .emit hs4
  have hs6 : Canonical s6 := .forEach hs5 fun _ _ hx => .fence hx
  have hs7 : Canonical s7 := .reportDsp hs6
  have hs8 : Canonical s8 := .ite (.ite hs7 (.moduleCommit (.journals hs7))) hs5
  have hs9 : Canonical s9 := .setFlag hs8
  have hs10 : Canonical s10 := .modPol hs9 fun _ hp => hp
  have hs11 : Canonical s11 := .forEach hs10 fun _ _ hx => .unhold hx
  exact .next (.ite h (.ite (.reportDsp (.setPoolDev (.recordEvent hs1))) (.forEach hs11 fun _ _ hx => .admitPool hx)))

theorem Canonical.repeatN {k f} (hf : ∀ t, Canonical t → Canonical (f t)) (h : Canonical s) : Canonical (repeatN k f s) :=
  .foldl h fun _ _ hx => hf _ hx

theorem OutcomeCanonical.execPoolDeviceEventPoll {p cor unc} (h : Canonical s) :
    OutcomeCanonical (execPoolDeviceEventPoll p cor unc s) :=
  .next (.ite (.repeatN (fun _ hx => .reportDsp hx) (.repeatN (fun _ hx => .reportDsp hx) h)) h)

theorem OutcomeCanonical.execPoolDeviceErrMessage {p e} (h : Canonical s) :
    OutcomeCanonical (execPoolDeviceErrMessage p e s) := by
  unfold Machine.execPoolDeviceErrMessage
  refine .next (.ite ?_ h)
  split <;> exact .reportDsp h

/-! ## `Machine/Transcript` -/

theorem Canonical.modRec {f} (h : Canonical s) : Canonical (s.modRec f) := .update h

theorem Canonical.checkpoint (h : Canonical s) : Canonical (s.checkpoint) := by
  unfold State.checkpoint
  extract_lets s1 _ s2 _ _ s3 _ s4
  have hs1 : Canonical s1 := .update h
  have hs2 : Canonical s2 := .drawn hs1
  have hs3 : Canonical s3 := .record hs2
  have hs4 : Canonical s4 := .forEach hs3 fun _ _ hx => .record (.update hx)
  exact .ite (.modRec hs4) hs4

theorem Canonical.closeGap {cause} (h : Canonical s) : Canonical (s.closeGap cause) := by
  unfold State.closeGap
  extract_lets _ _ s1
  have hs1 : Canonical s1 := .modRec h
  split
  · exact h
  · exact .recordGap hs1

theorem RunCanonical.specTranscriptInfo : RunCanonical specTranscriptInfo := fun _ _ _ h => .done h

theorem RunCanonical.specTranscriptRead : RunCanonical specTranscriptRead := by
  intro _ _ s h
  unfold Machine.specTranscriptRead
  dsimp -zeta only
  split
  · exact .bad
  · exact .ite .fail (.done h)

theorem Canonical.exportBytes {addr bs} (h : Canonical s) : Canonical (s.exportBytes addr bs) := .emit h
theorem RunCanonical.specTranscriptExport : RunCanonical specTranscriptExport :=
  fun _ _ _ h => .ite .fail (.ite (.finished (.exportBytes h)) (.finished (.exportBytes h)))
theorem RunCanonical.specTranscriptFreeze : RunCanonical specTranscriptFreeze :=
  fun _ _ _ h => .ite (.done (.recordMark (.setFlag (.modRec h)))) (.done (.recordMark (.closeGap (.setFlag (.modRec h)))))
theorem RunCanonical.specTranscriptCheckpoint : RunCanonical specTranscriptCheckpoint := fun _ _ _ h => .finished (.checkpoint h)
theorem RunCanonical.specReplayStart : RunCanonical specReplayStart :=
  fun _ _ _ h => .ite .fail (.ite .fail (.started (.recordMark (.set (.setFlag (.modRec h))))))
theorem RunCanonical.specReplayStatus : RunCanonical specReplayStatus := fun _ _ _ h => .done h

theorem Canonical.endReplay {r kind done commits seq status} (h : Canonical s) :
    Canonical (s.endReplay r kind done commits seq status) :=
  .endBg (.recordMark (.ite (.report (.set (.setFlag (.modRec h)))) (.set (.setFlag (.modRec h)))))

theorem RunCanonical.specReplayAbort : RunCanonical specReplayAbort := by
  intro _ _ s h
  unfold Machine.specReplayAbort
  dsimp -zeta only
  split
  · exact .fail
  · exact .done (.endReplay h)

theorem OutcomeCanonical.execReplayEnd {r} (h : Canonical s) : OutcomeCanonical (execReplayEnd r s) := by
  unfold Machine.execReplayEnd
  refine .next ?_
  split
  · exact h
  · extract_lets
    split
    · exact .endReplay h
    · exact .endReplay h
    · split <;> exact .endReplay h

theorem OutcomeCanonical.execTranscriptInput {i} (h : Canonical s) : OutcomeCanonical (execTranscriptInput i s) := by
  unfold Machine.execTranscriptInput
  refine .next ?_
  split <;> exact .record h

theorem OutcomeCanonical.execAcrakTimer {id armed} (h : Canonical s) :
    OutcomeCanonical (execAcrakTimer id armed s) := .next (.record h)
theorem Canonical.timerInput {which} (h : Canonical s) : Canonical (s.timerInput which) := .record h
theorem OutcomeCanonical.execCheckpointTimer (h : Canonical s) : OutcomeCanonical (execCheckpointTimer s) :=
  .next (.ite (.checkpoint h) h)

theorem OutcomeCanonical.execTranscriptGap {g} (h : Canonical s) : OutcomeCanonical (execTranscriptGap g s) := by
  unfold Machine.execTranscriptGap
  refine .next ?_
  split
  · exact .ite (.closeGap (.modRec h)) h
  · exact .ite (.recordGap (.modRec h)) h

/-! ## `Machine/PoolCmd` -/

theorem Canonical.offer {ld kind xs tag} (h : Canonical s) : Canonical (s.offer ld kind xs tag) := .emits h
theorem Canonical.dropRelease {id} (h : Canonical s) : Canonical (s.dropRelease id) := .modPol h fun _ hp => hp

theorem Canonical.dropRelocs {xs} (h : Canonical s) : Canonical (s.dropRelocs xs) := by
  unfold State.dropRelocs
  refine .forEach h fun _ _ hx => ?_
  split
  · exact hx
  · exact .update (.journal (.modReloc hx))

theorem Canonical.commitRelease {r} (h : Canonical s) : Canonical (s.commitRelease r) :=
  .moduleCommit (.ite (.journal (.journals (.journals (.dropRelocs h)))) (.journals (.journals (.dropRelocs h))))

theorem Canonical.startRelease {r inval} (h : Canonical s) : Canonical (s.startRelease r inval) := by
  unfold State.startRelease
  extract_lets s1 _ _ s2
  have hs1 : Canonical s1 := .modPol h fun _ hp => hp
  have hs2 : Canonical s2 := .forEach hs1 fun _ _ hx => .ite hx (.startFlush hx)
  exact .ite hs2 (.commitRelease hs2)

theorem OutcomeCanonical.execReleaseInvalidateEnd {id} (h : Canonical s) : OutcomeCanonical (execReleaseInvalidateEnd id s) := by
  unfold Machine.execReleaseInvalidateEnd
  extract_lets _ s1
  have hs1 : Canonical s1 := .update h
  refine .next ?_
  split
  · exact h
  · exact .ite (.commitRelease hs1) h

theorem Canonical.bumpId (h : Canonical s) : Canonical (s.bumpId) := .modPol h fun _ hp => hp

theorem OutcomeCanonical.execHostReleaseCapacity {ld first count} (h : Canonical s) :
    OutcomeCanonical (execHostReleaseCapacity ld first count s) := by
  unfold Machine.execHostReleaseCapacity
  extract_lets _ w s1
  clear_value w
  have hs1 : Canonical s1 := by
    unfold s1
    split
    · exact .dropRelease h
    · exact h
  exact .next (.ite h (.startRelease (.bumpId hs1)))

theorem OutcomeCanonical.execReleaseTimeout {id} (h : Canonical s) : OutcomeCanonical (execReleaseTimeout id s) := by
  unfold Machine.execReleaseTimeout
  refine .next ?_
  split
  · exact h
  · exact .endBg? (.dropRelease (.timerInput h))

theorem Canonical.commitGrant {g runs owner} (h : Canonical s) :
    Canonical (s.commitGrant g runs owner) := .moduleCommit (.journals h)

theorem OutcomeCanonical.execFillComplete {id} (h : Canonical s) : OutcomeCanonical (execFillComplete id s) := by
  unfold Machine.execFillComplete
  refine .next ?_
  split
  · exact h
  · exact .commitGrant (.modPol (.forEach h fun _ _ hx => .forEach hx fun _ _ hy => .emit hy) fun _ hp => hp)

theorem Canonical.finishGrant {id} (h : Canonical s) : Canonical (s.finishGrant id) := by
  unfold State.finishGrant
  split
  · exact h
  · exact .endBg? (.modPol (.forEach h fun _ _ hx => .offer hx) fun _ hp => hp)

theorem Canonical.finishRelease {id} (h : Canonical s) : Canonical (s.finishRelease id) := by
  unfold State.finishRelease
  split
  · exact h
  · exact .endBg? (.dropRelease (.forEach (.forEach h fun _ _ hx => .offer hx) fun _ _ hx => .offer hx))

theorem OutcomeCanonical.execHostAddCapacityResponse {ld accepted} (h : Canonical s) :
    OutcomeCanonical (execHostAddCapacityResponse ld accepted s) := by
  unfold Machine.execHostAddCapacityResponse
  refine .next ?_
  split
  · exact h
  · exact .ite (.modPol h fun _ hp => hp) (.startRelease (.bumpId (.modPol h fun _ hp => hp)))

theorem OutcomeCanonical.execChangeListWritable (h : Canonical s) :
    OutcomeCanonical (execChangeListWritable s) := .next (.setFlag h)

theorem OutcomeCanonical.execExtentPageRebuild {page pairTable} (h : Canonical s) :
    OutcomeCanonical (execExtentPageRebuild page pairTable s) :=
  .next (.report (.modPol h fun _ hp => hp))

theorem RunCanonical.specPoolInfo : RunCanonical specPoolInfo := fun _ _ _ h => .done h
theorem RunCanonical.specPoolViewSet : RunCanonical specPoolViewSet := fun _ _ _ h => .ite .fail (.waits (.moduleCommit h))

theorem RunCanonical.specExtentGrant : RunCanonical specExtentGrant := by
  intro _ _ s h
  unfold Machine.specExtentGrant
  dsimp -zeta only
  extract_lets _ _ _ _ _ _ _ s1
  have hs1 : Canonical s1 := .modPol (.bumpId h) fun _ hp => hp
  split
  · exact .fail
  · exact .started (.ite (.commitGrant hs1) hs1)

theorem RunCanonical.specExtentRelease : RunCanonical specExtentRelease :=
  fun _ _ _ h => .ite .fail (.ite .fail (.started (.emit (.modPol (.bumpId h) fun _ hp => hp))))
theorem RunCanonical.specExtentRead : RunCanonical specExtentRead := fun _ _ _ h => .done h

theorem RunCanonical.specShareGroupSet : RunCanonical specShareGroupSet := by
  intro _ _ s h
  unfold Machine.specShareGroupSet
  dsimp -zeta only
  extract_lets _ _ _ _ _ _ _ _ s1 _ _ s11
  have hs1 : Canonical s1 := .modPol (.bumpId h) fun _ hp => hp
  have hs11 : Canonical s11 := .startRelease hs1
  exact .ite .fail (.ite .fail (.ite .fail (.ite .fail (.ite (.done (.journal hs1)) (.ite (.started hs11) (.waits
    (.startRelease hs1)))))))

/-! ## `Machine/Reloc` -/

theorem Canonical.beginReloc {r} (h : Canonical s) :
    Canonical (s.beginReloc r) := .modPol (.journal (.writeBoth h)) fun _ hp => hp

theorem FstCanonical.beginItems {batch bg is} (h : Canonical s) : FstCanonical (s.beginItems batch bg is) := by
  induction is generalizing s with
  | nil => exact .mk h
  | cons i is ih =>
    refine .ite (.mk (.fst (ih h))) ?_
    generalize s.freeSlot = o
    cases o with
    | none => exact .mk h
    | some k => exact ih (.beginReloc h)

theorem Canonical.startBatch (h : Canonical s) : Canonical (s.startBatch) := by
  unfold State.startBatch
  refine .ite h ?_
  split
  · exact h
  · exact .ite h (.moduleCommit (.modPol (.fst (.beginItems h)) fun _ hp => hp))

theorem Canonical.endRelocCmds (h : Canonical s) : Canonical (s.endRelocCmds) := by
  unfold State.endRelocCmds
  extract_lets _ s1 s2
  have hs1 : Canonical s1 := .modPol h fun _ hp => hp
  have hs2 : Canonical s2 := .forEach hs1 fun _ _ hx => .endBg hx
  exact .ite (.modPol (.endBg? hs2) fun _ hp => hp) hs2

theorem Canonical.closeBatch {b} (h : Canonical s) : Canonical (s.closeBatch b) :=
  .ite h (.startBatch (.endRelocCmds (.modPol h fun _ hp => hp)))
theorem Canonical.postBatch {b} (h : Canonical s) : Canonical (s.postBatch b) := .modPol (.update h) fun _ hp => hp
theorem OutcomeCanonical.execRelocationBatchEnd {id} (h : Canonical s) : OutcomeCanonical (execRelocationBatchEnd id s) :=
  .next (.ite h (.moduleCommit (.modPol (.journals h) fun _ hp => hp)))
theorem Canonical.finishBatch {b} (h : Canonical s) : Canonical (s.finishBatch b) := .closeBatch (.modPol h fun _ hp => hp)
theorem Canonical.finishAbort {xs} (h : Canonical s) : Canonical (s.finishAbort xs) :=
  .forEach (.modPol h fun _ hp => hp) fun _ _ hx => .closeBatch hx

theorem OutcomeCanonical.execRelocationExtentAbort {x cause} (h : Canonical s) :
    OutcomeCanonical (execRelocationExtentAbort x cause s) := by
  unfold Machine.execRelocationExtentAbort
  refine .next ?_
  split
  · exact h
  · refine .ite h ?_
    split
    · exact .abortReloc h
    · exact .sourceFailed h
    · exact .destFailed h
    · exact .abortReloc h
    · exact .destFailed h

theorem OutcomeCanonical.execRelocationSlotFree {slot} (h : Canonical s) : OutcomeCanonical (execRelocationSlotFree slot s) := by
  unfold Machine.execRelocationSlotFree
  refine .next ?_
  split
  · exact h
  · split
    · exact h
    · exact .ite h (.startBatch (.modPol h fun _ hp => hp))

theorem Canonical.addReloc {items} (h : Canonical s) : Canonical (s.addReloc items) := .startBatch (.modPol h fun _ hp => hp)
theorem RunCanonical.specRelocateStart : RunCanonical specRelocateStart :=
  fun _ _ _ h => .ite .fail (.ite .fail (.ite (.finished h) (.started (.addReloc h))))
theorem RunCanonical.specRelocateAbort : RunCanonical specRelocateAbort :=
  fun _ _ _ h => .ite .fail (.started (.endRelocCmds (.forEach (.modPol h fun _ hp => hp) fun _ _ hx => .abortReloc hx)))
theorem RunCanonical.specRelocateStatus : RunCanonical specRelocateStatus := fun _ _ _ h => .done h
theorem RunCanonical.specMirrorResync : RunCanonical specMirrorResync := fun _ _ _ h => .ite .fail (.started (.addReloc h))

/-! ## `Machine/MoverBase` -/

theorem Canonical.modMov {f} (h : Canonical s) : Canonical (s.modMov f) := .update h
theorem Canonical.setFn {k x} (h : Canonical s) : Canonical (s.setFn k x) := .modMov h
theorem Canonical.modFn {k f} (h : Canonical s) : Canonical (s.modFn k f) := .setFn h
theorem Canonical.cqEnable {k on} (h : Canonical s) : Canonical (s.cqEnable k on) := .ite (.ite h (.setFn h)) (.ite h (.setFn h))
theorem Canonical.sendVec {k v} (h : Canonical s) : Canonical (s.sendVec k v) := .ite (.setFn (.setFn h)) (.emit (.setFn h))
theorem Canonical.vecEvent {k v} (h : Canonical s) : Canonical (s.vecEvent k v) := .ite (.sendVec (.setFn h)) (.setFn h)
theorem Canonical.flushVec {k v} (h : Canonical s) : Canonical (s.flushVec k v) := .ite (.emit (.setFn h)) h
theorem Canonical.flushVecs {k} (h : Canonical s) : Canonical (s.flushVecs k) := .forEach h fun _ _ hx => .flushVec hx
theorem Canonical.modCtx {id f} (h : Canonical s) : Canonical (s.modCtx id f) := .modMov h
theorem Canonical.failChunk {id off status} (h : Canonical s) : Canonical (s.failChunk id off status) := .modCtx h
theorem Canonical.reportRow {ld row target line} (h : Canonical s) : Canonical (s.reportRow ld row target line) :=
  .ite (.reportDsp h) (.report h)
theorem Canonical.addAcc {id a} (h : Canonical s) : Canonical (s.addAcc id a) := .modCtx h

theorem Canonical.moverPool {c chunk off ld dpa n op data atom} (h : Canonical s) :
    Canonical (s.moverPool c chunk off ld dpa n op data atom) := by
  unfold State.moverPool
  extract_lets
  refine .ite (.failChunk (.ite (.report h) (.reportRow h))) ?_
  split
  · exact .failChunk (.ite (.report h) (.reportRow h))
  · exact .arrive (.addAcc h)

theorem Canonical.moverHostRead {c u a off n} (h : Canonical s) : Canonical (s.moverHostRead c u a off n) := by
  unfold State.moverHostRead
  extract_lets s1
  have hs1 : Canonical s1 := .addAcc h
  split
  · exact .emit (.setIoSlot (.wake hs1))
  · exact hs1

theorem Canonical.moverWrite {c chunk off b} (h : Canonical s) : Canonical (s.moverWrite c chunk off b) := by
  unfold State.moverWrite
  extract_lets
  split
  · exact .forEach h fun _ _ hx => .moverPool hx
  · exact .failChunk (.report h)
  · exact .failChunk h
  · exact .ite (.emit h) (.failChunk (.report h))

theorem Canonical.moverRead {c chunk n} (h : Canonical s) : Canonical (s.moverRead c chunk n) := by
  unfold State.moverRead
  extract_lets
  split
  · exact .forEach h fun _ _ hx => .moverPool hx
  · exact .failChunk (.report h)
  · exact .failChunk h
  · exact .forEach h fun _ _ hx => .moverHostRead hx

theorem Canonical.relocRead {c r off} (h : Canonical s) : Canonical (s.relocRead c r off) := by
  unfold State.relocRead
  extract_lets
  refine .ite h ?_
  split
  · exact h
  · exact .issueDev (.addAcc h)

theorem Canonical.relocWrite {c r off} (h : Canonical s) : Canonical (s.relocWrite c r off) := by
  unfold State.relocWrite
  extract_lets
  refine .ite h ?_
  split
  · exact .failChunk h
  · exact .arrive (.addAcc h)

theorem Canonical.relocStage {c off poison b} (h : Canonical s) : Canonical (s.relocStage c off poison b) := by
  unfold State.relocStage
  split
  · exact h
  · exact .ite (.reportDsp (.modReloc h)) (.modReloc h)

theorem FstCanonical.issueChunk {c} (h : Canonical s) : FstCanonical (s.issueChunk c) := by
  unfold State.issueChunk
  extract_lets _ _ s1 s2
  have hs1 : Canonical s1 := .modCtx h
  have hs2 : Canonical s2 := by
    unfold s2
    split
    · exact .moverRead hs1
    · exact .moverWrite hs1
    · split
      · exact .moverPool hs1
      · exact .failChunk hs1
      · exact .failChunk hs1
      · exact .failChunk (.report hs1)
    · split
      · exact hs1
      · exact .forEach hs1 fun _ _ hx => .ite (.relocRead hx) (.relocWrite hx)
  exact .mk hs2

theorem Canonical.closeChunks {id} (h : Canonical s) : Canonical (s.closeChunks id) := by
  unfold State.closeChunks
  split
  · exact h
  · exact .modCtx (.modMov (.ite (.modMov (.modCtx h)) (.modFn (.modCtx h))))

theorem Canonical.chunkAnswer {id addr rsp} (h : Canonical s) : Canonical (s.chunkAnswer id addr rsp) := by
  unfold State.chunkAnswer
  split
  · exact h
  · extract_lets
    split
    · exact h
    · extract_lets s1 _ s2
      have hs1 : Canonical s1 := .modCtx h
      have hs2 : Canonical s2 := by
        unfold s2
        refine .ite hs1 (.ite ?_ ?_)
        · split <;> exact .relocStage hs1
        · split
          case h_1 => exact .moverWrite hs1
          case h_2 | h_9 => exact hs1
          case h_3 => exact .modCtx hs1
          case h_4 | h_5 | h_8 => exact .failChunk hs1
          case h_6 | h_7 => exact .failChunk (.report hs1)
      exact .closeChunks hs2

theorem Canonical.flrStart {k} (h : Canonical s) : Canonical (s.flrStart k) := by
  unfold State.flrStart
  extract_lets _ s1 s2
  have hs1 : Canonical s1 := .setFn h
  have hs2 : Canonical s2 := .modMov hs1
  split
  · exact hs2
  · exact .ite (.setFn hs2) hs2

theorem Canonical.squashSlots {id} (h : Canonical s) : Canonical (s.squashSlots id) := .update h
theorem Canonical.flrEnd {k} (h : Canonical s) : Canonical (s.flrEnd k) :=
  .answerWaits (.setFn (.modMov (.forEach (.ite h (.report h)) fun _ _ hx => .squashSlots hx)))

theorem Canonical.initiateFlr {k} (h : Canonical s) : Canonical (s.initiateFlr k) := by
  unfold State.initiateFlr
  extract_lets s1 _ _ s2
  have hs1 : Canonical s1 := .forEach h fun _ _ hx => .flrStart (.modFn hx)
  have hs2 : Canonical s2 := .update hs1
  exact .ite hs1 (.modMov hs2)

theorem Canonical.moverPortReset {u} (h : Canonical s) : Canonical (s.moverPortReset u) :=
  .update (.forEach (.initiateFlr h) fun _ _ hx => .flrEnd hx)
theorem Canonical.moverReset (h : Canonical s) : Canonical (s.moverReset) := .update (.modMov h)

/-! ## `Machine/Mover` -/

theorem OutcomeCanonical.execSqTailDb {f r tail} (h : Canonical s) : OutcomeCanonical (execSqTailDb f r tail s) :=
  .next (.ite (.modFn h) h)
theorem OutcomeCanonical.execCqHeadDb {f head} (h : Canonical s) :
    OutcomeCanonical (execCqHeadDb f head s) := .next (.ite (.modFn h) h)

theorem Canonical.freezeEnd {k} (h : Canonical s) : Canonical (s.freezeEnd k) := by
  unfold State.freezeEnd
  extract_lets _ s1
  have hs1 : Canonical s1 := .setFn h
  refine .ite ?_ h
  split
  · exact hs1
  · exact .modFn hs1

theorem OutcomeCanonical.execSqEnableWrite {f r en} (h : Canonical s) : OutcomeCanonical (execSqEnableWrite f r en s) :=
  .next (.ite (.ite (.modFn h) (.freezeEnd (.modFn h))) h)
theorem OutcomeCanonical.execCqEnableWrite {f en} (h : Canonical s) : OutcomeCanonical (execCqEnableWrite f en s) :=
  .next (.ite (.cqEnable h) h)

theorem OutcomeCanonical.execDescriptorFetch {f d} (h : Canonical s) : OutcomeCanonical (execDescriptorFetch f d s) := by
  unfold Machine.execDescriptorFetch
  extract_lets
  refine .next (.ite h ?_)
  split
  · exact h
  · exact .setFn (.emit h)

theorem OutcomeCanonical.execDescriptorFetchError {f r} (h : Canonical s) : OutcomeCanonical (execDescriptorFetchError f r s) :=
  .next (.ite (.vecEvent (.report (.modFn h))) h)
theorem Canonical.openCtx {c} (h : Canonical s) : Canonical (s.openCtx c) := .modMov h

theorem OutcomeCanonical.execDescriptorOpen {f} (h : Canonical s) : OutcomeCanonical (execDescriptorOpen f s) := by
  unfold Machine.execDescriptorOpen
  extract_lets
  refine .next (.ite h ?_)
  split
  · refine .ite (.ite h ?_) (.ite h ?_)
    · split
      · exact h
      · exact .ite (.modMov h) (.modReloc (.openCtx (.modMov h)))
    · split
      · exact h
      · exact .openCtx (.modFn h)
  · exact h

theorem SndCanonical.turnHost {e hosts} (h : Canonical s) : SndCanonical (s.turnHost e hosts) := .ite (.mk h) (.mk (.modMov h))
theorem SndCanonical.turnFn {e h fs} (hs : Canonical s) : SndCanonical (s.turnFn e h fs) := .ite (.mk hs) (.mk (.modMov hs))

theorem OutcomeCanonical.execChunkIssue {e} (h : Canonical s) : OutcomeCanonical (execChunkIssue e s) := by
  unfold Machine.execChunkIssue
  extract_lets _ _ th _ tf
  have hth : SndCanonical th := .turnHost h
  have htf : SndCanonical tf := .turnFn (.snd hth)
  refine .next (.ite h ?_)
  split
  · exact h
  · extract_lets x s1 s2 _ s3
    have hx : FstCanonical x := .issueChunk (.snd htf)
    have hs1 : Canonical s1 := .closeChunks (.fst hx)
    have hs2 : Canonical s2 := .modMov hs1
    have hs3 : Canonical s3 := .ite hs2 (.modMov hs2)
    exact .ite hs3 (.modMov hs3)

theorem OutcomeCanonical.execChunkResponse {id addr rsp} (h : Canonical s) :
    OutcomeCanonical (execChunkResponse id addr rsp s) := by
  unfold Machine.execChunkResponse
  refine .next ?_
  split
  · exact .chunkAnswer (.modMov h)
  · split
    · exact .chunkAnswer (.update h)
    · exact h

theorem Canonical.writeRecord {k c} (h : Canonical s) : Canonical (s.writeRecord k c) := .setFn (.ite (.emit h) h)

theorem OutcomeCanonical.execDescriptorComplete {id} (h : Canonical s) : OutcomeCanonical (execDescriptorComplete id s) := by
  unfold Machine.execDescriptorComplete
  extract_lets s1
  have hs1 : Canonical s1 := .modMov h
  refine .next ?_
  split
  · exact h
  · extract_lets r _ _ s2 s3 s4
    clear_value r
    have hs2 : Canonical s2 := .modFn hs1
    have hs3 : Canonical s3 := .ite hs2 (.writeRecord hs2)
    have hs4 : Canonical s4 := .ite (.vecEvent hs3) hs3
    refine .ite h (.ite ?_ (.freezeEnd hs4))
    split
    · exact hs1
    · exact .ite (.abortReloc hs1) (.modReloc hs1)

theorem OutcomeCanonical.execMsixCoalesceTimer {f vector} (h : Canonical s) :
    OutcomeCanonical (execMsixCoalesceTimer f vector s) :=
  .next (.ite (.sendVec h) h)

theorem OutcomeCanonical.execMsixUnmask {f vector} (h : Canonical s) : OutcomeCanonical (execMsixUnmask f vector s) := by
  unfold Machine.execMsixUnmask
  extract_lets
  refine .next (.ite h ?_)
  split
  · exact .flushVec (.modFn h)
  · exact .flushVecs (.modFn h)

theorem OutcomeCanonical.execInitiateFlr {f} (h : Canonical s) :
    OutcomeCanonical (execInitiateFlr f s) := .next (.ite (.initiateFlr h) h)
theorem OutcomeCanonical.execFlrDrainEnd {f} (h : Canonical s) : OutcomeCanonical (execFlrDrainEnd f s) :=
  .next (.ite (.forEach h fun _ _ hx => .flrEnd hx) h)
theorem OutcomeCanonical.execVfEnableWrite {u numVfs en} (h : Canonical s) : OutcomeCanonical (execVfEnableWrite u numVfs en s) :=
  .next (.ite h (.ite (.ite h (.initiateFlr h)) (.ite (.modMov (.modMov h)) (.modMov h))))
theorem Canonical.migEnd {u result} (h : Canonical s) : Canonical (s.migEnd u result) := .modFn h
theorem Canonical.migGo {u vf op} (h : Canonical s) : Canonical (s.migGo u vf op) := .modFn h

theorem OutcomeCanonical.execMigrationFreeze {u vf} (h : Canonical s) : OutcomeCanonical (execMigrationFreeze u vf s) := by
  unfold Machine.execMigrationFreeze
  extract_lets _ s1
  have hs1 : Canonical s1 := .migGo h
  refine .next (.ite h ?_)
  split
  · exact .migEnd hs1
  · exact .ite (.migEnd hs1) (.freezeEnd (.setFn hs1))

theorem OutcomeCanonical.execFreezeTimeout {f} (h : Canonical s) : OutcomeCanonical (execFreezeTimeout f s) := by
  unfold Machine.execFreezeTimeout
  refine .next ?_
  split
  · exact h
  · exact .ite (.migEnd h) h

theorem OutcomeCanonical.execMigrationSave {u vf keyId dmaOk} (h : Canonical s) :
    OutcomeCanonical (execMigrationSave u vf keyId dmaOk s) := by
  unfold Machine.execMigrationSave
  extract_lets _ s1
  have hs1 : Canonical s1 := .modFn (.migGo h)
  refine .next (.ite h ?_)
  split
  · exact .migEnd hs1
  · refine .ite (.migEnd hs1) ?_
    split
    · exact .migEnd hs1
    · exact .ite (.migEnd hs1) (.migEnd (.emit hs1))

theorem OutcomeCanonical.execMigrationRestore {u vf blob dmaOk} (h : Canonical s) :
    OutcomeCanonical (execMigrationRestore u vf blob dmaOk s) := by
  unfold Machine.execMigrationRestore
  extract_lets _ s1 s2
  have hs1 : Canonical s1 := .migGo h
  have hs2 : Canonical s2 := .emit hs1
  refine .next (.ite h ?_)
  split
  · exact .migEnd hs1
  · extract_lets
    refine .ite (.migEnd hs1) (.ite (.migEnd hs2) (.ite (.migEnd hs2) ?_))
    split
    · exact .migEnd hs2
    · exact .ite (.report (.migEnd hs2)) (.migEnd (.setFn hs2))

theorem OutcomeCanonical.execMigrationResume {u vf} (h : Canonical s) : OutcomeCanonical (execMigrationResume u vf s) := by
  unfold Machine.execMigrationResume
  extract_lets _ s1
  have hs1 : Canonical s1 := .migGo h
  refine .next (.ite h ?_)
  split
  · exact .migEnd hs1
  · exact .ite (.migEnd (.flushVecs (.setFn hs1))) (.migEnd hs1)

theorem Canonical.rebind {c} (h : Canonical s) : Canonical (s.rebind c) := by
  unfold State.rebind
  extract_lets s1
  have hs1 : Canonical s1 := .modMov h
  refine .ite h ?_
  split
  · exact h
  · exact .ite (.modCtx h) (.ite (.modReloc (.openCtx hs1)) (.openCtx hs1))

theorem OutcomeCanonical.execEngineFailure {e} (h : Canonical s) : OutcomeCanonical (execEngineFailure e s) :=
  .next (.ite h (.forEach (.report (.setFlag (.set h))) fun _ _ hx => .rebind hx))

theorem OutcomeCanonical.execMoverSramError {e} (h : Canonical s) : OutcomeCanonical (execMoverSramError e s) := by
  unfold Machine.execMoverSramError
  refine .next ?_
  split
  · exact h
  · exact .ite (.forEach (.report h) fun _ _ hx => .failChunk hx) (.flrStart (.modFn (.report h)))
  · exact .report h

theorem Canonical.vecWrite {k v off w} (h : Canonical s) : Canonical (s.vecWrite k v off w) := .flushVec (.modFn h)

theorem Canonical.nextOf {o} (h : Canonical s) (ho : OutcomeCanonical o) : Canonical (nextOf s o) := by
  cases ho with
  | next ht => exact ht
  | fault => exact h
  | refused => exact h

theorem Canonical.barWrite {k off v} (h : Canonical s) : Canonical (s.barWrite k off v) := by
  unfold State.barWrite
  extract_lets _ _ _ _ _ _ _ s1
  have hs1 : Canonical s1 := .setFn h
  refine .ite h (.ite (.ite (.setFn h) h) (.ite (.setFn h) (.ite (.setFn h) (.ite (.ite h (.setFn h)) (.ite (.ite h
    (.setFn h)) (.ite (.cqEnable (.setFn h)) (.ite (.setFn h) (.ite (.setFn h) (.ite (.setFn h) (.ite (.setFn h) (.ite
    (.vecWrite h) (.ite h (.ite (.setFn h) (.ite (.setFn h) (.ite (.ite h (.setFn h)) (.ite (.ite h (.ite hs1 ?_))
    h))))))))))))))))
  split
  · exact .nextOf hs1 (.execMigrationFreeze hs1)
  · exact .nextOf hs1 (.execMigrationSave hs1)
  · exact .nextOf hs1 (.execMigrationResume hs1)
  · exact hs1

theorem Canonical.adminWrite {u off b} (h : Canonical s) : Canonical (s.adminWrite u off b) := .modMov h
theorem RunCanonical.specMovInfo : RunCanonical specMovInfo := fun _ _ _ h => .done h
theorem RunCanonical.specMovAllotSet : RunCanonical specMovAllotSet :=
  fun _ _ _ h => .ite .fail (.ite .fail (.done (.journal (.modMov h))))
theorem RunCanonical.specMovHostWeightSet : RunCanonical specMovHostWeightSet := fun _ _ _ h => .done (.journal (.set h))
theorem RunCanonical.specMovFnRead : RunCanonical specMovFnRead := fun _ _ _ h => .done h
theorem RunCanonical.specMovFnReset : RunCanonical specMovFnReset :=
  fun _ _ _ h => .ite (.waits h) (.ite (.done h) (.waits (.initiateFlr h)))
theorem RunCanonical.specMovStats : RunCanonical specMovStats := fun _ _ _ h => .done h

/-! ## `Machine/Receive` -/

theorem Canonical.answerQueued {q status} (h : Canonical s) : Canonical (s.answerQueued q status) := .answer h
theorem Canonical.reject {r session k status reply} (h : Canonical s) :
    Canonical (s.reject r session k status reply) := .sendPacket h
theorem Canonical.mbxHeld {r} (h : Canonical s) : Canonical (s.mbxHeld r) := .ite (.modCmd h) h
theorem Canonical.enqueue {q} (h : Canonical s) : Canonical (s.enqueue q) := .ite (.mbxHeld (.modCmd h)) (.modCmd h)

theorem Canonical.discardChain {r context} (h : Canonical s) : Canonical (s.discardChain r context) := by
  unfold State.discardChain
  split
  · exact h
  · exact .forEach (.modCmd h) fun _ _ hx => .answerQueued hx

theorem Canonical.receive {r session k} (h : Canonical s) : Canonical (s.receive r session k) := by
  unfold State.receive
  split
  · exact .reject h
  · split
    · exact .reject h
    · exact .ite (.reject (.discardChain h)) (.ite (.reject h) (.enqueue (.recordCommand h)))

theorem OutcomeCanonical.execCommandPacketReceive {r session pkt} (h : Canonical s) :
    OutcomeCanonical (execCommandPacketReceive r session pkt s) :=
  .next (.ite h (.receive h))

theorem OutcomeCanonical.execChainAssemblyTimeout {r context} (h : Canonical s) :
    OutcomeCanonical (execChainAssemblyTimeout r context s) :=
  .next (.ite (.discardChain (.timerInput h)) h)

theorem Canonical.mbxGo (h : Canonical s) : Canonical (s.mbxGo) := .ite h (.receive (.modCmd h))
theorem OutcomeCanonical.execMbxGo (h : Canonical s) : OutcomeCanonical (execMbxGo s) := .next (.ite (.mbxGo h) h)

theorem Canonical.mbxEvtAck (h : Canonical s) : Canonical (s.mbxEvtAck) := by
  unfold State.mbxEvtAck
  split
  · exact .modCmd h
  · exact .mbxIrq (.modCmd h)

theorem OutcomeCanonical.execMbxEvtAck (h : Canonical s) : OutcomeCanonical (execMbxEvtAck s) := .next (.ite (.mbxEvtAck h) h)
theorem Canonical.mbxEvent {k} (h : Canonical s) :
    Canonical (s.mbxEvent k) := .ite (.mbxIrq (.modCmd h)) (.ite (.modCmd h) (.modCmd h))

theorem Canonical.sendEvent {req session k} (h : Canonical s) : Canonical (s.sendEvent req session k) := by
  unfold State.sendEvent
  split
  · exact .mbxEvent h
  · exact .ctlSend h
  · exact .emit h

theorem Canonical.mbxFlush {v} (h : Canonical s) : Canonical (s.mbxFlush v) := .ite (.mbxIrq (.update h)) h

theorem Canonical.mbxWrite {off v} (h : Canonical s) : Canonical (s.mbxWrite off v) := by
  unfold State.mbxWrite
  extract_lets _ s1 s2
  have hs1 : Canonical s1 := .modCmd h
  have hs2 : Canonical s2 := .ite (.mbxEvtAck hs1) hs1
  exact .ite (.ite (.mbxGo hs2) hs2) (.ite (.modCmd h) (.ite (.modCmd h) (.ite (.ite h (.modCmd h)) (.ite (.mbxFlush
    (.update h)) h))))

theorem Canonical.loseTransport {t} (h : Canonical s) : Canonical (s.loseTransport t) := .update (.modCmd h)
theorem OutcomeCanonical.execTransportLost {t} (h : Canonical s) :
    OutcomeCanonical (execTransportLost t s) := .next (.loseTransport h)
theorem Canonical.transportReset {u} (h : Canonical s) : Canonical (s.transportReset u) :=
  .ite (.modCmd (.loseTransport (.loseTransport h))) (.loseTransport h)

/-! ## `Machine/Fabric` -/

theorem Canonical.mcDown {d} (h : Canonical s) : Canonical (s.mcDown d) := .reportIx (.bump h)
theorem Canonical.mcSkip {d} (h : Canonical s) : Canonical (s.mcSkip d) := .reportIx (.bump h)
theorem Canonical.dropResv {k} (h : Canonical s) : Canonical (s.dropResv k) := .creditCheck (.setResv h)

theorem OptCanonical.promoteMulticast {k m g} (h : Canonical s) : OptCanonical (s.promoteMulticast k m g) := by
  unfold State.promoteMulticast
  extract_lets _ _ _ _ _ _ _ _ s1
  have hs1 : Canonical s1 := .forEach (.forEach (.dropResv h) fun _ _ hx => .promote hx) fun _ _ hx => .mcDown hx
  exact .ite (.some (.forEach (.forEach (.dropResv h) fun _ _ hx => .promote hx) fun _ _ hx => .mcDown hx)) (.ite
    (.ite .none (.some (.forEach hs1 fun _ _ hx => .mcSkip hx))) (.ite (.some (.forEach (.forEach (.dropResv h) fun _
    _ hx => .promote hx) fun _ _ hx => .mcDown hx)) .none))

theorem OutcomeCanonical.execMessagePromotion {src dest q} (h : Canonical s) :
    OutcomeCanonical (execMessagePromotion src dest q s) := by
  unfold Machine.execMessagePromotion
  extract_lets _ s1
  have hs1 : Canonical s1 := .dropResv h
  refine .next ?_
  split
  · exact h
  · extract_lets s2
    have hs2 : Canonical s2 := .setShared hs1
    split
    · exact .getD (.promoteMulticast h) h
    · exact .ite h (.ite (.setQueue hs2) h)

theorem Canonical.dispatchIngot {k plane} (h : Canonical s) : Canonical (s.dispatchIngot k plane) := by
  unfold State.dispatchIngot
  split
  · exact h
  · exact .emit (.ite (.noteHead (.ite (.setResv (.modXbr (.modXbr h))) (.setQueue (.modXbr (.modXbr h))))) (.modXbr h))

theorem OutcomeCanonical.execIngotSlot (h : Canonical s) : OutcomeCanonical (execIngotSlot s) := by
  unfold Machine.execIngotSlot
  refine .next (.forEach h fun _ _ hx => .forEach hx fun _ _ hy => ?_)
  split
  · exact .dispatchIngot hy
  · exact hy

theorem Canonical.cutMissed {k} (h : Canonical s) : Canonical (s.cutMissed k) := by
  unfold State.cutMissed
  extract_lets s1
  have hs1 : Canonical s1 := .modXbr h
  split
  · exact h
  · exact .report (.emits hs1)

theorem Canonical.resendIngot {g} (h : Canonical s) : Canonical (s.resendIngot g) := by
  unfold State.resendIngot
  extract_lets _ s1
  have hs1 : Canonical s1 := .cutMissed h
  split
  · exact h
  · exact .emit (.bump (.modXbr hs1))

theorem Canonical.failPlane {p} (h : Canonical s) : Canonical (s.failPlane p) :=
  .ite h (.forEach (.ite (.report (.modXbr (.set h))) (.report (.modXbr (.set h)))) fun _ _ hx => .resendIngot hx)

theorem OutcomeCanonical.execIngotAckTimeout {src dest q seq} (h : Canonical s) :
    OutcomeCanonical (execIngotAckTimeout src dest q seq s) := by
  unfold Machine.execIngotAckTimeout
  extract_lets
  refine .next ?_
  split
  · exact h
  · exact .ite (.resendIngot h) (.emit (.modXbr (.resendIngot h)))

theorem OutcomeCanonical.execPlaneProbeTimeout {plane} (h : Canonical s) : OutcomeCanonical (execPlaneProbeTimeout plane s) :=
  .next (.ite (.failPlane h) h)

theorem OutcomeCanonical.execSpareSelfTest {pass} (h : Canonical s) : OutcomeCanonical (execSpareSelfTest pass s) := by
  unfold Machine.execSpareSelfTest
  refine .next ?_
  split
  · exact .ite h (.failPlane h)
  · exact h

theorem Canonical.ackIngot {g} (h : Canonical s) : Canonical (s.ackIngot g) :=
  .creditCheck (.ite (.modXbr h) (.ite (.modXbr (.modXbr h)) (.setShared (.modXbr h))))
theorem Canonical.pushEgress {m} (h : Canonical s) : Canonical (s.pushEgress m) := .modXbr h
theorem Canonical.modFlowMsg {k j f} (h : Canonical s) : Canonical (s.modFlowMsg k j f) :=
  .ite (.modXbr h) (.ite (.setQueue h) (.setResv h))

theorem Canonical.discardMsg {k j} (h : Canonical s) : Canonical (s.discardMsg k j) := by
  unfold State.discardMsg
  extract_lets
  refine .ite (.modFlowMsg h) ?_
  split
  · exact h
  · extract_lets s1
    have hs1 : Canonical s1 := .ite (.setQueue (.setShared h)) (.creditCheck (.setResv h))
    exact .ite (.postedDone hs1) hs1

theorem Canonical.beginCut {k} (h : Canonical s) : Canonical (s.beginCut k) := by
  unfold State.beginCut
  split
  · exact h
  · exact .ite h (.ite (.pushEgress h) (.postedDone (.bump h)))

theorem Canonical.endCut {k m} (h : Canonical s) : Canonical (s.endCut k m) := by
  unfold State.endCut
  extract_lets s1
  have hs1 : Canonical s1 := .modXbr h
  split
  · exact .ite (.ite hs1 (.emits hs1)) (.ite (.emit (.bump hs1)) hs1)
  · exact .ite h (.ite (.postedDone (.modXbr h)) (.modXbr h))

theorem Canonical.releaseMsg {k} (h : Canonical s) : Canonical (s.releaseMsg k) := by
  unfold State.releaseMsg
  split
  · exact h
  · extract_lets s1
    have hs1 : Canonical s1 := .modXbr h
    exact .ite (.endCut hs1) (.ite (.postedDone hs1) (.ite (.pushEgress hs1) (.postedDone (.bump hs1))))

theorem Canonical.releaseIngots {k fuel} (h : Canonical s) : Canonical (s.releaseIngots k fuel) := by
  induction fuel generalizing s with
  | zero => exact h
  | succ fuel ih =>
    unfold State.releaseIngots
    dsimp only
    split
    · exact h
    · refine ih ?_
      exact .ite (.releaseMsg (.ite (.beginCut (.modXbr h)) (.modXbr h))) (.ite (.beginCut (.modXbr h)) (.modXbr h))

theorem Canonical.markPayload {k j} (h : Canonical s) : Canonical (s.markPayload k j) := .modFlowMsg h
theorem Canonical.ingotError {k h} (hs : Canonical s) :
    Canonical (s.ingotError k h) := .report (.ite (.markPayload hs) (.discardMsg hs))

theorem Canonical.badHeader {k plane seq} (h : Canonical s) : Canonical (s.badHeader k plane seq) := by
  unfold State.badHeader
  extract_lets _ s1 s2 s3
  have hs1 : Canonical s1 := .report (.bump h)
  have hs2 : Canonical s2 := .modXbr hs1
  have hs3 : Canonical s3 := by
    unfold s3
    split
    · exact .resendIngot hs2
    · exact hs2
  exact .ite (.failPlane hs3) hs3

theorem OutcomeCanonical.execIngotReceive {dest plane g payload} (h : Canonical s) :
    OutcomeCanonical (execIngotReceive dest plane g payload s) := by
  unfold Machine.execIngotReceive
  extract_lets _ _ s1 s2
  have hs1 : Canonical s1 := .update h
  have hs2 : Canonical s2 := .modXbr h
  refine .next (.ite h (.ite (.asInjected hs1 fun _ hx => .badHeader hx) (.ite (.badHeader h) (.ite (.emit (.bump
    hs2)) ?_))))
  split
  · exact hs2
  · exact .releaseIngots (.emit (.ackIngot (.modXbr (.ite hs2 (.ingotError hs2)))))

theorem Canonical.cutTail {k} (h : Canonical s) : Canonical (s.cutTail k) := by
  unfold State.cutTail
  split
  · exact h
  · exact .ite h (.report (.emit (.bump (.noteHead (.ite (.setResv (.modXbr h)) (.setShared (.setQueue (.modXbr h))))))))

theorem Canonical.cutTails {p} (h : Canonical s) : Canonical (s.cutTails p) := .forEach h fun _ _ hx => .cutTail hx

theorem OutcomeCanonical.execHeadroomGrant {i} (h : Canonical s) : OutcomeCanonical (execHeadroomGrant i s) := by
  unfold Machine.execHeadroomGrant
  extract_lets gone
  have hgone : Canonical gone := .modXbr h
  refine .next ?_
  split
  · exact h
  · exact .ite (.forEach hgone fun _ _ hx => .promote hx) (.ite (.forEach hgone fun _ _ hx => .promote hx) h)

theorem Canonical.xbrReset (h : Canonical s) : Canonical (s.xbrReset) := .update (.set h)
theorem RunCanonical.specXbrInfo : RunCanonical specXbrInfo := fun _ _ _ h => .done h
theorem RunCanonical.specXbrMcPolicySet : RunCanonical specXbrMcPolicySet := fun _ _ _ h => .waits (.moduleCommit h)

theorem RunCanonical.specXbrPlaneRetire : RunCanonical specXbrPlaneRetire := by
  intro _ _ s h
  unfold Machine.specXbrPlaneRetire
  dsimp -zeta only
  extract_lets s1
  have hs1 : Canonical s1 := .set h
  split
  · exact .waits (.moduleCommit hs1)
  · exact .fail

theorem RunCanonical.specXbrStats : RunCanonical specXbrStats := fun _ _ _ h => .done h

/-! ## `Machine/VaultBase` -/

theorem Canonical.modVlt {f} (h : Canonical s) : Canonical (s.modVlt f) := .update h
theorem Canonical.showReserve (h : Canonical s) : Canonical (s.showReserve) := .set (.set h)

/-! ## `Machine/Sched` -/

theorem Canonical.modSch {f} (h : Canonical s) : Canonical (s.modSch f) := .update h
theorem Canonical.setDeficit {e q v} (h : Canonical s) : Canonical (s.setDeficit e q v) := .modSch h

theorem FstCanonical.dwrr {e fuel c} (h : Canonical s) : FstCanonical (s.dwrr e fuel c) := by
  induction fuel generalizing s c with
  | zero => exact .mk h
  | succ fuel ih =>
    have hs : Canonical (if (s.egressOf e c).isEmpty then s.setDeficit e c 0 else s) := .ite (.setDeficit h) h
    exact .ite (.mk (.modSch h)) (ih (.ite (.setDeficit hs) hs))

theorem FstCanonical.chooseQueue {e} (h : Canonical s) : FstCanonical (s.chooseQueue e) :=
  .ite (.mk h) (.ite (.mk h) (.ite (.dwrr h) (.ite (.mk h) (.ite (.mk h) (.mk h)))))

theorem Canonical.transmit {e q m} (h : Canonical s) : Canonical (s.transmit e q m) := by
  unfold State.transmit
  extract_lets _ _ _ _ s1 s2 s3 _ s4 s5
  have hs1 : Canonical s1 := .ite (.wake h) h
  have hs2 : Canonical s2 := .modXbr hs1
  have hs3 : Canonical s3 := .postedDone hs2
  have hs4 : Canonical s4 := .modSch hs3
  have hs5 : Canonical s5 := .ite (.setDeficit hs4) hs4
  exact .emit hs5

theorem OutcomeCanonical.execEgressSelect {e} (h : Canonical s) : OutcomeCanonical (execEgressSelect e s) := by
  unfold Machine.execEgressSelect
  extract_lets x
  have hx : FstCanonical x := .chooseQueue h
  refine .next ?_
  split
  · exact .fst hx
  · split
    · exact .transmit (.fst hx)
    · exact .fst hx

theorem OutcomeCanonical.execTokenRefill (h : Canonical s) : OutcomeCanonical (execTokenRefill s) := .next (.modSch h)
theorem Canonical.fillBuckets {e} (h : Canonical s) : Canonical (s.fillBuckets e) := .modSch h
theorem Canonical.schLinkDown {e} (h : Canonical s) : Canonical (s.schLinkDown e) := .modSch h
theorem Canonical.sampleQueue {k} (h : Canonical s) : Canonical (s.sampleQueue k) := .modSch h
theorem Canonical.alertQueue {k} (h : Canonical s) : Canonical (s.alertQueue k) :=
  .ite h (.ite (.modSch h) (.ite (.modSch h) (.report (.modSch (.modSch h)))))
theorem OutcomeCanonical.execTelemetrySample (h : Canonical s) : OutcomeCanonical (execTelemetrySample s) :=
  .next (.ite h (.forEach (.modSch h) fun _ _ hx => .alertQueue (.sampleQueue hx)))

theorem OutcomeCanonical.execTelemetryExportInterval {vaultOk} (h : Canonical s) :
    OutcomeCanonical (execTelemetryExportInterval vaultOk s) :=
  .next (.ite h (.ite (.update (.ite (.setFlag (.set h)) (.set h))) (.update (.setFlag h))))

theorem Canonical.schReset {warm} (h : Canonical s) : Canonical (s.schReset warm) := .update h
theorem RunCanonical.specSchInfo : RunCanonical specSchInfo := fun _ _ _ h => .done h

theorem RunCanonical.specSchTelemRead : RunCanonical specSchTelemRead := by
  intro _ _ s h
  unfold Machine.specSchTelemRead
  dsimp -zeta only
  split
  · exact .fail
  · exact .ite (.failed (.report h)) (.done h)

theorem RunCanonical.specSchTelemExport : RunCanonical specSchTelemExport := by
  intro _ _ s h
  unfold Machine.specSchTelemExport
  dsimp -zeta only
  split
  · exact .fail
  · extract_lets _ bad
    clear_value bad
    split
    · exact .finished (.report h)
    · exact .finished (.forEach h fun _ _ hx => .emit hx)

theorem RunCanonical.specSchTelemClear : RunCanonical specSchTelemClear := fun _ _ _ h => .done (.modSch h)
theorem RunCanonical.specSchHoldRead : RunCanonical specSchHoldRead := fun _ _ _ h => .done h

/-! ## `Machine/LinkBase` -/

theorem Canonical.train {p} (h : Canonical s) : Canonical (s.train p) := .ite (.emit (.modPort (.set h))) h
theorem Canonical.unpark {p} (h : Canonical s) : Canonical (s.unpark p) := .train (.set (.setFlag h))
theorem Canonical.modLane {n f} (h : Canonical s) : Canonical (s.modLane n f) := .update h

theorem Canonical.lanesDown {p} (h : Canonical s) : Canonical (s.lanesDown p) := by
  unfold State.lanesDown
  extract_lets s1 s2 s3
  have hs1 : Canonical s1 := .forEach h fun _ _ hx => .modLane (.set (.set (.set (.setFlag (.setFlag (.setFlag hx))))))
  have hs2 : Canonical s2 := .set hs1
  have hs3 : Canonical s3 := .set (.set (.set hs2))
  exact .setFlag (.setFlag (.setFlag hs3))

theorem Canonical.endMargin {p status} (h : Canonical s) : Canonical (s.endMargin p status) := by
  unfold State.endMargin
  extract_lets s1
  have hs1 : Canonical s1 := .modPort h
  split
  · exact h
  · exact .endBg (.update hs1)

theorem Canonical.endTest {p} (h : Canonical s) : Canonical (s.endTest p) :=
  .ite (.modPort (.set (.forEach h fun _ _ hx => .modLane hx))) h
theorem Canonical.dropEgress {p} (h : Canonical s) : Canonical (s.dropEgress p) :=
  .forEach (.modXbr h) fun _ _ hx => .ite hx (.forEach (.bump (.modXbr hx)) fun _ _ hy => .postedDone hy)
theorem Canonical.dropHeld {u} (h : Canonical s) : Canonical (s.dropHeld u) := .modPol (.setHold h) fun _ hp => hp
theorem Canonical.dropSessions {u} (h : Canonical s) : Canonical (s.dropSessions u) := .update h

theorem Canonical.portReset {u} (h : Canonical s) : Canonical (s.portReset u) := by
  unfold State.portReset
  extract_lets s1 _ s2 s3 s4 s5
  have hs1 : Canonical s1 := .cfgReset h
  have hs2 : Canonical s2 := .update hs1
  have hs3 : Canonical s3 := .transportReset (.dropSessions (.dropHeld hs2))
  have hs4 : Canonical s4 := .moverPortReset (.loseParty hs3)
  have hs5 : Canonical s5 := .modPort hs4
  exact .moduleCommit hs5

theorem Canonical.poolDown {n} (h : Canonical s) : Canonical (s.poolDown n) := by
  unfold State.poolDown
  extract_lets _ s1 s2
  have hs1 : Canonical s1 := .setPoolDev (.setFlag h)
  have hs2 : Canonical s2 := .forEach hs1 fun _ _ hx => .fence hx
  exact .forEach hs2 fun _ _ hx => .ite (.destFailed hx) (.ite (.sourceFailed hx) hx)

theorem Canonical.completeOut {p k st} (h : Canonical s) : Canonical (s.completeOut p k st) := .emits (.modPort h)
theorem Canonical.showDisabled {p} (h : Canonical s) : Canonical (s.showDisabled p) := .ite h (.set h)

theorem Canonical.acrakAsk {p} (h : Canonical s) : Canonical (s.acrakAsk p) := by
  unfold State.acrakAsk
  split
  · exact h
  · exact .emit (.setIoSlot h)

theorem Canonical.ideKeyed {p} (h : Canonical s) :
    Canonical (s.ideKeyed p) := .modPort (.unhold (.set (.update (.drawn (.drawn h)))))

theorem Canonical.ideOutcome {p r} (h : Canonical s) : Canonical (s.ideOutcome p r) := by
  unfold State.ideOutcome
  extract_lets _ s1
  have hs1 : Canonical s1 := .emit h
  split
  · exact .unhold (.set h)
  · exact .ideKeyed (.emit h)
  · exact .unhold (.set (.report (.emit h)))
  · exact .ite (.ideKeyed hs1) (.report (.withhold (.set hs1)))

theorem Canonical.linkOff {p} (h : Canonical s) : Canonical (s.linkOff p) :=
  .cutTails (.dropEgress (.schLinkDown (.set (.modPort (.lanesDown (.endMargin (.recordEvent h)))))))
theorem Canonical.slotEvent {k bit} (h : Canonical s) : Canonical (s.slotEvent k bit) := .emit (.update h)

theorem Canonical.commitUnbind {u v id} (h : Canonical s) : Canonical (s.commitUnbind u v id) := by
  unfold State.commitUnbind
  split
  · exact h
  · exact .moduleCommit (.journal (.modPort (.update (.completeOut h))))

theorem Canonical.unbindOnDown {p} (h : Canonical s) : Canonical (s.unbindOnDown p) :=
  .forEach h fun _ _ hx => .commitUnbind (.modPol hx fun _ hp => hp)

theorem Canonical.linkDown {p} (h : Canonical s) : Canonical (s.linkDown p) := by
  unfold State.linkDown
  extract_lets s1 s2 s3
  have hs1 : Canonical s1 := .linkOff h
  have hs2 : Canonical s2 :=
    .ite (.portReset hs1) (.ite (.poolDown hs1) (.forEach hs1 fun _ _ hx => .ite (.report (.modPort (.update
      (.completeOut hx)))) hx))
  have hs3 : Canonical s3 := .unbindOnDown hs2
  exact .ite h (.train (.showDisabled hs3))

theorem Canonical.linkCut {p} (h : Canonical s) : Canonical (s.linkCut p) :=
  .ite h (.unbindOnDown (.ite (.portReset (.linkOff h)) (.ite (.poolDown (.linkOff h)) (.linkOff h))))
theorem Canonical.disable {p why} (h : Canonical s) :
    Canonical (s.disable p why) := .showDisabled (.endTest (.linkCut (.modPort h)))
theorem Canonical.enable {p why} (h : Canonical s) : Canonical (s.enable p why) :=
  .ite (.ite (.unpark (.set (.modPort h))) (.modPort h)) h
theorem Canonical.retrainDown {p} (h : Canonical s) : Canonical (s.retrainDown p) := .unpark (.endTest (.linkCut h))

/-! ## `Machine/Lanes` -/

theorem Canonical.useLanes {p w rev} (h : Canonical s) : Canonical (s.useLanes p w rev) :=
  .setFlag (.set (.forEach h fun _ _ hx => .setFlag (.setFlag (.set hx))))

theorem Canonical.linkUp {p l} (h : Canonical s) : Canonical (s.linkUp p l) := by
  unfold State.linkUp
  extract_lets s1 _ _ s2 s3 s4 s5 s6 _ s7 s8 s9 s10
  have hs1 : Canonical s1 := .recordEvent h
  have hs2 : Canonical s2 := .useLanes hs1
  have hs3 : Canonical s3 := .forEach hs2 fun _ _ hx => .modLane (.set (.setFlag hx))
  have hs4 : Canonical s4 := .set (.set (.set hs3))
  have hs5 : Canonical s5 := .setFlag (.setFlag hs4)
  have hs6 : Canonical s6 := .set (.setFlag hs5)
  have hs7 : Canonical s7 := .update hs6
  have hs8 : Canonical s8 := .modPort hs7
  have hs9 : Canonical s9 := .fillBuckets hs8
  have hs10 : Canonical s10 := .ideOutcome hs9
  exact .ite (.ite (.commitRoutes hs9) hs9) (.ite (.acrakAsk hs10) hs10)

theorem OutcomeCanonical.execLinkUp {p l} (h : Canonical s) : OutcomeCanonical (execLinkUp p l s) := .next (.ite (.linkUp h) h)
theorem OutcomeCanonical.execLinkDown {p} (h : Canonical s) : OutcomeCanonical (execLinkDown p s) := .next (.linkDown h)

theorem OutcomeCanonical.execFomUpdate {n fom} (h : Canonical s) : OutcomeCanonical (execFomUpdate n fom s) := by
  unfold Machine.execFomUpdate
  extract_lets
  refine .next ?_
  split
  · split
    · exact h
    · exact .ite (.modLane (.set (.set h))) h
  · exact .ite (.set (.set h)) h

theorem OutcomeCanonical.execFomAlert {n} (h : Canonical s) : OutcomeCanonical (execFomAlert n s) := by
  unfold Machine.execFomAlert
  refine .next ?_
  split
  · exact h
  · exact .ite (.report (.modLane h)) h

theorem OutcomeCanonical.execEqualisation {p r} (h : Canonical s) : OutcomeCanonical (execEqualisation p r s) := by
  unfold Machine.execEqualisation
  extract_lets _ _ _ s1 _ s2
  have hs1 : Canonical s1 := .ite (.bump h) h
  have hs2 : Canonical s2 := .emits hs1
  refine .next (.ite h ?_)
  split
  · exact hs1
  · extract_lets _ s3 s4
    have hs3 : Canonical s3 := .emit hs2
    have hs4 : Canonical s4 := .forEach hs3 fun _ _ hx => .modLane (.set hx)
    exact .ite (.report hs4) hs4

theorem Canonical.retireLane {p n i} (h : Canonical s) : Canonical (s.retireLane p n i) := .set (.setFlag (.setFlag (.setFlag h)))
theorem Canonical.l0pTo {p w} (h : Canonical s) : Canonical (s.l0pTo p w) := .set (.bump (.useLanes h))

theorem OutcomeCanonical.execLaneLoss {n} (h : Canonical s) : OutcomeCanonical (execLaneLoss n s) := by
  unfold Machine.execLaneLoss
  refine .next ?_
  split
  · exact h
  · extract_lets _ _ s1 s2 _ _ _ s3 _ s4 s5
    have hs1 : Canonical s1 := .ite (.endMargin h) h
    have hs2 : Canonical s2 := .retireLane hs1
    have hs3 : Canonical s3 := .report hs2
    have hs4 : Canonical s4 := .update hs3
    have hs5 : Canonical s5 := .retireLane h
    exact .ite (.ite (.linkDown hs3) (.ite (.l0pTo hs3) (.set (.useLanes (.bump hs4))))) (.ite (.report hs5) h)

theorem OutcomeCanonical.execPartnerL0pRequest {p width} (h : Canonical s) : OutcomeCanonical (execPartnerL0pRequest p width s) :=
  .next (.ite h (.ite (.ite (.emit h) (.l0pTo (.emit h))) (.emit h)))
theorem OutcomeCanonical.execTrainingAttemptFail {p} (h : Canonical s) : OutcomeCanonical (execTrainingAttemptFail p s) :=
  .next (.ite h (.ite (.set (.modPort h)) (.ite (.reportIx (.modPort (.set (.setFlag (.set h))))) (.set h))))
theorem OutcomeCanonical.execParkedDetect {p receiver} (h : Canonical s) : OutcomeCanonical (execParkedDetect p receiver s) :=
  .next (.ite (.emit (.modPort (.set h))) h)

theorem OutcomeCanonical.execHostMarginCommand {n active} (h : Canonical s) :
    OutcomeCanonical (execHostMarginCommand n active s) := by
  unfold Machine.execHostMarginCommand
  refine .next ?_
  split
  · exact h
  · exact .ite (.modPort (.endMargin h)) h

theorem OutcomeCanonical.execBayPllLockLoss {b} (h : Canonical s) : OutcomeCanonical (execBayPllLockLoss b s) :=
  .next (.ite (.forEach (.reportIx (.setFlag h)) fun _ _ hx => .linkDown hx) h)
theorem OutcomeCanonical.execBayPllRelock {b locked} (h : Canonical s) : OutcomeCanonical (execBayPllRelock b locked s) :=
  .next (.ite (.forEach (.setFlag h) fun _ _ hx => .train hx) h)

theorem OutcomeCanonical.execPrbsLock {n} (h : Canonical s) : OutcomeCanonical (execPrbsLock n s) := by
  unfold Machine.execPrbsLock
  refine .next ?_
  split
  · exact h
  · split
    · exact .ite (.modLane h) h
    · exact h

theorem RunCanonical.specLaneInfo : RunCanonical specLaneInfo := fun _ _ _ h => .done (.update h)
theorem Canonical.freshDsp {p} (h : Canonical s) : Canonical (s.freshDsp p) := .ite (.ite h (.setJ h)) (.setJ (.ite h (.setJ h)))

theorem RunCanonical.specBayWidthSet : RunCanonical specBayWidthSet := by
  intro _ _ s h
  unfold Machine.specBayWidthSet
  dsimp -zeta only
  extract_lets _ s1 s2 s3
  have hs1 : Canonical s1 := .forEach h fun _ _ hx => .endTest (.linkCut hx)
  have hs2 : Canonical s2 := .set (.journal hs1)
  have hs3 : Canonical s3 := .forEach hs2 fun _ _ hx => .modPort (.freshDsp hx)
  exact .ite .fail (.done (.forEach hs3 fun _ _ hx => .unpark hx))

theorem Canonical.retrain {p} (h : Canonical s) : Canonical (s.retrain p) := .ite (.emit (.bump h)) (.unpark h)

theorem RunCanonical.specLinkCtl : RunCanonical specLinkCtl := by
  intro _ _ s h
  unfold Machine.specLinkCtl
  dsimp -zeta only
  extract_lets _ _ s1
  have hs1 : Canonical s1 := .ite (.modPort h) h
  refine .done ?_
  split
  · exact .retrain h
  · exact .emit (.retrain h)
  · exact .ite (.modPort (.disable h)) (.disable h)
  · exact .ite (.enable hs1) (.unpark hs1)

theorem RunCanonical.specLaneMargin : RunCanonical specLaneMargin := fun _ _ _ h => .ite .fail (.started (.modPort (.update h)))
theorem RunCanonical.specLaneTest : RunCanonical specLaneTest :=
  fun _ _ _ h => .ite .fail (.ite (.done (.endTest h)) (.done (.set (.modPort (.forEach (.endTest h) fun _ _ hx => .modLane hx)))))

/-! ## `Machine/Ports` -/

theorem Canonical.setRole {p r} (h : Canonical s) : Canonical (s.setRole p r) :=
  .ite h (.unpark (.modPort (.setJ (.endTest (.linkCut h)))))

theorem RunCanonical.specPortRoleSet : RunCanonical specPortRoleSet := by
  intro _ _ s h
  unfold Machine.specPortRoleSet
  dsimp -zeta only
  split
  · exact .fail
  · exact .done (.setRole h)

theorem Canonical.setPersonality {p v} (h : Canonical s) : Canonical (s.setPersonality p v) :=
  .ite h (.unpark (.setJ (.endTest (.linkCut h))))

theorem RunCanonical.specDspPersonalitySet : RunCanonical specDspPersonalitySet := by
  intro _ _ s h
  unfold Machine.specDspPersonalitySet
  dsimp -zeta only
  split
  · exact .fail
  · exact .done (.setPersonality h)

theorem RunCanonical.specPortMgmtSet : RunCanonical specPortMgmtSet := fun _ _ _ h => .ite .fail (.done (.setJ (.setJ h)))
theorem RunCanonical.specPortInfo : RunCanonical specPortInfo := fun _ _ _ h => .done (.drawn h)
theorem RunCanonical.specPortStats : RunCanonical specPortStats := fun _ _ _ h => .done h
theorem RunCanonical.specMcGroupAllot : RunCanonical specMcGroupAllot :=
  fun _ _ _ h => .ite (.done h) (.ite .fail (.waits (.moduleCommit (.journal (.update h)))))
theorem Canonical.commitMembers {u} (h : Canonical s) : Canonical (s.commitMembers u) := .ite h (.moduleCommit h)

theorem OutcomeCanonical.execMulticastCapWrite {u fn enable receive} (h : Canonical s) :
    OutcomeCanonical (execMulticastCapWrite u fn enable receive s) :=
  .next (.ite (.commitMembers (.forEach (.ite h (.cfgStore h)) fun _ _ hx => .cfgStore hx)) h)

theorem OutcomeCanonical.execHdmDecoderCommit {u k d w} (h : Canonical s) : OutcomeCanonical (execHdmDecoderCommit u k d w s) :=
  .next (.ite h (.ite (.moduleCommit (.update h)) (.update h)))
theorem Canonical.logAer {p u fn e} (h : Canonical s) :
    Canonical (s.logAer p u fn e) := .report (.ite (.emit (.update h)) (.update h))

theorem OutcomeCanonical.execAerError {p fn e} (h : Canonical s) : OutcomeCanonical (execAerError p fn e s) := by
  unfold Machine.execAerError
  refine .next ?_
  split
  · exact .ite (.logAer h) h
  · exact h

theorem Canonical.contain {k p mld} (h : Canonical s) : Canonical (s.contain k p mld) :=
  .report (.ite (.update (.completeOut h)) (.disable (.update (.completeOut h))))

theorem OutcomeCanonical.execDpcTrigger {u vppb} (h : Canonical s) : OutcomeCanonical (execDpcTrigger u vppb s) := by
  unfold Machine.execDpcTrigger
  extract_lets
  refine .next ?_
  split
  · exact .ite (.contain h) h
  · exact h

theorem Canonical.uncontain {k} (h : Canonical s) : Canonical (s.uncontain k) := by
  unfold State.uncontain
  extract_lets _ s1
  have hs1 : Canonical s1 := .update h
  refine .ite ?_ h
  split
  · exact .ite (.enable hs1) hs1
  · exact hs1

theorem OutcomeCanonical.execDpcStatusClear {u vppb} (h : Canonical s) : OutcomeCanonical (execDpcStatusClear u vppb s) :=
  .next (.uncontain h)
theorem OutcomeCanonical.execIdeIntegrityFailure {p} (h : Canonical s) : OutcomeCanonical (execIdeIntegrityFailure p s) :=
  .next (.ite (.report (.modPort (.set h))) h)

theorem OutcomeCanonical.execIdeRekeyTimer {p} (h : Canonical s) : OutcomeCanonical (execIdeRekeyTimer p s) := by
  unfold Machine.execIdeRekeyTimer
  refine .next ?_
  split
  · exact .ite (.emit (.drawn (.update h))) h
  · exact h

theorem OutcomeCanonical.execIdeRequiredRetry {p r} (h : Canonical s) : OutcomeCanonical (execIdeRequiredRetry p r s) :=
  .next (.ite (.ideOutcome h) h)
theorem RunCanonical.specIdeStatus : RunCanonical specIdeStatus := fun _ _ _ h => .done h
theorem Canonical.pmeDone {u} (h : Canonical s) : Canonical (s.pmeDone u) := .emit (.set (.modPort h))
theorem OutcomeCanonical.execPmeTurnOff {u} (h : Canonical s) : OutcomeCanonical (execPmeTurnOff u s) :=
  .next (.ite (.ite (.pmeDone (.emits h)) (.modPort (.emits h))) h)
theorem Canonical.pmeAcked {u p} (h : Canonical s) :
    Canonical (s.pmeAcked u p) := .ite (.ite (.pmeDone (.modPort h)) (.modPort h)) h
theorem OutcomeCanonical.execPmeAckTimeout {u} (h : Canonical s) :
    OutcomeCanonical (execPmeAckTimeout u s) := .next (.ite h (.pmeDone h))
theorem OutcomeCanonical.execAspmL1Idle {p} (h : Canonical s) : OutcomeCanonical (execAspmL1Idle p s) :=
  .next (.ite (.emit (.set (.modPort h))) h)
theorem OutcomeCanonical.execPortReset {u} (h : Canonical s) :
    OutcomeCanonical (execPortReset u s) := .next (.ite (.linkDown h) h)

theorem OutcomeCanonical.execPerstNEdge {p level} (h : Canonical s) : OutcomeCanonical (execPerstNEdge p level s) := by
  unfold Machine.execPerstNEdge
  extract_lets s1
  have hs1 : Canonical s1 := .modPort (.recordEvent h)
  exact .next (.ite (.ite (.unpark hs1) (.ite (.linkDown hs1) (.ite (.portReset hs1) hs1))) h)

theorem Canonical.ldReset {u k} (h : Canonical s) : Canonical (s.ldReset u k) := .moduleCommit (.update (.cfgResetFn h))

theorem Canonical.secondaryReset {u v} (h : Canonical s) : Canonical (s.secondaryReset u v) := by
  unfold State.secondaryReset
  refine .ite (.initiateFlr h) (.ite (.cfgResetFn h) (.ite (.ite (.ldReset h) h) ?_))
  split
  · exact h
  · split
    · exact .emit h
    · exact .train (.linkCut (.completeOut h))

theorem OutcomeCanonical.execSecondaryBusReset {u vppb} (h : Canonical s) : OutcomeCanonical (execSecondaryBusReset u vppb s) :=
  .next (.ite (.secondaryReset h) h)

theorem Canonical.linkEnable {u v} (h : Canonical s) : Canonical (s.linkEnable u v) := by
  unfold State.linkEnable
  split
  · exact .ite h (.ite (.enable h) (.ite (.unpark h) h))
  · exact h

theorem OutcomeCanonical.execLinkDisableClear {u vppb} (h : Canonical s) : OutcomeCanonical (execLinkDisableClear u vppb s) :=
  .next (.ite (.linkEnable h) h)

/-! ## `Machine/Binding` -/

theorem Canonical.ldCreate {ld} (h : Canonical s) : Canonical (s.ldCreate ld) := .emit (.journal (.modPol h fun _ hp => hp))
theorem Canonical.ldRemove {ld bg} (h : Canonical s) : Canonical (s.ldRemove ld bg) :=
  .startRelease (.bumpId (.modPol (.forEach h fun _ _ hx => .endBg? (.dropRelease hx)) fun _ hp => hp))
theorem Canonical.ldGone {ld} (h : Canonical s) :
    Canonical (s.ldGone ld) := .emit (.modPol (.update (.cfgResetFn h)) fun _ hp => hp)
theorem Canonical.commitBind {u v p ld id} (h : Canonical s) : Canonical (s.commitBind u v p ld id) :=
  .moduleCommit (.journal (.update h))

theorem Canonical.surprise {u v} (h : Canonical s) : Canonical (s.surprise u v) := by
  unfold State.surprise
  split
  · exact h
  · extract_lets _ s1 s2
    have hs1 : Canonical s1 := .slotEvent (.slotEvent (.completeOut h))
    have hs2 : Canonical s2 := .report hs1
    exact .ite (.contain hs2) hs2

theorem Canonical.modBindOp {u f} (h : Canonical s) : Canonical (s.modBindOp u f) := .modPol h fun _ hp => hp
theorem Canonical.popBindOp {u} (h : Canonical s) : Canonical (s.popBindOp u) := .modPol h fun _ hp => hp

theorem FstCanonical.beginBind {o} (h : Canonical s) : FstCanonical (s.beginBind o) := by
  unfold State.beginBind
  extract_lets
  split
  · exact .ite (.mk h) (.mk (.ldCreate h))
  · exact .ite (.mk h) (.mk (.ldRemove h))
  · exact .ite (.mk h) (.mk (.commitBind h))
  · split
    · exact .mk h
    · split
      · exact .ite (.mk (.modBindOp h)) (.mk (.commitUnbind h))
      · exact .mk (.slotEvent (.modBindOp h))
      · exact .mk (.commitUnbind (.surprise h))

theorem Canonical.pumpBind {fuel u} (h : Canonical s) : Canonical (State.pumpBind fuel u s) := by
  induction fuel generalizing s with
  | zero => exact h
  | succ fuel ih =>
    unfold State.pumpBind
    split
    · exact h
    · refine .ite h ?_
      split
      · exact ih (.endBg? (.popBindOp (.of_fst (.beginBind (.modBindOp h)) ‹_›)))
      · exact .of_fst (.beginBind (.modBindOp h)) ‹_›

theorem Canonical.nextBind {u} (h : Canonical s) : Canonical (s.nextBind u) := .pumpBind h
theorem Canonical.queueBind {u opcode bg params} (h : Canonical s) : Canonical (s.queueBind u opcode bg params) :=
  .nextBind (.modPol h fun _ hp => hp)

theorem Canonical.bindDone {id} (h : Canonical s) : Canonical (s.bindDone id) := by
  unfold State.bindDone
  split
  · exact h
  · exact .nextBind (.endBg? (.popBindOp (.ite (.slotEvent (.slotEvent h)) h)))

theorem Canonical.releaseDone {id} (h : Canonical s) : Canonical (s.releaseDone id) := by
  unfold State.releaseDone
  extract_lets s1
  have hs1 : Canonical s1 := .finishAbort h
  split
  · exact h
  · exact .ite (.nextBind (.popBindOp (.ldGone (.finishRelease hs1)))) (.finishRelease hs1)

theorem Canonical.managedOff {u v} (h : Canonical s) : Canonical (s.managedOff u v) := by
  unfold State.managedOff
  split
  · exact h
  · exact .commitUnbind (.modBindOp h)

theorem OutcomeCanonical.execManagedRemoveTimeout {u vppb} (h : Canonical s) :
    OutcomeCanonical (execManagedRemoveTimeout u vppb s) := by
  unfold Machine.execManagedRemoveTimeout
  refine .next ?_
  split
  · exact h
  · exact .nextBind (.endBg (.popBindOp (.timerInput h)))

theorem OutcomeCanonical.execSurpriseHotRemove {u vppb} (h : Canonical s) : OutcomeCanonical (execSurpriseHotRemove u vppb s) :=
  .next (.commitUnbind (.surprise h))
theorem RunCanonical.specLdCreate : RunCanonical specLdCreate :=
  fun _ _ _ h => .ite (.started (.queueBind h)) (.ite .fail (.done (.ldCreate h)))
theorem RunCanonical.specLdDestroy : RunCanonical specLdDestroy :=
  fun _ _ _ h => .ite (.started (.queueBind h)) (.ite .fail (.ite (.started (.queueBind h)) (.waits (.queueBind h))))

/-! ## `Machine/Resets` -/

theorem Canonical.mainReset {warm} (h : Canonical s) : Canonical (s.mainReset warm) :=
  ⟨SMap.wf_filter _ _ h.1, SMap.wf_nil⟩
theorem Canonical.startReset {kind trigger source warm} (h : Canonical s) : Canonical (s.startReset kind trigger source warm) :=
  .update (.forEach (.setFlag (.setFlag (.set (.set (.set (.set (.set h))))))) fun _ _ hx => .set hx)

/-! ## `Machine/Power` -/

theorem Canonical.modPfe {f} (h : Canonical s) : Canonical (s.modPfe f) := .update h
theorem Canonical.setFeed {f x} (h : Canonical s) : Canonical (s.setFeed f x) := .modPfe h
theorem Canonical.setFeedOk {f b} (h : Canonical s) : Canonical (s.setFeedOk f b) := .ite (.setFlag h) (.setFlag h)
theorem Canonical.closeFeed {f} (h : Canonical s) : Canonical (s.closeFeed f) := .modPfe h
theorem Canonical.openFeed (h : Canonical s) : Canonical (s.openFeed) := .modPfe h
theorem Canonical.feedLost {f} (h : Canonical s) : Canonical (s.feedLost f) := .ite (.ite (.modPfe h) (.openFeed h)) h
theorem Canonical.closeQualified (h : Canonical s) : Canonical (s.closeQualified) := .ite (.closeFeed h) (.ite (.closeFeed h) h)

theorem Canonical.mainOff (h : Canonical s) : Canonical (s.mainOff) := by
  unfold State.mainOff
  extract_lets s1 s2 s3 _ _ s4
  have hs1 : Canonical s1 := .forEach h fun _ _ hx => .set (.setFlag hx)
  have hs3 : Canonical s3 := .mainReset (.modPfe (.setFlag (.setFlag hs1)))
  have hs4 : Canonical s4 := .update hs3
  exact .update hs4

theorem Canonical.latchTrip {cause rail} (h : Canonical s) : Canonical (s.latchTrip cause rail) :=
  .modPfe (.setFlag (.set (.set (.set (.set h)))))
theorem Canonical.imminentLoss (h : Canonical s) : Canonical (s.imminentLoss) := .report (.mainOff (.modPfe h))
theorem Canonical.feedTrip {cause} (h : Canonical s) : Canonical (s.feedTrip cause) :=
  .report (.imminentLoss (.setFlag (.modPfe (.openFeed (.latchTrip (.modPfe h))))))
theorem OutcomeCanonical.execFeedRangeChange {f tenthV} (h : Canonical s) : OutcomeCanonical (execFeedRangeChange f tenthV s) :=
  .next (.ite (.feedLost (.report (.setFeedOk (.set (.setFeed h))))) (.set (.setFeed h)))
theorem OutcomeCanonical.execFeedQualified {f} (h : Canonical s) : OutcomeCanonical (execFeedQualified f s) :=
  .next (.ite (.ite (.closeFeed (.setFeedOk h)) (.setFeedOk h)) h)

theorem OutcomeCanonical.execSwitchover (h : Canonical s) : OutcomeCanonical (execSwitchover s) := by
  unfold Machine.execSwitchover
  extract_lets s1
  have hs1 : Canonical s1 := .modPfe (.openFeed h)
  refine .next ?_
  split
  · exact h
  · exact .ite (.closeFeed hs1) hs1

theorem OutcomeCanonical.execFeedReturn (h : Canonical s) : OutcomeCanonical (execFeedReturn s) :=
  .next (.ite (.closeFeed (.openFeed h)) h)
theorem OutcomeCanonical.execReverseCurrent {f} (h : Canonical s) : OutcomeCanonical (execReverseCurrent f s) :=
  .next (.ite (.feedLost (.report (.setFeedOk h))) h)
theorem OutcomeCanonical.execFeedCloseFail {f} (h : Canonical s) : OutcomeCanonical (execFeedCloseFail f s) :=
  .next (.ite (.ite (.closeFeed (.report (.openFeed (.set h)))) (.report (.openFeed (.set h)))) h)

theorem OutcomeCanonical.execInrushComplete (h : Canonical s) : OutcomeCanonical (execInrushComplete s) := by
  unfold Machine.execInrushComplete
  refine .next ?_
  split
  · exact h
  · exact .ite (.modPfe (.forEach (.setFlag (.set (.setFlag h))) fun _ _ hx => .setFlag (.set hx))) h

theorem OutcomeCanonical.execInrushTimeout (h : Canonical s) :
    OutcomeCanonical (execInrushTimeout s) := .next (.ite (.feedTrip h) h)
theorem OutcomeCanonical.execHoldupCharged {chargeUs} (h : Canonical s) : OutcomeCanonical (execHoldupCharged chargeUs s) :=
  .next (.ite (.endBg? (.modPfe (.set (.set (.setFlag h))))) h)

theorem OutcomeCanonical.execHoldupChargeCheck {charge5s} (h : Canonical s) :
    OutcomeCanonical (execHoldupChargeCheck charge5s s) :=
  .next (.ite (.report h) h)

theorem OutcomeCanonical.execRideThrough (h : Canonical s) :
    OutcomeCanonical (execRideThrough s) := .next (.ite (.report (.setFlag h)) h)
theorem OutcomeCanonical.execImminentLoss (h : Canonical s) : OutcomeCanonical (execImminentLoss s) :=
  .next (.ite (.imminentLoss (.latchTrip h)) h)

theorem OutcomeCanonical.execStandbyDomainOff (h : Canonical s) : OutcomeCanonical (execStandbyDomainOff s) := by
  unfold Machine.execStandbyDomainOff
  extract_lets s1 s2 s3 s4
  have hs1 : Canonical s1 := .forEach h fun _ _ hx => .setFlag (.set hx)
  have hs2 : Canonical s2 := .setFlag (.setFlag hs1)
  have hs3 : Canonical s3 := .modPfe hs2
  have hs4 : Canonical s4 := .set hs3
  exact .next (.ite (.closeQualified (.update hs4)) h)

theorem OutcomeCanonical.execSupervisorPowerLoss (h : Canonical s) : OutcomeCanonical (execSupervisorPowerLoss s) :=
  .next (.ite (.modPfe ⟨SMap.wf_filter _ _ h.1, h.2⟩) h)

theorem OutcomeCanonical.execBreakerEvaluation {tenthA} (h : Canonical s) :
    OutcomeCanonical (execBreakerEvaluation tenthA s) := by
  unfold Machine.execBreakerEvaluation
  refine .next ?_
  split
  · exact h
  · exact .ite (.feedTrip (.modPfe (.setFlag (.set (.set (.setFlag h)))))) (.modPfe (.setFlag (.set (.set (.setFlag h)))))

theorem OutcomeCanonical.execTrip {cause} (h : Canonical s) : OutcomeCanonical (execTrip cause s) := .next (.ite (.feedTrip h) h)
theorem OutcomeCanonical.execFastTrip {tenthA} (h : Canonical s) : OutcomeCanonical (execFastTrip tenthA s) :=
  .next (.ite (.feedTrip h) h)
theorem OutcomeCanonical.execCoolDownEnd (h : Canonical s) : OutcomeCanonical (execCoolDownEnd s) :=
  .next (.ite (.modPfe (.setFeedOk (.setFeedOk h))) h)
theorem OutcomeCanonical.execRailFault {r} (h : Canonical s) : OutcomeCanonical (execRailFault r s) :=
  .next (.ite (.report (.mainOff (.setFlag (.latchTrip h)))) h)
theorem OutcomeCanonical.execPwrgdQualify (h : Canonical s) : OutcomeCanonical (execPwrgdQualify s) :=
  .next (.ite (.modPfe (.setFlag h)) h)
theorem RunCanonical.specPfeInfo : RunCanonical specPfeInfo := fun _ _ _ h => .done h

theorem RunCanonical.specPfeSwitch : RunCanonical specPfeSwitch := by
  intro _ _ s h
  unfold Machine.specPfeSwitch
  dsimp -zeta only
  split
  · exact .fail
  · exact .ite (.done (.modPfe h)) .fail

theorem RunCanonical.specPfeHoldupTest : RunCanonical specPfeHoldupTest :=
  fun _ _ _ h => .ite .fail (.started (.modPfe (.set (.setFlag h))))

/-! ## `Machine/Slots` -/

theorem Canonical.modChan {n f} (h : Canonical s) : Canonical (s.modChan n f) := .update h

theorem Canonical.chanEvent {n bit} (h : Canonical s) : Canonical (s.chanEvent n bit) := by
  unfold State.chanEvent
  split
  · exact .slotEvent h
  · exact h

theorem Canonical.chanReset {n} (h : Canonical s) : Canonical (s.chanReset n) := .modChan (.setFlag h)

theorem Canonical.chanOff {n} (h : Canonical s) : Canonical (s.chanOff n) := by
  unfold State.chanOff
  split
  · exact .managedOff (.slotEvent h)
  · exact h

theorem Canonical.chanOpen {n sink} (h : Canonical s) : Canonical (s.chanOpen n sink) :=
  .ite (.chanOff (.modChan (.setFlag (.setFlag (.setFlag h))))) (.modChan (.setFlag (.setFlag (.setFlag h))))
theorem Canonical.setPresence {n b} (h : Canonical s) : Canonical (s.setPresence n b) :=
  .ite (.unpark (.chanEvent (.recordEvent (.setFlag h)))) (.chanEvent (.recordEvent (.setFlag h)))
theorem Canonical.setRequest {n} (h : Canonical s) : Canonical (s.setRequest n) := .ite h (.setFlag h)
theorem Canonical.clearRequest {n} (h : Canonical s) : Canonical (s.clearRequest n) :=
  .ite (.modChan (.chanReset (.setFlag h))) (.setFlag h)
theorem Canonical.busLost {high} (h : Canonical s) : Canonical (s.busLost high) :=
  .report (.setFlag (.forEach h fun _ _ hx => .chanOpen (.chanReset hx)))

theorem OutcomeCanonical.execSlotBusRangeChange {tenthV qualified} (h : Canonical s) :
    OutcomeCanonical (execSlotBusRangeChange tenthV qualified s) := by
  unfold Machine.execSlotBusRangeChange
  extract_lets _ _ _ _ _ _ s1 s2
  have hs1 : Canonical s1 := .update h
  have hs2 : Canonical s2 := .set hs1
  exact .next (.ite h (.ite (.ite (.setFlag hs2) hs2) (.ite (.busLost hs2) hs2)))

theorem OutcomeCanonical.execSlPrsntNFall {n} (h : Canonical s) : OutcomeCanonical (execSlPrsntNFall n s) :=
  .next (.ite h (.ite (.modChan (.setFlag h)) (.setFlag h)))

theorem OutcomeCanonical.execPresenceDebounceEnd {n} (h : Canonical s) : OutcomeCanonical (execPresenceDebounceEnd n s) := by
  unfold Machine.execPresenceDebounceEnd
  extract_lets s1 s2
  have hs1 : Canonical s1 := .modChan h
  have hs2 : Canonical s2 := .ite hs1 (.setPresence hs1)
  exact .next (.ite (.ite (.setRequest hs2) hs2) h)

theorem Canonical.slotGone {n} (h : Canonical s) : Canonical (s.slotGone n) := by
  unfold State.slotGone
  extract_lets _ s1
  have hs1 : Canonical s1 := by
    unfold s1
    split
    · exact .surprise h
    · exact h
  exact .ite (.linkCut hs1) hs1

theorem OutcomeCanonical.execSlotRemoval {n} (h : Canonical s) : OutcomeCanonical (execSlotRemoval n s) := by
  unfold Machine.execSlotRemoval
  extract_lets s1 _ s2 s3
  have hs1 : Canonical s1 := .modChan (.setFlag h)
  have hs2 : Canonical s2 := .setFlag (.chanOpen (.chanReset hs1))
  have hs3 : Canonical s3 := .ite (.slotGone (.report hs2)) hs1
  exact .next (.ite h (.ite (.setPresence hs3) hs3))

theorem OutcomeCanonical.execAttentionButtonPress {n} (h : Canonical s) : OutcomeCanonical (execAttentionButtonPress n s) :=
  .next (.ite h (.ite (.chanEvent h) (.report (.setFlag h))))
theorem OutcomeCanonical.execChannelClose {n} (h : Canonical s) : OutcomeCanonical (execChannelClose n s) :=
  .next (.ite (.chanEvent (.modChan (.setFlag h))) h)
theorem OutcomeCanonical.execChannelCloseFail {n} (h : Canonical s) : OutcomeCanonical (execChannelCloseFail n s) :=
  .next (.ite (.report (.setFlag (.chanOpen (.chanReset h)))) h)

theorem Canonical.chanTrip {n cause} (h : Canonical s) : Canonical (s.chanTrip n cause) := by
  unfold State.chanTrip
  extract_lets _ s1 s2 s3 s4
  have hs1 : Canonical s1 := .modChan (.chanOpen (.chanReset h))
  have hs2 : Canonical s2 := .set (.set hs1)
  have hs3 : Canonical s3 := .setFlag (.setFlag hs2)
  have hs4 : Canonical s4 := .report (.chanEvent hs3)
  exact .ite (.report (.setFlag hs4)) hs4

theorem OutcomeCanonical.execChannelInrushTimeout {n} (h : Canonical s) : OutcomeCanonical (execChannelInrushTimeout n s) :=
  .next (.ite (.chanTrip h) h)
theorem OutcomeCanonical.execChannelTrip {n cause} (h : Canonical s) : OutcomeCanonical (execChannelTrip n cause s) :=
  .next (.ite (.chanTrip h) h)

theorem OutcomeCanonical.execChannelBreakerEvaluation {n tenthA} (h : Canonical s) :
    OutcomeCanonical (execChannelBreakerEvaluation n tenthA s) := by
  unfold Machine.execChannelBreakerEvaluation
  extract_lets _ _ _ _ s1 s2
  have hs1 : Canonical s1 := .set (.setFlag h)
  have hs2 : Canonical s2 := .setFlag (.set hs1)
  exact .next (.ite h (.ite (.chanTrip hs2) (.ite (.chanTrip hs2) hs2)))

theorem OutcomeCanonical.execSlPgoodQualify {n} (h : Canonical s) : OutcomeCanonical (execSlPgoodQualify n s) :=
  .next (.ite (.modChan (.setFlag h)) h)
theorem OutcomeCanonical.execSlPerstRelease {n} (h : Canonical s) : OutcomeCanonical (execSlPerstRelease n s) :=
  .next (.ite (.train (.modChan (.setFlag h))) h)
theorem OutcomeCanonical.execChannelOpenRequest {n} (h : Canonical s) : OutcomeCanonical (execChannelOpenRequest n s) :=
  .next (.ite (.clearRequest h) h)
theorem OutcomeCanonical.execChannelSwitchOpen {n} (h : Canonical s) : OutcomeCanonical (execChannelSwitchOpen n s) :=
  .next (.ite (.chanOpen h) h)
theorem OutcomeCanonical.execChannelCoolDownEnd {n} (h : Canonical s) : OutcomeCanonical (execChannelCoolDownEnd n s) :=
  .next (.ite (.modChan (.setFlag h)) h)
theorem Canonical.indicate {n pwr atn} (h : Canonical s) : Canonical (s.indicate n pwr atn) := .modChan h

theorem Canonical.slotControl {u v powerOff pwr atn} (h : Canonical s) : Canonical (s.slotControl u v powerOff pwr atn) := by
  unfold State.slotControl
  extract_lets _ _ s1
  have hs1 : Canonical s1 := .cfgStore (.cfgStore h)
  split
  · exact h
  · refine .ite h ?_
    split
    · exact .ite (.managedOff hs1) hs1
    · extract_lets s2 s3 s4
      have hs2 : Canonical s2 := .indicate hs1
      have hs3 : Canonical s3 := .clearRequest hs2
      have hs4 : Canonical s4 := .setRequest hs2
      exact .ite (.ite hs3 (.chanOff hs3)) (.ite hs4 (.chanEvent hs4))

theorem OutcomeCanonical.execSlotControlWrite {u vppb powerOff pwr atn} (h : Canonical s) :
    OutcomeCanonical (execSlotControlWrite u vppb powerOff pwr atn s) :=
  .next (.ite (.slotControl h) h)

theorem RunCanonical.specSlotInfo : RunCanonical specSlotInfo := fun _ _ _ h => .done (.update h)
theorem RunCanonical.specSlotPower : RunCanonical specSlotPower :=
  fun _ _ _ h => .ite (.done (.setFlag h)) (.ite .fail (.ite (.ite .fail (.done (.clearRequest h))) (.done (.setRequest h))))
theorem RunCanonical.specSlotBind : RunCanonical specSlotBind := fun _ _ _ h => .ite (.done h) (.ite .fail (.done (.setJ h)))
theorem RunCanonical.specSlotIndicator : RunCanonical specSlotIndicator :=
  fun _ _ _ h => .ite .fail (.done (.ite (.ite (.indicate h) (.set (.indicate h))) (.set (.ite (.indicate h) (.set (.indicate h))))))
theorem Canonical.slotsReady (h : Canonical s) : Canonical (s.slotsReady) := .forEach h fun _ _ hx => .modChan hx

/-! ## `Machine/Traffic` -/

theorem Canonical.fwd {src dest q len pb body ct} (h : Canonical s) : Canonical (s.fwd src dest q len pb body ct) := .enterMsg h
theorem Canonical.unroutable {p} (h : Canonical s) : Canonical (s.unroutable p) := .report h
theorem Canonical.memFail {p m} (h : Canonical s) : Canonical (s.memFail p m) := .emit h
theorem Canonical.memToDevice {u v b m} (h : Canonical s) : Canonical (s.memToDevice u v b m) :=
  .ite (.ite h (.memFail h)) (.ite (.memFail h) (.fwd (.ite h (.modPort h))))
theorem Canonical.memByPid {p spid dpid m} (h : Canonical s) : Canonical (s.memByPid p spid dpid m) :=
  .ite (.unroutable (.memFail h)) (.ite (.ite (.lookupPool h) (.refuse h)) (.fwd h))

theorem OutcomeCanonical.execCxlMemRequest {p m} (h : Canonical s) : OutcomeCanonical (execCxlMemRequest p m s) := by
  unfold Machine.execCxlMemRequest
  extract_lets s1
  have hs1 : Canonical s1 := .wake h
  refine .next (.ite h (.ite hs1 ?_))
  split
  · exact .ite (.memByPid hs1) hs1
  · refine .ite hs1 ?_
    split
    · exact .lookupPool hs1
    · split
      · exact .memToDevice hs1
      · exact .refuse hs1

theorem Canonical.barStore {u h data} (hs : Canonical s) : Canonical (s.barStore u h data) := by
  unfold State.barStore
  extract_lets
  split
  · exact .forEach hs fun _ _ hx => .barWrite hx
  · exact .adminWrite hs
  · exact .forEach hs fun _ _ hx => .mbxWrite hx
  · exact hs
  · exact hs

theorem Canonical.tlpUr {p t} (h : Canonical s) : Canonical (s.tlpUr p t) := .ite (.emit h) h
theorem Canonical.tlpTo {src d t} (h : Canonical s) : Canonical (s.tlpTo src d t) := .fwd (.ite (.bump h) h)
theorem Canonical.tlpToDevice {p u v b t} (h : Canonical s) : Canonical (s.tlpToDevice p u v b t) :=
  .ite (.ite (.emit h) h) (.ite (.tlpUr h) (.tlpTo (.ite (.modPort h) h)))
theorem Canonical.tlpMulticast {p g t} (h : Canonical s) : Canonical (s.tlpMulticast p g t) := .enterMsg h
theorem Canonical.tlpBar {p u h t} (hs : Canonical s) : Canonical (s.tlpBar p u h t) :=
  .ite (.tlpUr hs) (.ite (.drawn (.emit hs)) (.barStore hs))

theorem Canonical.tlpAtUsp {u t} (h : Canonical s) : Canonical (s.tlpAtUsp u t) := by
  unfold State.tlpAtUsp
  extract_lets
  split
  case h_1 | h_2 => exact .tlpUr h
  case h_3 | h_4 | h_5 =>
    refine .ite (.ite h (.report (.tlpUr h))) ?_
    split
    · exact .tlpMulticast h
    · split
      · exact .tlpBar h
      · split
        · exact .tlpToDevice h
        · exact .tlpUr h
  case h_6 | h_7 | h_8 | h_9 =>
    split
    · exact .tlpToDevice h
    · exact .tlpUr h
  case h_10 | h_11 => exact h

theorem Canonical.acsViolation {p k t} (h : Canonical s) : Canonical (s.acsViolation p k t) := .drawn (.logAer (.tlpUr h))

theorem Canonical.requestFromDevice {p k t} (h : Canonical s) : Canonical (s.requestFromDevice p k t) := by
  unfold State.requestFromDevice
  extract_lets
  refine .ite (.tlpUr h) (.ite (.acsViolation h) ?_)
  split
  · exact .tlpMulticast h
  · split
    · exact .ite (.ite (.tlpTo h) (.tlpUr h)) (.ite (.tlpTo h) (.tlpToDevice h))
    · split
      · exact .ite (.tlpTo h) (.tlpBar h)
      · exact .tlpTo h

theorem Canonical.completionFromDevice {p k t} (h : Canonical s) : Canonical (s.completionFromDevice p k t) := by
  unfold State.completionFromDevice
  extract_lets _ s1
  have hs1 : Canonical s1 := .modPort h
  split
  · exact .ite (.tlpTo hs1) (.tlpToDevice hs1)
  · exact .tlpTo hs1

theorem Canonical.tlpAtDsp {p t} (h : Canonical s) : Canonical (s.tlpAtDsp p t) := by
  unfold State.tlpAtDsp
  split
  · exact .tlpUr h
  · refine .ite (.tlpUr h) ?_
    split
    case h_1 | h_2 | h_3 => exact .requestFromDevice h
    case h_4 => exact .completionFromDevice h
    case h_5 => exact .ite (.tlpTo h) h
    case h_6 => exact .pmeAcked h
    case h_7 => exact .tlpTo h
    case h_8 | h_9 | h_10 | h_11 => exact .tlpUr h

theorem OutcomeCanonical.execCxlIoTlpReceive {p t} (h : Canonical s) : OutcomeCanonical (execCxlIoTlpReceive p t s) := by
  unfold Machine.execCxlIoTlpReceive
  extract_lets s1
  have hs1 : Canonical s1 := .wake h
  refine .next (.ite h ?_)
  split
  · exact .ite hs1 (.ite (.tlpTo hs1) (.ite (.tlpUr hs1) (.unroutable (.tlpUr hs1))))
  · exact .ite (.tlpAtUsp hs1) (.ite (.tlpUr hs1) (.tlpAtDsp hs1))

theorem OutcomeCanonical.execPoolRangeIoRequest {u write hpa tag} (h : Canonical s) :
    OutcomeCanonical (execPoolRangeIoRequest u write hpa tag s) :=
  .next (.ite (.report (.ite (.wake h) (.emit (.wake h)))) h)

theorem OutcomeCanonical.execAtomicopReceive {u a} (h : Canonical s) : OutcomeCanonical (execAtomicopReceive u a s) := by
  unfold Machine.execAtomicopReceive
  extract_lets s1
  have hs1 : Canonical s1 := .wake h
  refine .next (.ite h ?_)
  split
  · exact .ite (.lookupPool hs1) (.refuse hs1)
  · exact .tlpAtUsp hs1

theorem OutcomeCanonical.execPassThroughCxlMessage {p m} (h : Canonical s) :
    OutcomeCanonical (execPassThroughCxlMessage p m s) := by
  unfold Machine.execPassThroughCxlMessage
  extract_lets s1
  have hs1 : Canonical s1 := .wake h
  refine .next (.ite h (.ite ?_ (.ite hs1 ?_)))
  · split
    · exact hs1
    · split
      · exact .ite hs1 (.fwd hs1)
      · exact hs1
  · split
    · exact hs1
    · exact .ite hs1 (.fwd (.ite (.modPort hs1) hs1))

/-! ## `Machine/HostCfg` -/

theorem Canonical.cfgForward {u v kind off tag data} (h : Canonical s) : Canonical (s.cfgForward u v kind off tag data) := by
  unfold State.cfgForward
  split
  · exact .emit h
  · exact .tlpToDevice h

theorem OutcomeCanonical.execConfigRequest {u t offset tag} (h : Canonical s) :
    OutcomeCanonical (execConfigRequest u t offset tag s) := by
  unfold Machine.execConfigRequest
  extract_lets s1
  have hs1 : Canonical s1 := .wake h
  refine .next (.ite h (.ite (.emit hs1) (.ite (.emit hs1) ?_)))
  split
  · exact .cfgForward hs1
  · exact .emit hs1

theorem Canonical.cfgW1c {u t off v} (h : Canonical s) : Canonical (s.cfgW1c u t off v) := by
  unfold State.cfgW1c
  extract_lets
  split
  case h_1 | h_2 | h_4 => exact .update h
  case h_3 => exact .ite (.uncontain h) h
  case h_5 => exact h

theorem Canonical.cfgSlotControl {u t be v} (h : Canonical s) : Canonical (s.cfgSlotControl u t be v) := by
  unfold State.cfgSlotControl
  split
  · exact .ite (.slotControl h) h
  · exact h

theorem Canonical.cfgLinkControl {u t old new} (h : Canonical s) : Canonical (s.cfgLinkControl u t old new) := by
  unfold State.cfgLinkControl
  split
  · split
    · exact .ite h (.ite (.retrain (.ite (.disable h) (.ite (.linkEnable h) h))) (.ite (.disable h) (.ite (.linkEnable h) h)))
    · exact h
  · exact h

theorem Canonical.cfgBridge {u t old new} (h : Canonical s) : Canonical (s.cfgBridge u t old new) := by
  unfold State.cfgBridge
  refine .ite ?_ h
  split
  · exact .secondaryReset h
  · exact .forEach h fun _ _ hx => .secondaryReset hx
  · exact h

theorem Canonical.cfgFlr {u t} (h : Canonical s) : Canonical (s.cfgFlr u t) := by
  cases t with
  | hostPf => exact .initiateFlr h
  | vf i =>
    change Canonical (match s.vfGlobal u i.val with | some g => s.initiateFlr g | none => s)
    generalize s.vfGlobal u i.val = g
    cases g with
    | some g => exact .initiateFlr h
    | none => exact h
  | mgmtPf => exact .cfgResetFn h
  | ld k => exact .cfgResetFn h
  | usp => exact h
  | vppb v => exact h
  | bound v => exact h

theorem Canonical.cfgUnhold {u t} (h : Canonical s) : Canonical (s.cfgUnhold u t) := by
  unfold State.cfgUnhold
  split
  · exact h
  · extract_lets _ s1
    have hs1 : Canonical s1 := .modFn h
    exact .ite (.mbxFlush (.mbxFlush hs1)) (.ite (.flushVecs hs1) (.forEach hs1 fun _ _ hx => .flushVecs hx))

theorem Canonical.cfgSriov {u off be v} (h : Canonical s) : Canonical (s.cfgSriov u off be v) :=
  .ite (.nextOf h (.execVfEnableWrite h)) (.ite (.nextOf h (.execVfEnableWrite h)) h)

theorem Canonical.cfgEffect {u t off old new be v} (h : Canonical s) : Canonical (s.cfgEffect u t off old new be v) := by
  unfold State.cfgEffect
  split
  · exact .cfgLinkControl h
  · exact .cfgBridge h
  · exact .ite (.cfgFlr h) h
  · exact .cfgUnhold h
  · exact .cfgUnhold h
  · exact .ite (.cfgSriov h) h
  · exact .ite (.cfgSriov h) h
  · exact h

theorem Canonical.mcClear {u t} (h : Canonical s) : Canonical (s.mcClear u t) := by
  unfold State.mcClear
  refine .ite ?_ h
  split
  · exact .cfgStore h
  · exact .ite (.cfgStore h) h
  · exact h

theorem Canonical.hostStore {u w} (h : Canonical s) : Canonical (s.hostStore u w) := by
  unfold State.hostStore
  extract_lets _ _ _ _ _ s1 s2 s3
  have hs1 : Canonical s1 := .ite (.cfgSlotControl h) (.cfgWrite h)
  have hs2 : Canonical s2 := .mcClear (.cfgW1c hs1)
  have hs3 : Canonical s3 := .cfgEffect hs2
  exact .ite hs3 (.commitMembers hs3)

theorem Canonical.hostWrite {u w} (h : Canonical s) : Canonical (s.hostWrite u w) :=
  .ite (.emit (.hostStore h)) (.commitRoutes (.update (.hostStore h))) -- SLOW 2263

theorem OutcomeCanonical.execHostConfigWrite {u w} (h : Canonical s) : OutcomeCanonical (execHostConfigWrite u w s) := by
  unfold Machine.execHostConfigWrite
  extract_lets s1 s2
  have hs1 : Canonical s1 := .wake h
  have hs2 : Canonical s2 := .record hs1
  refine .next (.ite h (.ite (.emit hs1) (.ite (.emit hs1) ?_)))
  split
  · exact .cfgForward hs1
  · exact .hostWrite hs2

theorem Canonical.routeDone {u tag} (h : Canonical s) : Canonical (s.routeDone u tag) := .ite (.emit (.update h)) h

/-! ## `Machine/Commit` -/

theorem Canonical.runAfter {a} (h : Canonical s) : Canonical (s.runAfter a) := by
  unfold State.runAfter
  split
  · exact h
  · exact .finishGrant h
  · exact .releaseDone h
  · exact .postBatch h
  · exact .finishBatch h
  · exact .finishAbort h
  · exact .update h
  · exact .routeDone h
  · exact .ite h (.modPort h)
  · exact .bindDone h
  · exact .endBg h

theorem Canonical.commitDone {c} (h : Canonical s) : Canonical (s.commitDone c) := .runAfter (.answerWaits (.answerWaits h))
theorem Canonical.settlePend (h : Canonical s) : Canonical (s.settlePend) := .forEach (.update h) fun _ _ hx => .commitDone hx

theorem Canonical.releasePipe {pl} (h : Canonical s) : Canonical (s.releasePipe pl) := by
  unfold State.releasePipe
  split
  · exact .pump h
  · split
    · exact h
    · exact .ite h (.unhold h)

theorem Canonical.bankSwitch {pl} (h : Canonical s) : Canonical (s.bankSwitch pl) :=
  .settlePend (.ite (.releasePipe (.switchPipeline h)) (.switchPipeline h))
theorem OutcomeCanonical.execPipelineBankSwitch {pl} (h : Canonical s) : OutcomeCanonical (execPipelineBankSwitch pl s) :=
  .next (.ite (.bankSwitch h) h)

theorem Canonical.reportSwitch {pl} (h : Canonical s) : Canonical (s.reportSwitch pl) := by
  unfold State.reportSwitch
  split
  case h_1 | h_2 | h_4 => exact .report h
  case h_3 | h_5 => exact .reportIx h

theorem Canonical.switchFailed {pl} (h : Canonical s) : Canonical (s.switchFailed pl) := by
  unfold State.switchFailed
  extract_lets _ _ s1 s2 s3
  have hs1 : Canonical s1 := .update h
  have hs2 : Canonical s2 := by
    unfold s2
    split
    · exact .withhold hs1
    · exact hs1
  have hs3 : Canonical s3 := .reportSwitch hs2
  exact .answerWaits hs3

theorem OutcomeCanonical.execSwitchFailureTimeout {pl} (h : Canonical s) : OutcomeCanonical (execSwitchFailureTimeout pl s) :=
  .next (.ite h (.switchFailed h))
theorem Canonical.refill {tid} (h : Canonical s) :
    Canonical (s.refill tid) := .ite (.modPol h fun _ hp => hp) (.ite (.setTable h) h)
theorem OutcomeCanonical.execShadowRefill {tid} (h : Canonical s) : OutcomeCanonical (execShadowRefill tid s) :=
  .next (.ite (.refill (.settlePend h)) h)
theorem Canonical.takeWaits {id} (h : Canonical s) : Canonical (s.takeWaits id) := .update h

theorem OutcomeCanonical.execModuleCommit {id} (h : Canonical s) : OutcomeCanonical (execModuleCommit id s) := by
  unfold Machine.execModuleCommit
  refine .next ?_
  split
  · exact h
  · exact .ite (.settlePend (.takeWaits (.takeModule h))) h

theorem ResultCanonical.commit {tags} (h : Canonical s) : ResultCanonical (s.commit tags) := by
  unfold State.commit
  extract_lets s1
  have hs1 : Canonical s1 := .settlePend (.accept h)
  refine .ite .fail ?_
  split
  · exact .failed (.recordCommit h)
  · exact .ite (.waits hs1) (.done hs1)

theorem RunCanonical.specCommit : RunCanonical specCommit := fun _ _ _ h => .commit h
theorem RunCanonical.specEpochRead : RunCanonical specEpochRead := fun _ _ _ h => .ite .fail (.done h)
theorem RunCanonical.specTableRead : RunCanonical specTableRead := fun _ _ _ h => .ite .fail (.done h)
theorem RunCanonical.specTableWrite : RunCanonical specTableWrite := fun _ _ _ h => .ite .fail (.done (.writeShadow h))

/-! ## `Machine/Complete` -/

theorem Canonical.deliver {user isRead ok poison data} (h : Canonical s) : Canonical (s.deliver user isRead ok poison data) := by
  unfold State.deliver
  split
  · exact .homeDev h
  · exact .evictDev h
  · exact .chunkAnswer h
  · exact h
  · exact .twinSend h

theorem Canonical.putSlot {p kind k x} (h : Canonical s) : Canonical (s.putSlot p kind k x) := by
  unfold State.putSlot
  extract_lets s1
  have hs1 : Canonical s1 := .setMemSlot h
  split
  · exact .ite (.pumpDev hs1) hs1
  · exact .setIoSlot h

theorem Canonical.acrakFailed {p} (h : Canonical s) :
    Canonical (s.acrakFailed p) := .ite (.reportDsp (.setPoolDev (.setFlag h))) h
theorem Canonical.late {p c x} (h : Canonical s) : Canonical (execDeviceCompletion.late p c s x) :=
  .ite (.putSlot (.reportIx (.bump h))) (.reportIx (.bump h))

theorem OutcomeCanonical.execDeviceCompletion {p c} (h : Canonical s) : OutcomeCanonical (execDeviceCompletion p c s) := by
  unfold Machine.execDeviceCompletion
  extract_lets _ _ s1
  have hs1 : Canonical s1 := .putSlot h
  refine .next (.ite h (.ite (.update h) ?_))
  split
  · refine .ite ?_ (.late h)
    split
    · exact .ite hs1 (.acrakFailed hs1)
    · exact .ite (.deliver hs1) (.chunkAnswer hs1)
    · exact .deliver hs1
  · exact .late h

theorem Canonical.timedOut {p kind slot u x} (h : Canonical s) :
    Canonical (execModuleRequestTimeout.timedOut p kind slot u x s) := by
  unfold execModuleRequestTimeout.timedOut
  extract_lets s1 s2
  have hs1 : Canonical s1 := .putSlot h
  have hs2 : Canonical s2 := .reportIx (.bump hs1)
  split
  · exact .acrakFailed hs2
  · exact .deliver hs2

theorem OutcomeCanonical.execModuleRequestTimeout {p kind slot} (h : Canonical s) :
    OutcomeCanonical (execModuleRequestTimeout p kind slot s) := by
  unfold Machine.execModuleRequestTimeout
  extract_lets
  refine .next (.ite h ?_)
  split
  · exact h
  · exact .ite (.asInjected (.update h) fun _ hx => .timedOut hx) (.timedOut h)

theorem OutcomeCanonical.execQuarantineExpiry {p kind slot} (h : Canonical s) :
    OutcomeCanonical (execQuarantineExpiry p kind slot s) :=
  .next (.ite (.putSlot h) h)

/-! ## `Machine/HlmBase` -/

theorem Canonical.modHlm {f} (h : Canonical s) : Canonical (s.modHlm f) := .update h

theorem Canonical.journalLock (h : Canonical s) : Canonical (s.journalLock) := by
  unfold State.journalLock
  extract_lets _ _ s1
  have hs1 : Canonical s1 := .set (.setFlag (.update h))
  refine .forEach hs1 fun _ _ hx => ?_
  split
  · exact .setFlag hx
  · exact .modHlm hx
  · exact .modHlm hx
  · exact .set hx
  · exact hx

theorem Canonical.ledgerLow (h : Canonical s) : Canonical (s.ledgerLow) := .modHlm (.ite (.report (.setFlag h)) (.setFlag h))
theorem Canonical.eraseNext (h : Canonical s) : Canonical (s.eraseNext) := .modHlm h
theorem Canonical.makeRoom (h : Canonical s) : Canonical (s.makeRoom) := .ite (.report (.modHlm (.eraseNext h))) (.eraseNext h)
theorem Canonical.program {r} (h : Canonical s) : Canonical (s.program r) := .ledgerLow (.set (.modHlm h))

theorem Canonical.writeEntry {r} (h : Canonical s) : Canonical (s.writeEntry r) := by
  unfold State.writeEntry
  extract_lets s1 s2
  have hs1 : Canonical s1 := .makeRoom h
  have hs2 : Canonical s2 := by
    unfold s2
    split
    · exact hs1
    · exact .makeRoom (.modHlm (.program hs1))
  exact .program hs2

theorem Canonical.modSlot {i f} (h : Canonical s) : Canonical (s.modSlot i f) := .modHlm h
theorem Canonical.ledgeUpdate {event i} (h : Canonical s) : Canonical (s.ledgeUpdate event i) := .ledge h

/-! ## `Machine/Hallmark` -/

theorem Canonical.writeKey (h : Canonical s) : Canonical (s.writeKey) := .update (.writeEntry (.setFlag h))

theorem Canonical.bootSlot {i} (h : Canonical s) : Canonical (s.bootSlot i) := by
  unfold State.bootSlot
  extract_lets s1 _ _ s2 newest s3 _ _ s4 _ s5 s6 s7
  clear_value newest
  have hs1 : Canonical s1 := .modSlot h
  have hs2 : Canonical s2 := .setFlag (.set hs1)
  have hs3 : Canonical s3 := .set hs2
  have hs4 : Canonical s4 := .modHlm hs3
  have hs5 : Canonical s5 := .ite (.set hs4) hs4
  have hs6 : Canonical s6 := .ledgerLow hs5
  have hs7 : Canonical s7 := .report (.setFlag hs6)
  exact .ite (.update hs7) (.writeKey hs6)

theorem OutcomeCanonical.execBootRomStart {slotOkA slotOkB badRec} (h : Canonical s) :
    OutcomeCanonical (execBootRomStart slotOkA slotOkB badRec s) := by
  unfold Machine.execBootRomStart
  extract_lets _ s1 s2 s3 _ _ s4 s5 _ _ s' _ s'1 s'2
  have hs1 : Canonical s1 := .update h
  have hs2 : Canonical s2 := .journalLock hs1
  have hs3 : Canonical s3 := .set hs2
  have hs4 : Canonical s4 := .report (.set hs3)
  have hs5 : Canonical s5 := .ite (.ledgeUpdate (.modHlm hs4)) (.modHlm hs3)
  have hs' : Canonical s' := .report (.modSlot hs5)
  have hs'1 : Canonical s'1 := .report (.report (.modSlot hs'))
  have hs'2 : Canonical s'2 := .modHlm hs'1
  exact .next (.ite h (.ite (.bootSlot hs5) (.ite (.bootSlot hs') (.setFlag (.update hs'2)))))

theorem Canonical.quietFault (h : Canonical s) : Canonical (s.quietFault) := .update h

theorem OutcomeCanonical.execBootEntryWrite (h : Canonical s) : OutcomeCanonical (execBootEntryWrite s) := by
  unfold Machine.execBootEntryWrite
  extract_lets _ _ s1 s2 s3 _ _ s4 s5 _ _ _ s6
  have hs1 : Canonical s1 := .modHlm (.ite (.program h) (.writeEntry h))
  have hs2 : Canonical s2 := .forEach hs1 fun _ _ hx => .setFlag (.set hx)
  have hs3 : Canonical s3 := .setFlag hs2
  have hs4 : Canonical s4 := .update hs3
  have hs5 : Canonical s5 := .set hs4
  have hs6 : Canonical s6 := .update hs5
  exact .next (.ite h (.quietFault (.update hs6)))

theorem OutcomeCanonical.execAnchor (h : Canonical s) : OutcomeCanonical (execAnchor s) := by
  unfold Machine.execAnchor
  refine .next ?_
  split
  · exact h
  · exact .ite h (.update (.setFlag (.recordTime (.ledgeAt h))))

theorem OutcomeCanonical.execLedgerEntryWrite (h : Canonical s) : OutcomeCanonical (execLedgerEntryWrite s) := by
  unfold Machine.execLedgerEntryWrite
  refine .next ?_
  split
  · exact h
  · extract_lets _ s1
    have hs1 : Canonical s1 := .modHlm h
    exact .ite h (.ite (.ite (.modHlm hs1) (.report (.modHlm hs1))) (.ite (.modHlm (.drawn hs1)) (.ite (.writeEntry
      (.drawn hs1)) (.writeEntry hs1))))

theorem Canonical.writePending {fuel} (h : Canonical s) : Canonical (State.writePending fuel s) := by
  induction fuel generalizing s with
  | zero => exact h
  | succ fuel ih =>
    unfold State.writePending
    split
    · exact h
    · exact .ite h (ih (.writeEntry (.modHlm h)))

theorem OutcomeCanonical.execLedgerBlockReclaim (h : Canonical s) : OutcomeCanonical (execLedgerBlockReclaim s) :=
  .next (.ite h (.ite (.writeKey (.update h)) (.ite (.writePending h) h)))
theorem OutcomeCanonical.execTrialBootDeadline (h : Canonical s) : OutcomeCanonical (execTrialBootDeadline s) :=
  .next (.ite (.askStart h) h)
theorem Canonical.spdmAnswer {l code body} (h : Canonical s) : Canonical (s.spdmAnswer l code body) := .emit h
theorem Canonical.endSession {id} (h : Canonical s) : Canonical (s.endSession id) := .modHlm h

theorem Canonical.spdmFinish {l id ok auth} (h : Canonical s) : Canonical (s.spdmFinish l id ok auth) := by
  unfold State.spdmFinish
  extract_lets _ _ _ _ s1
  have hs1 : Canonical s1 := .modHlm h
  split
  · exact .spdmAnswer h
  · exact .ite (.report (.spdmAnswer (.endSession h))) (.spdmAnswer hs1)

theorem OutcomeCanonical.execSpdmRequest {l m} (h : Canonical s) : OutcomeCanonical (execSpdmRequest l m s) := by
  unfold Machine.execSpdmRequest
  refine .next (.ite h ?_)
  split
  case h_1 | h_2 | h_3 | h_4 | h_13 => exact .spdmAnswer h
  case h_5 | h_7 | h_10 | h_11 => exact .ite (.spdmAnswer h) (.spdmAnswer h)
  case h_6 => exact .ite (.spdmAnswer h) (.spdmAnswer (.drawn h))
  case h_8 => exact .ite (.spdmAnswer h) (.ite (.spdmAnswer h) (.spdmAnswer (.modHlm (.drawn h))))
  case h_9 => exact .spdmFinish h
  case h_12 => exact .ite (.spdmAnswer (.endSession h)) (.spdmAnswer h)

theorem OutcomeCanonical.execSpdmHeartbeatMiss {session} (h : Canonical s) : OutcomeCanonical (execSpdmHeartbeatMiss session s) :=
  .next (.endSession h)

theorem OutcomeCanonical.execMigrationKeyInstall {u session keyId key} (h : Canonical s) :
    OutcomeCanonical (execMigrationKeyInstall u session keyId key s) :=
  .next (.ite h (.ite (.spdmAnswer (.modHlm h)) (.spdmAnswer h)))

theorem OutcomeCanonical.execIdeKmKeyReceive {u session stream keySet key} (h : Canonical s) :
    OutcomeCanonical (execIdeKmKeyReceive u session stream keySet key s) :=
  .next (.ite h (.ite (.spdmAnswer (.ite (.modPort (.set (.modHlm h))) (.modHlm h))) (.spdmAnswer h)))

theorem RunCanonical.specHlmInfo : RunCanonical specHlmInfo := fun _ _ _ h => .done h
theorem RunCanonical.specLedgerRead : RunCanonical specLedgerRead := fun _ _ _ h => .done h
theorem RunCanonical.specLedgerArchiveAck :
    RunCanonical specLedgerArchiveAck := fun _ _ _ h => .done (.ledgerLow (.journal (.set h)))
theorem RunCanonical.specIdentityCertRead : RunCanonical specIdentityCertRead := fun _ _ _ h => .done h
theorem RunCanonical.specFwUpdateStart :
    RunCanonical specFwUpdateStart := fun _ _ _ h => .ite .fail (.done (.modHlm (.modSlot h)))

theorem RunCanonical.specFwUpdateWrite : RunCanonical specFwUpdateWrite := by
  intro _ _ s h
  unfold Machine.specFwUpdateWrite
  dsimp -zeta only
  split
  · exact .fail
  · exact .ite .fail (.done (.modSlot h))

theorem RunCanonical.specFwUpdateVerify : RunCanonical specFwUpdateVerify := fun _ _ _ h => .ite .fail (.started (.modHlm h))

theorem Canonical.endVerify {id} (h : Canonical s) : Canonical (s.endVerify id) := by
  unfold State.endVerify
  split
  · exact .ite h (.ite (.endBg (.ledgeUpdate (.modHlm (.modSlot h)))) (.endBg (.modHlm (.modSlot h))))
  · exact h

theorem RunCanonical.specFwActivate : RunCanonical specFwActivate := by
  intro _ _ s h
  unfold Machine.specFwActivate
  dsimp -zeta only
  extract_lets _ _ s1 s2
  have hs1 : Canonical s1 := .ite (.modHlm h) (.modHlm h)
  have hs2 : Canonical s2 := .ledgeUpdate hs1
  exact .ite .fail (.done (.ite (.askStart hs2) hs2))

theorem RunCanonical.specFwCommit : RunCanonical specFwCommit :=
  fun _ _ _ h => .ite .fail (.done (.ledgeUpdate (.set (.set (.setFlag (.modHlm h))))))
theorem ResultCanonical.setLock {h on} (hs : Canonical s) : ResultCanonical (s.setLock h on) :=
  .ite .fail (.done (.ledge (.journal (.setFlag hs))))
theorem RunCanonical.specConfigLock : RunCanonical specConfigLock := fun _ _ _ h => .setLock h
theorem RunCanonical.specConfigUnlock : RunCanonical specConfigUnlock := fun _ _ _ h => .setLock h
theorem RunCanonical.specRootSet : RunCanonical specRootSet :=
  fun _ _ _ h => .ite (.done (.journal (.modHlm h))) (.done (.journal (.modHlm h)))

/-! ## `Machine/Seam` -/

theorem Canonical.modBundle {b f} (h : Canonical s) : Canonical (s.modBundle b f) := .modSem h
theorem Canonical.setBundle {b v} (h : Canonical s) : Canonical (s.setBundle b v) := .set h
theorem Canonical.laneReset {b} (h : Canonical s) : Canonical (s.laneReset b) :=
  .forEach h fun _ _ hx => .set (.set (.setFlag (.setFlag (.setFlag hx))))
theorem Canonical.retrainBundle {b} (h : Canonical s) : Canonical (s.retrainBundle b) :=
  .emit (.setBundle (.setFlag (.set (.setFlag (.setFlag (.setFlag (.modBundle (.laneReset h))))))))
theorem Canonical.bundleOff {b} (h : Canonical s) : Canonical (s.bundleOff b) := .placeStreams (.setBundle h)

theorem Canonical.bundleFails {b cause} (h : Canonical s) : Canonical (s.bundleFails b cause) := by
  unfold State.bundleFails
  split
  · exact .report (.bundleOff (.setFlag h))
  · exact .report (.bundleOff h)

theorem OutcomeCanonical.execBundleDown {b cause} (h : Canonical s) : OutcomeCanonical (execBundleDown b cause s) :=
  .next (.ite (.bundleFails h) h)
theorem OutcomeCanonical.execBundleRetrainTimer {b} (h : Canonical s) : OutcomeCanonical (execBundleRetrainTimer b s) :=
  .next (.ite (.retrainBundle h) h)
theorem OutcomeCanonical.execBlockLock {b i} (h : Canonical s) :
    OutcomeCanonical (execBlockLock b i s) := .next (.ite (.setFlag h) h)
theorem Canonical.mapStep {b r} (h : Canonical s) : Canonical (s.mapStep b r) :=
  .ite (.setBundle (.setFlag (.setFlag (.forEach h fun _ _ hx => .setFlag hx)))) (.ite h (.report (.setFlag h)))
theorem Canonical.adaptEnd {b r} (h : Canonical s) : Canonical (s.adaptEnd b r) :=
  .setBundle (.forEach h fun _ _ hx => .ite (.report (.set hx)) (.set hx))
theorem Canonical.bundleActive {b} (h : Canonical s) : Canonical (s.bundleActive b) :=
  .placeStreams (.setBundle (.forEach h fun _ _ hx => .set hx))

theorem OutcomeCanonical.execBundleStateAdvance {b r} (h : Canonical s) : OutcomeCanonical (execBundleStateAdvance b r s) := by
  unfold Machine.execBundleStateAdvance
  extract_lets s1
  have hs1 : Canonical s1 := by
    unfold s1
    split
    · exact .setBundle h
    · exact .setBundle (.setFlag h)
    · exact .ite (.setBundle h) h
    · exact .mapStep h
    · exact .setBundle h
    · exact .adaptEnd h
    · exact .bundleActive h
    · exact h
  exact .next (.ite h (.emit hs1))

theorem OutcomeCanonical.execSeamAdaptStep {b i before after} (h : Canonical s) :
    OutcomeCanonical (execSeamAdaptStep b i before after s) :=
  .next (.ite (.emit (.set (.modBundle h))) h)

theorem OutcomeCanonical.execSeamLaneLoss {b i} (h : Canonical s) : OutcomeCanonical (execSeamLaneLoss b i s) := by
  unfold Machine.execSeamLaneLoss
  extract_lets _ s1 _ s2 s3 s4
  have hs1 : Canonical s1 := .setFlag (.setFlag h)
  have hs2 : Canonical s2 := .set hs1
  have hs3 : Canonical s3 := .ite (.emit hs2) (.ctlSend hs2)
  have hs4 : Canonical s4 := .forEach hs3 fun _ _ hx => .modStream hx
  exact .next (.ite h (.ite (.bundleFails hs1) (.report hs4)))

theorem Canonical.spareOn {b i} (h : Canonical s) : Canonical (s.spareOn b i) := .ite (.emit (.modBundle h)) h
theorem OutcomeCanonical.execSeamSpareRequest {b i} (h : Canonical s) : OutcomeCanonical (execSeamSpareRequest b i s) :=
  .next (.spareOn h)
theorem OutcomeCanonical.execSeamSpareFailure {b} (h : Canonical s) : OutcomeCanonical (execSeamSpareFailure b s) :=
  .next (.ite (.ite (.bundleFails (.report (.setFlag h))) (.report (.setFlag h))) h)
theorem Canonical.showPrimary (h : Canonical s) : Canonical (s.showPrimary) := .setFlag h
theorem Canonical.setTwin {enabled suspended partner} (h : Canonical s) : Canonical (s.setTwin enabled suspended partner) :=
  .journal (.showPrimary (.modSem (.setFlag (.setFlag h))))
theorem Canonical.ledgeTwin {event x} (h : Canonical s) : Canonical (s.ledgeTwin event x) := .ledge h

theorem Canonical.endAsks (h : Canonical s) : Canonical (s.endAsks) := by
  unfold State.endAsks
  extract_lets _ s1
  have hs1 : Canonical s1 := .modSem h
  refine .forEach hs1 fun _ _ hx => .ite ?_ (.deliver hx)
  split
  · exact .homeDev (.modTxn hx)
  · exact .deliver hx

theorem Canonical.partnerGone {suspend} (h : Canonical s) : Canonical (s.partnerGone suspend) := by
  unfold State.partnerGone
  extract_lets _ _ _ s1 s2 _ s3 s4 s5 s6 _ s7 s8 s9
  have hs1 : Canonical s1 := .modSem (.setTwin h)
  have hs2 : Canonical s2 := .forEach hs1 fun _ _ hx => .modStream hx
  have hs3 : Canonical s3 := .forEach hs2 fun _ _ hx => .flushLine hx
  have hs4 : Canonical s4 := .loseParty (.reportOpen hs3)
  have hs5 : Canonical s5 := .endAsks hs4
  have hs6 : Canonical s6 := .forEach hs5 fun _ _ hx => .fence hx
  have hs7 : Canonical s7 := .forEach hs6 fun _ _ hx => .ite (.destFailed hx) (.ite (.sourceFailed hx) hx)
  have hs8 : Canonical s8 := .answerWaits hs7
  have hs9 : Canonical s9 := .endBg? hs8
  exact .ledgeTwin (.report hs9)

theorem Canonical.losePartner (h : Canonical s) : Canonical (s.losePartner) := .ite (.partnerGone h) h
theorem OutcomeCanonical.execPartnerLoss (h : Canonical s) :
    OutcomeCanonical (execPartnerLoss s) := .next (.ite (.losePartner h) h)
theorem OutcomeCanonical.execLeavingMessage (h : Canonical s) : OutcomeCanonical (execLeavingMessage s) := .next (.losePartner h)
theorem Canonical.sendLeaving (h : Canonical s) : Canonical (s.sendLeaving) := .ite (.ctlSend h) h
theorem Canonical.enableTwin {x} (h : Canonical s) : Canonical (s.enableTwin x) :=
  .ledgeTwin (.ite (.ledgeTwin (.setFlag (.modSem (.setTwin h)))) (.setFlag (.modSem (.setTwin h))))
theorem Canonical.setTwinGroup {g on} (h : Canonical s) : Canonical (s.setTwinGroup g on) := .journal (.set h)

theorem Canonical.homeFromTwin {x r} (h : Canonical s) : Canonical (s.homeFromTwin x r) := by
  unfold State.homeFromTwin
  extract_lets
  refine .ite (.ite (.ite (.twinSend (.reportDsp h)) (.toHost (.reportDsp h))) (.ite (.twinSend h) (.toHost h))) ?_
  split
  · exact .ite (.twinSend h) (.toHost h)
  · exact .arrive h

theorem OptSndCanonical.takeAsk {tag} (h : Canonical s) : OptSndCanonical (s.takeAsk tag) := .map fun _ => .modSem h

theorem Canonical.proxyAnswer {a row data poison mval} (h : Canonical s) : Canonical (s.proxyAnswer a row data poison mval) := by
  unfold State.proxyAnswer
  split
  · extract_lets t s1 s2
    clear_value t
    have hs1 : Canonical s1 := by
      unfold s1
      refine .ite h ?_
      split
      · exact .ite h (.report h)
      · exact h
    have hs2 : Canonical s2 := .modTxn hs1
    exact .homeDev hs2
  · exact .deliver h

theorem Canonical.proxyAtom {a orig} (h : Canonical s) : Canonical (s.proxyAtom a orig) := by
  unfold State.proxyAtom
  split
  · exact .homeDev (.modTxn h)
  · exact h

theorem Canonical.disableTwin (h : Canonical s) : Canonical (s.disableTwin) := .partnerGone h

theorem Canonical.twinAsked {op} (h : Canonical s) : Canonical (s.twinAsked op) := by
  unfold State.twinAsked
  split
  · exact .ite (.ctlSend h) (.ite (.ctlSend h) (.ctlSend h))
  · exact .ite (.ctlSend h) (.startFlush (.modSem h))

theorem Canonical.twinReplied {r} (h : Canonical s) : Canonical (s.twinReplied r) := by
  unfold State.twinReplied
  extract_lets s1
  have hs1 : Canonical s1 := .modSem h
  split
  · exact h
  · split
    · exact .endBg? hs1
    · exact .endBg? hs1
    · exact .ite (.ite (.endBg? hs1) (.ite (.endBg? hs1) (.endBg? (.enableTwin (.ctlSend hs1))))) (.endBg? (.disableTwin
        (.ctlSend hs1)))

theorem Canonical.twinCommand {id p k} (h : Canonical s) : Canonical (s.twinCommand id p k) := .receive h

theorem Canonical.relayEvent {id k} (h : Canonical s) : Canonical (s.relayEvent id k) := by
  unfold State.relayEvent
  split
  · exact h
  · exact .sendEvent (.modSem h)

theorem Canonical.twinMessage {x m} (h : Canonical s) : Canonical (s.twinMessage x m) := by
  unfold State.twinMessage
  split
  · exact .modSem h
  · split
    · exact .deliver (.of_some_snd (.takeAsk h) ‹_›)
    · exact h
  · exact .homeFromTwin h
  · split
    · exact .proxyAnswer (.of_some_snd (.takeAsk h) ‹_›)
    · exact h
  · split
    · exact .proxyAtom (.of_some_snd (.takeAsk h) ‹_›)
    · exact h
  · exact .proxySnoop h
  · exact .biRsp h
  · exact .twinSend (.countDir h)
  · exact h
  · exact .spareOn h
  · exact .losePartner h
  · exact .twinAsked h
  · exact .twinReplied h
  · exact .enableTwin h
  · exact .disableTwin (.modSem h)
  · exact .setTwinGroup h
  · exact .twinCommand h
  · exact .answerWaits h
  · exact .relayEvent h

theorem Canonical.nakStream {x} (h : Canonical s) : Canonical (s.nakStream x) := by
  unfold State.nakStream
  extract_lets s1
  have hs1 : Canonical s1 := .modStream h
  split
  · exact .ite (.sendFrame hs1) hs1
  · exact hs1

theorem Canonical.crcEvent {x} (h : Canonical s) : Canonical (s.crcEvent x) := .ite (.report (.modStream h)) h

theorem Canonical.acceptFrame {x f} (h : Canonical s) : Canonical (s.acceptFrame x f) := by
  unfold State.acceptFrame
  extract_lets _ _ s1 _ s2
  have hs1 : Canonical s1 := .modStream h
  have hs2 : Canonical s2 := .pump (.forEach hs1 fun _ _ hx => .twinMessage hx)
  split
  · exact .ite (.sendFrame hs2) hs2
  · exact hs2

theorem OutcomeCanonical.execSeamFrameReceive {b f} (h : Canonical s) : OutcomeCanonical (execSeamFrameReceive b f s) :=
  .next (.ite h (.ite (.nakStream (.crcEvent (.bump h))) (.ite (.nakStream h) (.acceptFrame h))))

theorem OutcomeCanonical.execSeamResend {x nak} (h : Canonical s) : OutcomeCanonical (execSeamResend x nak s) := by
  unfold Machine.execSeamResend
  extract_lets
  refine .next ?_
  split
  · exact h
  · exact .ite h (.ite (.bundleFails (.modStream (.bump (.modStream (.emits h))))) (.bump (.modStream (.emits h))))

theorem OutcomeCanonical.execStreamReturn {x} (h : Canonical s) : OutcomeCanonical (execStreamReturn x s) :=
  .next (.ite (.pump (.showStreams (.modStream h))) h)
theorem OutcomeCanonical.execTwinRelayedRequest {b p m} (h : Canonical s) : OutcomeCanonical (execTwinRelayedRequest b p m s) :=
  .next (.ite (.issueDev (.modSem h)) h)
theorem RunCanonical.specSeamInfo : RunCanonical specSeamInfo := fun _ _ _ h => .done h

theorem RunCanonical.specSeamBundleCtl : RunCanonical specSeamBundleCtl := by
  intro _ _ s h
  unfold Machine.specSeamBundleCtl
  dsimp -zeta only
  extract_lets
  split
  · exact .done (.retrainBundle (.bundleOff h))
  · exact .ite .fail (.done (.bundleOff (.modBundle h)))
  · exact .ite (.done (.retrainBundle (.modBundle h))) (.done h)

theorem RunCanonical.specTwinEnable : RunCanonical specTwinEnable := fun _ _ _ h => .ite .fail (.started (.ctlSend (.modSem h)))
theorem RunCanonical.specTwinDisable :
    RunCanonical specTwinDisable := fun _ _ _ h => .ite .fail (.started (.startFlush (.modSem h)))
theorem RunCanonical.specTwinGroupSet : RunCanonical specTwinGroupSet :=
  fun _ _ _ h => .ite .fail (.done (.setTwinGroup (.ite (.ctlSend h) h)))
theorem RunCanonical.specPartnerRelay : RunCanonical specPartnerRelay := fun _ _ _ h => .ite .fail (.waits (.ctlSend (.modSem h)))

/-! ## `Machine/Vault` -/

theorem Canonical.modPage {n f} (h : Canonical s) : Canonical (s.modPage n f) := .modVlt h
theorem Canonical.writeBack {n} (h : Canonical s) : Canonical (s.writeBack n) := .modPage (.modVlt h)

theorem Canonical.toCrucible {n} (h : Canonical s) : Canonical (s.toCrucible n) := by
  unfold State.toCrucible
  extract_lets s1
  have hs1 : Canonical s1 := by
    unfold s1
    refine .ite ?_ h
    split
    · exact .writeBack h
    · exact h
  exact .modVlt hs1

theorem Canonical.retireDue {n lost} (h : Canonical s) : Canonical (s.retireDue n lost) := .ite h (.modVlt h)
theorem Canonical.pageUncorr {n} (h : Canonical s) : Canonical (s.pageUncorr n) := .modPage (.retireDue (.bump h))
theorem Canonical.mapPageBad {n page pair} (h : Canonical s) : Canonical (s.mapPageBad n page pair) :=
  .ite (.ite h (.frame h rfl rfl)) (.report h)

theorem Canonical.clientError {n} (h : Canonical s) : Canonical (s.clientError n) := by
  unfold State.clientError
  split
  case h_1 | h_2 => exact .ite h (.report h)
  case h_3 | h_4 | h_5 | h_6 => exact .mapPageBad h
  case h_7 => exact .report h
  case h_8 => exact h

theorem Canonical.pageCorrected {n bits} (h : Canonical s) : Canonical (s.pageCorrected n bits) :=
  .ite (.report (.modVlt (.bump (.bump h)))) (.bump (.bump h))

theorem FstCanonical.loadPage {n bits} (h : Canonical s) : FstCanonical (s.loadPage n bits) := by
  unfold State.loadPage
  extract_lets _ _ _ s1
  have hs1 : Canonical s1 := .ite h (.update h)
  exact .ite (.mk (.ite (.bump h) h)) (.ite (.mk h) (.mk (.ite (.ite hs1 (.ite (.ite (.retireDue (.toCrucible
    (.pageCorrected (.modPage hs1)))) (.toCrucible (.pageCorrected (.modPage hs1)))) (.pageUncorr hs1))) (.asInjected
    hs1 fun _ hx => .ite hx (.ite (.ite (.retireDue (.toCrucible (.pageCorrected (.modPage hx)))) (.toCrucible
    (.pageCorrected (.modPage hx)))) (.pageUncorr hx))))))

theorem OutcomeCanonical.execVaultRead {page bits} (h : Canonical s) : OutcomeCanonical (execVaultRead page bits s) :=
  .next (.ite (.emit (.ite (.clientError (.fst (.loadPage h))) (.fst (.loadPage h)))) h)

theorem OutcomeCanonical.execVaultSubpageWrite {page off data bits} (h : Canonical s) :
    OutcomeCanonical (execVaultSubpageWrite page off data bits s) := by
  unfold Machine.execVaultSubpageWrite
  extract_lets r
  have hr : FstCanonical r := .loadPage h
  refine .next (.ite ?_ h)
  split
  · exact .emit (.clientError (.fst hr))
  · exact .toCrucible (.modPage (.fst hr))

theorem Canonical.retirePage {n lost} (h : Canonical s) : Canonical (s.retirePage n lost) := by
  unfold State.retirePage
  extract_lets s1 s2
  have hs1 : Canonical s1 := .modVlt h
  have hs2 : Canonical s2 := .ite (.modVlt hs1) hs1
  split
  · exact .ite hs2 (.report (.setFlag hs2))
  · extract_lets s3 s4
    have hs3 : Canonical s3 := .modVlt hs1
    have hs4 : Canonical s4 := .ite (.modPage hs3) (.ite (.writeBack hs3) hs3)
    exact .report (.showReserve (.bump (.journal hs4)))

theorem OutcomeCanonical.execVaultFullPageWrite {page data} (h : Canonical s) :
    OutcomeCanonical (execVaultFullPageWrite page data s) := by
  unfold Machine.execVaultFullPageWrite
  extract_lets s1 s2 s3
  have hs1 : Canonical s1 := .modVlt h
  have hs2 : Canonical s2 := .ite (.retirePage hs1) hs1
  have hs3 : Canonical s3 := .modPage hs2
  exact .next (.ite (.ite (.toCrucible hs3) (.writeBack hs3)) h)

theorem OutcomeCanonical.execCrucibleWriteback {page} (h : Canonical s) : OutcomeCanonical (execCrucibleWriteback page s) :=
  .next (.ite (.writeBack h) h)

theorem OutcomeCanonical.execPageRetirement {page} (h : Canonical s) : OutcomeCanonical (execPageRetirement page s) := by
  unfold Machine.execPageRetirement
  refine .next ?_
  split
  · exact .retirePage h
  · exact h

theorem OutcomeCanonical.execAnnealRead {bits} (h : Canonical s) : OutcomeCanonical (execAnnealRead bits s) := by
  unfold Machine.execAnnealRead
  refine .next (.ite h ?_)
  split
  · exact .set (.bump (.modVlt h))
  · extract_lets _ r _ s1 s2 _ s3
    have hr : FstCanonical r := .loadPage h
    have hs1 : Canonical s1 := .modVlt (.fst hr)
    have hs2 : Canonical s2 := .set hs1
    have hs3 : Canonical s3 := .modPage hs2
    split
    · exact .clientError hs2
    · exact .ite hs2 (.ite (.retireDue hs3) hs3)

theorem OutcomeCanonical.execAnnealOverrun (h : Canonical s) : OutcomeCanonical (execAnnealOverrun s) :=
  .next (.ite (.report (.setFlag h)) h)

theorem Canonical.failPc {i} (h : Canonical s) : Canonical (s.failPc i) := by
  unfold State.failPc
  extract_lets _ _ _ _ _ s1 s2 s3
  have hs1 : Canonical s1 := .journal (.set h)
  have hs2 : Canonical s2 := .report hs1
  have hs3 : Canonical s3 := .forEach hs2 fun _ _ hx => .modPage hx
  exact .ite h (.ite (.report hs1) (.forEach hs3 fun _ _ hx => .retirePage hx))

theorem OutcomeCanonical.execPseudoChannelFailure {i} (h : Canonical s) : OutcomeCanonical (execPseudoChannelFailure i s) :=
  .next (.ite (.failPc h) h)
theorem Canonical.modBank {b f} (h : Canonical s) : Canonical (s.modBank b f) := .modVlt h
theorem Canonical.spareRow {b row} (h : Canonical s) : Canonical (s.spareRow b row) :=
  .ite (.report (.journal (.bump (.modBank h)))) (.ite h (.ite (.modBank (.set h)) (.report h)))
theorem Canonical.wordCorrected {b row word} (h : Canonical s) : Canonical (s.wordCorrected b row word) :=
  .ite (.report (.modVlt (.modBank (.bump h)))) (.modBank (.bump h))

theorem Canonical.ownerError {o} (h : Canonical s) : Canonical (s.ownerError o) := by
  unfold State.ownerError
  split
  · exact .report (.ite (.discardMsg h) (.markPayload h))
  · exact .ite (.dirPageDouble (.report h)) (.report h)
  · exact .ite (.report h) (.report (.setTable h))
  · split
    · exact h
    · exact .update h
  · exact h

theorem Canonical.wordUncorr {b row o} (h : Canonical s) : Canonical (s.wordUncorr b row o) := .spareRow (.ownerError (.bump h))

theorem OutcomeCanonical.execSramWordError {bank row word e owner} (h : Canonical s) :
    OutcomeCanonical (execSramWordError bank row word e owner s) := by
  unfold Machine.execSramWordError
  refine .next (.ite h ?_)
  split
  · exact .wordCorrected h
  · exact .wordUncorr h

theorem OutcomeCanonical.execSramRowRepair {bank row} (h : Canonical s) : OutcomeCanonical (execSramRowRepair bank row s) :=
  .next (.ite (.spareRow h) h)
theorem OutcomeCanonical.execSramBankCopyEnd {bank} (h : Canonical s) : OutcomeCanonical (execSramBankCopyEnd bank s) :=
  .next (.ite (.report (.journal (.modBank h))) h)

theorem OutcomeCanonical.execSramAnnealPass (h : Canonical s) : OutcomeCanonical (execSramAnnealPass s) := by
  unfold Machine.execSramAnnealPass
  extract_lets _ s1 s2
  have hs1 : Canonical s1 := .modVlt h
  have hs2 : Canonical s2 := .forEach hs1 fun _ _ hx => .asInjected hx fun _ hy => .ite (.wordCorrected hy) (.wordUncorr hy)
  exact .next (.ite h (.forEach hs2 fun _ _ hx => .forEach hx fun _ _ hy => .ite (.spareRow hy) hy))

theorem RunCanonical.specVaultInfo : RunCanonical specVaultInfo := fun _ _ _ h => .done h
theorem RunCanonical.specVaultPageRead : RunCanonical specVaultPageRead := fun _ _ _ h => .done (.fst (.loadPage h))
theorem RunCanonical.specVaultStrengthSet : RunCanonical specVaultStrengthSet := fun _ _ _ h => .done (.setJ h)
theorem RunCanonical.specVaultAnnealCtl : RunCanonical specVaultAnnealCtl :=
  fun _ _ _ h => .done (.ite (.set (.modVlt (.setJ (.setJ (.setJ h))))) (.setJ (.setJ (.setJ h))))
theorem RunCanonical.specVaultRetire : RunCanonical specVaultRetire := fun _ _ _ h => .ite .fail (.done (.retirePage h))
theorem RunCanonical.specVaultRetiredRead : RunCanonical specVaultRetiredRead := fun _ _ _ h => .done h
theorem RunCanonical.specVaultStats : RunCanonical specVaultStats := fun _ _ _ h => .done h

/-! ## `Machine/Faults` -/

theorem Canonical.modFlt {f} (h : Canonical s) : Canonical (s.modFlt f) := .update h
theorem Canonical.isolate {p why} (h : Canonical s) : Canonical (s.isolate p why) :=
  .disable (.ite (.forEach h fun _ _ hx => .surprise hx) h)

theorem Canonical.failoverUnit {src} (h : Canonical s) : Canonical (s.failoverUnit src) := by
  unfold State.failoverUnit
  refine .ite h ?_
  split
  · exact .quenchCommit h
  · exact h

theorem Canonical.notify {r} (h : Canonical s) :
    Canonical (s.notify r) := .ite (.modCmd h) (.forEach h fun _ _ hx => .sendEvent hx)

theorem Canonical.putHold {src slot h} (hs : Canonical s) : Canonical (s.putHold src slot h) := by
  unfold State.putHold
  extract_lets _ s1
  have hs1 : Canonical s1 := by
    unfold s1
    split <;> exact .modFlt hs
  refine .ite hs1 ?_
  split
  · exact .isolate hs1
  · exact .withhold hs1
  · exact hs1

theorem Canonical.endHold {h} (hs : Canonical s) : Canonical (s.endHold h) := by
  unfold State.endHold
  refine .ite hs ?_
  split
  · exact .enable hs
  · exact .unhold hs
  · exact hs

theorem Canonical.afterFlush {req src} (h : Canonical s) : Canonical (s.afterFlush req src) := by
  unfold State.afterFlush
  split
  · exact .askStart h
  · exact .ite (.askStart h) h

theorem Canonical.beginDump {x} (h : Canonical s) : Canonical (s.beginDump x) := .modFlt h
theorem Canonical.startFatalFlush {r} (h : Canonical s) : Canonical (s.startFatalFlush r) :=
  .ite h (.ite (.afterFlush h) (.ite (.modFlt h) (.ite (.afterFlush h) (.beginDump h))))

theorem Canonical.endFlush {cut} (h : Canonical s) : Canonical (s.endFlush cut) := by
  unfold State.endFlush
  split
  · extract_lets _ _ _ _ s1 s2
    have hs1 : Canonical s1 := .modFlt (.drawn h)
    have hs2 : Canonical s2 := .ite (.ite (.asInjected hs1 fun _ hx => .report hx) (.report hs1)) hs1
    exact .afterFlush hs2
  · exact h

theorem Canonical.resetAfterFlush {trigger src} (h : Canonical s) : Canonical (s.resetAfterFlush trigger src) := by
  unfold State.resetAfterFlush
  split
  · exact .askStart h
  · exact .modFlt h

theorem Canonical.moduleSafe (h : Canonical s) : Canonical (s.moduleSafe) :=
  .setFlag (.update (.forEach (.sendLeaving h) fun _ _ hx => .disable hx))
theorem Canonical.portsSafe {ps} (h : Canonical s) : Canonical (s.portsSafe ps) := .forEach h fun _ _ hx => .isolate (.update hx)
theorem Canonical.channelSafe {n} (h : Canonical s) : Canonical (s.channelSafe n) :=
  .ite (.portsSafe (.setFlag (.ite (.chanOpen (.chanReset h)) h))) (.setFlag (.ite (.chanOpen (.chanReset h)) h))
theorem Canonical.freezeOnFatal (h : Canonical s) : Canonical (s.freezeOnFatal) := .ite (.recordMark (.update (.setFlag h))) h

theorem Canonical.safeState {r} (h : Canonical s) : Canonical (s.safeState r) := by
  unfold State.safeState
  extract_lets c s1 s2
  clear_value c
  have hs1 : Canonical s1 := .freezeOnFatal (.modFlt h)
  have hs2 : Canonical s2 := by
    unfold s2
    split
    · exact .modFlt hs1
    · exact .modFlt hs1
    · exact .portsSafe hs1
    · exact .channelSafe hs1
    · exact .moduleSafe hs1
  exact .ite h (.startFatalFlush hs2)

theorem Canonical.runSet {bits r slot} (h : Canonical s) : Canonical (s.runSet bits r slot) := by
  unfold State.runSet
  extract_lets _ hold s1 s2 s3 s4 s5 s6 s7
  have hhold : ∀ {o s}, Canonical s → Canonical (hold o s) := by
    intro o s hs
    cases o with
    | some x => exact .putHold hs
    | none => exact hs
  clear_value hold
  have hs1 : Canonical s1 := .ite (.notify h) h
  have hs2 : Canonical s2 := .ite (hhold hs1) hs1
  have hs3 : Canonical s3 := .ite (hhold hs2) hs2
  have hs4 : Canonical s4 := .ite (.failoverUnit hs3) hs3
  have hs5 : Canonical s5 := .ite (hhold hs4) hs4
  have hs6 : Canonical s6 := .ite (hhold hs5) hs5
  have hs7 : Canonical s7 := .ite (.safeState hs6) hs6
  exact .ite (.resetAfterFlush hs7) hs7

theorem Canonical.modQ {i f} (h : Canonical s) : Canonical (s.modQ i f) := .modFlt h

theorem Canonical.tidyQ {i} (h : Canonical s) : Canonical (s.tidyQ i) := by
  unfold State.tidyQ
  split
  · exact .ite (.modFlt h) h
  · exact h

theorem FstCanonical.takeQ {src entry} (h : Canonical s) : FstCanonical (s.takeQ src entry) := by
  unfold State.takeQ
  split
  · exact .mk h
  · extract_lets
    split
    · exact .mk h
    · exact .mk (.modFlt h)

theorem Canonical.runLate {bits i src} (h : Canonical s) : Canonical (s.runLate bits i src) := by
  unfold State.runLate
  split
  · exact .ite (.asInjected h fun _ hx => .runSet hx) (.runSet h)
  · exact h

theorem Canonical.graceEnd {i} (h : Canonical s) : Canonical (s.graceEnd i) := by
  unfold State.graceEnd
  split
  · exact h
  · exact .ite h (.tidyQ (.modQ (.runLate h)))

theorem Canonical.matched {e imm r} (h : Canonical s) : Canonical (s.matched e imm r) := by
  unfold State.matched
  extract_lets
  refine .ite (.runSet h) ?_
  split
  · exact .runSet (.runSet (.runSet (.setFlag (.of_fst (.takeQ h) ‹_›))))
  · extract_lets s1 s2
    have hs1 : Canonical s1 := .runSet (.of_fst (.takeQ h) ‹_›)
    have hs2 : Canonical s2 := .modQ hs1
    exact .ite (.ite (.graceEnd hs2) hs2) (.tidyQ (.modQ hs1))

theorem Canonical.quench {r fresh} (h : Canonical s) : Canonical (s.quench r fresh) := by
  unfold State.quench
  extract_lets s1
  have hs1 : Canonical s1 := .ite (.safeState (.ite (.notify h) h)) h
  split
  · exact hs1
  · extract_lets
    split
    · exact .matched hs1
    · extract_lets s2 s3
      have hs2 : Canonical s2 := .runSet hs1
      have hs3 : Canonical s3 := .modQ hs2
      split
      · exact .matched hs1
      · exact .ite (.modQ (.runLate hs3)) hs3
      · exact hs1
      · exact hs1

theorem Canonical.newRecord {r} (h : Canonical s) : Canonical (s.newRecord r) :=
  .recordEvent (.modFlt (.bump (.bump (.ite (.set (.bump (.setFlag h))) (.set h)))))

theorem FstCanonical.acceptOne {e promoted batch} (h : Canonical s) : FstCanonical (s.acceptOne e promoted batch) := by
  unfold State.acceptOne
  extract_lets s1 s2 m _ x _ s3
  clear_value m
  have hs1 : Canonical s1 := .modFlt h
  have hs2 : Canonical s2 := .ite (.modFlt hs1) hs1
  have hx : FstCanonical x := by
    unfold x
    split
    · exact .mk (.modFlt hs2)
    · exact .mk (.newRecord hs2)
  have hs3 : Canonical s3 := .ite (.endFlush (.modFlt (.fst hx))) (.fst hx)
  exact .mk (.ite (.asInjected hs3 fun _ hy => .quench hy) (.quench hs3))

theorem Canonical.promoteFault {e r} (h : Canonical s) : Canonical (s.promoteFault e r) := by
  unfold State.promoteFault
  split
  · exact h
  · extract_lets
    refine .ite h ?_
    split
    · exact .setFlag (.of_fst (.takeQ h) ‹_›)
    · exact .ite (.modQ (.of_fst (.takeQ h) ‹_›)) (.fst (.acceptOne (.tidyQ (.modQ (.of_fst (.takeQ h) ‹_›)))))

theorem Canonical.acceptAll {e n batch} (h : Canonical s) : Canonical (s.acceptAll e n batch) := by
  induction n generalizing s batch with
  | zero => exact h
  | succ n ih => exact ih (.promoteFault (.fst (.acceptOne h)))

theorem OutcomeCanonical.execFltEventAccept (h : Canonical s) : OutcomeCanonical (execFltEventAccept s) := by
  unfold Machine.execFltEventAccept
  refine .next (.ite h ?_)
  split
  · exact h
  · exact .acceptAll (.modFlt h)

theorem OutcomeCanonical.execPromotionWindowExpiry {source} (h : Canonical s) :
    OutcomeCanonical (execPromotionWindowExpiry source s) := by
  unfold Machine.execPromotionWindowExpiry
  refine .next ?_
  split
  · exact .ite h (.tidyQ (.modQ h))
  · exact h

theorem OutcomeCanonical.execGraceExpiry {source} (h : Canonical s) : OutcomeCanonical (execGraceExpiry source s) := by
  unfold Machine.execGraceExpiry
  refine .next ?_
  split
  · exact .graceEnd h
  · exact h

theorem OutcomeCanonical.execFlushEnd (h : Canonical s) : OutcomeCanonical (execFlushEnd s) := by
  unfold Machine.execFlushEnd
  refine .next ?_
  split
  · exact .ite h (.endFlush h)
  · exact h

theorem OutcomeCanonical.execDumpReleaseEraseEnd (h : Canonical s) : OutcomeCanonical (execDumpReleaseEraseEnd s) := by
  unfold Machine.execDumpReleaseEraseEnd
  refine .next ?_
  split
  · exact h
  · extract_lets s1
    have hs1 : Canonical s1 := .endBg (.modFlt h)
    split
    · exact .beginDump hs1
    · exact hs1

theorem Canonical.lockstepMismatch {core failA failB} (h : Canonical s) : Canonical (s.lockstepMismatch core failA failB) := by
  unfold State.lockstepMismatch
  split
  · extract_lets _ _ _ _ _ _ _ s1 s2
    have hs1 : Canonical s1 := .modCmd h
    have hs2 : Canonical s2 := by
      unfold s2
      split
      · exact .endReplay hs1
      · exact hs1
    exact .ite (.askStart h) (.forEach hs2 fun _ _ hx => .report hx)
  · exact h

theorem OutcomeCanonical.execLockstepMismatch {core failA failB} (h : Canonical s) :
    OutcomeCanonical (execLockstepMismatch core failA failB s) :=
  .next (.ite (.lockstepMismatch h) h)

theorem Canonical.answerLost (h : Canonical s) : Canonical (s.answerLost) :=
  .forEach (.update h) fun _ _ hx => .forEach (.ite (.recordResponse hx) (.answer hx)) fun _ _ hy => .answerQueued hy

theorem OutcomeCanonical.execCoreFailover (h : Canonical s) : OutcomeCanonical (execCoreFailover s) := by
  unfold Machine.execCoreFailover
  extract_lets s1 _ s2 _ s3 s4
  have hs1 : Canonical s1 := .answerLost h
  have hs2 : Canonical s2 := .forEach hs1 fun _ _ hx => .endBg hx
  have hs3 : Canonical s3 := .modCmd hs2
  have hs4 : Canonical s4 := .forEach hs3 fun _ _ hx => .sendEvent hx
  refine .next ?_
  split
  · exact h
  · exact .recordEvent (.set (.set (.set (.ledge hs4))))

theorem RunCanonical.specFaultInfo : RunCanonical specFaultInfo := fun _ _ _ h => .done h
theorem RunCanonical.specFaultHistRead : RunCanonical specFaultHistRead := fun _ _ _ h => .done h
theorem RunCanonical.specFaultAck : RunCanonical specFaultAck := fun _ _ _ h => .done (.set (.set h))
theorem RunCanonical.specFaultCountRead : RunCanonical specFaultCountRead := fun _ _ _ h => .done h
theorem RunCanonical.specFaultSubscribe : RunCanonical specFaultSubscribe :=
  fun _ _ _ h => .ite (.done (.modCmd h)) (.ite .fail (.done (.modCmd h)))
theorem RunCanonical.specQuenchRead : RunCanonical specQuenchRead := fun _ _ _ h => .done h

theorem RunCanonical.specQuenchAck : RunCanonical specQuenchAck := by
  intro _ _ s h
  unfold Machine.specQuenchAck
  dsimp -zeta only
  split
  · exact .fail
  · split
    · exact .fail
    · exact .done h
    · exact .done (.tidyQ (.modQ h))

theorem Canonical.releaseQ {i q} (h : Canonical s) :
    Canonical (s.releaseQ i q) := .forEach (.tidyQ (.modQ h)) fun _ _ hx => .endHold hx

theorem RunCanonical.specQuenchRelease : RunCanonical specQuenchRelease := by
  intro _ _ s h
  unfold Machine.specQuenchRelease
  dsimp -zeta only
  split
  · exact .fail
  · exact .ite .fail (.done (.releaseQ h))

theorem RunCanonical.specFaultDumpRead : RunCanonical specFaultDumpRead := fun _ _ _ h => .ite .fail (.done h)
theorem RunCanonical.specFaultDumpRelease : RunCanonical specFaultDumpRelease := fun _ _ _ h => .ite .fail (.started (.modFlt h))
theorem RunCanonical.specSafeReset : RunCanonical specSafeReset := fun _ _ _ h => .ite (.done (.resetAfterFlush h)) .fail
theorem RunCanonical.specTouchstoneEnter : RunCanonical specTouchstoneEnter :=
  fun _ _ _ h => .ite .fail (.ite .fail (.done (.ledge (.setFlag h))))

theorem Canonical.stateAfter {o} (ho : OutcomeCanonical o) (h : Canonical s) : Canonical (stateAfter o s) := by
  cases ho with
  | next ht => exact ht
  | fault => exact h
  | refused => exact h

theorem Canonical.injectFault {kind a} (h : Canonical s) : Canonical (s.injectFault kind a) := by
  unfold State.injectFault
  extract_lets
  split
  case h_1 => exact .asInjected h fun _ hx => .report hx
  case h_2 | h_3 => exact .modVlt h
  case h_4 | h_6 | h_14 => exact .modFlt h
  case h_5 => exact .asInjected h fun _ hx => .ite (.failPlane hx) hx
  case h_7 => exact .asInjected h fun _ hx => .stateAfter (.execLaneLoss hx) hx
  case h_8 =>
    exact .ite (.asInjected h fun _ hx => .stateAfter (.execSeamSpareFailure hx) hx) (.asInjected h fun _ hx =>
      .stateAfter (.execSeamLaneLoss hx) hx)
  case h_9 => exact .asInjected h fun _ hx => .stateAfter (.execBundleDown hx) hx
  case h_10 => exact .asInjected h fun _ hx => .stateAfter (.execEngineFailure hx) hx
  case h_11 => exact .asInjected h fun _ hx => .lockstepMismatch hx
  case h_12 => exact .asInjected h fun _ hx => .stateAfter (.execSliceFailure hx) hx
  case h_13 => exact .asInjected h fun _ hx => .stateAfter (.execPseudoChannelFailure hx) hx

theorem RunCanonical.specFaultInject : RunCanonical specFaultInject := fun _ _ _ h => .done (.injectFault (.ite (.modFlt h) h))

theorem OutcomeCanonical.execInjectionDelayExpiry (h : Canonical s) : OutcomeCanonical (execInjectionDelayExpiry s) := by
  unfold Machine.execInjectionDelayExpiry
  refine .next ?_
  split
  · exact h
  · exact .injectFault (.modFlt h)

/-! ## `Machine/Fm` -/

theorem RunCanonical.specFmStatus : RunCanonical specFmStatus := by
  intro _ _ s h
  unfold Machine.specFmStatus
  dsimp -zeta only
  split <;> exact .done h

theorem RunCanonical.specFmIdentify : RunCanonical specFmIdentify := fun _ _ _ h => .done (.drawn h)
theorem RunCanonical.specFmPortState : RunCanonical specFmPortState := fun _ _ _ h => .done (.drawn h)

theorem RunCanonical.specFmPortControl : RunCanonical specFmPortControl := by
  intro _ _ s h
  unfold Machine.specFmPortControl
  dsimp -zeta only
  extract_lets
  refine .done ?_
  split
  · exact .disable h
  · exact .enable h
  · exact .train (.linkCut h)

theorem ResultCanonical.fmConfig {u t p data} (h : Canonical s) : ResultCanonical (s.fmConfig u t p data) :=
  .ite (.done (.ite (.hostStore h) (.commitRoutes (.hostStore h)))) (.done h)

theorem RunCanonical.specFmPpbConfig : RunCanonical specFmPpbConfig := by
  intro _ _ s h
  unfold Machine.specFmPpbConfig
  dsimp -zeta only
  refine .ite (.fmConfig h) ?_
  split
  · exact .fmConfig h
  · exact .fail

theorem RunCanonical.specFmVcsInfo : RunCanonical specFmVcsInfo := fun _ _ _ h => .done h
theorem RunCanonical.specFmBind : RunCanonical specFmBind := fun _ _ _ h => .ite .fail (.started (.queueBind h))
theorem RunCanonical.specFmUnbind : RunCanonical specFmUnbind := fun _ _ _ h => .ite .fail (.started (.queueBind h))
theorem RunCanonical.specFmAer : RunCanonical specFmAer := fun _ _ _ h => .done (.logAer h)
theorem ResultCanonical.fmTunnel {opcode q p} (h : Canonical s) : ResultCanonical (s.fmTunnel opcode q p) :=
  .ite .fail (.done (.drawn (.emit h)))
theorem RunCanonical.specFmTunnel : RunCanonical specFmTunnel := fun _ _ _ h => .fmTunnel h
theorem RunCanonical.specFmLdConfig : RunCanonical specFmLdConfig := fun _ _ _ h => .fmTunnel h
theorem RunCanonical.specFmLdMemory : RunCanonical specFmLdMemory := fun _ _ _ h => .fmTunnel h
theorem RunCanonical.specFmDcdInfo : RunCanonical specFmDcdInfo := fun _ _ _ h => .done h
theorem RunCanonical.specFmDcdRegion : RunCanonical specFmDcdRegion := fun _ _ _ h => .ite .fail (.done h)
theorem RunCanonical.specFmDcdSet : RunCanonical specFmDcdSet := fun _ _ _ h => .done h
theorem RunCanonical.specFmDcdExtents : RunCanonical specFmDcdExtents := fun _ _ _ h => .ite .fail (.done h)

theorem ResultCanonical.fmGrant {ld xs group} (h : Canonical s) : ResultCanonical (s.fmGrant ld xs group) := by
  unfold State.fmGrant
  extract_lets
  refine .ite .fail ?_
  split
  · exact .fail
  · exact .started (.modPol (.bumpId h) fun _ hp => hp)

theorem RunCanonical.specFmDcdAdd : RunCanonical specFmDcdAdd := by
  intro _ _ s h
  unfold Machine.specFmDcdAdd
  dsimp -zeta only
  extract_lets _ _ group
  clear_value group
  refine .ite .fail ?_
  split
  · split
    · exact .fail
    · exact .ite .fail (.started (.startRelease (.bumpId h)))
  · exact .ite .fail (.fmGrant h)
  · exact .ite .fail (.ite .fail (.fmGrant h))

theorem RunCanonical.specFmDcdRelease : RunCanonical specFmDcdRelease := by
  intro _ _ s h
  unfold Machine.specFmDcdRelease
  dsimp -zeta only
  extract_lets
  exact .ite .fail (.ite .fail (.ite (.started (.startRelease (.bumpId (.offer h)))) (.started (.forEach h fun _ _ hx
    => .emit (.modPol (.bumpId hx) fun _ hp => hp)))))

theorem Canonical.fmAnswer {h opcode seq st reply} (hs : Canonical s) : Canonical (s.fmAnswer h opcode seq st reply) :=
  .recordResponse (.emit hs)
theorem Canonical.fmBegin {c h p seq j mctp} (hs : Canonical s) : Canonical (s.fmBegin c h p seq j mctp) := .modCmd (.beginBg hs)

theorem Canonical.fmExec {c : CmdSpec} {h p seq} (hc : RunCanonical c) (hs : Canonical s) : Canonical (c.fmExec h p seq s) := by
  unfold CmdSpec.fmExec
  split
  · exact .fmAnswer hs
  · have hr : ResultCanonical (c.outcome h p s) := .outcome hc hs
    generalize c.outcome h p s = r at hr ⊢
    cases hr with
    | done hs' => exact .fmAnswer hs'
    | started hs' => exact .fmAnswer (.fmBegin hs')
    | finished hs' => exact .fmAnswer (.endBg (.fmBegin hs'))
    | bad => exact .fmAnswer hs
    | fail => exact .fmAnswer hs
    | failed hs' => exact .fmAnswer hs'
    | waits hs' => exact .fmAnswer hs'

theorem runCanonical_of_mem_fmSpecs : ∀ c ∈ fmSpecs, RunCanonical c := by
  simp only [fmSpecs, List.forall_mem_cons]
  exact ⟨.specFmStatus, .specFmIdentify, .specFmPortState, .specFmPortControl, .specFmPpbConfig, .specFmVcsInfo, .specFmBind,
    .specFmUnbind, .specFmAer, .specFmTunnel, .specFmLdConfig, .specFmLdMemory, .specFmDcdInfo, .specFmDcdRegion, .specFmDcdSet,
    .specFmDcdExtents, .specFmDcdAdd, .specFmDcdRelease, List.forall_mem_nil _⟩

theorem OutcomeCanonical.execFmApiCommand {h mctp opcode p} (hs : Canonical s) :
    OutcomeCanonical (execFmApiCommand h mctp opcode p s) := by
  unfold Machine.execFmApiCommand
  refine .next (.ite hs ?_)
  dsimp only
  split
  · exact .ite (.emit hs) (.sendPacket hs)
  next c hc =>
    have hc : RunCanonical c := runCanonical_of_mem_fmSpecs c (List.mem_of_find?_eq_some hc)
    exact .ite (.fmExec hc (.recordCommand hs)) (.fst (.exec hc (.recordCommand hs)))

/-! ## `Machine/RegWrite` -/

theorem Canonical.afterWords {ws} (h : Canonical s) : Canonical (s.afterWords ws) :=
  .forEach h fun _ _ hx => .forEach hx fun _ _ hy => .ite hy (.set hy)

theorem Canonical.storeField {f i new bits} (h : Canonical s) : Canonical (s.storeField f i new bits) := by
  unfold State.storeField
  refine .ite (.setRole h) (.ite (.setPersonality h) (.ite (.ite h (.set (.indicate h))) (.ite (.ite h (.set
    (.indicate h))) ?_)))
  split
  · exact .set h
  · exact .setJ h
  · exact .setJ h
  · exact .set h
  · exact h
  · exact h

theorem Canonical.storeWord {w} (h : Canonical s) : Canonical (s.storeWord w) := by
  unfold State.storeWord
  split
  · exact .writeShadow h
  · exact .forEach h fun _ _ hx => .storeField hx

theorem SndCanonical.storeWords {ws} (h : Canonical s) : SndCanonical (storeWords ws s) := by
  induction ws generalizing s with
  | nil => exact .mk h
  | cons w ws ih =>
    unfold Machine.storeWords
    split
    · exact .mk h
    · exact ih (.storeWord h)

theorem RunCanonical.specRegWrite : RunCanonical specRegWrite := by
  intro _ _ s h
  unfold Machine.specRegWrite
  dsimp -zeta only
  split
  · exact .fail
  · exact .done (.of_snd (.storeWords h) ‹_›)

theorem RunCanonical.specRegRead : RunCanonical specRegRead := fun _ _ _ h => .ite .fail (.done h)

/-! ## `Machine/Time` -/

theorem Canonical.modTim {f} (h : Canonical s) : Canonical (s.modTim f) := .update h
theorem Canonical.setServo {st} (h : Canonical s) : Canonical (s.setServo st) := .set h
theorem Canonical.setQuality {q} (h : Canonical s) : Canonical (s.setQuality q) := .ite h (.recordTime (.set h))
theorem Canonical.sourceUp {src} (h : Canonical s) : Canonical (s.sourceUp src) := .ite (.modTim (.set (.setServo h))) h
theorem Canonical.sourceLost (h : Canonical s) : Canonical (s.sourceLost) := .report (.modTim (.setQuality (.setServo h)))

theorem Canonical.measure {off} (h : Canonical s) : Canonical (s.measure off) := by
  unfold State.measure
  extract_lets _ _ _ s1 _ s2 _ s3
  have hs1 : Canonical s1 := .set h
  have hs2 : Canonical s2 := .ite (.drawn hs1) (.set (.drawn hs1))
  have hs3 : Canonical s3 := .modTim hs2
  exact .ite (.ite (.ite (.modTim hs2) (.modTim hs2)) (.ite (.report (.recordTime hs3)) (.modTim hs2))) (.ite (.ite
    (.ite (.sourceLost hs2) (.modTim hs2)) (.modTim hs2)) hs2)

theorem OutcomeCanonical.execPtpMessage {m} (h : Canonical s) : OutcomeCanonical (execPtpMessage m s) := by
  unfold Machine.execPtpMessage
  extract_lets s1
  have hs1 : Canonical s1 := .modTim h
  refine .next (.ite h ?_)
  split
  · exact .ite h (.ite (.sourceUp (.modTim (.modTim h))) (.modTim (.modTim h)))
  · exact .ite (.ite (.measure hs1) hs1) h
  · exact .ite (.ite (.measure hs1) hs1) h
  · exact .ite (.modTim h) h

theorem OutcomeCanonical.execPpsInEdge (h : Canonical s) : OutcomeCanonical (execPpsInEdge s) := by
  unfold Machine.execPpsInEdge
  extract_lets _ s1 s2 s3
  have hs1 : Canonical s1 := .ite h (.set h)
  have hs2 : Canonical s2 := .sourceUp hs1
  have hs3 : Canonical s3 := .modTim hs2
  exact .next (.ite h (.ite (.modTim h) (.ite h (.ite (.measure hs3) hs3))))

theorem OutcomeCanonical.execServoLock (h : Canonical s) : OutcomeCanonical (execServoLock s) :=
  .next (.ite (.ite (.setQuality (.setServo h)) (.modTim (.set (.setServo (.modTim (.modTim h)))))) h)
theorem OutcomeCanonical.execSourceLoss {cause} (h : Canonical s) : OutcomeCanonical (execSourceLoss cause s) :=
  .next (.ite (.sourceLost (.ite (.modTim h) h)) h)
theorem OutcomeCanonical.execHoldoverExpiry (h : Canonical s) : OutcomeCanonical (execHoldoverExpiry s) :=
  .next (.ite (.report (.setQuality (.setServo h))) (.ite (.report (.setQuality h)) h))
theorem OutcomeCanonical.execPpsOutSecond (h : Canonical s) : OutcomeCanonical (execPpsOutSecond s) := .next (.ite (.emit h) h)
theorem RunCanonical.specTimeInfo : RunCanonical specTimeInfo := fun _ _ _ h => .done h
theorem RunCanonical.specTimeCfg : RunCanonical specTimeCfg := fun _ _ _ h => .done (.modTim (.setJ h))
theorem RunCanonical.specTimeSet : RunCanonical specTimeSet := fun _ _ _ h => .ite .fail (.done (.recordTime (.modTim h)))

/-! ## `Machine/Start` -/

theorem Canonical.modClk {f} (h : Canonical s) : Canonical (s.modClk f) := .update h
theorem Canonical.leave (h : Canonical s) : Canonical (s.leave) := .modClk (.sendLeaving h)
theorem Canonical.enterStandby (h : Canonical s) : Canonical (s.enterStandby) := .modClk (.mainOff (.update (.leave h)))
theorem Canonical.beginBoot (h : Canonical s) : Canonical (s.beginBoot) := .modClk h
theorem Canonical.moduleFlt (h : Canonical s) : Canonical (s.moduleFlt) := .update (.setFlag h)
theorem Canonical.moduleStart {trigger source} (h : Canonical s) : Canonical (s.moduleStart trigger source) :=
  .modTim (.modClk (.beginBoot (.startReset (.moduleFlt (.mainOff (.leave h))))))

theorem Canonical.reapplyHolds (h : Canonical s) : Canonical (s.reapplyHolds) := by
  unfold State.reapplyHolds
  extract_lets s1 s2
  have hs1 : Canonical s1 := by
    unfold s1
    refine .forEach h fun _ _ hx => ?_
    split
    · exact .modPort hx
    · exact .withhold hx
    · exact hx
  have hs2 : Canonical s2 := .forEach hs1 fun _ _ hx => .modPort hx
  exact .forEach hs2 fun _ _ hx => .setFlag hx

theorem Canonical.warmStart {trigger} (h : Canonical s) : Canonical (s.warmStart trigger) :=
  .beginBoot (.startReset (.reapplyHolds (.mainReset (.forEach (.update (.leave h)) fun _ _ hx => .writeBack hx))))

theorem OutcomeCanonical.execColdStart {b} (h : Canonical s) : OutcomeCanonical (execColdStart b s) := by
  unfold Machine.execColdStart
  refine .next (.ite h ?_)
  extract_lets _ _ s1 _ _ s2 s3 s4 s5 s6 s7
  have hs1 : Canonical s1 := .mainReset h
  have hs2 : Canonical s2 := ⟨SMap.wf_filter _ _ hs1.1, hs1.2⟩
  have hs6 : Canonical s6 :=
    .forEach (.forEach (.setFlag (.setFlag (.startReset hs2))) fun _ _ hx => .setFlag hx) fun _ _ hx => .report hx
  have hs7 : Canonical s7 := by
    unfold s7
    split
    · exact .modPfe (.report hs6)
    · exact hs6
  exact .beginBoot (.modClk hs7)

theorem OutcomeCanonical.execMrstNFall (h : Canonical s) : OutcomeCanonical (execMrstNFall s) :=
  .next (.ite (.modClk h) (.enterStandby (.modClk h)))

theorem OutcomeCanonical.execMrstNRise {lowNs} (h : Canonical s) : OutcomeCanonical (execMrstNRise lowNs s) := by
  unfold Machine.execMrstNRise
  extract_lets _ _ t
  have ht : Canonical t := .ite (.drawn h) h
  exact .next (.ite ht (.ite (.modClk ht) (.askStart (.modClk (.ite ht (.enterStandby ht))))))

theorem OutcomeCanonical.execModuleStart {trigger source} (h : Canonical s) :
    OutcomeCanonical (execModuleStart trigger source s) :=
  .next (.ite (.moduleStart h) h)

theorem OutcomeCanonical.execWarmStart {trigger} (h : Canonical s) : OutcomeCanonical (execWarmStart trigger s) :=
  .next (.ite (.ite (.warmStart h) (.modClk h)) h)
theorem RunCanonical.specModuleWarmReset : RunCanonical specModuleWarmReset := fun _ _ _ h => .ite .fail (.done (.askStart h))
theorem RunCanonical.specModuleStandby : RunCanonical specModuleStandby := fun _ _ _ h => .ite .fail (.done (.modClk h))
theorem Canonical.standbyNow (h : Canonical s) : Canonical (s.standbyNow) := .ite (.enterStandby h) h
theorem OutcomeCanonical.execModuleStandby {h p} (hs : Canonical s) : OutcomeCanonical (execModuleStandby h p s) :=
  .next (.standbyNow (.stateAfter (.direct .specModuleStandby hs) hs))
theorem RunCanonical.specJournalFlush : RunCanonical specJournalFlush := fun _ _ _ h => .done (.update h)
theorem RunCanonical.specJournalClear : RunCanonical specJournalClear := fun _ _ _ h => .ite .fail (.done (.journal (.setFlag h)))
theorem OutcomeCanonical.execJournalBufferFlush (h : Canonical s) : OutcomeCanonical (execJournalBufferFlush s) :=
  .next (.ite h (.update h))
theorem OutcomeCanonical.execJournalCompaction (h : Canonical s) : OutcomeCanonical (execJournalCompaction s) :=
  .next (.ite (.update h) h)
theorem Canonical.restoreRun {first count entry} (h : Canonical s) : Canonical (s.restoreRun first count entry) :=
  ⟨h.1, List.foldlRecOn (motive := SMap.wf) (List.range count) _ h.2 fun _ hm _ _ => SMap.wf_store _ _ _ _ hm⟩

theorem Canonical.restoreOne {r} (h : Canonical s) : Canonical (s.restoreOne r) := by
  unfold State.restoreOne
  split
  case h_1 | h_13 => exact .set h
  case h_2 => exact .setPoolDev h
  case h_3 | h_4 | h_11 => exact .update h
  case h_5 | h_6 | h_8 => exact .modPol h fun _ hp => hp
  case h_7 => exact .forEach h fun _ _ hx => .writeBoth hx
  case h_9 => exact .restoreRun h
  case h_10 => exact .modMov h
  case h_12 => exact .modSem (.setFlag (.setFlag h))
  case h_14 => exact .bump (.modBank h)
  case h_15 => exact .set (.modBank h)
  case h_16 => exact h

theorem Canonical.closeRelocs {rs} (h : Canonical s) : Canonical (s.closeRelocs rs) := by
  unfold State.closeRelocs
  refine .forEach h fun _ _ hx => .journal ?_
  split
  · exact .ite hx (.fence hx)
  · exact hx

theorem Canonical.restoreResult (h : Canonical s) : Canonical (s.restoreResult) := by
  unfold State.restoreResult
  extract_lets
  split
  · exact .set h
  · exact .ite (.report (.set h)) (.report (.set h))

theorem Canonical.startChannels {rs t} (h : Canonical s) : Canonical (s.startChannels rs t) :=
  .ite (.ite (.set h) (.journal (.set h))) (.forEach (.ite (.set h) (.journal (.set h))) fun _ _ hx => .failPc hx)
theorem Canonical.startRemap {rs} (h : Canonical s) : Canonical (s.startRemap rs) := .showReserve (.ite h (.modVlt h))

theorem Canonical.startUnits {t} (h : Canonical s) : Canonical (s.startUnits t) := by
  unfold State.startUnits
  extract_lets s1 _ _ s2 s3 s4
  have hs1 : Canonical s1 := .forEach h fun _ _ hx => .failPlane hx
  have hs2 : Canonical s2 := .ite hs1 (.writeBoth hs1)
  have hs3 : Canonical s3 := .forEach hs2 fun _ _ hx => .ite (.setFlag hx) (.report (.setFlag hx))
  have hs4 : Canonical s4 := .ite hs3 (.modVlt hs3)
  exact .forEach hs4 fun _ _ hx => .retrainBundle hx

theorem Canonical.poisonShared (h : Canonical s) : Canonical (s.poisonShared) := by
  unfold State.poisonShared
  extract_lets _ s1 s2
  have hs1 : Canonical s1 := .modPol h fun p hp =>
    SMap.wf_modAll p.map (fun e => if entValid e && entShared e then putBit e 4 true else e) hp
  exact .closeOpen (.forEach (.journals hs1) fun _ _ hx => .reportOpen hx)

theorem Canonical.warmWalk (h : Canonical s) :
    Canonical (s.warmWalk) := .closeOpen (.forEach (.update h) fun _ _ hx => .reportOpen hx)
theorem Canonical.startDecoders (h : Canonical s) : Canonical (s.startDecoders) := .update h
theorem Canonical.startRecord (h : Canonical s) : Canonical (s.startRecord) := .modClk (.checkpoint (.record (.update h)))

theorem setKey_wf {regs} {k v} (h : SMap.wf regs) : SMap.wf (setKey regs k v) := by
  unfold setKey
  split
  · exact SMap.wf_store _ _ _ _ h
  · exact h

theorem fields_wf {j : Journal} {regs} (h : SMap.wf regs) : SMap.wf (j.fields regs) := by
  refine List.foldlRecOn (motive := SMap.wf) j.good _ (SMap.wf_filter _ _ h) fun m hm r _ => ?_
  split
  · exact setKey_wf hm
  · exact hm

theorem Canonical.restoreJournal {t} (h : Canonical s) : Canonical (s.restoreJournal t) := by
  have hs : Canonical { s with regs := s.jnl.fields s.regs } := ⟨fields_wf h.1, h.2⟩
  exact .showPrimary (.closeRelocs (.forEach (.startRemap (.startChannels (.update (.restoreResult hs))))
    fun _ _ hx => .restoreOne hx))

theorem OutcomeCanonical.execJournalRestore {t} (h : Canonical s) : OutcomeCanonical (execJournalRestore t s) := by
  unfold Machine.execJournalRestore
  extract_lets s1 s2 s3 s4 s5
  have hs1 : Canonical s1 := .startUnits (.restoreJournal h)
  have hs2 : Canonical s2 := .ite (.warmWalk hs1) (.poisonShared hs1)
  have hs3 : Canonical s3 := .modPol (.startDecoders hs2) fun _ hp => hp
  have hs4 : Canonical s4 := .startRecord (.setFlag hs3)
  have hs5 : Canonical s5 := .forEach hs4 fun _ _ hx => .setFlag hx
  exact .next (.ite h (.modClk hs5))

theorem OutcomeCanonical.execModReadyAssert (h : Canonical s) : OutcomeCanonical (execModReadyAssert s) :=
  .next (.ite h (.forEach (.slotsReady (.set (.modClk h))) fun _ _ hx => .train hx))
theorem OutcomeCanonical.execRootPllFail (h : Canonical s) : OutcomeCanonical (execRootPllFail s) :=
  .next (.ite h (.report (.setQuality (.modTim (.setServo (.report (.modClk h)))))))

theorem OutcomeCanonical.execRootPllNoLock (h : Canonical s) : OutcomeCanonical (execRootPllNoLock s) := by
  unfold Machine.execRootPllNoLock
  refine .next ?_
  split
  case h_1 | h_2 | h_3 | h_4 => exact .report (.modClk h)
  case h_5 => exact h

theorem OutcomeCanonical.execThermalWarning {lid} (h : Canonical s) : OutcomeCanonical (execThermalWarning lid s) :=
  .next (.ite h (.ite (.report (.setFlag (.modClk (.set h)))) (.ite (.setFlag (.modClk (.set h))) (.set h))))

theorem OutcomeCanonical.execThermalTrip {sensor celsius} (h : Canonical s) :
    OutcomeCanonical (execThermalTrip sensor celsius s) :=
  .next (.ite h (.ite (.report (.modClk (.ite (.set h) (.set h)))) (.ite (.set h) (.set h))))

theorem OutcomeCanonical.execJtagTapOperation {op} (h : Canonical s) : OutcomeCanonical (execJtagTapOperation op s) := by
  unfold Machine.execJtagTapOperation
  extract_lets _ _ _ bypass
  have hbypass : Canonical bypass := .emit (.update h)
  refine .next (.ite h ?_)
  split
  case h_1 => exact hbypass
  case h_2 | h_3 => exact .emit (.update h)
  case h_4 | h_5 | h_6 => exact .ite (.emit (.update (.update h))) hbypass
  case h_7 | h_8 => exact .ite (.emit (.update h)) hbypass
  case h_9 => exact .update h

/-! ## `Machine/Interface` -/

theorem RunCanonical.specModuleIdentify : RunCanonical specModuleIdentify := fun _ _ _ h => .done h
theorem RunCanonical.specModuleStatus : RunCanonical specModuleStatus := fun _ _ _ h => .done h

theorem RunCanonical.specCmdStatus : RunCanonical specCmdStatus := by
  intro _ _ s h
  unfold Machine.specCmdStatus
  dsimp -zeta only
  split
  · exact .done h
  · exact .bad

theorem RunCanonical.specCmdCancel : RunCanonical specCmdCancel := by
  intro _ _ s h
  unfold Machine.specCmdCancel
  dsimp -zeta only
  extract_lets
  split
  · exact .done (.forEach (.modCmd h) fun _ _ hx => .answerQueued hx)
  · split
    · exact .done (.discardChain h)
    · exact .fail

theorem runCanonical_of_mem_specs1 : ∀ c ∈ specs1, RunCanonical c := by
  simp only [specs1, List.forall_mem_cons]
  exact ⟨.specModuleIdentify, .specModuleStatus, .specCmdStatus, .specCmdCancel, .specPartnerRelay, .specModuleWarmReset,
    .specModuleStandby, .specJournalFlush, .specJournalClear, .specPfeInfo, .specPfeSwitch, .specPfeHoldupTest, .specSlotInfo,
    .specSlotPower, .specSlotBind, .specSlotIndicator, .specPortInfo, .specPortRoleSet, .specPortMgmtSet, .specMcGroupAllot,
    .specPortStats, .specLaneInfo, .specBayWidthSet, .specLinkCtl, .specLaneMargin, .specLaneTest, .specSeamInfo,
    .specSeamBundleCtl, .specTwinEnable, .specTwinDisable, .specTwinGroupSet, List.forall_mem_nil _⟩

theorem runCanonical_of_mem_specs2 : ∀ c ∈ specs2, RunCanonical c := by
  simp only [specs2, List.forall_mem_cons]
  exact ⟨.specXbrInfo, .specXbrMcPolicySet, .specXbrPlaneRetire, .specXbrStats, .specSchInfo, .specSchTelemRead,
    .specSchTelemExport, .specSchTelemClear, .specSchHoldRead, .specPoolInfo, .specDspPersonalitySet, .specPoolViewSet,
    .specLdCreate, .specLdDestroy, .specExtentGrant, .specExtentRelease, .specExtentRead, .specShareGroupSet,
    .specRelocateStart, .specRelocateAbort, .specRelocateStatus, .specMirrorResync, .specDirInfo, .specDirLineRead,
    .specDirSetRead, .specDirRangeFlush, .specDirPoisonClear, .specDirStats, .specMovInfo, .specMovAllotSet,
    .specMovHostWeightSet, .specMovFnRead, .specMovFnReset, .specMovStats, .specVaultInfo, .specVaultPageRead,
    .specVaultStrengthSet, .specVaultAnnealCtl, .specVaultRetire, .specVaultRetiredRead, .specVaultStats, List.forall_mem_nil _⟩

theorem runCanonical_of_mem_specs3 : ∀ c ∈ specs3, RunCanonical c := by
  simp only [specs3, List.forall_mem_cons]
  exact ⟨.specFaultInfo, .specFaultHistRead, .specFaultAck, .specFaultCountRead, .specFaultSubscribe, .specQuenchRead,
    .specQuenchAck, .specQuenchRelease, .specFaultDumpRead, .specFaultDumpRelease, .specSafeReset, .specTouchstoneEnter,
    .specFaultInject, .specHlmInfo, .specLedgerRead, .specLedgerArchiveAck, .specIdentityCertRead, .specFwUpdateStart,
    .specFwUpdateWrite, .specFwUpdateVerify, .specFwActivate, .specFwCommit, .specConfigLock, .specConfigUnlock, .specRootSet,
    .specIdeStatus, .specTimeInfo, .specTimeCfg, .specTimeSet, .specTranscriptInfo, .specTranscriptRead, .specTranscriptExport,
    .specTranscriptFreeze, .specTranscriptCheckpoint, .specReplayStart, .specReplayStatus, .specReplayAbort, .specRegRead,
    .specRegWrite, .specTableRead, .specTableWrite, .specCommit, .specEpochRead, List.forall_mem_nil _⟩

/-- Every command of the opcode map keeps the canonical form. -/
theorem runCanonical_of_specOf {op c} (h : specOf op = some c) : RunCanonical c := by
  have hc : c ∈ specs1 ++ specs2 ++ specs3 ++ fmSpecs := List.mem_of_find?_eq_some h
  simp only [List.mem_append] at hc
  rcases hc with ((hc | hc) | hc) | hc
  · exact runCanonical_of_mem_specs1 c hc
  · exact runCanonical_of_mem_specs2 c hc
  · exact runCanonical_of_mem_specs3 c hc
  · exact runCanonical_of_mem_fmSpecs c hc

theorem Canonical.runCmds {qs} (h : Canonical s) : Canonical (runCmds qs s) := by
  induction qs generalizing s with
  | nil => exact h
  | cons q qs ih =>
    unfold Machine.runCmds
    split
    · exact ih (.answerQueued h)
    next c hc =>
      extract_lets r t
      have ht : Canonical t := .standbyNow (.fst (.exec (runCanonical_of_specOf hc) h))
      exact .ite (.update ht) (.ite (ih ht) (.forEach ht fun _ _ hx => .answerQueued hx))

theorem Canonical.takeJob (h : Canonical s) : Canonical (s.takeJob) := by
  unfold State.takeJob
  refine .ite h ?_
  split
  · exact h
  · exact .runCmds (.modCmd h)

theorem Canonical.endWork {b} (h : Canonical s) : Canonical (s.endWork b) :=
  .ite h (.ite (.endVerify h) (.ite (.endBg (.update (.modPort (.drawn h)))) h))
theorem Canonical.complete {b st reply} (h : Canonical s) : Canonical (s.complete b st reply) :=
  .recordResponse (.ite (.modCmd h) (.sendEvent (.modCmd h)))

theorem Canonical.bgEnd {id} (h : Canonical s) : Canonical (s.bgEnd id) := by
  unfold State.bgEnd
  split
  · exact h
  · extract_lets s1
    have hs1 : Canonical s1 := .endWork h
    split
    · exact hs1
    · exact .complete hs1

theorem OutcomeCanonical.execBackgroundCommandEnd {id} (h : Canonical s) : OutcomeCanonical (execBackgroundCommandEnd id s) :=
  .next (.bgEnd h)

/-! ## `Machine/Tick` -/

theorem Canonical.tickTime (h : Canonical s) : Canonical (tickTime s) := .ite h (.update h)
theorem Canonical.idleTick (h : Canonical s) : Canonical (idleTick s) :=
  .takeJob (.ite (.settlePend (.update (.tickTime h))) (.update (.tickTime h)))

/-! ## Dispatch and step -/

/-- Every command keeps the canonical form. -/
theorem OutcomeCanonical.exec (i : Instr) (h : Canonical s) : OutcomeCanonical (exec i s) := by
  cases i with
  | moduleIdentify => exact .direct .specModuleIdentify h
  | moduleStatus => exact .direct .specModuleStatus h
  | cmdStatus => exact .direct .specCmdStatus h
  | cmdCancel => exact .direct .specCmdCancel h
  | partnerRelay => exact .direct .specPartnerRelay h
  | moduleWarmReset => exact .direct .specModuleWarmReset h
  | moduleStandby => exact .execModuleStandby h
  | journalFlush => exact .direct .specJournalFlush h
  | journalClear => exact .direct .specJournalClear h
  | pfeInfo => exact .direct .specPfeInfo h
  | pfeSwitch => exact .direct .specPfeSwitch h
  | pfeHoldupTest => exact .direct .specPfeHoldupTest h
  | slotInfo => exact .direct .specSlotInfo h
  | slotPower => exact .direct .specSlotPower h
  | slotBind => exact .direct .specSlotBind h
  | slotIndicator => exact .direct .specSlotIndicator h
  | portInfo => exact .direct .specPortInfo h
  | portRoleSet => exact .direct .specPortRoleSet h
  | portMgmtSet => exact .direct .specPortMgmtSet h
  | mcGroupAllot => exact .direct .specMcGroupAllot h
  | portStats => exact .direct .specPortStats h
  | laneInfo => exact .direct .specLaneInfo h
  | bayWidthSet => exact .direct .specBayWidthSet h
  | linkCtl => exact .direct .specLinkCtl h
  | laneMargin => exact .direct .specLaneMargin h
  | laneTest => exact .direct .specLaneTest h
  | seamInfo => exact .direct .specSeamInfo h
  | seamBundleCtl => exact .direct .specSeamBundleCtl h
  | twinEnable => exact .direct .specTwinEnable h
  | twinDisable => exact .direct .specTwinDisable h
  | twinGroupSet => exact .direct .specTwinGroupSet h
  | xbrInfo => exact .direct .specXbrInfo h
  | xbrMcPolicySet => exact .direct .specXbrMcPolicySet h
  | xbrPlaneRetire => exact .direct .specXbrPlaneRetire h
  | xbrStats => exact .direct .specXbrStats h
  | schInfo => exact .direct .specSchInfo h
  | schTelemRead => exact .direct .specSchTelemRead h
  | schTelemExport => exact .direct .specSchTelemExport h
  | schTelemClear => exact .direct .specSchTelemClear h
  | schHoldRead => exact .direct .specSchHoldRead h
  | poolInfo => exact .direct .specPoolInfo h
  | dspPersonalitySet => exact .direct .specDspPersonalitySet h
  | poolViewSet => exact .direct .specPoolViewSet h
  | ldCreate => exact .direct .specLdCreate h
  | ldDestroy => exact .direct .specLdDestroy h
  | extentGrant => exact .direct .specExtentGrant h
  | extentRelease => exact .direct .specExtentRelease h
  | extentRead => exact .direct .specExtentRead h
  | shareGroupSet => exact .direct .specShareGroupSet h
  | relocateStart => exact .direct .specRelocateStart h
  | relocateAbort => exact .direct .specRelocateAbort h
  | relocateStatus => exact .direct .specRelocateStatus h
  | mirrorResync => exact .direct .specMirrorResync h
  | dirInfo => exact .direct .specDirInfo h
  | dirLineRead => exact .direct .specDirLineRead h
  | dirSetRead => exact .direct .specDirSetRead h
  | dirRangeFlush => exact .direct .specDirRangeFlush h
  | dirPoisonClear => exact .direct .specDirPoisonClear h
  | dirStats => exact .direct .specDirStats h
  | movInfo => exact .direct .specMovInfo h
  | movAllotSet => exact .direct .specMovAllotSet h
  | movHostWeightSet => exact .direct .specMovHostWeightSet h
  | movFnRead => exact .direct .specMovFnRead h
  | movFnReset => exact .direct .specMovFnReset h
  | movStats => exact .direct .specMovStats h
  | vaultInfo => exact .direct .specVaultInfo h
  | vaultPageRead => exact .direct .specVaultPageRead h
  | vaultStrengthSet => exact .direct .specVaultStrengthSet h
  | vaultAnnealCtl => exact .direct .specVaultAnnealCtl h
  | vaultRetire => exact .direct .specVaultRetire h
  | vaultRetiredRead => exact .direct .specVaultRetiredRead h
  | vaultStats => exact .direct .specVaultStats h
  | faultInfo => exact .direct .specFaultInfo h
  | faultHistRead => exact .direct .specFaultHistRead h
  | faultAck => exact .direct .specFaultAck h
  | faultCountRead => exact .direct .specFaultCountRead h
  | faultSubscribe => exact .direct .specFaultSubscribe h
  | quenchRead => exact .direct .specQuenchRead h
  | quenchAck => exact .direct .specQuenchAck h
  | quenchRelease => exact .direct .specQuenchRelease h
  | faultDumpRead => exact .direct .specFaultDumpRead h
  | faultDumpRelease => exact .direct .specFaultDumpRelease h
  | safeReset => exact .direct .specSafeReset h
  | hlmInfo => exact .direct .specHlmInfo h
  | ledgerRead => exact .direct .specLedgerRead h
  | ledgerArchiveAck => exact .direct .specLedgerArchiveAck h
  | identityCertRead => exact .direct .specIdentityCertRead h
  | fwUpdateStart => exact .direct .specFwUpdateStart h
  | fwUpdateWrite => exact .direct .specFwUpdateWrite h
  | fwUpdateVerify => exact .direct .specFwUpdateVerify h
  | fwActivate => exact .direct .specFwActivate h
  | fwCommit => exact .direct .specFwCommit h
  | configLock => exact .direct .specConfigLock h
  | configUnlock => exact .direct .specConfigUnlock h
  | rootSet => exact .direct .specRootSet h
  | ideStatus => exact .direct .specIdeStatus h
  | timeInfo => exact .direct .specTimeInfo h
  | timeCfg => exact .direct .specTimeCfg h
  | timeSet => exact .direct .specTimeSet h
  | transcriptInfo => exact .direct .specTranscriptInfo h
  | transcriptRead => exact .direct .specTranscriptRead h
  | transcriptExport => exact .direct .specTranscriptExport h
  | transcriptFreeze => exact .direct .specTranscriptFreeze h
  | transcriptCheckpoint => exact .direct .specTranscriptCheckpoint h
  | replayStart => exact .direct .specReplayStart h
  | replayStatus => exact .direct .specReplayStatus h
  | replayAbort => exact .direct .specReplayAbort h
  | regRead => exact .direct .specRegRead h
  | regWrite => exact .direct .specRegWrite h
  | tableRead => exact .direct .specTableRead h
  | tableWrite => exact .direct .specTableWrite h
  | commit => exact .direct .specCommit h
  | epochRead => exact .direct .specEpochRead h
  | touchstoneEnter => exact .direct .specTouchstoneEnter h
  | faultInject => exact .direct .specFaultInject h
  | fmApiCommand => exact .execFmApiCommand h
  | spdmRequest => exact .execSpdmRequest h
  | migrationKeyInstall => exact .execMigrationKeyInstall h
  | ideKmKeyReceive => exact .execIdeKmKeyReceive h
  | commandPacketReceive => exact .execCommandPacketReceive h
  | chainAssemblyTimeout => exact .execChainAssemblyTimeout h
  | backgroundCommandEnd => exact .execBackgroundCommandEnd h
  | mbxGo => exact .execMbxGo h
  | mbxEvtAck => exact .execMbxEvtAck h
  | personalityWrite => exact .direct .specRegWrite h
  | roleWrite => exact .direct .specRegWrite h
  | breakerCurveWrite => exact .direct .specRegWrite h
  | registerWrite => exact .direct .specRegWrite h
  | sqTailDb => exact .execSqTailDb h
  | cqHeadDb => exact .execCqHeadDb h
  | sqEnableWrite => exact .execSqEnableWrite h
  | cqEnableWrite => exact .execCqEnableWrite h
  | migrationFreeze => exact .execMigrationFreeze h
  | migrationSave => exact .execMigrationSave h
  | migrationRestore => exact .execMigrationRestore h
  | migrationResume => exact .execMigrationResume h
  | freezeTimeout => exact .execFreezeTimeout h
  | vfEnableWrite => exact .execVfEnableWrite h
  | initiateFlr => exact .execInitiateFlr h
  | flrDrainEnd => exact .execFlrDrainEnd h
  | msixUnmask => exact .execMsixUnmask h
  | descriptorFetch => exact .execDescriptorFetch h
  | descriptorFetchError => exact .execDescriptorFetchError h
  | descriptorOpen => exact .execDescriptorOpen h
  | chunkIssue => exact .execChunkIssue h
  | chunkResponse => exact .execChunkResponse h
  | descriptorComplete => exact .execDescriptorComplete h
  | msixCoalesceTimer => exact .execMsixCoalesceTimer h
  | engineFailure => exact .execEngineFailure h
  | moverSramError => exact .execMoverSramError h
  | hdmDecoderCommit => exact .execHdmDecoderCommit h
  | hostConfigWrite => exact .execHostConfigWrite h
  | multicastCapWrite => exact .execMulticastCapWrite h
  | slotControlWrite => exact .execSlotControlWrite h
  | dpcStatusClear => exact .execDpcStatusClear h
  | secondaryBusReset => exact .execSecondaryBusReset h
  | linkDisableClear => exact .execLinkDisableClear h
  | configRequest => exact .execConfigRequest h
  | cxlMemRequest => exact .execCxlMemRequest h
  | cxlIoTlpReceive => exact .execCxlIoTlpReceive h
  | poolRangeIoRequest => exact .execPoolRangeIoRequest h
  | atomicopReceive => exact .execAtomicopReceive h
  | policerRelease => exact .execPolicerRelease h
  | extentMapMissFill => exact .execExtentMapMissFill h
  | sliceAdmit => exact .execSliceAdmit h
  | dirCacheMissFill => exact .execDirCacheMissFill h
  | dirtyPageWriteback => exact .execDirtyPageWriteback h
  | birspReceive => exact .execBirspReceive h
  | ownerWritebackReceive => exact .execOwnerWritebackReceive h
  | biconflictReceive => exact .execBiconflictReceive h
  | transactionEnd => exact .execTransactionEnd h
  | evictionEnd => exact .execEvictionEnd h
  | snoopTimeout => exact .execSnoopTimeout h
  | lostPortWalkEnd => exact .execLostPortWalkEnd h
  | homeMapHoldEnd => exact .execHomeMapHoldEnd h
  | dirPageDoubleFail => exact .execDirPageDoubleFail h
  | sliceFailure => exact .execSliceFailure h
  | deviceCompletion => exact .execDeviceCompletion h
  | moduleRequestTimeout => exact .execModuleRequestTimeout h
  | quarantineExpiry => exact .execQuarantineExpiry h
  | poolDeviceAccept => exact .execPoolDeviceAccept h
  | poolDeviceEventPoll => exact .execPoolDeviceEventPoll h
  | poolDeviceErrMessage => exact .execPoolDeviceErrMessage h
  | startHoldExpiry => exact .execStartHoldExpiry h
  | fillComplete => exact .execFillComplete h
  | releaseInvalidateEnd => exact .execReleaseInvalidateEnd h
  | releaseTimeout => exact .execReleaseTimeout h
  | hostReleaseCapacity => exact .execHostReleaseCapacity h
  | relocationBatchEnd => exact .execRelocationBatchEnd h
  | relocationExtentAbort => exact .execRelocationExtentAbort h
  | relocationSlotFree => exact .execRelocationSlotFree h
  | changeListWritable => exact .execChangeListWritable h
  | extentPageRebuild => exact .execExtentPageRebuild h
  | managedRemoveTimeout => exact .execManagedRemoveTimeout h
  | journalBufferFlush => exact .execJournalBufferFlush h
  | journalCompaction => exact .execJournalCompaction h
  | pipelineBankSwitch => exact .execPipelineBankSwitch h
  | switchFailureTimeout => exact .execSwitchFailureTimeout h
  | shadowRefill => exact .execShadowRefill h
  | moduleCommit => exact .execModuleCommit h
  | messagePromotion => exact .execMessagePromotion h
  | ingotReceive _ _ _ payload => exact .execIngotReceive (payload := payload) h
  | ingotAckTimeout => exact .execIngotAckTimeout h
  | planeProbeTimeout => exact .execPlaneProbeTimeout h
  | spareSelfTest => exact .execSpareSelfTest h
  | headroomGrant => exact .execHeadroomGrant h
  | egressSelect => exact .execEgressSelect h
  | telemetrySample => exact .execTelemetrySample h
  | telemetryExportInterval => exact .execTelemetryExportInterval h
  | linkUp => exact .execLinkUp h
  | linkDown => exact .execLinkDown h
  | aerError => exact .execAerError h
  | dpcTrigger => exact .execDpcTrigger h
  | surpriseHotRemove => exact .execSurpriseHotRemove h
  | ideIntegrityFailure => exact .execIdeIntegrityFailure h
  | ideRekeyTimer => exact .execIdeRekeyTimer h
  | ideRequiredRetry => exact .execIdeRequiredRetry h
  | pmeTurnOff => exact .execPmeTurnOff h
  | pmeAckTimeout => exact .execPmeAckTimeout h
  | aspmL1Idle => exact .execAspmL1Idle h
  | perstNEdge => exact .execPerstNEdge h
  | portReset => exact .execPortReset h
  | fomUpdate => exact .execFomUpdate h
  | fomAlert => exact .execFomAlert h
  | laneLoss => exact .execLaneLoss h
  | equalisation => exact .execEqualisation h
  | trainingAttemptFail => exact .execTrainingAttemptFail h
  | parkedDetect => exact .execParkedDetect h
  | hostMarginCommand => exact .execHostMarginCommand h
  | bayPllLockLoss => exact .execBayPllLockLoss h
  | bayPllRelock => exact .execBayPllRelock h
  | bundleStateAdvance => exact .execBundleStateAdvance h
  | seamAdaptStep => exact .execSeamAdaptStep h
  | seamLaneLoss => exact .execSeamLaneLoss h
  | seamSpareRequest => exact .execSeamSpareRequest h
  | bundleDown => exact .execBundleDown h
  | bundleRetrainTimer => exact .execBundleRetrainTimer h
  | seamFrameReceive => exact .execSeamFrameReceive h
  | seamResend => exact .execSeamResend h
  | streamReturn => exact .execStreamReturn h
  | partnerLoss => exact .execPartnerLoss h
  | leavingMessage => exact .execLeavingMessage h
  | twinRelayedRequest => exact .execTwinRelayedRequest h
  | vaultRead => exact .execVaultRead h
  | vaultSubpageWrite => exact .execVaultSubpageWrite h
  | vaultFullPageWrite => exact .execVaultFullPageWrite h
  | crucibleWriteback => exact .execCrucibleWriteback h
  | annealRead => exact .execAnnealRead h
  | annealOverrun => exact .execAnnealOverrun h
  | pageRetirement => exact .execPageRetirement h
  | pseudoChannelFailure => exact .execPseudoChannelFailure h
  | sramWordError => exact .execSramWordError h
  | sramRowRepair => exact .execSramRowRepair h
  | sramBankCopyEnd => exact .execSramBankCopyEnd h
  | sramAnnealPass => exact .execSramAnnealPass h
  | fltEventAccept => exact .execFltEventAccept h
  | promotionWindowExpiry => exact .execPromotionWindowExpiry h
  | graceExpiry => exact .execGraceExpiry h
  | flushEnd => exact .execFlushEnd h
  | dumpReleaseEraseEnd => exact .execDumpReleaseEraseEnd h
  | lockstepMismatch => exact .execLockstepMismatch h
  | coreFailover => exact .execCoreFailover h
  | bootRomStart => exact .execBootRomStart h
  | bootEntryWrite => exact .execBootEntryWrite h
  | ledgerEntryWrite => exact .execLedgerEntryWrite h
  | ledgerBlockReclaim => exact .execLedgerBlockReclaim h
  | trialBootDeadline => exact .execTrialBootDeadline h
  | spdmHeartbeatMiss => exact .execSpdmHeartbeatMiss h
  | ptpMessage => exact .execPtpMessage h
  | ppsInEdge => exact .execPpsInEdge h
  | servoLock => exact .execServoLock h
  | anchor => exact .execAnchor h
  | sourceLoss => exact .execSourceLoss h
  | holdoverExpiry => exact .execHoldoverExpiry h
  | ppsOutSecond => exact .execPpsOutSecond h
  | rootPllFail => exact .execRootPllFail h
  | transcriptInput => exact .execTranscriptInput h
  | checkpointTimer => exact .execCheckpointTimer h
  | transcriptGap => exact .execTranscriptGap h
  | replayEnd => exact .execReplayEnd h
  | acrakTimer => exact .execAcrakTimer h
  | coldStart => exact .execColdStart h
  | mrstNFall => exact .execMrstNFall h
  | mrstNRise => exact .execMrstNRise h
  | moduleStart => exact .execModuleStart h
  | warmStart => exact .execWarmStart h
  | journalRestore => exact .execJournalRestore h
  | modReadyAssert => exact .execModReadyAssert h
  | feedRangeChange => exact .execFeedRangeChange h
  | feedQualified => exact .execFeedQualified h
  | switchover => exact .execSwitchover h
  | feedReturn => exact .execFeedReturn h
  | reverseCurrent => exact .execReverseCurrent h
  | feedCloseFail => exact .execFeedCloseFail h
  | holdupChargeCheck => exact .execHoldupChargeCheck h
  | rideThrough => exact .execRideThrough h
  | imminentLoss => exact .execImminentLoss h
  | standbyDomainOff => exact .execStandbyDomainOff h
  | breakerEvaluation => exact .execBreakerEvaluation h
  | trip => exact .execTrip h
  | fastTrip => exact .execFastTrip h
  | inrushTimeout => exact .execInrushTimeout h
  | coolDownEnd => exact .execCoolDownEnd h
  | supervisorPowerLoss => exact .execSupervisorPowerLoss h
  | railFault => exact .execRailFault h
  | pwrgdQualify => exact .execPwrgdQualify h
  | slotBusRangeChange => exact .execSlotBusRangeChange h
  | presenceDebounceEnd => exact .execPresenceDebounceEnd h
  | slotRemoval => exact .execSlotRemoval h
  | attentionButtonPress => exact .execAttentionButtonPress h
  | channelClose => exact .execChannelClose h
  | channelCloseFail => exact .execChannelCloseFail h
  | channelInrushTimeout => exact .execChannelInrushTimeout h
  | channelBreakerEvaluation => exact .execChannelBreakerEvaluation h
  | channelTrip => exact .execChannelTrip h
  | slPgoodQualify => exact .execSlPgoodQualify h
  | slPerstRelease => exact .execSlPerstRelease h
  | channelOpenRequest => exact .execChannelOpenRequest h
  | channelCoolDownEnd => exact .execChannelCoolDownEnd h
  | thermalWarning => exact .execThermalWarning h
  | thermalTrip => exact .execThermalTrip h
  | rootPllNoLock => exact .execRootPllNoLock h
  | tokenRefill => exact .execTokenRefill h
  | ingotSlot => exact .execIngotSlot h
  | partnerL0pRequest => exact .execPartnerL0pRequest h
  | prbsLock => exact .execPrbsLock h
  | blockLock => exact .execBlockLock h
  | seamSpareFailure => exact .execSeamSpareFailure h
  | holdupCharged => exact .execHoldupCharged h
  | inrushComplete => exact .execInrushComplete h
  | slPrsntNFall => exact .execSlPrsntNFall h
  | channelSwitchOpen => exact .execChannelSwitchOpen h
  | hostAddCapacityResponse => exact .execHostAddCapacityResponse h
  | transportLost => exact .execTransportLost h
  | jtagTapOperation => exact .execJtagTapOperation h
  | injectionDelayExpiry => exact .execInjectionDelayExpiry h
  | passThroughCxlMessage => exact .execPassThroughCxlMessage h

/-- Every step keeps the canonical form: it is a command's, on the state with the queue's rest, or the idle step. -/
theorem OutcomeCanonical.step (h : Canonical s) : OutcomeCanonical (step s) := by
  unfold Machine.step
  split
  · exact .next (.idleTick h)
  · exact .exec _ (.update h)

end

end Sys2Proof.Safety

namespace Sys2Proof.Claims

open Sys2Proof.Machine

/-- Settles O8: the form is kept by every function of the model (`Safety.OutcomeCanonical.step`). -/
theorem everyStepKeepsCanonical : Obligations.EveryStepKeepsCanonical := by
  intro s t hs ht
  have h : Safety.OutcomeCanonical (step s) := .step hs
  rw [ht] at h
  cases h with
  | next h => exact h

end Sys2Proof.Claims

namespace Sys2Proof.Machine

/-- A check that finds a bad field ends a command that its requester may issue and no lock holds back. -/
theorem CmdSpec.outcome_bad (c : CmdSpec) {h : Hdr} {p : Bytes} {s : State} {off : Nat} (hmay : s.mayIssue c h p = true)
    (hdeny : c.deny h p s = false) (hlock : (c.locks p s && s.flag Reg.HLM_STATUS_LOCKED) = false)
    (hcheck : c.check h p s = some off) : c.outcome h p s = .bad off := by
  simp only [CmdSpec.outcome, hmay, hdeny, hlock, hcheck]
  rfl

/-- An answer over I3C is one packet sent outside. -/
theorem State.answer_out_i3c (s : State) {req : Requester} (session : Option Nat) (opcode tag context seq status : Nat)
    (reply : Bytes) (hreq : req.transport = .i3c) :
    (s.answer req session opcode tag context seq status reply).out =
      .packet req session (mkPacket (if status = stStarted then 3 else 1) opcode tag context status reply) :: s.out := by
  simp [State.answer, State.recordResponse, State.sendPacket, hreq]

end Sys2Proof.Machine

namespace Sys2Proof.Claims

open Sys2Proof.Machine

/-- A requester on I3C without a session: OPERATE. -/
def operator : Hdr := { req := { transport := .i3c, source := 0 }, session := none, tag := 0, context := 0 }

/-- A module in operation whose register file lists POL_MP_WINDOW twice. The file is not canonical: removing the first entry, which
storing the reset value does, shows the second. -/
def twiceListed : State :=
  { State.reset with
    clk := { Clk.reset with phase := .ready }
    regs := [(Reg.POL_MP_WINDOW.key 0, 0), (Reg.POL_MP_WINDOW.key 0, 99)] }

/-- The parameters of a REG_WRITE of 0 to POL_MP_WINDOW. -/
def clearWindow : Bytes := oneWord 0x0A000118 0

theorem twiceListed_operating : Operating twiceListed ∧ Privileged .operate operator twiceListed := by decide

set_option maxRecDepth 20000 in
/-- Storing the reset value 0 uncovers 99, which is out of the field's range: the check names the word. -/
theorem check_clearWindow_twiceListed :
    specRegWrite.check operator clearWindow (specRegWrite.recorded operator clearWindow twiceListed) = some 8 := by decide

set_option maxRecDepth 20000 in
/-- The REG_WRITE answers BAD_PARAM. -/
theorem registerWrite_twiceListed :
    exec (.registerWrite operator 0x0A000118 0) twiceListed = .next (specRegWrite.answered operator twiceListed
      (specRegWrite.recorded operator clearWindow twiceListed) stBadParam (offsetReply 8)) :=
  specRegWrite.direct_bad (by decide) (by decide)
    (specRegWrite.outcome_bad (by decide) (by decide) (by decide) check_clearWindow_twiceListed)

/-- Refutes O32: its second clause leaves out that the register file is canonical. Where the file lists POL_MP_WINDOW twice, a write
of 0 answers BAD_PARAM, whose packet carries an offset, and not SUCCESS. No run reaches such a state (O8). -/
theorem not_registerAccess : ¬ Obligations.RegisterAccess := by
  intro h
  obtain ⟨-, hwindow, -⟩ := h
  have hsuccess := hwindow 0 operator twiceListed twiceListed_operating.1 twiceListed_operating.2
  rw [registerWrite_twiceListed] at hsuccess
  have hout := congrArg State.out (Host.Outcome.next.inj hsuccess)
  rw [CmdSpec.answered, answered, State.answer_out_i3c _ _ _ _ _ _ _ _ rfl, State.answer_out_i3c _ _ _ _ _ _ _ _ rfl] at hout
  have hpacket := (OutMsg.packet.inj (List.cons.inj hout).1).2.2
  exact absurd (congrArg List.length hpacket) (by decide)

end Sys2Proof.Claims

namespace Sys2Proof.Machine

/-! ## An unpowered module -/

/-- The main domain of an unpowered module is down. -/
theorem State.mainUp_off {s : State} (hoff : s.clk.phase = .off) : s.mainUp = false := by
  simp [State.mainUp, hoff]

/-- Acrak of an unpowered module takes no unit. -/
theorem State.takeJob_off {s : State} (hoff : s.clk.phase = .off) : s.takeJob = s := by
  simp [State.takeJob, State.acrakFree, hoff]

/-- An unpowered module counts no time. -/
theorem tickTime_off {s : State} (hoff : s.clk.phase = .off) : tickTime s = s := if_pos hoff

/-- An unpowered module settles no commit and begins no command: a step on its empty queue leaves all but REC's input buffer. -/
theorem step_idle_off {s : State} (hq : s.pending = []) (hoff : s.clk.phase = .off) :
    step s = .next { s with trec := { s.trec with bufBytes := 0 } } := by
  have hidle (t : State) (ht : t.clk.phase = .off) : (if t.mainUp && !t.tbl.pend.isEmpty then t.settlePend else t).takeJob = t := by
    simp [State.mainUp_off ht, State.takeJob_off ht]
  have hstep : step s = .next (idleTick s) := by rw [step, hq]
  rw [hstep, idleTick, tickTime_off hoff]
  exact congrArg Host.Outcome.next (hidle { s with trec := { s.trec with bufBytes := 0 } } hoff)

end Sys2Proof.Machine

namespace Sys2Proof.Claims

open Sys2Proof.Machine

/-! ## Command rows -/

/-- A row that `commandOf` reads as a command executes that command directly. -/
theorem exec_of_commandOf {i : Instr} {c : CmdSpec} {h : Hdr} {p : Bytes} (hi : commandOf i = some (c, h, p)) (s : State) :
    exec i s = c.direct h p s := by
  cases i
  all_goals cases hi -- a row that is an event is no command
  all_goals rfl

/-- A step on a command row at an unpowered module only takes the row from the queue. -/
theorem step_command_off {i : Instr} {rest : List Instr} {s : State} (hi : (commandOf i).isSome = true) (hq : s.pending = i :: rest)
    (hoff : s.clk.phase = .off) : step s = .next { s with pending := rest } := by
  obtain ⟨⟨c, h, p⟩, hc⟩ := Option.isSome_iff_exists.1 hi
  simp only [step, hq, exec_of_commandOf hc]
  exact c.direct_off h p _ hoff

/-- Settles O7: the queue is empty and only REC's input buffer is handed on, or its first row is a command that an unpowered module
does not take. -/
theorem unpoweredStaysSilent : Obligations.UnpoweredStaysSilent := by
  intro o s t hdark hstep
  obtain ⟨hoff, hout, hrows⟩ := hdark
  cases hq : s.pending with
  | nil =>
    rw [step_idle_off hq hoff] at hstep
    obtain rfl := Host.Outcome.next.inj hstep
    exact ⟨⟨hoff, hout, hrows⟩, by simp [hq]⟩
  | cons i rest =>
    rw [hq] at hrows
    rw [step_command_off (hrows i List.mem_cons_self) hq hoff] at hstep
    obtain rfl := Host.Outcome.next.inj hstep
    exact ⟨⟨hoff, hout, fun j hj => hrows j (List.mem_cons_of_mem i hj)⟩, rfl⟩

/-! ## Reset -/

/-- Settles O3: no register is stored at reset, so each reads its reset value (`SMap.get_nil`). -/
theorem resetState : Obligations.ResetState := by
  intro s hs
  subst hs
  have hregs : ∀ (f : Field) (i : Nat), State.reset.get f i = f.reset i := fun f i => SMap.get_nil (f.key i) (f.reset i)
  have hcanonical : Safety.Canonical State.reset := ⟨SMap.wf_nil, SMap.wf_nil⟩
  have hdark : Dark [] State.reset := ⟨rfl, rfl, fun _ hi => absurd hi List.not_mem_nil⟩
  exact ⟨rfl, rfl, rfl, hregs, hcanonical, hdark⟩

end Sys2Proof.Claims

namespace Sys2Proof.Machine

/-! ## What answering a command changes -/

/-- Framing what waits on a stream changes what has been sent and the Seam. -/
theorem State.pumpStream_frame (s : State) (n fuel : Nat) : ∃ out sem, s.pumpStream n fuel = { s with out := out, sem := sem } := by
  induction fuel generalizing s with
  | zero => exact ⟨s.out, s.sem, rfl⟩
  | succ fuel ih =>
    unfold State.pumpStream
    dsimp only
    split
    · split
      · exact ih (s.sendFrame n _)
      · exact ⟨s.out, s.sem, rfl⟩
    · exact ⟨s.out, s.sem, rfl⟩

/-- A message of Seam control changes what has been sent and the Seam. -/
theorem State.ctlSend_frame (s : State) (m : TwinMsg) : ∃ out sem, s.ctlSend m = { s with out := out, sem := sem } := by
  unfold State.ctlSend
  split
  · exact State.pumpStream_frame _ _ _
  · exact ⟨s.out, s.sem, rfl⟩

/-- A mailbox interrupt is sent or becomes pending in the management PF's vectors. -/
theorem State.mbxIrq_frame (s : State) (v : Nat) : ∃ out mov, s.mbxIrq v = { s with out := out, mov := mov } := by
  unfold State.mbxIrq
  dsimp only
  split
  · exact ⟨s.out, s.mov, rfl⟩
  · split
    · exact ⟨s.out, _, rfl⟩
    · exact ⟨_, s.mov, rfl⟩

/-- A packet to a requester goes into the mailbox, over the Seam or outside. -/
theorem State.sendPacket_frame (s : State) (req : Requester) (session : Option Nat) (k : Bytes) :
    ∃ out cmd mov sem, s.sendPacket req session k = { s with out := out, cmd := cmd, mov := mov, sem := sem } := by
  unfold State.sendPacket
  split
  · obtain ⟨out, mov, h⟩ := State.mbxIrq_frame (s.modCmd _) 0
    exact ⟨out, _, mov, s.sem, h⟩
  · obtain ⟨out, sem, h⟩ := State.ctlSend_frame s (.response req.source k)
    exact ⟨out, s.cmd, s.mov, sem, h⟩
  · exact ⟨_, s.cmd, s.mov, s.sem, rfl⟩

/-- Everything that answering a command can change: the packet's way out and the RESPONSE record. -/
theorem State.answer_frame (s : State) (req : Requester) (session : Option Nat) (opcode tag context seq status : Nat) (reply : Bytes) :
    ∃ out regs cmd mov sem trec, s.answer req session opcode tag context seq status reply =
      { s with out := out, regs := regs, cmd := cmd, mov := mov, sem := sem, trec := trec } := by
  obtain ⟨out, cmd, mov, sem, hsend⟩ :=
    s.sendPacket_frame req session (mkPacket (if status = stStarted then 3 else 1) opcode tag context status reply)
  unfold State.answer State.recordResponse
  dsimp only
  rw [hsend]
  obtain ⟨trec, h | h⟩ := State.record_cases { s with out := out, cmd := cmd, mov := mov, sem := sem } 0x04 0
    (leBytes 8 seq ++ leBytes 2 status ++ leBytes 2 reply.length ++ [0, 0, 0, 0] ++ sha reply)
  · exact ⟨out, s.regs, cmd, mov, sem, trec, h⟩
  · exact ⟨out, _, cmd, mov, sem, trec, h⟩

section
variable (s : State) (req : Requester) (session : Option Nat) (opcode tag context seq status : Nat) (reply : Bytes)

@[simp] theorem State.answer_tbl : (s.answer req session opcode tag context seq status reply).tbl = s.tbl := by
  obtain ⟨_, _, _, _, _, _, h⟩ := s.answer_frame req session opcode tag context seq status reply
  rw [h]

@[simp] theorem State.answer_pol : (s.answer req session opcode tag context seq status reply).pol = s.pol := by
  obtain ⟨_, _, _, _, _, _, h⟩ := s.answer_frame req session opcode tag context seq status reply
  rw [h]

@[simp] theorem State.answer_vlt : (s.answer req session opcode tag context seq status reply).vlt = s.vlt := by
  obtain ⟨_, _, _, _, _, _, h⟩ := s.answer_frame req session opcode tag context seq status reply
  rw [h]

@[simp] theorem State.answer_prt : (s.answer req session opcode tag context seq status reply).prt = s.prt := by
  obtain ⟨_, _, _, _, _, _, h⟩ := s.answer_frame req session opcode tag context seq status reply
  rw [h]

@[simp] theorem State.answer_hlm : (s.answer req session opcode tag context seq status reply).hlm = s.hlm := by
  obtain ⟨_, _, _, _, _, _, h⟩ := s.answer_frame req session opcode tag context seq status reply
  rw [h]

end

/-! ## What a COMMAND record leaves -/

section
variable (s : State) (typ flags : Nat) (b : Bytes)

@[simp] theorem State.record_table (tid : Nat) : (s.record typ flags b).table tid = s.table tid := by simp [State.table]

@[simp] theorem State.record_writable (tid : Nat) : (s.record typ flags b).writable tid = s.writable tid := by simp [State.writable]

@[simp] theorem State.record_active (tid off len : Nat) : (s.record typ flags b).active tid off len = s.active tid off len := by
  simp [State.active]

@[simp] theorem State.record_shadow (tid off len : Nat) : (s.record typ flags b).shadow tid off len = s.shadow tid off len := by
  simp [State.shadow]

@[simp] theorem State.record_oldestStamp : (s.record typ flags b).oldestStamp = s.oldestStamp := by
  rcases s.record_cases typ flags b with ⟨t, h | h⟩ <;> rw [h] <;> rfl

@[simp] theorem State.record_windowOk : (s.record typ flags b).windowOk = s.windowOk := by
  rcases s.record_cases typ flags b with ⟨t, h | h⟩ <;> rw [h] <;> rfl

@[simp] theorem State.record_changedWords (tid : Nat) : (s.record typ flags b).changedWords tid = s.changedWords tid := by
  simp [State.changedWords]

@[simp] theorem State.record_changedEntries (tid size : Nat) :
    (s.record typ flags b).changedEntries tid size = s.changedEntries tid size := by
  simp [State.changedEntries]

@[simp] theorem State.record_twinEnabled :
    (s.record typ flags b).flag Reg.SEM_TWIN_STATUS_ENABLED = s.flag Reg.SEM_TWIN_STATUS_ENABLED :=
  s.record_flag typ flags b _ _ (by decide)

@[simp] theorem State.record_present (p : Nat) : (s.record typ flags b).present p = s.present p := by
  by_cases hp : p < 64
  · have hwidth : (s.record typ flags b).get Reg.LNC_BAY_CFG_WIDTH (p / 4) = s.get Reg.LNC_BAY_CFG_WIDTH (p / 4) :=
      s.record_get _ _ _ _ _ (by simp only [Field.key, Reg.REC_MISSED, Reg.LNC_BAY_CFG_WIDTH]; omega)
    simp only [State.present, hwidth]
  · simp [State.present, hp]

@[simp] theorem State.record_isUsp (p : Nat) : (s.record typ flags b).isUsp p = s.isUsp p := by
  by_cases hp : p < 64
  · have hrole : (s.record typ flags b).get Reg.PRT_PORT_CFG_ROLE p = s.get Reg.PRT_PORT_CFG_ROLE p :=
      s.record_get _ _ _ _ _ (by simp only [Field.key, Reg.REC_MISSED, Reg.PRT_PORT_CFG_ROLE]; omega)
    simp only [State.isUsp, State.record_present, hrole]
  · simp [State.isUsp, State.present, hp]

@[simp] theorem State.record_targetOk (t : Nat) : (s.record typ flags b).targetOk t = s.targetOk t := by simp [State.targetOk]

@[simp] theorem State.record_isetOk (e : Bytes) : (s.record typ flags b).isetOk e = s.isetOk e := by simp [State.isetOk]

@[simp] theorem State.record_cwOk (old new : Nat) : (s.record typ flags b).cwOk old new = s.cwOk old new := by simp [State.cwOk]

@[simp] theorem State.record_stagedOk (tid : Nat) : (s.record typ flags b).stagedOk tid = s.stagedOk tid := by simp [State.stagedOk]

@[simp] theorem State.record_validExtents : (s.record typ flags b).validExtents = s.validExtents := by simp [State.validExtents]

@[simp] theorem State.record_pairUsed (i : Nat) : (s.record typ flags b).pairUsed i = s.pairUsed i := by simp [State.pairUsed]

@[simp] theorem State.record_copyWord (i c : Nat) : (s.record typ flags b).copyWord i c = s.copyWord i c := by simp [State.copyWord]

@[simp] theorem State.record_isetUsed (i : Nat) : (s.record typ flags b).isetUsed i = s.isetUsed i := by
  simp [State.isetUsed, State.pairsUsed]

@[simp] theorem State.record_changeOk (tid : Nat) : (s.record typ flags b).changeOk tid = s.changeOk tid := by simp [State.changeOk]

/-- A COMMAND record does not change which step of R712 refuses a COMMIT. -/
@[simp] theorem State.record_commitRefused (tags : List (Nat × Nat)) :
    (s.record typ flags b).commitRefused tags = s.commitRefused tags := by
  simp only [State.commitRefused, State.record_table, State.record_writable, State.record_windowOk, State.record_stagedOk,
    State.record_changeOk]

end

/-! ## The answers that wait for a commit -/

/-- Where no command waits for what `p` selects, none is answered. -/
theorem State.answerWaits_none {s : State} {p : WaitFor → Bool} (hw : ∀ x ∈ s.tbl.waits, p x.what = false) (status : Nat) (reply : Bytes) :
    s.answerWaits p status reply = s := by
  have hnone : s.tbl.waits.filter (fun x => p x.what) = [] := List.filter_eq_nil_iff.2 fun x hx => by simp [hw x hx]
  have hall : s.tbl.waits.filter (fun x => !p x.what) = s.tbl.waits := List.filter_eq_self.2 fun x hx => by simp [hw x hx]
  simp only [State.answerWaits, hnone, hall]
  rfl

/-- The only command that waits is answered; nothing of a chain is left behind it. -/
theorem State.answerWaits_one {s : State} {p : WaitFor → Bool} {w : Waiting} (hw : s.tbl.waits = [w]) (hp : p w.what = true)
    (hrest : w.rest = []) (hsent : w.dropped = false) (status : Nat) (reply : Bytes) :
    s.answerWaits p status reply = ({ s with tbl := { s.tbl with waits := [] } } : State).answer w.req w.session w.opcode w.tag
      w.context w.seq status reply := by
  simp [State.answerWaits, hw, hp, hrest, hsent, forEach]

/-- A commit that nothing waits for and nothing follows completes without a trace. -/
theorem State.commitDone_unwaited {s : State} {c : PendCommit} (hw : s.tbl.waits = []) (hafter : c.after = .nothing) :
    s.commitDone c = s := by
  have hnone : ∀ p status reply, s.answerWaits p status reply = s := fun p status reply => State.answerWaits_none (by simp [hw]) _ _
  simp only [State.commitDone, hnone, hafter, State.runAfter]

/-- A commit whose COMMIT alone waits answers it with the epoch (R25). -/
theorem State.commitDone_answers {s : State} {c : PendCommit} {w : Waiting} (hw : s.tbl.waits = [w])
    (hwhat : w.what = .commit c.epoch true) (hrest : w.rest = []) (hsent : w.dropped = false) (hafter : c.after = .nothing) :
    s.commitDone c = ({ s with tbl := { s.tbl with waits := [] } } : State).answer w.req w.session w.opcode w.tag w.context w.seq
      stSuccess (leBytes 2 c.epoch) := by
  have hone := State.answerWaits_one (p := fun v => v == .commit c.epoch true) hw (by simp [hwhat]) hrest hsent stSuccess (leBytes 2 c.epoch)
  have hnone := State.answerWaits_none (p := fun v => v == .commit c.epoch false)
    (s := ({ s with tbl := { s.tbl with waits := [] } } : State).answer w.req w.session w.opcode w.tag w.context w.seq
      stSuccess (leBytes 2 c.epoch)) (by simp) stSuccess []
  simp only [State.commitDone, hone, hnone, hafter, State.runAfter]

/-! ## Commits that are complete -/

/-- With no commit pending there is none to complete. -/
theorem State.settlePend_nil {s : State} (hp : s.tbl.pend = []) : s.settlePend = s := by
  have heta : ({ s with tbl := { s.tbl with pend := [] } } : State) = s := by rw [← hp]
  simpa [State.settlePend, hp, forEach] using heta

/-- Commits that nothing waits for and nothing follows complete without a trace. -/
theorem State.commitDones_unwaited {s : State} (hw : s.tbl.waits = []) (cs : List PendCommit) (hafter : ∀ c ∈ cs, c.after = .nothing) :
    forEach cs (fun c s => s.commitDone c) s = s := by
  induction cs with
  | nil => rfl
  | cons c cs ih =>
    have hc : s.commitDone c = s := State.commitDone_unwaited hw (hafter c List.mem_cons_self)
    have hcs := ih fun d hd => hafter d (List.mem_cons_of_mem c hd)
    simpa only [forEach, List.foldl_cons, hc] using hcs

/-- While no command waits and nothing is to follow, settling changes only which commits are pending. -/
theorem State.settlePend_unwaited {s : State} (hw : s.tbl.waits = []) (hafter : ∀ c ∈ s.tbl.pend, c.after = .nothing) :
    ∃ pend, s.settlePend = { s with tbl := { s.tbl with pend := pend } } := by
  unfold State.settlePend
  extract_lets cs done _ t
  have hdone : ∀ c ∈ done, c.after = .nothing := fun c hc => by
    obtain ⟨d, hd, rfl⟩ := List.mem_map.1 (List.mem_filter.1 hc).1
    exact hafter d hd
  exact ⟨_, State.commitDones_unwaited (s := t) hw done hdone⟩

/-- The only pending commit, which waits for no pipeline, is complete. -/
theorem State.settlePend_complete {s : State} {c : PendCommit} (hp : s.tbl.pend = [c]) (hc : c.waiting = []) :
    s.settlePend = ({ s with tbl := { s.tbl with pend := [] } } : State).commitDone c := by
  have heta : ({ c with waiting := [] } : PendCommit) = c := by rw [← hc]
  simp [State.settlePend, hp, hc, heta, forEach]

/-! ## Accepting a commit -/

/-- Journaling items changes only the journal. -/
theorem State.journals_frame (s : State) (rs : List JRec) : ∃ jnl, s.journals rs = { s with jnl := jnl } := by
  induction rs generalizing s with
  | nil => exact ⟨s.jnl, rfl⟩
  | cons r rs ih => exact ih (s.journal r)

/-- The record of a commit is in the Transcript and among the recent ones. -/
theorem State.recordCommit_frame (s : State) (origin : Nat) (tags : List (Nat × Nat)) (result : Nat) (body : Bytes) :
    ∃ regs trec recent, s.recordCommit origin tags result body =
      { s with regs := regs, trec := trec, tbl := { s.tbl with recent := recent } } := by
  unfold State.recordCommit
  extract_lets d _ _ s1
  obtain ⟨trec, h | h⟩ := s1.record_cases 0x09 0 (leBytes 1 origin ++ leBytes 1 tags.length ++ leBytes 2 result ++
    leBytes 2 s1.tbl.epoch ++ [0, 0] ++ d ++ (tags.map (fun t => leBytes 2 t.1 ++ leBytes 2 t.2)).flatten)
  · exact ⟨_, trec, _, h⟩
  · exact ⟨_, trec, _, h⟩

/-- Everything that accepting a commit of one table can change: the epoch advances, the table's banks swap, the commit is pending
and what follows it is kept (R19, R20, R23). -/
theorem State.accept_one (s : State) (origin tid : Nat) (after : After) :
    ∃ regs jnl trec dir recent c, c.after = after ∧ s.accept origin [tid] [] after =
      { s with regs := regs, jnl := jnl, trec := trec, dir := dir
               tbl := { s.tbl with
                 epoch := (s.tbl.epoch + 1) % 65536, recent := recent, pend := s.tbl.pend ++ [c]
                 tables := SMap.store s.tbl.tables tid ((s.table tid).swap ((s.tbl.epoch + 1) % 65536)) TableSt.dflt } } := by
  unfold State.accept
  extract_lets tids e words tags body _ s1 s2 s3 s4 _ s5 s6 s7 s8 pls c
  obtain ⟨jnl, h2⟩ : ∃ jnl, s2 = { s1 with jnl := jnl } := s1.journals_frame _
  obtain ⟨regs, trec, recent, h3⟩ := s2.recordCommit_frame origin tags 0 body
  have hrecorded : s3 = { s with regs := regs, jnl := jnl, trec := trec, tbl := { s.tbl with epoch := e, recent := recent } } :=
    h3.trans (congrArg (fun t : State => { t with regs := regs, trec := trec, tbl := { t.tbl with recent := recent } }) h2)
  have hswapped : s4 = s3.setTable tid ((s3.table tid).swap e) := rfl
  obtain ⟨dir, hheld⟩ : ∃ dir, s8 = { s4 with dir := dir } := by
    by_cases hmap : 0x0900 ∈ tids
    · exact ⟨_, if_pos hmap⟩
    · exact ⟨s4.dir, if_neg hmap⟩
  have htaken : s8 = { s with
      regs := regs, jnl := jnl, trec := trec, dir := dir
      tbl := { s.tbl with
        epoch := e, recent := recent, tables := SMap.store s.tbl.tables tid ((s.table tid).swap e) TableSt.dflt } } := by
    rw [hheld, hswapped, hrecorded]
    rfl
  exact ⟨regs, jnl, trec, dir, recent, c, rfl,
    congrArg (fun t : State => { t with tbl := { t.tbl with pend := t.tbl.pend ++ [c] } }) htaken⟩

end Sys2Proof.Machine

namespace Sys2Proof.Machine

/-! ## Pipelines and shadows -/

/-- A pipeline that is not held takes what the bank switch settles. -/
theorem State.bankSwitch_unheld {s : State} {pl : Pipeline} (hheld : s.pipeHeld pl = false) :
    s.bankSwitch pl = (s.switchPipeline pl).settlePend := by
  simp [State.bankSwitch, hheld]

/-- The last pipeline of the only pending commit switches: the commit is complete (R20, R25). -/
theorem State.bankSwitch_last {s : State} {pl : Pipeline} {c : PendCommit} (hheld : s.tbl.held = []) (hp : s.tbl.pend = [c])
    (hc : c.waiting = [pl]) :
    s.bankSwitch pl = ({ s with tbl := { s.tbl with pend := [] } } : State).commitDone { c with waiting := [] } := by
  have hswitch : s.switchPipeline pl = { s with tbl := { s.tbl with pend := [{ c with waiting := [] }] } } := by
    have hpend : s.tbl.pend.map (fun d => { d with waiting := d.waiting.filter (· ≠ pl) }) = [{ c with waiting := [] }] := by
      simp [hp, hc]
    have hkept : s.tbl.held.filter (· ≠ pl) = s.tbl.held := by simp [hheld]
    rw [State.switchPipeline, hpend, hkept]
  rw [State.bankSwitch_unheld (by simp [State.pipeHeld, hheld]), hswitch]
  exact State.settlePend_complete rfl rfl

/-- The Mover, which has not switched in time, is held and reported; no command waits for the commit (R26). -/
theorem State.switchFailed_mover {s : State} (hheld : s.tbl.held = []) (hw : s.tbl.waits = []) :
    s.switchFailed .mover = ({ s with tbl := { s.tbl with held := [.mover] } } : State).report 0x0B24 contained 0 [] := by
  have hnone : ∀ p, (({ s with tbl := { s.tbl with held := [.mover] } } : State).report 0x0B24 contained 0 []).answerWaits p stHwFault [] =
      ({ s with tbl := { s.tbl with held := [.mover] } } : State).report 0x0B24 contained 0 [] :=
    fun p => State.answerWaits_none (by simp [hw]) _ _
  simp only [State.switchFailed, hheld, List.nil_append, pipePort, State.reportSwitch]
  exact hnone _

/-- With no commit pending and no older stamp left, a table's shadow takes the active bank (R23). -/
theorem State.refill_former {s : State} {tid : Nat} (htid : tid ≠ 0x0A42) (hp : s.tbl.pend = []) (hformer : (s.table tid).former = true)
    (hstamps : s.stamps.any (fun y => earlier y (s.table tid).tag) = false) :
    s.refill tid = s.setTable tid { s.table tid with shadow := (s.table tid).active, former := false } := by
  have hfree : s.refillable tid (s.table tid).tag = true := by simp only [State.refillable, hstamps, hp]; rfl
  simp [State.refill, htid, hformer, hfree]

/-! ## A commit of one table -/

/-- `t` is `s` after the commit of table `tid`, as far as a commit of that table reaches: the global epoch is the next one, the
table's banks have swapped under it, and the pool, the vault, the ports and HLM are as before (R19, R23). -/
structure TableSwitched (tid : Nat) (s t : State) : Prop where
  epoch : t.tbl.epoch = (s.tbl.epoch + 1) % 65536
  table : t.table tid = (s.table tid).swap ((s.tbl.epoch + 1) % 65536)
  modq : t.tbl.modq = s.tbl.modq
  pol : t.pol = s.pol
  vlt : t.vlt = s.vlt
  prt : t.prt = s.prt
  hlm : t.hlm = s.hlm

/-- A table that is stored is read back. -/
theorem State.table_setTable_self {s : State} (hwf : SMap.wf s.tbl.tables) (tid : Nat) (x : TableSt) : (s.setTable tid x).table tid = x :=
  SMap.get_store_self _ _ _ _ hwf

/-- Storing a table keeps the tables' canonical form. -/
theorem State.wf_setTable {s : State} (hwf : SMap.wf s.tbl.tables) (tid : Nat) (x : TableSt) : SMap.wf (s.setTable tid x).tbl.tables :=
  SMap.wf_store _ _ _ _ hwf

/-- Accepting a commit of one table and settling it switches the table, where no other commit is pending and no command waits. -/
theorem State.accept_settles {s : State} (hwf : SMap.wf s.tbl.tables) (hp : s.tbl.pend = []) (hw : s.tbl.waits = []) (origin tid : Nat) :
    TableSwitched tid s (s.accept origin [tid] [] .nothing).settlePend := by
  obtain ⟨regs, jnl, trec, dir, recent, c, hafter, haccept⟩ := s.accept_one origin tid .nothing
  have hpend : ∀ d ∈ (s.accept origin [tid] [] .nothing).tbl.pend, d.after = .nothing := by
    rw [haccept]
    simpa [hp] using hafter
  obtain ⟨pend, hsettle⟩ := State.settlePend_unwaited (by rw [haccept]; exact hw) hpend
  rw [hsettle, haccept]
  exact ⟨rfl, SMap.get_store_self _ _ _ _ hwf, rfl, rfl, rfl, rfl, rfl⟩

/-- Accepting a commit answers no command that waits. -/
theorem State.accept_waits (s : State) (origin tid : Nat) (after : After) :
    (s.accept origin [tid] [] after).tbl.waits = s.tbl.waits := by
  obtain ⟨_, _, _, _, _, _, _, haccept⟩ := s.accept_one origin tid after
  rw [haccept]

/-- Where no command waits, none is moved from a module commit to its pipelines. -/
theorem State.takeWaits_none {s : State} (hw : s.tbl.waits = []) (id : Nat) : s.takeWaits id = s := by
  have heta : ({ s with tbl := { s.tbl with waits := [] } } : State) = s := by rw [← hw]
  simpa [State.takeWaits, hw] using heta

/-- A COMMIT of one managed table that R712 does not refuse switches it, and is answered now or when its pipelines have switched. -/
theorem State.commit_accepted {s : State} {tid tag : Nat} (hup : s.mainUp = true) (hman : tblManaged tid = true)
    (hok : s.commitRefused [(tid, tag)] = none) (hwf : SMap.wf s.tbl.tables) (hp : s.tbl.pend = []) (hw : s.tbl.waits = []) :
    ∃ t, TableSwitched tid s t ∧ ((∃ w, s.commit [(tid, tag)] = .waits w t) ∨ ∃ b, s.commit [(tid, tag)] = .done b t) := by
  refine ⟨_, State.accept_settles hwf hp hw 0 tid, ?_⟩
  have hcommit : s.commit [(tid, tag)] =
      if (s.accept 0 [tid] [] .nothing).settlePend.tbl.pend.any
          (fun c => c.epoch == (s.accept 0 [tid] [] .nothing).settlePend.tbl.epoch) then
        .waits (.commit (s.accept 0 [tid] [] .nothing).settlePend.tbl.epoch true) (s.accept 0 [tid] [] .nothing).settlePend
      else .done (leBytes 2 (s.accept 0 [tid] [] .nothing).settlePend.tbl.epoch) (s.accept 0 [tid] [] .nothing).settlePend := by
    simp [State.commit, hup, hman, hok]
  rw [hcommit]
  split
  · exact .inl ⟨_, rfl⟩
  · exact .inr ⟨_, rfl⟩

/-- A COMMIT that names another tag than a managed table's is recorded as EPOCH_STALE and switches nothing (R712 step 2, R573). -/
theorem State.commit_stale {s : State} {tid tag : Nat} (hup : s.mainUp = true) (hman : tblManaged tid = true)
    (htag : (s.table tid).tag ≠ tag) :
    s.commit [(tid, tag)] = .failed stEpochStale (s.recordCommit 0 [(tid, tag)] stEpochStale []) := by
  have hrefused : s.commitRefused [(tid, tag)] = some stEpochStale := by simp [State.commitRefused, htag]
  simp [State.commit, hup, hman, hrefused]

/-- The table that a COMMIT of one entry names, with the tag it expects. -/
theorem commitTags_one {p : Bytes} (hone : p8 p 0 = 1) : commitTags p = [(p16 p 4, p16 p 6)] := by
  simp [commitTags, hone]

/-- The work of a COMMIT of one entry. -/
theorem specCommit_run_one {p : Bytes} (hone : p8 p 0 = 1) (h : Hdr) (s : State) :
    specCommit.run h p s = s.commit [(p16 p 4, p16 p 6)] :=
  congrArg s.commit (commitTags_one hone)

/-- A managed table is an assigned one. -/
theorem tblAssigned_of_managed {tid : Nat} (h : tblManaged tid = true) : tblAssigned tid = true := by
  simp only [tblManaged, Bool.or_eq_true, beq_iff_eq] at h
  rcases h with (((rfl | rfl) | rfl) | rfl) | rfl <;> rfl

/-! ## A module commit -/

/-- `s` with its module queue empty and the bytes of a module commit's write `w` laid over the active bank in the table's shadow: what
the engine is handed (Table 11-9). -/
def State.staged (s : State) (w : Nat × Nat × Bytes) : State :=
  (({ s with tbl := { s.tbl with modq := [] } } : State).setTable w.1 { s.table w.1 with shadow := (s.table w.1).active }).writeShadow
    w.1 w.2.1 w.2.2

/-- Staging keeps the tables' canonical form. -/
theorem State.wf_staged {s : State} (hwf : SMap.wf s.tbl.tables) (w : Nat × Nat × Bytes) : SMap.wf (s.staged w).tbl.tables :=
  State.wf_setTable (State.wf_setTable hwf w.1 _) w.1 _

/-- Staging leaves the active bank. -/
theorem State.staged_active {s : State} (hwf : SMap.wf s.tbl.tables) (w : Nat × Nat × Bytes) :
    ((s.staged w).table w.1).active = (s.table w.1).active := by
  have hempty : SMap.wf ({ s with tbl := { s.tbl with modq := [] } } : State).tbl.tables := hwf
  rw [State.staged, State.writeShadow, State.table_setTable_self (State.wf_setTable hempty w.1 _), State.table_setTable_self hempty]

/-- The only module commit of the queue, of one write, is handed to the engine staged (R23). -/
theorem State.takeModule_one {s : State} {m : ModCommit} {w : Nat × Nat × Bytes} (hq : s.tbl.modq = [m]) (hwrites : m.writes = [w])
    (hext : m.extents = []) (hafter : m.after = .nothing) :
    s.takeModule m = (s.staged w).accept m.origin [w.1] [] .nothing := by
  have hqueue : delFirst (fun x => x.id == m.id) [m] = [] := by simp [delFirst]
  have hpool : ({ s.pol with staged := s.pol.staged.filter (fun x => !(([] : List (Nat × Nat)).any (fun y => y.1 == x.1))) } : Pol) =
      s.pol := by simp
  rw [State.takeModule, hq, hqueue, hwrites, hext, hafter, State.stageModule, hwrites]
  exact congrArg (fun q : Pol => ({ s.staged w with pol := q } : State).accept m.origin [w.1] [] .nothing) hpool

/-- MODULE_COMMIT takes the only module commit of the queue when it may be taken (R23, R28). -/
theorem execModuleCommit_one {s : State} {m : ModCommit} (hup : s.mainUp = true) (hq : s.tbl.modq = [m]) (hready : s.modReady m = true) :
    execModuleCommit m.id s = .next (((s.takeModule m).takeWaits m.id).settlePend) := by
  simp [execModuleCommit, hq, State.modTurn, hup, hready]

/-! ## What a command's work sees after its COMMAND record -/

section
variable (c : CmdSpec) (h : Hdr) (p : Bytes) (s : State)

@[simp] theorem CmdSpec.recorded_tbl : (c.recorded h p s).tbl = s.tbl := State.record_tbl ..

@[simp] theorem CmdSpec.recorded_pol : (c.recorded h p s).pol = s.pol := State.record_pol ..

@[simp] theorem CmdSpec.recorded_vlt : (c.recorded h p s).vlt = s.vlt := State.record_vlt ..

@[simp] theorem CmdSpec.recorded_prt : (c.recorded h p s).prt = s.prt := State.record_prt ..

@[simp] theorem CmdSpec.recorded_hlm : (c.recorded h p s).hlm = s.hlm := State.record_hlm ..

@[simp] theorem CmdSpec.recorded_table (tid : Nat) : (c.recorded h p s).table tid = s.table tid := State.record_table ..

@[simp] theorem CmdSpec.recorded_writable (tid : Nat) : (c.recorded h p s).writable tid = s.writable tid := State.record_writable ..

@[simp] theorem CmdSpec.recorded_active (tid off len : Nat) : (c.recorded h p s).active tid off len = s.active tid off len :=
  State.record_active ..

@[simp] theorem CmdSpec.recorded_shadow (tid off len : Nat) : (c.recorded h p s).shadow tid off len = s.shadow tid off len :=
  State.record_shadow ..

@[simp] theorem CmdSpec.recorded_oldestStamp : (c.recorded h p s).oldestStamp = s.oldestStamp := State.record_oldestStamp ..

@[simp] theorem CmdSpec.recorded_commitRefused (tags : List (Nat × Nat)) :
    (c.recorded h p s).commitRefused tags = s.commitRefused tags := State.record_commitRefused ..

end

end Sys2Proof.Machine

namespace Sys2Proof.Claims

open Sys2Proof.Machine

/-! ## Commands in operation -/

/-- Command `c` comes to its work: the module is in operation, the requester may issue the command, its length and its parameters
are good, and no lock and no further ground holds it back (R459). -/
structure Reached (c : CmdSpec) (h : Hdr) (p : Bytes) (s : State) : Prop where
  operating : Operating s
  privileged : Privileged (c.privAt h (c.recorded h p s)) h s
  len : c.len p = none
  deny : c.deny h p (c.recorded h p s) = false
  lock : (c.locks p (c.recorded h p s) && (c.recorded h p s).flag Reg.HLM_STATUS_LOCKED) = false
  check : c.check h p (c.recorded h p s) = none

/-- In operation the module is powered. -/
theorem Operating.on {s : State} (hop : Operating s) : s.clk.phase ≠ .off := by
  rw [hop.1]
  decide

/-- In operation the main domain is up. -/
theorem Operating.mainUp {s : State} (hop : Operating s) : s.mainUp = true := by
  simp [State.mainUp, hop.1]

namespace Reached

variable {c : CmdSpec} {h : Hdr} {p : Bytes} {s t : State}

/-- The main domain is up when the work begins. -/
theorem mainUp (hr : Reached c h p s) : (c.recorded h p s).mainUp = true :=
  (State.record_mainUp ..).trans hr.operating.mainUp

/-- The requester may issue the command. -/
theorem mayIssue (hr : Reached c h p s) : (c.recorded h p s).mayIssue c h p = true := by
  obtain ⟨hten, hrank⟩ := hr.privileged
  have hpriv : (c.recorded h p s).privOf h = s.privOf h := State.record_privOf ..
  exact State.mayIssue_of _ c h p (hpriv ▸ hten) (hpriv ▸ hrank)

/-- The module serves the command. -/
theorem serves (hr : Reached c h p s) : (c.recorded h p s).serves c h = true := by
  have hready : (c.recorded h p s).clk.phase = .ready := (congrArg Clk.phase (State.record_clk ..)).trans hr.operating.1
  have hsafe : (c.recorded h p s).flag Reg.FLT_STATUS_SAFE_MODULE = false :=
    (State.record_flag _ _ _ _ _ _ (by decide)).trans hr.operating.2
  exact State.serves_ready _ c h hready hsafe

/-- A command whose work is done answers SUCCESS. -/
theorem done (hr : Reached c h p s) {reply : Bytes} (hrun : c.run h p (c.recorded h p s) = .done reply t) :
    c.direct h p s = .next (c.answered h s t stSuccess reply) :=
  c.direct_done hr.operating.on hr.len (by rw [c.outcome_run hr.mayIssue hr.deny hr.lock hr.check hr.serves, hrun])

/-- A command whose work failed after an effect answers the error in the state the effect left. -/
theorem failed (hr : Reached c h p s) {st : Nat} (hrun : c.run h p (c.recorded h p s) = .failed st t) :
    c.direct h p s = .next (c.answered h s t st []) := by
  have hout : c.outcome h p (c.recorded h p s) = .failed st t := by rw [c.outcome_run hr.mayIssue hr.deny hr.lock hr.check hr.serves, hrun]
  simp only [CmdSpec.recorded] at hout
  simp [CmdSpec.direct, hr.operating.on, CmdSpec.exec, hr.len, hout, CmdSpec.answered]

/-- A command that waits is noted among those that do, and answers later. -/
theorem waits (hr : Reached c h p s) {w : WaitFor} (hrun : c.run h p (c.recorded h p s) = .waits w t) :
    ∃ x, c.direct h p s = .next { t with tbl := { t.tbl with waits := t.tbl.waits ++ [x] } } := by
  have hout : c.outcome h p (c.recorded h p s) = .waits w t := by rw [c.outcome_run hr.mayIssue hr.deny hr.lock hr.check hr.serves, hrun]
  simp only [CmdSpec.recorded] at hout
  simp [CmdSpec.direct, hr.operating.on, CmdSpec.exec, hr.len, hout]

end Reached

/-! ## O33, clause by clause -/

section
variable {h : Hdr} {p : Bytes} {s : State}

/-- TABLE_READ answers the tag of the bank it reads, whether the shadow may be written, and the bytes (R481). -/
theorem tableRead_reads : Reads .tableRead 0xCC10 .observe 12
    (fun _ p _ => tblAssigned (p16 p 0) = true ∧ p16 p 0 ≠ 0x0A42 ∧ p8 p 2 < 2 ∧ p32 p 4 % 4 = 0 ∧ 4 ≤ p32 p 8 ∧ p32 p 8 ≤ 4064 ∧
      p32 p 8 % 4 = 0 ∧ p32 p 4 + p32 p 8 ≤ (tblLen (p16 p 0)).getD 0)
    (fun _ p s b => b =
      leBytes 2 (if p8 p 2 = 1 ∧ (s.table (p16 p 0)).former = true then (s.table (p16 p 0)).formerTag else (s.table (p16 p 0)).tag) ++
      [byte (b2n (s.writable (p16 p 0))), 0] ++
      (if p8 p 2 = 1 then s.shadow (p16 p 0) (p32 p 4) (p32 p 8) else s.active (p16 p 0) (p32 p 4) (p32 p 8))) := by
  intro h p s hop hpriv hlen hgood
  obtain ⟨htid, hmap, hbank, hoff, hmin, hmax, hsize, hend⟩ := hgood
  have hinside : p32 p 4 < (tblLen (p16 p 0)).getD 0 := by omega
  have hr : Reached specTableRead h p s :=
    { operating := hop, privileged := hpriv, len := if_pos hlen, deny := rfl, lock := rfl
      check := by simp [specTableRead, firstBad, need, htid, hmap, Nat.le_of_lt_succ hbank, hoff, hinside, hmin, hmax, hsize, hend] }
  have hrun : specTableRead.run h p (specTableRead.recorded h p s) =
      .done ((specTableRead.recorded h p s).tableRead (p16 p 0) (p8 p 2) (p32 p 4) (p32 p 8)) (specTableRead.recorded h p s) :=
    if_neg (by simp [hr.mainUp])
  refine ⟨_, ?_, hr.done hrun⟩
  simp [State.tableRead, State.shadowFree, hmap]

/-- EPOCH_READ answers the global epoch, the oldest stamp, and a table's tag with the state of its shadow (R480). -/
theorem epochRead_one (hop : Operating s) (hpriv : Privileged .observe h s) (hlen : p.length = 6) (hone : p8 p 0 = 1)
    (htid : tblAssigned (p16 p 4) = true) (hmap : p16 p 4 ≠ 0x0A42) :
    exec (.epochRead h p) s = .next (answered 0xCC21 stSuccess h s
      (leBytes 2 s.tbl.epoch ++ leBytes 2 s.oldestStamp ++ (leBytes 2 (s.table (p16 p 4)).tag ++ [byte (b2n (s.writable (p16 p 4))), 0]))
      (request 0xCC21 .observe h p s)) := by
  have hr : Reached specEpochRead h p s :=
    { operating := hop, privileged := hpriv, len := if_pos (by omega), deny := rfl, lock := rfl
      check := by simp [specEpochRead, hone, firstBad, need, htid] }
  have hrun : specEpochRead.run h p (specEpochRead.recorded h p s) = .done (leBytes 2 s.tbl.epoch ++ leBytes 2 s.oldestStamp ++
      (leBytes 2 (s.table (p16 p 4)).tag ++ [byte (b2n (s.writable (p16 p 4))), 0])) (specEpochRead.recorded h p s) := by
    refine (if_neg (by simp [hr.mainUp])).trans ?_
    simp [hone, State.shadowFree, hmap]
  exact hr.done hrun

/-- TABLE_WRITE lays its bytes over a writable shadow (R23, R477). -/
theorem tableWrite_writes (hop : Operating s) (hpriv : Privileged .operate h s) (hmin : 12 ≤ p.length) (hmax : p.length ≤ 4096)
    (hwords : p.length % 4 = 0) (hman : tblManaged (p16 p 0) = true) (hfree : s.writable (p16 p 0) = true) (hoff : p32 p 4 % 4 = 0)
    (hend : p32 p 4 + (p.length - 8) ≤ (tblLen (p16 p 0)).getD 0) :
    exec (.tableWrite h p) s = .next (answered 0xCC11 stSuccess h s []
      ((request 0xCC11 .operate h p s).writeShadow (p16 p 0) (p32 p 4) (p.drop 8))) := by
  have hr : Reached specTableWrite h p s :=
    { operating := hop, privileged := hpriv, len := if_pos ⟨hmin, hmax, hwords⟩, deny := rfl, lock := rfl
      check := by simp [specTableWrite, firstBad, need, tblAssigned_of_managed hman, hoff, hend] }
  exact hr.done (if_neg (by simp [hr.mainUp, hman, hfree]))

/-- A COMMIT of one managed table comes to its work. -/
theorem reached_commit (hop : Operating s) (hpriv : Privileged .operate h s) (hlen : p.length = 8) (hone : p8 p 0 = 1)
    (hman : tblManaged (p16 p 4) = true) : Reached specCommit h p s :=
  { operating := hop, privileged := hpriv, len := if_pos (by omega), deny := rfl, lock := rfl
    check := by simp [specCommit, hone, commitTags_one, commitParams, tblAssigned_of_managed hman] }

/-- A COMMIT that expects another tag answers EPOCH_STALE with its record (R712 step 2, R573). -/
theorem commit_stale (hop : Operating s) (hpriv : Privileged .operate h s) (hlen : p.length = 8) (hone : p8 p 0 = 1)
    (hman : tblManaged (p16 p 4) = true) (htag : (s.table (p16 p 4)).tag ≠ p16 p 6) :
    exec (.commit h p) s = .next (answered 0xCC20 stEpochStale h s []
      ((request 0xCC20 .operate h p s).recordCommit 0 [(p16 p 4, p16 p 6)] stEpochStale [])) := by
  have hr := reached_commit hop hpriv hlen hone hman
  have htag' : ((specCommit.recorded h p s).table (p16 p 4)).tag ≠ p16 p 6 := by simpa using htag
  exact hr.failed ((specCommit_run_one hone h _).trans (State.commit_stale hr.mainUp hman htag'))

/-- A COMMIT that is allowed switches its table, whether it answers now or when the pipelines have switched (R19, R25). -/
theorem commit_switches (hwf : SMap.wf s.tbl.tables) (hop : Operating s) (hpriv : Privileged .operate h s) (hlen : p.length = 8)
    (hone : p8 p 0 = 1) (hman : tblManaged (p16 p 4) = true) (hok : s.commitRefused [(p16 p 4, p16 p 6)] = none) (hp : s.tbl.pend = [])
    (hw : s.tbl.waits = []) :
    ∃ t, exec (.commit h p) s = .next t ∧ t.tbl.epoch = (s.tbl.epoch + 1) % 65536 ∧
      t.table (p16 p 4) = (s.table (p16 p 4)).swap ((s.tbl.epoch + 1) % 65536) ∧
      t.pol = s.pol ∧ t.vlt = s.vlt ∧ t.prt = s.prt ∧ t.hlm = s.hlm := by
  have hr := reached_commit hop hpriv hlen hone hman
  obtain ⟨t, hswitched, hends⟩ := State.commit_accepted hr.mainUp hman (tag := p16 p 6) (by simpa using hok) (by simpa using hwf)
    (by simpa using hp) (by simpa using hw)
  rw [← specCommit_run_one hone h] at hends
  obtain ⟨hepoch, htable, -, hpol, hvlt, hprt, hhlm⟩ := hswitched
  simp only [CmdSpec.recorded_tbl, CmdSpec.recorded_table, CmdSpec.recorded_pol, CmdSpec.recorded_vlt, CmdSpec.recorded_prt,
    CmdSpec.recorded_hlm] at hepoch htable hpol hvlt hprt hhlm
  rcases hends with ⟨w, hwaits⟩ | ⟨b, hdone⟩
  · obtain ⟨x, hx⟩ := hr.waits hwaits
    exact ⟨_, (exec_of_commandOf rfl s).trans hx, hepoch, htable, hpol, hvlt, hprt, hhlm⟩
  · refine ⟨_, (exec_of_commandOf rfl s).trans (hr.done hdone), ?_⟩
    simp only [CmdSpec.answered, State.table, State.answer_tbl, State.answer_pol, State.answer_vlt, State.answer_prt, State.answer_hlm]
    exact ⟨hepoch, htable, hpol, hvlt, hprt, hhlm⟩

/-- The last pipeline's switch completes a commit and answers the COMMIT that waits for it with the epoch (R20, R25). -/
theorem pipelineBankSwitch_last {pl : Pipeline} {c : PendCommit} {w : Waiting} (hup : s.mainUp = true) (hp : s.tbl.pend = [c])
    (hc : c.waiting = [pl]) (hafter : c.after = .nothing) (hheld : s.tbl.held = []) (hw : s.tbl.waits = [w])
    (hwhat : w.what = .commit c.epoch true) (hrest : w.rest = []) (hsent : w.dropped = false) :
    exec (.pipelineBankSwitch pl) s = .next (({ s with tbl := { s.tbl with pend := [], waits := [] } } : State).answer w.req w.session
      w.opcode w.tag w.context w.seq stSuccess (leBytes 2 c.epoch)) := by
  have hdone := State.commitDone_answers (s := { s with tbl := { s.tbl with pend := [] } }) (c := { c with waiting := [] }) hw hwhat hrest
    hsent hafter
  refine congrArg Host.Outcome.next ((if_pos hup).trans ?_)
  rw [State.bankSwitch_last hheld hp hc, hdone]

/-- A Mover that does not switch in time is held and reported (R26). -/
theorem switchFailureTimeout_mover {c : PendCommit} (hup : s.mainUp = true) (hp : s.tbl.pend = [c]) (hc : .mover ∈ c.waiting)
    (hheld : s.tbl.held = []) (hw : s.tbl.waits = []) :
    exec (.switchFailureTimeout .mover) s =
      .next (({ s with tbl := { s.tbl with held := [.mover] } } : State).report 0x0B24 contained 0 []) := by
  refine congrArg Host.Outcome.next ((if_neg ?_).trans (State.switchFailed_mover hheld hw))
  simp [hup, State.pipeOut, State.pipeHeld, hheld, hp, hc]

/-- SHADOW_REFILL copies the active bank of a table whose former one no message needs any more (R23). -/
theorem shadowRefill_former {x : BitVec 16} (hup : s.mainUp = true) (hmap : x.toNat ≠ 0x0A42) (hp : s.tbl.pend = [])
    (hformer : (s.table x.toNat).former = true) (hstamps : s.stamps.any (fun y => earlier y (s.table x.toNat).tag) = false) :
    exec (.shadowRefill x) s = .next (s.setTable x.toNat { s.table x.toNat with shadow := (s.table x.toNat).active, former := false }) := by
  refine congrArg Host.Outcome.next ((if_pos hup).trans ?_)
  rw [State.settlePend_nil hp, State.refill_former hmap hp hformer hstamps]

/-- A module commit that may be taken leaves the queue, its table switched under the next epoch (R23, R28). -/
theorem moduleCommit_switches {m : ModCommit} {w : Nat × Nat × Bytes} (hwf : SMap.wf s.tbl.tables) (hup : s.mainUp = true)
    (hq : s.tbl.modq = [m]) (hwrites : m.writes = [w]) (hext : m.extents = []) (hafter : m.after = .nothing) (hready : s.modReady m = true)
    (hp : s.tbl.pend = []) (hw : s.tbl.waits = []) :
    ∃ t, exec (.moduleCommit m.id) s = .next t ∧ t.tbl.modq = [] ∧ t.tbl.epoch = (s.tbl.epoch + 1) % 65536 ∧
      (t.table w.1).tag = (s.tbl.epoch + 1) % 65536 ∧ (t.table w.1).former = true ∧ (t.table w.1).shadow = (s.table w.1).active ∧
      t.pol.map = s.pol.map ∧ t.vlt = s.vlt ∧ t.prt = s.prt := by
  have hunwaited : ((s.staged w).accept m.origin [w.1] [] .nothing).tbl.waits = [] := by
    rw [State.accept_waits]
    exact hw
  have htaken : exec (.moduleCommit m.id) s = .next ((s.staged w).accept m.origin [w.1] [] .nothing).settlePend := by
    refine (execModuleCommit_one hup hq hready).trans ?_
    rw [State.takeModule_one hq hwrites hext hafter, State.takeWaits_none hunwaited]
  obtain ⟨hepoch, htable, hmodq, hpol, hvlt, hprt, -⟩ :=
    State.accept_settles (s := s.staged w) (State.wf_staged hwf w) hp hw m.origin w.1
  refine ⟨_, htaken, hmodq, hepoch, ?_⟩
  rw [htable]
  exact ⟨rfl, rfl, State.staged_active hwf w, congrArg Pol.map hpol, hvlt, hprt⟩

end

/-- Settles O33: the lemmas above, one for each clause. -/
theorem commitEngine : Obligations.CommitEngine :=
  ⟨tableRead_reads, fun _ _ _ => epochRead_one, fun _ _ _ => tableWrite_writes, fun _ _ _ => commit_stale, fun _ _ _ => commit_switches,
    fun _ _ _ _ => pipelineBankSwitch_last, fun _ _ => switchFailureTimeout_mover, fun _ _ => shadowRefill_former,
    fun _ _ _ => moduleCommit_switches⟩

end Sys2Proof.Claims

namespace Sys2Proof.Machine

/-! ## Events that wait (R488, R490) -/

/-- An element of a list is still in it after the first element that `q` selects has changed, or it is the one that changed. -/
theorem mem_updFirst {α : Type} {q : α → Bool} {f : α → α} {a : α} {l : List α} (ha : a ∈ l) :
    a ∈ updFirst q f l ∨ f a ∈ updFirst q f l := by
  induction l with
  | nil => exact absurd ha List.not_mem_nil
  | cons b l ih =>
    by_cases hb : q b = true
    · rcases List.mem_cons.1 ha with rfl | ha
      · exact .inr (by simp [updFirst, hb])
      · exact .inl (by simp [updFirst, hb, ha])
    · rcases List.mem_cons.1 ha with rfl | ha
      · exact .inl (by simp [updFirst, hb])
      · simpa [updFirst, hb] using (ih ha).imp .inr .inr

/-- The events that wait once `e` is raised: one more, or one of those that waited counted once more (R490). -/
theorem State.raise_waiting (s : State) (e : FltEvent) : (s.raise e).flt.waiting =
    if s.flt.waiting.any e.same then updFirst e.same (fun w => { w with count := w.count + e.count }) s.flt.waiting
    else s.flt.waiting ++ [e] := rfl

/-- An event of this source, class and event code waits for acceptance. -/
def State.Waits (s : State) (src cls evt : Nat) : Prop := ∃ e ∈ s.flt.waiting, e.src = src ∧ e.cls = cls ∧ e.evt = evt

/-- An event that waits still waits when another one is raised. -/
theorem State.Waits.raise {s : State} {src cls evt : Nat} (h : s.Waits src cls evt) (e : FltEvent) : (s.raise e).Waits src cls evt := by
  obtain ⟨w, hw, hkeys⟩ := h
  unfold State.Waits
  rw [State.raise_waiting]
  split
  · rcases mem_updFirst (q := e.same) (f := fun w => { w with count := w.count + e.count }) hw with h | h
    · exact ⟨_, h, hkeys⟩
    · exact ⟨_, h, hkeys⟩
  · exact ⟨w, List.mem_append_left [e] hw, hkeys⟩

/-- As `Waits.raise`, for an event that is reported. -/
theorem State.Waits.report {s : State} {src cls evt : Nat} (h : s.Waits src cls evt) (src' cls' evt' : Nat) (ctx syn : Bytes) :
    (s.report src' cls' evt' ctx syn).Waits src cls evt :=
  h.raise _

/-- An event that is raised waits. -/
theorem State.waits_raise (s : State) (e : FltEvent) : (s.raise e).Waits e.src e.cls e.evt := by
  by_cases hany : s.flt.waiting.any e.same = true
  · obtain ⟨w, hw, hsame⟩ := List.any_eq_true.1 hany
    have hold : s.Waits e.src e.cls e.evt := by
      simp only [FltEvent.same, Bool.and_eq_true, beq_iff_eq] at hsame
      obtain ⟨⟨⟨⟨⟨⟨hsrc, hcls⟩, hevt⟩, -⟩, -⟩, -⟩, -⟩ := hsame
      exact ⟨w, hw, hsrc, hcls, hevt⟩
    exact hold.raise e
  · refine ⟨e, ?_, rfl, rfl, rfl⟩
    rw [State.raise_waiting, if_neg hany]
    exact List.mem_append_right _ List.mem_cons_self

/-- An event that is reported waits. -/
theorem State.waits_report (s : State) (src cls evt : Nat) (ctx syn : Bytes) : (s.report src cls evt ctx syn).Waits src cls evt :=
  s.waits_raise _

/-! ## What a COMMAND record and an answer leave -/

@[simp] theorem CmdSpec.recorded_clk (c : CmdSpec) (h : Hdr) (p : Bytes) (s : State) : (c.recorded h p s).clk = s.clk := State.record_clk ..

@[simp] theorem CmdSpec.recorded_cmd (c : CmdSpec) (h : Hdr) (p : Bytes) (s : State) : (c.recorded h p s).cmd = s.cmd := State.record_cmd ..

/-- A COMMAND record leaves every one-bit field but REC_MISSED. -/
theorem CmdSpec.recorded_flag (c : CmdSpec) (h : Hdr) (p : Bytes) (s : State) (f : Field) (i : Nat) (hkey : Reg.REC_MISSED.key 0 ≠ f.key i) :
    (c.recorded h p s).flag f i = s.flag f i :=
  State.record_flag _ _ _ _ _ _ hkey

@[simp] theorem State.answer_clk (s : State) (req : Requester) (session : Option Nat) (opcode tag context seq status : Nat)
    (reply : Bytes) : (s.answer req session opcode tag context seq status reply).clk = s.clk := by
  obtain ⟨_, _, _, _, _, _, h⟩ := s.answer_frame req session opcode tag context seq status reply
  rw [h]

end Sys2Proof.Machine

namespace Sys2Proof.Claims
open Sys2Proof.Machine

/-! ## Commands that pass their checks -/

/-- A command that starts work in the background answers STARTED while fewer than 16 such commands run (R473). -/
theorem Reached.started {c : CmdSpec} {h : Hdr} {p : Bytes} {s t : State} {j : Bool} (hr : Reached c h p s) (hroom : s.cmd.bg.length < 16)
    (hrun : c.run h p (c.recorded h p s) = .started t j) :
    c.direct h p s = .next (c.answered h s (t.beginBg c h p s.trec.next j) stStarted []) := by
  have hroom' : ¬ 16 ≤ (c.recorded h p s).cmd.bg.length := by
    rw [CmdSpec.recorded_cmd]
    omega
  exact c.direct_started hr.operating.on hr.len
    (by rw [c.outcome_run hr.mayIssue hr.deny hr.lock hr.check hr.serves, hrun]; exact if_neg hroom')

/-- A command of a fixed length, of one privilege, with no further ground for DENIED comes to its work once its lock and its check
let it. -/
theorem reached {c : CmdSpec} {h : Hdr} {p : Bytes} {s : State} {n : Nat} (hop : Operating s) (hpriv : Privileged c.priv h s)
    (hlen : p.length = n) (hlock : (c.locks p (c.recorded h p s) && (c.recorded h p s).flag Reg.HLM_STATUS_LOCKED) = false)
    (hcheck : c.check h p (c.recorded h p s) = none) (hat : c.privAt h (c.recorded h p s) = c.priv := by rfl) (hlenIs : c.len = lenIs n := by rfl)
    (hdeny : c.deny h p (c.recorded h p s) = false := by rfl) : Reached c h p s :=
  { operating := hop, privileged := hat ▸ hpriv, len := by rw [hlenIs]; exact if_pos hlen, deny := hdeny, lock := hlock, check := hcheck }

end Sys2Proof.Claims

namespace Sys2Proof.Machine

/-! ## The root PLL (R37, R561) -/

/-- The state once the module's root PLL is lost: TIM runs from the standby oscillator, its servo is free (R37, R561). -/
def State.pllLost (s : State) : State :=
  ((((s.modClk (fun c => { c with rootPll := false })).report 0x0300 fatal 0 []).setServo servoFree).modTim
    (fun t => { t with oscillator := true }))

theorem execRootPllFail_locked {s : State} (hon : s.clk.phase ≠ .off) (hpll : s.clk.rootPll = true) :
    execRootPllFail s = .next ((s.pllLost.setQuality 0).report 0x1003 corrected 0 []) := by
  have hrun : ¬ (s.clk.phase = .off ∨ (!s.clk.rootPll) = true) := by simp [hon, hpll]
  exact congrArg Host.Outcome.next (if_neg hrun)

/-- Setting the quality code changes registers and the Transcript. -/
theorem State.setQuality_frame (s : State) (q : Nat) : ∃ regs trec, s.setQuality q = { s with regs := regs, trec := trec } := by
  unfold State.setQuality
  split
  · exact ⟨s.regs, s.trec, rfl⟩
  · obtain ⟨t, h | h⟩ := (s.set Reg.TIM_STATUS_QUALITY 0 q).record_cases 0x0B 0
      (leBytes 1 3 ++ leBytes 1 s.quality ++ leBytes 1 q ++ [0, 0, 0, 0, 0] ++ timeBytes s.tim.counter ++ timeBytes s.tim.counter)
    · exact ⟨_, t, h⟩
    · exact ⟨_, t, h⟩

/-- The quality code set is the one read (R557). -/
theorem State.setQuality_quality (s : State) (q : Nat) (hwf : SMap.wf s.regs) (hq : q < 2 ^ Reg.TIM_STATUS_QUALITY.width) :
    (s.setQuality q).quality = q := by
  unfold State.setQuality
  split
  · assumption
  · have hkept := State.record_get (s.set Reg.TIM_STATUS_QUALITY 0 q) 0x0B 0 (leBytes 1 3 ++ leBytes 1 s.quality ++ leBytes 1 q ++
      [0, 0, 0, 0, 0] ++ timeBytes s.tim.counter ++ timeBytes s.tim.counter) Reg.TIM_STATUS_QUALITY 0 (by decide)
    exact hkept.trans ((s.get_set_self _ 0 q hwf).trans (Nat.mod_eq_of_lt hq))

/-- Setting the quality code leaves the servo's state. -/
theorem State.setQuality_servo (s : State) (q : Nat) : (s.setQuality q).get Reg.TIM_STATUS_STATE = s.get Reg.TIM_STATUS_STATE := by
  unfold State.setQuality
  split
  · rfl
  · exact (State.record_get _ _ _ _ _ _ (by decide)).trans (s.get_set_ne _ _ 0 0 q (by decide))

end Sys2Proof.Machine

namespace Sys2Proof.Claims

open Sys2Proof.Machine

/-! ## O21, clause by clause -/

section
variable {s : State}

/-- R37, R561: TIM runs from the standby oscillator, untraceable and with a free servo; two events report the loss. -/
theorem rootPllFail_reports (hwf : SMap.wf s.regs) (hon : s.clk.phase ≠ .off) (hpll : s.clk.rootPll = true) :
    ∃ t, exec .rootPllFail s = .next t ∧ t.clk = { s.clk with rootPll := false } ∧ t.tim = { s.tim with oscillator := true } ∧
      t.quality = 0 ∧ t.get Reg.TIM_STATUS_STATE = 0 ∧ (∃ e ∈ t.flt.waiting, e.src = 0x0300 ∧ e.cls = fatal) ∧
      (∃ e ∈ t.flt.waiting, e.src = 0x1003 ∧ e.cls = corrected) ∧ t.pol = s.pol ∧ t.jnl = s.jnl ∧ t.out = s.out := by
  have hservo : s.pllLost.get Reg.TIM_STATUS_STATE = 0 := State.get_set_self _ Reg.TIM_STATUS_STATE 0 servoFree hwf
  have hlost : (s.pllLost.setQuality 0).Waits 0x0300 fatal 0 := by
    have hreported : s.pllLost.Waits 0x0300 fatal 0 :=
      State.waits_report (s.modClk (fun c => { c with rootPll := false })) 0x0300 fatal 0 [] []
    obtain ⟨regs, trec, h⟩ := s.pllLost.setQuality_frame 0
    rw [h]
    exact hreported
  obtain ⟨e, he, hsrc, hcls, -⟩ := hlost.report 0x1003 corrected 0 [] []
  obtain ⟨f, hf, hfsrc, hfcls, -⟩ := State.waits_report (s.pllLost.setQuality 0) 0x1003 corrected 0 [] []
  have hquality : (s.pllLost.setQuality 0).quality = 0 := s.pllLost.setQuality_quality 0 (s.wf_set Reg.TIM_STATUS_STATE 0 servoFree hwf) (by decide)
  refine ⟨_, execRootPllFail_locked hon hpll, ?_, ?_, hquality, (s.pllLost.setQuality_servo 0).trans hservo,
    ⟨e, he, hsrc, hcls⟩, ⟨f, hf, hfsrc, hfcls⟩, ?_⟩
  all_goals
    obtain ⟨regs, trec, h⟩ := s.pllLost.setQuality_frame 0
    rw [h]
  · rfl
  · rfl
  · exact ⟨rfl, rfl, rfl⟩

/-- R702: a PLL that does not lock in a start is reported. -/
theorem rootPllNoLock_boot (hboot : s.clk.phase = .boot) :
    exec .rootPllNoLock s = .next ({ s with clk := { s.clk with rootPll := false } }.report 0x0300 fatal 0 []) := by
  show execRootPllNoLock s = _
  unfold execRootPllNoLock
  rw [hboot]
  rfl

/-- R704: 88 °C at the lid asserts THERM_N. -/
theorem thermalWarning_asserts {c : Int} (hon : s.clk.phase ≠ .off) (hhot : 88 ≤ c) (hidle : s.clk.thermN = false) :
    exec (.thermalWarning c) s = .next (({ (s.set Reg.CLK_THERM_LID_C 0 (unsignedOf 8 c)) with
      clk := { s.clk with thermN := true } }.setFlag Reg.CLK_THERM_WARN 0 true).report 0x0301 corrected 0 []) := by
  refine congrArg Host.Outcome.next ((if_neg hon).trans (if_pos ⟨hhot, ?_⟩))
  simp [hidle]

/-- R704: 85 °C at the lid releases it. -/
theorem thermalWarning_releases {c : Int} (hon : s.clk.phase ≠ .off) (hcool : c ≤ 85) (hwarned : s.clk.thermN = true) :
    exec (.thermalWarning c) s = .next ({ (s.set Reg.CLK_THERM_LID_C 0 (unsignedOf 8 c)) with
      clk := { s.clk with thermN := false } }.setFlag Reg.CLK_THERM_WARN 0 false) := by
  refine congrArg Host.Outcome.next ((if_neg hon).trans ((if_neg ?_).trans (if_pos ⟨hcool, ?_⟩)))
  · simp [hwarned]
  · simpa using hwarned

/-- R706: 120 °C at a junction gates the clocks. -/
theorem thermalTrip_junction {n : Fin 33} {c : Int} (hon : s.clk.phase ≠ .off) (hn : n.val < 32) (hhot : 120 ≤ c) :
    exec (.thermalTrip n c) s = .next ({ (s.set Reg.CLK_THERM_JUNC_C 0 (unsignedOf 8 c)) with
      clk := { s.clk with gated := true } }.report 0x0302 fatal 0 [byte n.val]) := by
  have hjunction : (n.val == 32) = false := by simp; omega
  refine congrArg Host.Outcome.next ((if_neg hon).trans ?_)
  simp only [hjunction, Bool.false_eq_true, if_false, hhot, if_true]
  rfl

/-- R706: so does 98 °C at the lid. -/
theorem thermalTrip_lid {c : Int} (hon : s.clk.phase ≠ .off) (hhot : 98 ≤ c) :
    exec (.thermalTrip 32 c) s = .next ({ (s.set Reg.CLK_THERM_LID_C 0 (unsignedOf 8 c)) with
      clk := { s.clk with gated := true } }.report 0x0302 fatal 0 [byte 32]) :=
  congrArg Host.Outcome.next ((if_neg hon).trans (if_pos hhot))

/-- R693: IDCODE shifts out the identifier. -/
theorem jtag_idcode (hon : s.clk.phase ≠ .off) :
    exec (.jtagTapOperation .idcode) s = .next ({ s with jtag := { s.jtag with driving := false, highz := false } }.emit
      (.jtag (leBytes 4 0x29640D9B))) :=
  congrArg Host.Outcome.next (if_neg hon)

/-- R693: without TEST_EN a board-test instruction acts as BYPASS. -/
theorem jtag_highz_untested (hon : s.clk.phase ≠ .off) (htest : s.flag Reg.FLT_STATUS_TEST_EN = false) :
    exec (.jtagTapOperation .highz) s = .next ({ s with jtag := { s.jtag with driving := false, highz := false } }.emit (.jtag [])) :=
  congrArg Host.Outcome.next ((if_neg hon).trans (if_neg (by simp [htest])))

/-- R108: a flush moves the journal buffer to flash. -/
theorem journalBufferFlush_flushes (hon : s.clk.phase ≠ .off) :
    exec .journalBufferFlush s = .next { s with jnl := { s.jnl with flash := s.jnl.flash ++ s.jnl.buf, buf := [] } } :=
  congrArg Host.Outcome.next (if_neg hon)

/-- R107: a compaction rewrites the journal. -/
theorem journalCompaction_compacts (hhigh : s.jnl.high = true) (hsound : s.jnl.bad = none) (hon : s.clk.phase ≠ .off) :
    exec .journalCompaction s = .next { s with jnl := { s.jnl with flash := compacted (s.jnl.flash ++ s.jnl.buf), buf := [] } } :=
  congrArg Host.Outcome.next (if_pos (by simp [hhigh, hsound, hon]))

/-- R607: MODULE_WARM_RESET asks for a WARM start with trigger 5. -/
theorem moduleWarmReset_does : Does .moduleWarmReset 0xC010 .admin 0 (fun _ _ s => s.clk.startPend = none)
    (fun _ _ s => { s with clk := { s.clk with startPend := some { kind := 3, trigger := 5, source := 0 } } }) := by
  intro h p s hop hpriv hlen hidle
  have hr : Reached specModuleWarmReset h p s := reached hop hpriv hlen rfl rfl
  have hsafe : (specModuleWarmReset.recorded h p s).flag Reg.FLT_STATUS_SAFE_MODULE = false :=
    (CmdSpec.recorded_flag _ _ _ _ _ _ (by decide)).trans hop.2
  have hclear : ¬ ((specModuleWarmReset.recorded h p s).flag Reg.FLT_STATUS_SAFE_MODULE = true ∨
      (specModuleWarmReset.recorded h p s).clk.phase ≠ .ready ∨ (specModuleWarmReset.recorded h p s).clk.startPend.isSome = true) := by
    simp [hsafe, hop.1, hidle]
  exact hr.done (if_neg hclear)

/-- A state in which Standby has been commanded and the main domain is up enters Standby. -/
theorem standbyNow_commanded (hcommanded : s.clk.commanded = true) (hup : s.mainUp = true) : s.standbyNow = s.enterStandby :=
  if_pos (by simp [hcommanded, hup])

/-- R599: MODULE_STANDBY is answered, then Standby is entered. -/
theorem moduleStandby_enters {h : Hdr} {p : Bytes} (hop : Operating s) (hpriv : Privileged .admin h s) (hlen : p.length = 0)
    (hidle : s.clk.startPend = none) :
    exec (.moduleStandby h p) s = .next (answered 0xC011 stSuccess h s []
      { request 0xC011 .admin h p s with clk := { s.clk with commanded := true } }).enterStandby := by
  have hr : Reached specModuleStandby h p s := reached hop hpriv hlen rfl rfl
  have hrun : specModuleStandby.run h p (specModuleStandby.recorded h p s) =
      .done [] { specModuleStandby.recorded h p s with clk := { s.clk with commanded := true } } := by
    refine (if_neg (by simp [hidle])).trans ?_
    rw [← specModuleStandby.recorded_clk h p s]
    rfl
  show Host.Outcome.next (stateAfter (specModuleStandby.direct h p s) s).standbyNow = _
  rw [hr.done hrun]
  refine congrArg Host.Outcome.next (standbyNow_commanded ?_ ?_)
  · simp only [stateAfter, CmdSpec.answered, State.answer_clk]
  · simp only [stateAfter, CmdSpec.answered, State.mainUp, State.answer_clk, hop.1]

/-- R611: JOURNAL_FLUSH flushes. -/
theorem journalFlush_does : Does .journalFlush 0xC012 .operate 0 always
    (fun _ _ s => { s with jnl := { s.jnl with flash := s.jnl.flash ++ s.jnl.buf, buf := [] } }) := by
  intro h p s hop hpriv hlen _
  have hr : Reached specJournalFlush h p s := reached hop hpriv hlen rfl rfl
  exact hr.done rfl

/-- R611: JOURNAL_CLEAR marks the journal, when nothing of the pool is in use. -/
theorem journalClear_does : Does .journalClear 0xC013 .admin 1
    (fun _ p s => s.flag Reg.HLM_STATUS_LOCKED = false ∧ s.validExtents = [] ∧ s.flag Reg.SEM_TWIN_STATUS_ENABLED = false ∧ p8 p 0 = 1)
    (fun _ _ s => (s.setFlag Reg.CLK_JOURNAL_CLEAR_PEND 0 true).journal (.clear true)) := by
  intro h p s hop hpriv hlen hgood
  obtain ⟨hunlocked, hempty, htwin, hone⟩ := hgood
  have hlocked : (specJournalClear.recorded h p s).flag Reg.HLM_STATUS_LOCKED = false :=
    (CmdSpec.recorded_flag _ _ _ _ _ _ (by decide)).trans hunlocked
  have hr : Reached specJournalClear h p s := reached hop hpriv hlen (by simp [hlocked]) rfl
  have hextents : (specJournalClear.recorded h p s).validExtents = [] := (State.record_validExtents ..).trans hempty
  have hsingle : (specJournalClear.recorded h p s).flag Reg.SEM_TWIN_STATUS_ENABLED = false := (State.record_twinEnabled ..).trans htwin
  have hon : bitOf (p8 p 0) 0 = true := by rw [hone]; rfl
  refine hr.done ((if_neg (by simp [hextents, hsingle])).trans ?_)
  rw [hon]
  rfl

end

/-- Settles O21: the lemmas above, one for each clause. -/
theorem clocksThermalJtagAndJournal : Obligations.ClocksThermalJtagAndJournal :=
  ⟨fun _ => rootPllFail_reports, fun _ => rootPllNoLock_boot, fun _ _ => thermalWarning_asserts, fun _ _ => thermalWarning_releases,
    fun _ _ _ => thermalTrip_junction, fun _ _ => thermalTrip_lid, fun _ => jtag_idcode, fun _ => jtag_highz_untested,
    fun _ => journalBufferFlush_flushes, fun _ => journalCompaction_compacts, moduleWarmReset_does,
    fun _ _ _ => moduleStandby_enters, journalFlush_does, journalClear_does⟩

end Sys2Proof.Claims

namespace Sys2Proof.Machine

/-! ## Forwarding at the ports (R61, R319, R331) -/

/-- A link that is not in L1 has nothing to wake from (R603). -/
theorem State.wake_awake {s : State} {p : Nat} (h : (s.port p).l1 = false) : s.wake p = s :=
  if_neg (by simp [h])

/-- A CXL.mem write outside every decoder of a USP: by the windows of bound vPPBs, otherwise row 1 of Table 2-3 (R61). -/
theorem execCxlMemRequest_outsidePool {s : State} {p : Port} {m : MemReq} (htakes : s.takes p.val = true) (hmem : (s.port p.val).memUp = true)
    (hawake : (s.port p.val).l1 = false) (hpbr : m.pbr = none) (hop : m.op = .memWr) (husp : s.isUsp p.val = true)
    (hpool : s.decodeHpa p.val m.hpa (s.inStamp p.val) = none) :
    execCxlMemRequest p m s = .next ((s.windowOf p.val m.hpa (s.inStamp p.val)).elim
      (s.refuse p.val 1 (16 * p.val) 0 m (m.hpa % 2 ^ 45 / 64) none) (fun x => s.memToDevice p.val x.1 x.2 m)) := by
  cases hwin : s.windowOf p.val m.hpa (s.inStamp p.val) with
  | none => simp [execCxlMemRequest, htakes, hmem, State.wake_awake hawake, hop, hpbr, husp, hpool, hwin]
  | some x => simp [execCxlMemRequest, htakes, hmem, State.wake_awake hawake, hop, hpbr, husp, hpool, hwin]

/-- A write to a device that is up and not in containment is forwarded (R331). -/
theorem State.memToDevice_write {s : State} {u v : Nat} {b : Bind} {m : MemReq} (hop : m.op = .memWr) (hfree : 32 * u + v ∉ s.prt.dpc)
    (hup : (s.port b.port).up = true) :
    s.memToDevice u v b m = s.enterMsg {
      src := u, dest := b.port, q := 2, len := 80, ingots := 2, epoch := s.inStamp u, mc := none, pbar := none, hr := false, perr := false
      body := .memFwd b.port m m.hpa } false := by
  have hopen : s.contained? (32 * u + v) = false := by simpa [State.contained?] using hfree
  have hwrite : isWriteOp m.op = true := by rw [hop]; rfl
  simp only [State.memToDevice, hopen, hup, hwrite, State.fwd]
  rfl

/-- Row 1 of Table 2-3 completes a write of port `p` without effect and is reported (R61). -/
theorem State.refuse_outside {s : State} {p : Nat} {m : MemReq} (hop : m.op = .memWr) (line : Nat) :
    s.refuse p 1 (16 * p) 0 m line none =
      (s.emit (.memCpl p { tag := m.tag, row := 1, data := none, poison := false, mta := none })).report (0x0A00 + p) contained 1
        (ctxLd (16 * p) line) := by
  have hport : 16 * p / 16 = p := by omega
  have hwrite : isWriteOp m.op = true := by rw [hop]; rfl
  simp [State.refuse, hport, hwrite]

/-- A TLP of the fabric that does not cut through is sent as a message of its length (R262). -/
theorem State.tlpTo_stored {s : State} (src d : Nat) (t : Tlp) (hct : s.flag Reg.XBR_CTL_CT_EN = false) :
    s.tlpTo src (d, d) t = s.enterMsg {
      src := src, dest := d, q := tlpQueue t.kind, len := max 1 t.bytes, ingots := ingotsOf (max 1 t.bytes), epoch := s.inStamp src
      mc := none, pbar := none, hr := false, perr := false, body := .tlp d t false } (tlpPb t) := by
  simp [State.tlpTo, State.cutsThrough, hct, State.fwd]

/-- A message TLP of a PASS device that is not in containment goes upstream (R331). -/
theorem State.tlpAtDsp_msg {s : State} {p k : Nat} {t : Tlp} (hkind : t.kind = .msg) (hld : t.ld = none)
    (hbound : s.bindsTo p = [(k, none)]) (hfree : k ∉ s.prt.dpc) : s.tlpAtDsp p t = s.tlpTo p (k / 32, k / 32) t := by
  have hopen : s.contained? k = false := by simpa [State.contained?] using hfree
  simp [State.tlpAtDsp, hbound, hld, hopen, hkind]

/-- A port that is neither a USP nor a POOL DSP takes a TLP without PBR as one of its device (R319). -/
theorem execCxlIoTlpReceive_dsp {s : State} {p : Port} {t : Tlp} (htakes : s.takes p.val = true) (hawake : (s.port p.val).l1 = false)
    (hpbr : t.pbr = none) (husp : s.isUsp p.val = false) (hpool : s.isPool p.val = false) :
    execCxlIoTlpReceive p t s = .next (s.tlpAtDsp p.val t) := by
  simp [execCxlIoTlpReceive, htakes, State.wake_awake hawake, hpbr, husp, hpool]

/-- An AtomicOp TLP at a USP outside the pool, outside the module's registers and inside a window goes to its device (R323). -/
theorem State.tlpAtUsp_atomic {s : State} {u v : Nat} {b : Bind} {t : Tlp} (hkind : t.kind = .atomic)
    (hpool : s.decodeHpa u t.addr (s.inStamp u) = none) (hbar : s.barHit u t.addr = none)
    (hwin : s.windowOf u t.addr (s.inStamp u) = some (v, b)) : s.tlpAtUsp u t = s.tlpToDevice u u v b t := by
  have hmc : s.mcHit u .usp t = none := by simp [State.mcHit, hkind]
  simp [State.tlpAtUsp, hkind, hpool, hmc, hbar, hwin]

end Sys2Proof.Machine

namespace Sys2Proof.Claims

open Sys2Proof.Machine

/-! ## O40, clause by clause -/

section
variable {p u : Port} {s : State}

/-- R61, R319: a write outside every decoder goes to the PASS device whose window claims it. -/
theorem cxlMemRequest_window {v : Nat} {b : Bind} {m : MemReq} (htakes : s.takes p.val = true) (hmem : (s.port p.val).memUp = true)
    (hawake : (s.port p.val).l1 = false) (hpbr : m.pbr = none) (hop : m.op = .memWr) (husp : s.isUsp p.val = true)
    (hpool : s.decodeHpa p.val m.hpa (s.inStamp p.val) = none) (hwin : s.windowOf p.val m.hpa (s.inStamp p.val) = some (v, b))
    (hfree : 32 * p.val + v ∉ s.prt.dpc) (hup : (s.port b.port).up = true) :
    exec (.cxlMemRequest p m) s = .next (s.enterMsg {
      src := p.val, dest := b.port, q := 2, len := 80, ingots := 2, epoch := s.inStamp p.val, mc := none, pbar := none, hr := false
      perr := false, body := .memFwd b.port m m.hpa } false) := by
  refine (execCxlMemRequest_outsidePool htakes hmem hawake hpbr hop husp hpool).trans ?_
  rw [hwin]
  exact congrArg Host.Outcome.next (State.memToDevice_write hop hfree hup)

/-- R61: a write outside every decoder and every window completes as row 1 of Table 2-3. -/
theorem cxlMemRequest_outside {m : MemReq} (htakes : s.takes p.val = true) (hmem : (s.port p.val).memUp = true)
    (hawake : (s.port p.val).l1 = false) (hpbr : m.pbr = none) (hop : m.op = .memWr) (husp : s.isUsp p.val = true)
    (hpool : s.decodeHpa p.val m.hpa (s.inStamp p.val) = none) (hwin : s.windowOf p.val m.hpa (s.inStamp p.val) = none) :
    exec (.cxlMemRequest p m) s = .next ((s.emit (.memCpl p.val { tag := m.tag, row := 1, data := none, poison := false, mta := none })).report
      (0x0A00 + p.val) contained 1 (ctxLd (16 * p.val) (m.hpa % 2 ^ 45 / 64))) := by
  refine (execCxlMemRequest_outsidePool htakes hmem hawake hpbr hop husp hpool).trans ?_
  rw [hwin]
  exact congrArg Host.Outcome.next (State.refuse_outside hop _)

/-- R319: a message TLP of a PASS device goes upstream. -/
theorem cxlIoTlpReceive_msg {k : Nat} {t : Tlp} (htakes : s.takes p.val = true) (hawake : (s.port p.val).l1 = false) (hpbr : t.pbr = none)
    (hkind : t.kind = .msg) (hld : t.ld = none) (husp : s.isUsp p.val = false) (hpool : s.isPool p.val = false)
    (hbound : s.bindsTo p.val = [(k, none)]) (hfree : k ∉ s.prt.dpc) (hct : s.flag Reg.XBR_CTL_CT_EN = false) :
    exec (.cxlIoTlpReceive p t) s = .next (s.enterMsg {
      src := p.val, dest := k / 32, q := 5, len := max 1 t.bytes, ingots := ingotsOf (max 1 t.bytes), epoch := s.inStamp p.val
      mc := none, pbar := none, hr := false, perr := false, body := .tlp (k / 32) t false } false) := by
  refine (execCxlIoTlpReceive_dsp htakes hawake hpbr husp hpool).trans (congrArg Host.Outcome.next ?_)
  rw [State.tlpAtDsp_msg hkind hld hbound hfree, State.tlpTo_stored _ _ _ hct, tlpPb, hkind]
  rfl

/-- R324: an I/O access inside a pool range is reported; a read is answered Unsupported Request. -/
theorem poolRangeIoRequest_reports {hpa : BitVec 64} {tag : Nat} {x : Nat × Nat} (husp : s.isUsp u.val = true) (htakes : s.takes u.val = true)
    (hawake : (s.port u.val).l1 = false) (hpool : s.decodeHpa u.val hpa.toNat (s.inStamp u.val) = some x) :
    exec (.poolRangeIoRequest u false hpa tag) s =
        .next ((s.emit (.ioCpl u.val tag .ur [])).report (0x0600 + u.val) contained 5 [byte u.val]) ∧
      exec (.poolRangeIoRequest u true hpa tag) s = .next (s.report (0x0600 + u.val) contained 5 [byte u.val]) := by
  have hinside : (s.isUsp u.val && s.takes u.val && (s.decodeHpa u.val hpa.toNat (s.inStamp u.val)).isSome) = true := by
    simp [husp, htakes, hpool]
  have hrun (write : Bool) : exec (.poolRangeIoRequest u write hpa tag) s =
      .next ((if write then s else s.emit (.ioCpl u.val tag .ur [])).report (0x0600 + u.val) contained 5 [byte u.val]) := by
    refine congrArg Host.Outcome.next ((if_pos hinside).trans ?_)
    rw [State.wake_awake hawake]
  exact ⟨hrun false, hrun true⟩

/-- R323: an AtomicOp outside the pool goes to the device whose window claims it. -/
theorem atomicopReceive_window {a : AtomReq} {v : Nat} {b : Bind} (husp : s.isUsp u.val = true) (htakes : s.takes u.val = true)
    (hawake : (s.port u.val).l1 = false) (hpool : s.decodeHpa u.val a.hpa (s.inStamp u.val) = none) (hbar : s.barHit u.val a.hpa = none)
    (hwin : s.windowOf u.val a.hpa (s.inStamp u.val) = some (v, b)) :
    exec (.atomicopReceive u a) s = .next (s.tlpToDevice u.val u.val v b {
      kind := .atomic, addr := a.hpa, rid := 0, reqId := 0, pbr := none, tag := a.tag, bytes := 16 + a.size, len := a.size, ro := false
      ide := false, ld := none, data := leBytes a.size a.operand }) := by
  refine congrArg Host.Outcome.next ((if_neg (by simp [husp, htakes])).trans ?_)
  simp only [State.wake_awake hawake, hpool]
  exact State.tlpAtUsp_atomic rfl hpool hbar hwin

/-- R331: a message of a bound pair passes to the other side. -/
theorem passThroughCxlMessage_forwards {v : Nat} {b : Bind} {m : PassMsg} (htakes : s.takes p.val = true) (hawake : (s.port p.val).l1 = false)
    (husp : s.isUsp p.val = true) (hpeer : m.peer = some v) (hbound : s.bindOf p.val v = some b) (hfree : 32 * p.val + v ∉ s.prt.dpc)
    (hup : (s.port b.port).up = true) :
    exec (.passThroughCxlMessage p m) s = .next (s.enterMsg {
      src := p.val, dest := b.port, q := if m.cache then 3 else 0, len := max 1 m.bytes, ingots := ingotsOf (max 1 m.bytes)
      epoch := s.inStamp p.val, mc := none, pbar := none, hr := false, perr := false, body := .passMsg b.port m } false) := by
  have hopen : s.contained? (32 * p.val + v) = false := by simpa [State.contained?] using hfree
  have hqueue : passQueue true m = if m.cache then 3 else 0 := by simp [passQueue]
  refine congrArg Host.Outcome.next ((if_neg (by simp [htakes])).trans ?_)
  simp only [State.wake_awake hawake, husp, hpeer, hbound, hopen, hup, hqueue, State.fwd]
  rfl

end

/-- Settles O40: the lemmas above, one for each clause. -/
theorem trafficAtThePorts : Obligations.TrafficAtThePorts :=
  ⟨fun _ _ _ _ _ => cxlMemRequest_window, fun _ _ _ => cxlMemRequest_outside,
    fun _ _ _ _ htakes hawake hpbr hkind hld husp hpool hbound hfree hct _ =>
      cxlIoTlpReceive_msg htakes hawake hpbr hkind hld husp hpool hbound hfree hct,
    fun _ _ _ _ _ => poolRangeIoRequest_reports, fun _ _ _ _ _ => atomicopReceive_window, fun _ _ _ _ _ => passThroughCxlMessage_forwards⟩

end Sys2Proof.Claims

namespace Sys2Proof.Claims

open Sys2Proof.Machine

/-! ## O38 and O39: a list of ports that is not canonical -/

/-- A module whose list of ports names port 0 twice. Storing the state of a port at reset removes the first entry and uncovers the
second. -/
def twicePorted (x : PortSt) : State :=
  { State.reset with
    regs := [(Reg.PRT_PORT_CFG_ROLE.key 0, 1)]
    prt := { Prt.reset with ports := [(0, x), (0, x)] } }

set_option maxRecDepth 20000 in
/-- Port 0, a USP whose link is down and which takes no Retry Status, becomes a port without a role. Its state is then that at
reset, and the second entry shows, which takes no Retry Status either. -/
theorem setRole_twicePorted : (((twicePorted { PortSt.dflt with crs := false }).setRole 0 0).port 0).crs = false := by decide

/-- Refutes O38: its second clause leaves out that the list of ports is canonical. Where the list names a port twice, the role
given to the port uncovers a second entry, and the port takes no Retry Status. -/
theorem not_portCommands : ¬ Obligations.PortCommands := by
  intro h
  obtain ⟨-, hrole, -⟩ := h
  obtain ⟨-, hcrs, -⟩ := hrole 0 0 (twicePorted { PortSt.dflt with crs := false }) (by decide) (by decide) (by decide) (by decide)
  exact absurd (setRole_twicePorted.symm.trans hcrs) (by decide)

end Sys2Proof.Claims

namespace Sys2Proof.Claims

open Sys2Proof.Machine

set_option maxRecDepth 20000 in
/-- USP 0 with its link up is reset. Its state while the link is down is that of a port at reset, so that the second entry shows, which
is up; the PORT reset that follows leaves it up. -/
theorem linkDown_twicePorted : (((twicePorted { PortSt.dflt with up := true }).linkDown 0).port 0).up = true := by decide

/-- Refutes O39: its clause about PORT_RESET leaves out that the list of ports is canonical. Where the list names a USP twice, the
reset uncovers a second entry, and the link is up. -/
theorem not_portEvents : ¬ Obligations.PortEvents := by
  intro h
  obtain ⟨-, -, -, -, -, -, -, -, -, -, -, -, -, hreset, -⟩ := h
  have husp : (twicePorted { PortSt.dflt with up := true }).isUsp 0 = true := by decide
  obtain ⟨t, ht, hdown, -⟩ := hreset 0 (twicePorted { PortSt.dflt with up := true }) husp (by decide) rfl rfl rfl
  have hrun : exec (.portReset 0) (twicePorted { PortSt.dflt with up := true }) =
      .next ((twicePorted { PortSt.dflt with up := true }).linkDown 0) := congrArg Host.Outcome.next (if_pos husp)
  rw [← Host.Outcome.next.inj (hrun.symm.trans ht)] at hdown
  exact absurd (linkDown_twicePorted.symm.trans hdown) (by decide)

end Sys2Proof.Claims

namespace Sys2Proof.Claims

open Sys2Proof.Machine

/-! ## O49: a list of ports that is not canonical -/

/-- A read of LD 0's first line that port 4 holds during the start-up hold (R110). -/
def heldRead : MissHold :=
  { port := 4, slot := 64, usp := 4, ld := 0, dpa := 0, extent := 0, pair := none, stamp := 0
    req := { op := .memRd, snp := .noOp, mval := none, hpa := 0, tag := 0, data := [], mask := 0, poison := false, pbr := none } }

/-- A module in the start-up hold that holds `heldRead`. LD 0's first extent is on the accepted POOL device behind port 4, which is in
the view of USP 0. The list of ports names port 4 twice: with its link down and credits withheld, then with its link up. -/
def holdingTwice : State :=
  { State.reset with
    regs := [(Reg.PRT_PORT_CFG_ROLE.key 4, 2), (Reg.POL_DSP_CFG_PERSONALITY.key 4, 2), (Reg.POL_DSP_CFG_DEVICE_OK.key 4, 1)]
    tbl := { Tbl.reset with tables := [(0x0A00, { TableSt.dflt with active := [(0x1000, 0x84)] })] }
    pol := { Pol.reset with map := [(0, 1 + 4 * 2 ^ 17)], startHold := true, held := [heldRead] }
    prt := { Prt.reset with
      ports := [(4, { PortSt.dflt with withhold := [.startHold] }), (4, { PortSt.dflt with up := true })] } }

set_option maxRecDepth 20000 in
/-- The first entry of port 4 says that the target of the read is down: row 8 of Table 2-3. -/
theorem poolRow_holdingTwice : holdingTwice.poolRow 0 0 0 false = (8, 4) := by decide

set_option maxRecDepth 20000 in
/-- The end of the hold returns port 4's credits. Its state is then that at reset, so that the second entry shows, by which the target
is up: the read goes to its home slice, and nothing is answered. -/
theorem endStartHold_holdingTwice : holdingTwice.endStartHold.out = [] := by decide

/-- Refutes O49: its clause about the start-up hold leaves out that the list of ports is canonical. Where the list names a port twice,
the end of the hold uncovers a second entry, by which the device of the read can be reached. -/
theorem not_poolDevicesAndLookups : ¬ Obligations.PoolDevicesAndLookups := by
  intro h
  obtain ⟨-, -, hexpiry, -⟩ := h
  obtain ⟨t, ht, -, -, -, hout, -⟩ := hexpiry heldRead 4 holdingTwice rfl rfl (by decide) poolRow_holdingTwice rfl
  have hrun : exec .startHoldExpiry holdingTwice = .next holdingTwice.endStartHold := rfl
  rw [← Host.Outcome.next.inj (hrun.symm.trans ht), endStartHold_holdingTwice] at hout
  exact absurd hout (List.cons_ne_nil _ _).symm

end Sys2Proof.Claims

namespace Sys2Proof.Claims

open Sys2Proof.Machine

/-! ## O51: a relocation that splits a run of the extent map -/

/-- A command whose work fails without an effect answers the error (R459). -/
theorem Reached.fails {c : CmdSpec} {h : Hdr} {p : Bytes} {s : State} {st : Nat} (hr : Reached c h p s)
    (hrun : c.run h p (c.recorded h p s) = .fail st) : c.direct h p s = .next (c.answered h s (c.recorded h p s) st []) :=
  c.direct_fail hr.operating.on hr.len (by rw [c.outcome_run hr.mayIssue hr.deny hr.lock hr.check hr.serves, hrun])

/-- Extent `x` on page `x` of the device behind target 0: VALID, of LD 0. -/
def onPage (x : Nat) : Nat × Nat := (x, 1 + x * 2 ^ 24)

/-- `n` extents from `x` on, every other one. -/
def scattered : Nat → Nat → SMap Nat
  | _, 0 => []
  | x, n + 1 => onPage x :: scattered (x + 2) n

/-- Extents that are not consecutive are a run each (R106). -/
theorem mapRuns_before_scattered {a : Nat × Nat} {x : Nat} (hgap : x ≠ a.1 + 1) (n : Nat) : mapRuns (a :: scattered x n) = n + 1 := by
  induction n generalizing a x with
  | zero => rfl
  | succ n ih =>
    have hrest : mapRuns (onPage x :: scattered (x + 2) n) = n + 1 := ih (by simp [onPage])
    have hfirst : ¬ ((onPage x).1 = a.1 + 1 ∧ (onPage x).2 % 2 ^ 48 = a.2 % 2 ^ 48 + 2 ^ 24) := fun h => hgap h.1
    rw [scattered, mapRuns, hrest, if_neg hfirst, Nat.add_comm]

/-- Extents 0, 1 and 2 with scattered ones behind them. -/
def fragmented : SMap Nat := onPage 0 :: onPage 1 :: onPage 2 :: scattered 4 196606

/-- Extents 0, 1 and 2 are one run. -/
theorem mapRuns_fragmented : mapRuns fragmented = 196607 := by
  rw [fragmented, mapRuns, mapRuns, mapRuns_before_scattered (by decide), if_pos (by decide), if_pos (by decide)]

/-- With extent 1 on page 7 they are three. -/
theorem mapRuns_split : mapRuns (SMap.put fragmented 1 (1 + 7 * 2 ^ 24)) = 196609 := by
  have hput : SMap.put fragmented 1 (1 + 7 * 2 ^ 24) = onPage 0 :: (1, 1 + 7 * 2 ^ 24) :: onPage 2 :: scattered 4 196606 := rfl
  rw [hput, mapRuns, mapRuns, mapRuns_before_scattered (by decide), if_neg (by decide), if_neg (by decide)]

/-- A module in operation with that extent map. -/
def fragmentedPool : State :=
  { State.reset with clk := { Clk.reset with phase := .ready }, pol := { Pol.reset with map := fragmented } }

/-- The parameters of a RELOCATE_START of extent 1 to page 7. -/
def splitList : Bytes := [0, 0, 1, 0, 0, 0, 0, 0, 0, 0, 0, 0, 0, 0, 0, 0, 1, 0, 0, 0, 7, 0, 0, 0, 0, 0, 0, 0, 0, 0, 0, 0]

set_option maxRecDepth 20000 in
theorem reached_relocateStart_fragmentedPool : Reached specRelocateStart operator splitList fragmentedPool :=
  { operating := by decide, privileged := by decide, len := by decide, deny := rfl, lock := rfl, check := by decide }

set_option maxRecDepth 20000 in
/-- The item of the list that the work sees. -/
theorem listItem_splitList : listItem (specRelocateStart.recorded operator splitList fragmentedPool) splitList 0 =
    { extent := 1, copy := none, target := 0, il := false, page := 7 } := by decide

set_option maxRecDepth 20000 in
/-- Nothing stands in the item's way. -/
theorem itemConflict_splitList : (specRelocateStart.recorded operator splitList fragmentedPool).itemConflict
    { extent := 1, copy := none, target := 0, il := false, page := 7 } = false := by decide

/-- The map that the relocation makes has more runs than the journal holds (R106, R107). -/
theorem runsWith_splitList :
    (specRelocateStart.recorded operator splitList fragmentedPool).runsWith [(1, 1 + 7 * 2 ^ 24)] = 196609 := by
  have hmap : fragmentedPool.pol.map = fragmented := rfl
  rw [State.runsWith, CmdSpec.recorded_pol, hmap, List.foldl_cons, List.foldl_nil, mapRuns_split]

set_option maxRecDepth 20000 in
/-- The entry of extent 1 once it has moved. -/
theorem moved_splitList : ({ extent := 1, copy := none, target := 0, il := false, page := 7 } : RelocItem).moved
    ((specRelocateStart.recorded operator splitList fragmentedPool).entry 1) = 1 + 7 * 2 ^ 24 := by decide

/-- The work of a RELOCATE_START of one unmirrored extent whose map would have too many runs ends with NO_RESOURCE (R107). -/
theorem specRelocateStart_run_full {h : Hdr} {p : Bytes} {s : State} {i : RelocItem} (hlist : p8 p 0 = 0) (hone : p16 p 2 = 1)
    (hitem : listItem s p 0 = i) (hclear : s.itemConflict i = false) (hcopy : i.copy = none)
    (hfull : 196608 < s.runsWith [(i.extent, i.moved (s.entry i.extent))]) : specRelocateStart.run h p s = .fail stNoResource := by
  simp [specRelocateStart, hlist, hone, hitem, hclear, hcopy, hfull]

/-- The RELOCATE_START answers NO_RESOURCE. -/
theorem relocateStart_splitList : exec (.relocateStart operator splitList) fragmentedPool =
    .next (specRelocateStart.answered operator fragmentedPool (specRelocateStart.recorded operator splitList fragmentedPool)
      stNoResource []) := by
  have hfull : 196608 < (specRelocateStart.recorded operator splitList fragmentedPool).runsWith [(1, 1 + 7 * 2 ^ 24)] := by
    rw [runsWith_splitList]
    decide
  rw [← moved_splitList] at hfull
  exact reached_relocateStart_fragmentedPool.fails
    (specRelocateStart_run_full (by decide) (by decide) listItem_splitList itemConflict_splitList rfl hfull)

/-- Refutes O51: its clause about RELOCATE_START asks for fewer than 196,608 runs of the map as it is, and the command counts the runs of
the map as it will be. An extent in the middle of a run makes two more of them: from 196,607 the map comes to 196,609, and the answer
is NO_RESOURCE. -/
theorem not_liveRelocation : ¬ Obligations.LiveRelocation := by
  intro h
  obtain ⟨-, -, -, -, hstart, -⟩ := h
  have hreached := reached_relocateStart_fragmentedPool
  have hdest : fragmentedPool.destOk (bitOf (p8 splitList 25) 0) (p8 splitList 24) (entMirrored (fragmentedPool.entry (p32 splitList 16))) =
      true := by decide
  have hclear : fragmentedPool.itemConflict (listItem fragmentedPool splitList 0) = false := by decide
  have hruns : mapRuns fragmentedPool.pol.map < 196608 := by
    have hmap : fragmentedPool.pol.map = fragmented := rfl
    rw [hmap, mapRuns_fragmented]
    decide
  have hstarted := hstart operator splitList fragmentedPool hreached.operating hreached.privileged rfl (by decide)
    ⟨by decide, by decide, by decide, by decide, hdest, hclear, hruns⟩
  rw [relocateStart_splitList] at hstarted
  have hout := congrArg State.out (Host.Outcome.next.inj hstarted)
  rw [CmdSpec.answered, answered, State.answer_out_i3c _ _ _ _ _ _ _ _ rfl, State.answer_out_i3c _ _ _ _ _ _ _ _ rfl] at hout
  have hpacket := (OutMsg.packet.inj (List.cons.inj hout).1).2.2
  exact absurd (congrArg (fun k => List.getD k 1 0) hpacket) (by decide)

end Sys2Proof.Claims

namespace Sys2Proof.Machine

/-! ## Releases (Table 2-9) -/

/-- The share groups whose last member leaves with release `r`. -/
def State.groupsGone (s : State) (r : Release) : List Nat :=
  (r.leavers.map Prod.snd).dedup.filter (fun g =>
    (s.members g).all (fun m => r.leavers.contains (m, g)) && !r.joiners.any (fun j => j.2 == g))

/-- The extents that release `r` gives up. -/
def State.extentsGone (s : State) (r : Release) : List Nat := r.extents ++ ((s.groupsGone r).map s.groupExtents).flatten

/-- The memberships that release `r` changes. -/
def Release.changes (r : Release) : List (Nat × Nat × Bool) :=
  r.leavers.map (fun l => (l.1, l.2, false)) ++ r.joiners.map (fun l => (l.1, l.2, true))

/-- The write that clears the decoders of an LD that is destroyed (R92). -/
def Release.decodersOff (r : Release) : List (Nat × Nat × Bytes) :=
  if r.destroy then [(0x0A00 + r.ld / 16, 128 * (r.ld % 16), List.replicate 128 (0 : Byte))] else []

/-- Ending the relocations of released extents changes relocations, the journal and the Mover. -/
theorem State.dropRelocs_frame (s : State) (xs : List Nat) : ∃ relocs jnl mov,
    s.dropRelocs xs = { s with pol := { s.pol with relocs := relocs }, jnl := jnl, mov := mov } := by
  induction xs generalizing s with
  | nil => exact ⟨s.pol.relocs, s.jnl, s.mov, rfl⟩
  | cons x xs ih =>
    have hcons : s.dropRelocs (x :: xs) = (s.dropRelocs [x]).dropRelocs xs := rfl
    have hone : ∃ relocs jnl mov, s.dropRelocs [x] = { s with pol := { s.pol with relocs := relocs }, jnl := jnl, mov := mov } := by
      simp only [State.dropRelocs, forEach, List.foldl_cons, List.foldl_nil]
      cases s.relocOf x with
      | none => exact ⟨s.pol.relocs, s.jnl, s.mov, rfl⟩
      | some r => exact ⟨_, _, _, rfl⟩
    obtain ⟨relocs, jnl, mov, h⟩ := hone
    rw [hcons, h]
    exact ih _

/-- Where none of the extents is being relocated, no relocation ends. -/
theorem State.dropRelocs_none {s : State} {xs : List Nat} (h : ∀ x ∈ xs, s.relocOf x = none) : s.dropRelocs xs = s := by
  induction xs with
  | nil => rfl
  | cons x xs ih =>
    have hx : s.relocOf x = none := h x List.mem_cons_self
    have hxs := ih fun y hy => h y (List.mem_cons_of_mem x hy)
    simpa only [State.dropRelocs, forEach, List.foldl_cons, hx] using hxs

/-- Steps 3 and 4 of Table 2-9 after the relocations of the extents have ended: the journal, and one commit (R86). -/
theorem State.commitRelease_frame (s : State) (r : Release) : ∃ jnl, s.commitRelease r =
    ({ s.dropRelocs (s.extentsGone r) with jnl := jnl } : State).moduleCommit 0
      (r.decodersOff ++ (s.dropRelocs (s.extentsGone r)).memberWrites r.changes) ((s.extentsGone r).map (fun x => (x, 0))) (.release r.id) := by
  unfold State.commitRelease
  extract_lets gone xs s1 chg gs s2 s3 s4 off
  obtain ⟨jnl2, h2⟩ : ∃ jnl, s2 = { s1 with jnl := jnl } := s1.journals_frame _
  obtain ⟨jnl3, h3⟩ : ∃ jnl, s3 = { s2 with jnl := jnl } := s2.journals_frame _
  obtain ⟨jnl4, h4⟩ : ∃ jnl, s4 = { s3 with jnl := jnl } := by
    by_cases hd : r.destroy = true
    · exact ⟨_, if_pos hd⟩
    · exact ⟨s3.jnl, if_neg hd⟩
  rw [h4, h3, h2]
  exact ⟨jnl4, rfl⟩

/-- A release that has no BI invalidation to wait for is committed at once (R86). -/
theorem State.startRelease_now {s : State} {r : Release} {inval : Bool} (hneed : inval = false ∨ r.leavers = [])
    (hflush : s.dir.flushes = []) :
    s.startRelease r inval = ({ s with pol := { s.pol with releases := s.pol.releases ++ [r] } } : State).commitRelease r := by
  have hnone : s.dir.flushes.any (fun o => o.release == some r.id) = false := by rw [hflush]; rfl
  rcases hneed with rfl | hleavers
  · simp only [State.startRelease, State.modPol, Bool.false_eq_true, if_false, forEach, List.foldl_nil, hnone]
  · simp only [State.startRelease, State.modPol, hleavers, List.filter_nil, ite_self, forEach, List.foldl_nil, hnone, Bool.false_eq_true,
      if_false]

/-- What such a release changes: it is noted, relocations of its extents end, and one module commit is queued. -/
theorem State.startRelease_frame {s : State} {r : Release} {inval : Bool} (hneed : inval = false ∨ r.leavers = [])
    (hflush : s.dir.flushes = []) : ∃ relocs jnl mov m, m.after = .release r.id ∧ s.startRelease r inval =
      { s with
        pol := { s.pol with releases := s.pol.releases ++ [r], relocs := relocs }
        jnl := jnl
        mov := mov
        tbl := { s.tbl with modq := s.tbl.modq ++ [m], nextMod := s.tbl.nextMod + 1 } } := by
  obtain ⟨jnl, hcommit⟩ := State.commitRelease_frame { s with pol := { s.pol with releases := s.pol.releases ++ [r] } } r
  obtain ⟨relocs, jnl', mov, hdrop⟩ := State.dropRelocs_frame { s with pol := { s.pol with releases := s.pol.releases ++ [r] } }
    (State.extentsGone { s with pol := { s.pol with releases := s.pol.releases ++ [r] } } r)
  rw [State.startRelease_now hneed hflush, hcommit, hdrop]
  exact ⟨relocs, jnl, mov, _, rfl, rfl⟩

end Sys2Proof.Machine

namespace Sys2Proof.Claims

open Sys2Proof.Machine

/-- As `Reached.waits`: what the command waits for is what its work named (R19). -/
theorem Reached.waitsFor {c : CmdSpec} {h : Hdr} {p : Bytes} {s t : State} (hr : Reached c h p s) {w : WaitFor}
    (hrun : c.run h p (c.recorded h p s) = .waits w t) :
    ∃ x : Waiting, x.what = w ∧ c.direct h p s = .next { t with tbl := { t.tbl with waits := t.tbl.waits ++ [x] } } := by
  have hout : c.outcome h p (c.recorded h p s) = .waits w t := by rw [c.outcome_run hr.mayIssue hr.deny hr.lock hr.check hr.serves, hrun]
  simp only [CmdSpec.recorded] at hout
  refine ⟨{ req := h.req, session := h.session, opcode := c.opcode, tag := h.tag.toNat, context := h.context.toNat, seq := s.trec.next,
            what := w, rest := [], dropped := false }, rfl, ?_⟩
  simp [CmdSpec.direct, hr.operating.on, CmdSpec.exec, hr.len, hout]

end Sys2Proof.Claims

namespace Sys2Proof.Machine

/-! ## The operations of a USP's bindings (R89) -/

@[simp] theorem CmdSpec.recorded_isUsp (c : CmdSpec) (h : Hdr) (p : Bytes) (s : State) (u : Nat) :
    (c.recorded h p s).isUsp u = s.isUsp u := State.record_isUsp ..

@[simp] theorem CmdSpec.recorded_bindBusy (c : CmdSpec) (h : Hdr) (p : Bytes) (s : State) (u : Nat) :
    (c.recorded h p s).bindBusy u = s.bindBusy u := by
  simp [State.bindBusy]

@[simp] theorem CmdSpec.recorded_hasLd (c : CmdSpec) (h : Hdr) (p : Bytes) (s : State) (ld : Nat) :
    (c.recorded h p s).hasLd ld = s.hasLd ld := by
  simp [State.hasLd]

/-- An operation joins those of the USPs. -/
def State.addBind (s : State) (o : BindOp) : State := s.modPol (fun q => { q with bindOps := q.bindOps ++ [o] })

/-- With an operation of the USP under way the next one waits. -/
theorem State.queueBind_busy {s : State} {u opcode bg : Nat} {p : Bytes} {o : BindOp}
    (hfirst : s.pol.bindOps.find? (fun x => x.usp == u) = some o) (hstarted : o.started = true) :
    s.queueBind u opcode bg p = s.addBind
      { usp := u, bgId := bg, opcode := opcode, params := p, managed := false, linkDown := false, started := false } := by
  simp [State.queueBind, State.addBind, State.nextBind, State.pumpBind, State.modPol, List.find?_append, hfirst, hstarted]

/-- A USP that is busy has an operation that was asked for first. -/
theorem State.bindBusy_of_find {s : State} {u : Nat} {o : BindOp} (h : s.pol.bindOps.find? (fun x => x.usp == u) = some o) :
    s.bindBusy u = true :=
  List.any_eq_true.2 ⟨o, List.mem_of_find?_eq_some h, List.find?_some (p := fun x : BindOp => x.usp == u) h⟩

/-- The change of the first element that `q` selects is that of the last element when `q` selects no other. -/
theorem updFirst_append_of_none {α : Type} {q : α → Bool} {f : α → α} {a : α} {l : List α} (hnone : l.find? q = none) (ha : q a = true) :
    updFirst q f (l ++ [a]) = l ++ [f a] := by
  induction l with
  | nil => simp [updFirst, ha]
  | cons b l ih =>
    obtain ⟨hb, hl⟩ : ¬ q b = true ∧ ∀ x ∈ l, ¬ q x = true := by simpa using hnone
    simpa [updFirst, hb] using ih (List.find?_eq_none.2 hl)

/-- An operation whose turn it is, and that does not end at once, is under way. -/
theorem State.pumpBind_begins {s t : State} {u n : Nat} {o : BindOp} (hfirst : s.pol.bindOps.find? (fun x => x.usp == u) = some o)
    (hnew : o.started = false) (hbegin : (s.modBindOp u (fun x => { x with started := true })).beginBind o = (t, none)) :
    State.pumpBind (n + 1) u s = t := by
  simp only [State.pumpBind, hfirst, hnew, Bool.false_eq_true, if_false, hbegin]

/-- A USP without operations takes up the next one at once. -/
theorem State.queueBind_idle {s t : State} {u opcode bg : Nat} {p : Bytes} (hidle : s.bindBusy u = false)
    (hbegin : (s.addBind
        { usp := u, bgId := bg, opcode := opcode, params := p, managed := false, linkDown := false, started := true }).beginBind
      { usp := u, bgId := bg, opcode := opcode, params := p, managed := false, linkDown := false, started := false } = (t, none)) :
    s.queueBind u opcode bg p = t := by
  have hnone : s.pol.bindOps.find? (fun x => x.usp == u) = none := by simpa [State.bindBusy] using hidle
  refine State.pumpBind_begins
    (o := { usp := u, bgId := bg, opcode := opcode, params := p, managed := false, linkDown := false, started := false }) ?_ rfl ?_
  · simp [State.modPol, List.find?_append, hnone]
  · rw [← hbegin]
    simp only [State.modBindOp, State.addBind, State.modPol]
    rw [updFirst_append_of_none hnone (beq_self_eq_true u)]

/-- The operation of an LD_DESTROY begins with the removal of an LD that holds nothing (R92). -/
theorem State.beginBind_destroy {s : State} {o : BindOp} (hopcode : o.opcode = 0xC411)
    (hld : s.hasLd (16 * o.usp + p8 o.params 1) = true) (hempty : s.ldHolds (16 * o.usp + p8 o.params 1) = false) :
    s.beginBind o = (s.ldRemove (16 * o.usp + p8 o.params 1) (if o.bgId = 0 then none else some o.bgId), none) := by
  simp [State.beginBind, hopcode, hld, hempty]

/-- With no other release and no BI flush under way the removal of an LD is one release and one module commit; the LD stays
until that commit has taken effect (R86, R92). -/
theorem State.ldRemove_alone {s : State} {ld : Nat} {bg : Option Nat} (hreleases : s.pol.releases = []) (hflush : s.dir.flushes = []) :
    ∃ m : ModCommit, m.after = .release s.pol.nextId ∧
      (s.ldRemove ld bg).tbl = { s.tbl with modq := s.tbl.modq ++ [m], nextMod := s.tbl.nextMod + 1 } ∧
      (s.ldRemove ld bg).pol.releases.map (fun r => (r.id, r.ld, r.destroy)) = [(s.pol.nextId, ld, true)] ∧
      (s.ldRemove ld bg).pol.lds = s.pol.lds := by
  unfold State.ldRemove
  extract_lets mine r waiting s1 gs
  have hs1 : s1 = s := by simp [s1, waiting, hreleases, forEach]
  obtain ⟨relocs, jnl, mov, m, hafter, hstart⟩ := State.startRelease_frame (s := (s1.modPol (fun p => { p with grants := gs })).bumpId) (r := r)
    (inval := false) (.inl rfl) (by rw [hs1]; exact hflush)
  rw [hstart, hs1]
  refine ⟨m, hafter, rfl, ?_, rfl⟩
  simp [State.modPol, State.bumpId, hreleases, r]

/-- Whether an LD holds an extent depends on the extent map and the tables alone (R79). -/
theorem State.holdsExtent_congr {s t : State} (hmap : s.pol.map = t.pol.map) (htbl : s.tbl = t.tbl) (ld x : Nat) :
    s.holdsExtent ld x = t.holdsExtent ld x := by
  have hentry : s.entry x = t.entry x := by simp only [State.entry, hmap]
  have hmember (g : Nat) : s.member ld g = t.member ld g := by simp only [State.member, State.active, State.table, htbl]
  unfold State.holdsExtent
  rw [hentry]
  simp only [hmember]

/-- So does whether it holds any. -/
theorem State.ldHolds_congr {s t : State} (hmap : s.pol.map = t.pol.map) (htbl : s.tbl = t.tbl) (ld : Nat) :
    s.ldHolds ld = t.ldHolds ld := by
  simp only [State.ldHolds, State.validExtents, State.holdsExtent_congr hmap htbl, hmap]

@[simp] theorem CmdSpec.recorded_ldHolds (c : CmdSpec) (h : Hdr) (p : Bytes) (s : State) (ld : Nat) :
    (c.recorded h p s).ldHolds ld = s.ldHolds ld :=
  State.ldHolds_congr (by simp) (by simp) ld

@[simp] theorem CmdSpec.recorded_dir (c : CmdSpec) (h : Hdr) (p : Bytes) (s : State) : (c.recorded h p s).dir = s.dir := State.record_dir ..

/-- LD_DESTROY of an LD that holds nothing, when its USP has no operation: the removal begins at once (R92, R93). -/
theorem State.queueBind_destroy {s : State} {p : Bytes} (hidle : s.bindBusy (p8 p 0) = false) (hld : s.hasLd (ldParam p) = true)
    (hempty : s.ldHolds (ldParam p) = false) (hreleases : s.pol.releases = []) (hflush : s.dir.flushes = []) :
    ∃ m : ModCommit, m.after = .release s.pol.nextId ∧
      (s.queueBind (p8 p 0) 0xC411 0 p).tbl = { s.tbl with modq := s.tbl.modq ++ [m], nextMod := s.tbl.nextMod + 1 } ∧
      (s.queueBind (p8 p 0) 0xC411 0 p).pol.releases.map (fun r => (r.id, r.ld, r.destroy)) = [(s.pol.nextId, ldParam p, true)] ∧
      (s.queueBind (p8 p 0) 0xC411 0 p).pol.lds = s.pol.lds := by
  have hbegin := State.beginBind_destroy
    (s := s.addBind { usp := p8 p 0, bgId := 0, opcode := 0xC411, params := p, managed := false, linkDown := false, started := true })
    (o := { usp := p8 p 0, bgId := 0, opcode := 0xC411, params := p, managed := false, linkDown := false, started := false })
    rfl hld ((State.ldHolds_congr rfl rfl (ldParam p)).trans hempty)
  rw [State.queueBind_idle hidle hbegin]
  exact State.ldRemove_alone (s := s.addBind _) hreleases hflush

/-! ## A host writes the Interrupt Line register of its PF (R319) -/

/-- Every bit of the Interrupt Line register is the host's. -/
theorem cfgStore_interruptLine (s : State) (u : Nat) (b : Byte) : s.cfgStore u .hostPf 0x3C b = { s with prt := { s.prt with
    cfg := SMap.store s.prt.cfg (cfgAddr u .hostPf 0x3C) b (fieldByte (s.cfgFixed u .hostPf) 0x3C) } } := by
  have hmask : cfgMask .hostPf 0x3C = BitVec.allOnes 8 := by decide
  have hbits (old : Byte) : (old &&& ~~~(BitVec.allOnes 8)) ||| (b &&& BitVec.allOnes 8) = b := by
    simp only [BitVec.not_allOnes, BitVec.and_zero, BitVec.zero_or, BitVec.and_allOnes]
  simp only [State.cfgStore, hmask, hbits]

/-- The write of a host to byte 0 of that register. -/
def interruptLine (v : Word) (tag : Nat) : CfgWrite := { target := .hostPf, offset := 0x3C, be := 1, value := v, tag := tag }

/-- A membership commit changes no port. -/
theorem State.commitMembers_prt (s : State) (u : Nat) : (s.commitMembers u).prt = s.prt := by
  unfold State.commitMembers
  extract_lets ws
  split
  · rfl
  · rfl

/-- What the write stores is the byte. -/
theorem hostStore_interruptLine (s : State) (u : Port) (v : Word) (tag : Nat) :
    (s.hostStore u (interruptLine v tag)).prt = (s.cfgStore u.val .hostPf 0x3C (v.setWidth 8)).prt := by
  have hoffset : (interruptLine v tag).offset.toNat / 4 * 4 = 0x3C := by
    have hliteral : (0x3C : BitVec 12).toNat / 4 * 4 = 0x3C := by decide
    exact hliteral
  have hwrite : s.cfgWrite u.val .hostPf 0x3C 1 v = s.cfgStore u.val .hostPf 0x3C (v.setWidth 8) := by
    have hrange : List.range 4 = [0, 1, 2, 3] := rfl
    have hbyte : byte v.toNat = v.setWidth 8 := BitVec.eq_of_toNat_eq (by simp [byte])
    simp [State.cfgWrite, forEach, hrange, hbyte]
  have hbridge (t : State) (old new : Nat) : t.cfgBridge u.val .hostPf old new = t := ite_self _
  have hclear (t : State) : t.mcClear u.val .hostPf = t := ite_self _
  unfold State.hostStore
  rw [hoffset]
  extract_lets t off w members old s1 s2 s3
  have hs1 : s1 = s.cfgStore u.val .hostPf 0x3C (v.setWidth 8) := hwrite
  have hs2 : s2 = s1 := hclear _
  have hs3 : s3 = s2 := hbridge _ _ _
  rw [← hs1, ← hs2, ← hs3]
  split
  · rfl
  · exact s3.commitMembers_prt u.val

/-- Storing an element leaves the others. -/
theorem SMap.find_store_ne {α : Type} [DecidableEq α] (m : SMap α) {k j : Nat} (v d : α) (h : k ≠ j) :
    SMap.find (SMap.store m k v d) j = SMap.find m j := by
  unfold SMap.store
  split
  · exact SMap.find_del_ne m h
  · rw [SMap.find_put, if_neg h]

/-- The routing commit that may follow changes no configuration register. -/
theorem hostWrite_interruptLine (s : State) (u : Port) (v : Word) (tag : Nat) :
    (s.hostWrite u (interruptLine v tag)).prt.cfg = (s.cfgStore u.val .hostPf 0x3C (v.setWidth 8)).prt.cfg := by
  rw [← hostStore_interruptLine s u v tag]
  unfold State.hostWrite
  extract_lets before t
  split
  · rfl
  · rfl

/-! ## Surprise removal (Table 2-10) -/

/-- The DPC Control register is nobody's but the host's: what the module shows of its own leaves it out. -/
theorem State.cfgByte_dpcControl (s : State) (u : Nat) (v : Fin 32) : s.cfgByte u (.vppb v) 0x166 =
    SMap.get s.prt.cfg (cfgAddr u (.vppb v) 0x166) (fieldByte (s.cfgFixed u (.vppb v)) 0x166) := by
  have haer : (s.aerLive u (.vppb v)).any (fun f => f.1 ≤ 0x166 && 0x166 < f.1 + f.2.1) = false := by
    unfold State.aerLive
    cases SMap.find s.prt.aer (2048 * u + cfgIndex (.vppb v)) with
    | none => rfl
    | some x => rfl
  have hlive : (s.cfgLive u (.vppb v)).any (fun f => f.1 ≤ 0x166 && 0x166 < f.1 + f.2.1) = false := by
    unfold State.cfgLive
    rw [List.any_append, haer, Bool.false_or]
    by_cases hv : bindable v.val = true
    · cases hslot : s.slotOf u v.val with
      | none => simp [hv, hslot]
      | some n => simp [hv, hslot]
    · simp [hv]
  exact if_neg (by rw [hlive]; decide)

/-- Whether DPC is enabled depends on the host's registers and the multicast allotment alone. -/
theorem State.dpcEnabled_congr {s t : State} (hcfg : s.prt.cfg = t.prt.cfg) (hallot : s.prt.mcAllot = t.prt.mcAllot) (k : Nat) :
    s.dpcEnabled k = t.dpcEnabled k := by
  have hfixed : s.cfgFixed (k / 32) (.vppb (Fin.ofNat 32 (k % 32))) = t.cfgFixed (k / 32) (.vppb (Fin.ofNat 32 (k % 32))) := by
    unfold State.cfgFixed State.mcGroups
    rw [hallot]
  have hbyte : s.cfgByte (k / 32) (.vppb (Fin.ofNat 32 (k % 32))) 0x166 = t.cfgByte (k / 32) (.vppb (Fin.ofNat 32 (k % 32))) 0x166 := by
    rw [State.cfgByte_dpcControl, State.cfgByte_dpcControl, hfixed, hcfg]
  have hread : s.cfgRead (k / 32) (.vppb (Fin.ofNat 32 (k % 32))) 0x166 1 = t.cfgRead (k / 32) (.vppb (Fin.ofNat 32 (k % 32))) 0x166 1 :=
    congrArg (fun b => leNat [b]) hbyte
  simp only [State.dpcEnabled, hread]

/-- What a surprise removal without DPC changes: requests, hot-plug events and one report. -/
theorem State.surprise_frame {s : State} {u v : Nat} {b : Bind} (hbind : s.bindOf u v = some b) (hdpc : s.dpcEnabled (32 * u + v) = false) :
    ∃ ports slotStat out, s.surprise u v = ({ s with out := out, prt := { s.prt with ports := ports, slotStat := slotStat } } : State).report
      (0x0600 + b.port) contained 3 [byte b.port] := by
  simp only [State.surprise, hbind]
  refine ⟨_, _, _, if_neg ?_⟩
  rw [Bool.and_eq_true]
  rintro ⟨henabled, -⟩
  exact absurd (henabled.symm.trans ((State.dpcEnabled_congr (by rfl) (by rfl) _).trans hdpc)) (by decide)

/-- What the commit of an unbind changes: the binding is gone, and one module commit is queued. -/
theorem State.commitUnbind_frame {s : State} {u v id : Nat} {b : Bind} (hbind : s.bindOf u v = some b) :
    ∃ m jnl out prt, m.after = .bind id ∧ prt.binds = SMap.del s.prt.binds (32 * u + v) ∧ s.commitUnbind u v id =
      { s with prt := prt, out := out, jnl := jnl, tbl := { s.tbl with modq := s.tbl.modq ++ [m], nextMod := s.tbl.nextMod + 1 } } := by
  simp only [State.commitUnbind, hbind]
  exact ⟨_, _, _, _, rfl, rfl, rfl⟩

end Sys2Proof.Machine

namespace Sys2Proof.Claims

open Sys2Proof.Machine

/-! ## O35, clause by clause -/

section
variable {h : Hdr} {p : Bytes} {s : State}

/-- An LD_CREATE that names an LD of a USP comes to its work. -/
theorem reached_ldCreate (hop : Operating s) (hpriv : Privileged .operate h s) (hlen : p.length = 2) (husp : s.isUsp (p8 p 0) = true)
    (hld : p8 p 1 < 16) : Reached specLdCreate h p s :=
  reached hop hpriv hlen rfl (by simp [specLdCreate, firstBad, need, husp, hld])

/-- R90: LD_CREATE adds the LD. -/
theorem ldCreate_does : Does .ldCreate 0xC410 .operate 2
    (fun _ p s => s.isUsp (p8 p 0) = true ∧ p8 p 1 < 16 ∧ s.bindBusy (p8 p 0) = false ∧ s.hasLd (ldParam p) = false)
    (fun _ p s => (({ s with pol := { s.pol with lds := addNew (ldParam p) s.pol.lds } }).journal (.ldCreate (ldParam p))).emit
      (.hotplug (ldParam p / 16) (ldParam p % 16 + 2) 3)) := by
  intro h p s hop hpriv hlen hgood
  obtain ⟨husp, hld, hidle, hnew⟩ := hgood
  exact (reached_ldCreate hop hpriv hlen husp hld).done ((if_neg (by simp [hidle])).trans (if_neg (by simp [hnew])))

/-- R89: behind another operation of the USP it goes on in the background. -/
theorem ldCreate_starts : Starts .ldCreate 0xC410 .operate 2 false
    (fun _ p s => s.isUsp (p8 p 0) = true ∧ p8 p 1 < 16 ∧ (s.pol.bindOps.find? (fun o => o.usp == p8 p 0)).map BindOp.started = some true)
    (fun _ p s => { s with pol := { s.pol with bindOps := s.pol.bindOps ++
      [{ usp := p8 p 0, bgId := s.cmd.nextBg, opcode := 0xC410, params := p, managed := false, linkDown := false, started := false }] } }) := by
  intro h p s hop hpriv hlen hroom hgood
  obtain ⟨husp, hld, hbusy⟩ := hgood
  obtain ⟨o, hfirst, hstarted⟩ := Option.map_eq_some_iff.1 hbusy
  have hqueued := State.queueBind_busy (s := specLdCreate.recorded h p s) (opcode := 0xC410)
    (bg := (specLdCreate.recorded h p s).cmd.nextBg) (p := p) (by simpa using hfirst) hstarted
  refine (reached_ldCreate hop hpriv hlen husp hld).started hroom (j := false) ((if_pos ?_).trans ?_)
  · simpa using State.bindBusy_of_find hfirst
  · rw [hqueued]
    rfl

/-- R92: LD_DESTROY of an empty LD waits for the commit of its release. -/
theorem ldDestroy_waits (hop : Operating s) (hpriv : Privileged .operate h s) (hlen : p.length = 3) (husp : s.isUsp (p8 p 0) = true)
    (hld : p8 p 1 < 16) (hgentle : p8 p 2 = 0) (hidle : s.bindBusy (p8 p 0) = false) (hhas : s.hasLd (ldParam p) = true)
    (hempty : s.ldHolds (ldParam p) = false) (hreleases : s.pol.releases = []) (hflush : s.dir.flushes = []) :
    ∃ t, exec (.ldDestroy h p) s = .next t ∧
      (t.tbl.waits.map Waiting.what) = s.tbl.waits.map Waiting.what ++ [.modCommit s.tbl.nextMod] ∧
      (t.tbl.modq.map ModCommit.after) = s.tbl.modq.map ModCommit.after ++ [.release s.pol.nextId] ∧
      (t.pol.releases.map (fun r => (r.id, r.ld, r.destroy))) = [(s.pol.nextId, ldParam p, true)] ∧ t.pol.lds = s.pol.lds := by
  have hr : Reached specLdDestroy h p s := reached hop hpriv hlen rfl (by simp [specLdDestroy, firstBad, need, husp, hld])
  obtain ⟨m, hafter, htbl, hrel, hlds⟩ := State.queueBind_destroy (s := specLdDestroy.recorded h p s) (p := p)
    (by simpa using hidle) (by simpa using hhas) (by simpa using hempty) (by simpa using hreleases) (by simpa using hflush)
  have hrun : specLdDestroy.run h p (specLdDestroy.recorded h p s) = .waits (.modCommit (specLdDestroy.recorded h p s).tbl.nextMod)
      ((specLdDestroy.recorded h p s).queueBind (p8 p 0) 0xC411 0 p) := by
    refine (if_neg (by simp [hidle])).trans ((if_neg (by simp [hhas, hempty])).trans (if_neg ?_))
    rw [hgentle]
    decide
  obtain ⟨x, hwhat, hx⟩ := hr.waitsFor hrun
  refine ⟨_, (exec_of_commandOf rfl s).trans hx, ?_⟩
  simp only [CmdSpec.recorded_tbl, CmdSpec.recorded_pol] at htbl hrel hlds hafter hwhat
  simp [htbl, hrel, hlds, hafter, hwhat]

/-- R90, Table 2-10: a managed removal that times out ends with TIMEOUT; the binding stays. -/
theorem managedRemoveTimeout_ends {u : Port} {v : Fin 32} {o : BindOp} (hops : s.pol.bindOps = [o]) (husp : o.usp = u.val)
    (hmanaged : o.managed = true) (hvppb : p8 o.params 1 = v.val) :
    exec (.managedRemoveTimeout u v) s = .next (((s.timerInput 1).modPol (fun p => { p with bindOps := [] })).endBg o.bgId stTimeout []) := by
  have hfirst : s.pol.bindOps.find? (fun o => o.usp == u.val && o.managed && p8 o.params 1 == v.val) = some o := by
    simp [hops, husp, hmanaged, hvppb]
  have hpop : (s.timerInput 1).popBindOp u.val = (s.timerInput 1).modPol (fun p => { p with bindOps := [] }) := by
    simp [State.popBindOp, State.modPol, State.timerInput, hops, delFirst, husp]
  show execManagedRemoveTimeout u v s = _
  simp only [execManagedRemoveTimeout, hfirst, hpop]
  rfl

/-- R331, Table 2-10: a surprise removal unbinds at once and reports the device. -/
theorem surpriseHotRemove_unbinds {u : Port} {v : Fin 32} {b : Bind} (hwf : SMap.wf s.prt.binds) (hbind : s.bindOf u.val v.val = some b)
    (hdpc : s.dpcEnabled (32 * u.val + v.val) = false) :
    ∃ t, exec (.surpriseHotRemove u v) s = .next t ∧ t.bindOf u.val v.val = none ∧
      (∃ e ∈ t.flt.waiting, e.src = 0x0600 + b.port ∧ e.cls = contained ∧ e.evt = 3) ∧
      (t.tbl.modq.map ModCommit.after) = s.tbl.modq.map ModCommit.after ++ [.bind 0] ∧ t.pol = s.pol ∧ t.vlt = s.vlt := by
  obtain ⟨ports, slotStat, out, hsurprise⟩ := State.surprise_frame hbind hdpc
  have hbind' : (s.surprise u.val v.val).bindOf u.val v.val = some b := by
    rw [hsurprise]
    exact hbind
  obtain ⟨m, jnl, out', prt, hafter, hbinds, hcommit⟩ := State.commitUnbind_frame (id := 0) hbind'
  refine ⟨_, congrArg Host.Outcome.next hcommit, ?_⟩
  rw [hsurprise] at hbinds ⊢
  refine ⟨?_, State.waits_report _ (0x0600 + b.port) contained 3 [byte b.port] [], ?_, rfl, rfl⟩
  · show SMap.find prt.binds (32 * u.val + v.val) = none
    rw [hbinds]
    exact SMap.find_del_self _ _ hwf
  · simp [hafter]

/-- R331: while the function takes Retry Status a configuration request completes with it. -/
theorem configRequest_retry {u : Port} {k : CfgTarget} {off : BitVec 12} {tag : Nat} (husp : s.isUsp u.val = true)
    (hup : (s.port u.val).up = true) (hawake : (s.port u.val).l1 = false) (hretry : s.cfgRetry u.val k = true) :
    exec (.configRequest u k off tag) s = .next (s.emit (.ioCpl u.val tag .crs [])) := by
  refine congrArg Host.Outcome.next ((if_neg (by simp [husp, hup])).trans ?_)
  rw [State.wake_awake hawake]
  exact if_pos hretry

/-- R311: a read of the USP's configuration space completes with the register. -/
theorem configRequest_reads {u : Port} {off : BitVec 12} {tag : Nat} (husp : s.isUsp u.val = true)
    (hup : (s.port u.val).up = true) (hawake : (s.port u.val).l1 = false) (hready : s.cfgRetry u.val .usp = false) :
    exec (.configRequest u .usp off tag) s =
      .next (s.emit (.ioCpl u.val tag .sc (leBytes 4 (s.cfgRead u.val .usp (off.toNat / 4 * 4) 4)))) := by
  refine congrArg Host.Outcome.next ((if_neg (by simp [husp, hup])).trans ?_)
  rw [State.wake_awake hawake]
  exact (if_neg (by simp [hready])).trans (if_neg (by simp [State.cfgReach, State.cfgPresent, husp]))

/-- R319: a write of the host PF's Interrupt Line register stores its byte. -/
theorem hostConfigWrite_interruptLine {u : Port} {tag : Nat} {v : Word} (hwf : SMap.wf s.prt.cfg) (husp : s.isUsp u.val = true)
    (hup : (s.port u.val).up = true) (hawake : (s.port u.val).l1 = false) (hready : s.cfgRetry u.val .hostPf = false) :
    ∃ t, exec (.hostConfigWrite u { target := .hostPf, offset := 0x3C, be := 1, value := v, tag := tag }) s = .next t ∧
      SMap.get t.prt.cfg (cfgAddr u.val .hostPf 0x3C) (fieldByte (s.cfgFixed u.val .hostPf) 0x3C) = v.setWidth 8 ∧
      (∀ a, a ≠ cfgAddr u.val .hostPf 0x3C → SMap.find t.prt.cfg a = SMap.find s.prt.cfg a) := by
  obtain ⟨r, hexec, hprt⟩ : ∃ r : State, exec (.hostConfigWrite u (interruptLine v tag)) s =
      .next (r.hostWrite u (interruptLine v tag)) ∧ r.prt = s.prt := by
    refine ⟨s.record 0x05 0 (leBytes 2 (fnCode .hostPf) ++ leBytes 1 u.val ++ leBytes 1 (1 : BitVec 4).toNat ++
      leBytes 2 (0x3C : BitVec 12).toNat ++ [0, 0] ++ leBytes 4 v.toNat), ?_, State.record_prt ..⟩
    refine congrArg Host.Outcome.next ((if_neg (by simp [husp, hup])).trans ?_)
    rw [State.wake_awake hawake]
    exact (if_neg (by simp [interruptLine, hready])).trans (if_neg (by simp [interruptLine, State.cfgReach, State.cfgPresent, husp]))
  have hfixed : r.cfgFixed u.val .hostPf = s.cfgFixed u.val .hostPf := rfl
  have hcfg : (r.hostWrite u (interruptLine v tag)).prt.cfg =
      SMap.store s.prt.cfg (cfgAddr u.val .hostPf 0x3C) (v.setWidth 8) (fieldByte (s.cfgFixed u.val .hostPf) 0x3C) := by
    rw [hostWrite_interruptLine, cfgStore_interruptLine, hfixed, hprt]
  refine ⟨_, hexec, ?_⟩
  rw [hcfg]
  exact ⟨SMap.get_store_self _ _ _ _ hwf, fun a ha => SMap.find_store_ne _ _ _ (Ne.symm ha)⟩

/-- R484: in its MCTP binding the FM API answers Identify Switch. -/
theorem fmApiCommand_identify (hop : Operating s) (hpriv : Privileged .observe h s) :
    ∃ b : Bytes, exec (.fmApiCommand h true 0x5100 []) s = .next (((request 0x5100 .observe h [] s).drawn.emit
      (.fmRsp h.req 0x5100 h.tag.toNat 0 b)).recordResponse s.trec.next stSuccess b) := by
  have hr : Reached specFmIdentify h [] s := reached hop hpriv rfl rfl rfl
  obtain ⟨b, hrun⟩ : ∃ b, specFmIdentify.run h [] (specFmIdentify.recorded h [] s) = .done b (specFmIdentify.recorded h [] s).drawn :=
    ⟨_, rfl⟩
  have hout := specFmIdentify.outcome_run hr.mayIssue hr.deny hr.lock hr.check hr.serves
  rw [hrun] at hout
  have hanswer : specFmIdentify.fmExec h [] s.trec.next (specFmIdentify.recorded h [] s) =
      (specFmIdentify.recorded h [] s).drawn.fmAnswer h 0x5100 s.trec.next stSuccess b := by
    simp only [CmdSpec.fmExec, hr.len, hout]
    rfl
  have hfind : fmSpecs.find? (fun c => c.opcode == (0x5100 : BitVec 16).toNat) = some specFmIdentify := rfl
  refine ⟨b, congrArg Host.Outcome.next ((if_neg hop.on).trans ?_)⟩
  simp only [hfind]
  exact hanswer

/-- R484: an unsupported opcode is answered 'Unsupported'. -/
theorem fmApiCommand_unsupported (hon : s.clk.phase ≠ .off) :
    exec (.fmApiCommand h true 0x5500 p) s = .next (s.emit (.fmRsp h.req 0x5500 h.tag.toNat 3 [])) := by
  have hfind : fmSpecs.find? (fun c => c.opcode == (0x5500 : BitVec 16).toNat) = none := rfl
  refine congrArg Host.Outcome.next ((if_neg hon).trans ?_)
  simp only [hfind]
  rfl

end

/-- Settles O35: the lemmas above, one for each clause. -/
theorem bindingAndHostConfiguration : Obligations.BindingAndHostConfiguration :=
  ⟨ldCreate_does, ldCreate_starts,
    fun _ _ _ hop hpriv hlen husp hld hgentle hidle hhas hempty hreleases _ =>
      ldDestroy_waits hop hpriv hlen husp hld hgentle hidle hhas hempty hreleases,
    fun _ _ _ _ => managedRemoveTimeout_ends,
    fun _ _ _ _ hwf hbind _ hdpc _ => surpriseHotRemove_unbinds hwf hbind hdpc, fun _ _ _ _ _ => configRequest_retry,
    fun _ _ _ _ => configRequest_reads, fun _ _ _ _ => hostConfigWrite_interruptLine, fun _ _ => fmApiCommand_identify,
    fun _ _ _ => fmApiCommand_unsupported⟩

end Sys2Proof.Claims

namespace Sys2Proof.Machine

/-! ## Releases of extents that stay where they are -/

/-- Steps 3 and 4 of Table 2-9 for a release that ends no share group and no relocation: the journal, and one commit of entries 0 and
memberships (R86). -/
theorem State.commitRelease_plain {s : State} {r : Release} (hgroups : s.groupsGone r = []) (hreloc : ∀ x ∈ r.extents, s.relocOf x = none) :
    ∃ jnl, s.commitRelease r = ({ s with jnl := jnl } : State).moduleCommit 0 (r.decodersOff ++ s.memberWrites r.changes)
      (r.extents.map (fun x => (x, 0))) (.release r.id) := by
  have hextents : s.extentsGone r = r.extents := by simp [State.extentsGone, hgroups]
  have hframe := s.commitRelease_frame r
  rwa [hextents, State.dropRelocs_none hreloc] at hframe

/-- A release of extents without share groups names no group that ends. -/
theorem State.groupsGone_private {s : State} {r : Release} (h : r.leavers = []) : s.groupsGone r = [] := by
  simp [State.groupsGone, h]

/-- A share group with a member that stays does not end. -/
theorem State.groupsGone_stays {s : State} {r : Release} {ld g m : Nat} (hleaver : r.leavers = [(ld, g)]) (hm : m ∈ s.members g)
    (hne : m ≠ ld) : s.groupsGone r = [] := by
  have hstays : (s.members g).all (fun x => [(ld, g)].contains (x, g)) = false :=
    List.all_eq_false.2 ⟨m, hm, by simp [hne]⟩
  simp only [State.groupsGone, hleaver, List.map_cons, List.map_nil]
  rw [List.dedup_eq_self.2 (List.nodup_singleton g), List.filter_singleton, hstays]
  rfl

/-- The release of one unshared extent that is held and not being relocated is committed at once as entry 0 (R84, R86). -/
theorem State.startRelease_private {s t : State} {x ld : Nat} {bg : Option Nat} {asked : Nat × Nat} {inval : Bool}
    (hprivate : entShared (s.entry x) = false) (hreloc : t.relocOf x = none) (hflush : t.dir.flushes = []) :
    ∃ jnl, t.startRelease (s.releaseOf ld [x] bg asked) inval =
      ({ t with jnl := jnl, pol := { t.pol with releases := t.pol.releases ++ [s.releaseOf ld [x] bg asked] } } : State).moduleCommit 0 []
        [(x, 0)] (.release s.pol.nextId) := by
  have hextents : (s.releaseOf ld [x] bg asked).extents = [x] := by simp [State.releaseOf, hprivate]
  have hleavers : (s.releaseOf ld [x] bg asked).leavers = [] := by simp [State.releaseOf, hprivate]
  have hreloc' : ∀ y ∈ (s.releaseOf ld [x] bg asked).extents,
      ({ t with pol := { t.pol with releases := t.pol.releases ++ [s.releaseOf ld [x] bg asked] } } : State).relocOf y = none := by
    intro y hy
    rw [hextents, List.mem_singleton] at hy
    exact hy ▸ hreloc
  obtain ⟨jnl, hcommit⟩ := State.commitRelease_plain (State.groupsGone_private hleavers) hreloc'
  rw [State.startRelease_now (.inr hleavers) hflush, hcommit, hextents]
  refine ⟨jnl, ?_⟩
  have hchanges : (s.releaseOf ld [x] bg asked).changes = [] := by rw [Release.changes, hleavers]; rfl
  rw [hchanges]
  rfl

/-- The extents of a grant that host `ld` holds and does not accept. -/
def State.refusedOf (s : State) (ld : Nat) (g : Grant) (acc : List (Nat × Nat)) : List Nat :=
  ((g.entries.filter (fun e => s.holdsExtent ld e.1)).map Prod.fst).filter
    (fun x => !acc.any (fun a => a.1 ≤ x && x < a.1 + a.2) && !s.stagedExtent x)

/-- The extents of a grant that a host refused are released again; none, nothing happens (Table 2-8 step 6). -/
def State.releaseRefused (s : State) (ld : Nat) (xs : List Nat) : State :=
  if xs.isEmpty then s else s.bumpId.startRelease (s.releaseOf ld xs none ((xs.head?).getD 0, xs.length)) false

/-- What the commit of a grant changes: the journal, and one module commit (R83). -/
theorem State.commitGrant_frame (s : State) (g : Grant) (runs : List GrantRun) (owner : Nat) :
    ∃ jnl, s.commitGrant g runs owner = ({ s with jnl := jnl } : State).moduleCommit 0 [] g.entries (.grant g.id) := by
  obtain ⟨jnl, hjournal⟩ :=
    s.journals_frame (runs.map (fun r => JRec.run r.first r.count (putBits (putBit r.entry 0 true) 6 10 owner)))
  exact ⟨jnl, congrArg (fun t : State => t.moduleCommit 0 [] g.entries (.grant g.id)) hjournal⟩

/-! ## Fields of a reply -/

@[simp] theorem length_leBytes (n v : Nat) : (leBytes n v).length = n := by
  induction n generalizing v with
  | zero => rfl
  | succ n ih => simp [leBytes, ih]

/-- A field of `n` bytes holds a number modulo 256 to the `n`. -/
theorem leNat_leBytes_mod (n v : Nat) : leNat (leBytes n v) = v % 256 ^ n := by
  induction n generalizing v with
  | zero => simp [leBytes, leNat, Nat.mod_one]
  | succ n ih =>
    rw [leBytes, leNat, ih, pow_succ', Nat.mod_mul]
    rfl

/-- The bytes between two others are a slice. -/
theorem slice_append (a b c : Bytes) : slice (a ++ (b ++ c)) a.length b.length = b := by
  simp [slice]

/-- A field that stands between other bytes reads back. -/
theorem fieldAt_leBytes (a c : Bytes) (n v : Nat) : fieldAt (a ++ (leBytes n v ++ c)) a.length n = v % 256 ^ n := by
  have hslice := slice_append a (leBytes n v) c
  rw [length_leBytes] at hslice
  rw [fieldAt, hslice, leNat_leBytes_mod]

/-- A row of fields of `n` bytes. -/
def fieldRow (n : Nat) (f : Nat → Nat) (m : Nat) : Bytes := ((List.range m).map (fun j => leBytes n (f j))).flatten

theorem fieldRow_add (n : Nat) (f : Nat → Nat) (m k : Nat) : fieldRow n f (m + k) = fieldRow n f m ++ fieldRow n (fun j => f (m + j)) k := by
  simp [fieldRow, List.range_add, List.map_map, Function.comp_def]

theorem length_fieldRow (n : Nat) (f : Nat → Nat) (m : Nat) : (fieldRow n f m).length = n * m := by
  induction m with
  | zero => rfl
  | succ m ih =>
    rw [fieldRow_add, List.length_append, ih]
    simp [fieldRow, Nat.mul_succ]

/-- The `i`-th field of a row. -/
theorem fieldAt_fieldRow (n : Nat) (f : Nat → Nat) {m i : Nat} (hi : i < m) : fieldAt (fieldRow n f m) (n * i) n = f i % 256 ^ n := by
  obtain ⟨k, rfl⟩ := Nat.exists_eq_add_of_lt hi
  have hone : fieldRow n (fun j => f (i + j)) 1 = leBytes n (f i) := by simp [fieldRow]
  have hrow := fieldAt_leBytes (fieldRow n f i) (fieldRow n (fun j => f (i + (1 + j))) k) n (f i)
  rwa [length_fieldRow, ← hone, ← fieldRow_add n (fun j => f (i + j)) 1 k, ← fieldRow_add, Nat.add_comm 1 k, ← Nat.add_assoc] at hrow

/-! ## What an answer leaves: messages sent before it, background commands -/

/-- Filling a stream's window sends messages besides those sent before. -/
theorem State.pumpStream_out (s : State) (n fuel : Nat) : s.out <:+ (s.pumpStream n fuel).out := by
  induction fuel generalizing s with
  | zero => exact List.suffix_rfl
  | succ fuel ih =>
    simp only [State.pumpStream]
    split
    next b _ _ _ _ =>
      split
      · have hframe : s.out <:+ (s.sendFrame n b).out := List.suffix_cons _ _
        exact hframe.trans (ih _)
      · exact List.suffix_rfl
    next => exact List.suffix_rfl

/-- So does a message of Seam control. -/
theorem State.ctlSend_out (s : State) (m : TwinMsg) : s.out <:+ (s.ctlSend m).out := by
  unfold State.ctlSend
  split
  next n _ => exact State.pumpStream_out (s.modStream n (fun x => { x with waiting := x.waiting ++ [(7, m)] })) n _
  next => exact List.suffix_rfl

/-- So does a mailbox interrupt. -/
theorem State.mbxIrq_out (s : State) (v : Nat) : s.out <:+ (s.mbxIrq v).out := by
  unfold State.mbxIrq
  extract_lets u x w d3 bus
  split
  · exact List.suffix_rfl
  · split
    · exact List.suffix_rfl
    · exact List.suffix_cons _ _

/-- An answer is sent besides what was sent before. -/
theorem State.answer_out (s : State) (req : Requester) (session : Option Nat) (opcode tag context seq status : Nat) (reply : Bytes) :
    s.out <:+ (s.answer req session opcode tag context seq status reply).out := by
  unfold State.answer State.recordResponse
  rw [State.record_out]
  unfold State.sendPacket
  split
  · exact State.mbxIrq_out (s.modCmd _) 0
  · exact s.ctlSend_out _
  · exact List.suffix_cons _ _

/-- A command's answer leaves the background commands. -/
theorem State.answer_bg (s : State) (req : Requester) (session : Option Nat) (opcode tag context seq status : Nat) (reply : Bytes) :
    (s.answer req session opcode tag context seq status reply).cmd.bg = s.cmd.bg := by
  unfold State.answer State.recordResponse
  rw [State.record_cmd]
  unfold State.sendPacket
  split
  · obtain ⟨out, mov, h⟩ := State.mbxIrq_frame (s.modCmd (fun c => { c with mbx := { c.mbx with
      busy := false, done := true, rsp := some (mkPacket (if status = stStarted then 3 else 1) opcode tag context status reply) } })) 0
    rw [h]
    rfl
  · obtain ⟨out, sem, h⟩ := s.ctlSend_frame
      (.response req.source (mkPacket (if status = stStarted then 3 else 1) opcode tag context status reply))
    rw [h]
  · rfl

/-! ## What a command's work sees after its COMMAND record -/

@[simp] theorem CmdSpec.recorded_validExtents (c : CmdSpec) (h : Hdr) (p : Bytes) (s : State) :
    (c.recorded h p s).validExtents = s.validExtents := State.record_validExtents ..

@[simp] theorem CmdSpec.recorded_targetOk (c : CmdSpec) (h : Hdr) (p : Bytes) (s : State) (t : Nat) :
    (c.recorded h p s).targetOk t = s.targetOk t := State.record_targetOk ..

@[simp] theorem CmdSpec.recorded_entry (c : CmdSpec) (h : Hdr) (p : Bytes) (s : State) (x : Nat) :
    (c.recorded h p s).entry x = s.entry x := by
  simp [State.entry]

@[simp] theorem CmdSpec.recorded_members (c : CmdSpec) (h : Hdr) (p : Bytes) (s : State) (g : Nat) :
    (c.recorded h p s).members g = s.members g := by
  simp [State.members, State.member]

@[simp] theorem CmdSpec.recorded_groupExtents (c : CmdSpec) (h : Hdr) (p : Bytes) (s : State) (g : Nat) :
    (c.recorded h p s).groupExtents g = s.groupExtents g := by
  simp [State.groupExtents]

@[simp] theorem CmdSpec.recorded_out (c : CmdSpec) (h : Hdr) (p : Bytes) (s : State) : (c.recorded h p s).out = s.out := State.record_out ..

@[simp] theorem CmdSpec.recorded_holdsExtent (c : CmdSpec) (h : Hdr) (p : Bytes) (s : State) (ld x : Nat) :
    (c.recorded h p s).holdsExtent ld x = s.holdsExtent ld x :=
  State.holdsExtent_congr (by simp) (by simp) ld x

@[simp] theorem CmdSpec.recorded_stagedExtent (c : CmdSpec) (h : Hdr) (p : Bytes) (s : State) (x : Nat) :
    (c.recorded h p s).stagedExtent x = s.stagedExtent x := by
  simp [State.stagedExtent]

theorem CmdSpec.recorded_memberWrites (c : CmdSpec) (h : Hdr) (p : Bytes) (s : State) (chg : List (Nat × Nat × Bool)) :
    (c.recorded h p s).memberWrites chg = s.memberWrites chg := by
  simp [State.memberWrites]

@[simp] theorem CmdSpec.recorded_ldOperand (c : CmdSpec) (h : Hdr) (p : Bytes) (s : State) (ld : Nat) :
    (c.recorded h p s).ldOperand ld = s.ldOperand ld := by
  simp [State.ldOperand]

/-! ## Checks and bit sets -/

/-- No field is bad just when each is good. -/
theorem firstBad_eq_none_iff {l : List (Bool × Nat)} : firstBad l = none ↔ ∀ x ∈ l, x.1 = true := by
  induction l with
  | nil => simp [firstBad]
  | cons x l ih =>
    obtain ⟨ok, off⟩ := x
    cases ok with
    | false => simp [firstBad]
    | true => simpa [firstBad] using ih

/-- No bit of 0 is set. -/
theorem indicesOf_zero (n : Nat) : indicesOf n 0 = [] := by
  simp [indicesOf, bitOf]

/-- A bit of a number, as the library has it. -/
theorem bitOf_eq_testBit (v i : Nat) : bitOf v i = v.testBit i := by
  rw [bitOf, Nat.testBit_eq_decide_div_mod_eq]
  rfl

/-- The only bit of a power of 2. -/
theorem indicesOf_two_pow {n m : Nat} (hm : m < n) : indicesOf n (2 ^ m) = [m] := by
  have hbits : indicesOf n (2 ^ m) = (List.range n).filter (· == m) := by
    refine List.filter_congr fun i _ => ?_
    rw [bitOf_eq_testBit, Nat.testBit_two_pow, beq_eq_decide]
    exact decide_eq_decide.2 eq_comm
  rw [hbits, List.filter_beq, List.count_eq_one_of_mem List.nodup_range (List.mem_range.2 hm)]
  rfl

/-! ## Share groups (R83) -/

/-- A release that only adds a member to a share group is committed at once (R86). -/
theorem State.startRelease_joins {s : State} {r : Release} {m g : Nat} {inval : Bool} (hextents : r.extents = []) (hleavers : r.leavers = [])
    (hjoiners : r.joiners = [(m, g)]) (hkeep : r.destroy = false) (hflush : s.dir.flushes = []) :
    ∃ jnl, s.startRelease r inval = ({ s with jnl := jnl, pol := { s.pol with releases := s.pol.releases ++ [r] } } : State).moduleCommit 0
      (s.memberWrites [(m, g, true)]) [] (.release r.id) := by
  have hoff : r.decodersOff = [] := by simp [Release.decodersOff, hkeep]
  have hchanges : r.changes = [(m, g, true)] := by simp [Release.changes, hleavers, hjoiners]
  obtain ⟨jnl, hcommit⟩ := State.commitRelease_plain (s := { s with pol := { s.pol with releases := s.pol.releases ++ [r] } })
    (State.groupsGone_private hleavers) (by simp [hextents])
  rw [State.startRelease_now (.inr hleavers) hflush, hcommit, hoff, hchanges, hextents]
  exact ⟨jnl, rfl⟩

/-- The tag of a share group is bound, under a new identifier of a release (R83). -/
def State.tagGroup (s : State) (g : Nat) (tag : Bytes) : State :=
  s.bumpId.modPol (fun q => { q with groupTags := SMap.put q.groupTags g tag })

/-- The release that adds a member to a share group without one. -/
def State.joinOf (s : State) (m g : Nat) (bg : Option Nat) : Release :=
  { id := s.pol.nextId, bgId := bg, ld := 0, extents := [], waitHost := false, destroy := false, leavers := [], joiners := [(m, g)],
    asked := (0, 0) }

/-- SHARE_GROUP_SET with a first member: no BI invalidation, so the command waits for the commit of the membership (R86). -/
theorem specShareGroupSet_run_joins {h : Hdr} {p : Bytes} {s : State} {m : Nat} (hwant : indicesOf 1024 (fieldAt p 32 128) = [m])
    (hld : s.hasLd m = true) (hmembers : s.members (p16 p 0) = []) (hunused : s.groupExtents (p16 p 0) = []) (hflush : s.dir.flushes = []) :
    specShareGroupSet.run h p s = .waits (.modCommit s.tbl.nextMod)
      ((s.tagGroup (p16 p 0) (slice p 16 16)).startRelease (s.joinOf m (p16 p 0) none) true) := by
  obtain ⟨jnl, hstart⟩ := State.startRelease_joins (s := s.tagGroup (p16 p 0) (slice p 16 16)) (r := s.joinOf m (p16 p 0) (some s.cmd.nextBg))
    (inval := true) rfl rfl rfl rfl hflush
  have hnow : ((s.tagGroup (p16 p 0) (slice p 16 16)).startRelease (s.joinOf m (p16 p 0) (some s.cmd.nextBg)) true).invalidating
      s.pol.nextId = false := by
    rw [hstart]
    show s.dir.flushes.any (fun o => o.release == some s.pol.nextId) = false
    rw [hflush]
    rfl
  simp only [specShareGroupSet, hwant, hmembers, hunused]
  refine (if_neg (by simp [hld])).trans ((if_neg (by simp)).trans ((if_neg (by simp)).trans ((if_neg (by simp)).trans ((if_neg (by simp)).trans
    (if_neg ?_)))))
  exact ne_true_of_eq_false hnow

/-! ## Entries that a grant forms (R83) -/

/-- A field that is put in leaves the bits below it. -/
theorem putBits_mod (e lsb w v : Nat) : putBits e lsb w v % 2 ^ lsb = e % 2 ^ lsb := by
  have hle : 2 ^ lsb * bitsOf e lsb w ≤ e := by
    have hmod : bitsOf e lsb w ≤ e / 2 ^ lsb := Nat.mod_le _ _
    exact (Nat.mul_le_mul_left _ hmod).trans (Nat.mul_div_le _ _)
  rw [putBits, Nat.add_mul_mod_self_right, Nat.mul_comm, Nat.sub_mul_mod hle]

theorem bitOf_putBits_below {e lsb w v i : Nat} (hi : i < lsb) : bitOf (putBits e lsb w v) i = bitOf e i := by
  have hlow (x : Nat) : x.testBit i = (x % 2 ^ lsb).testBit i := by simp [Nat.testBit_mod_two_pow, hi]
  rw [bitOf_eq_testBit, bitOf_eq_testBit, hlow, putBits_mod, ← hlow]

/-- Setting VALID leaves SHARED. -/
theorem entShared_putBit_valid (e : Nat) : entShared (putBit e 0 true) = entShared e := by
  unfold entShared
  rw [bitOf, bitOf]
  by_cases hbit : bitOf e 0 = true
  · simp [putBit, hbit]
  · have heven : e % 2 = 0 := by
      simpa [bitOf] using hbit
    have hhalf : (e + 1) / 2 = e / 2 := by omega
    simp [putBit, hbit, hhalf]

/-- The entries of a run are unshared when the run's entry is. -/
theorem GrantRun.entries_private {r : GrantRun} (hprivate : entShared r.entry = false) {owner : Nat} {e : Nat × Nat}
    (he : e ∈ r.entries owner) : entShared e.2 = false := by
  obtain ⟨i, -, rfl⟩ := List.mem_map.1 he
  show bitOf _ 1 = false
  rw [bitOf_putBits_below (by decide), bitOf_putBits_below (by decide), bitOf_putBits_below (by decide)]
  exact (entShared_putBit_valid r.entry).trans hprivate

theorem GrantRun.length_entries (r : GrantRun) (owner : Nat) : (r.entries owner).length = r.count := by
  simp [GrantRun.entries]

/-- The LD that receives an unshared run. -/
theorem GrantRun.receivers_private {s : State} {r : GrantRun} (hprivate : entShared r.entry = false) (hcount : 1 ≤ r.count) (owner : Nat) :
    (((r.entries owner).map (fun e => s.receivers e.2 owner)).flatten).dedup = [owner] := by
  have hone : (r.entries owner).map (fun e => s.receivers e.2 owner) = List.replicate r.count [owner] := by
    rw [← r.length_entries owner, ← List.map_const']
    refine List.map_congr_left fun e he => ?_
    simp [State.receivers, GrantRun.entries_private hprivate he]
  rw [hone, List.flatten_replicate_singleton, List.replicate_dedup (by omega)]

/-- A run that can be granted has an extent. -/
theorem State.grantBad_count {s : State} {r : GrantRun} (h : s.grantBad r = none) : 1 ≤ r.count := by
  have hcount := firstBad_eq_none_iff.1 h (need (1 ≤ r.count && r.first + r.count ≤ 2 ^ 24) 4) (by simp)
  simp only [need, Bool.and_eq_true, decide_eq_true_eq] at hcount
  exact hcount.1

theorem CmdSpec.recorded_grantBad (c : CmdSpec) (h : Hdr) (p : Bytes) (s : State) (r : GrantRun) :
    (c.recorded h p s).grantBad r = s.grantBad r := by
  have htwin : (c.recorded h p s).flag Reg.SEM_TWIN_STATUS_ENABLED = s.flag Reg.SEM_TWIN_STATUS_ENABLED := State.record_twinEnabled ..
  have htwinB : (c.recorded h p s).flag Reg.SEM_TWIN_STATUS_TWIN_B = s.flag Reg.SEM_TWIN_STATUS_TWIN_B :=
    CmdSpec.recorded_flag _ _ _ _ _ _ (by decide)
  simp only [State.grantBad, State.partnerExtent, htwin, htwinB, CmdSpec.recorded_targetOk]

theorem CmdSpec.recorded_grantRefused (c : CmdSpec) (h : Hdr) (p : Bytes) (s : State) (es : List (Nat × Nat)) (noLd : Bool) :
    (c.recorded h p s).grantRefused es noLd = s.grantRefused es noLd := by
  have hcopyWord (i k : Nat) : (c.recorded h p s).copyWord i k = s.copyWord i k := State.record_copyWord ..
  have htargets (e : Nat) : (c.recorded h p s).entryTargets e = s.entryTargets e := by
    simp only [State.entryTargets, CmdSpec.recorded_active, funext (hcopyWord _)]
  have hreceivers (e owner : Nat) : (c.recorded h p s).receivers e owner = s.receivers e owner := by
    simp only [State.receivers, CmdSpec.recorded_members]
  have hview (u t : Nat) : (c.recorded h p s).inView u t = s.inView u t := by simp only [State.inView, CmdSpec.recorded_active]
  have hruns : (c.recorded h p s).runsWith es = s.runsWith es := by simp only [State.runsWith, CmdSpec.recorded_pol]
  simp only [State.grantRefused, CmdSpec.recorded_entry, CmdSpec.recorded_stagedExtent, htargets, hreceivers, funext (hview _), hruns]

/-- The grant of an unshared run to its LD. -/
def State.privateGrant (s : State) (owner : Nat) (r : GrantRun) : Grant :=
  { id := s.pol.nextId, bgId := some s.cmd.nextBg, lds := [owner], entries := r.entries owner, fills := r.count, mod := none,
    offered := false }

/-- EXTENT_GRANT of one unshared run starts a grant whose extents are to be filled (R83). -/
theorem specExtentGrant_run_private {h : Hdr} {p : Bytes} {s : State} (hone : p16 p 0 = 1) (hfill : p8 p 2 = 0)
    (hprivate : entShared (grantRun p 0).entry = false) (hcount : 1 ≤ (grantRun p 0).count) (hld : s.hasLd (p16 p 4) = true)
    (hgranted : s.grantRefused ((grantRun p 0).entries (p16 p 4)) false = none) :
    specExtentGrant.run h p s =
      .started (s.bumpId.modPol (fun q => { q with grants := q.grants ++ [s.privateGrant (p16 p 4) (grantRun p 0)] })) true := by
  have hruns : grantRuns p = [grantRun p 0] := by rw [grantRuns, hone]; rfl
  have hentries : ([grantRun p 0].map (fun r => r.entries (p16 p 4))).flatten = (grantRun p 0).entries (p16 p 4) := by simp
  have hnoLd : ([grantRun p 0].any (fun r => !entShared r.entry) && !s.hasLd (p16 p 4)) = false := by simp [hld]
  have hall : bitOf 0 0 = false := rfl
  simp only [specExtentGrant, hruns, hentries, hnoLd, hgranted, hfill, hall, GrantRun.receivers_private hprivate hcount, GrantRun.length_entries]
  rfl

end Sys2Proof.Machine

namespace Sys2Proof.Claims

open Sys2Proof.Machine

/-! ## O50, clause by clause -/

section
variable {h : Hdr} {p : Bytes} {s : State}

/-- R86: a release whose invalidations are done commits the leaver's membership. -/
theorem releaseInvalidateEnd_commits {g ld m : Nat} {r : Release} {o : FlushOp} (hreleases : s.pol.releases = [r]) (hflushes : s.dir.flushes = [o])
    (hserves : o.release = some r.id) (hclear : s.releaseClear r.id = true) (hextents : r.extents = []) (hleavers : r.leavers = [(ld, g)])
    (hjoiners : r.joiners = []) (hkeep : r.destroy = false) (hm : m ∈ s.members g) (hne : m ≠ ld) :
    ∃ t, exec (.releaseInvalidateEnd r.id) s = .next t ∧ t = { s with dir := t.dir, jnl := t.jnl, tbl := t.tbl } ∧ t.dir.flushes = [] ∧
      (t.tbl.modq.map ModCommit.writes) = s.tbl.modq.map ModCommit.writes ++ [s.memberWrites [(ld, g, false)]] ∧
      (t.tbl.modq.map ModCommit.extents) = s.tbl.modq.map ModCommit.extents ++ [[]] := by
  have hfind : s.pol.releases.find? (fun x => x.id == r.id) = some r := by simp [hreleases]
  have hdone : (s.invalidating r.id && s.releaseClear r.id) = true := by simp [State.invalidating, hflushes, hserves, hclear]
  have hnone : s.dir.flushes.filter (fun x => x.release != some r.id) = [] := by simp [hflushes, hserves]
  obtain ⟨jnl, hcommit⟩ := State.commitRelease_plain (s := { s with dir := { s.dir with flushes := [] } }) (r := r)
    (State.groupsGone_stays hleavers hm hne) (by simp [hextents])
  have hexec : exec (.releaseInvalidateEnd r.id) s = .next (({ s with dir := { s.dir with flushes := [] } } : State).commitRelease r) := by
    show execReleaseInvalidateEnd r.id s = _
    simp only [execReleaseInvalidateEnd, hfind, hdone, if_true, hnone]
  have hoff : r.decodersOff = [] := by simp [Release.decodersOff, hkeep]
  have hchanges : r.changes = [(ld, g, false)] := by simp [Release.changes, hleavers, hjoiners]
  refine ⟨_, hexec, ?_⟩
  rw [hcommit]
  refine ⟨rfl, rfl, ?_, ?_⟩
  · rw [hoff, hchanges]
    exact List.map_append
  · simp [State.moduleCommit, hextents]

/-- R84: a host gives back an unshared extent that it holds. -/
theorem hostReleaseCapacity_held {ld : Fin 1024} {x : Nat} (hheld : s.holdsExtent ld.val x = true) (hunstaged : s.stagedExtent x = false)
    (hprivate : entShared (s.entry x) = false) (hreleases : s.pol.releases = []) (hreloc : s.relocOf x = none) (hflush : s.dir.flushes = []) :
    ∃ t, exec (.hostReleaseCapacity ld x 1) s = .next t ∧ t = { s with pol := t.pol, jnl := t.jnl, tbl := t.tbl } ∧
      (t.tbl.modq.map ModCommit.extents) = s.tbl.modq.map ModCommit.extents ++ [[(x, 0)]] ∧ t.pol.map = s.pol.map ∧
      t.pol.nextId = s.pol.nextId + 1 ∧ (t.pol.releases.map Release.id) = [s.pol.nextId] := by
  have hone : (List.range 1).map (x + ·) = [x] := rfl
  have hexec : exec (.hostReleaseCapacity ld x 1) s = .next (s.bumpId.startRelease (s.releaseOf ld.val [x] none (x, 1)) true) := by
    refine congrArg Host.Outcome.next ((if_neg ?_).trans ?_)
    · simp [hheld, hunstaged]
    · simp only [hreleases, List.find?_nil, hone]
      rfl
  obtain ⟨jnl, hstart⟩ := State.startRelease_private (t := s.bumpId) (ld := ld.val) (bg := none) (asked := (x, 1)) (inval := true)
    hprivate hreloc hflush
  refine ⟨_, hexec, ?_⟩
  rw [hstart]
  refine ⟨rfl, ?_, rfl, rfl, ?_⟩
  · simp [State.moduleCommit, State.bumpId, State.modPol]
  · simp [State.moduleCommit, State.bumpId, State.modPol, hreleases, State.releaseOf]

/-- R84: what it does not hold it cannot give back. -/
theorem hostReleaseCapacity_notHeld {ld : Fin 1024} {first count x : Nat} (hfirst : first ≤ x) (hlast : x < first + count)
    (hheld : s.holdsExtent ld.val x = false) : exec (.hostReleaseCapacity ld first count) s = .next s := by
  have hmem : x ∈ (List.range count).map (first + ·) :=
    List.mem_map.2 ⟨x - first, List.mem_range.2 (by omega), by omega⟩
  have hnot : ((List.range count).map (first + ·)).all (fun y => s.holdsExtent ld.val y && !s.stagedExtent y) = false :=
    List.all_eq_false.2 ⟨x, hmem, by simp [hheld]⟩
  refine congrArg Host.Outcome.next (if_pos (.inr (.inr ?_)))
  rw [hnot]
  rfl

/-- R88: a request that the host does not answer in time is dropped. -/
theorem releaseTimeout_drops {r : Release} (hreleases : s.pol.releases = [r]) (hwaits : r.waitHost = true) :
    ∃ t, exec (.releaseTimeout r.id) s = .next t ∧ t.pol.releases = [] ∧ t.pol.map = s.pol.map ∧ t.dir = s.dir ∧ t.tbl = s.tbl := by
  have hfind : s.pol.releases.find? (fun x => x.id == r.id && x.waitHost) = some r := by simp [hreleases, hwaits]
  have hexec : exec (.releaseTimeout r.id) s = .next (((s.timerInput 0).dropRelease r.id).endBg? r.bgId stTimeout []) := by
    show execReleaseTimeout r.id s = _
    simp only [execReleaseTimeout, hfind]
  have hend (t : State) (id : Option Nat) : ∃ cmd, t.endBg? id stTimeout [] = { t with cmd := cmd } := by
    cases id with
    | none => exact ⟨t.cmd, rfl⟩
    | some n => exact ⟨_, rfl⟩
  obtain ⟨cmd, hcmd⟩ := hend ((s.timerInput 0).dropRelease r.id) r.bgId
  refine ⟨_, hexec, ?_⟩
  rw [hcmd]
  simp [State.dropRelease, State.modPol, State.timerInput, hreleases]

/-- R83: after its fills a grant fills the page of each copy and commits its entries. -/
theorem fillComplete_commits {g : Grant} {x e : Nat} {c : Copy} (hgrants : s.pol.grants = [g]) (hfills : g.fills ≠ 0)
    (hentries : g.entries = [(x, e)]) (hcopies : s.copies e (x * linesPerExtent) s.tbl.epoch = [c]) :
    ∃ t, exec (.fillComplete g.id) s = .next t ∧ t = { s with pol := t.pol, jnl := t.jnl, tbl := t.tbl, out := t.out } ∧
      t.out = .devFill c.port c.dpa pageBytes :: s.out ∧ (t.tbl.modq.map ModCommit.extents) = s.tbl.modq.map ModCommit.extents ++ [[(x, e)]] ∧
      t.pol.grants = [{ g with fills := 0 }] := by
  have hfind : s.pol.grants.find? (fun y => y.id == g.id && y.fills != 0) = some g := by simp [hgrants, hfills]
  have hfill : forEach g.entries (fun e s =>
      forEach (s.copies e.2 (e.1 * linesPerExtent) s.tbl.epoch) (fun c s => s.emit (.devFill c.port c.dpa pageBytes)) s) s =
      s.emit (.devFill c.port c.dpa pageBytes) := by
    simp only [forEach, hentries, List.foldl_cons, List.foldl_nil, hcopies]
  have hexec : exec (.fillComplete g.id) s = .next (((s.emit (.devFill c.port c.dpa pageBytes)).modPol (fun p =>
      { p with grants := updFirst (fun y : Grant => y.id == g.id) (fun y => { y with fills := 0 }) p.grants })).commitGrant g
        (runsOfEntries g.entries) (entOwner ((g.entries.head?.map Prod.snd).getD 0))) := by
    show execFillComplete g.id s = _
    simp only [execFillComplete, hfind, hfill]
  obtain ⟨jnl, hcommit⟩ := State.commitGrant_frame ((s.emit (.devFill c.port c.dpa pageBytes)).modPol (fun p =>
    { p with grants := updFirst (fun y : Grant => y.id == g.id) (fun y => { y with fills := 0 }) p.grants })) g (runsOfEntries g.entries)
    (entOwner ((g.entries.head?.map Prod.snd).getD 0))
  refine ⟨_, hexec, ?_⟩
  rw [hcommit]
  refine ⟨rfl, rfl, ?_, ?_⟩
  · simp [State.moduleCommit, State.modPol, hentries]
  · simp [State.moduleCommit, State.modPol, hgrants, updFirst]

/-- The answer of the only host of the only grant ends the grant and releases what it refused (Table 2-8 step 6). -/
theorem hostAddCapacityResponse_ends {ld : Fin 1024} {g : Grant} (hgrants : s.pol.grants = [g]) (hoffered : g.offered = true)
    (hlds : g.lds = [ld.val]) (acc : List (Nat × Nat)) : exec (.hostAddCapacityResponse ld acc) s =
      .next (({ s with pol := { s.pol with grants := [] } } : State).releaseRefused ld.val (s.refusedOf ld.val g acc)) := by
  have hfind : s.pol.grants.find? (fun y => y.offered && y.lds.contains ld.val) = some g := by simp [hgrants, hoffered, hlds]
  have hended : s.modPol (fun p => { p with grants := (updFirst (fun y : Grant => y.id == g.id)
      (fun y => { y with lds := y.lds.filter (· ≠ ld.val) }) s.pol.grants).filter (fun y => !(y.offered && y.lds.isEmpty)) }) =
      { s with pol := { s.pol with grants := [] } } := by
    simp [State.modPol, hgrants, updFirst, hlds, hoffered]
  show execHostAddCapacityResponse ld acc s = _
  simp only [execHostAddCapacityResponse, hfind, hended]
  rfl

/-- A host that accepts everything ends its part of the grant. -/
theorem hostAddCapacityResponse_accepts {ld : Fin 1024} {g : Grant} {acc : List (Nat × Nat)} (hgrants : s.pol.grants = [g])
    (hoffered : g.offered = true) (hlds : g.lds = [ld.val])
    (hall : g.entries.all (fun e => acc.any (fun a => a.1 ≤ e.1 && e.1 < a.1 + a.2)) = true) :
    exec (.hostAddCapacityResponse ld acc) s = .next { s with pol := { s.pol with grants := [] } } := by
  have hnone : s.refusedOf ld.val g acc = [] := by
    refine List.filter_eq_nil_iff.2 fun x hx => ?_
    obtain ⟨e, he, rfl⟩ := List.mem_map.1 hx
    have hacc := List.all_eq_true.1 hall e (List.mem_filter.1 he).1
    simp [hacc]
  rw [hostAddCapacityResponse_ends hgrants hoffered hlds, hnone]
  rfl

/-- The part of a grant that a host refuses is released again. -/
theorem hostAddCapacityResponse_refuses {ld : Fin 1024} {g : Grant} {x e : Nat} (hgrants : s.pol.grants = [g]) (hoffered : g.offered = true)
    (hlds : g.lds = [ld.val]) (hentries : g.entries = [(x, e)]) (hheld : s.holdsExtent ld.val x = true) (hunstaged : s.stagedExtent x = false)
    (hprivate : entShared (s.entry x) = false) (hreloc : s.relocOf x = none) (hflush : s.dir.flushes = []) :
    ∃ t, exec (.hostAddCapacityResponse ld []) s = .next t ∧ t = { s with pol := t.pol, jnl := t.jnl, tbl := t.tbl } ∧ t.pol.grants = [] ∧
      (t.tbl.modq.map ModCommit.extents) = s.tbl.modq.map ModCommit.extents ++ [[(x, 0)]] := by
  have hrefused : s.refusedOf ld.val g [] = [x] := by simp [State.refusedOf, hentries, hheld, hunstaged]
  obtain ⟨jnl, hstart⟩ := State.startRelease_private (s := { s with pol := { s.pol with grants := [] } })
    (t := ({ s with pol := { s.pol with grants := [] } } : State).bumpId) (ld := ld.val) (bg := none) (asked := (x, 1)) (inval := false)
    hprivate hreloc hflush
  have hreleased : ({ s with pol := { s.pol with grants := [] } } : State).releaseRefused ld.val [x] = _ := hstart
  refine ⟨_, hostAddCapacityResponse_ends hgrants hoffered hlds [], ?_⟩
  rw [hrefused, hreleased]
  refine ⟨rfl, rfl, ?_⟩
  simp [State.moduleCommit, State.bumpId, State.modPol]

/-- R105: the rebuild of a page ends its condition and is reported. -/
theorem extentPageRebuild_reports {page : Nat} {pair : Bool} (hbad : s.pol.badPages = [(page, pair)]) :
    ∃ t, exec (.extentPageRebuild page pair) s = .next t ∧ t = { s with pol := { s.pol with badPages := [] }, flt := t.flt } ∧
      (∃ e ∈ t.flt.waiting, e.src = (if pair then 0x0A81 else 0x0A80) ∧ e.cls = 2) := by
  have hpol : s.modPol (fun p => { p with badPages := p.badPages.filter (· ≠ (page, pair)) }) =
      { s with pol := { s.pol with badPages := [] } } := by
    simp [State.modPol, hbad]
  have hexec : exec (.extentPageRebuild page pair) s =
      .next (({ s with pol := { s.pol with badPages := [] } } : State).report (if pair then 0x0A81 else 0x0A80) contained 0 (leBytes 4 page)) := by
    rw [← hpol]
    rfl
  obtain ⟨e, he, hsrc, hcls, -⟩ := State.waits_report ({ s with pol := { s.pol with badPages := [] } } : State)
    (if pair then 0x0A81 else 0x0A80) contained 0 (leBytes 4 page) []
  exact ⟨_, hexec, rfl, e, he, hsrc, hcls⟩

/-- POOL_INFO answers 24 bytes, the number of VALID extents first. -/
theorem poolInfo_reads : Reads .poolInfo 0xC400 .observe 0 always
    (fun _ _ s b => b.length = 24 ∧ fieldAt b 0 4 = s.validExtents.length % 2 ^ 32) := by
  intro h p s hop hpriv hlen _
  have hr : Reached specPoolInfo h p s := reached hop hpriv hlen rfl rfl
  refine ⟨_, ⟨?_, ?_⟩, hr.done rfl⟩
  · simp
  · simp only [List.append_assoc, CmdSpec.recorded_validExtents]
    exact fieldAt_leBytes [] _ 4 _

/-- EXTENT_READ answers eight bytes per entry. -/
theorem extentRead_reads : Reads .extentRead 0xC422 .observe 6
    (fun _ p _ => 1 ≤ p16 p 4 ∧ p16 p 4 ≤ 508 ∧ p32 p 0 + p16 p 4 ≤ 2 ^ 24)
    (fun _ p s b => b.length = 8 * p16 p 4 ∧ (∀ i < p16 p 4, fieldAt b (8 * i) 8 = s.entry (p32 p 0 + i) % 2 ^ 64)) := by
  intro h p s hop hpriv hlen hgood
  obtain ⟨hmin, hmax, hend⟩ := hgood
  have hfirst : p32 p 0 < 16777216 := by omega
  have hlast : p32 p 0 + p16 p 4 ≤ 16777216 := hend
  have hmax' : p16 p 4 ≤ 512 := by omega
  have hr : Reached specExtentRead h p s := reached hop hpriv hlen rfl (by simp [specExtentRead, firstBad, need, hfirst, hmin, hmax', hlast])
  refine ⟨fieldRow 8 (fun i => (specExtentRead.recorded h p s).entry (p32 p 0 + i)) (p16 p 4), ⟨length_fieldRow .., fun i hi => ?_⟩,
    hr.done rfl⟩
  rw [fieldAt_fieldRow _ _ hi, CmdSpec.recorded_entry]
  rfl

/-- R83: SHARE_GROUP_SET without members binds the tag to the group. -/
theorem shareGroupSet_binds : Does .shareGroupSet 0xC423 .operate 160
    (fun _ p s => p16 p 0 < 1024 ∧ s.members (p16 p 0) = [] ∧ fieldAt p 32 128 = 0 ∧ s.groupExtents (p16 p 0) = [])
    (fun _ p s => { s with pol := { s.pol with nextId := s.pol.nextId + 1,
                                               groupTags := SMap.put s.pol.groupTags (p16 p 0) (slice p 16 16) } }.journal
      (.group (p16 p 0) (SMap.get (SMap.put s.pol.groupTags (p16 p 0) (slice p 16 16)) (p16 p 0) (List.replicate 16 0)) [])) := by
  intro h p s hop hpriv hlen hgood
  obtain ⟨hgroup, hmembers, hwant, hunused⟩ := hgood
  have hr : Reached specShareGroupSet h p s := reached hop hpriv hlen rfl (by simp [specShareGroupSet, firstBad, need, hgroup])
  refine hr.done ?_
  simp only [specShareGroupSet, hwant, indicesOf_zero, CmdSpec.recorded_members, CmdSpec.recorded_groupExtents, hmembers, hunused]
  rfl

/-- R79, R115: POOL_VIEW_SET waits for the commit of the view. -/
theorem poolViewSet_waits (hop : Operating s) (hpriv : Privileged .admin h s) (hlen : p.length = 32) (husp : s.isUsp (p8 p 0) = true)
    (htargets : ∀ i < 16, bitOf (p8 p (16 + i)) 7 = true → s.targetOk (p8 p (16 + i) % 128) = true) (hempty : s.validExtents = []) :
    ∃ t, exec (.poolViewSet h p) s = .next t ∧ (t.tbl.waits.map Waiting.what) = s.tbl.waits.map Waiting.what ++ [.modCommit s.tbl.nextMod] ∧
      (t.tbl.modq.map ModCommit.writes) = s.tbl.modq.map ModCommit.writes ++ [[(0x0A00 + p8 p 0, 0x1000, slice p 16 16)]] ∧
      t.tbl.tables = s.tbl.tables := by
  have hcheck : specPoolViewSet.check h p (specPoolViewSet.recorded h p s) = none := by
    refine firstBad_eq_none_iff.2 fun x hx => ?_
    rcases List.mem_append.1 hx with hx | hx
    · rw [List.mem_singleton.1 hx]
      simpa [need] using husp
    · obtain ⟨i, hi, rfl⟩ := List.mem_map.1 hx
      by_cases hbit : bitOf (p8 p (16 + i)) 7 = true
      · simp [need, htargets i (List.mem_range.1 hi) hbit]
      · simp [need, hbit]
  have hr : Reached specPoolViewSet h p s := reached hop hpriv hlen rfl hcheck
  have hrun : specPoolViewSet.run h p (specPoolViewSet.recorded h p s) = .waits (.modCommit s.tbl.nextMod)
      ((specPoolViewSet.recorded h p s).moduleCommit 0 [(0x0A00 + p8 p 0, 0x1000, slice p 16 16)] [] .nothing) := by
    refine (if_neg (by simp [hempty])).trans ?_
    rw [CmdSpec.recorded_tbl]
  obtain ⟨x, hwhat, hx⟩ := hr.waitsFor hrun
  refine ⟨_, (exec_of_commandOf rfl s).trans hx, ?_⟩
  simp [State.moduleCommit, hwhat]

/-- R88: EXTENT_RELEASE asks the host for the extents. -/
theorem extentRelease_asks {x : Nat × Nat} (hop : Operating s) (hpriv : Privileged .operate h s) (hlen : p.length = 12)
    (hld : s.ldOperand (p16 p 0) = true) (hfirst : p32 p 4 < 2 ^ 24) (hcount : p32 p 8 = 1) (hvalid : s.validExtents = [x])
    (hx : x.1 = p32 p 4) (hheld : s.holdsExtent (p16 p 0) x.1 = true) (hunstaged : s.stagedExtent x.1 = false)
    (hroom : s.cmd.bg.length < 16) :
    ∃ t, exec (.extentRelease h p) s = .next t ∧ (∃ rest, t.out = rest ++ .capacity (p16 p 0) 1 (p32 p 4) 1 [] :: s.out) ∧
      (t.pol.releases.map Release.asked) = s.pol.releases.map Release.asked ++ [(p32 p 4, 1)] ∧ t.pol.map = s.pol.map ∧ t.tbl = s.tbl := by
  have hlt : p32 p 4 < 16777216 := hfirst
  have hr : Reached specExtentRelease h p s :=
    reached hop hpriv hlen rfl (by simp [specExtentRelease, firstBad, need, hld, hlt, hcount, Nat.succ_le_of_lt hlt])
  obtain ⟨t, hrun, hout, hreleases, hmap, htbl⟩ : ∃ t, specExtentRelease.run h p (specExtentRelease.recorded h p s) = .started t true ∧
      t.out = .capacity (p16 p 0) 1 (p32 p 4) 1 [] :: s.out ∧
      (t.pol.releases.map Release.asked) = s.pol.releases.map Release.asked ++ [(p32 p 4, 1)] ∧ t.pol.map = s.pol.map ∧ t.tbl = s.tbl := by
    have hheld' : (specExtentRelease.recorded h p s).validExtents.filter (fun x => p32 p 4 ≤ x.1 && x.1 < p32 p 4 + p32 p 8 &&
        (specExtentRelease.recorded h p s).holdsExtent (p16 p 0) x.1) = [x] := by
      rw [CmdSpec.recorded_validExtents, hvalid, List.filter_singleton, CmdSpec.recorded_holdsExtent, hheld, hx, hcount]
      simp
    refine ⟨_, (if_neg ?_).trans (if_neg (by simp [hcount])), ?_⟩
    · rw [hcount] at hheld'
      simp only [hcount, hheld']
      simp [hunstaged]
    · simp [State.bumpId, State.modPol, State.emit, hcount]
  have hstarted := hr.started hroom hrun
  obtain ⟨rest, hrest⟩ := (t.beginBg specExtentRelease h p s.trec.next true).answer_out h.req h.session specExtentRelease.opcode h.tag.toNat
    h.context.toNat s.trec.next stStarted []
  refine ⟨_, (exec_of_commandOf rfl s).trans hstarted, ⟨rest, ?_⟩, ?_⟩
  · rw [← hout]
    exact hrest.symm
  · simp only [CmdSpec.answered, State.answer_pol, State.answer_tbl]
    exact ⟨hreleases, hmap, htbl⟩

/-- R83: SHARE_GROUP_SET with a new member waits for the commit of its membership. -/
theorem shareGroupSet_joins {m : Fin 1024} (hop : Operating s) (hpriv : Privileged .operate h s) (hlen : p.length = 160)
    (hgroup : p16 p 0 < 1024) (hwant : fieldAt p 32 128 = 2 ^ m.val) (hld : s.hasLd m.val = true) (hmembers : s.members (p16 p 0) = [])
    (hunused : s.groupExtents (p16 p 0) = []) (hflush : s.dir.flushes = []) :
    ∃ t, exec (.shareGroupSet h p) s = .next t ∧ (t.tbl.waits.map Waiting.what) = s.tbl.waits.map Waiting.what ++ [.modCommit s.tbl.nextMod] ∧
      (t.tbl.modq.map ModCommit.writes) = s.tbl.modq.map ModCommit.writes ++ [s.memberWrites [(m.val, p16 p 0, true)]] := by
  have hr : Reached specShareGroupSet h p s := reached hop hpriv hlen rfl (by simp [specShareGroupSet, firstBad, need, hgroup])
  have hflush' : (specShareGroupSet.recorded h p s).dir.flushes = [] := by simpa using hflush
  have hrun := specShareGroupSet_run_joins (h := h) (s := specShareGroupSet.recorded h p s) (hwant ▸ indicesOf_two_pow m.isLt)
    (by simpa using hld) (by simpa using hmembers) (by simpa using hunused) hflush'
  obtain ⟨jnl, hstart⟩ := State.startRelease_joins (s := (specShareGroupSet.recorded h p s).tagGroup (p16 p 0) (slice p 16 16))
    (r := (specShareGroupSet.recorded h p s).joinOf m.val (p16 p 0) none) (inval := true) rfl rfl rfl rfl hflush'
  obtain ⟨x, hwhat, hx⟩ := hr.waitsFor hrun
  refine ⟨_, (exec_of_commandOf rfl s).trans hx, ?_⟩
  have hwrites : ((specShareGroupSet.recorded h p s).tagGroup (p16 p 0) (slice p 16 16)).memberWrites [(m.val, p16 p 0, true)] =
      s.memberWrites [(m.val, p16 p 0, true)] :=
    specShareGroupSet.recorded_memberWrites h p s _
  rw [hstart, hwrites]
  simp [State.moduleCommit, State.tagGroup, State.bumpId, State.modPol, hwhat]

/-- R83: EXTENT_GRANT of an unshared run starts a grant whose extents are to be filled. -/
theorem extentGrant_starts (hop : Operating s) (hpriv : Privileged .operate h s) (hlen : p.length = 32) (hone : p16 p 0 = 1) (hfill : p8 p 2 = 0)
    (hoperand : s.ldOperand (p16 p 4) = true) (hprivate : entShared (grantRun p 0).entry = false) (hgood : s.grantBad (grantRun p 0) = none)
    (hld : s.hasLd (p16 p 4) = true) (hgranted : s.grantRefused ((grantRun p 0).entries (p16 p 4)) false = none)
    (hroom : s.cmd.bg.length < 16) :
    ∃ t, exec (.extentGrant h p) s = .next t ∧
      t.pol.grants = s.pol.grants ++ [{
        id := s.pol.nextId, bgId := some s.cmd.nextBg, lds := [p16 p 4], entries := (grantRun p 0).entries (p16 p 4),
        fills := p32 p 20, mod := none, offered := false }] ∧
      t.pol.nextId = s.pol.nextId + 1 ∧ t.pol.map = s.pol.map ∧ t.tbl = s.tbl ∧ t.cmd.bg.length = s.cmd.bg.length + 1 := by
  have hcheck : specExtentGrant.check h p (specExtentGrant.recorded h p s) = none := by
    have hlt : p16 p 4 < 1024 := by
      simp only [State.ldOperand, Bool.and_eq_true, decide_eq_true_eq] at hoperand
      exact hoperand.1
    refine firstBad_eq_none_iff.2 fun x hx => ?_
    rcases List.mem_append.1 hx with hx | hx
    · simp only [List.mem_cons, List.not_mem_nil, or_false] at hx
      rcases hx with rfl | rfl | rfl
      · simp [need, hone]
      · simp [need, hoperand]
      · simp [need, hlt]
    · obtain ⟨i, hi, rfl⟩ := List.mem_map.1 hx
      obtain rfl : i = 0 := by
        rw [hone, List.mem_range] at hi
        omega
      simp only [CmdSpec.recorded_grantBad, hgood]
      rfl
  have hr : Reached specExtentGrant h p s :=
    { operating := hop, privileged := hpriv, len := by simp [specExtentGrant, hlen, hone], deny := by simp [specExtentGrant, hfill, bitOf]
      lock := rfl, check := hcheck }
  have hrun := specExtentGrant_run_private (h := h) (s := specExtentGrant.recorded h p s) hone hfill hprivate (State.grantBad_count hgood)
    (by simpa using hld) (by rw [CmdSpec.recorded_grantRefused]; exact hgranted)
  refine ⟨_, (exec_of_commandOf rfl s).trans (hr.started hroom hrun), ?_⟩
  simp only [CmdSpec.answered, State.answer_pol, State.answer_tbl, State.answer_bg]
  have hfills : (grantRun p 0).count = p32 p 20 := rfl
  simp [State.beginBg, State.modCmd, State.bumpId, State.modPol, State.privateGrant, hfills]

end

/-- Settles O50: the lemmas above, one for each clause; that the change list becomes writable is one register write. -/
theorem capacityAndGroups : Obligations.CapacityAndGroups :=
  ⟨fun _ _ _ _ _ _ => releaseInvalidateEnd_commits, fun _ _ _ => hostReleaseCapacity_held, fun _ _ _ _ _ => hostReleaseCapacity_notHeld,
    fun _ _ => releaseTimeout_drops, fun _ _ _ _ _ => fillComplete_commits, fun _ _ _ _ => hostAddCapacityResponse_accepts,
    fun _ _ _ _ _ => hostAddCapacityResponse_refuses, fun _ => rfl, fun _ _ _ => extentPageRebuild_reports, poolInfo_reads,
    fun _ _ _ => poolViewSet_waits, fun _ _ _ => extentGrant_starts, fun _ _ _ _ => extentRelease_asks, extentRead_reads,
    shareGroupSet_binds, fun _ _ _ _ => shareGroupSet_joins⟩

end Sys2Proof.Claims

namespace Sys2Proof.Machine

/-! ## MemSpecRd (R142) -/

/-- A wake changes nothing of the module but the link's state and its LTSSM register (R603). -/
theorem State.wake_frame (s : State) (p : Nat) : ∃ regs prt, s.wake p = { s with regs := regs, prt := prt } := by
  unfold State.wake
  split
  · exact ⟨_, _, rfl⟩
  · exact ⟨_, _, rfl⟩

/-- A MemSpecRd is dropped at once where the port takes no CXL.mem message, and otherwise once it has woken the link. -/
theorem execCxlMemRequest_memSpecRd {s : State} {p : Port} {m : MemReq} (hop : m.op = .memSpecRd) :
    execCxlMemRequest p m s = .next (if !s.takes p.val || !(s.port p.val).memUp then s else s.wake p.val) := by
  unfold execCxlMemRequest
  rw [if_pos hop]

end Sys2Proof.Machine

namespace Sys2Proof.Claims

open Sys2Proof.Machine

/-! ## O13 -/

/-- Settles O13: the message is dropped, with or without a wake of its link, and a wake leaves the rest of the module as it is. -/
theorem speculativeReads : Obligations.SpeculativeReads := by
  intro p m s hop
  refine ⟨_, execCxlMemRequest_memSpecRd hop, ?_⟩
  split
  · exact ⟨.inl rfl, rfl, rfl, rfl, rfl, rfl⟩
  · obtain ⟨regs, prt, hwake⟩ := State.wake_frame s p.val
    refine ⟨.inr rfl, ?_⟩
    rw [hwake]
    exact ⟨rfl, rfl, rfl, rfl, rfl⟩

end Sys2Proof.Claims

namespace Sys2Proof.Claims

open Sys2Proof.Machine

/-! ## O48: a list of ports that is not canonical -/

/-- A module whose walk covers port 0, which is lost (R163, R164). The list of ports names port 0 twice: with its link down and its
CXL.mem credits withheld for the walk (R166), then with its link up. -/
def walkedTwicePorted : State :=
  { State.reset with
    regs := [(Reg.DIR_LOST_LO.key 0, 1)]
    dir := { Dir.reset with walk := some { ports := 1, twin := false, late := 0, lateTwin := false, extra := false } }
    prt := { Prt.reset with
      ports := [(0, { PortSt.dflt with withhold := [.lostMask] }), (0, { PortSt.dflt with up := true })] } }

set_option maxRecDepth 20000 in
/-- The end of the walk returns port 0's credits. Its state is then that at reset, so that the second entry shows, whose link is up:
its CXL.mem credits flow. -/
theorem lostPortWalkEnd_walkedTwicePorted : ∃ t, exec .lostPortWalkEnd walkedTwicePorted = .next t ∧ (t.port 0).memUp = true :=
  ⟨_, rfl, by decide⟩

/-- Refutes O48: its clause about the end of a walk leaves out that the list of ports is canonical. Where the list names the lost port
twice, the end of the walk uncovers a second entry, and CXL.mem is up on a port whose link was down. -/
theorem not_directoryUpkeep : ¬ Obligations.DirectoryUpkeep := by
  intro h
  obtain ⟨-, -, hwalk, -⟩ := h
  obtain ⟨t, ht, -, -, -, -, hdown, -⟩ := hwalk 0 walkedTwicePorted (by decide) (by decide) rfl (by decide) rfl
  obtain ⟨t', ht', hflows⟩ := lostPortWalkEnd_walkedTwicePorted
  obtain rfl := Host.Outcome.next.inj (ht.symm.trans ht')
  exact absurd (hflows.symm.trans hdown) (by decide)

end Sys2Proof.Claims

namespace Sys2Proof.Machine

/-! ## Sparse arrays: two stores at one key -/

section
variable {α : Type}

/-- Two canonical lists that read alike are equal. -/
theorem SMap.ext_of_wf {m n : SMap α} (hm : SMap.wf m) (hn : SMap.wf n) (h : ∀ k, SMap.find m k = SMap.find n k) : m = n := by
  induction m generalizing n with
  | nil =>
    cases n with
    | nil => rfl
    | cons b n => exact absurd (h b.1) (by simp [SMap.find])
  | cons a m ih =>
    cases n with
    | nil => exact absurd (h a.1) (by simp [SMap.find])
    | cons b n =>
      obtain ⟨ha, hm'⟩ := (SMap.wf_cons a m).1 hm
      obtain ⟨hb, hn'⟩ := (SMap.wf_cons b n).1 hn
      have hkey : a.1 = b.1 := by
        rcases Nat.lt_trichotomy a.1 b.1 with hlt | heq | hgt
        · have hnone : SMap.find n a.1 = none := SMap.find_below n fun c hc => Nat.lt_trans hlt (hb c hc)
          exact absurd (h a.1) (by simp [SMap.find, hnone, Nat.ne_of_gt hlt])
        · exact heq
        · have hnone : SMap.find m b.1 = none := SMap.find_below m fun c hc => Nat.lt_trans hgt (ha c hc)
          exact absurd (h b.1) (by simp [SMap.find, hnone, Nat.ne_of_gt hgt])
      have hvalue : a.2 = b.2 := by simpa [SMap.find, hkey] using h a.1
      have hrest : m = n := ih hm' hn' fun k => by
        by_cases hk : a.1 = k
        · subst hk
          rw [SMap.find_below m ha, SMap.find_below n fun c hc => hkey ▸ hb c hc]
        · have hk' : ¬ b.1 = k := hkey ▸ hk
          simpa [SMap.find, hk, hk'] using h k
      rw [Prod.ext hkey hvalue, hrest]

variable [DecidableEq α]

/-- A store lists its value, or nothing where the value is the default. -/
theorem SMap.find_store_self {m : SMap α} (hm : SMap.wf m) (k : Nat) (v d : α) :
    SMap.find (SMap.store m k v d) k = if v = d then none else some v := by
  unfold SMap.store
  split
  · exact SMap.find_del_self m k hm
  · rw [SMap.find_put, if_pos rfl]

/-- Of two stores at one key the second one stays. -/
theorem SMap.store_store {m : SMap α} (hm : SMap.wf m) (k : Nat) (v w d : α) :
    SMap.store (SMap.store m k v d) k w d = SMap.store m k w d := by
  have hv := SMap.wf_store m k v d hm
  refine SMap.ext_of_wf (SMap.wf_store _ k w d hv) (SMap.wf_store m k w d hm) fun j => ?_
  by_cases hj : k = j
  · subst hj
    rw [SMap.find_store_self hv, SMap.find_store_self hm]
  · rw [SMap.find_store_ne _ _ _ hj, SMap.find_store_ne _ _ _ hj, SMap.find_store_ne _ _ _ hj]

end

/-! ## Functions of the Mover: reads after writes -/

section
variable {s : State} {k : Nat}

/-- A function's state that is stored is read back. -/
theorem State.fn_setFn_self (hwf : SMap.wf s.mov.fns) (k : Nat) (x : FnSt) : (s.setFn k x).fn k = x :=
  SMap.get_store_self _ _ _ _ hwf

/-- Storing a function's state leaves the other functions. -/
theorem State.fn_setFn_ne {j : Nat} (h : j ≠ k) (x : FnSt) : (s.setFn k x).fn j = s.fn j :=
  SMap.get_store_ne _ _ _ _ (Ne.symm h)

/-- Storing a function's state keeps the functions' canonical form. -/
theorem State.wf_setFn (hwf : SMap.wf s.mov.fns) (k : Nat) (x : FnSt) : SMap.wf (s.setFn k x).mov.fns :=
  SMap.wf_store _ _ _ _ hwf

/-- Of two states stored for one function the second one stays. -/
theorem State.setFn_setFn (hwf : SMap.wf s.mov.fns) (k : Nat) (x y : FnSt) : (s.setFn k x).setFn k y = s.setFn k y :=
  congrArg (fun f => { s with mov := { s.mov with fns := f } }) (SMap.store_store hwf k x y _)

/-- A function's state that is changed is read back changed. -/
theorem State.fn_modFn_self (hwf : SMap.wf s.mov.fns) (k : Nat) (f : FnSt → FnSt) : (s.modFn k f).fn k = f (s.fn k) :=
  State.fn_setFn_self hwf k _

/-- Changing a function's state leaves the other functions. -/
theorem State.fn_modFn_ne {j : Nat} (h : j ≠ k) (f : FnSt → FnSt) : (s.modFn k f).fn j = s.fn j := State.fn_setFn_ne h _

/-- What every change of a function keeps of each function's state, a change of one keeps. -/
theorem State.fn_modFn_keeps {β : Type} {g : FnSt → β} {f : FnSt → FnSt} (hwf : SMap.wf s.mov.fns) (hf : ∀ x, g (f x) = g x) (k j : Nat) :
    g ((s.modFn k f).fn j) = g (s.fn j) := by
  by_cases hj : j = k
  · rw [hj, State.fn_modFn_self hwf, hf]
  · rw [State.fn_modFn_ne hj]

end

/-! ## What answering a command leaves of the Mover -/

/-- A mailbox interrupt changes of the Mover the vectors of the management PF alone. -/
theorem State.mbxIrq_mov (s : State) (v : Nat) : ∃ fns, (s.mbxIrq v).mov = { s.mov with fns := fns } := by
  unfold State.mbxIrq
  dsimp only
  split
  · exact ⟨s.mov.fns, rfl⟩
  · split
    · exact ⟨_, rfl⟩
    · exact ⟨s.mov.fns, rfl⟩

/-- So does a command's answer. -/
theorem State.answer_mov (s : State) (req : Requester) (session : Option Nat) (opcode tag context seq status : Nat) (reply : Bytes) :
    ∃ fns, (s.answer req session opcode tag context seq status reply).mov = { s.mov with fns := fns } := by
  have hsent (k : Bytes) : ∃ fns, (s.sendPacket req session k).mov = { s.mov with fns := fns } := by
    unfold State.sendPacket
    split
    · exact State.mbxIrq_mov (s.modCmd _) 0
    · obtain ⟨out, sem, h⟩ := State.ctlSend_frame s (.response req.source k)
      exact ⟨s.mov.fns, by rw [h]⟩
    · exact ⟨s.mov.fns, rfl⟩
  unfold State.answer State.recordResponse
  rw [State.record_mov]
  exact hsent _

@[simp] theorem CmdSpec.recorded_mov (c : CmdSpec) (h : Hdr) (p : Bytes) (s : State) : (c.recorded h p s).mov = s.mov := State.record_mov ..

/-- The allotments after a command's answer are those that its work left. -/
@[simp] theorem CmdSpec.answered_allot (c : CmdSpec) (h : Hdr) (s t : State) (status : Nat) (reply : Bytes) :
    (c.answered h s t status reply).mov.allot = t.mov.allot := by
  obtain ⟨fns, hmov⟩ := t.answer_mov h.req h.session c.opcode h.tag.toNat h.context.toNat s.trec.next status reply
  rw [CmdSpec.answered, hmov]

/-- A command whose work would fail does not come to any: it is taken by an unpowered module, or only answered. -/
theorem CmdSpec.direct_of_run_fail (c : CmdSpec) {h : Hdr} {p : Bytes} {s : State} {e : Nat}
    (hrun : c.run h p (c.recorded h p s) = .fail e) :
    c.direct h p s = .next s ∨ ∃ st b, c.direct h p s = .next (c.answered h s (c.recorded h p s) st b) := by
  have hout : (∃ st, c.outcome h p (c.recorded h p s) = .fail st) ∨ ∃ off, c.outcome h p (c.recorded h p s) = .bad off := by
    unfold CmdSpec.outcome
    rw [hrun]
    split
    · exact .inl ⟨_, rfl⟩
    · split
      · exact .inl ⟨_, rfl⟩
      · split
        · exact .inr ⟨_, rfl⟩
        · split
          · exact .inl ⟨_, rfl⟩
          · exact .inl ⟨_, rfl⟩
  by_cases hoff : s.clk.phase = .off
  · exact .inl (c.direct_off h p s hoff)
  · cases hlen : c.len p with
    | some off => exact .inr ⟨_, _, c.direct_badLength hoff hlen⟩
    | none =>
      rcases hout with ⟨st, hst⟩ | ⟨off, hbad⟩
      · exact .inr ⟨_, _, c.direct_fail hoff hlen hst⟩
      · exact .inr ⟨_, _, c.direct_bad hoff hlen hbad⟩

/-! ## MOV_ALLOT_SET (R185, R186) -/

/-- The VFs that allotments other than that of USP `u` hold. -/
def State.vfsOfOthers (s : State) (u : Nat) : List Nat := ((s.mov.allot.filter (fun a => a.1 != u)).map Prod.snd).flatten

/-- The VFs that may be allotted to USP `u`. -/
def State.freeVfsFor (s : State) (u : Nat) : List Nat := (List.range 1024).filter (fun g => !(s.vfsOfOthers u).contains g)

/-- As many VFs are free as the other allotments leave of 1,024. -/
theorem State.length_freeVfsFor (s : State) (u : Nat) :
    1024 ≤ (s.freeVfsFor u).length + ((s.mov.allot.filter (fun a => a.1 != u)).map (fun a => a.2.length)).sum := by
  have hothers : (s.vfsOfOthers u).length = ((s.mov.allot.filter (fun a => a.1 != u)).map (fun a => a.2.length)).sum := by
    simp only [State.vfsOfOthers, List.length_flatten, List.map_map, Function.comp_def]
  have htaken : ((List.range 1024).filter (fun g => (s.vfsOfOthers u).contains g)).length ≤ (s.vfsOfOthers u).length :=
    (List.subperm_of_subset (List.nodup_range.filter _) fun g hg => by simpa using (List.mem_filter.1 hg).2).length_le
  have hsplit := List.length_eq_length_filter_add (l := List.range 1024) (fun g => (s.vfsOfOthers u).contains g)
  rw [List.length_range] at hsplit
  rw [← hothers, State.freeVfsFor]
  omega

/-- While VF Enable is set the command fails with CONFLICT. -/
theorem specMovAllotSet_run_enabled {p : Bytes} {s : State} (hon : p8 p 0 ∈ s.mov.vfEnable) (h : Hdr) :
    specMovAllotSet.run h p s = .fail stConflict :=
  if_pos (by simpa using hon)

/-- While VF Enable is 0 and enough VFs are free, the lowest free ones are allotted. -/
theorem specMovAllotSet_run_free {p : Bytes} {s : State} (hoff : p8 p 0 ∉ s.mov.vfEnable) (hfree : p16 p 2 ≤ (s.freeVfsFor (p8 p 0)).length)
    (h : Hdr) :
    specMovAllotSet.run h p s = .done [] (({ s with mov := { s.mov with
      allot := SMap.store s.mov.allot (p8 p 0) ((s.freeVfsFor (p8 p 0)).take (p16 p 2)) [] } }).journal
        (.allot (p8 p 0) ((s.freeVfsFor (p8 p 0)).take (p16 p 2)))) :=
  (if_neg (by simpa using hoff)).trans (if_neg (Nat.not_lt.2 hfree))

end Sys2Proof.Machine

namespace Sys2Proof.Claims

open Sys2Proof.Machine

/-! ## O11, clause by clause -/

section
variable {h : Hdr} {p : Bytes} {s : State}

/-- A MOV_ALLOT_SET that names a USP and at most 1,024 VFs comes to its work. -/
theorem reached_movAllotSet (hop : Operating s) (hpriv : Privileged .admin h s) (hlen : p.length = 4) (husp : s.isUsp (p8 p 0) = true)
    (hn : p16 p 2 ≤ 1024) : Reached specMovAllotSet h p s :=
  reached hop hpriv hlen rfl (by simp [specMovAllotSet, firstBad, need, husp, hn])

/-- R186: an allotment that changes is of a PF whose VF Enable is 0. -/
theorem movAllotSet_changes {t : State} (ht : exec (.movAllotSet h p) s = .next t)
    (hchange : SMap.get t.mov.allot (p8 p 0) [] ≠ SMap.get s.mov.allot (p8 p 0) []) : p8 p 0 ∉ s.mov.vfEnable := by
  intro hon
  have hfail := specMovAllotSet_run_enabled (s := specMovAllotSet.recorded h p s) (by simpa using hon) h
  have hallot : t.mov.allot = s.mov.allot := by
    rcases specMovAllotSet.direct_of_run_fail hfail with hnone | ⟨st, b, hanswer⟩
    · rw [← Host.Outcome.next.inj (hnone.symm.trans ht)]
    · rw [← Host.Outcome.next.inj (hanswer.symm.trans ht), CmdSpec.answered_allot, CmdSpec.recorded_mov]
  exact hchange (by rw [hallot])

/-- R186: while VF Enable is set the command answers CONFLICT. -/
theorem movAllotSet_conflict (hop : Operating s) (hpriv : Privileged .admin h s) (hlen : p.length = 4) (husp : s.isUsp (p8 p 0) = true)
    (hn : p16 p 2 ≤ 1024) (hon : p8 p 0 ∈ s.mov.vfEnable) :
    exec (.movAllotSet h p) s = .next (answered 0xC601 stConflict h s [] (request 0xC601 .admin h p s)) :=
  (reached_movAllotSet hop hpriv hlen husp hn).fails (specMovAllotSet_run_enabled (by simpa using hon) h)

/-- R185: with enough VFs free the PF gets as many as the command names. -/
theorem movAllotSet_allots (hwf : SMap.wf s.mov.allot) (hop : Operating s) (hpriv : Privileged .admin h s) (hlen : p.length = 4)
    (husp : s.isUsp (p8 p 0) = true) (hoff : p8 p 0 ∉ s.mov.vfEnable)
    (hroom : ((s.mov.allot.filter (fun a => a.1 != p8 p 0)).map (fun a => a.2.length)).sum + p16 p 2 ≤ 1024) :
    ∃ t, exec (.movAllotSet h p) s = .next t ∧ (SMap.get t.mov.allot (p8 p 0) []).length = p16 p 2 := by
  have hr := reached_movAllotSet hop hpriv hlen husp (by omega)
  have hfree : p16 p 2 ≤ ((specMovAllotSet.recorded h p s).freeVfsFor (p8 p 0)).length := by
    have hleft := (specMovAllotSet.recorded h p s).length_freeVfsFor (p8 p 0)
    rw [CmdSpec.recorded_mov] at hleft
    omega
  refine ⟨_, hr.done (specMovAllotSet_run_free (by simpa using hoff) hfree h), ?_⟩
  have hread := SMap.get_store_self s.mov.allot (p8 p 0) (((specMovAllotSet.recorded h p s).freeVfsFor (p8 p 0)).take (p16 p 2)) [] hwf
  simp only [CmdSpec.answered_allot, State.journal_mov, CmdSpec.recorded_mov, hread, List.length_take_of_le hfree]

end

/-- Settles O11: the lemmas above, one for each clause. -/
theorem allotmentNeedsVfDisable : Obligations.AllotmentNeedsVfDisable :=
  ⟨fun _ _ _ _ => movAllotSet_changes, fun _ _ _ => movAllotSet_conflict, fun _ _ _ => movAllotSet_allots⟩

end Sys2Proof.Claims

namespace Sys2Proof.Machine

/-! ## Rings and vectors of a function -/

/-- Changing an element is storing its image at its place; a place outside the list changes nothing either way. -/
theorem modify_eq_set_getD {α : Type} (l : List α) (i : Nat) (f : α → α) (d : α) : l.modify i f = l.set i (f (l.getD i d)) := by
  rw [List.modify_eq_set_getElem?, List.getD_eq_getElem?_getD]
  cases h : l[i]? with
  | none => exact (List.set_eq_of_length_le (by simpa using h)).symm
  | some a => rfl

/-- Changing a ring is storing the changed ring. -/
theorem FnSt.modSq_eq (x : FnSt) (r : Nat) (f : Sq → Sq) : x.modSq r f = { x with sqs := x.sqs.set r (f (x.sq r)) } :=
  congrArg (fun l => { x with sqs := l }) (modify_eq_set_getD x.sqs r f Sq.dflt)

/-- A ring that is changed is read back changed. -/
theorem FnSt.sq_modSq_self {x : FnSt} {r : Nat} (hr : r < x.sqs.length) (f : Sq → Sq) : (x.modSq r f).sq r = f (x.sq r) := by
  rw [FnSt.modSq_eq]
  simp [FnSt.sq, List.getD_eq_getElem?_getD, hr]

/-- What every change of a vector keeps of it, a change of one keeps. -/
theorem FnSt.vec_modVec_keeps {β : Type} {g : Vec → β} {f : Vec → Vec} (hf : ∀ w, g (f w) = g w) (x : FnSt) (v j : Nat) :
    g ((x.modVec v f).vec j) = g (x.vec j) := by
  simp only [FnSt.modVec, FnSt.vec, List.getD_eq_getElem?_getD, List.getElem?_modify]
  cases x.vecs[j]? with
  | none => split <;> rfl
  | some w =>
    split
    · exact hf w
    · rfl

/-- A vector that is changed is read back changed. -/
theorem FnSt.vec_modVec_self {x : FnSt} {v : Nat} (hv : v < x.vecs.length) (f : Vec → Vec) : (x.modVec v f).vec v = f (x.vec v) := by
  simp [FnSt.modVec, FnSt.vec, List.getD_eq_getElem?_getD, hv]

/-- Of two changes of a vector that store its events the second one stays. -/
theorem FnSt.modVec_events (x : FnSt) (v n m : Nat) :
    (x.modVec v (fun w => { w with events := n })).modVec v (fun w => { w with events := m }) = x.modVec v (fun w => { w with events := m }) := by
  simp only [FnSt.modVec, List.modify_modify_eq]
  rfl

/-! ## Interrupts (R212, R213) -/

/-- The message of vector `v` of a function. -/
def State.vecMsg (s : State) (k v : Nat) : OutMsg :=
  .msix ((s.fnUsp k).getD 0) (s.fnRid k) ((s.fn k).vec v).addr ((s.fn k).vec v).data

section
variable {s : State} {k v : Nat}

/-- A change of a function that is no part of a migration leaves whether its messages are held. -/
theorem State.fnHolds_setFn (hwf : SMap.wf s.mov.fns) {x : FnSt} (hfreezing : x.freezing = (s.fn k).freezing)
    (hfrozen : x.frozen = (s.fn k).frozen) : (s.setFn k x).fnHolds k = s.fnHolds k := by
  unfold State.fnHolds
  rw [State.fn_setFn_self hwf, hfreezing, hfrozen]
  rfl

/-- What sending a message does: the vector's events are taken, and its pending bit is set or the message goes out. -/
theorem State.sendVec_eq (hwf : SMap.wf s.mov.fns) (k v : Nat) : s.sendVec k v =
    if ((s.fn k).vec v).masked || (s.fn k).funcMask || s.fnHolds k then
      s.setFn k (((s.fn k).modVec v (fun w => { w with events := 0 })).modVec v (fun w => { w with pba := true }))
    else (s.setFn k ((s.fn k).modVec v (fun w => { w with events := 0 }))).emit (s.vecMsg k v) := by
  have hholds : (s.setFn k ((s.fn k).modVec v (fun w => { w with events := 0 }))).fnHolds k = s.fnHolds k :=
    State.fnHolds_setFn hwf rfl rfl
  simp only [State.sendVec, hholds, State.fn_setFn_self hwf, State.setFn_setFn hwf]
  rfl

/-- Everything sending a message can do: it changes the function's vectors, and may send the message. -/
theorem State.sendVec_cases (hwf : SMap.wf s.mov.fns) (k v : Nat) : ∃ vecs, s.sendVec k v = s.setFn k { s.fn k with vecs := vecs } ∨
    s.sendVec k v = (s.setFn k { s.fn k with vecs := vecs }).emit (s.vecMsg k v) := by
  rw [State.sendVec_eq hwf]
  split
  · exact ⟨_, .inl rfl⟩
  · exact ⟨_, .inr rfl⟩

/-- The message of a vector does not depend on how many events are pending. -/
theorem State.vecMsg_events (hwf : SMap.wf s.mov.fns) (n : Nat) :
    (s.setFn k ((s.fn k).modVec v (fun w => { w with events := n }))).vecMsg k v = s.vecMsg k v := by
  have haddr := FnSt.vec_modVec_keeps (g := Vec.addr) (f := fun w => { w with events := n }) (fun _ => rfl) (s.fn k) v v
  have hdata := FnSt.vec_modVec_keeps (g := Vec.data) (f := fun w => { w with events := n }) (fun _ => rfl) (s.fn k) v v
  unfold State.vecMsg
  rw [State.fn_setFn_self hwf, haddr, hdata]
  rfl

/-- Everything an interrupt event can do: it changes the function's vectors, and may send the vector's message. -/
theorem State.vecEvent_cases (hwf : SMap.wf s.mov.fns) (k v : Nat) : ∃ vecs, s.vecEvent k v = s.setFn k { s.fn k with vecs := vecs } ∨
    s.vecEvent k v = (s.setFn k { s.fn k with vecs := vecs }).emit (s.vecMsg k v) := by
  unfold State.vecEvent
  dsimp only
  split
  · obtain ⟨vecs, h⟩ := State.sendVec_cases (State.wf_setFn hwf k ((s.fn k).modVec v (fun w => { w with events := ((s.fn k).vec v).events + 1 }))) k v
    rw [State.vecMsg_events hwf, State.fn_setFn_self hwf, State.setFn_setFn hwf] at h
    exact ⟨vecs, h⟩
  · exact ⟨_, .inl rfl⟩

/-- Without coalescing an event of a vector that is neither masked nor held sends its message at once. -/
theorem State.vecEvent_sends (hwf : SMap.wf s.mov.fns) (hcount : (s.fn k).coalCount ≤ 1) (hvec : ((s.fn k).vec v).masked = false)
    (hfn : (s.fn k).funcMask = false) (hholds : s.fnHolds k = false) :
    s.vecEvent k v = (s.setFn k ((s.fn k).modVec v (fun w => { w with events := 0 }))).emit (s.vecMsg k v) := by
  have hdue : max 1 (s.fn k).coalCount ≤ ((s.fn k).vec v).events + 1 := by omega
  have hmasked := FnSt.vec_modVec_keeps (g := Vec.masked) (f := fun w => { w with events := ((s.fn k).vec v).events + 1 }) (fun _ => rfl)
    (s.fn k) v v
  have hfree := State.fnHolds_setFn (x := (s.fn k).modVec v (fun w => { w with events := ((s.fn k).vec v).events + 1 })) hwf rfl rfl
  have hopen (f : Vec → Vec) : ¬ (((s.fn k).vec v).masked || ((s.fn k).modVec v f).funcMask || s.fnHolds k) = true := by
    simp [FnSt.modVec, hvec, hfn, hholds]
  refine (if_pos hdue).trans ?_
  rw [State.sendVec_eq (State.wf_setFn hwf k _), hfree, State.vecMsg_events hwf, State.fn_setFn_self hwf, hmasked, FnSt.modVec_events,
    if_neg (hopen _), State.setFn_setFn hwf]

end

/-! ## The end of a FREEZE (Table 4-12) -/

section
variable {s : State} {k : Nat}

/-- A function that is not FREEZING has no FREEZE to end. -/
theorem State.freezeEnd_idle (h : (s.fn k).freezing = false) : s.freezeEnd k = s := by
  refine if_neg ?_
  simp [h]

/-- The end of a FREEZE sends nothing. -/
@[simp] theorem State.freezeEnd_out (s : State) (k : Nat) : (s.freezeEnd k).out = s.out := by
  unfold State.freezeEnd
  dsimp only
  split
  · split
    · rfl
    · rfl
  · rfl

/-- Of a function the end of a FREEZE changes its migration state alone. -/
theorem State.fn_freezeEnd_keeps {β : Type} {g : FnSt → β} (hwf : SMap.wf s.mov.fns)
    (hfrozen : ∀ x : FnSt, g { x with freezing := false, frozen := true } = g x)
    (hmig : ∀ x : FnSt, g { x with migBusy := false, migResult := 0 } = g x) (k j : Nat) : g ((s.freezeEnd k).fn j) = g (s.fn j) := by
  have hset : g ((s.setFn k { s.fn k with freezing := false, frozen := true }).fn j) = g (s.fn j) :=
    State.fn_modFn_keeps (f := fun x => { x with freezing := false, frozen := true }) hwf hfrozen k j
  unfold State.freezeEnd
  dsimp only
  split
  · split
    · exact hset
    · refine (State.fn_modFn_keeps (State.wf_setFn hwf k _) (fun x => ?_) _ j).trans hset
      split
      · exact hmig x
      · rfl
  · rfl

end

/-! ## The completion of a descriptor (R207 to R212) -/

/-- `s` without the only context `c`: its reserved completion entry returns to the pool, and it is counted. -/
def State.closed (s : State) (c : Ctx) : State :=
  ({ s with mov := { s.mov with ctxs := [] } }).setFn c.fn
    { s.fn c.fn with cqReserved := (s.fn c.fn).cqReserved - 1, descDone := ((s.fn c.fn).descDone + 1) % 2 ^ 64 }

/-- The status of a descriptor that completes. -/
def Ctx.status (c : Ctx) : Nat := (c.fail.map Prod.snd).getD 0

/-- The record of a descriptor that completes, unless SUPPRESS holds it back (R208). -/
def State.reportRecord (s : State) (c : Ctx) : State :=
  if bitOf (fieldAt c.desc 1 1) 2 ∧ c.status = 0 then s else s.writeRecord c.fn c

/-- The interrupt of a descriptor that completes: INTR asks for it, and an error has one always (R212). -/
def State.interruptFor (s : State) (c : Ctx) : State :=
  if bitOf (fieldAt c.desc 1 1) 0 ∨ c.status ≠ 0 then s.vecEvent c.fn (s.fn c.fn).cqVector else s

section
variable {s : State} {c : Ctx}

/-- What the completion of the only descriptor does. -/
theorem execDescriptorComplete_one (hctx : s.mov.ctxs = [c]) (hdone : s.descDone c = true) (hfn : c.fn ≠ mgmtKey) :
    execDescriptorComplete c.id s = .next ((((s.closed c).reportRecord c).interruptFor c).freezeEnd c.fn) := by
  have hfind : s.ctx? c.id = some c := by simp [State.ctx?, hctx]
  have hrest : s.mov.ctxs.filter (fun x => x.id != c.id) = [] := by simp [hctx]
  simp only [execDescriptorComplete, hfind, hdone, State.modMov, hrest, hfn, Bool.not_true, Bool.false_eq_true, if_false]
  rfl

theorem State.wf_closed (hwf : SMap.wf s.mov.fns) (c : Ctx) : SMap.wf (s.closed c).mov.fns :=
  State.wf_setFn (s := { s with mov := { s.mov with ctxs := [] } }) hwf c.fn _

theorem State.fn_closed (hwf : SMap.wf s.mov.fns) (c : Ctx) : (s.closed c).fn c.fn =
    { s.fn c.fn with cqReserved := (s.fn c.fn).cqReserved - 1, descDone := ((s.fn c.fn).descDone + 1) % 2 ^ 64 } :=
  State.fn_setFn_self (s := { s with mov := { s.mov with ctxs := [] } }) hwf c.fn _

/-- With the link of its USP up a descriptor's record goes to the tail of the completion ring, which advances; PHASE inverts on each
pass (R209, R210). -/
theorem State.writeRecord_closed (hwf : SMap.wf s.mov.fns) {u : Nat} (husp : s.fnUsp c.fn = some u) (hup : (s.port u).up = true) :
    (s.closed c).writeRecord c.fn c = (({ s with mov := { s.mov with ctxs := [] } }).emit
      (.hostWrite u (s.fnRid c.fn) ((s.fn c.fn).cqBase + 32 * (s.fn c.fn).cqTail) (c.record (s.fn c.fn).cqPhase))).setFn c.fn
      { s.fn c.fn with
        cqReserved := (s.fn c.fn).cqReserved - 1, descDone := ((s.fn c.fn).descDone + 1) % 2 ^ 64,
        cqTail := ((s.fn c.fn).cqTail + 1) % 2 ^ (s.fn c.fn).cqLog2,
        cqPhase := if ((s.fn c.fn).cqTail + 1) % 2 ^ (s.fn c.fn).cqLog2 = 0 then !(s.fn c.fn).cqPhase else (s.fn c.fn).cqPhase } := by
  have husp' : (s.closed c).fnUsp c.fn = some u := husp
  have hup' : ((s.closed c).port u).up = true := hup
  unfold State.writeRecord
  rw [husp', State.fn_closed hwf]
  dsimp only [Option.getD_some]
  rw [if_pos hup']
  exact State.setFn_setFn (s := ({ s with mov := { s.mov with ctxs := [] } }).emit
    (.hostWrite u (s.fnRid c.fn) ((s.fn c.fn).cqBase + 32 * (s.fn c.fn).cqTail) (c.record (s.fn c.fn).cqPhase))) hwf c.fn _ _

/-- A descriptor with SUPPRESS that completes with status OK writes no record. -/
theorem State.reportRecord_suppressed (s : State) (hflag : bitOf (fieldAt c.desc 1 1) 2 = true) (hok : c.fail = none) :
    s.reportRecord c = s :=
  if_pos ⟨hflag, by rw [Ctx.status, hok]; rfl⟩

/-- A descriptor without SUPPRESS writes its record. -/
theorem State.reportRecord_unsuppressed (s : State) (hflag : bitOf (fieldAt c.desc 1 1) 2 = false) :
    s.reportRecord c = s.writeRecord c.fn c :=
  if_neg (by simp [hflag])

/-- So does every descriptor that failed. -/
theorem State.reportRecord_failed (s : State) (hfail : c.status ≠ 0) : s.reportRecord c = s.writeRecord c.fn c :=
  if_neg fun h => hfail h.2

/-- A descriptor without INTR that completes with status OK asks for no interrupt. -/
theorem State.interruptFor_silent (s : State) (hflag : bitOf (fieldAt c.desc 1 1) 0 = false) (hok : c.fail = none) : s.interruptFor c = s :=
  if_neg (by simp [hflag, Ctx.status, hok])

/-- Everything the interrupt of a descriptor can do: it changes the function's vectors, and may send a message. -/
theorem State.interruptFor_cases (hwf : SMap.wf s.mov.fns) (c : Ctx) : s.interruptFor c = s ∨ ∃ vecs,
    s.interruptFor c = s.setFn c.fn { s.fn c.fn with vecs := vecs } ∨
    s.interruptFor c = (s.setFn c.fn { s.fn c.fn with vecs := vecs }).emit (s.vecMsg c.fn (s.fn c.fn).cqVector) := by
  unfold State.interruptFor
  split
  · exact .inr (State.vecEvent_cases hwf c.fn _)
  · exact .inl rfl

/-- The interrupt and the end of a FREEZE keep what is no part of the function's vectors and of its migration. -/
theorem State.fn_interruptFor_freezeEnd_keeps {β : Type} {g : FnSt → β} (hwf : SMap.wf s.mov.fns) (c : Ctx)
    (hvecs : ∀ (x : FnSt) vecs, g { x with vecs := vecs } = g x) (hfrozen : ∀ x : FnSt, g { x with freezing := false, frozen := true } = g x)
    (hmig : ∀ x : FnSt, g { x with migBusy := false, migResult := 0 } = g x) :
    g (((s.interruptFor c).freezeEnd c.fn).fn c.fn) = g (s.fn c.fn) := by
  have hset (vecs : List Vec) : g (((s.setFn c.fn { s.fn c.fn with vecs := vecs }).freezeEnd c.fn).fn c.fn) = g (s.fn c.fn) := by
    rw [State.fn_freezeEnd_keeps (State.wf_setFn hwf c.fn _) hfrozen hmig, State.fn_setFn_self hwf, hvecs]
  rcases State.interruptFor_cases hwf c with h | ⟨vecs, h | h⟩ <;> rw [h]
  · exact State.fn_freezeEnd_keeps hwf hfrozen hmig c.fn c.fn
  · exact hset vecs
  · refine (State.fn_freezeEnd_keeps (s := (s.setFn c.fn { s.fn c.fn with vecs := vecs }).emit _) (State.wf_setFn hwf c.fn _) hfrozen hmig
      c.fn c.fn).trans ?_
    exact (congrArg g (State.fn_setFn_self hwf c.fn _)).trans (hvecs _ _)

/-- They send at most an MSI-X message. -/
theorem State.interruptFor_freezeEnd_out (hwf : SMap.wf s.mov.fns) (c : Ctx) : ((s.interruptFor c).freezeEnd c.fn).out = s.out ∨
    ((s.interruptFor c).freezeEnd c.fn).out = s.vecMsg c.fn (s.fn c.fn).cqVector :: s.out := by
  rw [State.freezeEnd_out]
  rcases State.interruptFor_cases hwf c with h | ⟨vecs, h | h⟩ <;> rw [h]
  · exact .inl rfl
  · exact .inl rfl
  · exact .inr rfl

end

end Sys2Proof.Machine

namespace Sys2Proof.Claims

open Sys2Proof.Machine

/-! ## O12, clause by clause -/

section
variable {c : Ctx} {s : State}

/-- R208: a suppressed descriptor that completes with status OK writes nothing; its reserved completion entry returns to the pool. -/
theorem descriptorComplete_suppressed (hwf : SMap.wf s.mov.fns) (hctx : s.mov.ctxs = [c]) (hdone : s.descDone c = true)
    (hfn : c.fn ≠ mgmtKey) (hok : c.fail = none) (hflag : bitOf (fieldAt c.desc 1 1) 2 = true) :
    ∃ t, exec (.descriptorComplete c.id) s = .next t ∧ (∀ u r a b, .hostWrite u r a b ∈ t.out → .hostWrite u r a b ∈ s.out) ∧
      (t.fn c.fn).cqTail = (s.fn c.fn).cqTail ∧ (t.fn c.fn).cqReserved = (s.fn c.fn).cqReserved - 1 := by
  have hclosed := State.wf_closed hwf c
  refine ⟨_, execDescriptorComplete_one hctx hdone hfn, ?_, ?_, ?_⟩ <;> rw [State.reportRecord_suppressed _ hflag hok]
  · intro u r a b hmem
    rcases State.interruptFor_freezeEnd_out hclosed c with hout | hout <;> rw [hout] at hmem
    · exact hmem
    · exact (List.mem_cons.1 hmem).resolve_left nofun
  · rw [State.fn_interruptFor_freezeEnd_keeps (g := FnSt.cqTail) hclosed c (fun _ _ => rfl) (fun _ => rfl) fun _ => rfl, State.fn_closed hwf]
  · rw [State.fn_interruptFor_freezeEnd_keeps (g := FnSt.cqReserved) hclosed c (fun _ _ => rfl) (fun _ => rfl) fun _ => rfl, State.fn_closed hwf]

/-- R208: a descriptor that failed writes its record at the tail of the completion ring. -/
theorem descriptorComplete_failed {u off st : Nat} (hwf : SMap.wf s.mov.fns) (hctx : s.mov.ctxs = [c]) (hdone : s.descDone c = true)
    (hfn : c.fn ≠ mgmtKey) (hfail : c.fail = some (off, st)) (hst : st ≠ 0) (husp : s.fnUsp c.fn = some u) (hup : (s.port u).up = true) :
    ∃ t, exec (.descriptorComplete c.id) s = .next t ∧
      .hostWrite u (s.fnRid c.fn) ((s.fn c.fn).cqBase + 32 * (s.fn c.fn).cqTail) (c.record (s.fn c.fn).cqPhase) ∈ t.out ∧
      (t.fn c.fn).cqTail = ((s.fn c.fn).cqTail + 1) % 2 ^ (s.fn c.fn).cqLog2 := by
  have hstatus : c.status ≠ 0 := by simpa [Ctx.status, hfail] using hst
  have hwritten := State.writeRecord_closed hwf husp hup
  have hrecord : SMap.wf ((s.closed c).writeRecord c.fn c).mov.fns := by
    rw [hwritten]
    exact SMap.wf_store _ _ _ _ hwf
  refine ⟨_, execDescriptorComplete_one hctx hdone hfn, ?_, ?_⟩ <;> rw [State.reportRecord_failed _ hstatus]
  · rcases State.interruptFor_freezeEnd_out hrecord c with hout | hout <;> rw [hout, hwritten]
    · exact List.mem_cons_self
    · exact List.mem_cons_of_mem _ List.mem_cons_self
  · rw [State.fn_interruptFor_freezeEnd_keeps (g := FnSt.cqTail) hrecord c (fun _ _ => rfl) (fun _ => rfl) fun _ => rfl, hwritten]
    exact congrArg FnSt.cqTail (State.fn_setFn_self hwf c.fn _)

end

/-- Settles O12: the lemmas above, one for each clause. -/
theorem suppressedRecords : Obligations.SuppressedRecords :=
  ⟨fun _ _ => descriptorComplete_suppressed, fun _ _ _ _ _ => descriptorComplete_failed⟩

end Sys2Proof.Claims

namespace Sys2Proof.Machine

/-! ## Doorbells and rings (R199 to R203) -/

/-- A tail inside the ring that leaves room for one entry is taken (R200). -/
theorem Sq.doorbell_inside {q : Sq} {v : Nat} (hv : v < q.depth) (hroom : ringDist q.depth q.head q.tail + ringDist q.depth q.tail v < q.depth) :
    q.doorbell v = { q with tail := v } :=
  if_neg (by omega)

/-- One outside the ring sets DB_ERR (R200). -/
theorem Sq.doorbell_outside {q : Sq} {v : Nat} (hv : q.depth ≤ v) : q.doorbell v = { q with dbErr := true } := if_pos (.inl hv)

/-- The head of the completion ring moves inside the ring, at most to the tail (R200). -/
theorem FnSt.cqDoorbell_eq (x : FnSt) (v : Nat) : x.cqDoorbell v =
    if v < 2 ^ x.cqLog2 ∧ ringDist (2 ^ x.cqLog2) x.cqHead v ≤ x.cqUsed then { x with cqHead := v } else { x with cqDbErr := true } := by
  unfold FnSt.cqDoorbell
  split
  · exact (if_neg (by omega)).symm
  · exact (if_pos (by omega)).symm

/-- Writes to a function that is live and has no reset running take effect. -/
theorem State.takesWrites {s : State} {k : Nat} (hlive : s.fnLive k = true) (hflr : (s.fn k).flr = false) :
    (s.fnLive k && !(s.fn k).flr) = true := by
  simp [hlive, hflr]

/-- The rotation serves the ring whose turn it is when that ring has a descriptor (R201). -/
theorem FnSt.fetchRing_next {x : FnSt} {r : Nat} (hturn : x.nextSq = r) (hr : r < 4) (hen : (x.sq r).en = true)
    (hhalted : (x.sq r).halted = false) (hsome : (x.sq r).head ≠ (x.sq r).tail) : x.fetchRing = some r := by
  have hfirst : (x.nextSq + 0) % 4 = r := by omega
  have hrange : (List.range 4).map (fun i => (x.nextSq + i) % 4) = r :: [1, 2, 3].map (fun i => (x.nextSq + i) % 4) :=
    congrArg (· :: _) hfirst
  rw [FnSt.fetchRing, hrange]
  exact List.find?_cons_of_pos (by simp [hen, hhalted, hsome])

/-- A byte string is its own slice. -/
theorem slice_self {b : Bytes} {n : Nat} (h : b.length = n) : slice b 0 n = b := by
  simp [slice, List.take_of_length_le, h]

/-! ## The rings' heads that may open (R206) -/

/-- Where the head of no ring may open, no ring opens one. -/
theorem State.openRing_none {s : State} {k : Nat} (h : ∀ r < 4, ∀ x, ((s.fn k).sq r).fetched.head? = some x → s.mayOpen k r x = false) :
    s.openRing k = none := by
  refine List.foldlRecOn (motive := (· = none)) (List.range 4) _ rfl fun best hbest r hr => ?_
  cases hx : ((s.fn k).sq r).fetched.head? with
  | none => exact hbest
  | some x =>
    have hmay := h r (List.mem_range.1 hr) x hx
    simpa [hmay] using hbest

/-- An ORDERED descriptor behind an open one of its ring may not open, and none behind a FENCE. -/
theorem State.mayOpen_false {s : State} {k r : Nat} {x : Nat × Bytes}
    (h : (dOrdered x.2 = true ∧ ∃ c ∈ s.fnCtxs k, c.sq = r) ∨ ∃ q ∈ s.fences k, q < x.1) : s.mayOpen k r x = false := by
  rcases h with ⟨hordered, c, hc, hsq⟩ | ⟨q, hq, hlt⟩
  · have hopen : (s.fnCtxs k).any (fun c => c.sq == r) = true := List.any_eq_true.2 ⟨c, hc, by simp [hsq]⟩
    simp [State.mayOpen, hordered, hopen]
  · have hfence : (s.fences k).any (fun q => decide (q < x.1)) = true := List.any_eq_true.2 ⟨q, hq, by simp [hlt]⟩
    simp [State.mayOpen, hfence]

/-- No function but the management PF has its key. -/
theorem fnKey_ne_mgmt {f : Fn} (h : f ≠ .mgmtPf) : fnKey f ≠ mgmtKey := by
  cases f with
  | hostPf u => simp only [fnKey, mgmtKey]; omega
  | vf g => simp only [fnKey, mgmtKey]; omega
  | mgmtPf => exact absurd rfl h

/-- The function state once the fetch of ring `r` has failed: the ring is halted, and FETCH_ERR set (R202). -/
def FnSt.fetchFailed (x : FnSt) (r : Nat) : FnSt := x.modSq r (fun q => { q with halted := true, fetchErr := true })

/-- `s` once the fetch of ring `r` of function `k` has failed and the event is recorded (R202). -/
def State.fetchFailed (s : State) (k r : Nat) : State := (s.setFn k ((s.fn k).fetchFailed r)).report 0x0B21 contained 0 (leBytes 2 k)

section
variable {s : State} (hwf : SMap.wf s.mov.fns) (k r : Nat)
include hwf

theorem State.fn_fetchFailed_self : (s.fetchFailed k r).fn k = (s.fn k).fetchFailed r := State.fn_setFn_self (s := s) hwf k ((s.fn k).fetchFailed r)

theorem State.wf_fetchFailed : SMap.wf (s.fetchFailed k r).mov.fns := State.wf_setFn (s := s) hwf k ((s.fn k).fetchFailed r)

/-- The failure of a fetch leaves whether the function's messages are held. -/
theorem State.fnHolds_fetchFailed : (s.fetchFailed k r).fnHolds k = s.fnHolds k :=
  State.fnHolds_setFn (s := s) (x := (s.fn k).fetchFailed r) hwf rfl rfl

/-- It leaves what they say. -/
theorem State.vecMsg_fetchFailed (v : Nat) : (s.fetchFailed k r).vecMsg k v = s.vecMsg k v := by
  unfold State.vecMsg
  rw [State.fn_fetchFailed_self hwf]
  rfl

end

/-- It changes functions and the events that wait. -/
theorem State.fetchFailed_frame (s : State) (k r : Nat) :
    ∃ fns flt, s.fetchFailed k r = { s with mov := { s.mov with fns := fns }, flt := flt } := ⟨_, _, rfl⟩

theorem State.fn_fetchFailed_ne (s : State) {k j : Nat} (r : Nat) (hj : j ≠ k) : (s.fetchFailed k r).fn j = s.fn j :=
  State.fn_setFn_ne (s := s) hj ((s.fn k).fetchFailed r)

/-- The failure of a fetch of a ring that has a descriptor is recorded and sends the error vector's interrupt. -/
theorem execDescriptorFetchError_fails {s : State} {f : Fn} {r : Fin 4} (hwf : SMap.wf s.mov.fns) (hfetches : s.fnFetches (fnKey f) = true)
    (hen : ((s.fn (fnKey f)).sq r.val).en = true) (hhalted : ((s.fn (fnKey f)).sq r.val).halted = false)
    (hsome : ((s.fn (fnKey f)).sq r.val).head ≠ ((s.fn (fnKey f)).sq r.val).tail) :
    execDescriptorFetchError f r s =
      .next ((s.fetchFailed (fnKey f) r.val).vecEvent (fnKey f) (s.fn (fnKey f)).errVector) := by
  have hvector := congrArg FnSt.errVector (State.fn_fetchFailed_self hwf (fnKey f) r.val)
  refine congrArg Host.Outcome.next ((if_pos ?_).trans (congrArg ((s.fetchFailed (fnKey f) r.val).vecEvent (fnKey f)) hvector))
  simp [hfetches, hen, hhalted, hsome]

/-- The function state once the head of ring `r` has opened: it leaves the ring, and an entry of the completion ring is reserved. -/
def FnSt.opened (x : FnSt) (r : Nat) : FnSt :=
  { x.modSq r (fun y => { y with fetched := y.fetched.tail }) with cqReserved := x.cqReserved + 1 }

section
variable {s : State} {f : Fn} {sh : Bool} {e : Nat}

/-- A descriptor opens once a context, an engine and an entry of the completion ring are there for it (R195, R196, R201). -/
theorem execDescriptorOpen_opens {r q : Nat} {d : Bytes} (hf : f ≠ .mgmtPf) (hheld : s.pipeHeld .mover = false)
    (hctx : s.ctxFor (fnKey f) = some sh) (hengine : s.leastLoaded (s.enginesFor (fnKey f)) = some e) (hruns : s.fnRuns (fnKey f) = true)
    (hd3 : s.pfD3 ((s.fnUsp (fnKey f)).getD 0) = false) (hroom : (s.fn (fnKey f)).cqRoom = true)
    (hring : s.openRing (fnKey f) = some (r, q, d)) :
    execDescriptorOpen f s =
      .next ((s.setFn (fnKey f) ((s.fn (fnKey f)).opened r)).openCtx (s.newCtx (fnKey f) r q e d sh)) := by
  simp only [execDescriptorOpen, hheld, hctx, hengine, fnKey_ne_mgmt hf, hruns, hd3, hroom, hring, Bool.not_true, Bool.or_false,
    Bool.false_eq_true, if_false]
  rfl

/-- Without a ring whose head may open nothing opens. -/
theorem execDescriptorOpen_none (hf : f ≠ .mgmtPf) (hring : s.openRing (fnKey f) = none) : execDescriptorOpen f s = .next s := by
  refine congrArg Host.Outcome.next ?_
  dsimp only
  rw [hring]
  split
  · rfl
  · split
    · rw [if_neg (fnKey_ne_mgmt hf), ite_self]
    · rfl

/-- On the management PF the descriptor opens that Acrak has posted for a relocation (R190). -/
theorem execDescriptorOpen_mgmt {d : Bytes} {r : Reloc} (hheld : s.pipeHeld .mover = false) (hctx : s.ctxFor mgmtKey = some sh)
    (hengine : s.leastLoaded (s.enginesFor mgmtKey) = some e) (hsafe : s.moverSafe = false) (hposted : s.mov.pfPend = [(r.slot, d)])
    (hrelocs : s.pol.relocs = [r]) (hslot : dDst d % 2048 = r.slot) (hfree : r.freeAt = none) (hruns : r.aborting = false) :
    execDescriptorOpen .mgmtPf s = .next ((({ s with mov := { s.mov with pfPend := [] } } : State).openCtx
      (s.newCtx mgmtKey 0 r.slot e d sh)).modReloc r.slot (fun x => { x with ctx := some s.mov.nextCtx })) := by
  have hreloc : (s.modMov (fun m => { m with pfPend := [] })).descReloc (s.newCtx mgmtKey 0 r.slot e d sh) = some r := by
    have hdesc : (s.newCtx mgmtKey 0 r.slot e d sh).desc = d := rfl
    simp [State.descReloc, State.modMov, hrelocs, hdesc, hslot, hfree, hruns]
  have hkey : fnKey .mgmtPf = mgmtKey := rfl
  simp only [execDescriptorOpen, hkey, hheld, hctx, hengine, hsafe, hposted, hreloc, Bool.false_eq_true, if_false, if_true]
  rfl

end

end Sys2Proof.Machine

namespace Sys2Proof.Claims

open Sys2Proof.Machine

/-! ## O52, clause by clause -/

section
variable {f : Fn} {r : Fin 4} {s : State}

/-- Storing a function's state changes that function only. -/
theorem setFn_stores (k j : Nat) (x : FnSt) (s : State) (hwf : SMap.wf s.mov.fns) :
    (s.setFn k x).fn k = x ∧ (j ≠ k → (s.setFn k x).fn j = s.fn j) ∧ SMap.wf (s.setFn k x).mov.fns :=
  ⟨State.fn_setFn_self hwf k x, fun hj => State.fn_setFn_ne hj x, State.wf_setFn hwf k x⟩

/-- A change of a ring of a function that takes writes. -/
theorem next_modSq (hlive : s.fnLive (fnKey f) = true) (hflr : (s.fn (fnKey f)).flr = false) {g : Sq → Sq} {q : Sq}
    (hq : g ((s.fn (fnKey f)).sq r.val) = q) :
    Host.Outcome.next (φ := Fault) (ρ := Refusal) (if s.fnLive (fnKey f) && !(s.fn (fnKey f)).flr then
      s.modFn (fnKey f) (fun x => x.modSq r.val g) else s) =
    .next (s.setFn (fnKey f) { s.fn (fnKey f) with sqs := (s.fn (fnKey f)).sqs.set r.val q }) := by
  rw [if_pos (State.takesWrites hlive hflr), State.modFn, FnSt.modSq_eq, hq]

/-- R200: a doorbell inside the ring moves the tail. -/
theorem sqTailDb_moves {tail : BitVec 16} (hlive : s.fnLive (fnKey f) = true) (hflr : (s.fn (fnKey f)).flr = false)
    (htail : tail.toNat < ((s.fn (fnKey f)).sq r.val).depth)
    (hroom : ringDist ((s.fn (fnKey f)).sq r.val).depth ((s.fn (fnKey f)).sq r.val).head ((s.fn (fnKey f)).sq r.val).tail +
      ringDist ((s.fn (fnKey f)).sq r.val).depth ((s.fn (fnKey f)).sq r.val).tail tail.toNat < ((s.fn (fnKey f)).sq r.val).depth) :
    exec (.sqTailDb f r tail) s = .next (s.setFn (fnKey f) { s.fn (fnKey f) with
      sqs := (s.fn (fnKey f)).sqs.set r.val { (s.fn (fnKey f)).sq r.val with tail := tail.toNat } }) :=
  next_modSq hlive hflr (Sq.doorbell_inside htail hroom)

/-- R200: one outside it sets DB_ERR. -/
theorem sqTailDb_refused {tail : BitVec 16} (hlive : s.fnLive (fnKey f) = true) (hflr : (s.fn (fnKey f)).flr = false)
    (htail : ((s.fn (fnKey f)).sq r.val).depth ≤ tail.toNat) :
    exec (.sqTailDb f r tail) s = .next (s.setFn (fnKey f) { s.fn (fnKey f) with
      sqs := (s.fn (fnKey f)).sqs.set r.val { (s.fn (fnKey f)).sq r.val with dbErr := true } }) :=
  next_modSq hlive hflr (Sq.doorbell_outside htail)

/-- R200: a doorbell of the completion ring moves its head, at most to the tail. -/
theorem cqHeadDb_moves {head : BitVec 16} (hlive : s.fnLive (fnKey f) = true) (hflr : (s.fn (fnKey f)).flr = false) :
    exec (.cqHeadDb f head) s = .next (s.setFn (fnKey f)
      (if head.toNat < 2 ^ (s.fn (fnKey f)).cqLog2 ∧
          ringDist (2 ^ (s.fn (fnKey f)).cqLog2) (s.fn (fnKey f)).cqHead head.toNat ≤ (s.fn (fnKey f)).cqUsed
        then { s.fn (fnKey f) with cqHead := head.toNat } else { s.fn (fnKey f) with cqDbErr := true })) := by
  refine congrArg Host.Outcome.next ((if_pos (State.takesWrites hlive hflr)).trans ?_)
  rw [State.modFn, FnSt.cqDoorbell_eq]

/-- R217: while a reset runs a function takes no write of its rings. -/
theorem ringWrites_ignored {v : BitVec 16} {b : Bool} (hflr : (s.fn (fnKey f)).flr = true) :
    exec (.sqTailDb f r v) s = .next s ∧ exec (.cqHeadDb f v) s = .next s ∧ exec (.sqEnableWrite f r b) s = .next s ∧
      exec (.cqEnableWrite f b) s = .next s := by
  have hrefused : ¬ (s.fnLive (fnKey f) && !(s.fn (fnKey f)).flr) = true := by simp [hflr]
  exact ⟨congrArg Host.Outcome.next (if_neg hrefused), congrArg Host.Outcome.next (if_neg hrefused),
    congrArg Host.Outcome.next (if_neg hrefused), congrArg Host.Outcome.next (if_neg hrefused)⟩

/-- R199: a ring that is aligned to its size is enabled from head 0. -/
theorem sqEnableWrite_enables (hlive : s.fnLive (fnKey f) = true) (hflr : (s.fn (fnKey f)).flr = false)
    (hoff : ((s.fn (fnKey f)).sq r.val).en = false) :
    exec (.sqEnableWrite f r true) s = .next (s.setFn (fnKey f) { s.fn (fnKey f) with
      sqs := (s.fn (fnKey f)).sqs.set r.val (if ((s.fn (fnKey f)).sq r.val).base % (64 * ((s.fn (fnKey f)).sq r.val).depth) = 0
        then { (s.fn (fnKey f)).sq r.val with en := true, head := 0, halted := false, fetched := [] } else (s.fn (fnKey f)).sq r.val) }) := by
  refine next_modSq (g := fun q => q.enable true) hlive hflr ?_
  by_cases haligned : ((s.fn (fnKey f)).sq r.val).base % (64 * ((s.fn (fnKey f)).sq r.val).depth) = 0
  · simp [Sq.enable, hoff, haligned]
  · simp [Sq.enable, haligned]

/-- R202, R203: a ring that is disabled discards what it has fetched and not opened. -/
theorem sqEnableWrite_disables (hlive : s.fnLive (fnKey f) = true) (hflr : (s.fn (fnKey f)).flr = false) (hwf : SMap.wf s.mov.fns)
    (hthawed : (s.fn (fnKey f)).freezing = false) :
    exec (.sqEnableWrite f r false) s = .next (s.setFn (fnKey f) { s.fn (fnKey f) with
      sqs := (s.fn (fnKey f)).sqs.set r.val { (s.fn (fnKey f)).sq r.val with en := false, halted := false, fetched := [] } }) := by
  have hidle : ((s.modFn (fnKey f) (fun x => x.modSq r.val (fun q => q.enable false))).fn (fnKey f)).freezing = false := by
    rw [State.fn_modFn_self hwf]
    exact hthawed
  refine congrArg Host.Outcome.next ((if_pos (State.takesWrites hlive hflr)).trans ((State.freezeEnd_idle hidle).trans ?_))
  rw [State.modFn, FnSt.modSq_eq]
  rfl

/-- R199, R210: an aligned completion ring is enabled with PHASE 1. -/
theorem cqEnableWrite_enables (hlive : s.fnLive (fnKey f) = true) (hflr : (s.fn (fnKey f)).flr = false)
    (hoff : (s.fn (fnKey f)).cqEn = false) (haligned : (s.fn (fnKey f)).cqBase % (32 * 2 ^ (s.fn (fnKey f)).cqLog2) = 0) :
    exec (.cqEnableWrite f true) s = .next (s.setFn (fnKey f)
      { s.fn (fnKey f) with cqEn := true, cqPhase := true, cqTail := 0, cqHead := 0 }) :=
  congrArg Host.Outcome.next ((if_pos (State.takesWrites hlive hflr)).trans (if_neg (by simp [hoff, haligned])))

/-- R203: the completion ring is disabled only while nothing of the function is active. -/
theorem cqEnableWrite_disables (hlive : s.fnLive (fnKey f) = true) (hflr : (s.fn (fnKey f)).flr = false) :
    exec (.cqEnableWrite f false) s =
      .next (if s.fnActive (fnKey f) then s else s.setFn (fnKey f) { s.fn (fnKey f) with cqEn := false }) :=
  congrArg Host.Outcome.next (if_pos (State.takesWrites hlive hflr))

/-- R201: a fetch reads the ring whose turn it is; its head moves on. -/
theorem descriptorFetch_fetches {d : Bytes} (hfetches : s.fnFetches (fnKey f) = true) (hturn : (s.fn (fnKey f)).nextSq = r.val)
    (hd : d.length = 64) (hen : ((s.fn (fnKey f)).sq r.val).en = true) (hhalted : ((s.fn (fnKey f)).sq r.val).halted = false)
    (hsome : ((s.fn (fnKey f)).sq r.val).head ≠ ((s.fn (fnKey f)).sq r.val).tail) :
    exec (.descriptorFetch f d) s = .next ((s.emit (.hostRead ((s.fnUsp (fnKey f)).getD 0) (s.fnRid (fnKey f))
      (((s.fn (fnKey f)).sq r.val).base + 64 * ((s.fn (fnKey f)).sq r.val).head) 64 1024)).setFn (fnKey f) { s.fn (fnKey f) with
        sqs := (s.fn (fnKey f)).sqs.set r.val { (s.fn (fnKey f)).sq r.val with
          head := (((s.fn (fnKey f)).sq r.val).head + 1) % ((s.fn (fnKey f)).sq r.val).depth,
          fetched := ((s.fn (fnKey f)).sq r.val).fetched ++ [((s.fn (fnKey f)).nextSeq, d)] },
        nextSq := (r.val + 1) % 4, nextSeq := (s.fn (fnKey f)).nextSeq + 1 }) := by
  have hring := FnSt.fetchRing_next hturn r.isLt hen hhalted hsome
  refine congrArg Host.Outcome.next ((if_neg (by simp [hfetches])).trans ?_)
  simp only [hring, FnSt.modSq_eq, slice_self hd]

/-- R202: a failed fetch halts its ring and sets FETCH_ERR; the event is recorded and the error vector's message sent. -/
theorem descriptorFetchError_halts (hwf : SMap.wf s.mov.fns) (hfetches : s.fnFetches (fnKey f) = true)
    (hr : r.val < (s.fn (fnKey f)).sqs.length) (hen : ((s.fn (fnKey f)).sq r.val).en = true)
    (hhalted : ((s.fn (fnKey f)).sq r.val).halted = false)
    (hsome : ((s.fn (fnKey f)).sq r.val).head ≠ ((s.fn (fnKey f)).sq r.val).tail) (hcount : (s.fn (fnKey f)).coalCount ≤ 1)
    (hvec : ((s.fn (fnKey f)).vec (s.fn (fnKey f)).errVector).masked = false) (hfn : (s.fn (fnKey f)).funcMask = false)
    (hholds : s.fnHolds (fnKey f) = false) :
    ∃ t, exec (.descriptorFetchError f r) s = .next t ∧ t = { s with mov := t.mov, flt := t.flt, out := t.out } ∧
      t.mov = { s.mov with fns := t.mov.fns } ∧
      (t.fn (fnKey f)).sq r.val = { (s.fn (fnKey f)).sq r.val with halted := true, fetchErr := true } ∧
      (∀ j, j ≠ fnKey f → t.fn j = s.fn j) ∧ (∃ e ∈ t.flt.waiting, e.src = 0x0B21 ∧ e.cls = 2) ∧
      t.out = .msix ((s.fnUsp (fnKey f)).getD 0) (s.fnRid (fnKey f)) ((s.fn (fnKey f)).vec (s.fn (fnKey f)).errVector).addr
        ((s.fn (fnKey f)).vec (s.fn (fnKey f)).errVector).data :: s.out := by
  have hwf' := State.wf_fetchFailed hwf (fnKey f) r.val
  have hself := State.fn_fetchFailed_self hwf (fnKey f) r.val
  have hsent := State.vecEvent_sends (v := (s.fn (fnKey f)).errVector) hwf' (by rw [hself]; exact hcount) (by rw [hself]; exact hvec)
    (by rw [hself]; exact hfn) ((State.fnHolds_fetchFailed hwf (fnKey f) r.val).trans hholds)
  obtain ⟨e, he, hsrc, hcls, -⟩ := State.waits_report (s.setFn (fnKey f) ((s.fn (fnKey f)).fetchFailed r.val)) 0x0B21 contained 0
    (leBytes 2 (fnKey f)) []
  refine ⟨_, execDescriptorFetchError_fails hwf hfetches hen hhalted hsome, ?_⟩
  rw [hsent, hself, State.vecMsg_fetchFailed hwf]
  have hring := FnSt.sq_modSq_self hr (fun q => { q with halted := true, fetchErr := true })
  refine ⟨?_, rfl, ?_, ?_, ⟨e, he, hsrc, hcls⟩, rfl⟩
  · obtain ⟨fns, flt, hframe⟩ := s.fetchFailed_frame (fnKey f) r.val
    rw [hframe]
    rfl
  · exact (congrArg (fun x => FnSt.sq x r.val) (State.fn_setFn_self hwf' (fnKey f) _)).trans hring
  · exact fun j hj => (State.fn_setFn_ne hj _).trans (s.fn_fetchFailed_ne r.val hj)

/-- R201: the head of the ring that may open takes a context, an engine and an entry of the completion ring. -/
theorem descriptorOpen_opens {sh : Bool} {e r q : Nat} {d : Bytes} (hwf : SMap.wf s.mov.fns) (hf : f ≠ .mgmtPf)
    (hheld : s.pipeHeld .mover = false) (hctx : s.ctxFor (fnKey f) = some sh)
    (hengine : s.leastLoaded (s.enginesFor (fnKey f)) = some e) (hruns : s.fnRuns (fnKey f) = true)
    (hd3 : s.pfD3 ((s.fnUsp (fnKey f)).getD 0) = false) (hroom : (s.fn (fnKey f)).cqRoom = true)
    (hring : s.openRing (fnKey f) = some (r, q, d)) :
    ∃ t c, exec (.descriptorOpen f) s = .next t ∧ t = { s with mov := t.mov } ∧ t.mov.ctxs = s.mov.ctxs ++ [c] ∧ c.id = s.mov.nextCtx ∧
      c.fn = fnKey f ∧ c.engine = e ∧ c.desc = d ∧ c.sq = r ∧ c.gen = (s.fn (fnKey f)).gen ∧
      (s.descCheck (fnKey f) d = 0 → c.next = 0 ∧ c.fail = none) ∧
      (s.descCheck (fnKey f) d ≠ 0 → c.fail = some (0, s.descCheck (fnKey f) d) ∧ c.chunks = []) ∧
      (t.fn (fnKey f)).cqReserved = (s.fn (fnKey f)).cqReserved + 1 ∧ (∀ j, j ≠ fnKey f → t.fn j = s.fn j) := by
  refine ⟨_, s.newCtx (fnKey f) r q e d sh, execDescriptorOpen_opens hf hheld hctx hengine hruns hd3 hroom hring, rfl, rfl, rfl, rfl, rfl, rfl,
    rfl, rfl, fun hgood => ⟨if_pos hgood, if_pos hgood⟩, fun hbad => ⟨if_neg hbad, rfl⟩, ?_, fun j hj => State.fn_setFn_ne hj _⟩
  exact congrArg FnSt.cqReserved (State.fn_setFn_self hwf (fnKey f) _)

/-- R206: an ORDERED descriptor waits for its ring, and every one for a FENCE before it. -/
theorem descriptorOpen_waits (hf : f ≠ .mgmtPf)
    (h : ∀ r < 4, ∀ x, ((s.fn (fnKey f)).sq r).fetched.head? = some x →
      (dOrdered x.2 = true ∧ ∃ c ∈ s.fnCtxs (fnKey f), c.sq = r) ∨ ∃ q ∈ s.fences (fnKey f), q < x.1) :
    exec (.descriptorOpen f) s = .next s :=
  execDescriptorOpen_none hf (State.openRing_none fun r hr x hx => State.mayOpen_false (h r hr x hx))

/-- R190: the management PF opens what Acrak has posted. -/
theorem descriptorOpen_mgmt {sh : Bool} {e : Nat} {d : Bytes} {r : Reloc} (hheld : s.pipeHeld .mover = false) (hctx : s.ctxFor mgmtKey = some sh)
    (hengine : s.leastLoaded (s.enginesFor mgmtKey) = some e) (hsafe : s.moverSafe = false) (hposted : s.mov.pfPend = [(r.slot, d)])
    (hrelocs : s.pol.relocs = [r]) (hslot : dDst d % 2048 = r.slot) (hfree : r.freeAt = none) (hruns : r.aborting = false) :
    ∃ t c, exec (.descriptorOpen .mgmtPf) s = .next t ∧ t = { s with mov := t.mov, pol := t.pol } ∧ t.mov.pfPend = [] ∧
      t.mov.ctxs = s.mov.ctxs ++ [c] ∧ c.fn = mgmtKey ∧ c.engine = e ∧ c.desc = d ∧ t.pol.relocs = [{ r with ctx := some s.mov.nextCtx }] := by
  refine ⟨_, s.newCtx mgmtKey 0 r.slot e d sh, execDescriptorOpen_mgmt hheld hctx hengine hsafe hposted hrelocs hslot hfree hruns, rfl, rfl,
    rfl, rfl, rfl, rfl, ?_⟩
  simp [State.modReloc, State.openCtx, State.modMov, hrelocs]

end

/-- Settles O52: the lemmas above, one for each clause. -/
theorem moverRings : Obligations.MoverRings :=
  ⟨setFn_stores, fun _ _ _ _ => sqTailDb_moves, fun _ _ _ _ => sqTailDb_refused, fun _ _ _ => cqHeadDb_moves,
    fun _ _ _ _ _ => ringWrites_ignored, fun _ _ _ => sqEnableWrite_enables, fun _ _ _ => sqEnableWrite_disables,
    fun _ _ => cqEnableWrite_enables, fun _ _ => cqEnableWrite_disables, fun _ _ _ _ => descriptorFetch_fetches,
    fun _ _ _ => descriptorFetchError_halts, fun _ _ _ _ _ _ _ => descriptorOpen_opens, fun _ _ => descriptorOpen_waits,
    fun _ _ _ _ _ => descriptorOpen_mgmt⟩

end Sys2Proof.Claims

namespace Sys2Proof.Machine

/-! ## Fields of byte strings -/

/-- A field behind the bytes `a` is one of the bytes that follow. -/
theorem fieldAt_append_right {a : Bytes} {off : Nat} (i : Nat) (h : off = a.length + i) (b : Bytes) (n : Nat) :
    fieldAt (a ++ b) off n = fieldAt b i n := by
  have hdrop : (a ++ b).drop off = b.drop i := by
    rw [h, List.drop_append, List.drop_of_length_le (Nat.le_add_right _ _), List.nil_append, Nat.add_sub_cancel_left]
  rw [fieldAt, fieldAt, slice, slice, hdrop]

/-- A field inside the bytes `a` is one of theirs. -/
theorem fieldAt_append_left {a : Bytes} {off n : Nat} (h : off + n ≤ a.length) (b : Bytes) : fieldAt (a ++ b) off n = fieldAt a off n := by
  have hin : n ≤ (a.drop off).length := by
    rw [List.length_drop]
    omega
  simp only [fieldAt, slice, List.drop_append_of_le_length (show off ≤ a.length by omega), List.take_append_of_le_length hin]

/-- The field at the front. -/
theorem fieldAt_leBytes_zero (n v : Nat) (c : Bytes) : fieldAt (leBytes n v ++ c) 0 n = v % 256 ^ n := fieldAt_leBytes [] c n v

/-- The field that is all there is. -/
theorem fieldAt_leBytes_only (n v : Nat) : fieldAt (leBytes n v) 0 n = v % 256 ^ n := by
  rw [← List.append_nil (leBytes n v), fieldAt_leBytes_zero]

@[simp] theorem length_slice (b : Bytes) (off n : Nat) : (slice b off n).length = n := by
  simp [slice]

/-! ## The completion record (Table 4-6) -/

/-- The bytes of a record, front to back. -/
theorem Ctx.record_eq (c : Ctx) (ph : Bool) : c.record ph =
    slice c.desc 4 4 ++ (leBytes 1 c.status ++ (leBytes 1 (c.sq + 128 * b2n ph) ++ (leBytes 1 c.gen ++ ([0] ++
      (leBytes 8 ((c.fail.map Prod.fst).getD (dBytes c.desc)) ++ (match c.fail with
        | some f => leBytes 8 (dDst c.desc + f.1) ++ leBytes 8 0
        | none => leBytes 16 c.result)))))) := by
  unfold Ctx.record Ctx.status
  cases c.fail with
  | none => simp only [List.append_assoc, Option.map_none, Option.getD_none]
  | some f => simp only [List.append_assoc, Option.map_some, Option.getD_some]

section
variable (c : Ctx) (ph : Bool)

theorem Ctx.length_record : (c.record ph).length = 32 := by
  rw [Ctx.record_eq]
  cases c.fail with
  | none => simp
  | some f => simp

theorem Ctx.record_cookie : slice (c.record ph) 0 4 = slice c.desc 4 4 := by
  have h (b : Bytes) := slice_append [] (slice c.desc 4 4) b
  simp only [List.nil_append, List.length_nil, length_slice] at h
  rw [Ctx.record_eq, h]

theorem Ctx.record_status : fieldAt (c.record ph) 4 1 = c.status % 256 := by
  rw [Ctx.record_eq, fieldAt_append_right 0 (by simp), fieldAt_leBytes_zero, pow_one]

theorem Ctx.record_ring (hsq : c.sq < 4) : fieldAt (c.record ph) 5 1 = c.sq + (if ph then 128 else 0) := by
  rw [Ctx.record_eq, fieldAt_append_right 1 (by simp), fieldAt_append_right 0 (by simp), fieldAt_leBytes_zero]
  cases ph with
  | false => simp [b2n]; omega
  | true => simp [b2n]; omega

theorem Ctx.record_gen : fieldAt (c.record ph) 6 1 = c.gen % 256 := by
  rw [Ctx.record_eq, fieldAt_append_right 2 (by simp), fieldAt_append_right 1 (by simp), fieldAt_append_right 0 (by simp),
    fieldAt_leBytes_zero, pow_one]

theorem Ctx.record_bytes : fieldAt (c.record ph) 8 8 = (c.fail.map Prod.fst).getD (dBytes c.desc) % 2 ^ 64 := by
  rw [Ctx.record_eq, fieldAt_append_right 4 (by simp), fieldAt_append_right 3 (by simp), fieldAt_append_right 2 (by simp),
    fieldAt_append_right 1 (by simp), fieldAt_append_right 0 (by simp), fieldAt_leBytes_zero]
  rfl

theorem Ctx.record_result (hok : c.fail = none) : fieldAt (c.record ph) 16 16 = c.result % 2 ^ 128 := by
  rw [Ctx.record_eq, hok, fieldAt_append_right 12 (by simp), fieldAt_append_right 11 (by simp), fieldAt_append_right 10 (by simp),
    fieldAt_append_right 9 (by simp), fieldAt_append_right 8 (by simp), fieldAt_append_right 0 (by simp)]
  exact fieldAt_leBytes_only 16 c.result

end

/-! ## Pending messages (R213, R214) -/

section
variable {s : State} {k : Nat}

/-- A vector without a pending message has none to send. -/
theorem State.flushVec_idle {v : Nat} (h : ((s.fn k).vec v).pba = false) : s.flushVec k v = s := by
  refine if_neg ?_
  simp [h]

/-- What is pending of a vector that is neither masked nor held is sent. -/
theorem State.flushVec_sends {v : Nat} (hpba : ((s.fn k).vec v).pba = true) (hvec : ((s.fn k).vec v).masked = false)
    (hfn : (s.fn k).funcMask = false) (hholds : s.fnHolds k = false) :
    s.flushVec k v = (s.setFn k ((s.fn k).modVec v (fun w => { w with pba := false }))).emit (s.vecMsg k v) := by
  refine if_pos ?_
  simp [hpba, hvec, hfn, hholds]

/-- A function of which nothing is pending has no message to send. -/
theorem State.flushVecs_idle (h : (s.fn k).vecs.any Vec.pba = false) : s.flushVecs k = s := by
  have hpba (v : Nat) : ((s.fn k).vec v).pba = false := by
    rw [FnSt.vec, List.getD_eq_getElem?_getD]
    cases hv : (s.fn k).vecs[v]? with
    | none => rfl
    | some w => simpa using List.any_eq_false.1 h w (List.mem_of_getElem? hv)
  exact List.foldlRecOn (motive := (· = s)) (List.range (fnVectors k)) _ rfl fun t ht v _ => by
    rw [ht]
    exact State.flushVec_idle (hpba v)

end

/-! ## The only context of the Mover -/

/-- `s` with `c` its only context. -/
def State.withCtx (s : State) (c : Ctx) : State := { s with mov := { s.mov with ctxs := [c] } }

section
variable {s : State} {c : Ctx}

theorem State.withCtx_self (hctx : s.mov.ctxs = [c]) : s.withCtx c = s := by
  unfold State.withCtx
  rw [← hctx]

theorem State.ctx?_withCtx (s : State) (c : Ctx) : (s.withCtx c).ctx? c.id = some c := by
  simp [State.ctx?, State.withCtx]

theorem State.modCtx_withCtx (s : State) (c : Ctx) (f : Ctx → Ctx) : (s.withCtx c).modCtx c.id f = s.withCtx (f c) := by
  simp [State.modCtx, State.modMov, State.withCtx]

/-- The first failure of a descriptor is noted with its chunk's offset (R211). -/
theorem State.failChunk_withCtx (s : State) (hok : c.fail = none) (off st : Nat) :
    (s.withCtx c).failChunk c.id off st = s.withCtx { c with fail := some (off, st) } := by
  rw [State.failChunk, State.modCtx_withCtx, hok]

/-! ## Bytes that are counted (R215) -/

/-- A function that has moved `n` more bytes. -/
def FnSt.count (x : FnSt) (n : Nat) : FnSt := { x with bytesMoved := (x.bytesMoved + n) % 2 ^ 64 }

/-- `n` bytes are counted for function `k`. -/
def State.countedFn (s : State) (k n : Nat) : State :=
  if k = mgmtKey then s.modMov (fun m => { m with mgmtBytes := m.mgmtBytes + n })
  else s.setFn k ((s.fn k).count n)

/-- `n` bytes are counted for function `k` and engine `e`. -/
def State.counted (s : State) (k e n : Nat) : State :=
  (s.countedFn k n).modMov (fun m => { m with engBytes := SMap.put m.engBytes e ((SMap.get m.engBytes e 0 + n) % 2 ^ 64) })

/-- Counting changes the numbers of the functions, of the management PF and of the engines. -/
theorem State.counted_frame (s : State) (k e n : Nat) : ∃ fns mgmtBytes engBytes,
    s.counted k e n = { s with mov := { s.mov with fns := fns, mgmtBytes := mgmtBytes, engBytes := engBytes } } := by
  unfold State.counted State.countedFn
  split
  · exact ⟨s.mov.fns, _, _, rfl⟩
  · exact ⟨_, s.mov.mgmtBytes, _, rfl⟩

/-- A function's bytes. -/
theorem State.fn_counted (hwf : SMap.wf s.mov.fns) {k : Nat} (hk : k ≠ mgmtKey) (e n : Nat) :
    (s.counted k e n).fn k = (s.fn k).count n := by
  unfold State.counted State.countedFn
  rw [if_neg hk]
  exact State.fn_setFn_self (s := s) hwf k ((s.fn k).count n)

/-- An engine's bytes. -/
theorem State.engBytes_counted (s : State) (k e n : Nat) :
    SMap.get (s.counted k e n).mov.engBytes e 0 = (SMap.get s.mov.engBytes e 0 + n) % 2 ^ 64 := by
  have hput (m : SMap Nat) (v : Nat) : SMap.get (SMap.put m e v) e 0 = v := by simp [SMap.get, SMap.find_put]
  unfold State.counted State.countedFn
  split
  · exact hput _ _
  · exact hput _ _

/-- The only context is another matter than the bytes. -/
theorem State.counted_withCtx (s : State) (c : Ctx) (k e n : Nat) : (s.withCtx c).counted k e n = (s.counted k e n).withCtx c := by
  unfold State.counted State.countedFn
  split
  · rfl
  · rfl

/-- The only chunk of a context that has no request outstanding is done: its bytes are counted unless it has failed. -/
theorem State.closeChunks_withCtx (s : State) {o n : Nat} (hchunks : c.chunks = [(o, n)]) (haccs : c.accs = []) (hleg : c.leg = 0) :
    (s.withCtx c).closeChunks c.id = (s.withCtx { c with chunks := [] }).counted c.fn c.engine
      (if c.fail.map Prod.fst = some o then 0 else n) := by
  have hfailed : (c.fail.map (fun f => f.1 == o)).getD false = decide (c.fail.map Prod.fst = some o) := by
    cases c.fail with
    | none => rfl
    | some f => simp [Bool.beq_eq_decide_eq]
  have hbytes : ((([(o, n)] : List (Nat × Nat)).filter (fun x => !(c.fail.map (fun f => f.1 == x.1)).getD false)).map Prod.snd).sum =
      if c.fail.map Prod.fst = some o then 0 else n := by
    by_cases h : c.fail.map Prod.fst = some o
    · simp [hfailed, h]
    · simp [hfailed, h]
  have hbusy (x : Nat × Nat) : c.accs.any (fun a => x.1 ≤ a.off && a.off < x.1 + x.2) = false := by rw [haccs]; rfl
  unfold State.closeChunks
  rw [State.ctx?_withCtx]
  simp only [hchunks, hbusy, Bool.not_false, List.filter_true, List.filter_false, hbytes, State.modCtx_withCtx]
  change ((s.withCtx { c with chunks := [] }).counted c.fn c.engine _).modCtx c.id _ = _
  rw [State.counted_withCtx]
  exact (State.modCtx_withCtx _ { c with chunks := [] } _).trans (congrArg _ (if_neg (by simp [hleg])))

end

end Sys2Proof.Machine

namespace Sys2Proof.Machine

/-! ## What counting leaves -/

section
variable (s : State) (k e n : Nat)

@[simp] theorem State.counted_ctxs : (s.counted k e n).mov.ctxs = s.mov.ctxs := by
  obtain ⟨_, _, _, h⟩ := s.counted_frame k e n
  rw [h]

@[simp] theorem State.counted_rsps : (s.counted k e n).mov.rsps = s.mov.rsps := by
  obtain ⟨_, _, _, h⟩ := s.counted_frame k e n
  rw [h]

@[simp] theorem State.counted_out : (s.counted k e n).out = s.out := by
  obtain ⟨_, _, _, h⟩ := s.counted_frame k e n
  rw [h]

@[simp] theorem State.counted_prt : (s.counted k e n).prt = s.prt := by
  obtain ⟨_, _, _, h⟩ := s.counted_frame k e n
  rw [h]

@[simp] theorem State.counted_flt : (s.counted k e n).flt = s.flt := by
  obtain ⟨_, _, _, h⟩ := s.counted_frame k e n
  rw [h]

end

/-! ## Writes to host memory (R192) -/

/-- Bytes for host memory are one posted write while the link is up. -/
theorem State.moverWrite_host {s : State} {c : Ctx} {u chunk off : Nat} {b : Bytes}
    (hhost : s.resolve c.fn (dDst c.desc + off) b.length = .host) (husp : s.fnUsp c.fn = some u) (hup : (s.port u).up = true) :
    s.moverWrite c chunk off b = s.emit (.hostWrite u (s.fnRid c.fn) (dDst c.desc + off) b) := by
  simp only [State.moverWrite, hhost, husp, Option.getD_some, hup, if_true]

/-! ## Answers to a chunk (R192, Table 4-7) -/

/-- The status of a failed host read (Table 4-7). -/
def failStatus (rsp : ChunkRsp) : Nat := if rsp = .poison then 6 else if rsp = .timeout then 9 else 7

/-- The event of a host read that ends with Unsupported Request or Completer Abort. -/
def State.noteFailure (s : State) (c : Ctx) (rsp : ChunkRsp) : State :=
  if rsp = .hostUr ∨ rsp = .hostCa then s.report 0x0B20 contained 1 (leBytes 2 c.fn) else s

/-- A context that awaits one answer, to a request of its only chunk. -/
structure Ctx.Awaits (c : Ctx) (a : ChAcc) (o n : Nat) : Prop where
  squashed : c.squashed = false
  leg : c.leg = 0
  fail : c.fail = none
  chunks : c.chunks = [(o, n)]
  accs : c.accs = [a]
  low : o ≤ a.off
  high : a.off < o + n
  op : dOp c.desc = 1

section
variable {c : Ctx} {a : ChAcc} {o n : Nat}

/-- The chunk of the answer. -/
theorem Ctx.Awaits.chunkAt (h : c.Awaits a o n) : c.chunkAt a.off = o := by
  simp [Ctx.chunkAt, h.chunks, h.low, h.high]

/-- The data of a host read goes to the destination, and the chunk closes. -/
theorem State.chunkAnswer_data (s : State) (h : c.Awaits a o n) (hread : a.isRead = true) (hhost : a.pool = false) (b : Bytes) :
    (s.withCtx c).chunkAnswer c.id a.key (.data b) =
      ((s.withCtx { c with accs := [] }).moverWrite c o a.off (slice b 0 a.len)).closeChunks c.id := by
  simp [State.chunkAnswer, State.ctx?_withCtx, State.modCtx_withCtx, h.accs, h.chunkAt, h.squashed, h.leg, hread, hhost, delFirst]

/-- A failed host read fails its chunk, which closes. -/
theorem State.chunkAnswer_failed (s : State) (h : c.Awaits a o n) (hread : a.isRead = true) {rsp : ChunkRsp}
    (hrsp : rsp = .poison ∨ rsp = .hostUr ∨ rsp = .hostCa ∨ rsp = .timeout) :
    (s.withCtx c).chunkAnswer c.id a.key rsp =
      (((s.noteFailure c rsp).withCtx { c with accs := [] }).failChunk c.id o (failStatus rsp)).closeChunks c.id := by
  rcases hrsp with rfl | rfl | rfl | rfl <;>
    simp [State.chunkAnswer, State.ctx?_withCtx, State.modCtx_withCtx, h.accs, h.chunkAt, h.squashed, h.leg, h.op, hread, delFirst,
      State.noteFailure, failStatus, rowStatus] <;> rfl

/-- A failed chunk closes without its bytes. -/
theorem State.closeChunks_failed (s : State) (h : c.Awaits a o n) (st : Nat) :
    ((s.withCtx { c with accs := [] }).failChunk c.id o st).closeChunks c.id =
      (s.withCtx { c with accs := [], chunks := [], fail := some (o, st) }).counted c.fn c.engine 0 := by
  have hfail : (s.withCtx { c with accs := [] }).failChunk c.id o st = s.withCtx { c with accs := [], fail := some (o, st) } :=
    State.failChunk_withCtx s (c := { c with accs := [] }) h.fail o st
  rw [hfail]
  exact State.closeChunks_withCtx s (c := { c with accs := [], fail := some (o, st) }) h.chunks rfl h.leg |>.trans
    (congrArg (State.counted _ c.fn c.engine) (if_pos rfl))

/-- A refused row fails the chunk of a pooled access, which closes. -/
theorem State.chunkAnswer_row (s : State) (h : c.Awaits a o n) {w : Bool} (hread : a.isRead = !w) (row : Fin 10) :
    (s.withCtx c).chunkAnswer c.id a.key (.row row w) =
      ((s.withCtx { c with accs := [] }).failChunk c.id o (if w = false ∧ (row.val = 6 ∨ row.val = 8) then 6 else 5)).closeChunks c.id := by
  simp [State.chunkAnswer, State.ctx?_withCtx, State.modCtx_withCtx, h.accs, h.chunkAt, h.squashed, h.leg, h.op, hread, delFirst, rowStatus]

end

end Sys2Proof.Machine

namespace Sys2Proof.Machine

/-! ## The host slot of a read (R193) -/

/-- `s` with the tag slot `x` at `j`, its only one, free of its user. -/
def State.slotFreed (s : State) (j : Nat) (x : TagSlot) : State :=
  { s with prt := { s.prt with ioSlots := SMap.store s.prt.ioSlots j { x with user := none } TagSlot.dflt } }

/-- No slot has a user then. -/
theorem State.slotFreed_unused {s : State} {j : Nat} {x : TagSlot} (hslots : s.prt.ioSlots = [(j, x)]) :
    ∀ y ∈ (s.slotFreed j x).prt.ioSlots, y.2.user = none := by
  intro y hy
  rw [State.slotFreed, hslots, SMap.store] at hy
  split at hy
  · simp [SMap.del] at hy
  · simp [SMap.put] at hy
    rw [hy]

section
variable {s : State} {id addr : Nat} {rsp : ChunkRsp}

/-- The answer to a host access frees its slot. -/
theorem execChunkResponse_host {j : Nat} {x : TagSlot} (hrsps : s.mov.rsps.all (fun y => y.1 != id || y.2.1 != addr) = true)
    (hslots : s.prt.ioSlots = [(j, x)]) (huser : x.user = some (.mover id addr)) :
    execChunkResponse id addr rsp s = .next ((s.slotFreed j x).chunkAnswer id addr rsp) := by
  have hpooled : s.mov.rsps.find? (fun y => y.1 == id && y.2.1 == addr) = none := by
    rw [List.find?_eq_none]
    intro y hy
    simpa [Bool.or_eq_true, imp_iff_not_or] using List.all_eq_true.1 hrsps y hy
  have hslot : s.hostSlot id addr = some (j, x) := by simp [State.hostSlot, hslots, huser]
  simp only [execChunkResponse, hpooled, hslot]
  rfl

/-- The answer to a pooled access is the one its home slice gave. -/
theorem execChunkResponse_pool {given : ChunkRsp} (hrsps : s.mov.rsps = [(id, addr, given)]) :
    execChunkResponse id addr rsp s = .next (({ s with mov := { s.mov with rsps := [] } } : State).chunkAnswer id addr given) := by
  simp [execChunkResponse, hrsps, State.modMov, delFirst]

end

/-! ## The round robin of an engine (R196 to R198) -/

/-- A context that has no more bytes has no chunk ready. -/
theorem State.chunkReady_done (s : State) {c : Ctx} (h : dBytes c.desc ≤ c.next) : s.chunkReady c = false := by
  have hnone : ¬ c.next < dBytes c.desc := Nat.not_lt.2 h
  simp [State.chunkReady, hnone]

/-- A context of a function that has a chunk ready has bytes left, and its function runs. -/
theorem State.chunkReady_fn {s : State} {c : Ctx} (h : s.chunkReady c = true) (hfn : c.fn ≠ mgmtKey) :
    c.fail = none ∧ c.next < dBytes c.desc ∧ s.fnRuns c.fn = true := by
  simp [State.chunkReady, hfn] at h
  tauto

/-- The link of the USP of a function that runs is up; its number is a port's. -/
theorem State.fnRuns_usp {s : State} {k u : Nat} (h : s.fnRuns k = true) (husp : s.fnUsp k = some u) : (s.port u).up = true ∧ u < 64 := by
  simp only [State.fnRuns, State.fnLive, husp, Bool.and_eq_true] at h
  obtain ⟨⟨⟨⟨⟨hlive, -⟩, -⟩, -⟩, hup⟩, -⟩ := h
  simp only [State.isUsp, State.present, Bool.and_eq_true, decide_eq_true_eq] at hlive
  exact ⟨hup, hlive.1.1⟩

/-- The key of a function that has a USP. -/
theorem State.fnUsp_bound {s : State} {k u : Nat} (h : s.fnUsp k = some u) : k < 0x8040 := by
  by_cases hvf : isVf k = true
  · simp only [isVf, decide_eq_true_eq] at hvf
    omega
  · by_contra hk
    simp [State.fnUsp, hvf, hk] at h

/-- The only number of a rotation is the next. -/
theorem nextAfter_one {u cur : Nat} (hu : u ≤ 0x1FFFF) : nextAfter [u] cur = u := by
  by_cases hcur : cur < u
  · simp [nextAfter, hcur, Nat.min_eq_right hu]
  · simp [nextAfter, hcur, Nat.min_eq_right hu]

theorem Mov.wf_setHostCredit {m : Mov} (hwf : SMap.wf m.dh) (e h v : Nat) : SMap.wf (m.setHostCredit e h v).dh := SMap.wf_store _ _ _ _ hwf

theorem Mov.wf_setFnCredit {m : Mov} (hwf : SMap.wf m.df) (e f v : Nat) : SMap.wf (m.setFnCredit e f v).df := SMap.wf_store _ _ _ _ hwf

section
variable {s : State} {e : Nat}

/-- The only host has its turn. -/
theorem State.turnHost_one (hwf : SMap.wf s.mov.dh) {u : Nat} (hu : u < 64) : ∃ dh curHost, SMap.wf dh ∧
    s.turnHost e [u] = (u, { s with mov := { s.mov with dh := dh, curHost := curHost } }) := by
  unfold State.turnHost
  dsimp only
  split
  next hturn =>
    have hserved : SMap.get s.mov.curHost e 0xFF = u := by
      simp only [Bool.and_eq_true, List.contains_iff_mem, List.mem_singleton] at hturn
      exact hturn.1
    exact ⟨s.mov.dh, s.mov.curHost, hwf, by rw [hserved]⟩
  next =>
    rw [nextAfter_one (by omega)]
    split
    · refine ⟨_, _, ?_, rfl⟩
      exact Mov.wf_setHostCredit hwf _ _ _
    · refine ⟨_, _, ?_, rfl⟩
      exact Mov.wf_setHostCredit (Mov.wf_setHostCredit hwf _ _ _) _ _ _

/-- The only function has its turn. -/
theorem State.turnFn_one (hwf : SMap.wf s.mov.df) (h : Nat) {k : Nat} (hk : k ≤ 0x1FFFF) : ∃ df cur, SMap.wf df ∧
    s.turnFn e h [k] = (k, { s with mov := { s.mov with df := df, cur := cur } }) := by
  unfold State.turnFn
  dsimp only
  split
  next hturn =>
    have hserved : SMap.get s.mov.cur (128 * e + h) 0xFFFF = k := by
      simp only [Bool.and_eq_true, List.contains_iff_mem, List.mem_singleton] at hturn
      exact hturn.1
    exact ⟨s.mov.df, s.mov.cur, hwf, by rw [hserved]⟩
  next =>
    rw [nextAfter_one hk]
    split
    · refine ⟨_, _, ?_, rfl⟩
      exact Mov.wf_setFnCredit hwf _ _ _
    · refine ⟨_, _, ?_, rfl⟩
      exact Mov.wf_setFnCredit (Mov.wf_setFnCredit hwf _ _ _) _ _ _

end

/-- `s` after `n` bytes have been charged to host `h` and function `f` on engine `e`. -/
def State.charge (s : State) (e h f n : Nat) : State :=
  s.modMov (fun m => (m.setFnCredit e f (m.fnCredit e f - n)).setHostCredit e h (m.hostCredit e h - n))

/-- A function and a host without a ready chunk lose their credit. -/
def State.dropCredit (s : State) (e h f : Nat) : State :=
  let left := s.readyCtxs e
  let t := if left.any (fun c => c.fn == f) then s else s.modMov (fun m => m.setFnCredit e f 0)
  if left.any (fun c => t.hostOf c.fn == h) then t else t.modMov (fun m => m.setHostCredit e h 0)

/-- Dropping credit changes the credits alone. -/
theorem State.dropCredit_frame (s : State) (e h f : Nat) :
    ∃ dh df, s.dropCredit e h f = { s with mov := { s.mov with dh := dh, df := df } } := by
  unfold State.dropCredit
  dsimp only
  split
  · split
    · exact ⟨s.mov.dh, s.mov.df, rfl⟩
    · exact ⟨(s.mov.setHostCredit e h 0).dh, s.mov.df, rfl⟩
  · split
    · exact ⟨s.mov.dh, (s.mov.setFnCredit e f 0).df, rfl⟩
    · exact ⟨(s.mov.setHostCredit e h 0).dh, (s.mov.setFnCredit e f 0).df, rfl⟩

/-- So does charging before it. -/
theorem State.credit_frame (s : State) (e h f n : Nat) :
    ∃ dh df, (s.charge e h f n).dropCredit e h f = { s with mov := { s.mov with dh := dh, df := df } } := by
  obtain ⟨dh, df, hframe⟩ := (s.charge e h f n).dropCredit_frame e h f
  exact ⟨dh, df, hframe⟩

/-- With no chunk ready on the engine the credits of the host and of the function are 0. -/
theorem State.dropCredit_none {s : State} {e h f : Nat} (hdh : SMap.wf s.mov.dh) (hdf : SMap.wf s.mov.df) (hnone : s.readyCtxs e = []) :
    (s.dropCredit e h f).mov.hostCredit e h = 0 ∧ (s.dropCredit e h f).mov.fnCredit e f = 0 := by
  have heq : s.dropCredit e h f = (s.modMov (fun m => m.setFnCredit e f 0)).modMov (fun m => m.setHostCredit e h 0) := by
    simp [State.dropCredit, hnone]
  rw [heq]
  exact ⟨SMap.get_store_self s.mov.dh (128 * e + h) 0 0 hdh, SMap.get_store_self s.mov.df (65536 * e + f) 0 0 hdf⟩

end Sys2Proof.Machine

namespace Sys2Proof.Machine

/-! ## The chunk of a fill (R197, R198) -/

/-- `s` with other credits and turns of the engines. -/
def State.withTurns (s : State) (dh df cur curHost : SMap Nat) : State :=
  { s with mov := { s.mov with dh := dh, df := df, cur := cur, curHost := curHost } }

section
variable {s : State} {c : Ctx} {u : Nat}

/-- The engine whose only context has a chunk ready issues it, closes what is done and settles the credits. -/
theorem execChunkIssue_one {e : Fin 32} (hdh : SMap.wf s.mov.dh) (hdf : SMap.wf s.mov.df) (hok : s.engineOk e.val = true)
    (hheld : s.pipeHeld .mover = false) (hctx : s.mov.ctxs = [c]) (hengine : c.engine = e.val) (hready : s.chunkReady c = true)
    (hchunks : c.chunks = []) (hfn : c.fn ≠ mgmtKey) (husp : s.fnUsp c.fn = some u) :
    ∃ dh df cur curHost, SMap.wf dh ∧ SMap.wf df ∧ ∀ t n, (s.withTurns dh df cur curHost).issueChunk c = (t, n) →
      execChunkIssue e s = .next (((t.closeChunks c.id).charge e.val u c.fn n).dropCredit e.val u c.fn) := by
  obtain ⟨-, -, hruns⟩ := State.chunkReady_fn hready hfn
  have hu := (State.fnRuns_usp hruns husp).2
  have hk := State.fnUsp_bound husp
  have hrs : s.readyCtxs e.val = [c] := by simp [State.readyCtxs, hctx, hengine, hready]
  have hflight : s.inFlight e.val = 0 := by simp [State.inFlight, hctx, hengine, hchunks]
  have hhost : s.hostOf c.fn = u := by simp [State.hostOf, hfn, husp]
  obtain ⟨dh, curHost, hdh', hturn⟩ := State.turnHost_one (e := e.val) hdh hu
  obtain ⟨df, cur, hdf', hturnFn⟩ :=
    State.turnFn_one (s := { s with mov := { s.mov with dh := dh, curHost := curHost } }) (e := e.val) hdf u (k := c.fn) (by omega)
  refine ⟨dh, df, cur, curHost, hdh', hdf', fun t n hissue => congrArg Host.Outcome.next ?_⟩
  have hissue' : ({ s with mov := { s.mov with dh := dh, curHost := curHost, df := df, cur := cur } } : State).issueChunk c = (t, n) := hissue
  have hhosts : [s.hostOf c.fn].dedup = [u] := by simp [hhost]
  have hfns : ((List.filter (fun x => s.hostOf x.fn == u) [c]).map Ctx.fn).dedup = [c.fn] := by simp [hhost]
  refine (if_neg (by simp [hrs, hok, hflight, hheld])).trans ?_
  simp only [hrs, List.map_cons, List.map_nil, hhosts, hturn, hfns, hturnFn, List.find?_cons, beq_self_eq_true, hissue']
  rfl

/-- A fill moves its LENGTH. -/
theorem dBytes_fill {d : Bytes} (hop : dOp d = 2) : dBytes d = dLen d := by
  simp [dBytes, hop]

/-- A fill chunk of host memory ends at the 4 KiB boundary of its destination and is one posted write of the pattern. -/
theorem State.issueChunk_fill {n : Nat} (hop : dOp c.desc = 2)
    (hn : n = min (dLen c.desc - c.next) (4096 - (dDst c.desc + c.next) % 4096)) (hhost : s.resolve c.fn (dDst c.desc + c.next) n = .host)
    (husp : s.fnUsp c.fn = some u) (hup : (s.port u).up = true) :
    (s.withCtx c).issueChunk c = ((s.withCtx { c with next := c.next + n, chunks := c.chunks ++ [(c.next, n)] }).emit
      (.hostWrite u (s.fnRid c.fn) (dDst c.desc + c.next) (fillBytes c.desc c.next n)), n) := by
  have hlength : (fillBytes c.desc c.next n).length = n := by simp [fillBytes]
  have hwrite (d : Ctx) : (s.withCtx d).moverWrite c c.next c.next (fillBytes c.desc c.next n) = (s.withCtx d).emit
      (.hostWrite u (s.fnRid c.fn) (dDst c.desc + c.next) (fillBytes c.desc c.next n)) :=
    State.moverWrite_host (s := s.withCtx d) (by rw [hlength]; exact hhost) husp hup
  have hfill : ¬ dOp c.desc = 5 := by simp [hop]
  simp only [State.issueChunk, dBytes_fill hop, if_neg hfill, ← hn, State.modCtx_withCtx]
  rw [hop]
  exact congrArg (·, n) (hwrite _)

/-- `s` after a fill chunk of `n` bytes of its only context `c` has been written to host memory and counted. -/
def State.filled (s : State) (c : Ctx) (u n : Nat) : State :=
  ((s.emit (.hostWrite u (s.fnRid c.fn) (dDst c.desc + c.next) (fillBytes c.desc c.next n))).withCtx { c with next := c.next + n }).counted
    c.fn c.engine n

/-- A fill chunk of host memory has no answer to await: it closes at once. -/
theorem State.issueChunk_fill_closes {n : Nat} (hop : dOp c.desc = 2)
    (hn : n = min (dLen c.desc - c.next) (4096 - (dDst c.desc + c.next) % 4096)) (hhost : s.resolve c.fn (dDst c.desc + c.next) n = .host)
    (husp : s.fnUsp c.fn = some u) (hup : (s.port u).up = true) (hchunks : c.chunks = []) (haccs : c.accs = []) (hleg : c.leg = 0)
    (hok : c.fail = none) : ∃ t, (s.withCtx c).issueChunk c = (t, n) ∧ t.closeChunks c.id = s.filled c u n := by
  refine ⟨_, State.issueChunk_fill hop hn hhost husp hup, ?_⟩
  have hone : c.chunks ++ [(c.next, n)] = [(c.next, n)] := by rw [hchunks, List.nil_append]
  have hempty : ({ c with next := c.next + n, chunks := [] } : Ctx) = { c with next := c.next + n } := by rw [← hchunks]
  refine (State.closeChunks_withCtx (s.emit (.hostWrite u (s.fnRid c.fn) (dDst c.desc + c.next) (fillBytes c.desc c.next n)))
    (c := { c with next := c.next + n, chunks := c.chunks ++ [(c.next, n)] }) hone haccs hleg).trans ?_
  have hcount : (if c.fail.map Prod.fst = some c.next then 0 else n) = n := if_neg (by simp [hok])
  rw [State.filled, ← hempty]
  exact congrArg (State.counted _ c.fn c.engine) hcount

/-- What it changes: what has been sent, and of the Mover the context and the numbers. -/
theorem State.filled_frame (s : State) (c : Ctx) (u n : Nat) : ∃ fns mgmtBytes engBytes, s.filled c u n =
    { s with
      out := .hostWrite u (s.fnRid c.fn) (dDst c.desc + c.next) (fillBytes c.desc c.next n) :: s.out
      mov := { s.mov with ctxs := [{ c with next := c.next + n }], fns := fns, mgmtBytes := mgmtBytes, engBytes := engBytes } } := by
  obtain ⟨fns, mgmt, eng, hframe⟩ := State.counted_frame ((s.emit (.hostWrite u (s.fnRid c.fn) (dDst c.desc + c.next)
    (fillBytes c.desc c.next n))).withCtx { c with next := c.next + n }) c.fn c.engine n
  exact ⟨fns, mgmt, eng, hframe⟩

end

end Sys2Proof.Machine

namespace Sys2Proof.Claims

open Sys2Proof.Machine

/-! ## O53, clause by clause -/

section
variable {s : State} {c : Ctx} {u : Nat}

/-- R197, R198: a fill chunk of host memory is one posted write; its bytes are counted, and a function that is done loses its credit. -/
theorem chunkIssue_fills {e : Fin 32} {n : Nat} (hwf : SMap.wf s.mov.fns) (hdh : SMap.wf s.mov.dh)
    (hdf : SMap.wf s.mov.df) (hok : s.engineOk e.val = true) (hheld : s.pipeHeld .mover = false) (hctx : s.mov.ctxs = [c])
    (hengine : c.engine = e.val) (hready : s.chunkReady c = true) (hchunks : c.chunks = []) (haccs : c.accs = []) (hleg : c.leg = 0)
    (hfn : c.fn ≠ mgmtKey) (husp : s.fnUsp c.fn = some u) (hop : dOp c.desc = 2)
    (hn : n = min (dLen c.desc - c.next) (4096 - (dDst c.desc + c.next) % 4096)) (hhost : s.resolve c.fn (dDst c.desc + c.next) n = .host) :
    ∃ t, exec (.chunkIssue e) s = .next t ∧ t = { s with mov := t.mov, out := t.out } ∧
      t.out = .hostWrite u (s.fnRid c.fn) (dDst c.desc + c.next) (fillBytes c.desc c.next n) :: s.out ∧
      t.mov.ctxs = [{ c with next := c.next + n }] ∧
      t.fn c.fn = { s.fn c.fn with bytesMoved := ((s.fn c.fn).bytesMoved + n) % 2 ^ 64 } ∧
      SMap.get t.mov.engBytes e.val 0 = (SMap.get s.mov.engBytes e.val 0 + n) % 2 ^ 64 ∧
      (c.next + n = dLen c.desc → t.mov.hostCredit e.val u = 0 ∧ t.mov.fnCredit e.val c.fn = 0) := by
  obtain ⟨hfail, -, hruns⟩ := State.chunkReady_fn hready hfn
  obtain ⟨dh, df, cur, curHost, hdh', hdf', hexec⟩ :=
    execChunkIssue_one hdh hdf hok hheld hctx hengine hready hchunks hfn husp
  have hself : (s.withTurns dh df cur curHost).withCtx c = s.withTurns dh df cur curHost := State.withCtx_self hctx
  obtain ⟨t, hissue, hclose⟩ := State.issueChunk_fill_closes (s := s.withTurns dh df cur curHost) hop hn hhost husp
    (State.fnRuns_usp hruns husp).1 hchunks haccs hleg hfail
  rw [hself] at hissue
  have hnext := hexec t n hissue
  rw [hclose] at hnext
  obtain ⟨fns, mgmt, eng, hfilled⟩ := State.filled_frame (s.withTurns dh df cur curHost) c u n
  obtain ⟨dh', df', hcredit⟩ := State.credit_frame ((s.withTurns dh df cur curHost).filled c u n) e.val u c.fn n
  have hfns : (((s.withTurns dh df cur curHost).filled c u n).fn c.fn) = (s.fn c.fn).count n :=
    State.fn_counted (s := ((s.withTurns dh df cur curHost).emit _).withCtx _) hwf hfn c.engine n
  have heng : SMap.get ((s.withTurns dh df cur curHost).filled c u n).mov.engBytes c.engine 0 =
      (SMap.get s.mov.engBytes c.engine 0 + n) % 2 ^ 64 := State.engBytes_counted (((s.withTurns dh df cur curHost).emit _).withCtx _) c.fn c.engine n
  refine ⟨_, hnext, ?_, ?_, ?_, ?_, ?_, fun hend => State.dropCredit_none ?_ ?_ ?_⟩
  · rw [hcredit, hfilled]
    rfl
  · rw [hcredit, hfilled]
    rfl
  · rw [hcredit, hfilled]
  · rw [hcredit]
    exact hfns
  · rw [hcredit, ← hengine]
    exact heng
  · refine Mov.wf_setHostCredit (Eq.subst (motive := SMap.wf) ?_ hdh') e.val u _
    rw [hfilled]
    rfl
  · refine Mov.wf_setFnCredit (Eq.subst (motive := SMap.wf) ?_ hdf') e.val c.fn _
    rw [hfilled]
    rfl
  · refine List.filter_eq_nil_iff.2 fun d hd => ?_
    have hone : d = { c with next := c.next + n } := by
      rw [State.charge, State.modMov, hfilled] at hd
      exact List.mem_singleton.1 hd
    rw [hone, State.chunkReady_done _ (by rw [dBytes_fill hop]; exact hend.ge), Bool.and_false]
    exact Bool.false_ne_true

/-- R196: a failed engine, and one with 16 chunks in flight, issues none. -/
theorem chunkIssue_none {e : Fin 32} (h : s.engineOk e.val = false ∨ 16 ≤ s.inFlight e.val) : exec (.chunkIssue e) s = .next s := by
  refine congrArg Host.Outcome.next (if_pos ?_)
  rcases h with hfailed | hfull
  · exact .inr (.inl (by simp [hfailed]))
  · exact .inr (.inr (.inl hfull))

/-- R192: the data that a host read returns is written to the destination. -/
theorem chunkResponse_writes {id addr j o n : Nat} {b : Bytes} {x : TagSlot} {a : ChAcc} (hwf : SMap.wf s.mov.fns)
    (hrsps : s.mov.rsps.all (fun y => y.1 != id || y.2.1 != addr) = true) (hslots : s.prt.ioSlots = [(j, x)])
    (huser : x.user = some (.mover id addr)) (hctx : s.mov.ctxs = [c]) (hid : c.id = id) (hfn : c.fn ≠ mgmtKey)
    (husp : s.fnUsp c.fn = some u) (hkey : a.key = addr) (hawaits : c.Awaits a o n) (hread : a.isRead = true) (hpool : a.pool = false)
    (hup : (s.port u).up = true) (hhost : s.resolve c.fn (dDst c.desc + a.off) a.len = .host) :
    ∃ t, exec (.chunkResponse id addr (.data b)) s = .next t ∧ t = { s with mov := t.mov, prt := t.prt, out := t.out } ∧
      t.out = .hostWrite u (s.fnRid c.fn) (dDst c.desc + a.off) (slice b 0 a.len) :: s.out ∧
      t.mov.ctxs = [{ c with accs := [], chunks := [] }] ∧ (∀ y ∈ t.prt.ioSlots, y.2.user = none) ∧
      t.fn c.fn = { s.fn c.fn with bytesMoved := ((s.fn c.fn).bytesMoved + n) % 2 ^ 64 } := by
  subst hid hkey
  have hanswer : (s.slotFreed j x).chunkAnswer c.id a.key (.data b) = (((s.slotFreed j x).emit
      (.hostWrite u (s.fnRid c.fn) (dDst c.desc + a.off) (slice b 0 a.len))).withCtx { c with accs := [], chunks := [] }).counted
      c.fn c.engine n := by
    have hwrite : ((s.slotFreed j x).withCtx { c with accs := [] }).moverWrite c o a.off (slice b 0 a.len) =
        ((s.slotFreed j x).emit (.hostWrite u (s.fnRid c.fn) (dDst c.desc + a.off) (slice b 0 a.len))).withCtx { c with accs := [] } :=
      State.moverWrite_host (s := (s.slotFreed j x).withCtx { c with accs := [] }) (by rw [length_slice]; exact hhost) husp hup
    rw [← State.withCtx_self (s := s.slotFreed j x) hctx, State.chunkAnswer_data _ hawaits hread hpool, hwrite]
    refine (State.closeChunks_withCtx _ (c := { c with accs := [] }) hawaits.chunks rfl hawaits.leg).trans ?_
    rw [hawaits.fail]
    rfl
  refine ⟨_, (execChunkResponse_host hrsps hslots huser).trans (congrArg Host.Outcome.next hanswer), ?_, ?_, ?_, ?_, ?_⟩
  · obtain ⟨fns, mgmt, eng, hframe⟩ := State.counted_frame (((s.slotFreed j x).emit
      (.hostWrite u (s.fnRid c.fn) (dDst c.desc + a.off) (slice b 0 a.len))).withCtx { c with accs := [], chunks := [] }) c.fn c.engine n
    rw [hframe]
    rfl
  · rw [State.counted_out]
    rfl
  · rw [State.counted_ctxs]
    rfl
  · rw [State.counted_prt]
    exact State.slotFreed_unused hslots
  · exact State.fn_counted (s := ((s.slotFreed j x).emit _).withCtx _) hwf hfn c.engine n

end

end Sys2Proof.Claims

namespace Sys2Proof.Machine

/-! ## What noting a failed host read leaves -/

/-- A failed host read changes the waiting events alone. -/
theorem State.noteFailure_frame (s : State) (c : Ctx) (rsp : ChunkRsp) : ∃ flt, s.noteFailure c rsp = { s with flt := flt } := by
  unfold State.noteFailure
  split
  · exact ⟨_, rfl⟩
  · exact ⟨s.flt, rfl⟩

/-! ## The written record of a descriptor -/

/-- A function whose next completion record has been written: the tail advances, and PHASE inverts on each pass (R209, R210). -/
def FnSt.recordWritten (x : FnSt) : FnSt :=
  { x with
    cqReserved := x.cqReserved - 1, descDone := (x.descDone + 1) % 2 ^ 64,
    cqTail := (x.cqTail + 1) % 2 ^ x.cqLog2,
    cqPhase := if (x.cqTail + 1) % 2 ^ x.cqLog2 = 0 then !x.cqPhase else x.cqPhase }

/-- `s` without its only context `c`, after the record of `c` has gone out on port `u`. -/
def State.recordSent (s : State) (c : Ctx) (u : Nat) : State :=
  ({ s with mov := { s.mov with ctxs := [] } }).emit
    (.hostWrite u (s.fnRid c.fn) ((s.fn c.fn).cqBase + 32 * (s.fn c.fn).cqTail) (c.record (s.fn c.fn).cqPhase))

/-- A descriptor whose record has been written completes with its interrupt. -/
theorem execDescriptorComplete_writes {s : State} {c : Ctx} {u : Nat} (hwf : SMap.wf s.mov.fns) (hctx : s.mov.ctxs = [c])
    (hdone : s.descDone c = true) (hfn : c.fn ≠ mgmtKey) (husp : s.fnUsp c.fn = some u) (hup : (s.port u).up = true)
    (hsuppress : bitOf (fieldAt c.desc 1 1) 2 = false) :
    execDescriptorComplete c.id s =
      .next ((((s.recordSent c u).setFn c.fn (s.fn c.fn).recordWritten).interruptFor c).freezeEnd c.fn) := by
  rw [execDescriptorComplete_one hctx hdone hfn, State.reportRecord_unsuppressed _ hsuppress, State.writeRecord_closed hwf husp hup]
  rfl

/-- The interrupt of a descriptor with INTR goes out when its vector is neither coalesced nor masked nor held. -/
theorem State.interruptFor_sends {s : State} {c : Ctx} (hwf : SMap.wf s.mov.fns) (hintr : bitOf (fieldAt c.desc 1 1) 0 = true)
    (hcount : (s.fn c.fn).coalCount ≤ 1) (hvec : ((s.fn c.fn).vec (s.fn c.fn).cqVector).masked = false)
    (hmask : (s.fn c.fn).funcMask = false) (hholds : s.fnHolds c.fn = false) (hfreezing : (s.fn c.fn).freezing = false) :
    (s.interruptFor c).freezeEnd c.fn = (s.setFn c.fn ((s.fn c.fn).modVec (s.fn c.fn).cqVector (fun w => { w with events := 0 }))).emit
      (s.vecMsg c.fn (s.fn c.fn).cqVector) := by
  have hsent : s.interruptFor c = s.vecEvent c.fn (s.fn c.fn).cqVector := if_pos (.inl hintr)
  rw [hsent, State.vecEvent_sends hwf hcount hvec hmask hholds]
  exact State.freezeEnd_idle ((congrArg FnSt.freezing (State.fn_setFn_self hwf c.fn _)).trans hfreezing)

/-- The message of a vector of a function that is stored. -/
theorem State.vecMsg_setFn {s : State} (hwf : SMap.wf s.mov.fns) (k v : Nat) (x : FnSt) :
    (s.setFn k x).vecMsg k v = .msix ((s.fnUsp k).getD 0) (s.fnRid k) (x.vec v).addr (x.vec v).data := by
  rw [State.vecMsg, State.fn_setFn_self hwf]
  rfl

/-! ## Unmasking -/

/-- A function of which vector `v` is unmasked. -/
def FnSt.unmasked (x : FnSt) (v : Nat) : FnSt := x.modVec v (fun w => { w with masked := false })

/-- A vector that is unmasked and has sent what was pending. -/
theorem FnSt.vec_unmasked_sent {x : FnSt} {v : Nat} (hv : v < x.vecs.length) :
    ((x.unmasked v).modVec v (fun w => { w with pba := false })).vec v = { x.vec v with masked := false, pba := false } := by
  have hv' : v < (x.unmasked v).vecs.length := by simpa [FnSt.unmasked, FnSt.modVec] using hv
  rw [FnSt.vec_modVec_self hv', FnSt.unmasked, FnSt.vec_modVec_self hv]

end Sys2Proof.Machine

namespace Sys2Proof.Claims

open Sys2Proof.Machine

section
variable {s : State} {c : Ctx}

/-- Table 4-7: a failed host read fails its chunk with its status; Unsupported Request and Completer Abort are reported. -/
theorem chunkResponse_fails {id addr j o n : Nat} {rsp : ChunkRsp} {x : TagSlot} {a : ChAcc} (hwf : SMap.wf s.mov.fns)
    (hrsps : s.mov.rsps.all (fun y => y.1 != id || y.2.1 != addr) = true) (hslots : s.prt.ioSlots = [(j, x)])
    (huser : x.user = some (.mover id addr)) (hctx : s.mov.ctxs = [c]) (hid : c.id = id) (hfn : c.fn ≠ mgmtKey) (hkey : a.key = addr)
    (hawaits : c.Awaits a o n) (hread : a.isRead = true) (hrsp : rsp = .poison ∨ rsp = .hostUr ∨ rsp = .hostCa ∨ rsp = .timeout) :
    ∃ t, exec (.chunkResponse id addr rsp) s = .next t ∧ t = { s with mov := t.mov, prt := t.prt, flt := t.flt } ∧
      t.mov.ctxs = [{ c with accs := [], chunks := [], fail := some (o, if rsp = .poison then 6 else if rsp = .timeout then 9 else 7) }] ∧
      (rsp = .hostUr ∨ rsp = .hostCa → ∃ e ∈ t.flt.waiting, e.src = 0x0B20 ∧ e.cls = 2) ∧
      (t.fn c.fn).bytesMoved = (s.fn c.fn).bytesMoved % 2 ^ 64 := by
  subst hid hkey
  have hanswer : (s.slotFreed j x).chunkAnswer c.id a.key rsp = (((s.slotFreed j x).noteFailure c rsp).withCtx
      { c with accs := [], chunks := [], fail := some (o, failStatus rsp) }).counted c.fn c.engine 0 := by
    have hfailed := State.chunkAnswer_failed (s.slotFreed j x) hawaits hread hrsp
    rwa [State.closeChunks_failed _ hawaits, State.withCtx_self (s := s.slotFreed j x) hctx] at hfailed
  obtain ⟨flt, hnoted⟩ := State.noteFailure_frame (s.slotFreed j x) c rsp
  refine ⟨_, (execChunkResponse_host hrsps hslots huser).trans (congrArg Host.Outcome.next hanswer), ?_, ?_, fun habort => ?_, ?_⟩
  · rw [hnoted]
    obtain ⟨fns, mgmt, eng, hframe⟩ := State.counted_frame (({ s.slotFreed j x with flt := flt } : State).withCtx
      { c with accs := [], chunks := [], fail := some (o, failStatus rsp) }) c.fn c.engine 0
    rw [hframe]
    rfl
  · rw [State.counted_ctxs]
    rfl
  · rw [State.counted_flt]
    obtain ⟨e, he, hsrc, hcls, -⟩ := State.waits_report (s.slotFreed j x) 0x0B20 contained 1 (leBytes 2 c.fn) []
    rw [State.withCtx, State.noteFailure, if_pos habort]
    exact ⟨e, he, hsrc, hcls⟩
  · rw [hnoted]
    exact congrArg FnSt.bytesMoved (State.fn_counted (s := (({ s.slotFreed j x with flt := flt } : State).withCtx _)) hwf hfn c.engine 0)

/-- R192, R198: a refused row fails the chunk of a pooled access with SRC_POISON or POOL_REFUSED. -/
theorem chunkResponse_row {id addr o n : Nat} {row : Fin 10} {w : Bool} {rsp : ChunkRsp} {a : ChAcc}
    (hrsps : s.mov.rsps = [(id, addr, .row row w)]) (hctx : s.mov.ctxs = [c]) (hid : c.id = id) (hkey : a.key = addr)
    (hawaits : c.Awaits a o n) (hread : a.isRead = !w) :
    ∃ t, exec (.chunkResponse id addr rsp) s = .next t ∧ t = { s with mov := t.mov } ∧ t.mov.rsps = [] ∧
      t.mov.ctxs = [{ c with
        accs := [], chunks := [], fail := some (o, if w = false ∧ (row.val = 6 ∨ row.val = 8) then 6 else 5) }] := by
  subst hid hkey
  have hanswer := State.chunkAnswer_row { s with mov := { s.mov with rsps := [] } } hawaits hread row
  rw [State.closeChunks_failed _ hawaits, State.withCtx_self (s := { s with mov := { s.mov with rsps := [] } }) hctx] at hanswer
  refine ⟨_, (execChunkResponse_pool hrsps).trans (congrArg Host.Outcome.next hanswer), ?_, ?_, ?_⟩
  · obtain ⟨fns, mgmt, eng, hframe⟩ := State.counted_frame (({ s with mov := { s.mov with rsps := [] } } : State).withCtx
      { c with accs := [], chunks := [], fail := some (o, if w = false ∧ (row.val = 6 ∨ row.val = 8) then 6 else 5) }) c.fn c.engine 0
    rw [hframe]
    rfl
  · rw [State.counted_rsps]
    rfl
  · rw [State.counted_ctxs]
    rfl

/-- Table 4-6: the fields of a completion record. -/
theorem record_fields (ph : Bool) (hsq : c.sq < 4) (hbytes : dBytes c.desc < 2 ^ 64) :
    (c.record ph).length = 32 ∧ slice (c.record ph) 0 4 = slice c.desc 4 4 ∧ fieldAt (c.record ph) 5 1 = c.sq + (if ph then 128 else 0) ∧
      fieldAt (c.record ph) 6 1 = c.gen % 256 ∧
      (c.fail = none → fieldAt (c.record ph) 4 1 = 0 ∧ fieldAt (c.record ph) 8 8 = dBytes c.desc ∧
        fieldAt (c.record ph) 16 16 = c.result % 2 ^ 128) ∧
      (∀ off st, c.fail = some (off, st) → fieldAt (c.record ph) 4 1 = st % 256 ∧ fieldAt (c.record ph) 8 8 = off % 2 ^ 64) := by
  refine ⟨Ctx.length_record c ph, Ctx.record_cookie c ph, Ctx.record_ring c ph hsq, Ctx.record_gen c ph, fun hok => ⟨?_, ?_, ?_⟩,
    fun off st hfail => ⟨?_, ?_⟩⟩
  · rw [Ctx.record_status, Ctx.status, hok]
    rfl
  · rw [Ctx.record_bytes, hok]
    exact Nat.mod_eq_of_lt hbytes
  · exact Ctx.record_result c ph hok
  · rw [Ctx.record_status, Ctx.status, hfail]
    rfl
  · rw [Ctx.record_bytes, hfail]
    rfl

/-- R207, R209, R210: a descriptor that completes with status OK writes its record at the tail of the completion ring. -/
theorem descriptorComplete_writes {u : Nat} (hwf : SMap.wf s.mov.fns) (hctx : s.mov.ctxs = [c]) (hdone : s.descDone c = true)
    (hfn : c.fn ≠ mgmtKey) (hok : c.fail = none) (hfreezing : (s.fn c.fn).freezing = false) (husp : s.fnUsp c.fn = some u)
    (hup : (s.port u).up = true) (hsuppress : bitOf (fieldAt c.desc 1 1) 2 = false) (hintr : bitOf (fieldAt c.desc 1 1) 0 = false) :
    exec (.descriptorComplete c.id) s = .next ((({ s with mov := { s.mov with ctxs := [] } }).emit
      (.hostWrite u (s.fnRid c.fn) ((s.fn c.fn).cqBase + 32 * (s.fn c.fn).cqTail) (c.record (s.fn c.fn).cqPhase))).setFn c.fn
      { s.fn c.fn with
        cqReserved := (s.fn c.fn).cqReserved - 1, descDone := ((s.fn c.fn).descDone + 1) % 2 ^ 64,
        cqTail := ((s.fn c.fn).cqTail + 1) % 2 ^ (s.fn c.fn).cqLog2,
        cqPhase := if ((s.fn c.fn).cqTail + 1) % 2 ^ (s.fn c.fn).cqLog2 = 0 then !(s.fn c.fn).cqPhase else (s.fn c.fn).cqPhase }) := by
  have hwritten : (((s.recordSent c u).setFn c.fn (s.fn c.fn).recordWritten).fn c.fn).freezing = false :=
    (congrArg FnSt.freezing (State.fn_setFn_self (s := s.recordSent c u) hwf c.fn _)).trans hfreezing
  refine (execDescriptorComplete_writes hwf hctx hdone hfn husp hup hsuppress).trans (congrArg Host.Outcome.next ?_)
  rw [State.interruptFor_silent _ hintr hok, State.freezeEnd_idle hwritten]
  rfl

/-- R208: with SUPPRESS and status OK nothing is written. -/
theorem descriptorComplete_withholds (hwf : SMap.wf s.mov.fns) (hctx : s.mov.ctxs = [c]) (hdone : s.descDone c = true)
    (hfn : c.fn ≠ mgmtKey) (hok : c.fail = none) (hfreezing : (s.fn c.fn).freezing = false)
    (hsuppress : bitOf (fieldAt c.desc 1 1) 2 = true) (hintr : bitOf (fieldAt c.desc 1 1) 0 = false) :
    exec (.descriptorComplete c.id) s = .next (({ s with mov := { s.mov with ctxs := [] } }).setFn c.fn
      { s.fn c.fn with cqReserved := (s.fn c.fn).cqReserved - 1, descDone := ((s.fn c.fn).descDone + 1) % 2 ^ 64 }) := by
  refine (execDescriptorComplete_one hctx hdone hfn).trans (congrArg Host.Outcome.next ?_)
  rw [State.reportRecord_suppressed _ hsuppress hok, State.interruptFor_silent _ hintr hok]
  refine State.freezeEnd_idle ?_
  rw [State.fn_closed hwf]
  exact hfreezing

/-- R212, R213: a descriptor with INTR sends the message of the completion ring's vector behind its record. -/
theorem descriptorComplete_interrupts {u : Nat} (hwf : SMap.wf s.mov.fns) (hctx : s.mov.ctxs = [c]) (hdone : s.descDone c = true)
    (hfn : c.fn ≠ mgmtKey) (hfreezing : (s.fn c.fn).freezing = false) (husp : s.fnUsp c.fn = some u)
    (hup : (s.port u).up = true) (hsuppress : bitOf (fieldAt c.desc 1 1) 2 = false) (hintr : bitOf (fieldAt c.desc 1 1) 0 = true)
    (hcount : (s.fn c.fn).coalCount ≤ 1) (hvec : ((s.fn c.fn).vec (s.fn c.fn).cqVector).masked = false)
    (hmask : (s.fn c.fn).funcMask = false) (hholds : s.fnHolds c.fn = false) :
    ∃ t, exec (.descriptorComplete c.id) s = .next t ∧ t = { s with mov := t.mov, out := t.out } ∧ t.mov.ctxs = [] ∧
      t.out = .msix u (s.fnRid c.fn) ((s.fn c.fn).vec (s.fn c.fn).cqVector).addr ((s.fn c.fn).vec (s.fn c.fn).cqVector).data ::
        .hostWrite u (s.fnRid c.fn) ((s.fn c.fn).cqBase + 32 * (s.fn c.fn).cqTail) (c.record (s.fn c.fn).cqPhase) :: s.out := by
  have hfnW := State.fn_setFn_self (s := s.recordSent c u) hwf c.fn (s.fn c.fn).recordWritten
  have hholdsW : ((s.recordSent c u).setFn c.fn (s.fn c.fn).recordWritten).fnHolds c.fn = false :=
    (State.fnHolds_setFn (s := s.recordSent c u) (x := (s.fn c.fn).recordWritten) hwf rfl rfl).trans hholds
  have hsent := State.interruptFor_sends (s := (s.recordSent c u).setFn c.fn (s.fn c.fn).recordWritten) (c := c)
    (State.wf_setFn (s := s.recordSent c u) hwf c.fn (s.fn c.fn).recordWritten) hintr
  rw [hfnW] at hsent
  have hsent := hsent hcount hvec hmask hholdsW hfreezing
  have hmsg := State.vecMsg_setFn (s := s.recordSent c u) hwf c.fn (s.fn c.fn).cqVector (s.fn c.fn).recordWritten
  have husp' : (s.recordSent c u).fnUsp c.fn = some u := husp
  rw [show (s.fn c.fn).recordWritten.cqVector = (s.fn c.fn).cqVector from rfl, hmsg, husp'] at hsent
  refine ⟨_, (execDescriptorComplete_writes hwf hctx hdone hfn husp hup hsuppress).trans (congrArg Host.Outcome.next hsent), rfl, rfl, rfl⟩

/-- R213: the coalescing time sends what is pending, or sets the pending bit of a vector that is masked or held. -/
theorem msixCoalesceTimer_sends {f : Fn} {v : Fin 16} (hwf : SMap.wf s.mov.fns) (hv : v.val < (s.fn (fnKey f)).vecs.length)
    (htime : (s.fn (fnKey f)).coalTime ≠ 0) (hevents : 0 < ((s.fn (fnKey f)).vec v.val).events) :
    ∃ t, exec (.msixCoalesceTimer f v) s = .next t ∧ t = { s with mov := t.mov, out := t.out } ∧ ((t.fn (fnKey f)).vec v.val).events = 0 ∧
      (if ((s.fn (fnKey f)).vec v.val).masked || (s.fn (fnKey f)).funcMask || s.fnHolds (fnKey f)
        then ((t.fn (fnKey f)).vec v.val).pba = true ∧ t.out = s.out
        else ((t.fn (fnKey f)).vec v.val).pba = ((s.fn (fnKey f)).vec v.val).pba ∧
          t.out = .msix ((s.fnUsp (fnKey f)).getD 0) (s.fnRid (fnKey f)) ((s.fn (fnKey f)).vec v.val).addr ((s.fn (fnKey f)).vec v.val).data :: s.out) := by
  refine ⟨_, congrArg Host.Outcome.next ((if_pos ⟨hevents, htime⟩).trans (State.sendVec_eq hwf (fnKey f) v.val)), ?_⟩
  split
  · have hfn := State.fn_setFn_self hwf (fnKey f) (((s.fn (fnKey f)).modVec v.val (fun w => { w with events := 0 })).modVec v.val
      (fun w => { w with pba := true }))
    have hv' : v.val < ((s.fn (fnKey f)).modVec v.val (fun w => { w with events := 0 })).vecs.length := by simpa [FnSt.modVec] using hv
    rw [hfn, FnSt.vec_modVec_self hv', FnSt.vec_modVec_self hv]
    exact ⟨rfl, rfl, rfl, rfl⟩
  · have hfn : ((s.setFn (fnKey f) ((s.fn (fnKey f)).modVec v.val (fun w => { w with events := 0 }))).emit (s.vecMsg (fnKey f) v.val)).fn
        (fnKey f) = _ := State.fn_setFn_self hwf (fnKey f) _
    rw [hfn, FnSt.vec_modVec_self hv]
    exact ⟨rfl, rfl, rfl, rfl⟩

/-- R214: a vector that is unmasked sends what is pending of it. -/
theorem msixUnmask_vector {f : Fn} {v : Fin 16} (hwf : SMap.wf s.mov.fns) (hv : v.val < (s.fn (fnKey f)).vecs.length)
    (hlive : s.fnLive (fnKey f) = true) (hmask : (s.fn (fnKey f)).funcMask = false) (hholds : s.fnHolds (fnKey f) = false) :
    ∃ t, exec (.msixUnmask f (some v)) s = .next t ∧ t = { s with mov := t.mov, out := t.out } ∧
      (t.fn (fnKey f)).vec v.val = { (s.fn (fnKey f)).vec v.val with masked := false, pba := false } ∧
      t.out = (if ((s.fn (fnKey f)).vec v.val).pba
        then [.msix ((s.fnUsp (fnKey f)).getD 0) (s.fnRid (fnKey f)) ((s.fn (fnKey f)).vec v.val).addr ((s.fn (fnKey f)).vec v.val).data] else []) ++ s.out := by
  have hexec : exec (.msixUnmask f (some v)) s = .next ((s.setFn (fnKey f) ((s.fn (fnKey f)).unmasked v.val)).flushVec (fnKey f) v.val) :=
    congrArg Host.Outcome.next (if_neg (by simp [hlive]))
  have hfn := State.fn_setFn_self hwf (fnKey f) ((s.fn (fnKey f)).unmasked v.val)
  have hvec : ((s.fn (fnKey f)).unmasked v.val).vec v.val = { (s.fn (fnKey f)).vec v.val with masked := false } := FnSt.vec_modVec_self hv _
  have hholds' : (s.setFn (fnKey f) ((s.fn (fnKey f)).unmasked v.val)).fnHolds (fnKey f) = false :=
    (State.fnHolds_setFn (x := (s.fn (fnKey f)).unmasked v.val) hwf rfl rfl).trans hholds
  cases hpba : ((s.fn (fnKey f)).vec v.val).pba with
  | true =>
    have hflush := State.flushVec_sends (s := s.setFn (fnKey f) ((s.fn (fnKey f)).unmasked v.val)) (k := fnKey f) (v := v.val)
      (by rw [hfn, hvec]; exact hpba) (by rw [hfn, hvec]) ((congrArg FnSt.funcMask hfn).trans hmask) hholds'
    rw [hfn, State.setFn_setFn hwf, State.vecMsg_setFn hwf, hvec] at hflush
    refine ⟨_, hexec.trans (congrArg Host.Outcome.next hflush), rfl, ?_, ?_⟩
    · exact (congrArg (FnSt.vec · v.val) (State.fn_setFn_self hwf (fnKey f) _)).trans (FnSt.vec_unmasked_sent hv)
    · rfl
  | false =>
    have hflush := State.flushVec_idle (s := s.setFn (fnKey f) ((s.fn (fnKey f)).unmasked v.val)) (k := fnKey f) (v := v.val)
      (by rw [hfn, hvec]; exact hpba)
    refine ⟨_, hexec.trans (congrArg Host.Outcome.next hflush), rfl, ?_, rfl⟩
    rw [hfn, hvec, ← hpba]

/-- R214: a function that is unmasked with nothing pending is unmasked, and no more. -/
theorem msixUnmask_function {f : Fn} (hwf : SMap.wf s.mov.fns) (hlive : s.fnLive (fnKey f) = true)
    (hpba : (s.fn (fnKey f)).vecs.any Vec.pba = false) :
    exec (.msixUnmask f none) s = .next (s.setFn (fnKey f) { s.fn (fnKey f) with funcMask := false }) := by
  refine congrArg Host.Outcome.next ((if_neg ?_).trans (State.flushVecs_idle ?_))
  · simp [hlive]
  · rw [State.modFn, State.fn_setFn_self hwf]
    exact hpba

end

/-- Settles O53: the lemmas above, one for each clause. -/
theorem moverWork : Obligations.MoverWork :=
  ⟨fun _ _ _ _ _ hwf _ hdh hdf => chunkIssue_fills hwf hdh hdf, fun _ _ => chunkIssue_none,
    fun _ _ _ _ _ _ _ _ _ _ _ hwf hrsps hslots huser hctx hid hfn husp hsq hleg hfail hchunks haccs hkey hread hpool hlow hhigh hop =>
      chunkResponse_writes hwf hrsps hslots huser hctx hid hfn husp hkey ⟨hsq, hleg, hfail, hchunks, haccs, hlow, hhigh, hop⟩ hread hpool,
    fun _ _ _ _ _ _ _ _ _ _ hwf hrsps hslots huser hctx hid hfn hsq hleg hfail hchunks haccs hkey hread hlow hhigh hop =>
      chunkResponse_fails hwf hrsps hslots huser hctx hid hfn hkey ⟨hsq, hleg, hfail, hchunks, haccs, hlow, hhigh, hop⟩ hread,
    fun _ _ _ _ _ _ _ _ _ _ _ hrsps hctx hid hsq hleg hfail hchunks haccs hkey hread hlow hhigh hop =>
      chunkResponse_row hrsps hctx hid hkey ⟨hsq, hleg, hfail, hchunks, haccs, hlow, hhigh, hop⟩ hread,
    fun _ ph _ => record_fields ph, fun _ _ _ => descriptorComplete_writes, fun _ _ => descriptorComplete_withholds,
    fun _ _ _ => descriptorComplete_interrupts, fun _ _ _ => msixCoalesceTimer_sends, fun _ _ _ => msixUnmask_vector,
    fun _ _ => msixUnmask_function⟩

end Sys2Proof.Claims

namespace Sys2Proof.Machine

/-! ## Requests to HLM -/

/-- While HLM runs it answers every SPDM request. -/
theorem execSpdmRequest_runs {s t : State} {l : SpdmLink} {m : SpdmMsg} (hruns : s.hlmRuns = true)
    (hanswer : execSpdmRequest l m s = .next (if !s.hlmRuns then s else t)) : exec (.spdmRequest l m) s = .next t :=
  hanswer.trans (congrArg Host.Outcome.next (if_neg (by simp [hruns])))

/-- A FINISH with a good check and the chain of a management root opens its session at ADMIN (R462, R542). -/
theorem State.spdmFinish_root {s : State} {l : SpdmLink} {id : Nat} {d leaf : Bytes} (hsession : (s.sessionBy l id false).isSome = true)
    (hd : d ≠ zeroHash) (hroot : d ∈ s.hlm.mgmtRoots) :
    s.spdmFinish l id true (some (d, leaf)) = (s.modHlm (fun m =>
      { m with sessions := updFirst (fun (x : Session) => x.id == id) (fun x =>
                 { x with opened := true, admin := true, leaf := leaf, factory := s.flag Reg.FLT_STATUS_TOUCHSTONE && linkWired l })
                 m.sessions })).emit (.spdm l 0x65 []) := by
  obtain ⟨x, hx⟩ := Option.isSome_iff_exists.1 hsession
  have hadmin : (d != zeroHash && s.hlm.mgmtRoots.contains d) = true := by simp [hd, hroot]
  simp only [State.spdmFinish, hx, hadmin]
  rfl

/-- The stream after an IDE key of set `n` has been programmed at time `now` (R548). -/
def IdeStream.keyed (x : IdeStream) (n now : Nat) (key : Bytes) : IdeStream :=
  { keySet := n, keys := x.keys.filter (fun z => z.1 != n) ++ [(n, key)], rekeyTick := now }

/-- `s` after the link stream of USP `u` has been keyed: it is secured. -/
def State.linkKeyed (s : State) (u : Port) (n : Nat) (key : Bytes) : State :=
  (((s.modHlm (fun h => { h with ide := SMap.put h.ide (8 * u.val) ((SMap.get h.ide (8 * u.val) IdeStream.dflt).keyed n s.tick key) })).set
    Reg.HLM_IDE_CFG_STATE u.val 1).modPort u.val (fun z => { z with ideInsecure := false })).emit (.spdm (.doeUsp u) 0x7E [])

theorem State.ide_linkKeyed (s : State) (u : Port) (n : Nat) (key : Bytes) :
    SMap.get (s.linkKeyed u n key).hlm.ide (8 * u.val) IdeStream.dflt = (SMap.get s.hlm.ide (8 * u.val) IdeStream.dflt).keyed n s.tick key := by
  have hput (x : IdeStream) : SMap.get (SMap.put s.hlm.ide (8 * u.val) x) (8 * u.val) IdeStream.dflt = x := by simp [SMap.get, SMap.find_put]
  exact hput _

end Sys2Proof.Machine

namespace Sys2Proof.Claims

open Sys2Proof.Machine

/-! ## O23, clause by clause -/

section
variable {s : State} {l : SpdmLink}

/-- R540: GET_VERSION answers version 1.2. -/
theorem spdm_getVersion (hruns : s.hlmRuns = true) : exec (.spdmRequest l .getVersion) s = .next (s.emit (.spdm l 0x04 [0x12])) :=
  execSpdmRequest_runs hruns rfl

/-- R540: a request that is not listed answers UnsupportedRequest. -/
theorem spdm_unlisted {c : BitVec 8} (hruns : s.hlmRuns = true) :
    exec (.spdmRequest l (.other c)) s = .next (s.emit (.spdm l 0x7F [0x07, c])) :=
  execSpdmRequest_runs hruns rfl

/-- R540, R542: KEY_EXCHANGE opens a new unfinished session with the next number. -/
theorem spdm_keyExchange {x : Bool} (hruns : s.hlmRuns = true) (hroom : s.hlm.sessions.length < 16) (hlink : s.sessionsOn l < 4) :
    ∃ (t : State) (b : Bytes), exec (.spdmRequest l (.keyExchange 0 x)) s = .next t ∧ t.out = .spdm l 0x64 b :: s.out ∧
      t = { s with out := t.out, fresh := s.fresh + 1, hlm := t.hlm } ∧
      t.hlm = { s.hlm with sessions := t.hlm.sessions, nextSession := s.hlm.nextSession + 1 } ∧
      t.hlm.sessions = s.hlm.sessions ++
        [{ id := s.hlm.nextSession, link := l, opened := false, leaf := [], admin := false, factory := false }] := by
  have hfree : ¬ (16 ≤ s.hlm.sessions.length ∨ 4 ≤ s.sessionsOn l) := by omega
  exact ⟨_, _, (execSpdmRequest_runs hruns rfl).trans (congrArg Host.Outcome.next (if_neg hfree)), rfl, rfl, rfl, rfl⟩

/-- R462, R542: FINISH with a good check opens the session, at ADMIN for a management root. -/
theorem spdm_finish {id : Nat} {d leaf : Bytes} (hruns : s.hlmRuns = true) (hsession : (s.sessionBy l id false).isSome = true)
    (hd : d ≠ zeroHash) (hroot : d ∈ s.hlm.mgmtRoots) :
    exec (.spdmRequest l (.finish id true (some (d, leaf)))) s = .next ((s.modHlm (fun m =>
      { m with sessions := updFirst (fun (x : Session) => x.id == id) (fun x =>
                 { x with opened := true, admin := true, leaf := leaf, factory := s.flag Reg.FLT_STATUS_TOUCHSTONE && linkWired l })
                 m.sessions })).emit (.spdm l 0x65 [])) :=
  (execSpdmRequest_runs hruns rfl).trans (congrArg Host.Outcome.next (State.spdmFinish_root hsession hd hroot))

/-- R224: a migration key inside an open session of the PF's mailbox replaces the key of its number. -/
theorem migrationKey_installed {u : Port} {id : Nat} {k : Fin 8} {key : Bytes} (hruns : s.hlmRuns = true)
    (hsession : (s.sessionBy (.doePf u) id true).isSome = true) (hlength : key.length = 48) :
    exec (.migrationKeyInstall u id k key) s = .next ((s.modHlm (fun m =>
      { m with migKeys := m.migKeys.filter (fun (x : Nat × Nat × Bytes) => !(x.1 == u.val && x.2.1 == k.val))
                 ++ [(u.val, k.val, key)] })).emit (.spdm (.doePf u) 0x7E [])) :=
  congrArg Host.Outcome.next ((if_neg (by simp [hruns])).trans (if_pos ⟨hsession, hlength⟩))

/-- R548: an IDE key of the link stream inside a session of the USP's mailbox is programmed, and the stream is secured. -/
theorem ideKey_received {u : Port} {id : Nat} {n : Fin 2} {key : Bytes} (hwf : SMap.wf s.regs) (hruns : s.hlmRuns = true)
    (hsession : (s.sessionBy (.doeUsp u) id true).isSome = true) (husp : s.isUsp u.val = true) (hlength : key.length = 32) :
    ∃ t, exec (.ideKmKeyReceive u id 0 n key) s = .next t ∧
      t = { s with regs := t.regs, prt := t.prt, hlm := { s.hlm with ide := t.hlm.ide }, out := .spdm (.doeUsp u) 0x7E [] :: s.out } ∧
      (SMap.get t.hlm.ide (8 * u.val) IdeStream.dflt).keySet = n.val ∧ (n.val, key) ∈ (SMap.get t.hlm.ide (8 * u.val) IdeStream.dflt).keys ∧
      t.get Reg.HLM_IDE_CFG_STATE u.val = 1 ∧ OnlyRegs [(Reg.HLM_IDE_CFG_STATE, u.val)] s t := by
  have hexec : exec (.ideKmKeyReceive u id 0 n key) s = .next (s.linkKeyed u n.val key) :=
    congrArg Host.Outcome.next ((if_neg (by simp [hruns])).trans (if_pos ⟨hsession, husp, hlength⟩))
  refine ⟨_, hexec, rfl, ?_, ?_, ?_, fun k hk => ?_⟩
  · rw [State.ide_linkKeyed]
    rfl
  · rw [State.ide_linkKeyed]
    exact List.mem_append_right _ (List.mem_singleton_self _)
  · exact State.get_set_self s Reg.HLM_IDE_CFG_STATE u.val 1 hwf
  · have hkey : Reg.HLM_IDE_CFG_STATE.key u.val ≠ k := hk (Reg.HLM_IDE_CFG_STATE, u.val) (List.mem_singleton_self _)
    exact SMap.find_store_ne s.regs (1 % 2 ^ Reg.HLM_IDE_CFG_STATE.width) (Reg.HLM_IDE_CFG_STATE.reset u.val) hkey

end

/-- Settles O23: the lemmas above, one for each clause; a session ends at a missed heartbeat by definition. -/
theorem sessionsAndKeys : Obligations.SessionsAndKeys :=
  ⟨fun _ _ => spdm_getVersion, fun _ _ _ => spdm_unlisted, fun _ _ _ => spdm_keyExchange, fun _ _ _ _ _ => spdm_finish, fun _ _ => rfl,
    fun _ _ _ _ _ => migrationKey_installed, fun _ _ _ _ _ => ideKey_received⟩

end Sys2Proof.Claims

namespace Sys2Proof.Machine

/-! ## Function level resets (R217, R222) -/

/-- A function whose reset has begun: the next generation, nothing fetched (R217). -/
def FnSt.resetting (x : FnSt) : FnSt :=
  { x with flr := true, gen := (x.gen + 1) % 256, sqs := x.sqs.map (fun q => { q with fetched := [] }) }

/-- A context after the reset of function `k` has begun. -/
def Ctx.squash (k : Nat) (c : Ctx) : Ctx := if c.fn = k then { c with squashed := true, next := dBytes c.desc } else c

/-- `s` with function `k` resetting and its contexts squashed. -/
def State.flrBegun (s : State) (k : Nat) : State :=
  (s.setFn k (s.fn k).resetting).modMov (fun m => { m with ctxs := m.ctxs.map (Ctx.squash k) })

/-- A host PF whose migration operation ends because its VF resets (Table 4-15). -/
def FnSt.migRefused (x : FnSt) : FnSt := { x with migBusy := false, migResult := 1 }

/-- Everything the start of a reset does: the function resets, and a migration of it ends. -/
theorem State.flrStart_cases (s : State) (k : Nat) :
    s.flrStart k = s.flrBegun k ∨ ∃ u, s.flrStart k = (s.flrBegun k).modFn (0x8000 + u) FnSt.migRefused := by
  unfold State.flrStart
  dsimp only
  split
  · exact .inl rfl
  · split
    · exact .inr ⟨_, rfl⟩
    · exact .inl rfl

/-- It changes functions and contexts, and squashes the function's own. -/
theorem State.flrStart_frame (s : State) (k : Nat) : ∃ fns, s.flrStart k =
    { s with mov := { s.mov with fns := fns, ctxs := s.mov.ctxs.map (Ctx.squash k) } } := by
  have hbegun : ∃ fns, s.flrBegun k = { s with mov := { s.mov with fns := fns, ctxs := s.mov.ctxs.map (Ctx.squash k) } } := ⟨_, rfl⟩
  obtain ⟨fns, hbegun⟩ := hbegun
  rcases s.flrStart_cases k with h | ⟨u, h⟩ <;> rw [h, hbegun]
  · exact ⟨fns, rfl⟩
  · exact ⟨_, rfl⟩

/-- The contexts of a resetting function are squashed. -/
theorem State.flrStart_squashes (s : State) (k : Nat) : ∀ c ∈ (s.flrStart k).mov.ctxs, c.fn = k → c.squashed = true := by
  intro c hc hfn
  obtain ⟨fns, hframe⟩ := s.flrStart_frame k
  rw [hframe] at hc
  obtain ⟨d, -, rfl⟩ := List.mem_map.1 hc
  unfold Ctx.squash at hfn ⊢
  split
  · rfl
  next hne =>
    rw [if_neg hne] at hfn
    exact absurd hfn hne

section
variable {s : State}

theorem State.fn_flrBegun_self (hwf : SMap.wf s.mov.fns) (k : Nat) : (s.flrBegun k).fn k = (s.fn k).resetting :=
  State.fn_setFn_self hwf k _

theorem State.fn_flrBegun_ne {j k : Nat} (h : j ≠ k) : (s.flrBegun k).fn j = s.fn j :=
  State.fn_setFn_ne h _

theorem State.wf_flrStart (hwf : SMap.wf s.mov.fns) (k : Nat) : SMap.wf (s.flrStart k).mov.fns := by
  have hbegun : SMap.wf (s.flrBegun k).mov.fns := State.wf_setFn hwf k _
  rcases s.flrStart_cases k with h | ⟨u, h⟩ <;> rw [h]
  · exact hbegun
  · exact State.wf_setFn hbegun _ _

/-- Of a VF nothing changes but what its own reset changes. -/
theorem State.fn_flrStart_vf {j : Nat} (hj : j < 0x8000) (k : Nat) : (s.flrStart k).fn j = (s.flrBegun k).fn j := by
  rcases s.flrStart_cases k with h | ⟨u, h⟩ <;> rw [h]
  exact State.fn_modFn_ne (by omega) _

/-- The function is resetting, and no reset ends. -/
theorem State.flr_flrStart (hwf : SMap.wf s.mov.fns) (k j : Nat) :
    ((s.flrStart k).fn j).flr = if j = k then true else (s.fn j).flr := by
  have hbegun : ((s.flrBegun k).fn j).flr = if j = k then true else (s.fn j).flr := by
    split
    next h => rw [h, State.fn_flrBegun_self hwf]; rfl
    next h => rw [State.fn_flrBegun_ne h]
  rcases s.flrStart_cases k with h | ⟨u, h⟩ <;> rw [h]
  · exact hbegun
  · refine Eq.trans ?_ hbegun
    exact State.fn_modFn_keeps (g := FnSt.flr) (f := FnSt.migRefused) (State.wf_setFn hwf k _) (fun _ => rfl) _ _

end

/-- `s` with ERR_RESET of function `j` clear and its reset begun. -/
def State.flrOf (s : State) (j : Nat) : State := (s.modFn j (fun x => { x with errReset := false })).flrStart j

/-- It changes functions and contexts. -/
theorem State.flrOf_frame (s : State) (j : Nat) : ∃ fns, s.flrOf j =
    { s with mov := { s.mov with fns := fns, ctxs := s.mov.ctxs.map (Ctx.squash j) } } := by
  obtain ⟨fns, hstart⟩ := (s.modFn j (fun x => { x with errReset := false })).flrStart_frame j
  exact ⟨fns, hstart⟩

/-- A VF whose reset has begun. -/
theorem State.fn_flrOf_vf {s : State} (hwf : SMap.wf s.mov.fns) {k : Nat} (hk : k < 0x8000) :
    (s.flrOf k).fn k = FnSt.resetting { s.fn k with errReset := false } := by
  have hwf' : SMap.wf (s.modFn k (fun x => { x with errReset := false })).mov.fns := State.wf_setFn hwf k _
  rw [State.flrOf, State.fn_flrStart_vf hk, State.fn_flrBegun_self hwf', State.fn_modFn_self hwf]

/-- The reset of a VF (R217). -/
theorem State.initiateFlr_vf (s : State) {k : Nat} (hk : k < 0x8000) : s.initiateFlr k = s.flrOf k := by
  have hvf : isVf k = true := decide_eq_true hk
  simp only [State.initiateFlr, State.flrSet, hvf]
  rfl

/-- The resets of several functions change functions and contexts. -/
theorem State.flrEach_frame (s : State) (l : List Nat) : ∃ fns ctxs,
    l.foldl State.flrOf s = { s with mov := { s.mov with fns := fns, ctxs := ctxs } } := by
  induction l generalizing s with
  | nil => exact ⟨s.mov.fns, s.mov.ctxs, rfl⟩
  | cons j l ih =>
    obtain ⟨fns, hone⟩ := s.flrOf_frame j
    obtain ⟨fns', ctxs', hrest⟩ := ih (s.flrOf j)
    refine ⟨fns', ctxs', hrest.trans ?_⟩
    rw [hone]

/-- All of the functions named are resetting then, and those that were before. -/
theorem State.flr_flrEach {s : State} (hwf : SMap.wf s.mov.fns) (l : List Nat) {j : Nat} (hj : j ∈ l ∨ (s.fn j).flr = true) :
    ((l.foldl State.flrOf s).fn j).flr = true := by
  induction l generalizing s with
  | nil => exact hj.resolve_left List.not_mem_nil
  | cons k l ih =>
    have hwf' : SMap.wf (s.modFn k (fun x => { x with errReset := false })).mov.fns := State.wf_setFn hwf k _
    have hkeep : ((s.modFn k (fun x => { x with errReset := false })).fn j).flr = (s.fn j).flr :=
      State.fn_modFn_keeps (g := FnSt.flr) (f := fun x => { x with errReset := false }) hwf (fun _ => rfl) k j
    refine ih (State.wf_flrStart hwf' k) ?_
    rw [State.flrOf, State.flr_flrStart hwf', hkeep]
    rcases hj with hmem | hflr
    · rcases List.mem_cons.1 hmem with rfl | hmem
      · exact .inr (if_pos rfl)
      · exact .inl hmem
    · exact .inr (by rw [hflr, ite_self])

/-- `s` without the sessions of host PF `u` and without its VF Enable. -/
def State.hostLeft (s : State) (u : Nat) : State :=
  ({ s with hlm := { s.hlm with sessions := s.hlm.sessions.filter (fun x => decide (x.link ≠ SpdmLink.doePf (Fin.ofNat 64 u))) } }).modMov
    (fun m => { m with vfEnable := m.vfEnable.filter (· ≠ u) })

/-- The reset of host PF `u` covers its VFs; its sessions and VF Enable go with it (R222). -/
theorem State.initiateFlr_pf (s : State) {u : Nat} (hu : u < 64) :
    s.initiateFlr (0x8000 + u) = (((0x8000 + u) :: SMap.get s.mov.allot u []).foldl State.flrOf s).hostLeft u := by
  have hvf : ¬ isVf (0x8000 + u) = true := by simp [isVf]
  have hmgmt : ¬ 0x8000 + u = mgmtKey := by
    unfold mgmtKey
    omega
  have hset : s.flrSet (0x8000 + u) = (0x8000 + u) :: SMap.get s.mov.allot u [] := by
    rw [State.flrSet, if_neg hvf, if_neg hmgmt, Nat.add_sub_cancel_left]
  rw [State.initiateFlr, hset]
  refine (if_neg (not_or.2 ⟨hvf, hmgmt⟩)).trans ?_
  rw [Nat.add_sub_cancel_left]
  rfl

/-- After it the PF and its VFs are resetting, and VF Enable is clear. -/
theorem State.initiateFlr_pf_resets {s : State} (hwf : SMap.wf s.mov.fns) {u : Nat} (hu : u < 64) :
    ((s.initiateFlr (0x8000 + u)).fn (0x8000 + u)).flr = true ∧
      (∀ g ∈ SMap.get s.mov.allot u [], ((s.initiateFlr (0x8000 + u)).fn g).flr = true) ∧ u ∉ (s.initiateFlr (0x8000 + u)).mov.vfEnable := by
  have hflr (j : Nat) (hj : j ∈ (0x8000 + u) :: SMap.get s.mov.allot u []) : ((s.initiateFlr (0x8000 + u)).fn j).flr = true := by
    rw [State.initiateFlr_pf s hu]
    exact State.flr_flrEach hwf _ (.inl hj)
  refine ⟨hflr _ List.mem_cons_self, fun g hg => hflr g (List.mem_cons_of_mem _ hg), ?_⟩
  rw [State.initiateFlr_pf s hu]
  exact fun hu => absurd rfl (of_decide_eq_true (List.mem_filter.1 hu).2)

/-- It changes the Mover and the sessions, no allotment. -/
theorem State.initiateFlr_pf_frame (s : State) {u : Nat} (hu : u < 64) : ∃ mov hlm,
    s.initiateFlr (0x8000 + u) = { s with mov := mov, hlm := hlm } ∧ mov.allot = s.mov.allot := by
  obtain ⟨fns, ctxs, hframe⟩ := s.flrEach_frame ((0x8000 + u) :: SMap.get s.mov.allot u [])
  rw [State.initiateFlr_pf s hu, hframe]
  exact ⟨_, _, rfl, rfl⟩

/-! ## The end of the drain (R219, R220) -/

/-- The requests that the contexts of function `k` have outstanding. -/
def State.outstanding (s : State) (k : Nat) : Nat := ((s.mov.ctxs.filter (fun c => c.fn == k)).map (fun c => c.accs.length)).sum

/-- `s` after the drain of function `k`: registers at reset values under the new generation, no contexts. -/
def State.drained (s : State) (k : Nat) : State :=
  (s.modMov (fun m => { m with ctxs := m.ctxs.filter (fun c => c.fn != k) })).setFn k
    { FnSt.dflt (fnVectors k) with
      gen := (s.fn k).gen, errReset := (s.fn k).errReset, bytesMoved := (s.fn k).bytesMoved, descDone := (s.fn k).descDone }

/-- The registers of a function whose reset has ended. -/
def FnSt.afterReset (x : FnSt) (vectors : Nat) : FnSt :=
  { FnSt.dflt vectors with gen := x.gen, errReset := x.errReset, bytesMoved := x.bytesMoved, descDone := x.descDone }

theorem State.fn_drained_self {s : State} (hwf : SMap.wf s.mov.fns) (k : Nat) : (s.drained k).fn k = (s.fn k).afterReset (fnVectors k) :=
  SMap.get_store_self s.mov.fns k ((s.fn k).afterReset (fnVectors k)) _ hwf

theorem State.fn_drained_ne (s : State) {j k : Nat} (h : j ≠ k) : (s.drained k).fn j = s.fn j :=
  SMap.get_store_ne s.mov.fns _ _ _ (Ne.symm h)

/-- A Mover without a tag slot has none to free. -/
theorem State.squashSlots_none {s : State} (hslots : s.prt.ioSlots = []) (id : Nat) : s.squashSlots id = s := by
  have hnone (f : TagSlot → TagSlot) : SMap.modAll f s.prt.ioSlots = s.prt.ioSlots := by rw [hslots]; rfl
  unfold State.squashSlots
  dsimp only
  rw [hnone]

/-- With no tag slot and no command waiting the end of the drain is that, and an event for what is squashed. -/
theorem State.flrEnd_unawaited {s : State} (hwaits : s.tbl.waits = []) (hslots : s.prt.ioSlots = []) (k : Nat) :
    s.flrEnd k = (if s.outstanding k = 0 then s else s.report 0x0B22 contained 0 (leBytes 2 k) (leBytes 4 (s.outstanding k))).drained k := by
  have hsquash (cs : List Ctx) (t : State) (ht : t.prt.ioSlots = []) : forEach cs (fun c s => s.squashSlots c.id) t = t :=
    List.foldlRecOn (motive := (· = t)) cs _ rfl fun x hx c _ => by
      rw [hx]
      exact State.squashSlots_none ht c.id
  have hquiet (t : State) (ht : t.tbl.waits = []) : t.answerWaits (fun w => w == .fnReset k) stSuccess [] = t :=
    State.answerWaits_none (by simp [ht]) _ _
  unfold State.flrEnd State.outstanding
  dsimp only
  split
  · rw [hsquash _ s hslots]
    exact hquiet (s.drained k) hwaits
  · rw [hsquash _ (s.report 0x0B22 contained 0 _ _) hslots]
    exact hquiet (State.drained (s.report 0x0B22 contained 0 _ _) k) hwaits

end Sys2Proof.Machine

namespace Sys2Proof.Machine

/-! ## A failed engine (R227) -/

/-- Adding a bit that is clear sets it and leaves the others. -/
theorem bitOf_add_two_pow {v e : Nat} (hclear : bitOf v e = false) (j : Nat) : bitOf (v + 2 ^ e) j = if j = e then true else bitOf v j := by
  rw [bitOf_eq_testBit] at hclear
  rw [bitOf_eq_testBit, bitOf_eq_testBit, Nat.add_comm]
  rcases Nat.lt_trichotomy j e with hlt | rfl | hgt
  · rw [if_neg (by omega), Nat.testBit_two_pow_add_gt hlt]
  · rw [if_pos rfl, Nat.testBit_two_pow_add_eq, hclear]
    rfl
  · have heven : v / 2 ^ e % 2 = 0 := by
      rw [Nat.testBit_eq_decide_div_mod_eq, decide_eq_false_iff_not] at hclear
      omega
    have hhigh : (2 ^ e + v) / 2 ^ (e + 1) = v / 2 ^ (e + 1) := by
      rw [pow_succ, ← Nat.div_div_eq_div_mul, ← Nat.div_div_eq_div_mul, Nat.add_comm, Nat.add_div_right _ (Nat.two_pow_pos e)]
      omega
    obtain ⟨i, rfl⟩ : ∃ i, j = i + (e + 1) := ⟨j - (e + 1), by omega⟩
    rw [if_neg (by omega), ← Nat.testBit_div_two_pow, hhigh, Nat.testBit_div_two_pow]

/-- `s` with engine `e` marked as failed, and reported (R228). -/
def State.engineLost (s : State) (e : Nat) : State :=
  ((s.set Reg.MOV_ENGINE_FAILED 0 (s.get Reg.MOV_ENGINE_FAILED + 2 ^ e)).setFlag Reg.MOV_STATUS_DEGRADED 0 true).report (0x0B00 + e)
    corrected 0 [byte e]

section
variable {s : State} {e : Nat}

/-- The engines that are healthy after the loss. -/
theorem State.engineOk_engineLost (hwf : SMap.wf s.regs) (hok : s.engineOk e = true) {j : Nat} (hj : j < 32) :
    (s.engineLost e).engineOk j = if j = e then false else s.engineOk j := by
  have hget : (s.engineLost e).get Reg.MOV_ENGINE_FAILED = (s.get Reg.MOV_ENGINE_FAILED + 2 ^ e) % 2 ^ 32 :=
    (State.get_set_ne _ Reg.MOV_STATUS_DEGRADED Reg.MOV_ENGINE_FAILED 0 0 (b2n true) (by decide)).trans
      (State.get_set_self s Reg.MOV_ENGINE_FAILED 0 _ hwf)
  have hclear : bitOf (s.get Reg.MOV_ENGINE_FAILED) e = false := by simpa [State.engineOk] using hok
  have hbit : bitOf ((s.engineLost e).get Reg.MOV_ENGINE_FAILED) j = bitOf (s.get Reg.MOV_ENGINE_FAILED + 2 ^ e) j := by
    rw [hget, bitOf_eq_testBit, bitOf_eq_testBit, Nat.testBit_mod_two_pow, decide_eq_true hj, Bool.true_and]
  rw [State.engineOk, hbit, bitOf_add_two_pow hclear]
  split
  · rfl
  · rfl

theorem State.degraded_engineLost (hwf : SMap.wf s.regs) (e : Nat) : (s.engineLost e).flag Reg.MOV_STATUS_DEGRADED = true := by
  have hget : (s.engineLost e).get Reg.MOV_STATUS_DEGRADED = 1 :=
    State.get_set_self (s.set Reg.MOV_ENGINE_FAILED 0 (s.get Reg.MOV_ENGINE_FAILED + 2 ^ e)) Reg.MOV_STATUS_DEGRADED 0 (b2n true)
      (State.wf_set s _ _ _ hwf)
  rw [State.flag, hget]
  rfl

/-- The failure of a healthy engine: it is marked, and its descriptors go to other engines. -/
theorem execEngineFailure_ok {e : Fin 32} (hok : s.engineOk e.val = true) : execEngineFailure e s =
    .next (forEach (s.mov.ctxs.filter (fun c => c.engine == e.val)) (fun c s => s.rebind c) (s.engineLost e.val)) :=
  congrArg Host.Outcome.next (if_neg (by simp [hok]))

/-- The least loaded of some engines is one of them. -/
theorem State.leastLoaded_mem (s : State) {es : List Nat} (hes : es ≠ []) : ∃ e ∈ es, s.leastLoaded es = some e := by
  have hstep (e b : Nat) : (if s.bound e < s.bound b then some e else some b) = some e ∨
      (if s.bound e < s.bound b then some e else some b) = some b := by
    split
    · exact .inl rfl
    · exact .inr rfl
  have hfold (l : List Nat) (b : Nat) : ∃ x ∈ b :: l, l.foldl (fun best e => match best with
      | none => some e
      | some b => if s.bound e < s.bound b then some e else some b) (some b) = some x := by
    induction l generalizing b with
    | nil => exact ⟨b, List.mem_cons_self, rfl⟩
    | cons a l ih =>
      rw [List.foldl_cons]
      rcases hstep a b with h | h
      · obtain ⟨x, hx, heq⟩ := ih a
        exact ⟨x, List.mem_cons_of_mem _ hx, (congrArg (l.foldl _) h).trans heq⟩
      · obtain ⟨x, hx, heq⟩ := ih b
        exact ⟨x, List.mem_cons.2 ((List.mem_cons.1 hx).imp_right (List.mem_cons_of_mem _)), (congrArg (l.foldl _) h).trans heq⟩
  cases es with
  | nil => exact absurd rfl hes
  | cons a l => exact hfold l a

/-- A host's descriptor that has not run as an ATOMIC is repeated from its start on another healthy engine. -/
theorem State.rebind_repeats {c : Ctx} (hctx : s.mov.ctxs = [c]) (hsq : c.squashed = false) (hop : dOp c.desc ≠ 3) (hfn : c.fn ≠ mgmtKey)
    (hother : ∃ j < 32, s.engineOk j = true) (hcheck : s.descCheck c.fn c.desc = 0) :
    ∃ e d, s.rebind c = s.modMov (fun m => { m with ctxs := [d], nextCtx := m.nextCtx + 1 }) ∧ s.engineOk e = true ∧ e < 32 ∧
      d = { s.newCtx c.fn c.sq c.seq e c.desc c.shared with gen := c.gen } ∧ d.next = 0 := by
  obtain ⟨j, hj, hokj⟩ := hother
  have hengines : s.enginesFor c.fn = (List.range 32).filter s.engineOk := if_neg fun h => hfn h.1
  obtain ⟨e, he, hleast⟩ := s.leastLoaded_mem (es := s.enginesFor c.fn)
    (List.ne_nil_of_mem (hengines ▸ List.mem_filter.2 ⟨List.mem_range.2 hj, hokj⟩))
  rw [hengines, List.mem_filter, List.mem_range] at he
  refine ⟨e, _, ?_, he.2, he.1, rfl, if_pos hcheck⟩
  have hrest : s.mov.ctxs.filter (fun x => x.id != c.id) = [] := by simp [hctx]
  unfold State.rebind
  rw [hsq, hleast]
  simp only [Bool.false_eq_true, if_false, hop, false_and, hfn, State.openCtx, State.modMov, hrest, List.nil_append]

end

/-- `s` after an SRAM error of the state of function `k` has been reported: ERR_RESET is set (R229). -/
def State.sramFailed (s : State) (k : Nat) : State :=
  (s.report 0x0B30 contained 0 (leBytes 2 k)).modFn k (fun x => { x with errReset := true })

/-- `s` with NumVFs of host PF `u` stored (R187). -/
def State.withNumVfs (s : State) (u n : Nat) : State := s.modMov (fun m => { m with numVfs := SMap.store m.numVfs u n 0 })

end Sys2Proof.Machine

namespace Sys2Proof.Claims

open Sys2Proof.Machine

/-! ## O54, clause by clause -/

section
variable {s : State}

/-- R217: a VF's reset advances its generation, discards what it has fetched and squashes its contexts; other VFs keep theirs. -/
theorem initiateFlr_resetsVf {g : Fin 1024} (hwf : SMap.wf s.mov.fns) (hlive : s.fnLive g.val = true) (hflr : (s.fn g.val).flr = false) :
    ∃ t, exec (.initiateFlr (.vf g)) s = .next t ∧ t = { s with mov := t.mov } ∧ (t.fn g.val).flr = true ∧
      (t.fn g.val).gen = ((s.fn g.val).gen + 1) % 256 ∧ (t.fn g.val).errReset = false ∧ (∀ q ∈ (t.fn g.val).sqs, q.fetched = []) ∧
      (∀ c ∈ t.mov.ctxs, c.fn = g.val → c.squashed = true) ∧ (∀ j < 0x8000, j ≠ g.val → t.fn j = s.fn j) ∧
      t.mov.vfEnable = s.mov.vfEnable := by
  have hg : g.val < 0x8000 := by omega
  have hexec : exec (.initiateFlr (.vf g)) s = .next (s.flrOf g.val) :=
    congrArg Host.Outcome.next ((if_pos (show (s.fnLive g.val && !(s.fn g.val).flr) = true by simp [hlive, hflr])).trans
      (State.initiateFlr_vf s hg))
  have hself := State.fn_flrOf_vf hwf hg
  obtain ⟨fns, hframe⟩ := s.flrOf_frame g.val
  refine ⟨_, hexec, ?_, ?_, ?_, ?_, ?_, State.flrStart_squashes _ g.val, fun j hj hne => ?_, ?_⟩
  · rw [hframe]
  · rw [hself]
    rfl
  · rw [hself]
    rfl
  · rw [hself]
    rfl
  · rw [hself]
    intro q hq
    obtain ⟨x, -, rfl⟩ := List.mem_map.1 hq
    rfl
  · exact (State.fn_flrStart_vf hj g.val).trans ((State.fn_flrBegun_ne hne).trans (State.fn_modFn_ne hne _))
  · rw [hframe]

/-- R222: a PF's reset covers its VFs and clears VF Enable; its allotment stays. -/
theorem initiateFlr_resetsPf {u : Port} (hwf : SMap.wf s.mov.fns) (husp : s.isUsp u.val = true) (hflr : (s.fn (0x8000 + u.val)).flr = false) :
    ∃ t, exec (.initiateFlr (.hostPf u)) s = .next t ∧ t = { s with mov := t.mov, hlm := t.hlm } ∧ (t.fn (0x8000 + u.val)).flr = true ∧
      (∀ g ∈ SMap.get s.mov.allot u.val [], (t.fn g).flr = true) ∧ u.val ∉ t.mov.vfEnable ∧ t.mov.allot = s.mov.allot := by
  have hlive : s.fnLive (0x8000 + u.val) = true := by
    have hkey : s.fnUsp (0x8000 + u.val) = some u.val := by
      have hvf : ¬ isVf (0x8000 + u.val) = true := by simp [isVf]
      rw [State.fnUsp, if_neg hvf, if_pos (by omega), Nat.add_sub_cancel_left]
    simp [State.fnLive, hkey, husp, isVf]
  have hexec : exec (.initiateFlr (.hostPf u)) s = .next (s.initiateFlr (0x8000 + u.val)) :=
    congrArg Host.Outcome.next (if_pos (show (s.fnLive (0x8000 + u.val) && !(s.fn (0x8000 + u.val)).flr) = true by simp [hlive, hflr]))
  obtain ⟨mov, hlm, hframe, hallot⟩ := s.initiateFlr_pf_frame u.isLt
  obtain ⟨hpf, hvfs, hoff⟩ := State.initiateFlr_pf_resets hwf u.isLt
  refine ⟨_, hexec, ?_, hpf, hvfs, hoff, ?_⟩ <;> rw [hframe]
  exact hallot

/-- R219, R220: the drain's end returns a VF to its reset values under the new generation, and counts what it squashed. -/
theorem flrDrainEnd_vf {g : Fin 1024} (hwf : SMap.wf s.mov.fns) (hflr : (s.fn g.val).flr = true) (hwaits : s.tbl.waits = [])
    (hslots : s.prt.ioSlots = []) :
    ∃ t, exec (.flrDrainEnd (.vf g)) s = .next t ∧ t = { s with mov := t.mov, flt := t.flt } ∧
      t.fn g.val = { FnSt.dflt 4 with
        gen := (s.fn g.val).gen, errReset := (s.fn g.val).errReset, bytesMoved := (s.fn g.val).bytesMoved, descDone := (s.fn g.val).descDone } ∧
      t.mov.ctxs = s.mov.ctxs.filter (fun c => c.fn != g.val) ∧ t.mov.admin = s.mov.admin ∧ (∀ j, j ≠ g.val → t.fn j = s.fn j) ∧
      (if ((s.mov.ctxs.filter (fun c => c.fn == g.val)).map (fun c => c.accs.length)).sum = 0 then t.flt = s.flt
        else ∃ e ∈ t.flt.waiting, e.src = 0x0B22 ∧ e.cls = 2) := by
  have hvf : isVf g.val = true := decide_eq_true (show g.val < 0x8000 by omega)
  have hvecs : fnVectors g.val = 4 := if_pos hvf
  have hset : (s.flrSet g.val).filter (fun j => (s.fn j).flr) = [g.val] := by
    rw [State.flrSet, if_pos hvf]
    simp [hflr]
  have hexec : exec (.flrDrainEnd (.vf g)) s = .next (s.flrEnd g.val) := by
    refine congrArg Host.Outcome.next ((if_pos hflr).trans ?_)
    change forEach ((s.flrSet g.val).filter (fun j => (s.fn j).flr)) _ s = _
    rw [hset]
    rfl
  have hself (t : State) (ht : SMap.wf t.mov.fns) : (t.drained g.val).fn g.val = (t.fn g.val).afterReset 4 := by
    rw [State.fn_drained_self ht, hvecs]
  refine ⟨_, hexec.trans (congrArg Host.Outcome.next (State.flrEnd_unawaited hwaits hslots g.val)), ?_⟩
  by_cases hnone : s.outstanding g.val = 0
  · rw [if_pos hnone]
    exact ⟨rfl, hself s hwf, rfl, rfl, fun j hj => State.fn_drained_ne s hj, (if_pos hnone).mpr rfl⟩
  · rw [if_neg hnone]
    refine ⟨rfl, hself (s.report 0x0B22 contained 0 _ _) hwf, rfl, rfl, fun j hj => State.fn_drained_ne (s.report 0x0B22 contained 0 _ _) hj, ?_⟩
    obtain ⟨e, he, hsrc, hcls, -⟩ := State.waits_report s 0x0B22 contained 0 (leBytes 2 g.val) (leBytes 4 (s.outstanding g.val))
    exact (if_neg hnone).mpr ⟨e, he, hsrc, hcls⟩

/-- R187: VF Enable is set only with NumVFs between 1 and the allotment. -/
theorem vfEnableWrite_off {u : Port} {n : BitVec 16} {en : Bool} (husp : s.isUsp u.val = true) (hoff : u.val ∉ s.mov.vfEnable)
    (hwf : SMap.wf s.mov.numVfs) :
    ∃ t, exec (.vfEnableWrite u n en) s = .next t ∧ t = { s with mov := { s.mov with numVfs := t.mov.numVfs, vfEnable := t.mov.vfEnable } } ∧
      SMap.get t.mov.numVfs u.val 0 = n.toNat ∧
      (u.val ∈ t.mov.vfEnable ↔ en = true ∧ 0 < n.toNat ∧ n.toNat ≤ (SMap.get s.mov.allot u.val []).length) := by
  have hnum := SMap.get_store_self s.mov.numVfs u.val n.toNat 0 hwf
  have hexec : exec (.vfEnableWrite u n en) s = .next (if en = true ∧ 0 < n.toNat ∧ n.toNat ≤ (SMap.get s.mov.allot u.val []).length
      then (s.withNumVfs u.val n.toNat).modMov (fun m => { m with vfEnable := addNew u.val m.vfEnable }) else s.withNumVfs u.val n.toNat) :=
    congrArg Host.Outcome.next ((if_neg (show ¬ (!s.isUsp u.val) = true by simp [husp])).trans
      (if_neg (show ¬ s.mov.vfEnable.contains u.val = true by simp [hoff])))
  by_cases hen : en = true ∧ 0 < n.toNat ∧ n.toNat ≤ (SMap.get s.mov.allot u.val []).length
  · have hadd : u.val ∈ addNew u.val s.mov.vfEnable := by simp [addNew, hoff]
    rw [if_pos hen] at hexec
    exact ⟨_, hexec, rfl, hnum, fun _ => hen, fun _ => hadd⟩
  · rw [if_neg hen] at hexec
    exact ⟨_, hexec, rfl, hnum, fun h => absurd h hoff, fun h => absurd h hen⟩

/-- R187, R222: while VF Enable is set NumVFs stays; clearing VF Enable resets the PF's functions. -/
theorem vfEnableWrite_on {u : Port} {n : BitVec 16} (hwf : SMap.wf s.mov.fns) (husp : s.isUsp u.val = true) (hon : u.val ∈ s.mov.vfEnable) :
    exec (.vfEnableWrite u n true) s = .next s ∧
    ∃ t, exec (.vfEnableWrite u n false) s = .next t ∧ u.val ∉ t.mov.vfEnable ∧ (t.fn (0x8000 + u.val)).flr = true ∧
      ∀ g ∈ SMap.get s.mov.allot u.val [], (t.fn g).flr = true := by
  have hset (en : Bool) : exec (.vfEnableWrite u n en) s = .next (if en then s else s.initiateFlr (0x8000 + u.val)) :=
    congrArg Host.Outcome.next ((if_neg (show ¬ (!s.isUsp u.val) = true by simp [husp])).trans
      (if_pos (show s.mov.vfEnable.contains u.val = true by simp [hon])))
  obtain ⟨hpf, hvfs, hoff⟩ := State.initiateFlr_pf_resets hwf u.isLt
  exact ⟨hset true, _, hset false, hoff, hpf, hvfs⟩

/-- R228: a failed engine is marked and reported CORRECTED. -/
theorem engineFailure_marks {e : Fin 32} (hwf : SMap.wf s.regs) (hok : s.engineOk e.val = true) (hbound : s.bound e.val = 0) :
    ∃ t, exec (.engineFailure e) s = .next t ∧ t = { s with regs := t.regs, flt := t.flt } ∧ t.engineOk e.val = false ∧
      (∀ j < 32, j ≠ e.val → t.engineOk j = s.engineOk j) ∧ t.flag Reg.MOV_STATUS_DEGRADED = true ∧
      (∃ x ∈ t.flt.waiting, x.src = 0x0B00 + e.val ∧ x.cls = 1) := by
  have hnone : s.mov.ctxs.filter (fun c => c.engine == e.val) = [] := List.eq_nil_of_length_eq_zero hbound
  have hexec := execEngineFailure_ok hok
  rw [hnone] at hexec
  obtain ⟨x, hx, hsrc, hcls, -⟩ := State.waits_report _ (0x0B00 + e.val) corrected 0 [byte e.val] []
  refine ⟨_, hexec, rfl, ?_, fun j hj hne => ?_, State.degraded_engineLost hwf e.val, x, hx, hsrc, hcls⟩
  · exact (State.engineOk_engineLost hwf hok e.isLt).trans (if_pos rfl)
  · exact (State.engineOk_engineLost hwf hok hj).trans (if_neg hne)

/-- R227: the descriptor of a failed engine is repeated from its start on another engine. -/
theorem engineFailure_repeats {e : Fin 32} {c : Ctx} (hwf : SMap.wf s.regs) (hok : s.engineOk e.val = true) (hctx : s.mov.ctxs = [c])
    (hengine : c.engine = e.val) (hsq : c.squashed = false) (hop : dOp c.desc ≠ 3) (hfn : c.fn ≠ mgmtKey)
    (hother : ∃ j < 32, j ≠ e.val ∧ s.engineOk j = true) (hcheck : s.descCheck c.fn c.desc = 0) :
    ∃ t d, exec (.engineFailure e) s = .next t ∧ t = { s with regs := t.regs, flt := t.flt, mov := t.mov } ∧ t.mov.ctxs = [d] ∧ d.id = s.mov.nextCtx ∧
      d.engine ≠ e.val ∧ t.engineOk d.engine = true ∧ d.desc = c.desc ∧ d.fn = c.fn ∧ d.gen = c.gen ∧ d.next = 0 ∧ d.accs = [] ∧ d.chunks = [] := by
  have hone : s.mov.ctxs.filter (fun c => c.engine == e.val) = [c] := by simp [hctx, hengine]
  have hexec := execEngineFailure_ok hok
  rw [hone] at hexec
  obtain ⟨j, hj, hne, hokj⟩ := hother
  obtain ⟨i, d, hrebind, hoki, hi, hd, hnext⟩ := State.rebind_repeats (s := s.engineLost e.val) hctx hsq hop hfn
    ⟨j, hj, (State.engineOk_engineLost hwf hok hj).trans ((if_neg hne).trans hokj)⟩ hcheck
  have hie : i ≠ e.val := by
    rintro rfl
    rw [State.engineOk_engineLost hwf hok hi, if_pos rfl] at hoki
    exact Bool.false_ne_true hoki
  refine ⟨_, d, hexec.trans (congrArg Host.Outcome.next hrebind), rfl, rfl, ?_⟩
  subst hd
  exact ⟨rfl, hie, hoki, rfl, rfl, rfl, hnext, rfl, rfl⟩

/-- R229: an SRAM error of a function's state resets it with ERR_RESET. -/
theorem moverSramError_function {g : Fin 1024} (hwf : SMap.wf s.mov.fns) :
    ∃ t, exec (.moverSramError (.function (.vf g))) s = .next t ∧ t = { s with mov := t.mov, flt := t.flt } ∧ (t.fn g.val).errReset = true ∧
      (t.fn g.val).flr = true ∧ (t.fn g.val).gen = ((s.fn g.val).gen + 1) % 256 ∧ (∀ c ∈ t.mov.ctxs, c.fn = g.val → c.squashed = true) ∧
      (∃ e ∈ t.flt.waiting, e.src = 0x0B30 ∧ e.cls = 2) := by
  have hg : g.val < 0x8000 := by omega
  have hmgmt : ¬ g.val = mgmtKey := by
    unfold mgmtKey
    omega
  have hexec : exec (.moverSramError (.function (.vf g))) s = .next ((s.sramFailed g.val).flrStart g.val) :=
    congrArg Host.Outcome.next (if_neg hmgmt)
  have hwf' : SMap.wf (s.sramFailed g.val).mov.fns :=
    State.wf_setFn (s := s.report 0x0B30 contained 0 (leBytes 2 g.val)) hwf g.val _
  have hself : ((s.sramFailed g.val).flrStart g.val).fn g.val =
      FnSt.resetting { s.fn g.val with errReset := true } :=
    (State.fn_flrStart_vf hg g.val).trans ((State.fn_flrBegun_self hwf' g.val).trans
      (congrArg FnSt.resetting (State.fn_modFn_self (s := s.report 0x0B30 contained 0 (leBytes 2 g.val)) hwf g.val _)))
  obtain ⟨fns, hframe⟩ := (s.sramFailed g.val).flrStart_frame g.val
  obtain ⟨e, he, hsrc, hcls, -⟩ := State.waits_report s 0x0B30 contained 0 (leBytes 2 g.val) []
  refine ⟨_, hexec, ?_, ?_, ?_, ?_, State.flrStart_squashes _ g.val, e, ?_, hsrc, hcls⟩
  · rw [hframe]
    rfl
  · rw [hself]
    rfl
  · rw [hself]
    rfl
  · rw [hself]
    rfl
  · rw [hframe]
    exact he

/-- R229: an SRAM error of shared state is FATAL. -/
theorem moverSramError_shared (s : State) : ∃ t, exec (.moverSramError .shared) s = .next t ∧ t = { s with flt := t.flt } ∧
    (∃ e ∈ t.flt.waiting, e.src = 0x0B31 ∧ e.cls = 3) := by
  obtain ⟨e, he, hsrc, hcls, -⟩ := State.waits_report s 0x0B31 fatal 0 [] []
  exact ⟨_, rfl, rfl, e, he, hsrc, hcls⟩

end

/-- Settles O54: the lemmas above, one for each clause; a correctable SRAM error changes nothing by definition. -/
theorem moverResets : Obligations.MoverResets :=
  ⟨fun _ _ => initiateFlr_resetsVf, fun _ _ => initiateFlr_resetsPf, fun _ _ => flrDrainEnd_vf, fun _ _ _ _ => vfEnableWrite_off,
    fun _ _ _ => vfEnableWrite_on, fun _ _ => engineFailure_marks, fun _ _ _ => engineFailure_repeats, fun _ => rfl,
    fun _ _ => moverSramError_function, moverSramError_shared⟩

end Sys2Proof.Claims

namespace Sys2Proof.Machine

/-! ## Parts of byte strings -/

/-- A byte of a part is the byte there, 0 behind the end. -/
theorem getElem?_slice (b : Bytes) (off : Nat) {n i : Nat} (hi : i < n) : (slice b off n)[i]? = some (b[off + i]?.getD 0) := by
  unfold slice
  dsimp only
  by_cases hin : off + i < b.length
  · have hlt : i < ((b.drop off).take n).length := by
      rw [List.length_take, List.length_drop]
      omega
    rw [List.getElem?_append_left hlt, List.getElem?_take_of_lt hi, List.getElem?_drop, List.getElem?_eq_getElem hin]
    rfl
  · have hge : ((b.drop off).take n).length ≤ i := by
      rw [List.length_take, List.length_drop]
      omega
    have hpad : i - ((b.drop off).take n).length < n - ((b.drop off).take n).length := by omega
    rw [List.getElem?_append_right hge, List.getElem?_replicate_of_lt hpad, List.getElem?_eq_none (Nat.le_of_not_lt hin)]
    rfl

/-- A part of a part. -/
theorem slice_slice (b : Bytes) (off : Nat) {n i m : Nat} (h : i + m ≤ n) : slice (slice b off n) i m = slice b (off + i) m := by
  refine List.ext_getElem? fun j => ?_
  by_cases hj : j < m
  · rw [getElem?_slice _ _ hj, getElem?_slice _ _ hj, getElem?_slice _ _ (show i + j < n by omega), ← Nat.add_assoc]
    rfl
  · rw [List.getElem?_eq_none (by simpa using hj), List.getElem?_eq_none (by simpa using hj)]

/-- A field of a part. -/
theorem fieldAt_slice (b : Bytes) (off : Nat) {n i m : Nat} (h : i + m ≤ n) : fieldAt (slice b off n) i m = fieldAt b (off + i) m :=
  congrArg leNat (slice_slice b off h)

/-! ## The blob of a VF (Table 4-14) -/

section
variable (s : State) (k : Nat)

theorem State.length_blobBody (key : Nat) : (s.blobBody k key).length = 464 := length_slice _ _ _

theorem State.blobBody_magic (key : Nat) : fieldAt (s.blobBody k key) 0 4 = 0x564D5A43 := by
  unfold State.blobBody
  dsimp only
  rw [fieldAt_slice _ _ (by decide)]
  simp only [List.append_assoc]
  rw [fieldAt_leBytes_zero]
  rfl

theorem State.blobBody_key {key : Nat} (hkey : key < 256) : fieldAt (s.blobBody k key) 20 1 = key := by
  unfold State.blobBody
  dsimp only
  rw [fieldAt_slice _ _ (by decide)]
  simp only [List.append_assoc]
  rw [fieldAt_append_right 16 (by simp), fieldAt_append_right 14 (by simp), fieldAt_append_right 12 (by simp),
    fieldAt_append_right 4 (by simp), fieldAt_append_right 0 (by simp), fieldAt_leBytes_zero, pow_one, Nat.mod_eq_of_lt hkey]

end

/-- A ring that a blob spells has the blob's base and nothing fetched. -/
theorem FnSt.sq_ofBlob (x : FnSt) (b : Bytes) {r : Nat} (hr : r < 4) :
    ((x.ofBlob b).sq r).base = fieldAt b (32 + 32 * r) 8 ∧ ((x.ofBlob b).sq r).fetched = [] := by
  have hring : (x.ofBlob b).sq r = Sq.ofBlob (slice b (32 + 32 * r) 32) := by
    simp [FnSt.sq, FnSt.ofBlob, List.getD_eq_getElem?_getD, hr]
  rw [hring]
  exact ⟨fieldAt_slice b _ (by decide), rfl⟩

/-! ## Migration operations (R224 to R226) -/

/-- A host PF whose operation `op` on its VF `vf` has begun. -/
def FnSt.migBegun (x : FnSt) (vf op : Nat) : FnSt := { x with migVf := vf, migOp := op, migBusy := true }

/-- A host PF whose operation has ended. -/
def FnSt.migDone (x : FnSt) (result : Nat) : FnSt := { x with migBusy := false, migResult := result }

/-- USP `u` may begin an operation, on its VF `vf`, which is VF `k` of the module. -/
structure State.MayMigrate (s : State) (u vf k : Nat) : Prop where
  wf : SMap.wf s.mov.fns
  usp : s.isUsp u = true
  idle : (s.fn (0x8000 + u)).migBusy = false
  names : s.migVf? u vf = some k
  vf : k < 1024

section
variable {s : State} {u vf k : Nat}

/-- The GO write is taken. -/
theorem State.MayMigrate.taken (h : s.MayMigrate u vf k) : ¬ ((!s.isUsp u) = true ∨ (s.fn (0x8000 + u)).migBusy = true) := by
  simp [h.usp, h.idle]

/-- The VF and its host PF are two functions. -/
theorem State.MayMigrate.ne (h : s.MayMigrate u vf k) : k ≠ 0x8000 + u := by
  have hk := h.vf
  omega

/-- The VF that the operation names. -/
theorem State.MayMigrate.global (h : s.MayMigrate u vf k) : s.vfGlobal u vf = some k := by
  have hnames := h.names
  unfold State.migVf? at hnames
  split at hnames
  · exact hnames
  · exact absurd hnames nofun

theorem State.wf_migGo (hwf : SMap.wf s.mov.fns) (u vf op : Nat) : SMap.wf (s.migGo u vf op).mov.fns := State.wf_setFn hwf _ _

theorem State.fn_migGo_self (hwf : SMap.wf s.mov.fns) (u vf op : Nat) :
    (s.migGo u vf op).fn (0x8000 + u) = (s.fn (0x8000 + u)).migBegun vf op :=
  State.fn_modFn_self hwf _ _

theorem State.fn_migGo_ne {j : Nat} (hj : j ≠ 0x8000 + u) (vf op : Nat) : (s.migGo u vf op).fn j = s.fn j := State.fn_modFn_ne hj _

theorem State.fn_migEnd_self (hwf : SMap.wf s.mov.fns) (u result : Nat) :
    (s.migEnd u result).fn (0x8000 + u) = (s.fn (0x8000 + u)).migDone result :=
  State.fn_modFn_self hwf _ _

theorem State.fn_migEnd_ne {j : Nat} (hj : j ≠ 0x8000 + u) (result : Nat) : (s.migEnd u result).fn j = s.fn j := State.fn_modFn_ne hj _

/-- The GO write of a SAVE names a key too. -/
def State.migGoSave (s : State) (u vf key : Nat) : State := (s.migGo u vf 1).modFn (0x8000 + u) (fun p => { p with migKey := key })

theorem State.wf_migGoSave (hwf : SMap.wf s.mov.fns) (u vf key : Nat) : SMap.wf (s.migGoSave u vf key).mov.fns :=
  State.wf_setFn (State.wf_migGo hwf u vf 1) _ _

theorem State.fn_migGoSave_self (hwf : SMap.wf s.mov.fns) (u vf key : Nat) :
    (s.migGoSave u vf key).fn (0x8000 + u) = { (s.fn (0x8000 + u)).migBegun vf 1 with migKey := key } := by
  rw [State.migGoSave, State.fn_modFn_self (State.wf_migGo hwf u vf 1), State.fn_migGo_self hwf]

theorem State.fn_migGoSave_ne {j : Nat} (hj : j ≠ 0x8000 + u) (vf key : Nat) : (s.migGoSave u vf key).fn j = s.fn j :=
  (State.fn_modFn_ne hj _).trans (State.fn_migGo_ne hj vf 1)

/-! ## What storing functions leaves -/

theorem State.setFn_frame (s : State) (k : Nat) (x : FnSt) : ∃ fns, s.setFn k x = { s with mov := { s.mov with fns := fns } } := ⟨_, rfl⟩

theorem State.migGo_frame (s : State) (u vf op : Nat) : ∃ fns, s.migGo u vf op = { s with mov := { s.mov with fns := fns } } :=
  s.setFn_frame _ _

theorem State.migEnd_frame (s : State) (u result : Nat) : ∃ fns, s.migEnd u result = { s with mov := { s.mov with fns := fns } } :=
  s.setFn_frame _ _

theorem State.migGoSave_frame (s : State) (u vf key : Nat) : ∃ fns, s.migGoSave u vf key = { s with mov := { s.mov with fns := fns } } := by
  obtain ⟨fns, hgo⟩ := s.migGo_frame u vf 1
  obtain ⟨fns', hset⟩ := (s.migGo u vf 1).setFn_frame (0x8000 + u) { (s.migGo u vf 1).fn (0x8000 + u) with migKey := key }
  refine ⟨fns', hset.trans ?_⟩
  rw [hgo]

/-- The operation names the same VF once its GO write is taken. -/
theorem State.migVf?_migGoSave (s : State) (u vf key a i : Nat) : (s.migGoSave u vf key).migVf? a i = s.migVf? a i := by
  obtain ⟨fns, hframe⟩ := s.migGoSave_frame u vf key
  rw [hframe]
  rfl

theorem State.migKey?_migGoSave (s : State) (u vf key a i : Nat) : (s.migGoSave u vf key).migKey? a i = s.migKey? a i := by
  obtain ⟨fns, hframe⟩ := s.migGoSave_frame u vf key
  rw [hframe]
  rfl

theorem State.pfRid_migGoSave (s : State) (u vf key a : Nat) : (s.migGoSave u vf key).pfRid a = s.pfRid a := by
  obtain ⟨fns, hframe⟩ := s.migGoSave_frame u vf key
  rw [hframe]
  rfl

/-- The installed key of a number. -/
theorem State.migKey?_some {key : Nat} {x : Bytes} (h : s.hlm.migKeys.find? (fun y => y.1 == u && y.2.1 == key) = some (u, key, x)) :
    s.migKey? u key = some x := by
  rw [State.migKey?, h]
  rfl

/-- A number without a key. -/
theorem State.migKey?_none {key : Nat} (h : s.hlm.migKeys.all (fun y => y.1 != u || y.2.1 != key) = true) : s.migKey? u key = none := by
  have hnone : s.hlm.migKeys.find? (fun y => y.1 == u && y.2.1 == key) = none := by
    rw [List.find?_eq_none]
    intro y hy
    simpa [imp_iff_not_or] using List.all_eq_true.1 h y hy
  rw [State.migKey?, hnone]
  rfl

end

/-! ## What each operation does -/

section
variable {s : State} {u : Port} {vf : Fin 1024} {k : Nat}

/-- `s` after a FREEZE of VF `k` has begun. -/
def State.freezeGo (s : State) (u vf k : Nat) : State := (s.migGo u vf 0).setFn k { s.fn k with freezing := true }

/-- FREEZE of a VF that runs. -/
theorem execMigrationFreeze_running (h : s.MayMigrate u.val vf.val k) (hfreezing : (s.fn k).freezing = false) (hfrozen : (s.fn k).frozen = false)
    (hflr : (s.fn k).flr = false) : execMigrationFreeze u vf s =
    .next ((s.freezeGo u.val vf.val k).freezeEnd k) := by
  have hk : (s.migGo u.val vf.val 0).fn k = s.fn k := State.fn_migGo_ne h.ne _ _
  have hnames : (s.migGo u.val vf.val 0).migVf? u.val vf.val = some k := h.names
  refine congrArg Host.Outcome.next ((if_neg h.taken).trans ?_)
  have hgate : ¬ ((s.fn k).freezing || (s.fn k).frozen || (s.fn k).flr) = true := by simp [hfreezing, hfrozen, hflr]
  simp only [hnames, hk]
  exact if_neg hgate

section
variable (h : s.MayMigrate u.val vf.val k) (key : Fin 8) (ok : Bool)
include h

/-- SAVE of a VF that is not FROZEN ends with BAD_STATE. -/
theorem execMigrationSave_refused (hfrozen : (s.fn k).frozen = false) :
    execMigrationSave u vf key ok s = .next ((s.migGoSave u.val vf.val key.val).migEnd u.val 1) := by
  have hk : (s.migGoSave u.val vf.val key.val).fn k = s.fn k := State.fn_migGoSave_ne h.ne _ _
  have hnames : (s.migGoSave u.val vf.val key.val).migVf? u.val vf.val = some k := (State.migVf?_migGoSave s ..).trans h.names
  have hgate : (!(s.fn k).frozen || (s.fn k).flr) = true := by simp [hfrozen]
  rw [State.migGoSave] at hk hnames ⊢
  simp only [execMigrationSave, if_neg h.taken, hnames, hk, if_pos hgate]

variable (hfrozen : (s.fn k).frozen = true) (hflr : (s.fn k).flr = false)
include hfrozen hflr

/-- SAVE without its key ends with NO_KEY. -/
theorem execMigrationSave_noKey (hkey : s.migKey? u.val key.val = none) :
    execMigrationSave u vf key ok s = .next ((s.migGoSave u.val vf.val key.val).migEnd u.val 3) := by
  have hk : (s.migGoSave u.val vf.val key.val).fn k = s.fn k := State.fn_migGoSave_ne h.ne _ _
  have hnames : (s.migGoSave u.val vf.val key.val).migVf? u.val vf.val = some k := (State.migVf?_migGoSave s ..).trans h.names
  have hkey' : (s.migGoSave u.val vf.val key.val).migKey? u.val key.val = none := (State.migKey?_migGoSave s ..).trans hkey
  have hgate : ¬ (!(s.fn k).frozen || (s.fn k).flr) = true := by simp [hfrozen, hflr]
  rw [State.migGoSave] at hk hnames hkey' ⊢
  simp only [execMigrationSave, if_neg h.taken, hnames, hk, hkey', if_neg hgate]

/-- SAVE of a FROZEN VF writes the body of the blob and its HMAC, or ends with DMA_ERR when the write fails. -/
theorem execMigrationSave_written {x : Bytes} (hkey : s.migKey? u.val key.val = some x) :
    execMigrationSave u vf key ok s = .next (if ok = true then ((s.migGoSave u.val vf.val key.val).emit (.hostWrite u.val (s.pfRid u.val)
      (s.fn (0x8000 + u.val)).migAddr ((s.blobBody k key.val) ++ digestBytes (Config.hmac384 x (s.blobBody k key.val))))).migEnd u.val 0
      else (s.migGoSave u.val vf.val key.val).migEnd u.val 6) := by
  have hk : (s.migGoSave u.val vf.val key.val).fn k = s.fn k := State.fn_migGoSave_ne h.ne _ _
  have hnames : (s.migGoSave u.val vf.val key.val).migVf? u.val vf.val = some k := (State.migVf?_migGoSave s ..).trans h.names
  have hkey' : (s.migGoSave u.val vf.val key.val).migKey? u.val key.val = some x := (State.migKey?_migGoSave s ..).trans hkey
  have haddr : ((s.migGoSave u.val vf.val key.val).fn (0x8000 + u.val)).migAddr = (s.fn (0x8000 + u.val)).migAddr := by
    rw [State.fn_migGoSave_self h.wf]
    rfl
  have hbody : (s.migGoSave u.val vf.val key.val).blobBody k key.val = s.blobBody k key.val := by
    unfold State.blobBody
    rw [hk]
    rfl
  have hrid : (s.migGoSave u.val vf.val key.val).pfRid u.val = s.pfRid u.val := State.pfRid_migGoSave s ..
  have hgate : ¬ (!(s.fn k).frozen || (s.fn k).flr) = true := by simp [hfrozen, hflr]
  rw [State.migGoSave] at hk hnames hkey' haddr hbody hrid ⊢
  simp only [execMigrationSave, if_neg h.taken, hnames, hk, hkey', haddr, hbody, hrid, if_neg hgate]
  cases ok with
  | true => rfl
  | false => rfl

end

/-- RESUME of a VF that is neither FROZEN nor FREEZING ends with BAD_STATE. -/
theorem execMigrationResume_refused (h : s.MayMigrate u.val vf.val k) (hfrozen : (s.fn k).frozen = false)
    (hfreezing : (s.fn k).freezing = false) : execMigrationResume u vf s = .next ((s.migGo u.val vf.val 3).migEnd u.val 1) := by
  have hk : (s.migGo u.val vf.val 3).fn k = s.fn k := State.fn_migGo_ne h.ne _ _
  have hnames : (s.migGo u.val vf.val 3).migVf? u.val vf.val = some k := h.names
  refine congrArg Host.Outcome.next ((if_neg h.taken).trans ?_)
  simp only [hnames, hk, hfrozen, hfreezing]
  rfl

/-- RESUME of a FROZEN VF ends its freeze and sends what is pending. -/
theorem execMigrationResume_frozen (h : s.MayMigrate u.val vf.val k) (hfrozen : (s.fn k).frozen = true) (hflr : (s.fn k).flr = false) :
    execMigrationResume u vf s =
      .next ((((s.migGo u.val vf.val 3).setFn k { s.fn k with freezing := false, frozen := false }).flushVecs k).migEnd u.val 0) := by
  have hk : (s.migGo u.val vf.val 3).fn k = s.fn k := State.fn_migGo_ne h.ne _ _
  have hnames : (s.migGo u.val vf.val 3).migVf? u.val vf.val = some k := h.names
  refine congrArg Host.Outcome.next ((if_neg h.taken).trans ?_)
  simp only [hnames, hk, hfrozen, hflr]
  rfl

/-- `s` after a RESTORE has begun and its blob has been read. -/
def State.blobRead (s : State) (u vf : Nat) : State :=
  (s.migGo u vf 2).emit (.hostRead u (s.pfRid u) (s.fn (0x8000 + u)).migAddr 512 1024)

/-- RESTORE of a blob whose header passes loads it when its HMAC is right, and records the failure when it is not. -/
theorem execMigrationRestore_checked (h : s.MayMigrate u.val vf.val k) {body mac x : Bytes} (hsq : (s.fn k).sqs.any Sq.en = false)
    (hcq : (s.fn k).cqEn = false) (hflr : (s.fn k).flr = false) (hbody : body.length = 464) (hmac : mac.length = 48)
    (hmagic : fieldAt body 0 4 = 0x564D5A43) (hversion : fieldAt body 4 2 = 1) (hserial : fieldAt body 8 8 = Config.deviceSerial.toNat)
    (hboot : fieldAt body 16 4 = s.get Reg.HLM_BOOT_COUNTER) (hkey : s.migKey? u.val (fieldAt body 20 1) = some x) :
    execMigrationRestore u vf (body ++ mac) true s = .next (if mac ≠ digestBytes (Config.hmac384 x body)
      then ((s.blobRead u.val vf.val).migEnd u.val 4).report 0x0B23 contained 0 (leBytes 2 k)
      else ((s.blobRead u.val vf.val).setFn k ((s.fn k).ofBlob (body ++ mac))).migEnd u.val 0) := by
  have hk : (s.migGo u.val vf.val 2).fn k = s.fn k := State.fn_migGo_ne h.ne _ _
  have hnames : (s.migGo u.val vf.val 2).migVf? u.val vf.val = some k := h.names
  have haddr : ((s.migGo u.val vf.val 2).fn (0x8000 + u.val)).migAddr = (s.fn (0x8000 + u.val)).migAddr := by
    rw [State.fn_migGo_self h.wf]
    rfl
  have hrid : (s.migGo u.val vf.val 2).pfRid u.val = s.pfRid u.val := rfl
  have hfield {off n : Nat} (hin : off + n ≤ 464) : fieldAt (body ++ mac) off n = fieldAt body off n := fieldAt_append_left (by omega) mac
  have hbodyAt : slice (body ++ mac) 0 464 = body := by
    have hslice := slice_append [] body mac
    rwa [hbody] at hslice
  have hmacAt : slice (body ++ mac) 464 48 = mac := by
    have hslice := slice_append body mac []
    rwa [hbody, hmac, List.append_nil] at hslice
  have hheader : ¬ (fieldAt (body ++ mac) 0 4 ≠ blobMagic ∨ fieldAt (body ++ mac) 4 2 ≠ 1 ∨
      fieldAt (body ++ mac) 8 8 ≠ Config.deviceSerial.toNat ∨ fieldAt (body ++ mac) 16 4 ≠ (s.blobRead u.val vf.val).get Reg.HLM_BOOT_COUNTER) := by
    rw [hfield (by decide), hfield (by decide), hfield (by decide), hfield (by decide), hmagic, hversion, hserial, hboot]
    exact not_or.2 ⟨not_not.2 rfl, not_or.2 ⟨not_not.2 rfl, not_or.2 ⟨not_not.2 rfl, not_not.2 rfl⟩⟩⟩
  have hkey' : (s.blobRead u.val vf.val).migKey? u.val (fieldAt (body ++ mac) 20 1) = some x := by
    rw [hfield (by decide)]
    exact hkey
  have hgate : ¬ ((s.fn k).sqs.any Sq.en || (s.fn k).cqEn || (s.fn k).flr) = true := by simp [hsq, hcq, hflr]
  rw [State.blobRead] at hheader hkey' ⊢
  simp only [execMigrationRestore, if_neg h.taken, hnames, hk, haddr, hrid, if_neg hgate, if_neg hheader, hkey', hbodyAt, hmacAt]
  rfl

end

end Sys2Proof.Machine

namespace Sys2Proof.Machine

/-! ## What beginning and ending an operation leaves -/

theorem State.freezeGo_frame (s : State) (u vf k : Nat) : ∃ fns, s.freezeGo u vf k = { s with mov := { s.mov with fns := fns } } := by
  obtain ⟨fns, hgo⟩ := s.migGo_frame u vf 0
  obtain ⟨fns', hset⟩ := (s.migGo u vf 0).setFn_frame k { s.fn k with freezing := true }
  refine ⟨fns', hset.trans ?_⟩
  rw [hgo]

/-- An operation that ends at once sends nothing. -/
theorem State.migGo_migEnd_out (s : State) (u vf op result : Nat) : ((s.migGo u vf op).migEnd u result).out = s.out := by
  obtain ⟨fns, hend⟩ := (s.migGo u vf op).migEnd_frame u result
  obtain ⟨fns', hgo⟩ := s.migGo_frame u vf op
  rw [hend, hgo]

theorem State.migGoSave_migEnd_out (s : State) (u vf key result : Nat) : ((s.migGoSave u vf key).migEnd u result).out = s.out := by
  obtain ⟨fns, hend⟩ := (s.migGoSave u vf key).migEnd_frame u result
  obtain ⟨fns', hgo⟩ := s.migGoSave_frame u vf key
  rw [hend, hgo]

/-! ## The end of a FREEZE of an idle VF (Table 4-12) -/

section
variable {s : State} {k : Nat}

theorem State.wf_freezeGo (hwf : SMap.wf s.mov.fns) (u vf k : Nat) : SMap.wf (s.freezeGo u vf k).mov.fns :=
  State.wf_setFn (State.wf_migGo hwf u vf 0) _ _

theorem State.fn_freezeGo_self (hwf : SMap.wf s.mov.fns) (u vf k : Nat) : (s.freezeGo u vf k).fn k = { s.fn k with freezing := true } :=
  State.fn_setFn_self (State.wf_migGo hwf u vf 0) _ _

theorem State.fn_freezeGo_pf {u vf : Nat} (h : s.MayMigrate u vf k) :
    (s.freezeGo u vf k).fn (0x8000 + u) = (s.fn (0x8000 + u)).migBegun vf 0 :=
  (State.fn_setFn_ne h.ne.symm _).trans (State.fn_migGo_self h.wf u vf 0)

/-- While a descriptor of the function is open or fetched its FREEZE goes on. -/
theorem State.freezeEnd_waits (h : ¬ (s.fnCtxs k = [] ∧ (s.fn k).sqs.all (fun q => q.fetched.isEmpty) = true)) : s.freezeEnd k = s := by
  refine if_neg fun hend => h ?_
  simp only [Bool.and_eq_true, List.isEmpty_iff] at hend
  obtain ⟨⟨-, hctxs⟩, hfetched⟩ := hend
  exact ⟨hctxs, hfetched⟩

/-- With nothing open or fetched the function is FROZEN, and the operation of its host PF ends. -/
theorem State.freezeEnd_frozen {u : Nat} (hfreezing : (s.fn k).freezing = true) (hfrozen : (s.fn k).frozen = false)
    (hctxs : s.fnCtxs k = []) (hfetched : (s.fn k).sqs.all (fun q => q.fetched.isEmpty) = true) (husp : s.fnUsp k = some u)
    (hne : 0x8000 + u ≠ k) (hbusy : (s.fn (0x8000 + u)).migBusy = true) (hop : (s.fn (0x8000 + u)).migOp = 0)
    (hvf : s.vfGlobal u (s.fn (0x8000 + u)).migVf = some k) :
    s.freezeEnd k = (s.setFn k { s.fn k with freezing := false, frozen := true }).setFn (0x8000 + u) ((s.fn (0x8000 + u)).migDone 0) := by
  have husp' : (s.setFn k { s.fn k with freezing := false, frozen := true }).fnUsp k = some u := husp
  have hpf := State.fn_setFn_ne (s := s) hne { s.fn k with freezing := false, frozen := true }
  have hvf' : (s.setFn k { s.fn k with freezing := false, frozen := true }).vfGlobal u (s.fn (0x8000 + u)).migVf = some k := hvf
  have hidle : ((s.fn k).freezing && !(s.fn k).frozen && (s.fnCtxs k).isEmpty && (s.fn k).sqs.all (fun q => q.fetched.isEmpty)) = true := by
    rw [hfreezing, hfrozen, hctxs, hfetched]
    rfl
  refine (if_pos hidle).trans ?_
  have hends : ((s.fn (0x8000 + u)).migBusy && (s.fn (0x8000 + u)).migOp == 0 &&
      (s.setFn k { s.fn k with freezing := false, frozen := true }).vfGlobal u (s.fn (0x8000 + u)).migVf == some k) = true := by
    simp [hbusy, hop, hvf']
  simp only [husp', State.modFn, hpf, hends, if_true]
  rfl

end

end Sys2Proof.Machine

namespace Sys2Proof.Claims

open Sys2Proof.Machine

/-! ## O55, clause by clause -/

section
variable {s : State} {u : Port} {vf : Fin 1024} {k : Nat}

/-- R225: FREEZE of an idle VF freezes it at once; with work open it stays FREEZING, and the operation busy. -/
theorem migrationFreeze_freezes (h : s.MayMigrate u.val vf.val k) (husp : s.fnUsp k = some u.val) (hfreezing : (s.fn k).freezing = false)
    (hfrozen : (s.fn k).frozen = false) (hflr : (s.fn k).flr = false) :
    ∃ t, exec (.migrationFreeze u vf) s = .next t ∧ t = { s with mov := t.mov } ∧ t.mov.ctxs = s.mov.ctxs ∧
      (if s.fnCtxs k = [] ∧ (s.fn k).sqs.all (fun q => q.fetched.isEmpty) = true
        then t.fn k = { s.fn k with frozen := true } ∧ (t.fn (0x8000 + u.val)).migBusy = false ∧ (t.fn (0x8000 + u.val)).migResult = 0
        else t.fn k = { s.fn k with freezing := true } ∧ (t.fn (0x8000 + u.val)).migBusy = true) := by
  have hexec := execMigrationFreeze_running h hfreezing hfrozen hflr
  have hwf := State.wf_freezeGo h.wf u.val vf.val k
  have hk := State.fn_freezeGo_self h.wf u.val vf.val k
  have hpf := State.fn_freezeGo_pf h
  obtain ⟨fns, hframe⟩ := s.freezeGo_frame u.val vf.val k
  by_cases hidle : s.fnCtxs k = [] ∧ (s.fn k).sqs.all (fun q => q.fetched.isEmpty) = true
  · have hends : (s.freezeGo u.val vf.val k).freezeEnd k =
        ((s.freezeGo u.val vf.val k).setFn k { s.fn k with freezing := false, frozen := true }).setFn (0x8000 + u.val)
          (((s.fn (0x8000 + u.val)).migBegun vf.val 0).migDone 0) := by
      refine (State.freezeEnd_frozen (s := s.freezeGo u.val vf.val k) (k := k) (u := u.val) (by rw [hk]) (by rw [hk]; exact hfrozen)
        hidle.1 (by rw [hk]; exact hidle.2)
        husp h.ne.symm (by rw [hpf]; rfl) (by rw [hpf]; rfl) (by rw [hpf]; exact h.global)).trans ?_
      rw [hk, hpf]
    obtain ⟨fns₁, hset⟩ := (s.freezeGo u.val vf.val k).setFn_frame k { s.fn k with freezing := false, frozen := true }
    obtain ⟨fns₂, hset'⟩ := ((s.freezeGo u.val vf.val k).setFn k { s.fn k with freezing := false, frozen := true }).setFn_frame (0x8000 + u.val)
      (((s.fn (0x8000 + u.val)).migBegun vf.val 0).migDone 0)
    have hwf' := State.wf_setFn hwf k { s.fn k with freezing := false, frozen := true }
    have hfrozen' : { s.fn k with freezing := false, frozen := true } = { s.fn k with frozen := true } := by rw [← hfreezing]
    refine ⟨_, hexec.trans (congrArg Host.Outcome.next hends), ?_, ?_, ?_⟩
    · rw [hset', hset, hframe]
    · rw [hset', hset, hframe]
    · rw [if_pos hidle, State.fn_setFn_ne h.ne, State.fn_setFn_self hwf, State.fn_setFn_self hwf']
      exact ⟨hfrozen', rfl, rfl⟩
  · rw [State.freezeEnd_waits (by rw [hk]; exact hidle)] at hexec
    refine ⟨_, hexec, ?_, ?_, ?_⟩
    · rw [hframe]
    · rw [hframe]
    · rw [if_neg hidle, hk, hpf]
      exact ⟨rfl, rfl⟩

/-- R225: FREEZE_TO ends the operation with TIMEOUT. -/
theorem freezeTimeout_ends {f : Fin 1024} {u : Nat} (husp : s.fnUsp f.val = some u) (hfreezing : (s.fn f.val).freezing = true)
    (hbusy : (s.fn (0x8000 + u)).migBusy = true) (hop : (s.fn (0x8000 + u)).migOp = 0)
    (hvf : s.vfGlobal u (s.fn (0x8000 + u)).migVf = some f.val) :
    exec (.freezeTimeout f) s = .next (s.setFn (0x8000 + u) { s.fn (0x8000 + u) with migBusy := false, migResult := 2 }) := by
  have hexec : exec (.freezeTimeout f) s = execFreezeTimeout f s := rfl
  simp only [hexec, execFreezeTimeout, husp]
  exact congrArg Host.Outcome.next (if_pos (by simp [hfreezing, hbusy, hop, hvf]))

/-- Table 4-15: SAVE and RESUME of a VF that is not FROZEN end with BAD_STATE and leave it. -/
theorem migration_refused {key : Fin 8} {ok : Bool} (h : s.MayMigrate u.val vf.val k) (hfrozen : (s.fn k).frozen = false)
    (hfreezing : (s.fn k).freezing = false) :
    ∃ t t', exec (.migrationSave u vf key ok) s = .next t ∧ exec (.migrationResume u vf) s = .next t' ∧
      (t.fn (0x8000 + u.val)).migResult = 1 ∧ (t'.fn (0x8000 + u.val)).migResult = 1 ∧ t.out = s.out ∧ t'.out = s.out ∧
      (∀ j, j ≠ 0x8000 + u.val → t.fn j = s.fn j ∧ t'.fn j = s.fn j) := by
  refine ⟨_, _, execMigrationSave_refused h key ok hfrozen, execMigrationResume_refused h hfrozen hfreezing, ?_, ?_,
    State.migGoSave_migEnd_out s .., State.migGo_migEnd_out s .., fun j hj => ⟨?_, ?_⟩⟩
  · rw [State.fn_migEnd_self (State.wf_migGoSave h.wf u.val vf.val key.val)]
    rfl
  · rw [State.fn_migEnd_self (State.wf_migGo h.wf u.val vf.val 3)]
    rfl
  · rw [State.fn_migEnd_ne hj, State.fn_migGoSave_ne hj]
  · rw [State.fn_migEnd_ne hj, State.fn_migGo_ne hj]

/-- R225: SAVE of a FROZEN VF writes 512 bytes, the body and its HMAC under the key; a failed write ends it with DMA_ERR. -/
theorem migrationSave_writes {key : Fin 8} {x : Bytes} (h : s.MayMigrate u.val vf.val k) (hfrozen : (s.fn k).frozen = true)
    (hflr : (s.fn k).flr = false)
    (hkey : s.hlm.migKeys.find? (fun y => y.1 == u.val && y.2.1 == key.val) = some (u.val, key.val, x)) :
    ∃ t t' b, exec (.migrationSave u vf key true) s = .next t ∧ exec (.migrationSave u vf key false) s = .next t' ∧
      t = { s with mov := t.mov, out := t.out } ∧ b.length = 464 ∧ fieldAt b 0 4 = 0x564D5A43 ∧ fieldAt b 20 1 = key.val ∧
      t.out = .hostWrite u.val (s.pfRid u.val) (s.fn (0x8000 + u.val)).migAddr (b ++ digestBytes (Config.hmac384 x b)) :: s.out ∧
      (t.fn (0x8000 + u.val)).migResult = 0 ∧ (t.fn (0x8000 + u.val)).migBusy = false ∧ t.fn k = s.fn k ∧
      t'.out = s.out ∧ (t'.fn (0x8000 + u.val)).migResult = 6 := by
  have hwf := State.wf_migGoSave h.wf u.val vf.val key.val
  have hwritten := execMigrationSave_written h key true hfrozen hflr (State.migKey?_some hkey)
  have hfailed := execMigrationSave_written h key false hfrozen hflr (State.migKey?_some hkey)
  rw [if_pos rfl] at hwritten
  rw [if_neg Bool.false_ne_true] at hfailed
  obtain ⟨fns, hgo⟩ := s.migGoSave_frame u.val vf.val key.val
  obtain ⟨fns', hend⟩ := ((s.migGoSave u.val vf.val key.val).emit (.hostWrite u.val (s.pfRid u.val) (s.fn (0x8000 + u.val)).migAddr
    (s.blobBody k key.val ++ digestBytes (Config.hmac384 x (s.blobBody k key.val))))).migEnd_frame u.val 0
  have hpf := State.fn_migEnd_self (s := (s.migGoSave u.val vf.val key.val).emit (.hostWrite u.val (s.pfRid u.val)
    (s.fn (0x8000 + u.val)).migAddr (s.blobBody k key.val ++ digestBytes (Config.hmac384 x (s.blobBody k key.val))))) hwf u.val 0
  refine ⟨_, _, s.blobBody k key.val, hwritten, hfailed, ?_, State.length_blobBody s k _, State.blobBody_magic s k _,
    State.blobBody_key s k (by omega), ?_, ?_, ?_, ?_, State.migGoSave_migEnd_out s .., ?_⟩
  · rw [hend, hgo]
    rfl
  · rw [hend, hgo]
    rfl
  · rw [hpf]
    rfl
  · rw [hpf]
    rfl
  · exact (State.fn_migEnd_ne h.ne 0).trans (State.fn_migGoSave_ne h.ne vf.val key.val)
  · rw [State.fn_migEnd_self hwf]
    rfl

/-- R224: SAVE without its key ends with NO_KEY. -/
theorem migrationSave_noKey {key : Fin 8} (h : s.MayMigrate u.val vf.val k) (hfrozen : (s.fn k).frozen = true) (hflr : (s.fn k).flr = false)
    (hkey : s.hlm.migKeys.all (fun y => y.1 != u.val || y.2.1 != key.val) = true) :
    ∃ t, exec (.migrationSave u vf key true) s = .next t ∧ t.out = s.out ∧ (t.fn (0x8000 + u.val)).migResult = 3 ∧ t.fn k = s.fn k := by
  refine ⟨_, execMigrationSave_noKey h key true hfrozen hflr (State.migKey?_none hkey), State.migGoSave_migEnd_out s .., ?_, ?_⟩
  · rw [State.fn_migEnd_self (State.wf_migGoSave h.wf u.val vf.val key.val)]
    rfl
  · rw [State.fn_migEnd_ne h.ne, State.fn_migGoSave_ne h.ne]

/-- R226: RESTORE of a blob that passes loads its rings and leaves the VF FROZEN; a wrong HMAC loads nothing and is recorded. -/
theorem migrationRestore_loads {key : Nat} {x body mac : Bytes} (h : s.MayMigrate u.val vf.val k) (hsq : (s.fn k).sqs.any Sq.en = false)
    (hcq : (s.fn k).cqEn = false) (hflr : (s.fn k).flr = false) (hbody : body.length = 464) (hmac : mac.length = 48)
    (hmagic : fieldAt body 0 4 = 0x564D5A43) (hversion : fieldAt body 4 2 = 1) (hserial : fieldAt body 8 8 = Config.deviceSerial.toNat)
    (hboot : fieldAt body 16 4 = s.get Reg.HLM_BOOT_COUNTER) (hid : fieldAt body 20 1 = key)
    (hkey : s.hlm.migKeys.find? (fun y => y.1 == u.val && y.2.1 == key) = some (u.val, key, x)) :
    ∃ t, exec (.migrationRestore u vf (body ++ mac) true) s = .next t ∧ t = { s with mov := t.mov, out := t.out, flt := t.flt } ∧
      (t.fn (0x8000 + u.val)).migBusy = false ∧
      (if mac = digestBytes (Config.hmac384 x body)
        then (t.fn (0x8000 + u.val)).migResult = 0 ∧ t.flt = s.flt ∧ (t.fn k).frozen = true ∧ (t.fn k).gen = ((s.fn k).gen + 1) % 256 ∧
          (∀ r < 4, ((t.fn k).sq r).base = fieldAt body (32 + 32 * r) 8 ∧ ((t.fn k).sq r).fetched = [])
        else (t.fn (0x8000 + u.val)).migResult = 4 ∧ t.fn k = s.fn k ∧ ∃ e ∈ t.flt.waiting, e.src = 0x0B23 ∧ e.cls = 2) := by
  have hexec := execMigrationRestore_checked h hsq hcq hflr hbody hmac hmagic hversion hserial hboot (hid ▸ State.migKey?_some hkey)
  have hwf : SMap.wf (s.blobRead u.val vf.val).mov.fns := State.wf_migGo h.wf u.val vf.val 2
  have hk : (s.blobRead u.val vf.val).fn k = s.fn k := State.fn_migGo_ne h.ne vf.val 2
  obtain ⟨fns, hgo⟩ := s.migGo_frame u.val vf.val 2
  by_cases hright : mac = digestBytes (Config.hmac384 x body)
  · rw [if_neg (not_not.2 hright)] at hexec
    obtain ⟨fns₁, hset⟩ := (s.blobRead u.val vf.val).setFn_frame k ((s.fn k).ofBlob (body ++ mac))
    obtain ⟨fns₂, hend⟩ := ((s.blobRead u.val vf.val).setFn k ((s.fn k).ofBlob (body ++ mac))).migEnd_frame u.val 0
    have hpf := State.fn_migEnd_self (State.wf_setFn hwf k ((s.fn k).ofBlob (body ++ mac))) u.val 0
    have hloaded := (State.fn_migEnd_ne h.ne 0).trans (State.fn_setFn_self hwf k ((s.fn k).ofBlob (body ++ mac)))
    refine ⟨_, hexec, ?_, ?_, ?_⟩
    · rw [hend, hset, State.blobRead, hgo]
      rfl
    · rw [hpf]
      rfl
    · rw [if_pos hright, hpf, hloaded]
      refine ⟨rfl, ?_, rfl, rfl, fun r hr => ?_⟩
      · rw [hend, hset, State.blobRead, hgo]
        rfl
      · rw [← fieldAt_append_left (show 32 + 32 * r + 8 ≤ body.length by omega) mac]
        exact FnSt.sq_ofBlob _ _ hr
  · rw [if_pos hright] at hexec
    obtain ⟨fns₁, hend⟩ := (s.blobRead u.val vf.val).migEnd_frame u.val 4
    have hpf : (((s.blobRead u.val vf.val).migEnd u.val 4).report 0x0B23 contained 0 (leBytes 2 k)).fn (0x8000 + u.val) = _ :=
      State.fn_migEnd_self hwf u.val 4
    obtain ⟨e, he, hsrc, hcls, -⟩ := State.waits_report ((s.blobRead u.val vf.val).migEnd u.val 4) 0x0B23 contained 0 (leBytes 2 k) []
    refine ⟨_, hexec, ?_, ?_, ?_⟩
    · rw [hend, State.blobRead, hgo]
      rfl
    · rw [hpf]
      rfl
    · rw [if_neg hright, hpf]
      exact ⟨rfl, (State.fn_migEnd_ne h.ne 4).trans hk, e, he, hsrc, hcls⟩

/-- R225: RESUME ends the freeze. -/
theorem migrationResume_resumes (h : s.MayMigrate u.val vf.val k) (hfrozen : (s.fn k).frozen = true) (hflr : (s.fn k).flr = false)
    (hpba : (s.fn k).vecs.any Vec.pba = false) :
    ∃ t, exec (.migrationResume u vf) s = .next t ∧ t = { s with mov := t.mov } ∧
      t.fn k = { s.fn k with frozen := false, freezing := false } ∧ (t.fn (0x8000 + u.val)).migResult = 0 ∧
      (t.fn (0x8000 + u.val)).migBusy = false := by
  have hwf := State.wf_migGo h.wf u.val vf.val 3
  have hk := State.fn_setFn_self hwf k { s.fn k with freezing := false, frozen := false }
  have hidle := State.flushVecs_idle (s := (s.migGo u.val vf.val 3).setFn k { s.fn k with freezing := false, frozen := false }) (k := k)
    (by rw [hk]; exact hpba)
  have hexec := execMigrationResume_frozen h hfrozen hflr
  rw [hidle] at hexec
  obtain ⟨fns, hgo⟩ := s.migGo_frame u.val vf.val 3
  obtain ⟨fns₁, hset⟩ := (s.migGo u.val vf.val 3).setFn_frame k { s.fn k with freezing := false, frozen := false }
  obtain ⟨fns₂, hend⟩ := ((s.migGo u.val vf.val 3).setFn k { s.fn k with freezing := false, frozen := false }).migEnd_frame u.val 0
  have hpf := State.fn_migEnd_self (State.wf_setFn hwf k { s.fn k with freezing := false, frozen := false }) u.val 0
  refine ⟨_, hexec, ?_, (State.fn_migEnd_ne h.ne 0).trans hk, ?_, ?_⟩
  · rw [hend, hset, hgo]
  · rw [hpf]
    rfl
  · rw [hpf]
    rfl

end

end Sys2Proof.Claims

namespace Sys2Proof.Machine

/-! ## What a COMMAND record leaves of the functions -/

section
variable (c : CmdSpec) (h : Hdr) (p : Bytes) (s : State) (k : Nat)

@[simp] theorem CmdSpec.recorded_fn : (c.recorded h p s).fn k = s.fn k := by
  simp [State.fn]

@[simp] theorem CmdSpec.recorded_fnLive : (c.recorded h p s).fnLive k = s.fnLive k := by
  simp [State.fnLive, State.fnUsp, State.fnLocal, State.vfsOn]

@[simp] theorem CmdSpec.recorded_fnOperand : (c.recorded h p s).fnOperand k = s.fnOperand k := by
  simp [State.fnOperand]

@[simp] theorem CmdSpec.recorded_freeVfs : (c.recorded h p s).freeVfs = s.freeVfs := by
  simp [State.freeVfs]

end

/-! ## Rows of pairs -/

/-- A row of pairs of 8-byte fields is a row of fields. -/
theorem pairRow_eq (f g : Nat → Nat) (n : Nat) : ((List.range n).map (fun i => leBytes 8 (f i) ++ leBytes 8 (g i))).flatten =
    fieldRow 8 (fun j => if j % 2 = 0 then f (j / 2) else g (j / 2)) (2 * n) := by
  induction n with
  | zero => rfl
  | succ n ih =>
    have hodd : (2 * n + 1) / 2 = n := by omega
    rw [List.range_succ, List.map_append, List.flatten_append, ih, Nat.mul_succ, fieldRow_add]
    simp [fieldRow, List.range_succ, hodd, Nat.add_mod]

/-! ## The Mover's commands (R232) -/

/-- The administration entry that MOV_FN_READ shows, 0 for a host PF. -/
def State.adminBytes (s : State) (k : Nat) : Bytes :=
  if isVf k then (match s.fnUsp k with
    | some u => (s.vfAdmin u (s.fnLocal k)).toBytes
    | none => VfAdmin.dflt.toBytes) else List.replicate 128 0

theorem State.length_adminBytes (s : State) (k : Nat) : (s.adminBytes k).length = 128 := by
  unfold State.adminBytes
  split
  · split
    · exact length_slice _ _ _
    · exact length_slice _ _ _
  · exact List.length_replicate

/-- The reply of MOV_INFO: healthy engines, free contexts, free VFs, the size of each allotment. -/
theorem specMovInfo_run (h : Hdr) (p : Bytes) (s : State) : specMovInfo.run h p s =
    .done (leBytes 4 (2 ^ 32 - 1 - s.get Reg.MOV_ENGINE_FAILED) ++ (leBytes 2 (2048 - s.mov.ctxs.length) ++ (leBytes 2 s.freeVfs.length ++
      fieldRow 2 (fun u => (SMap.get s.mov.allot u []).length) 64))) s := by
  simp only [specMovInfo, List.append_assoc]
  rfl

/-- The reply of MOV_FN_READ: BAR0 words, the administration entry, the counters. -/
theorem specMovFnRead_run (h : Hdr) (p : Bytes) (s : State) : specMovFnRead.run h p s =
    .done (fieldRow 4 (fun i => s.barWord (p16 p 0) (4 * i)) 64 ++ (s.adminBytes (p16 p 0) ++
      (leBytes 8 (s.fn (p16 p 0)).bytesMoved ++ leBytes 8 (s.fn (p16 p 0)).descDone))) s := by
  simp only [specMovFnRead, ← List.append_assoc]
  rfl

/-- The reply of MOV_STATS: the bytes of the engines, then two counters for each function. -/
theorem specMovStats_run (h : Hdr) (p : Bytes) (s : State) : specMovStats.run h p s =
    .done (fieldRow 8 (fun e => SMap.get s.mov.engBytes e 0) 32 ++ fieldRow 8 (fun j => if j % 2 = 0
      then (s.fn (p16 p 0 + j / 2)).bytesMoved else (s.fn (p16 p 0 + j / 2)).descDone) (2 * p16 p 2)) s := by
  rw [← pairRow_eq (fun i => (s.fn (p16 p 0 + i)).bytesMoved) (fun i => (s.fn (p16 p 0 + i)).descDone)]
  rfl

/-- Without another allotment all VFs are free. -/
theorem State.freeVfsFor_none {s : State} (hallot : s.mov.allot = []) (u : Nat) : s.freeVfsFor u = List.range 1024 := by
  simp [State.freeVfsFor, State.vfsOfOthers, hallot]

/-- MOV_FN_RESET of a function that exists toward its host and is not resetting begins the reset and waits. -/
theorem specMovFnReset_run_begins {p : Bytes} {s : State} (hlive : s.fnLive (p16 p 0) = true) (hflr : (s.fn (p16 p 0)).flr = false)
    (h : Hdr) : specMovFnReset.run h p s = .waits (.fnReset (p16 p 0)) (s.initiateFlr (p16 p 0)) :=
  (if_neg (by simp [hflr])).trans (if_neg (by simp [hlive]))

end Sys2Proof.Machine

namespace Sys2Proof.Claims

open Sys2Proof.Machine

/-- MOV_INFO answers 136 bytes: the healthy engines, the free VFs, the size of each allotment. -/
theorem movInfo_reads : Reads .movInfo 0xC600 .observe 0 always (fun _ _ s b => b.length = 136 ∧
    fieldAt b 0 4 = 2 ^ 32 - 1 - s.get Reg.MOV_ENGINE_FAILED ∧ fieldAt b 6 2 = s.freeVfs.length ∧
    (∀ u < 64, fieldAt b (8 + 2 * u) 2 = (SMap.get s.mov.allot u []).length % 65536)) := by
  intro h p s hop hpriv hlen _
  have hr : Reached specMovInfo h p s := reached hop hpriv hlen rfl rfl
  have hget : (specMovInfo.recorded h p s).get Reg.MOV_ENGINE_FAILED = s.get Reg.MOV_ENGINE_FAILED := State.record_get _ _ _ _ _ _ (by decide)
  have hvfs : s.freeVfs.length ≤ 1024 := (List.length_filter_le _ _).trans List.length_range.le
  refine ⟨leBytes 4 (2 ^ 32 - 1 - s.get Reg.MOV_ENGINE_FAILED) ++ (leBytes 2 (2048 - s.mov.ctxs.length) ++ (leBytes 2 s.freeVfs.length ++
    fieldRow 2 (fun u => (SMap.get s.mov.allot u []).length) 64)), ⟨?_, ?_, ?_, fun u hu => ?_⟩, hr.done ?_⟩
  · simp [length_fieldRow]
  · rw [fieldAt_leBytes_zero]
    exact Nat.mod_eq_of_lt (by omega)
  · rw [fieldAt_append_right 2 (by simp), fieldAt_append_right 0 (by simp), fieldAt_leBytes_zero]
    exact Nat.mod_eq_of_lt (by omega)
  · rw [fieldAt_append_right (4 + 2 * u) (by simp; omega), fieldAt_append_right (2 + 2 * u) (by simp; omega),
      fieldAt_append_right (2 * u) (by simp), fieldAt_fieldRow 2 _ hu]
    rfl
  · rw [specMovInfo_run, hget, CmdSpec.recorded_mov, CmdSpec.recorded_freeVfs]
    rfl

/-- R185: the first allotment takes the lowest VFs. -/
theorem movAllotSet_first : Does .movAllotSet 0xC601 .admin 4
    (fun _ p s => s.isUsp (p8 p 0) = true ∧ p16 p 2 ≤ 1024 ∧ p8 p 0 ∉ s.mov.vfEnable ∧ s.mov.allot = [])
    (fun _ p s => ({ s with mov := { s.mov with allot := SMap.store [] (p8 p 0) (List.range (p16 p 2)) [] } }).journal
      (.allot (p8 p 0) (List.range (p16 p 2)))) := by
  intro h p s hop hpriv hlen hgood
  obtain ⟨husp, hn, hoff, hallot⟩ := hgood
  have hallot' : (specMovAllotSet.recorded h p s).mov.allot = [] := by rw [CmdSpec.recorded_mov, hallot]
  have hfree : (specMovAllotSet.recorded h p s).freeVfsFor (p8 p 0) = List.range 1024 := State.freeVfsFor_none hallot' _
  have hrun := specMovAllotSet_run_free (s := specMovAllotSet.recorded h p s) (by simpa using hoff) (by simpa [hfree] using hn) h
  rw [hfree, hallot', List.take_range, Nat.min_eq_left hn] at hrun
  exact (reached_movAllotSet hop hpriv hlen husp hn).done hrun

/-- R232: MOV_HOST_WEIGHT_SET stores the weight. -/
theorem movHostWeightSet_does : Does .movHostWeightSet 0xC602 .operate 2 (fun _ p s => s.isUsp (p8 p 0) = true ∧ 1 ≤ p8 p 1)
    (fun _ p s => (s.set Reg.MOV_HOST_WEIGHT_WEIGHT (p8 p 0) (p8 p 1)).journal
      (.field (Reg.MOV_HOST_WEIGHT_WEIGHT.key (p8 p 0)) (p8 p 1))) := by
  intro h p s hop hpriv hlen hgood
  obtain ⟨husp, hweight⟩ := hgood
  have hr : Reached specMovHostWeightSet h p s := reached hop hpriv hlen rfl (by simp [specMovHostWeightSet, firstBad, need, husp, hweight])
  exact hr.done rfl

/-- MOV_FN_READ answers 400 bytes, the function's counters at the end. -/
theorem movFnRead_reads : Reads .movFnRead 0xC603 .observe 2 (fun _ p s => s.fnOperand (p16 p 0) = true) (fun _ p s b => b.length = 400 ∧
    fieldAt b 384 8 = (s.fn (p16 p 0)).bytesMoved % 2 ^ 64 ∧ fieldAt b 392 8 = (s.fn (p16 p 0)).descDone % 2 ^ 64) := by
  intro h p s hop hpriv hlen hgood
  have hr : Reached specMovFnRead h p s := reached hop hpriv hlen rfl (by simp [specMovFnRead, firstBad, need, hgood])
  have hrow := length_fieldRow 4 (fun i => (specMovFnRead.recorded h p s).barWord (p16 p 0) (4 * i)) 64
  have hadmin := (specMovFnRead.recorded h p s).length_adminBytes (p16 p 0)
  refine ⟨_, ⟨?_, ?_, ?_⟩, hr.done (specMovFnRead_run h p _)⟩
  · simp only [List.length_append, hrow, hadmin, length_leBytes]
  · rw [fieldAt_append_right 128 (by rw [hrow]), fieldAt_append_right 0 (by rw [hadmin]), fieldAt_leBytes_zero, CmdSpec.recorded_fn]
    rfl
  · rw [fieldAt_append_right 136 (by rw [hrow]), fieldAt_append_right 8 (by rw [hadmin]), fieldAt_append_right 0 (by simp),
      fieldAt_leBytes_only, CmdSpec.recorded_fn]
    rfl

/-- R217: MOV_FN_RESET begins the reset of a VF and waits for its end. -/
theorem movFnReset_begins {h : Hdr} {p : Bytes} {s : State} (hwf : SMap.wf s.mov.fns) (hop : Operating s) (hpriv : Privileged .operate h s)
    (hlen : p.length = 2) (hvf : p16 p 0 < 1024) (hlive : s.fnLive (p16 p 0) = true) (hflr : (s.fn (p16 p 0)).flr = false) :
    ∃ t, exec (.movFnReset h p) s = .next t ∧ (t.fn (p16 p 0)).flr = true ∧ (t.fn (p16 p 0)).gen = ((s.fn (p16 p 0)).gen + 1) % 256 ∧
      (t.tbl.waits.map Waiting.what) = s.tbl.waits.map Waiting.what ++ [.fnReset (p16 p 0)] ∧ t.out = s.out := by
  have hr : Reached specMovFnReset h p s := reached hop hpriv hlen rfl (by simp [specMovFnReset, firstBad, need, State.fnOperand, hvf])
  have hrun := specMovFnReset_run_begins (s := specMovFnReset.recorded h p s) (by simpa using hlive) (by simpa using hflr) h
  rw [State.initiateFlr_vf _ (by omega)] at hrun
  obtain ⟨x, hx, hexec⟩ := hr.waitsFor hrun
  have hself : ((specMovFnReset.recorded h p s).flrOf (p16 p 0)).fn (p16 p 0) = FnSt.resetting { s.fn (p16 p 0) with errReset := false } := by
    rw [State.fn_flrOf_vf (by simpa using hwf) (by omega), CmdSpec.recorded_fn]
  obtain ⟨fns, hframe⟩ := (specMovFnReset.recorded h p s).flrOf_frame (p16 p 0)
  refine ⟨_, hexec, (congrArg FnSt.flr hself).trans rfl, (congrArg FnSt.gen hself).trans rfl, ?_, ?_⟩
  · rw [hframe]
    simp [hx]
  · rw [hframe]
    exact State.record_out ..

/-- MOV_STATS answers the bytes of the engines and two counters for each function it names. -/
theorem movStats_reads : Reads .movStats 0xC620 .observe 4
    (fun _ p _ => p16 p 0 < 1024 ∧ 1 ≤ p16 p 2 ∧ p16 p 2 ≤ 240 ∧ p16 p 0 + p16 p 2 ≤ 1024)
    (fun _ p s b => b.length = 256 + 16 * p16 p 2 ∧ ∀ i < p16 p 2,
      fieldAt b (256 + 16 * i) 8 = (s.fn (p16 p 0 + i)).bytesMoved % 2 ^ 64 ∧
      fieldAt b (264 + 16 * i) 8 = (s.fn (p16 p 0 + i)).descDone % 2 ^ 64) := by
  intro h p s hop hpriv hlen hgood
  obtain ⟨hfirst, hmin, hmax, hend⟩ := hgood
  have hr : Reached specMovStats h p s := reached hop hpriv hlen rfl (by simp [specMovStats, firstBad, need, hfirst, hmin, hmax, hend])
  have hrow := length_fieldRow 8 (fun e => SMap.get (specMovStats.recorded h p s).mov.engBytes e 0) 32
  refine ⟨_, ⟨?_, fun i hi => ⟨?_, ?_⟩⟩, hr.done (specMovStats_run h p _)⟩
  · rw [List.length_append, hrow, length_fieldRow]
    omega
  · rw [fieldAt_append_right (8 * (2 * i)) (by rw [hrow]; omega), fieldAt_fieldRow _ _ (by omega), if_pos (by omega),
      Nat.mul_div_cancel_left i Nat.two_pos, CmdSpec.recorded_fn]
    rfl
  · rw [fieldAt_append_right (8 * (2 * i + 1)) (by rw [hrow]; omega), fieldAt_fieldRow _ _ (by omega), if_neg (by omega),
      show (2 * i + 1) / 2 = i by omega, CmdSpec.recorded_fn]
    rfl

/-- Settles O55: the lemmas above, one for each clause. -/
theorem migrationAndMoverCommands : Obligations.MigrationAndMoverCommands :=
  ⟨fun _ _ _ _ hwf husp hidle hnames hvf => migrationFreeze_freezes ⟨hwf, husp, hidle, hnames, hvf⟩,
    fun _ _ _ _ => freezeTimeout_ends,
    fun _ _ _ _ _ _ hwf husp hidle hnames hvf => migration_refused ⟨hwf, husp, hidle, hnames, hvf⟩,
    fun _ _ _ _ _ _ hwf husp hidle hnames hvf => migrationSave_writes ⟨hwf, husp, hidle, hnames, hvf⟩,
    fun _ _ _ _ _ hwf husp hidle hnames hfrozen hflr hvf => migrationSave_noKey ⟨hwf, husp, hidle, hnames, hvf⟩ hfrozen hflr,
    fun _ _ _ _ _ _ _ _ hwf husp hidle hnames hvf => migrationRestore_loads ⟨hwf, husp, hidle, hnames, hvf⟩,
    fun _ _ _ _ hwf husp hidle hnames hvf => migrationResume_resumes ⟨hwf, husp, hidle, hnames, hvf⟩,
    movInfo_reads, movAllotSet_first, fun _ _ _ => movAllotSet_conflict, movHostWeightSet_does, movFnRead_reads, fun _ _ _ => movFnReset_begins,
    movStats_reads⟩

end Sys2Proof.Claims

namespace Sys2Proof.Machine

/-! ## Flows (R239) -/

section
variable {dest q : Nat} (src : Nat)

@[simp] theorem flowSrc_flow (hdest : dest < 78) (hq : q < 8) : flowSrc (flow src dest q) = src := by
  unfold flowSrc flow
  omega

@[simp] theorem flowDest_flow (hdest : dest < 78) (hq : q < 8) : flowDest (flow src dest q) = dest := by
  unfold flowDest flow
  omega

@[simp] theorem flowQ_flow (dest : Nat) (hq : q < 8) : flowQ (flow src dest q) = q := by
  unfold flowQ flow
  omega

end

/-! ## Promotion (R241, R242) -/

/-- The reservation of an attachment inside the module withholds no link credits (R245). -/
theorem State.creditCheck_internal (s : State) {src : Nat} (hsrc : 64 ≤ src) : s.creditCheck src = s := if_neg (by omega)

/-- `s` with the head of a flow's reservation promoted: `ms` stay in the reservation. -/
def State.promotedHead (s : State) (k : Nat) (m : Msg) (ms : List Msg) : State :=
  s.modXbr (fun x => { x with
    resv := SMap.store x.resv k ms []
    shared := SMap.store x.shared k (s.sharedOf k + m.ingots) 0
    queues := SMap.store x.queues k (s.queueOf k ++ [m]) [] })

/-- The head of a reservation that the threshold admits is promoted; none of it may have been dispatched. -/
theorem execMessagePromotion_admitted {src dest : Fin 78} {q : Fin 8} {m : Msg} {ms : List Msg} {s : State} (hsrc : 64 ≤ src.val)
    (hhead : s.resvOf (flow src.val dest.val q.val) = m :: ms) (hmc : m.mc = none)
    (hoff : SMap.get s.xbr.sentOff (flow src.val dest.val q.val) 0 = 0)
    (hfits : takeShared (s.kq q.val) m.ingots (s.sharedOf (flow src.val dest.val q.val)) s.sharedFree = true) :
    execMessagePromotion src dest q s = .next (s.promotedHead (flow src.val dest.val q.val) m ms) := by
  have hdrop : s.dropResv (flow src.val dest.val q.val) = s.setResv (flow src.val dest.val q.val) ms := by
    rw [State.dropResv, hhead, flowSrc_flow _ dest.isLt q.isLt, State.creditCheck_internal _ hsrc]
    rfl
  simp only [execMessagePromotion, hhead, hmc, hoff, hfits, hdrop]
  rfl

/-! ## The ingot slot (R246, R247) -/

/-- Of one number the rotation takes that one. -/
theorem rotNext_singleton {a : Nat} (ha : a ≤ 0x1FFFF) (cur : Nat) : rotNext [a] cur = a := by
  by_cases hcur : cur < a
  · simp [rotNext, hcur, ha]
  · simp [rotNext, hcur, ha]

/-- Between an input and an output with one ready flow, of Q0, that flow is requested. -/
theorem State.requestFlow_only (s : State) (i : Nat) {d : Nat} (hd : d < 78) : s.requestFlow [flow i d 0] i d = some (flow i d 0) := by
  simp [State.requestFlow, hd]

/-- An output that has room grants the only request. -/
theorem State.grants_only {s : State} {i d : Nat} (hi : i < 78) (hd : d < 78) (hroom : s.outputGrants d = true) (plane : Nat) :
    s.grants [flow i d 0] plane [i] [d] = [(i, d)] := by
  simp [State.grants, s.requestFlow_only i hd, hd, hroom, rotNext_singleton (show i ≤ 0x1FFFF by omega)]

/-- An input accepts its only grant. -/
theorem State.accepts_only (s : State) (i plane : Nat) {d : Nat} (hd : d < 78) : s.accepts plane [(i, d)] = [(i, d)] := by
  have hone : sortNat [i] = [i] := rfl
  simp [State.accepts, hone, rotNext_singleton (show d ≤ 0x1FFFF by omega)]

/-- The only ready flow is matched in the first iteration; the second one has nothing left. -/
theorem State.matching_only {s : State} {i d : Nat} (hi : i < 78) (hd : d < 78) (hroom : s.outputGrants d = true) (plane : Nat) :
    s.matching [flow i d 0] plane = [(i, d)] := by
  have hins : sortNat [i] = [i] := rfl
  have houts : sortNat [d] = [d] := rfl
  have hnone : s.accepts plane (s.grants [flow i d 0] plane [] []) = [] := rfl
  simp [State.matching, hd, hins, houts, State.grants_only hi hd hroom plane, s.accepts_only i plane hd, hnone]

/-- An output with nothing in its egress buffer grants. -/
theorem State.outputGrants_empty {s : State} (hegress : s.xbr.egress = []) (hstored : s.xbr.stored = []) (hretained : s.xbr.retained = [])
    (d : Nat) : s.outputGrants d = true := by
  simp [State.outputGrants, State.egressUse, hegress, hstored, hretained]

/-- A message of one ingot at the head of its promoted queue is dispatched whole and retained until it is acknowledged (R249). -/
theorem State.dispatchIngot_whole {s : State} {k : Nat} {m : Msg} (hhead : s.headMsg k = some (m, false)) (hone : m.ingots = 1)
    (hoff : SMap.get s.xbr.sentOff k 0 = 0) (p : Nat) :
    ∃ xbr, s.dispatchIngot k p = { s with xbr := xbr, out := .ingot (s.nextHdr k m) p [] :: s.out } ∧
      xbr.retained = s.xbr.retained ++ [{ hdr := s.nextHdr k m, plane := p, resv := false }] := by
  have hlast : (s.nextHdr k m).last = true := by simp [State.nextHdr, hoff, hone]
  simp only [State.dispatchIngot, hhead, hlast, if_true, Bool.false_eq_true, if_false, State.modXbr, State.setQueue, State.noteHead,
    State.emit]
  exact ⟨_, rfl, rfl⟩

/-- One promoted message, of Q0, and one active plane: the slot dispatches the flow's next ingot on that plane. -/
theorem execIngotSlot_only {src dest : Fin 78} {p : Nat} {m : Msg} {s : State} (hplanes : s.activePlanes = [p])
    (hqueues : s.xbr.queues = [(flow src.val dest.val 0, [m])]) (hresv : s.xbr.resv = []) (hroom : s.outputGrants dest.val = true) :
    execIngotSlot s = .next (s.dispatchIngot (flow src.val dest.val 0) p) := by
  have hready : s.readyFlows = [flow src.val dest.val 0] := by
    simp only [State.readyFlows, hqueues, hresv]
    rfl
  have hmatch := State.matching_only src.isLt dest.isLt hroom p
  simp [execIngotSlot, hplanes, forEach, hready, hmatch, s.requestFlow_only src.val dest.isLt]

/-! ## Resending (R249) -/

/-- A retained ingot is the one that its flow and SEQ name. -/
theorem Ingot.is_self (g : Ingot) : g.is (flow g.hdr.src.val g.hdr.dest.val g.hdr.q.val) g.hdr.seq = true := by simp [Ingot.is]

/-- The only retained ingot is resent on another plane; no output is transmitting its message. -/
theorem State.resendIngot_only {s : State} {g : Ingot} {p : Nat} (hretained : s.xbr.retained = [g]) (hcuts : s.xbr.cuts = [])
    (hother : s.otherPlane g.plane = some p) : s.resendIngot g =
      ((s.modXbr (fun x => { x with retained := [{ g with plane := p }] })).bump Reg.XBR_CNT_RESEND 0).emit (.ingot g.hdr p []) := by
  have hcut : s.cutMissed (flow g.hdr.src.val g.hdr.dest.val g.hdr.q.val) = s := by simp [State.cutMissed, hcuts]
  simp [State.resendIngot, hother, hcut, State.modXbr, hretained, updFirst, g.is_self]

/-- The ingot that was not acknowledged is resent and its plane probed (R249, R252). -/
theorem execIngotAckTimeout_only {src dest : Fin 78} {q : Fin 8} {seq : BitVec 16} {g : Ingot} {p : Nat} {s : State}
    (hretained : s.xbr.retained = [g]) (hcuts : s.xbr.cuts = []) (his : g.is (flow src.val dest.val q.val) seq = true)
    (hother : s.otherPlane g.plane = some p) (hok : s.planeFailed g.plane = false) (hprobe : g.plane ∉ s.xbr.probes) :
    execIngotAckTimeout src dest q seq s =
      .next (((s.resendIngot g).modXbr (fun x => { x with probes := x.probes ++ [g.plane] })).emit (.probe g.plane)) := by
  have hresend := State.resendIngot_only hretained hcuts hother
  have hok' : (s.resendIngot g).planeFailed g.plane = false := by
    rw [hresend]
    exact (congrArg (bitOf · g.plane) (State.get_set_ne s Reg.XBR_CNT_RESEND _ 0 0 _ (by decide))).trans hok
  have hprobe' : g.plane ∉ (s.resendIngot g).xbr.probes := by
    rw [hresend]
    exact hprobe
  simp [execIngotAckTimeout, hretained, his, hok', hprobe']

/-! ## The failure of a plane (R252 to R254) -/

/-- `s` with plane `p` marked as failed or retired. -/
def State.planeMarked (s : State) (p : Nat) : State := s.set Reg.XBR_PLANE_STATUS_FAILED 0 (s.get Reg.XBR_PLANE_STATUS_FAILED + 2 ^ p)

/-- Whether a plane has failed is a matter of the registers. -/
theorem State.planeFailed_congr {s t : State} (hregs : t.regs = s.regs) (p : Nat) : t.planeFailed p = s.planeFailed p := by
  simp only [State.planeFailed, State.get, hregs]

/-- A healthy plane that is marked has failed. -/
theorem State.planeFailed_planeMarked {s : State} {p : Nat} (hwf : SMap.wf s.regs) (hp : p < 5) (hok : s.planeFailed p = false) :
    (s.planeMarked p).planeFailed p = true := by
  have hbit : bitOf (s.get Reg.XBR_PLANE_STATUS_FAILED + 2 ^ p) p = true := (bitOf_add_two_pow hok p).trans (if_pos rfl)
  rw [bitOf_eq_testBit] at hbit
  have hget : (s.planeMarked p).get Reg.XBR_PLANE_STATUS_FAILED = (s.get Reg.XBR_PLANE_STATUS_FAILED + 2 ^ p) % 2 ^ 5 :=
    State.get_set_self s _ 0 _ hwf
  rw [State.planeFailed, hget, bitOf_eq_testBit, Nat.testBit_mod_two_pow, hbit, decide_eq_true hp]
  rfl

/-- `s` with plane `p` out of use: no probe of it is outstanding, no mismatch counts against it. -/
def State.planeDown (s : State) (p : Nat) : State :=
  (s.planeMarked p).modXbr (fun x => { x with probes := x.probes.filter (· ≠ p), hdrErrs := SMap.del x.hdrErrs p })

/-- A plane that fails while no ingot is unacknowledged is taken out of use and reported, as itself or as the last one. -/
theorem State.failPlane_idle {s : State} {p : Nat} (hok : s.planeFailed p = false) (hretained : s.xbr.retained = []) :
    ∃ src cls ctx, (src = 0x0700 + p ∨ src = 0x0707) ∧ s.failPlane p = (s.planeDown p).report src cls 0 ctx := by
  have hfail : s.failPlane p = if (s.planeDown p).healthyPlanes = 0 then (s.planeDown p).report 0x0707 fatal 0 []
      else (s.planeDown p).report (0x0700 + p) (if s.sparePlane == some p then corrected else planeClass (s.planeDown p).healthyPlanes) 0
        [byte p] := by
    refine (if_neg (by simp [hok])).trans ?_
    rw [hretained]
    rfl
  by_cases hlast : (s.planeDown p).healthyPlanes = 0
  · exact ⟨_, _, _, .inr rfl, hfail.trans (if_pos hlast)⟩
  · exact ⟨_, _, _, .inl rfl, hfail.trans (if_neg hlast)⟩

/-- The spare is a healthy plane. -/
theorem State.sparePlane_healthy {s : State} {p : Nat} (hspare : s.sparePlane = some p) : p < 5 ∧ s.planeFailed p = false := by
  have hfound := List.find?_some hspare
  simp only [Bool.and_eq_true, Bool.not_eq_true'] at hfound
  exact ⟨List.mem_range.1 (List.mem_of_find?_eq_some hspare), hfound.1⟩

/-! ## Outputs (R250, R251) -/

/-- `s` with plane `p` having carried an ingot: no probe of it is outstanding (R252). -/
def State.planeAnswers (s : State) (p : Nat) : State := s.modXbr (fun x => { x with probes := x.probes.filter (· ≠ p) })

/-- An ingot that was already stored or released is counted, acknowledged and dropped (R250). -/
theorem execIngotReceive_duplicate {d : Fin 78} {p : Plane} {g : IngotHdr} {s : State} (hdest : g.dest = d) (hinject : s.flt.hchkInject = [])
    (hcrc : g.crcOk = true) (hseen : s.seqSeen (flow g.src.val g.dest.val g.q.val) g.seq = true) (x : Bytes) :
    execIngotReceive d p g x s = .next (((s.planeAnswers p.val).bump Reg.XBR_CNT_DUP 0).emit
      (.ingotAck g.src.val d.val g.q.val g.seq.toNat true)) :=
  congrArg Host.Outcome.next ((if_neg (not_not.2 hdest)).trans ((if_neg (by simp [hinject])).trans ((if_neg (by simp [hcrc])).trans
    (if_pos hseen))))

/-- An acknowledged ingot of an attachment inside the module that went from the reservation leaves nothing but its copy (R241, R249). -/
theorem State.ackIngot_reserved {s : State} {r : Ingot} (hretained : s.xbr.retained = [r]) (hresv : r.resv = true) (hsrc : 64 ≤ r.hdr.src.val) :
    s.ackIngot r = s.modXbr (fun x => { x with retained := [] }) := by
  have hgone : delFirst (fun y : Ingot => y.is (flow r.hdr.src.val r.hdr.dest.val r.hdr.q.val) r.hdr.seq) [r] = [] := by
    simp [delFirst, r.is_self]
  simp only [State.ackIngot, hresv, if_true, State.creditCheck_internal _ hsrc, State.modXbr, hretained, hgone]

/-- `s` with ingot `g`, the only one retained, stored at its output and acknowledged. -/
def State.ingotTaken (s : State) (p : Nat) (g : IngotHdr) : State :=
  ((s.planeAnswers p).modXbr (fun x => { x with stored := [g], retained := [] })).emit
    (.ingotAck g.src.val g.dest.val g.q.val g.seq.toNat false)

/-- The only retained ingot reaches its output undamaged: it is stored, acknowledged and released in order. -/
theorem execIngotReceive_only {p : Plane} {r : Ingot} {s : State} (hsrc : 64 ≤ r.hdr.src.val) (hinject : s.flt.hchkInject = [])
    (hcrc : r.hdr.crcOk = true) (hecc : r.hdr.eccOk = true)
    (hnew : s.seqSeen (flow r.hdr.src.val r.hdr.dest.val r.hdr.q.val) r.hdr.seq = false) (hretained : s.xbr.retained = [r])
    (hresv : r.resv = true) (hstored : s.xbr.stored = []) (x : Bytes) :
    execIngotReceive r.hdr.dest p r.hdr x s =
      .next ((s.ingotTaken p.val r.hdr).releaseIngots (flow r.hdr.src.val r.hdr.dest.val r.hdr.q.val) 2) := by
  have hfound : s.xbr.retained.find? (fun y => y.is (flow r.hdr.src.val r.hdr.dest.val r.hdr.q.val) r.hdr.seq) = some r := by
    simp [hretained, r.is_self]
  refine congrArg Host.Outcome.next ((if_neg (not_not.2 rfl)).trans ((if_neg (by simp [hinject])).trans ((if_neg (by simp [hcrc])).trans
    ((if_neg (Bool.eq_false_iff.1 hnew)).trans ?_))))
  split
  next hnone => exact absurd (hnone.symm.trans hfound) (by simp)
  next y hsome =>
    obtain rfl : y = r := Option.some.inj (hsome.symm.trans hfound)
    rw [if_pos hecc]
    extract_lets s1 s2 s3
    have hack : s2.ackIngot y = s2.modXbr (fun x => { x with retained := [] }) := State.ackIngot_reserved hretained hresv hsrc
    have htaken : s3 = s.ingotTaken p.val y.hdr := by
      simp only [s3, hack]
      simp only [s2, s1, State.ingotTaken, State.planeAnswers, State.modXbr, hstored, List.nil_append]
    rw [htaken]
    rfl

/-- A whole message that its attachment transmits joins its egress queue. -/
theorem State.releaseMsg_joins {s : State} {k : Nat} {m : Msg} (hinflight : SMap.get s.xbr.inflight k [] = [m]) (hct : m.ct = false)
    (hgone : m.gone = false) (hup : s.attUp m.dest = true) :
    s.releaseMsg k = (s.modXbr (fun x => { x with inflight := SMap.store x.inflight k [] [] })).pushEgress m := by
  have hup' : (s.modXbr (fun x => { x with inflight := SMap.store x.inflight k [] [] })).attUp m.dest = true := hup
  simp only [State.releaseMsg, hinflight, hct, hgone, hup']
  rfl

/-- `s` with the next SEQ of a flow released and no ingot stored. -/
def State.released (s : State) (k e : Nat) : State :=
  s.modXbr (fun x => { x with expect := SMap.store x.expect k ((e + 1) % 65536) 0, stored := [] })

/-- The only stored ingot, the next in SEQ order and the last of its message, releases the message (R251). -/
theorem State.releaseIngots_last {s : State} {g : IngotHdr} {m : Msg} (hstored : s.xbr.stored = [g]) (hlast : g.last = true)
    (hexpect : SMap.get s.xbr.expect (flow g.src.val g.dest.val g.q.val) 0 = g.seq.toNat)
    (hinflight : SMap.get s.xbr.inflight (flow g.src.val g.dest.val g.q.val) [] = [m]) (hct : m.ct = false) (hgone : m.gone = false)
    (hup : s.attUp m.dest = true) :
    s.releaseIngots (flow g.src.val g.dest.val g.q.val) 2 =
      ((s.released (flow g.src.val g.dest.val g.q.val) g.seq.toNat).modXbr (fun x =>
        { x with inflight := SMap.store x.inflight (flow g.src.val g.dest.val g.q.val) [] [] })).pushEgress m := by
  have hrelease := State.releaseMsg_joins (s := s.released (flow g.src.val g.dest.val g.q.val) g.seq.toNat) hinflight hct hgone hup
  simp only [State.released, State.modXbr] at hrelease ⊢
  simp only [State.releaseIngots, State.modXbr, hstored, hexpect, hlast, List.find?_cons, beq_self_eq_true, Bool.and_self, delFirst,
    if_true, Bool.not_true, Bool.and_false, Bool.false_eq_true, if_false, hrelease]
  rfl

/-! ## Headroom (R260) -/

/-- The copies of the only waiting multicast are promoted when R242 passes for each. -/
theorem execHeadroomGrant_passes {i : Slice} {w : McWait} {s : State} (hwaits : s.xbr.mcWaits = [w]) (hslice : w.slice = i.val)
    (hpass : s.allPass w.copies = true) :
    execHeadroomGrant i s = .next (forEach w.copies (fun m s => s.promote m) (s.modXbr (fun x => { x with mcWaits := [] }))) := by
  simp [execHeadroomGrant, hwaits, hslice, hpass, delFirst, State.modXbr]

/-! ## What a COMMAND record leaves of the planes -/

section
variable (c : CmdSpec) (h : Hdr) (p : Bytes) (s : State)

@[simp] theorem CmdSpec.recorded_xbr : (c.recorded h p s).xbr = s.xbr := State.record_xbr ..

@[simp] theorem CmdSpec.recorded_mcEntry (g : Nat) : (c.recorded h p s).mcEntry g = s.mcEntry g := by simp [State.mcEntry]

@[simp] theorem CmdSpec.recorded_planesFailed :
    (c.recorded h p s).get Reg.XBR_PLANE_STATUS_FAILED = s.get Reg.XBR_PLANE_STATUS_FAILED := State.record_get _ _ _ _ _ _ (by decide)

@[simp] theorem CmdSpec.recorded_planeFailed (n : Nat) : (c.recorded h p s).planeFailed n = s.planeFailed n := by simp [State.planeFailed]

@[simp] theorem CmdSpec.recorded_planeSlot (j : Nat) : (c.recorded h p s).planeSlot j = s.planeSlot j := by simp [State.planeSlot]

@[simp] theorem CmdSpec.recorded_activePlanes : (c.recorded h p s).activePlanes = s.activePlanes := by simp [State.activePlanes]

@[simp] theorem CmdSpec.recorded_sparePlane : (c.recorded h p s).sparePlane = s.sparePlane := by simp [State.sparePlane]

@[simp] theorem CmdSpec.recorded_healthyPlanes : (c.recorded h p s).healthyPlanes = s.healthyPlanes := by simp [State.healthyPlanes]

end

/-! ## The fabric's commands (R274) -/

/-- An active plane is healthy and stands in a slot of the plane map. -/
theorem State.activePlanes_slot {s : State} {p : Nat} (hactive : p ∈ s.activePlanes) :
    s.planeFailed p = false ∧ ∃ j < 4, s.planeSlot j = some p := by
  obtain ⟨hmap, hok⟩ := List.mem_filter.1 hactive
  obtain ⟨j, hj, hslot⟩ := List.mem_filterMap.1 hmap
  exact ⟨by simpa using hok, j, List.mem_range.1 hj, hslot⟩

/-- The reply of XBR_INFO: healthy planes, spare, failed planes, valid groups, free shared and headroom ingots. -/
theorem specXbrInfo_run (h : Hdr) (p : Bytes) (s : State) : specXbrInfo.run h p s =
    .done (leBytes 1 s.healthyPlanes ++ (leBytes 1 (s.sparePlane.getD 7) ++ (leBytes 1 (s.get Reg.XBR_PLANE_STATUS_FAILED) ++
      (leBytes 1 ((List.range 64).filter (fun g => mcValid (s.mcEntry g))).length ++ (leBytes 4 (s.val Reg.XBR_BUF_STATUS_SHARED_FREE) ++
        leBytes 4 (s.val Reg.XBR_HR_STATUS_FREE)))))) s := by
  simp only [specXbrInfo, List.append_assoc]

/-- The reply of XBR_STATS: the counters of Table 5-10 as three rows of words. -/
theorem specXbrStats_run (h : Hdr) (p : Bytes) (s : State) : specXbrStats.run h p s =
    .done (fieldRow 4 (fun i => s.word (0x07000120 + 4 * i)) 6 ++ fieldRow 4 (fun i => s.word (0x07000200 + 4 * i)) 64 ++
      fieldRow 4 (fun i => s.word (0x07000300 + 4 * i)) 64) s := rfl

/-- XBR_PLANE_RETIRE of an active plane with a spare marks the plane, commits the spare into a slot of the plane, and waits. -/
theorem specXbrPlaneRetire_run_retires {p : Bytes} {s : State} {sp : Nat} (hactive : p8 p 0 ∈ s.activePlanes) (hspare : s.sparePlane = some sp)
    (h : Hdr) : ∃ j < 4, s.planeSlot j = some (p8 p 0) ∧ specXbrPlaneRetire.run h p s =
      .waits (.modCommit s.tbl.nextMod) ((s.planeMarked (p8 p 0)).moduleCommit 0 [(0x0700, j, leBytes 1 (0x80 + sp))] [] .nothing) := by
  obtain ⟨-, i, hi, hslot⟩ := State.activePlanes_slot hactive
  have hfound : ((List.range 4).find? (fun j => s.planeSlot j == some (p8 p 0))).isSome :=
    List.find?_isSome.2 ⟨i, List.mem_range.2 hi, by simp [hslot]⟩
  obtain ⟨j, hj⟩ := Option.isSome_iff_exists.1 hfound
  refine ⟨j, List.mem_range.1 (List.mem_of_find?_eq_some hj), by simpa using List.find?_some hj, ?_⟩
  simp only [specXbrPlaneRetire, hspare, hj]
  rfl

end Sys2Proof.Machine

namespace Sys2Proof.Claims

open Sys2Proof.Machine

/-! ## O41, clause by clause -/

section
variable {s : State}

/-- R241, R242: the head of a reservation that the threshold admits moves to its queue and takes shared ingots. -/
theorem messagePromotion_promotes {src dest : Fin 78} {q : Fin 8} {m : Msg} {ms : List Msg} (hresv : SMap.wf s.xbr.resv)
    (hqueues : SMap.wf s.xbr.queues) (hshared : SMap.wf s.xbr.shared) (hsrc : 64 ≤ src.val)
    (hhead : s.resvOf (flow src.val dest.val q.val) = m :: ms) (hmc : m.mc = none)
    (hoff : SMap.get s.xbr.sentOff (flow src.val dest.val q.val) 0 = 0)
    (hfits : takeShared (s.kq q.val) m.ingots (s.sharedOf (flow src.val dest.val q.val)) s.sharedFree = true) :
    ∃ t, exec (.messagePromotion src dest q) s = .next t ∧ t = { s with xbr := t.xbr } ∧ t.resvOf (flow src.val dest.val q.val) = ms ∧
      t.queueOf (flow src.val dest.val q.val) = s.queueOf (flow src.val dest.val q.val) ++ [m] ∧
      t.sharedOf (flow src.val dest.val q.val) = s.sharedOf (flow src.val dest.val q.val) + m.ingots :=
  ⟨_, execMessagePromotion_admitted hsrc hhead hmc hoff hfits, rfl, SMap.get_store_self _ _ _ _ hresv,
    SMap.get_store_self _ _ _ _ hqueues, SMap.get_store_self _ _ _ _ hshared⟩

/-- R246, R247, R249: the only ready flow sends its ingot on the only active plane. -/
theorem ingotSlot_sends {src dest : Fin 78} {p : Nat} {m : Msg} (hplanes : s.activePlanes = [p])
    (hqueues : s.xbr.queues = [(flow src.val dest.val 0, [m])]) (hresv : s.xbr.resv = []) (hone : m.ingots = 1)
    (hoff : SMap.get s.xbr.sentOff (flow src.val dest.val 0) 0 = 0) (hegress : s.xbr.egress = []) (hstored : s.xbr.stored = [])
    (hretained : s.xbr.retained = []) :
    ∃ t, exec .ingotSlot s = .next t ∧ t = { s with xbr := t.xbr, out := t.out } ∧
      t.out = .ingot (s.nextHdr (flow src.val dest.val 0) m) p [] :: s.out ∧
      t.xbr.retained = [{ hdr := s.nextHdr (flow src.val dest.val 0) m, plane := p, resv := false }] := by
  have hhead : s.headMsg (flow src.val dest.val 0) = some (m, false) := by
    simp [State.headMsg, State.queueOf, hqueues, SMap.get, SMap.find]
  obtain ⟨xbr, hdispatch, hkept⟩ := State.dispatchIngot_whole hhead hone hoff p
  have hslot := execIngotSlot_only hplanes hqueues hresv (State.outputGrants_empty hegress hstored hretained dest.val)
  rw [hdispatch] at hslot
  rw [hretained] at hkept
  exact ⟨_, hslot, rfl, rfl, hkept⟩

/-- R249, R252: an unacknowledged ingot is resent on another plane and its plane probed. -/
theorem ingotAckTimeout_resends {src dest : Fin 78} {q : Fin 8} {seq : BitVec 16} {g : Ingot} {p : Nat} (hretained : s.xbr.retained = [g])
    (hcuts : s.xbr.cuts = []) (his : g.is (flow src.val dest.val q.val) seq = true) (hother : s.otherPlane g.plane = some p)
    (hok : s.planeFailed g.plane = false) (hprobe : g.plane ∉ s.xbr.probes) :
    ∃ t, exec (.ingotAckTimeout src dest q seq) s = .next t ∧ t = { s with regs := t.regs, xbr := t.xbr, out := t.out } ∧
      t.out = .probe g.plane :: .ingot g.hdr p [] :: s.out ∧ t.xbr.probes = s.xbr.probes ++ [g.plane] ∧
      t.xbr.retained = [{ g with plane := p }] := by
  have hexec := execIngotAckTimeout_only hretained hcuts his hother hok hprobe
  rw [State.resendIngot_only hretained hcuts hother] at hexec
  exact ⟨_, hexec, rfl, rfl, rfl, rfl⟩

/-- R252, R253: a probe's timeout fails the plane, which is reported. -/
theorem planeProbeTimeout_fails {p : Plane} (hwf : SMap.wf s.regs) (hprobe : p.val ∈ s.xbr.probes) (hok : s.planeFailed p.val = false)
    (hretained : s.xbr.retained = []) :
    ∃ t, exec (.planeProbeTimeout p) s = .next t ∧ t = { s with regs := t.regs, xbr := t.xbr, flt := t.flt } ∧ t.planeFailed p.val = true ∧
      p.val ∉ t.xbr.probes ∧ (∃ e ∈ t.flt.waiting, e.src = 0x0700 + p.val ∨ e.src = 0x0707) := by
  obtain ⟨src, cls, ctx, hsource, hfail⟩ := State.failPlane_idle hok hretained
  have hexec : exec (.planeProbeTimeout p) s = .next (s.failPlane p.val) :=
    congrArg Host.Outcome.next (if_pos (List.contains_iff_mem.2 hprobe))
  have hgone : p.val ∉ s.xbr.probes.filter (· ≠ p.val) := by simp
  obtain ⟨e, he, hsrc, -⟩ := (s.planeDown p.val).waits_report src cls 0 ctx []
  rw [hfail] at hexec
  exact ⟨_, hexec, rfl, State.planeFailed_planeMarked hwf p.isLt hok, hgone, e, he, hsrc ▸ hsource⟩

/-- R254: a spare that passes its self-test stays, one that does not is failed. -/
theorem spareSelfTest_tests {p : Nat} (hwf : SMap.wf s.regs) (hspare : s.sparePlane = some p) (hretained : s.xbr.retained = []) :
    exec (.spareSelfTest true) s = .next s ∧
    ∃ t, exec (.spareSelfTest false) s = .next t ∧ t = { s with regs := t.regs, xbr := t.xbr, flt := t.flt } ∧ t.planeFailed p = true := by
  obtain ⟨hp, hok⟩ := State.sparePlane_healthy hspare
  obtain ⟨src, cls, ctx, -, hfail⟩ := State.failPlane_idle hok hretained
  have hexec (pass : Bool) : exec (.spareSelfTest pass) s = .next (if pass then s else s.failPlane p) := by
    change execSpareSelfTest pass s = _
    simp only [execSpareSelfTest, hspare]
  have hfailed := hexec false
  rw [hfail] at hfailed
  exact ⟨hexec true, _, hfailed, rfl, State.planeFailed_planeMarked hwf hp hok⟩

/-- R251: the last ingot of a message, in order, releases the message to its egress queue. -/
theorem ingotReceive_releases {d : Fin 78} {p : Plane} {g : IngotHdr} {x : Bytes} {r : Ingot} {m : Msg} (hwf : SMap.wf s.xbr.expect)
    (hdest : g.dest = d) (hsrc : 64 ≤ g.src.val) (hinject : s.flt.hchkInject = []) (hcrc : g.crcOk = true) (hecc : g.eccOk = true)
    (hnew : s.seqSeen (flow g.src.val g.dest.val g.q.val) g.seq = false)
    (hexpect : SMap.get s.xbr.expect (flow g.src.val g.dest.val g.q.val) 0 = g.seq.toNat) (hretained : s.xbr.retained = [r])
    (hresv : r.resv = true) (hhdr : r.hdr = g) (hlast : g.last = true) (hstored : s.xbr.stored = [])
    (hinflight : SMap.get s.xbr.inflight (flow g.src.val g.dest.val g.q.val) [] = [m]) (hto : m.dest = d.val) (hct : m.ct = false)
    (hgone : m.gone = false) (hq : m.q = g.q.val) (hup : s.attUp d.val = true) :
    ∃ t, exec (.ingotReceive d p g x) s = .next t ∧ t = { s with xbr := t.xbr, out := t.out } ∧
      t.out = .ingotAck g.src.val d.val g.q.val g.seq.toNat false :: s.out ∧ t.xbr.retained = [] ∧ t.xbr.stored = [] ∧
      SMap.get t.xbr.expect (flow g.src.val g.dest.val g.q.val) 0 = (g.seq.toNat + 1) % 65536 ∧
      SMap.get t.xbr.egress (8 * d.val + g.q.val) [] = SMap.get s.xbr.egress (8 * d.val + g.q.val) [] ++ [m] := by
  subst hhdr hdest
  have hexec := execIngotReceive_only (p := p) hsrc hinject hcrc hecc hnew hretained hresv hstored x
  rw [State.releaseIngots_last (s := s.ingotTaken p.val r.hdr) (m := m) rfl hlast hexpect hinflight hct hgone (hto ▸ hup)] at hexec
  simp only [State.pushEgress, State.modXbr, State.released, State.ingotTaken, State.planeAnswers, State.emit, hto, hq] at hexec
  refine ⟨_, hexec, rfl, rfl, rfl, rfl, SMap.get_store_self _ _ _ _ hwf, ?_⟩
  rw [SMap.get, SMap.find_put, if_pos rfl]
  rfl

/-- XBR_INFO answers 12 bytes, with the healthy and the failed planes. -/
theorem xbrInfo_reads : Reads .xbrInfo 0xC300 .observe 0 always (fun _ _ s b => b.length = 12 ∧ fieldAt b 0 1 = s.healthyPlanes ∧
    fieldAt b 2 1 = s.get Reg.XBR_PLANE_STATUS_FAILED % 256) := by
  intro h p s hop hpriv hlen _
  have hr : Reached specXbrInfo h p s := reached hop hpriv hlen rfl rfl
  have hplanes : s.healthyPlanes ≤ 5 := (List.length_filter_le _ _).trans List.length_range.le
  refine ⟨_, ⟨by simp, ?_, ?_⟩, hr.done (specXbrInfo_run h p _)⟩
  · rw [fieldAt_leBytes_zero, CmdSpec.recorded_healthyPlanes]
    exact Nat.mod_eq_of_lt (by omega)
  · rw [fieldAt_append_right 1 (by simp), fieldAt_append_right 0 (by simp), fieldAt_leBytes_zero, CmdSpec.recorded_planesFailed]
    rfl

/-- R257: XBR_MC_POLICY_SET commits POLICY of one group and waits for the commit. -/
theorem xbrMcPolicySet_waits {h : Hdr} {p : Bytes} (hop : Operating s) (hpriv : Privileged .operate h s) (hlen : p.length = 2)
    (hgroup : p8 p 0 < 64) (hpolicy : p8 p 1 < 2) :
    ∃ t, exec (.xbrMcPolicySet h p) s = .next t ∧
      (t.tbl.waits.map Waiting.what) = s.tbl.waits.map Waiting.what ++ [.modCommit s.tbl.nextMod] ∧
      (t.tbl.modq.map ModCommit.writes) = s.tbl.modq.map ModCommit.writes ++
        [[(0x0701, 16 * p8 p 0 + 8, leBytes 1 (putBit (fieldAt (s.mcEntry (p8 p 0)) 8 1) 1 (p8 p 1 == 1)))]] ∧
      t.tbl.tables = s.tbl.tables ∧ t.regs = (request 0xC301 .operate h p s).regs ∧ t.xbr = s.xbr := by
  have hr : Reached specXbrMcPolicySet h p s := reached hop hpriv hlen rfl (by
    simp [specXbrMcPolicySet, firstBad, need, hgroup, Nat.le_of_lt_succ hpolicy])
  obtain ⟨x, hwhat, hexec⟩ := hr.waitsFor rfl
  refine ⟨_, hexec, ?_, ?_, ?_, rfl, CmdSpec.recorded_xbr ..⟩
  · simp [hwhat, State.moduleCommit]
  · simp [State.moduleCommit]
  · simp [State.moduleCommit]

/-- R274: XBR_PLANE_RETIRE marks an active plane, commits the spare into its slot and waits for the commit. -/
theorem xbrPlaneRetire_waits {sp : Nat} {h : Hdr} {p : Bytes} (hwf : SMap.wf s.regs) (hop : Operating s) (hpriv : Privileged .admin h s)
    (hlen : p.length = 1) (hplane : p8 p 0 < 5) (hactive : p8 p 0 ∈ s.activePlanes) (hspare : s.sparePlane = some sp) :
    ∃ t, exec (.xbrPlaneRetire h p) s = .next t ∧ t.planeFailed (p8 p 0) = true ∧
      (t.tbl.waits.map Waiting.what) = s.tbl.waits.map Waiting.what ++ [.modCommit s.tbl.nextMod] ∧
      (∃ j < 4, s.planeSlot j = some (p8 p 0) ∧
        (t.tbl.modq.map ModCommit.writes) = s.tbl.modq.map ModCommit.writes ++ [[(0x0700, j, leBytes 1 (0x80 + sp))]]) := by
  have hr : Reached specXbrPlaneRetire h p s := reached hop hpriv hlen rfl (by simp [specXbrPlaneRetire, firstBad, need, hplane, hactive])
  obtain ⟨j, hj, hslot, hrun⟩ := specXbrPlaneRetire_run_retires (s := specXbrPlaneRetire.recorded h p s) (by simpa using hactive)
    (by simpa using hspare) h
  obtain ⟨x, hwhat, hexec⟩ := hr.waitsFor hrun
  have hok : (specXbrPlaneRetire.recorded h p s).planeFailed (p8 p 0) = false := by simpa using (State.activePlanes_slot hactive).1
  have hmarked := State.planeFailed_planeMarked (State.record_wf _ _ _ _ hwf) hplane hok
  refine ⟨_, hexec, (State.planeFailed_congr rfl (p8 p 0)).trans hmarked, ?_, j, hj, by simpa using hslot, ?_⟩
  · simp [hwhat, State.moduleCommit, State.planeMarked]
  · simp [State.moduleCommit, State.planeMarked]

/-- XBR_STATS answers 536 bytes. -/
theorem xbrStats_reads : Reads .xbrStats 0xC303 .observe 0 always (fun _ _ _ b => b.length = 536) := by
  intro h p s hop hpriv hlen _
  have hr : Reached specXbrStats h p s := reached hop hpriv hlen rfl rfl
  exact ⟨_, by simp [length_fieldRow], hr.done (specXbrStats_run h p _)⟩

end

/-- Settles O41: the lemmas above, one for each clause. -/
theorem fabricCore : Obligations.FabricCore :=
  ⟨fun _ _ _ _ _ _ => messagePromotion_promotes, fun _ _ _ _ _ => ingotSlot_sends, fun _ _ _ _ _ _ _ => ingotAckTimeout_resends,
    fun _ _ => planeProbeTimeout_fails, fun _ _ => spareSelfTest_tests,
    fun _ _ _ x _ hdest hinject hcrc hseen => execIngotReceive_duplicate hdest hinject hcrc hseen x,
    fun _ _ _ _ _ _ _ hwf _ => ingotReceive_releases hwf,
    fun _ _ _ => execHeadroomGrant_passes, xbrInfo_reads, fun _ _ _ => xbrMcPolicySet_waits, fun _ _ _ _ => xbrPlaneRetire_waits, xbrStats_reads⟩

end Sys2Proof.Claims

namespace Sys2Proof.Machine

/-! ## What a COMMAND record leaves of the scheduler, of the vault's pages and of the management USP -/

section
variable (c : CmdSpec) (h : Hdr) (p : Bytes) (s : State)

@[simp] theorem CmdSpec.recorded_sch : (c.recorded h p s).sch = s.sch := State.record_sch ..

@[simp] theorem CmdSpec.recorded_telemRec (n : Nat) : (c.recorded h p s).telemRec n = s.telemRec n := by simp [State.telemRec]

@[simp] theorem CmdSpec.recorded_channelFailed (n : Nat) : (c.recorded h p s).channelFailed n = s.channelFailed n := by
  have hfailed : (c.recorded h p s).get Reg.VLT_PC_FAILED = s.get Reg.VLT_PC_FAILED := State.record_get _ _ _ _ _ _ (by decide)
  simp only [State.channelFailed, hfailed]

@[simp] theorem CmdSpec.recorded_remapOf (n : Nat) : (c.recorded h p s).remapOf n = s.remapOf n := by simp [State.remapOf]

@[simp] theorem CmdSpec.recorded_onFailed (n : Nat) : (c.recorded h p s).onFailed n = s.onFailed n := by
  have hchannel : (c.recorded h p s).channelFailed = s.channelFailed := funext (c.recorded_channelFailed h p s)
  simp only [State.onFailed, State.physOf, CmdSpec.recorded_remapOf, hchannel]

@[simp] theorem CmdSpec.recorded_pageLost (n : Nat) : (c.recorded h p s).pageLost n = s.pageLost n := by simp [State.pageLost]

@[simp] theorem CmdSpec.recorded_telemLost (seq off n : Nat) : (c.recorded h p s).telemLost seq off n = s.telemLost seq off n := by
  simp [State.telemLost]

@[simp] theorem CmdSpec.recorded_mgmtUsp : (c.recorded h p s).mgmtUsp = s.mgmtUsp := by
  have husp : (c.recorded h p s).isUsp = s.isUsp := funext (c.recorded_isUsp h p s)
  have hmgmt (u : Nat) : (c.recorded h p s).flag Reg.PRT_PORT_CFG_MGMT_USP u = s.flag Reg.PRT_PORT_CFG_MGMT_USP u :=
    c.recorded_flag h p s _ _ (by simp only [Field.key, Reg.REC_MISSED, Reg.PRT_PORT_CFG_MGMT_USP]; omega)
  simp only [State.mgmtUsp, State.usps, husp, hmgmt]

end

/-! ## Egress selection (R279, R280) -/

/-- R280: an eligible Q0 with guard tokens goes before every other queue. -/
theorem State.chooseQueue_first {s : State} {e : Nat} (helig : s.eligible e 0 = true) (hguard : s.guardOk e 0 = true) :
    s.chooseQueue e = (s, some 0) :=
  if_pos (by rw [helig, hguard]; rfl)

/-- Where no queue is eligible none is chosen. -/
theorem State.chooseQueue_none {s : State} {e : Nat} (hnone : [0, 1, 2, 3, 4, 5, 6, 7].any (s.eligible e) = false) :
    s.chooseQueue e = (s, none) := by
  simp only [List.any_cons, Bool.or_eq_false_iff] at hnone
  obtain ⟨h0, h1, h2, h3, h4, h5, h6, h7, -⟩ := hnone
  simp [State.chooseQueue, h0, h1, h2, h3, h4, h5, h6, h7]

/-- Everything the end of a message can do to the posted counts: XBR alone changes, no egress queue. -/
theorem State.postedDone_frame (s : State) (src dest q : Nat) :
    ∃ xbr, s.postedDone src dest q = { s with xbr := xbr } ∧ xbr.egress = s.xbr.egress := by
  unfold State.postedDone
  split
  · exact ⟨_, rfl, rfl⟩
  · exact ⟨_, rfl, rfl⟩

/-- A message that a Seam stream transmits leaves its queue and goes out; XBR and SCH alone change. -/
theorem State.transmit_seam (s : State) {e : Nat} (he : 64 ≤ e) (q : Nat) (m : Msg) : ∃ xbr sch,
    s.transmit e q m = { s with xbr := xbr, sch := sch, out := m.output :: s.out } ∧
      xbr.egress = SMap.store s.xbr.egress (8 * egressAtt e + q) (s.egressOf e q).tail [] := by
  unfold State.transmit
  extract_lets l b k rest s1 s2 s3 shape s4 s5
  have hawake : s1 = s := if_neg (Nat.not_lt.2 he)
  obtain ⟨xbr, hposted, hegress⟩ : ∃ xbr, s3 = { s2 with xbr := xbr } ∧ xbr.egress = s2.xbr.egress := State.postedDone_frame ..
  have hdeficit : ∃ sch, s5 = { s4 with sch := sch } := by
    by_cases hq : 2 ≤ q
    · exact ⟨_, if_pos hq⟩
    · exact ⟨_, if_neg hq⟩
  obtain ⟨sch, hdeficit⟩ := hdeficit
  refine ⟨xbr, sch, ?_, ?_⟩
  · rw [hdeficit]
    simp only [s4, State.modSch, hposted, s2, State.modXbr, hawake, State.emit]
  · rw [hegress]
    simp only [s2, State.modXbr, hawake, k, rest]

/-! ## Token refill (R285) -/

@[simp] theorem refillAll_nil (full : Nat → Int) (rate : Nat → Nat) : refillAll full rate [] = [] := rfl

/-- R285: a bucket gains its rate, and is no longer noted once it is full. -/
theorem refillAll_singleton (full : Nat → Int) (rate : Nat → Nat) (k : Nat) (v : Int) :
    refillAll full rate [(k, v)] = if full k ≤ v + rate k then [] else [(k, v + rate k)] := by
  by_cases hfull : full k ≤ v + rate k <;>
    simp only [refillAll, refillBucket, hfull, if_true, if_false, List.filterMap_cons, List.filterMap_nil, Option.map_none, Option.map_some]

/-! ## Samples and records (R294 to R297) -/

/-- A sample of queues that are all idle only counts, and ends every run of samples above the alert level. -/
theorem execTelemetrySample_idle {s : State} (hen : s.flag Reg.SCH_CTL_TELEM_EN = true) (hidle : s.busyQueues = []) :
    execTelemetrySample s = .next (s.modSch (fun x => { x with samples := x.samples + 1, alert := [] })) := by
  simp [execTelemetrySample, hen, hidle, forEach, State.modSch]

/-- R295, R296: a record that the vault takes goes first in an archive with room, under the next number, and ends GAP. -/
theorem execTelemetryExportInterval_written {s : State} (hen : s.flag Reg.SCH_CTL_TELEM_EN = true)
    (hroom : s.sch.archive.length < archiveRecords) :
    ∃ r : TelemRec, r.seq = s.sch.nextRec ∧ execTelemetryExportInterval true s =
      .next { s.set Reg.SCH_TELEM_STATUS_SEQ 0 s.sch.nextRec with sch := { s.sch.clearInterval with
        cleared := false, alerted := [], archive := r :: s.sch.archive, nextRec := (s.sch.nextRec + 1) % 2 ^ 32, gap := false } } := by
  have htake (r : TelemRec) : (r :: s.sch.archive).take archiveRecords = r :: s.sch.archive := List.take_of_length_le hroom
  simp only [execTelemetryExportInterval, hen, Bool.not_true, Bool.false_eq_true, if_false, if_true, if_neg (Nat.not_le.2 hroom), htake]
  exact ⟨_, rfl, rfl⟩

/-- R297: a record that the vault does not take is dropped, with GAP. -/
theorem execTelemetryExportInterval_dropped {s : State} (hen : s.flag Reg.SCH_CTL_TELEM_EN = true) :
    execTelemetryExportInterval false s = .next { s.setFlag Reg.SCH_TELEM_STATUS_GAP 0 true with
      sch := { s.sch.clearInterval with cleared := false, alerted := [], gap := true } } := by
  simp only [execTelemetryExportInterval, hen, Bool.not_true, Bool.false_eq_true, if_false]

/-! ## The scheduler's commands (R303) -/

/-- A row of byte strings of one length. -/
theorem length_flatten_range {f : Nat → Bytes} {n : Nat} (hlen : ∀ i, (f i).length = n) (m : Nat) :
    ((List.range m).map f).flatten.length = m * n := by
  simp [List.length_flatten, Function.comp_def, hlen]

/-- SCH_TELEM_READ of bytes that no lost page holds answers them. -/
theorem specSchTelemRead_run_kept {p : Bytes} {s : State} {r : TelemRec} (hrec : s.telemRec (p32 p 0) = some r)
    (hkept : s.telemLost r.seq (p32 p 4) (p32 p 8) = false) (h : Hdr) :
    specSchTelemRead.run h p s = .done (r.bytes (p32 p 4) (p32 p 8)) s := by
  simp only [specSchTelemRead, hrec, hkept, Bool.false_eq_true, if_false]

/-- SCH_TELEM_EXPORT of one record that no lost page holds writes it to the host of the management USP. -/
theorem specSchTelemExport_run_one {p : Bytes} {s : State} {r : TelemRec} {u : Nat} (hone : p32 p 4 = 1)
    (hrec : s.telemRec (p32 p 0) = some r) (husp : s.mgmtUsp = some u) (hkept : s.telemLost r.seq 0 telemLen = false) (h : Hdr) :
    specSchTelemExport.run h p s =
      .finished (s.emit (.hostWrite u 0x8000 (p64 p 8 + telemLen * 0) (r.bytes 0 telemLen))) stSuccess [1, 0, 0, 0] := by
  have hrecs : (List.range (p32 p 4)).filterMap (fun i => s.telemRec (p32 p 0 + i)) = [r] := by simp [hone, hrec]
  have hkeeps : [r].find? (fun r => s.telemLost r.seq 0 telemLen) = none := by
    rw [List.find?_singleton, hkept]
    rfl
  have hcount : leBytes 4 1 = [1, 0, 0, 0] := rfl
  simp only [specSchTelemExport, husp, hrecs, hkeeps, List.zipIdx_cons, List.zipIdx_nil, forEach, List.foldl_cons, List.foldl_nil,
    List.length_singleton, hcount]

end Sys2Proof.Machine

namespace Sys2Proof.Claims

open Sys2Proof.Machine

/-- A command whose background work has ended at once answers STARTED with its outcome set, while fewer than 16 commands run (R473). -/
theorem Reached.finished {c : CmdSpec} {h : Hdr} {p : Bytes} {s t : State} {st : Nat} {r : Bytes} (hr : Reached c h p s)
    (hroom : s.cmd.bg.length < 16) (hrun : c.run h p (c.recorded h p s) = .finished t st r) (hcmd : t.cmd = s.cmd) :
    c.direct h p s = .next (c.answered h s ((t.beginBg c h p s.trec.next false).endBg s.cmd.nextBg st r) stStarted []) := by
  have hroom' : ¬ 16 ≤ (c.recorded h p s).cmd.bg.length := by
    rw [CmdSpec.recorded_cmd]
    omega
  have hout : c.outcome h p (c.recorded h p s) = .finished t st r := by
    rw [c.outcome_run hr.mayIssue hr.deny hr.lock hr.check hr.serves, hrun]
    exact if_neg hroom'
  exact hcmd ▸ c.direct_finished hr.operating.on hr.len hout

/-! ## O42, clause by clause -/

section
variable {s : State}

/-- R279, R280: an eligible Q0 of a Seam stream with guard tokens sends its head. -/
theorem egressSelect_sends {e : Fin 68} {m : Msg} {ms : List Msg} (hwf : SMap.wf s.xbr.egress) (helig : s.eligible e.val 0 = true)
    (hguard : s.guardOk e.val 0 = true) (hhead : s.egressOf e.val 0 = m :: ms) (he : 64 ≤ e.val) :
    ∃ t, exec (.egressSelect e) s = .next t ∧ t = { s with xbr := t.xbr, sch := t.sch, out := t.out } ∧ t.out = m.output :: s.out ∧
      t.egressOf e.val 0 = ms := by
  have hexec : exec (.egressSelect e) s = .next (s.transmit e.val 0 m) := by
    change execEgressSelect e s = _
    simp only [execEgressSelect, State.chooseQueue_first helig hguard, hhead]
  obtain ⟨xbr, sch, hsent, hegress⟩ := s.transmit_seam he 0 m
  rw [hhead] at hegress
  rw [hsent] at hexec
  refine ⟨_, hexec, rfl, rfl, ?_⟩
  rw [State.egressOf, hegress]
  exact SMap.get_store_self _ _ _ _ hwf

/-- R279: with nothing eligible nothing is sent. -/
theorem egressSelect_idle {e : Fin 68} (hnone : ([0, 1, 2, 3, 4, 5, 6, 7].any (s.eligible e.val)) = false) :
    exec (.egressSelect e) s = .next s := by
  change execEgressSelect e s = _
  simp only [execEgressSelect, State.chooseQueue_none hnone]

/-- R285: the only noted bucket, a shaper, gains its rate, and is not noted once it is full or not enabled. -/
theorem tokenRefill_refills {k : Nat} {v : Int} (hshaper : s.sch.shaper = [(k, v)]) (hguard : s.sch.guard = []) (hpolicer : s.sch.policer = []) :
    exec .tokenRefill s = .next { s with sch := { s.sch with
      shaper := if bitOf (fieldAt (s.schEntry (k / 8) (k % 8)) 2 1) 0 = false ∨
            shapeFull (s.schEntry (k / 8) (k % 8)) ≤ v + (fieldAt (s.schEntry (k / 8) (k % 8)) 4 4 : Int) then []
        else [(k, v + (fieldAt (s.schEntry (k / 8) (k % 8)) 4 4 : Int))] } } := by
  change execTokenRefill s = _
  simp only [execTokenRefill, State.modSch, hshaper, hguard, hpolicer, List.filter_cons, List.filter_nil]
  cases bitOf (fieldAt (s.schEntry (k / 8) (k % 8)) 2 1) 0 with
  | false => simp only [Bool.false_eq_true, if_false, refillAll_nil, true_or, if_true]
  | true => simp only [if_true, refillAll_singleton, refillAll_nil, Bool.true_eq_false, false_or]

/-- R295, R296: an interval whose record the vault takes. -/
theorem telemetryExportInterval_writes (hen : s.flag Reg.SCH_CTL_TELEM_EN = true) (hroom : s.sch.archive.length < 13701) :
    ∃ t, exec (.telemetryExportInterval true) s = .next t ∧ t = { s with regs := t.regs, sch := t.sch } ∧ t.sch.samples = 0 ∧
      t.sch.gap = false ∧ t.sch.nextRec = (s.sch.nextRec + 1) % 2 ^ 32 ∧
      t.sch.archive.map TelemRec.seq = s.sch.nextRec :: s.sch.archive.map TelemRec.seq := by
  obtain ⟨r, hseq, hexec⟩ := execTelemetryExportInterval_written hen hroom
  exact ⟨_, hexec, rfl, rfl, rfl, rfl, congrArg (· :: _) hseq⟩

/-- R297: an interval whose record the vault does not take. -/
theorem telemetryExportInterval_drops (hwf : SMap.wf s.regs) (hen : s.flag Reg.SCH_CTL_TELEM_EN = true) :
    ∃ t, exec (.telemetryExportInterval false) s = .next t ∧ t = { s with regs := t.regs, sch := t.sch } ∧ t.sch.samples = 0 ∧
      t.sch.gap = true ∧ t.flag Reg.SCH_TELEM_STATUS_GAP = true ∧ t.sch.nextRec = s.sch.nextRec ∧ t.sch.archive = s.sch.archive := by
  have hgap : (s.setFlag Reg.SCH_TELEM_STATUS_GAP 0 true).get Reg.SCH_TELEM_STATUS_GAP = 1 := State.get_set_self s _ 0 _ hwf
  exact ⟨_, execTelemetryExportInterval_dropped hen, rfl, rfl, rfl, congrArg (fun n => n % 2 == 1) hgap, rfl, rfl⟩

/-- Telemetry that is not enabled neither samples nor records. -/
theorem telemetry_disabled (b : Bool) (hoff : s.flag Reg.SCH_CTL_TELEM_EN = false) :
    exec .telemetrySample s = .next s ∧ exec (.telemetryExportInterval b) s = .next s :=
  ⟨congrArg Host.Outcome.next (if_pos (by rw [hoff]; rfl)), congrArg Host.Outcome.next (if_pos (by rw [hoff]; rfl))⟩

/-- SCH_INFO answers the first and the last record's number and eight bytes for each egress point. -/
theorem schInfo_reads : Reads .schInfo 0xC310 .observe 0 always (fun _ _ _ b => b.length = 552) := by
  intro h p s hop hpriv hlen _
  have hr : Reached specSchInfo h p s := reached hop hpriv hlen rfl rfl
  refine ⟨_, ?_, hr.done rfl⟩
  simp only [List.length_append, length_leBytes, length_flatten_range (n := 8), List.length_cons, List.length_nil, implies_true]

/-- SCH_TELEM_READ answers bytes of a kept record. -/
theorem schTelemRead_answers {r : TelemRec} {h : Hdr} {p : Bytes} (hop : Operating s) (hpriv : Privileged .observe h s) (hlen : p.length = 12)
    (hrec : s.telemRec (p32 p 0) = some r) (hoff : p32 p 4 < 78368) (hmin : 1 ≤ p32 p 8) (hmax : p32 p 8 ≤ 4064)
    (hend : p32 p 4 + p32 p 8 ≤ 78368) (hkept : s.telemLost r.seq (p32 p 4) (p32 p 8) = false) :
    exec (.schTelemRead h p) s = .next (answered 0xC311 stSuccess h s (r.bytes (p32 p 4) (p32 p 8)) (request 0xC311 .observe h p s)) := by
  have hr : Reached specSchTelemRead h p s := reached hop hpriv hlen rfl (by
    simp [specSchTelemRead, firstBad, need, telemLen, hrec, hoff, hmin, hmax, hend])
  exact hr.done (specSchTelemRead_run_kept (by simpa using hrec) (by simpa using hkept) h)

/-- SCH_TELEM_EXPORT of one kept record writes it to the host and has ended when it answers. -/
theorem schTelemExport_exports {r : TelemRec} {u : Nat} {h : Hdr} {p : Bytes} (hop : Operating s) (hpriv : Privileged .operate h s)
    (hlen : p.length = 16) (hrec : s.telemRec (p32 p 0) = some r) (hone : p32 p 4 = 1) (halign : p64 p 8 % 4096 = 0) (husp : s.mgmtUsp = some u)
    (hkept : s.telemLost r.seq 0 telemLen = false) (hroom : s.cmd.bg.length < 16) :
    exec (.schTelemExport h p) s = .next (answered 0xC312 stStarted h s [] ((background 0xC312 h p s false
      ((request 0xC312 .operate h p s).emit (.hostWrite u 0x8000 (p64 p 8 + telemLen * 0) (r.bytes 0 telemLen)))).endBg s.cmd.nextBg stSuccess
        [1, 0, 0, 0])) := by
  have hr : Reached specSchTelemExport h p s := reached hop hpriv hlen rfl (by
    simp [specSchTelemExport, firstBad, need, archiveRecords, hrec, hone, halign])
  have hrun := specSchTelemExport_run_one (s := specSchTelemExport.recorded h p s) hone (by simpa using hrec) (by simpa using husp)
    (by simpa using hkept) h
  exact hr.finished hroom hrun (specSchTelemExport.recorded_cmd h p s)

/-- SCH_TELEM_CLEAR clears the interval's counts. -/
theorem schTelemClear_clears : Does .schTelemClear 0xC313 .operate 0 always
    (fun _ _ s => { s with sch := { s.sch with hist := [], maxDepth := [], maxDelay := [], charged := [], samples := 0, cleared := true } }) := by
  intro h p s hop hpriv hlen _
  have hr : Reached specSchTelemClear h p s := reached hop hpriv hlen rfl rfl
  exact hr.done rfl

/-- SCH_HOLD_READ answers eight bytes for each LD of a USP. -/
theorem schHoldRead_reads : Reads .schHoldRead 0xC314 .observe 1 (fun _ p s => s.isUsp (p8 p 0) = true) (fun _ _ _ b => b.length = 128) := by
  intro h p s hop hpriv hlen husp
  have hr : Reached specSchHoldRead h p s := reached hop hpriv hlen rfl (firstBad_eq_none_iff.2 (by simpa [need] using husp))
  exact ⟨_, length_flatten_range (n := 8) (fun _ => by simp only [List.length_append, length_leBytes, List.length_cons, List.length_nil]) 16,
    hr.done rfl⟩

end

/-- Settles O42: the lemmas above, one for each clause. -/
theorem schedulingAndTelemetry : Obligations.SchedulingAndTelemetry :=
  ⟨fun _ _ _ _ => egressSelect_sends, fun _ _ => egressSelect_idle, fun _ _ _ => tokenRefill_refills, fun _ => execTelemetrySample_idle,
    fun _ => telemetryExportInterval_writes, fun _ => telemetryExportInterval_drops, fun b _ => telemetry_disabled b, schInfo_reads,
    fun _ _ _ _ => schTelemRead_answers, fun _ _ _ _ _ => schTelemExport_exports, schTelemClear_clears, schHoldRead_reads⟩

end Sys2Proof.Claims

namespace Sys2Proof.Machine

/-! ## Completions and slots (R325 to R329) -/

section
variable {s : State} {p : Port} {c : DevCpl}

@[simp] theorem State.slotAt_io (s : State) (p k : Nat) : s.slotAt p .io k = s.ioSlot p k := rfl

@[simp] theorem State.putSlot_io (s : State) (p k : Nat) (x : TagSlot) : s.putSlot p .io k x = s.setIoSlot p k x := rfl

@[simp] theorem slotOk_io (k : Nat) : slotOk .io k = decide (k < 1024) := rfl

/-- R328: a completion for a slot that is free or quarantined is late; a drop that is due waits for another. -/
theorem execDeviceCompletion_late (hup : s.mainUp = true) (hslot : slotOk c.kind c.slot = true)
    (hunmet : (s.slotAt p.val c.kind c.slot).user = none ∨ (s.slotAt p.val c.kind c.slot).quar = true) :
    execDeviceCompletion p c s = .next (execDeviceCompletion.late p c s (s.slotAt p.val c.kind c.slot)) := by
  have hnodrop : ¬ (s.flt.cplDropInject.contains p.val && (s.slotAt p.val c.kind c.slot).user.isSome &&
      !(s.slotAt p.val c.kind c.slot).quar) = true := by
    rcases hunmet with hfree | hquar
    · simp [hfree]
    · simp [hquar]
  refine congrArg Host.Outcome.next ((if_neg (by simp [hup, hslot])).trans ((if_neg hnodrop).trans ?_))
  split
  next u huser =>
    have hquar : (s.slotAt p.val c.kind c.slot).quar = true := hunmet.resolve_left (by simp [huser])
    exact if_neg (by simp [hquar])
  next => rfl

/-- R328: a late completion for a slot that is not quarantined leaves the slot. -/
theorem execDeviceCompletion.late_unquarantined {x : TagSlot} (hquar : x.quar = false) :
    execDeviceCompletion.late p c s x = (s.bump Reg.PRT_CNT_LATE p.val).reportIx 0x0680 p.val corrected 0 :=
  if_neg (by simp [hquar])

/-- R328: a late completion for a quarantined slot ends its quarantine. -/
theorem execDeviceCompletion.late_quarantined {x : TagSlot} (hquar : x.quar = true) :
    execDeviceCompletion.late p c s x =
      ((s.bump Reg.PRT_CNT_LATE p.val).reportIx 0x0680 p.val corrected 0).putSlot p.val c.kind c.slot { x with quar := false } :=
  if_pos hquar

/-- R328: an accepted completion of a request of Acrak's frees its slot. -/
theorem execDeviceCompletion_acrak {n : Nat} (hup : s.mainUp = true) (hslot : slotOk c.kind c.slot = true)
    (hquar : (s.slotAt p.val c.kind c.slot).quar = false) (huser : (s.slotAt p.val c.kind c.slot).user = some (.acrak n))
    (hgen : c.kind = .io ∨ (s.slotAt p.val c.kind c.slot).gen % 16 = c.gen.toNat) (hok : c.ok = true)
    (hnodrop : s.flt.cplDropInject.contains p.val = false) :
    execDeviceCompletion p c s =
      .next (s.putSlot p.val c.kind c.slot { s.slotAt p.val c.kind c.slot with user := none }) := by
  refine congrArg Host.Outcome.next ((if_neg (by simp [hup, hslot])).trans ((if_neg (by rw [hnodrop]; simp)).trans ?_))
  simp only [huser]
  exact (if_pos (by simp [hquar, hgen])).trans (if_pos hok)

/-- Table 12-9: an injected drop swallows the next completion that a slot of the port awaits, and is spent; the slot stays. -/
theorem execDeviceCompletion_dropped (hup : s.mainUp = true) (hslot : slotOk c.kind c.slot = true)
    (hquar : (s.slotAt p.val c.kind c.slot).quar = false) (huser : (s.slotAt p.val c.kind c.slot).user.isSome = true)
    (hdrop : p.val ∈ s.flt.cplDropInject) :
    execDeviceCompletion p c s = .next { s with
      flt := { s.flt with cplDropInject := delFirst (· == p.val) s.flt.cplDropInject,
                          cplDropped := s.flt.cplDropped ++ [(p.val, slotCode c.kind c.slot)] } } :=
  congrArg Host.Outcome.next ((if_neg (by simp [hup, hslot])).trans (if_pos (by simp [hdrop, huser, hquar])))

end

section
variable {s : State} {p : Port} {kind : SlotKind} {k : Nat}

/-- Counting a timeout leaves the personality of the port. -/
theorem State.isPool_bump_cto (s : State) (p : Port) (n : Nat) : (s.bump Reg.PRT_CNT_CTO p.val n).isPool p.val = s.isPool p.val := by
  have hp := p.isLt
  have hwidth : (s.bump Reg.PRT_CNT_CTO p.val n).get Reg.LNC_BAY_CFG_WIDTH (p.val / 4) = s.get Reg.LNC_BAY_CFG_WIDTH (p.val / 4) :=
    s.get_set_ne _ _ _ _ _ (by simp only [Field.key, Reg.PRT_CNT_CTO, Reg.LNC_BAY_CFG_WIDTH]; omega)
  have hrole : (s.bump Reg.PRT_CNT_CTO p.val n).get Reg.PRT_PORT_CFG_ROLE p.val = s.get Reg.PRT_PORT_CFG_ROLE p.val :=
    s.get_set_ne _ _ _ _ _ (by simp only [Field.key, Reg.PRT_CNT_CTO, Reg.PRT_PORT_CFG_ROLE]; omega)
  have hpersonality : (s.bump Reg.PRT_CNT_CTO p.val n).get Reg.POL_DSP_CFG_PERSONALITY p.val = s.get Reg.POL_DSP_CFG_PERSONALITY p.val :=
    s.get_set_ne _ _ _ _ _ (by simp only [Field.key, Reg.PRT_CNT_CTO, Reg.POL_DSP_CFG_PERSONALITY]; omega)
  simp only [State.isPool, State.isDsp, State.present, hwidth, hrole, hpersonality]

/-- R327: at a port that is no POOL DSP the failure of a request of Acrak's has no further effect. -/
theorem State.acrakFailed_unpooled {p : Nat} (hpool : s.isPool p = false) : s.acrakFailed p = s :=
  if_neg (by simp [hpool])

/-- R327: the timeout of a request whose completion no injection dropped. -/
theorem execModuleRequestTimeout_timedOut {u : SlotUser} (hslot : slotOk kind k = true) (hquar : (s.slotAt p.val kind k).quar = false)
    (huser : (s.slotAt p.val kind k).user = some u) (hlost : s.flt.cplDropped.contains (p.val, slotCode kind k) = false) :
    execModuleRequestTimeout p kind k s = .next (execModuleRequestTimeout.timedOut p kind k u (s.slotAt p.val kind k) s) := by
  refine congrArg Host.Outcome.next ((if_neg (by simp [hslot, hquar])).trans ?_)
  simp only [huser]
  exact if_neg (by rw [hlost]; exact Bool.false_ne_true)

/-- R327: the timeout of a request of Acrak's quarantines its CXL.io slot under the next generation, is counted and reported, no more. -/
theorem execModuleRequestTimeout.timedOut_acrak (hpool : s.isPool p.val = false) (k n : Nat) (x : TagSlot) :
    execModuleRequestTimeout.timedOut p .io k (.acrak n) x s =
      ((s.setIoSlot p.val k { x with user := none, quar := true, gen := (x.gen + 1) % 256 }).bump Reg.PRT_CNT_CTO p.val).reportIx
        0x0640 p.val contained 0 := by
  have hunpooled (y : TagSlot) : (((s.setIoSlot p.val k y).bump Reg.PRT_CNT_CTO p.val).reportIx 0x0640 p.val contained 0).isPool p.val = false :=
    (State.isPool_bump_cto (s.setIoSlot p.val k y) p 1).trans hpool
  exact State.acrakFailed_unpooled (hunpooled _)

/-- R328: the end of a quarantine frees the slot. -/
theorem execQuarantineExpiry_frees (hslot : slotOk kind k = true) (hquar : (s.slotAt p.val kind k).quar = true) :
    execQuarantineExpiry p kind k s = .next (s.putSlot p.val kind k { s.slotAt p.val kind k with quar := false }) :=
  congrArg Host.Outcome.next (if_pos (by simp [hslot, hquar]))

end

end Sys2Proof.Machine

namespace Sys2Proof.Claims

open Sys2Proof.Machine

/-! ## O34, clause by clause -/

section
variable {s : State} {p : Port} {c : DevCpl} {n k : Nat}

/-- R328: a completion for a free slot is counted late and reported. -/
theorem deviceCompletion_late (hup : s.mainUp = true) (hslot : slotOk c.kind c.slot = true)
    (hfree : (s.slotAt p.val c.kind c.slot).user = none) (hquar : (s.slotAt p.val c.kind c.slot).quar = false) :
    exec (.deviceCompletion p c) s = .next ((s.bump Reg.PRT_CNT_LATE p.val).reportIx 0x0680 p.val corrected 0) :=
  (execDeviceCompletion_late hup hslot (.inl hfree)).trans (congrArg Host.Outcome.next (execDeviceCompletion.late_unquarantined hquar))

/-- R328: one for a quarantined CXL.io slot also frees it. -/
theorem deviceCompletion_unquarantines (hup : s.mainUp = true) (hkind : c.kind = .io) (hslot : c.slot < 1024)
    (hquar : (s.ioSlot p.val c.slot).quar = true) :
    exec (.deviceCompletion p c) s = .next (((s.bump Reg.PRT_CNT_LATE p.val).reportIx 0x0680 p.val corrected 0).setIoSlot p.val c.slot
      { s.ioSlot p.val c.slot with quar := false }) := by
  have hlate := execDeviceCompletion_late (s := s) (p := p) (c := c) hup (by simpa [hkind] using hslot) (.inr (by simpa [hkind] using hquar))
  rw [hkind, State.slotAt_io, execDeviceCompletion.late_quarantined hquar, hkind, State.putSlot_io] at hlate
  exact hlate

/-- R328: an accepted completion of Acrak's frees its slot and does nothing else. -/
theorem deviceCompletion_accepted (hup : s.mainUp = true) (hkind : c.kind = .io) (hslot : c.slot < 1024)
    (hquar : (s.ioSlot p.val c.slot).quar = false) (huser : (s.ioSlot p.val c.slot).user = some (.acrak n)) (hok : c.ok = true)
    (hnodrop : s.flt.cplDropInject = []) :
    exec (.deviceCompletion p c) s = .next (s.setIoSlot p.val c.slot { s.ioSlot p.val c.slot with user := none }) := by
  have hfreed := execDeviceCompletion_acrak (s := s) (p := p) (c := c) hup (by simpa [hkind] using hslot) (by simpa [hkind] using hquar)
    (by simpa [hkind] using huser) (.inl hkind) hok (by simp [hnodrop])
  rw [hkind, State.slotAt_io, State.putSlot_io] at hfreed
  exact hfreed

/-- Table 12-9: the only injected drop swallows an awaited completion. -/
theorem deviceCompletion_dropped (hup : s.mainUp = true) (hkind : c.kind = .io) (hslot : c.slot < 1024)
    (hquar : (s.ioSlot p.val c.slot).quar = false) (huser : (s.ioSlot p.val c.slot).user.isSome = true)
    (hdrop : s.flt.cplDropInject = [p.val]) :
    exec (.deviceCompletion p c) s = .next { s with
      flt := { s.flt with cplDropInject := [], cplDropped := s.flt.cplDropped ++ [(p.val, 4096 + c.slot)] } } := by
  have hswallowed := execDeviceCompletion_dropped (s := s) (p := p) (c := c) hup (by simpa [hkind] using hslot)
    (by simpa [hkind] using hquar) (by simpa [hkind] using huser) (by simp [hdrop])
  have hspent : delFirst (· == p.val) s.flt.cplDropInject = [] := by simp [hdrop, delFirst]
  rw [hspent, hkind] at hswallowed
  exact hswallowed

/-- R327: a timeout of Acrak's quarantines the slot under the next generation, is counted and reported. -/
theorem moduleRequestTimeout_quarantines (hslot : k < 1024) (hquar : (s.ioSlot p.val k).quar = false)
    (huser : (s.ioSlot p.val k).user = some (.acrak n)) (hpool : s.isPool p.val = false) (hlost : s.flt.cplDropped = []) :
    exec (.moduleRequestTimeout p .io k) s = .next (((s.setIoSlot p.val k
      { s.ioSlot p.val k with user := none, quar := true, gen := ((s.ioSlot p.val k).gen + 1) % 256 }).bump Reg.PRT_CNT_CTO p.val).reportIx
        0x0640 p.val contained 0) :=
  (execModuleRequestTimeout_timedOut (kind := .io) (decide_eq_true hslot) hquar huser (by simp [hlost])).trans
    (congrArg Host.Outcome.next (execModuleRequestTimeout.timedOut_acrak hpool _ _ _))

/-- R328: the end of the quarantine frees a CXL.io slot. -/
theorem quarantineExpiry_frees (hslot : k < 1024) (hquar : (s.ioSlot p.val k).quar = true) :
    exec (.quarantineExpiry p .io k) s = .next (s.setIoSlot p.val k { s.ioSlot p.val k with quar := false }) :=
  execQuarantineExpiry_frees (decide_eq_true hslot) hquar

end

/-- Settles O34: the lemmas above, one for each clause. -/
theorem deviceCompletions : Obligations.DeviceCompletions :=
  ⟨fun _ _ _ => deviceCompletion_late, fun _ _ _ => deviceCompletion_unquarantines, fun _ _ _ _ => deviceCompletion_accepted,
    fun _ _ _ => deviceCompletion_dropped, fun _ _ _ _ => moduleRequestTimeout_quarantines, fun _ _ _ => quarantineExpiry_frees⟩

end Sys2Proof.Claims

namespace Sys2Proof.Claims

open Sys2Proof.Machine

/-! ## O36: a list of ports that is not canonical -/

/-- A module at reset but for its list of ports, which names port 0, a DSP in PASS personality, twice, each time with its link up. -/
def dspTwicePorted : State := { twicePorted { PortSt.dflt with up := true } with regs := [] }

set_option maxRecDepth 20000 in
/-- Port 0 goes down. Its state is then that at reset, so that the second entry shows, whose link is up. -/
theorem linkDown_dspTwicePorted : ((dspTwicePorted.linkDown 0).port 0).up = true := by decide

/-- Refutes O36: its clause about LINK_DOWN leaves out that the list of ports is canonical. Where the list names a DSP twice, the loss
of its link uncovers a second entry, and the link is up. -/
theorem not_linksAndLanes : ¬ Obligations.LinksAndLanes := by
  intro h
  obtain ⟨-, hlink, -⟩ := h
  obtain ⟨t, ht, hdown, -⟩ := hlink 0 dspTwicePorted (by decide) (by decide) (by decide) (by decide) rfl rfl (by decide)
  have hrun : exec (.linkDown 0) dspTwicePorted = .next (dspTwicePorted.linkDown 0) := rfl
  rw [← Host.Outcome.next.inj (hrun.symm.trans ht)] at hdown
  exact absurd (linkDown_dspTwicePorted.symm.trans hdown) (by decide)

end Sys2Proof.Claims

namespace Sys2Proof.Machine

/-! ## Stored port states -/

/-- A present port is one of 64 (R11). -/
theorem State.lt_of_present {s : State} {p : Nat} (hp : s.present p = true) : p < 64 := by
  simp only [State.present, Bool.and_eq_true, decide_eq_true_eq] at hp
  exact hp.1

/-- A port's state that differs from that at reset is read back, whatever the list held. -/
theorem State.port_modPort_of_ne {s : State} {p : Nat} {f : PortSt → PortSt} (hne : f (s.port p) ≠ PortSt.dflt) :
    (s.modPort p f).port p = f (s.port p) := by
  have hput : SMap.modify s.prt.ports p PortSt.dflt f = SMap.put s.prt.ports p (f (s.port p)) := if_neg hne
  rw [State.modPort, State.port, hput, SMap.get, SMap.find_put, if_pos rfl]
  rfl

/-- A register write leaves the ports' states. -/
theorem State.port_set (s : State) (f : Field) (i v q : Nat) : (s.set f i v).port q = s.port q := rfl

/-- What is added to a list is in it. -/
theorem mem_addNew {α : Type} [DecidableEq α] (a : α) (l : List α) : a ∈ addNew a l := by
  unfold addNew
  split
  · assumption
  · exact List.mem_append_right l List.mem_cons_self

/-- A reason for Disabled is added to a port's state, which is then not that at reset. -/
theorem State.port_addNew_disabledBy (s : State) (p why : Nat) :
    (s.modPort p (fun x => { x with disabledBy := addNew why x.disabledBy })).port p =
      { s.port p with disabledBy := addNew why (s.port p).disabledBy } :=
  State.port_modPort_of_ne fun hreset => List.ne_nil_of_mem (mem_addNew why _) (congrArg PortSt.disabledBy hreset)

/-! ## Links that are down (R376) -/

/-- A link that is down is not cut. -/
theorem State.linkCut_down {s : State} {p : Nat} (hdown : (s.port p).up = false) : s.linkCut p = s := if_pos (by simp [hdown])

/-- No test ends on a port that is not in test. -/
theorem State.endTest_untested {s : State} {p : Nat} (htest : (s.port p).testMode = none) : s.endTest p = s := if_neg (by simp [htest])

/-- A link that is down and then held in Disabled shows it. -/
theorem State.disable_down {s : State} {p : Nat} (hdown : (s.port p).up = false) (htest : (s.port p).testMode = none) (why : Nat) :
    s.disable p why =
      (s.modPort p (fun x => { x with disabledBy := addNew why x.disabledBy })).set Reg.LNC_PORT_STATUS_LTSSM p ltDisabled := by
  have hheld : addNew why (s.port p).disabledBy ≠ [] := List.ne_nil_of_mem (mem_addNew why _)
  have hport := s.port_addNew_disabledBy p why
  rw [State.disable, State.linkCut_down (by rw [hport]; exact hdown), State.endTest_untested (by rw [hport]; exact htest)]
  exact if_neg (by rw [hport]; simpa using hheld)

/-! ## What a COMMAND record leaves of lanes and ports -/

section
variable (c : CmdSpec) (h : Hdr) (p : Bytes) (s : State)

@[simp] theorem CmdSpec.recorded_fresh : (c.recorded h p s).fresh = s.fresh := State.record_fresh ..

/-- A COMMAND record leaves every field but REC_MISSED. -/
theorem CmdSpec.recorded_get (f : Field) (i : Nat) (hkey : Reg.REC_MISSED.key 0 ≠ f.key i) : (c.recorded h p s).get f i = s.get f i :=
  State.record_get _ _ _ _ _ _ hkey

@[simp] theorem CmdSpec.recorded_port (q : Nat) : (c.recorded h p s).port q = s.port q := by simp [State.port]

@[simp] theorem CmdSpec.recorded_present (q : Nat) : (c.recorded h p s).present q = s.present q := State.record_present ..

/-- It leaves the roles of the module's ports. -/
theorem CmdSpec.recorded_role {q : Nat} (hq : q < 64) :
    (c.recorded h p s).get Reg.PRT_PORT_CFG_ROLE q = s.get Reg.PRT_PORT_CFG_ROLE q :=
  c.recorded_get h p s _ _ (by simp only [Field.key, Reg.REC_MISSED, Reg.PRT_PORT_CFG_ROLE]; omega)

@[simp] theorem CmdSpec.recorded_isDsp (q : Nat) : (c.recorded h p s).isDsp q = s.isDsp q := by
  by_cases hq : s.present q = true
  · simp only [State.isDsp, CmdSpec.recorded_present, c.recorded_role h p s (State.lt_of_present hq)]
  · simp [State.isDsp, hq]

/-- It leaves the lanes of the module's ports. -/
theorem CmdSpec.recorded_portLanes {q : Nat} (hq : q < 64) : (c.recorded h p s).portLanes q = s.portLanes q := by
  have hwidth : (c.recorded h p s).get Reg.LNC_BAY_CFG_WIDTH (q / 4) = s.get Reg.LNC_BAY_CFG_WIDTH (q / 4) :=
    c.recorded_get h p s _ _ (by simp only [Field.key, Reg.REC_MISSED, Reg.LNC_BAY_CFG_WIDTH]; omega)
  simp only [State.portLanes, hwidth]

@[simp] theorem CmdSpec.recorded_bayPorts (b : Nat) : (c.recorded h p s).bayPorts b = s.bayPorts b := by
  have hpresent : (c.recorded h p s).present = s.present := funext (c.recorded_present h p s)
  simp only [State.bayPorts, hpresent]

@[simp] theorem CmdSpec.recorded_poolNames (q : Nat) : (c.recorded h p s).poolNames q = s.poolNames q := by
  simp [State.poolNames, State.isetNames, State.pairsUsed, State.copyWord]

@[simp] theorem CmdSpec.recorded_portFree (q : Nat) : (c.recorded h p s).portFree q = s.portFree q := by
  have hmgmt : (c.recorded h p s).flag Reg.PRT_PORT_CFG_MGMT_USP q = s.flag Reg.PRT_PORT_CFG_MGMT_USP q :=
    c.recorded_flag h p s _ _ (by simp only [Field.key, Reg.REC_MISSED, Reg.PRT_PORT_CFG_MGMT_USP]; omega)
  simp [State.portFree, State.bindsTo, hmgmt]

end

/-! ## The width of a bay (R343, R345) -/

/-- What `f` leaves as it is for every element, it leaves for the list. -/
theorem forEach_eq_self {α β : Type} {l : List α} {f : α → β → β} {b : β} (hf : ∀ a ∈ l, f a b = b) : forEach l f b = b := by
  induction l with
  | nil => rfl
  | cons a l ih =>
    have hrest := ih fun x hx => hf x (List.mem_cons_of_mem a hx)
    simpa only [forEach, List.foldl_cons, hf a List.mem_cons_self] using hrest

/-- An item is journaled after those that stand in flash and buffer, whether or not the buffer is flushed first (R108). -/
theorem State.journal_items (s : State) (r : JRec) :
    (s.journal r).jnl.flash ++ (s.journal r).jnl.buf = s.jnl.flash ++ s.jnl.buf ++ [r] := by
  unfold State.journal
  dsimp only
  split <;> simp [Journal.flushed]

/-- `t` is `s` but for registers, ports, journaled items and messages: the bays have the widths of `s`, and the journal still holds what
it held. -/
structure BayKept (s t : State) : Prop where
  frame : t = { s with regs := t.regs, prt := t.prt, jnl := t.jnl, out := t.out }
  width : ∀ b < 16, t.get Reg.LNC_BAY_CFG_WIDTH b = s.get Reg.LNC_BAY_CFG_WIDTH b
  items : s.jnl.flash ++ s.jnl.buf ⊆ t.jnl.flash ++ t.jnl.buf

namespace BayKept

variable {s t u : State}

theorem refl (s : State) : BayKept s s := ⟨rfl, fun _ _ => rfl, List.Subset.refl _⟩

theorem trans (hst : BayKept s t) (htu : BayKept t u) : BayKept s u := by
  refine ⟨?_, fun b hb => (htu.width b hb).trans (hst.width b hb), List.Subset.trans hst.items htu.items⟩
  rw [htu.frame, hst.frame]

/-- A write to another field than a bay's width. -/
theorem set (s : State) {f : Field} {i : Nat} (hkey : ∀ b < 16, f.key i ≠ Reg.LNC_BAY_CFG_WIDTH.key b) (v : Nat) : BayKept s (s.set f i v) :=
  ⟨rfl, fun b hb => s.get_set_ne f _ i b v (hkey b hb), List.Subset.refl _⟩

theorem modPort (s : State) (p : Nat) (f : PortSt → PortSt) : BayKept s (s.modPort p f) := ⟨rfl, fun _ _ => rfl, List.Subset.refl _⟩

theorem emit (s : State) (m : OutMsg) : BayKept s (s.emit m) := ⟨rfl, fun _ _ => rfl, List.Subset.refl _⟩

theorem journal (s : State) (r : JRec) : BayKept s (s.journal r) :=
  ⟨rfl, fun _ _ => rfl, s.journal_items r ▸ List.subset_append_left _ [r]⟩

theorem setJ (s : State) {f : Field} {i : Nat} (hkey : ∀ b < 16, f.key i ≠ Reg.LNC_BAY_CFG_WIDTH.key b) (v : Nat) : BayKept s (s.setJ f i v) :=
  (set s hkey v).trans (journal _ _)

/-- A loop keeps what its body keeps. -/
theorem loop {α : Type} {l : List α} {f : α → State → State} (hf : ∀ a s, BayKept s (f a s)) (s : State) :
    BayKept s (forEach l f s) := by
  induction l generalizing s with
  | nil => exact refl s
  | cons a l ih => exact (hf a s).trans (ih (f a s))

theorem train (s : State) (p : Nat) : BayKept s (s.train p) := by
  unfold State.train
  split
  · exact ((set s (by simp only [Field.key, Reg.LNC_PORT_STATUS_LTSSM, Reg.LNC_BAY_CFG_WIDTH]; omega) _).trans (modPort _ p _)).trans
      (emit _ _)
  · exact refl s

theorem unpark (s : State) (p : Nat) : BayKept s (s.unpark p) :=
  ((set s (by simp only [Field.key, Reg.LNC_PORT_STATUS_PARKED, Reg.LNC_BAY_CFG_WIDTH]; omega) _).trans
    (set _ (by simp only [Field.key, Reg.LNC_PORT_STATUS_FAIL_COUNT, Reg.LNC_BAY_CFG_WIDTH]; omega) _)).trans (train _ p)

theorem freshDsp (s : State) (p : Nat) : BayKept s (s.freshDsp p) := by
  have hrole (s : State) : BayKept s (s.setJ Reg.PRT_PORT_CFG_ROLE p 2) :=
    setJ s (by simp only [Field.key, Reg.PRT_PORT_CFG_ROLE, Reg.LNC_BAY_CFG_WIDTH]; omega) 2
  have hpersonality (s : State) : BayKept s (s.setJ Reg.POL_DSP_CFG_PERSONALITY p 1) :=
    setJ s (by simp only [Field.key, Reg.POL_DSP_CFG_PERSONALITY, Reg.LNC_BAY_CFG_WIDTH]; omega) 1
  unfold State.freshDsp
  dsimp only
  split
  · split
    · exact refl s
    · exact hpersonality s
  · split
    · exact hrole s
    · exact (hrole s).trans (hpersonality _)

end BayKept

/-- The state in which BAY_WIDTH_SET has stored and journaled the width of bay `b`. -/
def State.bayWidened (s : State) (b w : Nat) : State := (s.journal (.bayWidth b w)).set Reg.LNC_BAY_CFG_WIDTH b w

/-- The width stored is read back. -/
theorem State.get_bayWidened {s : State} (hwf : SMap.wf s.regs) (b : Nat) {w : Nat} (hw : w < 4) :
    (s.bayWidened b w).get Reg.LNC_BAY_CFG_WIDTH b = w :=
  (State.get_set_self _ Reg.LNC_BAY_CFG_WIDTH b w hwf).trans (Nat.mod_eq_of_lt hw)

/-- The width is in the journal. -/
theorem State.mem_jnl_bayWidened (s : State) (b w : Nat) :
    JRec.bayWidth b w ∈ (s.bayWidened b w).jnl.flash ++ (s.bayWidened b w).jnl.buf := by
  rw [State.bayWidened, State.set_jnl, State.journal_items]
  exact List.mem_append_right _ List.mem_cons_self

/-- The ports of a bay after its width is set: DSPs of PASS personality that nothing holds in Disabled, taken from the park (R345). -/
def State.bayStarted (s : State) (b w : Nat) : State :=
  forEach (portsUnder b w) (fun q s => s.unpark q)
    (forEach (portsUnder b w) (fun q s => (s.freshDsp q).modPort q (fun x => { x with disabledBy := [], perst := s.clk.modReady })) s)

/-- Starting the ports keeps the widths and what is journaled. -/
theorem State.bayKept_bayStarted (s : State) (b w : Nat) : BayKept s (s.bayStarted b w) :=
  (BayKept.loop (fun q s => (BayKept.freshDsp s q).trans (.modPort _ q _)) s).trans (.loop (fun q s => .unpark s q) _)

/-- BAY_WIDTH_SET of a bay whose ports are free, down and not in test stores the width and starts the bay's ports. -/
theorem specBayWidthSet_run_down {p : Bytes} {s : State}
    (hfree : (s.bayPorts (p8 p 0)).all (fun q => s.portFree q && !(s.port q).up && (s.port q).testMode.isNone) = true) (h : Hdr) :
    specBayWidthSet.run h p s = .done [] ((s.bayWidened (p8 p 0) (p8 p 1)).bayStarted (p8 p 0) (p8 p 1)) := by
  have hports : ∀ q ∈ s.bayPorts (p8 p 0), s.portFree q = true ∧ (s.port q).up = false ∧ (s.port q).testMode = none := fun q hq => by
    simpa [and_assoc] using List.all_eq_true.1 hfree q hq
  have hall : (s.bayPorts (p8 p 0)).all s.portFree = true := List.all_eq_true.2 fun q hq => (hports q hq).1
  have hkept : forEach (s.bayPorts (p8 p 0)) (fun q s => (s.linkCut q).endTest q) s = s := forEach_eq_self fun q hq => by
    obtain ⟨-, hdown, htest⟩ := hports q hq
    rw [State.linkCut_down hdown, State.endTest_untested htest]
  simp only [specBayWidthSet, hall, hkept, Bool.not_true, Bool.false_eq_true, if_false]
  rfl

/-! ## The lane commands (R378) -/

@[simp] theorem State.length_words (s : State) (a n : Nat) : (s.words a n).length = n * 4 :=
  length_flatten_range (fun _ => length_leBytes 4 _) n

/-- PERST# at a land of a port without a slot channel; with one, the channel drives it. -/
def State.perstLand (s : State) (q : Nat) (b : Bool) : State :=
  if (s.chanOf q).isNone then s.modPort q (fun x => { x with perst := b }) else s

/-- PERST# is part of the ports' state. -/
theorem State.perstLand_frame (s : State) (q : Nat) (b : Bool) : s.perstLand q b = { s with prt := (s.perstLand q b).prt } := by
  unfold State.perstLand
  split <;> rfl

/-- What holds a port in Disabled still does. -/
theorem State.mem_disabledBy_perstLand {s : State} {q why : Nat} (hheld : why ∈ (s.port q).disabledBy) (b : Bool) :
    why ∈ ((s.perstLand q b).port q).disabledBy := by
  unfold State.perstLand
  split
  · rw [State.port_modPort_of_ne (fun hreset => List.ne_nil_of_mem hheld (congrArg PortSt.disabledBy hreset))]
    exact hheld
  · exact hheld

/-- LINK_CTL 0 of a link in L0 sends it through Recovery. -/
theorem specLinkCtl_run_recovery {p : Bytes} {s : State} (haction : p8 p 1 = 0) (hup : (s.port (p8 p 0)).up = true) (h : Hdr) :
    specLinkCtl.run h p s = .done [] ((s.bump Reg.LNC_CNT_RECOV (p8 p 0)).emit (.train (p8 p 0))) := by
  have hretrain : s.retrain (p8 p 0) = (s.bump Reg.LNC_CNT_RECOV (p8 p 0)).emit (.train (p8 p 0)) := if_pos hup
  simp only [specLinkCtl, haction, hretrain]

/-- LINK_CTL 2 of a link that is down and not in test holds it in Disabled and asserts PERST#. -/
theorem specLinkCtl_run_disable {p : Bytes} {s : State} (haction : p8 p 1 = 2) (hdown : (s.port (p8 p 0)).up = false)
    (htest : (s.port (p8 p 0)).testMode = none) (h : Hdr) :
    specLinkCtl.run h p s = .done [] (((s.modPort (p8 p 0) (fun x => { x with disabledBy := addNew 0 x.disabledBy })).set
      Reg.LNC_PORT_STATUS_LTSSM (p8 p 0) ltDisabled).perstLand (p8 p 0) false) := by
  rw [← State.disable_down hdown htest]
  simp only [specLinkCtl, haction]
  rfl

/-- LANE_MARGIN takes lanes of the port at full width, left, right, up or down, and 1 to 63 steps. -/
theorem specLaneMargin_check {p : Bytes} {s : State} (hpresent : s.present (p8 p 0) = true) (hlanes : p16 p 2 ≠ 0)
    (hfull : p16 p 2 < 2 ^ s.fullWidth (p8 p 0)) (hdir : 1 ≤ p8 p 4) (hdirs : p8 p 4 < 4) (hstep : 1 ≤ p8 p 5) (hsteps : p8 p 5 ≤ 63)
    (h : Hdr) : specLaneMargin.check h p s = none := by
  simp [specLaneMargin, firstBad, need, hpresent, hlanes, hfull, hdir, hdirs, hstep, hsteps]

/-- LANE_MARGIN of a link in L0 at 16 GT/s or more that nothing else margins starts a run on the lanes asked for. -/
theorem specLaneMargin_run_starts {p : Bytes} {s : State} (hup : (s.port (p8 p 0)).up = true)
    (hrate : 3 ≤ s.get Reg.LNC_PORT_STATUS_RATE (p8 p 0)) (hhost : (s.port (p8 p 0)).hostMargin = [])
    (hmargin : (s.port (p8 p 0)).margin = none) (h : Hdr) :
    specLaneMargin.run h p s = .started (({ s with lnc := { s.lnc with margin := s.lnc.margin ++ (indicesOf 16 (p16 p 2)).map (fun i =>
      (s.cmd.nextBg, (s.portLanes (p8 p 0)).getD i 0)) } }).modPort (p8 p 0) (fun x => { x with margin := some s.cmd.nextBg })) false :=
  if_neg (by simp [hup, hrate, hhost, hmargin])

/-- LANE_TEST 1 of an unused port that is not in test puts its lanes in test. -/
theorem specLaneTest_run_on {p : Bytes} {s : State} (hon : p8 p 1 = 1) (hrole : s.get Reg.PRT_PORT_CFG_ROLE (p8 p 0) = 0)
    (htest : (s.port (p8 p 0)).testMode = none) (h : Hdr) :
    specLaneTest.run h p s = .done [] (((forEach (s.portLanes (p8 p 0)) (fun n s => s.modLane n (fun x =>
      { x with testOn := true, lockTick := none, compared := 0 })) s).modPort (p8 p 0) (fun x =>
        { x with testMode := some { mode := p8 p 2, pattern := p8 p 3, rate := p8 p 4, user := p64 p 8 } })).set
          Reg.LNC_PORT_STATUS_LTSSM (p8 p 0) ltTest) := by
  simp [specLaneTest, hrole, hon, State.endTest_untested htest]

end Sys2Proof.Machine

namespace Sys2Proof.Claims

open Sys2Proof.Machine

/-! ## O37, clause by clause -/

section
variable {h : Hdr} {p : Bytes} {s : State}

/-- LANE_INFO answers the width, the lanes' status and 12 bytes of test counts for each of 16 lanes; each error count that runs is a
free value. -/
theorem laneInfo_answers (hop : Operating s) (hpriv : Privileged .observe h s) (hlen : p.length = 1) (hbay : p8 p 0 < 16) :
    ∃ b : Bytes, b.length = 356 ∧ exec (.laneInfo h p) s = .next (answered 0xC210 stSuccess h s b
      { request 0xC210 .observe h p s with fresh := s.fresh + 16 }) := by
  have hr : Reached specLaneInfo h p s := reached hop hpriv hlen rfl (firstBad_eq_none_iff.2 (by simpa [need] using hbay))
  have hfresh : (specLaneInfo.recorded h p s).fresh = s.fresh := specLaneInfo.recorded_fresh h p s
  have hdone := hr.done rfl
  rw [hfresh] at hdone
  refine ⟨_, ?_, hdone⟩
  simp only [List.length_append, State.length_words, length_leBytes, List.map_map]
  rw [length_flatten_range (n := 12) (fun _ => by simp only [Function.comp_apply, List.length_append, length_leBytes])]

/-- R343, R345: BAY_WIDTH_SET of a bay whose links are down stores and journals the width. -/
theorem bayWidthSet_stores (hwf : SMap.wf s.regs) (hop : Operating s) (hpriv : Privileged .admin h s) (hlen : p.length = 2)
    (hbay : p8 p 0 < 16) (hwidth : p8 p 1 < 3) (hopen : s.flag Reg.HLM_STATUS_LOCKED = false)
    (hfree : (s.bayPorts (p8 p 0)).all (fun q => s.portFree q && !(s.port q).up && (s.port q).testMode.isNone) = true) :
    ∃ t, exec (.bayWidthSet h p) s = .next (answered 0xC211 stSuccess h s [] t) ∧
      t = { request 0xC211 .admin h p s with regs := t.regs, prt := t.prt, jnl := t.jnl, out := t.out } ∧
      t.get Reg.LNC_BAY_CFG_WIDTH (p8 p 0) = p8 p 1 ∧ JRec.bayWidth (p8 p 0) (p8 p 1) ∈ t.jnl.flash ++ t.jnl.buf := by
  have hlocked : (specBayWidthSet.recorded h p s).flag Reg.HLM_STATUS_LOCKED = false :=
    (specBayWidthSet.recorded_flag h p s _ _ (by decide)).trans hopen
  have hr : Reached specBayWidthSet h p s :=
    reached hop hpriv hlen (by rw [hlocked, Bool.and_false]) (by simp [specBayWidthSet, firstBad, need, hbay, hwidth])
  have hkept := ((specBayWidthSet.recorded h p s).bayWidened (p8 p 0) (p8 p 1)).bayKept_bayStarted (p8 p 0) (p8 p 1)
  have hstored := State.get_bayWidened (s := specBayWidthSet.recorded h p s) (State.record_wf _ _ _ _ hwf) (p8 p 0) (Nat.lt_succ_of_lt hwidth)
  refine ⟨_, hr.done (specBayWidthSet_run_down (by simpa using hfree) h), hkept.frame, (hkept.width _ hbay).trans hstored,
    hkept.items (State.mem_jnl_bayWidened ..)⟩

/-- R364, R376: LINK_CTL 0 sends a link in L0 through Recovery. -/
theorem linkCtl_retrains : Does .linkCtl 0xC212 .operate 2
    (fun _ p s => s.present (p8 p 0) = true ∧ p8 p 1 = 0 ∧ (s.port (p8 p 0)).up = true)
    (fun _ p s => (s.bump Reg.LNC_CNT_RECOV (p8 p 0)).emit (.train (p8 p 0))) := by
  intro h p s hop hpriv hlen ⟨hpresent, haction, hup⟩
  have hr : Reached specLinkCtl h p s := reached hop hpriv hlen rfl (by simp [specLinkCtl, firstBad, need, hpresent, haction])
  exact hr.done (specLinkCtl_run_recovery haction (by simpa using hup) h)

/-- R378: LINK_CTL 2 holds a DSP's link in Disabled. -/
theorem linkCtl_disables (hwf : SMap.wf s.regs) (hop : Operating s) (hpriv : Privileged .operate h s) (hlen : p.length = 2)
    (hdsp : s.isDsp (p8 p 0) = true) (haction : p8 p 1 = 2) (hdown : (s.port (p8 p 0)).up = false)
    (htest : (s.port (p8 p 0)).testMode = none) :
    ∃ t, exec (.linkCtl h p) s = .next (answered 0xC212 stSuccess h s [] t) ∧
      t = { request 0xC212 .operate h p s with regs := t.regs, prt := t.prt } ∧ 0 ∈ (t.port (p8 p 0)).disabledBy ∧
      t.get Reg.LNC_PORT_STATUS_LTSSM (p8 p 0) = 8 := by
  have hr : Reached specLinkCtl h p s := reached hop hpriv hlen rfl (by
    simp [specLinkCtl, firstBad, need, hdsp, (Bool.and_eq_true_iff.1 hdsp).1, haction])
  have hheld : 0 ∈ ((((specLinkCtl.recorded h p s).modPort (p8 p 0) (fun x => { x with disabledBy := addNew 0 x.disabledBy })).set
      Reg.LNC_PORT_STATUS_LTSSM (p8 p 0) ltDisabled).port (p8 p 0)).disabledBy := by
    rw [State.port_set, State.port_addNew_disabledBy]
    exact mem_addNew 0 _
  have hrun := specLinkCtl_run_disable (s := specLinkCtl.recorded h p s) haction (by simpa using hdown) (by simpa using htest) h
  refine ⟨_, hr.done hrun, ?_, State.mem_disabledBy_perstLand hheld false, ?_⟩
  · rw [State.perstLand_frame]
    rfl
  · rw [State.perstLand_frame]
    exact State.get_set_self _ Reg.LNC_PORT_STATUS_LTSSM _ ltDisabled (State.record_wf _ _ _ _ hwf)

/-- R366: LANE_MARGIN starts on a link in L0 at 16 GT/s or more that nothing else margins. -/
theorem laneMargin_starts : Starts .laneMargin 0xC213 .operate 6 false
    (fun _ p s => s.present (p8 p 0) = true ∧ p16 p 2 ≠ 0 ∧ p16 p 2 < 2 ^ s.fullWidth (p8 p 0) ∧ 1 ≤ p8 p 4 ∧ p8 p 4 < 4 ∧ 1 ≤ p8 p 5 ∧
      p8 p 5 ≤ 63 ∧ (s.port (p8 p 0)).up = true ∧ 3 ≤ s.get Reg.LNC_PORT_STATUS_RATE (p8 p 0) ∧ (s.port (p8 p 0)).hostMargin = [] ∧
      (s.port (p8 p 0)).margin = none)
    (fun _ p s => ({ s with lnc := { s.lnc with margin := s.lnc.margin ++ (indicesOf 16 (p16 p 2)).map (fun i =>
      (s.cmd.nextBg, (s.portLanes (p8 p 0)).getD i 0)) } }).modPort (p8 p 0) (fun x => { x with margin := some s.cmd.nextBg })) := by
  intro h p s hop hpriv hlen hroom ⟨hpresent, hlanes, hfull, hdir, hdirs, hstep, hsteps, hup, hrate, hhost, hmargin⟩
  have hwidth : (specLaneMargin.recorded h p s).fullWidth (p8 p 0) = s.fullWidth (p8 p 0) :=
    congrArg List.length (specLaneMargin.recorded_portLanes h p s (State.lt_of_present hpresent))
  have hr : Reached specLaneMargin h p s := reached hop hpriv hlen rfl
    (specLaneMargin_check (by simpa using hpresent) hlanes (by rwa [hwidth]) hdir hdirs hstep hsteps h)
  have hspeed : 3 ≤ (specLaneMargin.recorded h p s).get Reg.LNC_PORT_STATUS_RATE (p8 p 0) := by
    rwa [specLaneMargin.recorded_get h p s _ _ (by simp only [Field.key, Reg.REC_MISSED, Reg.LNC_PORT_STATUS_RATE]; omega)]
  exact hr.started hroom (specLaneMargin_run_starts (by simpa using hup) hspeed (by simpa using hhost) (by simpa using hmargin) h)

/-- R368, R370: LANE_TEST puts the lanes of an unused port in test. -/
theorem laneTest_tests : Does .laneTest 0xC214 .operate 16
    (fun _ p s => s.present (p8 p 0) = true ∧ p8 p 1 = 1 ∧ p8 p 2 < 5 ∧ p8 p 3 < 9 ∧ p8 p 4 < 6 ∧
      s.get Reg.PRT_PORT_CFG_ROLE (p8 p 0) = 0 ∧ (s.port (p8 p 0)).testMode = none)
    (fun _ p s => ((forEach (s.portLanes (p8 p 0)) (fun n s => s.modLane n (fun x =>
      { x with testOn := true, lockTick := none, compared := 0 })) s).modPort (p8 p 0) (fun x =>
        { x with testMode := some { mode := p8 p 2, pattern := p8 p 3, rate := p8 p 4, user := p64 p 8 } })).set
          Reg.LNC_PORT_STATUS_LTSSM (p8 p 0) 12) := by
  intro h p s hop hpriv hlen ⟨hpresent, hon, hmode, hpattern, hrate, hrole, htest⟩
  have hr : Reached specLaneTest h p s := reached hop hpriv hlen rfl (by
    simp [specLaneTest, firstBad, need, hpresent, hon, hmode, hpattern, hrate])
  have hunused : (specLaneTest.recorded h p s).get Reg.PRT_PORT_CFG_ROLE (p8 p 0) = 0 :=
    (specLaneTest.recorded_role h p s (State.lt_of_present hpresent)).trans hrole
  exact hr.done (specLaneTest_run_on hon hunused (by simpa using htest) h)

end

/-- Settles O37: the lemmas above, one for each clause. -/
theorem laneCommands : Obligations.LaneCommands :=
  ⟨fun _ _ _ => laneInfo_answers, fun _ _ _ => bayWidthSet_stores, linkCtl_retrains, fun _ _ _ => linkCtl_disables, laneMargin_starts,
    laneTest_tests⟩

end Sys2Proof.Claims

namespace Sys2Proof.Machine

/-- Sending a message leaves the register fields. -/
@[simp] theorem State.get_emit (s : State) (m : OutMsg) (f : Field) (i : Nat) : (s.emit m).get f i = s.get f i := rfl

end Sys2Proof.Machine

namespace Sys2Proof.Claims

open Sys2Proof.Machine

/-! ## O43: a figure of merit that its field cannot hold -/

/-- Table 9-4: a bundle in READY whose ends agree becomes ACTIVE. -/
theorem bundleStateAdvance_ready {b : Bundle} {r : SeamTrain} {s : State} (hmain : s.mainUp = true) (hagree : r.agree = true)
    (hready : s.bundleState b.val = 6) : exec (.bundleStateAdvance b r) s =
      .next ((s.bundleActive b.val).emit (.seamCtl b.val 0 ((s.bundleActive b.val).bundleState b.val))) := by
  have hrun : exec (.bundleStateAdvance b r) s = execBundleStateAdvance b r s := rfl
  simp only [hrun, execBundleStateAdvance, hagree, hmain, hready, Bool.not_true, Bool.or_self, Bool.false_eq_true, if_false]

/-- A module in operation with bundle 0 in READY. The register file holds 300 as the figure of merit of its lane 0, a field of eight
bits. -/
def overmerited : State :=
  { State.reset with
    clk := { Clk.reset with phase := .ready }
    regs := [(Reg.SEM_BUNDLE_STATUS_STATE.key 0, 6), (Reg.SEM_LANE_STATUS_FOM.key 0, 300)] }

/-- What both ends report when bundle 0 leaves READY. -/
def readyReport : SeamTrain := { agree := true, types := [], lanes := [], bundle := 0, twinB := true, foms := [] }

set_option maxRecDepth 20000 in
/-- FOM_MIN takes the low eight bits of 300, which spell 44. -/
theorem fomMin_ne_fom_overmerited :
    (overmerited.bundleActive 0).get Reg.SEM_LANE_STATUS_FOM_MIN 0 ≠ overmerited.get Reg.SEM_LANE_STATUS_FOM 0 := by decide

/-- Refutes O43: its clause about READY leaves out that the stored fields fit their widths. Where the register file holds 300 as the
figure of merit of a lane, FOM_MIN starts from 44. -/
theorem not_seamBundles : ¬ Obligations.SeamBundles := by
  intro h
  obtain ⟨-, -, -, -, -, -, -, hactive, -⟩ := h
  have hready : overmerited.bundleState 0 = 6 := by decide
  obtain ⟨t, ht, -, -, hmin, -⟩ := hactive 0 readyReport overmerited (by decide) rfl rfl hready
  have hrun := bundleStateAdvance_ready (b := 0) (r := readyReport) (s := overmerited) rfl rfl hready
  have hfom : t.get Reg.SEM_LANE_STATUS_FOM_MIN 0 = overmerited.get Reg.SEM_LANE_STATUS_FOM 0 := hmin 0 (by decide)
  rw [← Host.Outcome.next.inj (hrun.symm.trans ht), State.get_emit] at hfom
  exact fomMin_ne_fom_overmerited hfom

/-! ## O44: a stream on a bundle that does not exist -/

/-- R397: a frame that fails its CRC on an ACTIVE bundle counts, is reported and makes the next frame carry NAK. -/
theorem seamFrameReceive_badCrc {b : Bundle} {f : SeamFrame} {s : State} (hup : s.bundleUp b.val = true) (hcrc : f.crcOk = false) :
    exec (.seamFrameReceive b f) s =
      .next (((s.bump Reg.SEM_CNT_CRC f.stream.val).crcEvent f.stream.val).nakStream f.stream.val) := by
  have hrun : exec (.seamFrameReceive b f) s = execSeamFrameReceive b f s := rfl
  simp only [hrun, execSeamFrameReceive, hup, hcrc, Bool.not_true, Bool.not_false, Bool.false_eq_true, if_false, if_true]

/-- SEM_BUNDLE_STATUS has four entries; entry 256 would lie where stream 0's CRC counter lies. -/
theorem bundleState_key_256 : Reg.SEM_BUNDLE_STATUS_STATE.key 256 = Reg.SEM_CNT_CRC.key 0 := by decide

/-- A module whose bundle 0 is ACTIVE and whose stream 0 has counted eight CRC failures. Its stream 0 names bundle 256, which reads as
ACTIVE while that count is eight. -/
def strayStream : State :=
  { State.reset with
    regs := [(Reg.SEM_BUNDLE_STATUS_STATE.key 0, 8), (Reg.SEM_CNT_CRC.key 0, 8)]
    sem := { Sem.reset with streams := [(0, { Stream.dflt with onBundle := some 256 })] } }

/-- A frame of stream 0 that fails its CRC. -/
def badFrame : SeamFrame := { stream := 0, slots := [], fseq := 0, ack := 0, nak := false, credit := none, crcOk := false }

/-- Bundle 256 reads as ACTIVE before the failure is counted. -/
theorem bundleUp_strayStream : strayStream.bundleUp 256 = true := by
  rw [State.bundleUp, State.get, bundleState_key_256]
  rfl

set_option maxRecDepth 20000 in
/-- Once the failure is counted it no longer does, and no frame is sent. -/
theorem out_strayStream : (((strayStream.bump Reg.SEM_CNT_CRC 0).crcEvent 0).nakStream 0).out = [] := by decide

/-- Refutes O44: its first clause leaves out that a stream's bundle is one of the four. A stream on bundle 256 has the count of stream 0's
CRC failures for the state of its bundle; the ninth failure takes that bundle out of ACTIVE, and the NAK is not sent. -/
theorem not_seamFramesAndTwin : ¬ Obligations.SeamFramesAndTwin := by
  intro h
  obtain ⟨hcrc, -⟩ := h
  have hactive : strayStream.bundleUp 0 = true := by decide
  obtain ⟨t, fr, ht, hframe, -⟩ :=
    hcrc 0 badFrame 256 strayStream (by decide) (by decide) hactive rfl rfl bundleUp_strayStream rfl
  have hrun := seamFrameReceive_badCrc (b := 0) (f := badFrame) (s := strayStream) hactive rfl
  have hout := (congrArg State.out (Host.Outcome.next.inj (hrun.symm.trans ht))).trans (congrArg State.out hframe)
  exact absurd (out_strayStream.symm.trans hout) (List.cons_ne_nil _ _).symm

end Sys2Proof.Claims

namespace Sys2Proof.Machine

/-! ## Byte arrays: reads after writes -/

/-- A byte that was written is read back. -/
theorem SMap.get_write_mem {m : SMap Byte} (hwf : SMap.wf m) (d : Byte) (a : Nat) {b : Bytes} {i : Nat} (hi : i < b.length) :
    SMap.get (SMap.write m (fun _ => d) a b) (a + i) d = b[i] := by
  induction b generalizing m a i with
  | nil => exact absurd hi (Nat.not_lt_zero i)
  | cons x b ih =>
    have hstored : SMap.wf (SMap.store m a x d) := SMap.wf_store m a x d hwf
    cases i with
    | zero => exact (SMap.get_write_ne _ _ _ _ _ _ (.inl (Nat.lt_succ_self a))).trans (SMap.get_store_self m a x d hwf)
    | succ i =>
      have hnext := ih hstored (a + 1) (Nat.lt_of_succ_lt_succ hi)
      rwa [Nat.add_right_comm, Nat.add_assoc] at hnext

/-- A byte of the bytes read. -/
theorem SMap.getD_bytes (m : SMap Byte) (dflt : Nat → Byte) (a : Nat) {n i : Nat} (hi : i < n) (d : Byte) :
    (SMap.bytes m dflt a n).getD i d = SMap.get m (a + i) (dflt (a + i)) := by
  simp [SMap.bytes, hi]

@[simp] theorem SMap.length_bytes (m : SMap Byte) (dflt : Nat → Byte) (a n : Nat) : (SMap.bytes m dflt a n).length = n := by
  simp [SMap.bytes]

/-- As many bytes as a slice takes are the slice. -/
theorem slice_whole {b : Bytes} {n : Nat} (h : b.length = n) : slice b 0 n = b := by
  simp [slice, ← h]

/-- Bytes written are read back whole. -/
theorem SMap.bytes_write {m : SMap Byte} (hwf : SMap.wf m) (d : Byte) (a : Nat) (b : Bytes) :
    SMap.bytes (SMap.write m (fun _ => d) a b) (fun _ => d) a b.length = b := by
  refine List.ext_getElem (SMap.length_bytes ..) fun i _ hi => ?_
  simpa [SMap.bytes] using SMap.get_write_mem hwf d a hi

/-! ## Registers and events -/

/-- A field is read from the register file alone. -/
theorem State.get_congr {s t : State} (h : t.regs = s.regs) (f : Field) (i : Nat) : t.get f i = s.get f i := by
  simp only [State.get, h]

/-- A counter that was raised reads as the sum, wrapped. -/
theorem State.get_bump_self {s : State} (hwf : SMap.wf s.regs) (f : Field) (i n : Nat) :
    (s.bump f i n).get f i = (s.get f i + n) % 2 ^ f.width :=
  s.get_set_self f i _ hwf

theorem State.wf_bump {s : State} (hwf : SMap.wf s.regs) (f : Field) (i n : Nat) : SMap.wf (s.bump f i n).regs := s.wf_set f i _ hwf

/-- Raising a counter leaves every field with another key. -/
theorem State.get_bump_ne (s : State) {f g : Field} {i j : Nat} (h : f.key i ≠ g.key j) (n : Nat) :
    (s.bump f i n).get g j = s.get g j :=
  s.get_set_ne f g i j _ h

/-- A one-bit field that was set reads as set. -/
theorem State.flag_setFlag_true {s : State} (hwf : SMap.wf s.regs) {f : Field} (hwidth : f.width = 1) (i : Nat) :
    (s.setFlag f i true).flag f i = true := by
  have hget : (s.setFlag f i true).get f i = 1 % 2 ^ f.width := s.get_set_self f i 1 hwf
  simp [State.flag, hget, hwidth]

/-- The event that waits. -/
theorem State.Waits.event {s : State} {src cls evt : Nat} (h : s.Waits src cls evt) : ∃ e ∈ s.flt.waiting, e.src = src ∧ e.cls = cls := by
  obtain ⟨e, he, hsrc, hcls, -⟩ := h
  exact ⟨e, he, hsrc, hcls⟩

/-- Raising events changes only which of them wait. -/
theorem State.raises_frame (s : State) (es : List FltEvent) (f : FltEvent → FltEvent) :
    ∃ flt, es.foldl (fun s e => s.raise (f e)) s = { s with flt := flt } := by
  induction es generalizing s with
  | nil => exact ⟨s.flt, rfl⟩
  | cons e es ih => exact ih (s.raise (f e))

/-- Marking the events of `f` as injected changes only those that wait. -/
theorem State.asInjected_frame (s : State) (f : State → State) :
    ∃ flt, s.asInjected f = { f { s with flt := { s.flt with waiting := [] } } with flt := flt } :=
  State.raises_frame _ _ _

/-! ## Pages (R419 to R422) -/

/-- The data of a page rest on its formed bit and its data. -/
theorem VPage.bytes_congr {p q : VPage} (hformed : q.formed = p.formed) (hdata : q.data = p.data) : q.bytes = p.bytes := by
  simp only [VPage.bytes, hformed, hdata]

theorem VPage.bytes_formed {p : VPage} (h : p.formed = true) : p.bytes = SMap.bytes p.data (fun _ => 0) 0 2048 := if_pos h

theorem VPage.bytes_unformed {p : VPage} (h : p.formed = false) : p.bytes = List.replicate 2048 0 := if_neg (by simp [h])

@[simp] theorem VPage.length_bytes (p : VPage) : p.bytes.length = 2048 := by
  cases h : p.formed with
  | true => rw [VPage.bytes_formed h, SMap.length_bytes]
  | false => rw [VPage.bytes_unformed h, List.length_replicate]

/-- `p` formed, with `d` laid over its data from `off`, over zeros where it was not formed (R422). -/
def VPage.merged (p : VPage) (off : Nat) (d : Bytes) : VPage :=
  { p with formed := true, data := SMap.write (if p.formed then p.data else []) (fun _ => 0) off d }

section
variable {p : VPage} {off : Nat} {d : Bytes}

/-- The bytes written are in the page. -/
theorem VPage.getD_merged_mem (hwf : SMap.wf p.data) (hend : off + d.length ≤ 2048) {i : Nat} (hi : i < d.length) :
    (p.merged off d).bytes.getD (off + i) 0 = d.getD i 0 := by
  have hbase : SMap.wf (if p.formed then p.data else []) := by
    split
    · exact hwf
    · exact SMap.wf_nil
  rw [VPage.bytes_formed (p := p.merged off d) rfl, SMap.getD_bytes _ _ _ (by omega), Nat.zero_add, List.getD_eq_getElem _ _ hi]
  exact SMap.get_write_mem hbase 0 off hi

/-- Every other byte is as before. -/
theorem VPage.getD_merged_ne {j : Nat} (hj : j < 2048) (hout : j < off ∨ off + d.length ≤ j) :
    (p.merged off d).bytes.getD j 0 = p.bytes.getD j 0 := by
  rw [VPage.bytes_formed (p := p.merged off d) rfl, SMap.getD_bytes _ _ _ hj, Nat.zero_add]
  refine (SMap.get_write_ne _ _ _ _ _ _ hout).trans ?_
  cases h : p.formed with
  | true => rw [VPage.bytes_formed h, SMap.getD_bytes _ _ _ hj, Nat.zero_add, if_pos rfl]
  | false => rw [VPage.bytes_unformed h, List.getD_replicate _ hj]; rfl

end

/-- `p` formed with the 2,048 bytes `d` (R425). -/
def VPage.replaced (p : VPage) (d : Bytes) : VPage :=
  { p with formed := true, data := SMap.write [] (fun _ => 0) 0 (slice d 0 2048) }

theorem VPage.bytes_replaced (p : VPage) {d : Bytes} (hd : d.length = 2048) : (p.replaced d).bytes = d := by
  have hread := SMap.bytes_write (m := []) SMap.wf_nil 0 0 d
  rw [hd] at hread
  rw [VPage.bytes_formed (p := p.replaced d) rfl, VPage.replaced, slice_whole hd, hread]

section
variable {s : State} {n : Nat}

/-- Which page is read is a matter of the vault's pages. -/
theorem State.page_congr {t : State} (h : t.vlt.pages = s.vlt.pages) (m : Nat) : t.page m = s.page m := by
  simp only [State.page, h]

theorem State.inCrucible_congr {t : State} (h : t.vlt.crucible = s.vlt.crucible) (m : Nat) : t.inCrucible m = s.inCrucible m := by
  simp only [State.inCrucible, h]

/-- A page that was changed. -/
theorem State.page_modPage_self (hwf : SMap.wf s.vlt.pages) (n : Nat) (f : VPage → VPage) : (s.modPage n f).page n = f (s.page n) :=
  SMap.get_modify_self _ n _ f hwf

/-- Changing one page leaves the others. -/
theorem State.page_modPage_ne {m : Nat} (h : m ≠ n) (f : VPage → VPage) : (s.modPage n f).page m = s.page m :=
  SMap.get_modify_ne _ _ _ f h.symm

theorem State.wf_modPage (hwf : SMap.wf s.vlt.pages) (n : Nat) (f : VPage → VPage) : SMap.wf (s.modPage n f).vlt.pages :=
  SMap.wf_modify _ n _ f hwf

/-- A page that is written back is encoded anew, under the next write sequence (R420, R426). -/
theorem State.page_writeBack_self (hwf : SMap.wf s.vlt.pages) (n : Nat) :
    (s.writeBack n).page n = { s.page n with wseq := ((s.page n).wseq + 1) % 2 ^ 40, errBits := 0 } :=
  State.page_modPage_self (s := s.modVlt fun v => { v with crucible := v.crucible.filter (fun b => b.page != n) }) hwf n _

theorem State.page_writeBack_ne {m : Nat} (h : m ≠ n) : (s.writeBack n).page m = s.page m :=
  State.page_modPage_ne h _

/-- Only the vault's pages and buffers change. -/
theorem State.writeBack_frame (s : State) (n : Nat) :
    ∃ pages crucible, s.writeBack n = { s with vlt := { s.vlt with pages := pages, crucible := crucible } } := ⟨_, _, rfl⟩

/-- A write-back empties the page's buffer. -/
theorem State.inCrucible_writeBack (s : State) (n : Nat) : (s.writeBack n).inCrucible n = false := by
  simp [State.inCrucible, State.writeBack, State.modPage, State.modVlt]

/-- A write-back keeps what every page holds. -/
theorem State.writeBack_keeps (hwf : SMap.wf s.vlt.pages) (n m : Nat) :
    ((s.writeBack n).page m).formed = (s.page m).formed ∧ ((s.writeBack n).page m).data = (s.page m).data := by
  by_cases h : m = n
  · subst h
    rw [State.page_writeBack_self hwf]
    exact ⟨rfl, rfl⟩
  · rw [State.page_writeBack_ne h]
    exact ⟨rfl, rfl⟩

/-! ## The Crucible (R424, R426) -/

/-- `s` with page `n` in the newest Crucible buffer. -/
def State.buffered (s : State) (n : Nat) : State :=
  s.modVlt (fun v => { v with crucible := v.crucible.filter (fun b => b.page != n) ++ [{ page := n, tick := s.tick }] })

/-- A page goes into a buffer, after another page's write-back where none is free. -/
theorem State.toCrucible_cases (s : State) (n : Nat) :
    s.toCrucible n = s.buffered n ∨ ∃ m, s.toCrucible n = (s.writeBack m).buffered n := by
  unfold State.toCrucible
  extract_lets s1
  change s1.buffered n = _ ∨ ∃ m, s1.buffered n = _
  unfold s1
  split
  · split
    next b _ => exact .inr ⟨b.page, rfl⟩
    next => exact .inl rfl
  · exact .inl rfl

/-- Only the vault's pages and buffers change. -/
theorem State.toCrucible_frame (s : State) (n : Nat) :
    ∃ pages crucible, s.toCrucible n = { s with vlt := { s.vlt with pages := pages, crucible := crucible } } := by
  obtain h | ⟨m, h⟩ := s.toCrucible_cases n
  · exact ⟨_, _, h⟩
  · exact ⟨_, _, h⟩

theorem State.inCrucible_toCrucible (s : State) (n : Nat) : (s.toCrucible n).inCrucible n = true := by
  obtain h | ⟨m, h⟩ := s.toCrucible_cases n
  · simp [h, State.inCrucible, State.buffered, State.modVlt]
  · simp [h, State.inCrucible, State.buffered, State.modVlt]

/-- The pages hold what they held. -/
theorem State.toCrucible_keeps (hwf : SMap.wf s.vlt.pages) (n m : Nat) :
    ((s.toCrucible n).page m).formed = (s.page m).formed ∧ ((s.toCrucible n).page m).data = (s.page m).data := by
  obtain h | ⟨k, h⟩ := s.toCrucible_cases n
  · rw [h]
    exact ⟨rfl, rfl⟩
  · rw [h]
    exact State.writeBack_keeps hwf k m

theorem State.bytes_toCrucible (hwf : SMap.wf s.vlt.pages) (n m : Nat) : ((s.toCrucible n).page m).bytes = (s.page m).bytes :=
  VPage.bytes_congr (State.toCrucible_keeps hwf n m).1 (State.toCrucible_keeps hwf n m).2

end

/-! ## Pages that are due for retirement -/

/-- At most the pages that are due change. -/
theorem State.retireDue_frame (s : State) (n : Nat) (lost : Bool) :
    ∃ due, s.retireDue n lost = { s with vlt := { s.vlt with due := due } } := by
  unfold State.retireDue
  split
  · exact ⟨s.vlt.due, rfl⟩
  · exact ⟨_, rfl⟩

theorem State.due_retireDue (s : State) (n : Nat) (lost : Bool) : (s.retireDue n lost).vlt.due.any (fun d => d.1 == n) = true := by
  unfold State.retireDue
  split
  next h => exact h
  next => simp [State.modVlt]

/-! ## Reads (R421, R427 to R430) -/

section
variable {s : State} {n : Nat}

/-- A page that is not formed, or is in the Crucible, is not read from the stack. -/
theorem State.loadPage_served (hkept : (s.pageLost n && !s.inCrucible n) = false) (hserved : (s.page n).formed = false ∨ s.inCrucible n = true)
    (bits : Nat) : s.loadPage n bits = (s, some (s.page n).bytes) := by
  have hfree : (!(s.page n).formed || s.inCrucible n) = true := by simpa using hserved
  simp only [State.loadPage, hkept, hfree, Bool.false_eq_true, if_false, if_true]

/-- A page with no bit in error. -/
theorem State.loadPage_clean {bits : Nat} (hkept : s.pageLost n = false) (hclean : (s.page n).errBits + bits + s.injectedBits n = 0) :
    s.loadPage n bits = (s, some (s.page n).bytes) := by
  obtain ⟨hbits, hinj⟩ := Nat.eq_zero_of_add_eq_zero hclean
  obtain ⟨herr, hnew⟩ := Nat.eq_zero_of_add_eq_zero hbits
  simp [State.loadPage, hkept, hinj, herr, hnew]

/-- A page whose contents are lost answers with a bus error; the vault stays as it is (R430, R438). -/
theorem State.loadPage_lost (hlost : s.pageLost n = true) (hcru : s.inCrucible n = false) (bits : Nat) :
    (s.loadPage n bits).1.vlt = s.vlt ∧ (s.loadPage n bits).1.out = s.out ∧ (s.loadPage n bits).2 = none := by
  have hout : (s.pageLost n && !s.inCrucible n) = true := by simp [hlost, hcru]
  simp only [State.loadPage, hout, if_true]
  split
  · exact ⟨rfl, rfl, trivial⟩
  · exact ⟨rfl, rfl, trivial⟩

/-- `s` after a correction of `e` bits of page `n`, which enters the Crucible (R427, R429). -/
def State.pageFixed (s : State) (n e : Nat) : State := ((s.modPage n (fun p => { p with errBits := e })).pageCorrected n e).toCrucible n

/-- A formed page with at most t bits in error. -/
theorem State.loadPage_fixed {bits e : Nat} (hkept : s.pageLost n = false) (hcru : s.inCrucible n = false)
    (hformed : (s.page n).formed = true) (hinj : s.injectedBits n = 0) (he : e = (s.page n).errBits + bits) (hpos : 0 < e)
    (hfix : e ≤ strengthT (s.pageStrength n)) :
    s.loadPage n bits = (if strengthT (s.pageStrength n) * (s.pageFixed n e).get Reg.VLT_CTL_RETIRE_FRAC ≤ 8 * e
      then (s.pageFixed n e).retireDue n false else s.pageFixed n e, some (s.page n).bytes) := by
  subst he
  have hne : (s.page n).errBits + bits ≠ 0 := Nat.ne_of_gt hpos
  simp only [State.loadPage, hkept, hcru, hformed, hinj, Nat.add_zero, hne, hfix, Bool.false_and, Bool.not_true, Bool.or_false,
    Bool.false_eq_true, if_false, if_true]
  rfl

/-- A formed page with more than t bits in error. -/
theorem State.loadPage_uncorr {bits : Nat} (hkept : s.pageLost n = false) (hcru : s.inCrucible n = false)
    (hformed : (s.page n).formed = true) (hinj : s.injectedBits n = 0) (hbad : strengthT (s.pageStrength n) < (s.page n).errBits + bits) :
    s.loadPage n bits = (s.pageUncorr n, none) := by
  have hne : (s.page n).errBits + bits ≠ 0 := by omega
  simp only [State.loadPage, hkept, hcru, hformed, hinj, Nat.add_zero, hne, Nat.not_le.2 hbad, Bool.false_and, Bool.not_true, Bool.or_false,
    Bool.false_eq_true, if_false, if_true]

/-- `s` with a corrected page of `e` bits in error counted (R429). -/
def State.readCorrected (s : State) (e : Nat) : State := (s.bump Reg.VLT_CNT_CORR_PAGES 0).bump Reg.VLT_CNT_CORR_BITS 0 e

/-- What the counters read, and RETIRE_FRAC, which they leave. -/
theorem State.get_readCorrected (hwf : SMap.wf s.regs) (e : Nat) {t : State} (ht : t.regs = (s.readCorrected e).regs) :
    t.get Reg.VLT_CNT_CORR_BITS = (s.get Reg.VLT_CNT_CORR_BITS + e) % 2 ^ 32 ∧
      t.get Reg.VLT_CNT_CORR_PAGES = (s.get Reg.VLT_CNT_CORR_PAGES + 1) % 2 ^ 32 ∧
      t.get Reg.VLT_CTL_RETIRE_FRAC = s.get Reg.VLT_CTL_RETIRE_FRAC := by
  simp only [State.get_congr ht, State.readCorrected]
  refine ⟨?_, ?_, ?_⟩
  · rw [State.get_bump_self (State.wf_bump hwf ..), State.get_bump_ne s (by decide)]
    rfl
  · rw [State.get_bump_ne _ (by decide), State.get_bump_self hwf]
    rfl
  · rw [State.get_bump_ne _ (by decide), State.get_bump_ne _ (by decide)]

/-- A correction counts its page and its bits, and may be reported. -/
theorem State.pageCorrected_frame (s : State) (n bits : Nat) : ∃ tick flt, s.pageCorrected n bits =
    { s with regs := (s.readCorrected bits).regs, vlt := { s.vlt with corrTick := tick },
             flt := flt } := by
  unfold State.pageCorrected
  extract_lets s1 due
  split
  · exact ⟨_, _, rfl⟩
  · exact ⟨_, _, rfl⟩

/-- What a correction changes: the page's known errors, the Crucible, the counters and the events. -/
theorem State.pageFixed_frame (s : State) (n e : Nat) : ∃ vlt flt, s.pageFixed n e =
    { s with regs := (s.readCorrected e).regs, vlt := vlt, flt := flt } ∧ vlt.due = s.vlt.due := by
  obtain ⟨tick, flt, hcount⟩ := (s.modPage n (fun p => { p with errBits := e })).pageCorrected_frame n e
  obtain ⟨pages, crucible, hcru⟩ := ((s.modPage n (fun p => { p with errBits := e })).pageCorrected n e).toCrucible_frame n
  rw [State.pageFixed, hcru, hcount]
  exact ⟨_, _, rfl, rfl⟩

/-- The corrected page holds what it held. -/
theorem State.bytes_pageFixed (hwf : SMap.wf s.vlt.pages) (n e : Nat) : ((s.pageFixed n e).page n).bytes = (s.page n).bytes := by
  obtain ⟨tick, flt, hcount⟩ := (s.modPage n (fun p => { p with errBits := e })).pageCorrected_frame n e
  have hpages : ((s.modPage n (fun p => { p with errBits := e })).pageCorrected n e).vlt.pages =
      (s.modPage n (fun p => { p with errBits := e })).vlt.pages := by rw [hcount]
  have hself := State.page_modPage_self hwf n (fun p => { p with errBits := e })
  rw [State.pageFixed, State.bytes_toCrucible (hpages ▸ State.wf_modPage hwf n _), State.page_congr hpages, hself]
  rfl

/-- What a read that corrects its page answers and leaves: the page in the Crucible, and due for retirement from RETIRE_FRAC eighths of t
on (R427, R429). -/
theorem State.loadPage_corrects {bits e : Nat} (hwf : SMap.wf s.regs) (hkept : s.pageLost n = false) (hcru : s.inCrucible n = false)
    (hformed : (s.page n).formed = true) (hinj : s.injectedBits n = 0) (he : e = (s.page n).errBits + bits) (hpos : 0 < e)
    (hfix : e ≤ strengthT (s.pageStrength n)) :
    ∃ vlt flt, s.loadPage n bits = ({ s with regs := (s.readCorrected e).regs, vlt := vlt, flt := flt }, some (s.page n).bytes) ∧
      vlt.pages = (s.pageFixed n e).vlt.pages ∧ vlt.crucible.any (fun b => b.page == n) = true ∧
      (strengthT (s.pageStrength n) * s.get Reg.VLT_CTL_RETIRE_FRAC ≤ 8 * e → vlt.due.any (fun d => d.1 == n) = true) ∧
      (8 * e < strengthT (s.pageStrength n) * s.get Reg.VLT_CTL_RETIRE_FRAC → vlt.due = s.vlt.due) := by
  have hload := State.loadPage_fixed hkept hcru hformed hinj he hpos hfix
  have hbuffer : (s.pageFixed n e).inCrucible n = true := State.inCrucible_toCrucible _ n
  obtain ⟨vlt, flt, hframe, hdue⟩ := s.pageFixed_frame n e
  obtain ⟨-, -, hfrac⟩ := State.get_readCorrected hwf e (t := s.pageFixed n e) (by rw [hframe])
  rw [hfrac] at hload
  rw [hframe] at hbuffer
  by_cases hthreshold : strengthT (s.pageStrength n) * s.get Reg.VLT_CTL_RETIRE_FRAC ≤ 8 * e
  · obtain ⟨due, hretire⟩ := (s.pageFixed n e).retireDue_frame n false
    have hnow := (s.pageFixed n e).due_retireDue n false
    rw [if_pos hthreshold, hretire, hframe] at hload
    rw [hretire] at hnow
    rw [hframe]
    exact ⟨_, _, hload, rfl, hbuffer, fun _ => hnow, fun hlow => absurd hthreshold (Nat.not_le.2 hlow)⟩
  · rw [if_neg hthreshold, hframe] at hload
    rw [hframe]
    exact ⟨_, _, hload, rfl, hbuffer, fun hhigh => absurd hhigh hthreshold, fun _ => hdue⟩

/-- What the client of a region does with a bus error (Table 10-4): it is reported, or a map page is noted as bad. -/
theorem State.clientError_frame (s : State) (n : Nat) : ∃ flt pol, s.clientError n = { s with flt := flt, pol := pol } := by
  have hmap (page : Nat) (pair : Bool) : ∃ flt pol, s.mapPageBad n page pair = { s with flt := flt, pol := pol } := by
    unfold State.mapPageBad
    extract_lets src
    split
    · split
      · exact ⟨s.flt, s.pol, rfl⟩
      · exact ⟨s.flt, _, rfl⟩
    · exact ⟨_, s.pol, rfl⟩
  unfold State.clientError
  split
  case h_1 | h_2 =>
    split
    · exact ⟨s.flt, s.pol, rfl⟩
    · exact ⟨_, s.pol, rfl⟩
  case h_3 | h_4 | h_5 | h_6 => exact hmap _ _
  case h_7 => exact ⟨_, s.pol, rfl⟩
  case h_8 => exact ⟨s.flt, s.pol, rfl⟩

end

/-! ## Retired channels and the remap table (R436, R441) -/

section
variable {s t : State}

theorem State.channelFailed_congr (h : t.get Reg.VLT_PC_FAILED = s.get Reg.VLT_PC_FAILED) (c : Nat) :
    t.channelFailed c = s.channelFailed c := by
  simp only [State.channelFailed, h]

theorem State.remapOf_congr (h : t.vlt.remaps = s.vlt.remaps) (n : Nat) : t.remapOf n = s.remapOf n := by
  simp only [State.remapOf, h]

theorem State.physOf_congr (h : t.vlt.remaps = s.vlt.remaps) (n : Nat) : t.physOf n = s.physOf n := by
  simp only [State.physOf, State.remapOf_congr h]

/-- A page's channel is a matter of the remap table and of the failed pseudo-channels. -/
theorem State.onFailed_congr {n : Nat} (hphys : t.physOf n = s.physOf n) (hpc : t.get Reg.VLT_PC_FAILED = s.get Reg.VLT_PC_FAILED) :
    t.onFailed n = s.onFailed n := by
  simp only [State.onFailed, hphys, funext (State.channelFailed_congr hpc)]

/-- So is the target of a retirement. -/
theorem State.retireTarget_congr (hremaps : t.vlt.remaps = s.vlt.remaps) (hpc : t.get Reg.VLT_PC_FAILED = s.get Reg.VLT_PC_FAILED) (n : Nat) :
    t.retireTarget n = s.retireTarget n := by
  have hphys : t.physOf = s.physOf := funext (State.physOf_congr hremaps)
  have hfailed : t.channelFailed = s.channelFailed := funext (State.channelFailed_congr hpc)
  have hfree : t.targetFree = s.targetFree := by
    funext m p
    simp only [State.targetFree, hremaps, hphys, hfailed]
  have hfull : t.remapFull n = s.remapFull n := by simp only [State.remapFull, State.remapOf_congr hremaps, hremaps]
  simp only [State.retireTarget, hfull, hphys, hfree]

end

/-! ## LOST is cleared (R437) -/

section
variable (s : State) (n : Nat)

/-- `s` with LOST of page `n` cleared: in the remap table and among the pages that are due. -/
def State.unlost (s : State) (n : Nat) : State :=
  s.modVlt (fun v => { v with due := v.due.filter (fun d => d != (n, true)),
                              remaps := v.remaps.map (fun r => if r.1 = n then (r.1, r.2.1, false) else r) })

/-- Every page keeps its remap entry, page `n` without LOST. -/
theorem State.remapOf_unlost (m : Nat) : (s.unlost n).remapOf m = (s.remapOf m).map (fun r => (r.1, r.2 && m != n)) := by
  have hkey : ((fun r : Nat × Nat × Bool => r.1 == m) ∘ fun r => if r.1 = n then (r.1, r.2.1, false) else r) = fun r => r.1 == m := by
    funext r
    dsimp only [Function.comp]
    split
    · rfl
    · rfl
  have hlist : (s.unlost n).vlt.remaps = s.vlt.remaps.map (fun r => if r.1 = n then (r.1, r.2.1, false) else r) := rfl
  rw [State.remapOf, hlist, List.find?_map, hkey, State.remapOf]
  cases hfind : s.vlt.remaps.find? (fun r => r.1 == m) with
  | none => rfl
  | some r =>
    have hr : r.1 = m := by simpa using List.find?_some hfind
    by_cases hm : m = n
    · simp [hr, hm]
    · have hne : (m != n) = true := bne_iff_ne.2 hm
      simp only [Option.map_some, hr, if_neg hm, hne, Bool.and_true]

@[simp] theorem State.page_unlost (m : Nat) : (s.unlost n).page m = s.page m := State.page_congr (t := s.unlost n) rfl m

theorem State.physOf_unlost (m : Nat) : (s.unlost n).physOf m = s.physOf m := by
  rw [State.physOf, State.remapOf_unlost, State.physOf]
  cases s.remapOf m with
  | none => rfl
  | some r => rfl

theorem State.onFailed_unlost (m : Nat) : (s.unlost n).onFailed m = s.onFailed m :=
  State.onFailed_congr (s.physOf_unlost n m) (State.get_congr rfl _ _)

/-- A page on a sound channel is no longer lost. -/
theorem State.pageLost_unlost (hchannel : s.onFailed n = false) : (s.unlost n).pageLost n = false := by
  have hentry : (((s.unlost n).remapOf n).map Prod.snd).getD false = false := by
    rw [State.remapOf_unlost]
    cases s.remapOf n with
    | none => rfl
    | some r => simp
  have hdue : (s.unlost n).vlt.due.contains (n, true) = false := by simp [State.unlost, State.modVlt]
  rw [State.pageLost, hentry, hdue, State.onFailed_unlost, hchannel]
  rfl

/-- Which pages are lost is a matter of the remap table, of the pages that are due and of the registers. -/
theorem State.pageLost_congr {s t : State} (hremaps : t.vlt.remaps = s.vlt.remaps) (hdue : t.vlt.due = s.vlt.due) (hregs : t.regs = s.regs)
    (m : Nat) : t.pageLost m = s.pageLost m := by
  simp only [State.pageLost, State.remapOf_congr hremaps, hdue,
    State.onFailed_congr (State.physOf_congr hremaps m) (State.get_congr hregs _ _)]

end

/-! ## Retirement (R436 to R438) -/

section
variable {s : State} {n p : Nat}

/-- `s` with page `n` no longer due for retirement. -/
def State.undue (s : State) (n : Nat) : State := s.modVlt (fun v => { v with due := v.due.filter (fun d => d.1 != n) })

/-- `s` with page `n` at the physical page `p`: lost, or written back there where it is formed. -/
def State.relocated (s : State) (n p : Nat) (lost : Bool) : State :=
  let t := (s.undue n).modVlt (fun v => { v with remaps := (n, p, lost) :: v.remaps })
  if lost then t.modPage n (fun _ => VPage.dflt) else if (t.page n).formed then t.writeBack n else t

/-- A page that is no longer due has the same target. -/
theorem State.retireTarget_undue (s : State) (n m : Nat) : (s.undue n).retireTarget m = s.retireTarget m :=
  State.retireTarget_congr (s := s) (t := s.undue n) rfl (State.get_congr rfl _ _) m

/-- A retirement with a target: the page moves, with a journal record, a count and an event. -/
theorem State.retirePage_target (htarget : s.retireTarget n = some p) (lost : Bool) : s.retirePage n lost =
    ((((s.relocated n p lost).journal (.retire n p lost)).bump Reg.VLT_CNT_RETIRED 0).showReserve).report (if lost then 0x0C42 else 0x0C41)
      (if lost then contained else corrected) 0 (leBytes 4 n) := by
  unfold State.retirePage
  extract_lets s1 s2
  have hundue : s1.retireTarget n = some p := (s.retireTarget_undue n n).trans htarget
  split
  next h => exact absurd (h.symm.trans hundue) (by simp)
  next q h =>
    obtain rfl := Option.some.inj (h.symm.trans hundue)
    rfl

/-- A retirement without a target leaves the page in service and sets RESERVE_OUT with an event (R438). -/
theorem State.retirePage_noTarget (htarget : s.retireTarget n = none) (hout : s.flag Reg.VLT_STATUS_RESERVE_OUT = false) (lost : Bool) :
    ∃ due, s.retirePage n lost = (({ s with vlt := { s.vlt with due := due } } : State).setFlag Reg.VLT_STATUS_RESERVE_OUT 0 true).report
      0x0C43 contained 0 (leBytes 4 n) := by
  unfold State.retirePage
  extract_lets s1 s2
  have hundue : s1.retireTarget n = none := (s.retireTarget_undue n n).trans htarget
  obtain ⟨due, hkept⟩ : ∃ due, s2 = { s with vlt := { s.vlt with due := due } } := by
    unfold s2
    split
    · exact ⟨_, rfl⟩
    · exact ⟨_, rfl⟩
  have hin : s2.flag Reg.VLT_STATUS_RESERVE_OUT = false := by
    rw [hkept]
    exact hout
  split
  next =>
    rw [if_neg (by simp [hin]), hkept]
    exact ⟨due, rfl⟩
  next q h => exact absurd (h.symm.trans hundue) (by simp)

/-- A retired page is at its target, no longer due; only pages and buffers change besides. -/
theorem State.relocated_frame (s : State) (n p : Nat) (lost : Bool) : ∃ pages crucible, s.relocated n p lost =
    { s with vlt := { s.vlt with
      pages := pages, crucible := crucible, due := s.vlt.due.filter (fun d => d.1 != n), remaps := (n, p, lost) :: s.vlt.remaps } } := by
  unfold State.relocated
  extract_lets t
  split
  · exact ⟨_, _, rfl⟩
  · split
    · obtain ⟨pages, crucible, h⟩ := t.writeBack_frame n
      exact ⟨pages, crucible, h⟩
    · exact ⟨_, _, rfl⟩

/-- What RESERVE_FREE and UNALLOC_FREE show is in the registers. -/
theorem State.showReserve_frame (s : State) : ∃ regs, s.showReserve = { s with regs := regs } := ⟨_, rfl⟩

/-- What RESERVE_FREE and UNALLOC_FREE show leaves the other fields. -/
theorem State.get_showReserve (s : State) {f : Field} {i : Nat} (hreserve : Reg.VLT_STATUS_RESERVE_FREE.key 0 ≠ f.key i)
    (hunalloc : Reg.VLT_UNALLOC_FREE.key 0 ≠ f.key i) : s.showReserve.get f i = s.get f i :=
  (State.get_set_ne _ _ _ _ _ _ hunalloc).trans (s.get_set_ne _ _ _ _ _ hreserve)

/-- The lost page holds nothing. -/
theorem State.page_relocated_lost (hwf : SMap.wf s.vlt.pages) (n p : Nat) : (s.relocated n p true).page n = VPage.dflt :=
  State.page_modPage_self (s := (s.undue n).modVlt (fun v => { v with remaps := (n, p, true) :: v.remaps })) hwf n _

/-- The page that is not lost holds what it held. -/
theorem State.bytes_relocated_kept (hwf : SMap.wf s.vlt.pages) (n p : Nat) : ((s.relocated n p false).page n).bytes = (s.page n).bytes := by
  unfold State.relocated
  extract_lets t
  have hkept := State.writeBack_keeps (s := t) hwf n n
  simp only [Bool.false_eq_true, if_false]
  split
  · exact VPage.bytes_congr hkept.1 hkept.2
  · rfl

/-- What a retirement with a target does, whoever asks for it. -/
structure State.Retired (s t : State) (n p : Nat) (lost : Bool) : Prop where
  frame : t = { s with regs := t.regs, vlt := t.vlt, jnl := t.jnl, flt := t.flt }
  remaps : t.vlt.remaps = (n, p, lost) :: s.vlt.remaps
  due : t.vlt.due = s.vlt.due.filter (fun d => d.1 != n)
  pages : t.vlt.pages = (s.relocated n p lost).vlt.pages
  count : t.get Reg.VLT_CNT_RETIRED = (s.get Reg.VLT_CNT_RETIRED + 1) % 2 ^ 32
  event : t.Waits (if lost then 0x0C42 else 0x0C41) (if lost then contained else corrected) 0

theorem State.retirePage_retires (hwf : SMap.wf s.regs) (htarget : s.retireTarget n = some p) (lost : Bool) :
    s.Retired (s.retirePage n lost) n p lost := by
  obtain ⟨pages, crucible, hframe⟩ := s.relocated_frame n p lost
  have hregs : ((s.relocated n p lost).journal (.retire n p lost)).regs = s.regs := by
    rw [hframe]
    rfl
  obtain ⟨regs, hshown⟩ := (((s.relocated n p lost).journal (.retire n p lost)).bump Reg.VLT_CNT_RETIRED 0).showReserve_frame
  rw [State.retirePage_target htarget]
  refine ⟨?_, ?_, ?_, rfl, ?_, State.waits_report ..⟩
  · rw [hshown, hframe]
    rfl
  · rw [hframe]
    rfl
  · rw [hframe]
    rfl
  · refine (State.get_congr (State.report_regs ..) _ _).trans ((State.get_showReserve _ (by decide) (by decide)).trans ?_)
    rw [State.get_bump_self (hregs ▸ hwf), State.get_congr hregs]
    rfl

/-- The retired page is at its target. -/
theorem State.Retired.physOf {t : State} {lost : Bool} (h : s.Retired t n p lost) : t.physOf n = p := by
  simp [State.physOf, State.remapOf, h.remaps]

/-- It is LOST where its contents were lost. -/
theorem State.Retired.pageLost {t : State} (h : s.Retired t n p true) : t.pageLost n = true := by
  simp [State.pageLost, State.remapOf, h.remaps]

/-- It is no longer due. -/
theorem State.Retired.undue {t : State} {lost : Bool} (h : s.Retired t n p lost) : t.vlt.due.any (fun d => d.1 == n) = false := by
  simp [h.due]

end

end Sys2Proof.Machine

namespace Sys2Proof.Claims

open Sys2Proof.Machine

/-! ## O45, clause by clause -/

section
variable {s : State} {n bits : Nat}

/-- VAULT_READ of a page of the vault answers its data, or a bus error after its client's part (Table 10-4). -/
theorem vaultRead_answers (hup : s.mainUp = true) (hn : n < logicalPages) {t : State} {b : Option Bytes} (hload : s.loadPage n bits = (t, b)) :
    exec (.vaultRead n bits) s = .next ((if b.isNone then t.clientError n else t).emit (.vaultData n b)) := by
  change execVaultRead n bits s = _
  simp only [execVaultRead, hup, hn, decide_true, Bool.and_true, if_true, hload]

/-- R421: a page that is not formed reads as zeros. -/
theorem vaultRead_unformed (hup : s.mainUp = true) (hn : n < logicalPages) (hlost : s.pageLost n = false)
    (hformed : (s.page n).formed = false) :
    exec (.vaultRead n bits) s = .next (s.emit (.vaultData n (some (List.replicate 2048 0)))) := by
  rw [vaultRead_answers hup hn (State.loadPage_served (by simp [hlost]) (.inl hformed) bits), VPage.bytes_unformed hformed]
  rfl

/-- R427: a page in the Crucible is served from its buffer. -/
theorem vaultRead_buffered (hup : s.mainUp = true) (hn : n < logicalPages) (hcru : s.inCrucible n = true) :
    exec (.vaultRead n bits) s = .next (s.emit (.vaultData n (some (s.page n).bytes))) :=
  vaultRead_answers hup hn (State.loadPage_served (by simp [hcru]) (.inr hcru) bits)

/-- R427, R429: a page with at most t bits in error is corrected. -/
theorem vaultRead_corrects {e : Nat} (hregs : SMap.wf s.regs) (hpages : SMap.wf s.vlt.pages) (hup : s.mainUp = true) (hn : n < logicalPages)
    (hlost : s.pageLost n = false) (hcru : s.inCrucible n = false) (hformed : (s.page n).formed = true) (hinj : s.injectedBits n = 0)
    (he : e = (s.page n).errBits + bits) (hpos : 0 < e) (hfix : e ≤ strengthT (s.pageStrength n)) :
    ∃ t, exec (.vaultRead n bits) s = .next t ∧ t = { s with regs := t.regs, vlt := t.vlt, flt := t.flt, out := t.out } ∧
      t.out = .vaultData n (some (s.page n).bytes) :: s.out ∧ (t.page n).bytes = (s.page n).bytes ∧ t.inCrucible n = true ∧
      t.get Reg.VLT_CNT_CORR_BITS = (s.get Reg.VLT_CNT_CORR_BITS + e) % 2 ^ 32 ∧
      t.get Reg.VLT_CNT_CORR_PAGES = (s.get Reg.VLT_CNT_CORR_PAGES + 1) % 2 ^ 32 ∧
      (strengthT (s.pageStrength n) * s.get Reg.VLT_CTL_RETIRE_FRAC ≤ 8 * e → t.vlt.due.any (fun d => d.1 == n) = true) ∧
      (8 * e < strengthT (s.pageStrength n) * s.get Reg.VLT_CTL_RETIRE_FRAC → t.vlt.due = s.vlt.due) := by
  obtain ⟨vlt, flt, hload, hkept, hbuffer, hdue, hrest⟩ := State.loadPage_corrects hregs hlost hcru hformed hinj he hpos hfix
  obtain ⟨hcorrBits, hcorrPages, -⟩ := State.get_readCorrected hregs e
    (t := ({ s with regs := (s.readCorrected e).regs, vlt := vlt, flt := flt } : State).emit (.vaultData n (some (s.page n).bytes))) rfl
  refine ⟨_, vaultRead_answers hup hn hload, rfl, rfl, ?_, hbuffer, hcorrBits, hcorrPages, hdue, hrest⟩
  exact (congrArg VPage.bytes (State.page_congr (s := s.pageFixed n e) hkept n)).trans (State.bytes_pageFixed hpages n e)

/-- R430: a page with more than t bits in error. -/
theorem vaultRead_uncorrectable (hregs : SMap.wf s.regs) (hpages : SMap.wf s.vlt.pages) (hup : s.mainUp = true) (hn : n < logicalPages)
    (hlost : s.pageLost n = false) (hcru : s.inCrucible n = false) (hformed : (s.page n).formed = true) (hinj : s.injectedBits n = 0)
    (hbad : strengthT (s.pageStrength n) < (s.page n).errBits + bits) :
    ∃ t, exec (.vaultRead n bits) s = .next t ∧ t = { s with regs := t.regs, vlt := t.vlt, flt := t.flt, pol := t.pol, out := t.out } ∧
      t.out = .vaultData n none :: s.out ∧ t.get Reg.VLT_CNT_UNCORR = (s.get Reg.VLT_CNT_UNCORR + 1) % 2 ^ 32 ∧
      t.vlt.due.any (fun d => d.1 == n) = true ∧ (t.page n).formed = false := by
  have hexec := vaultRead_answers hup hn (State.loadPage_uncorr hlost hcru hformed hinj hbad)
  obtain ⟨flt, pol, hclient⟩ := (s.pageUncorr n).clientError_frame n
  obtain ⟨due, hretire⟩ := (s.bump Reg.VLT_CNT_UNCORR 0).retireDue_frame n true
  have hdue := (s.bump Reg.VLT_CNT_UNCORR 0).due_retireDue n true
  have hpage : (s.pageUncorr n).page n = VPage.dflt := by
    refine State.page_modPage_self ?_ n _
    rw [hretire]
    exact hpages
  have hget : (s.pageUncorr n).get Reg.VLT_CNT_UNCORR = (s.get Reg.VLT_CNT_UNCORR + 1) % 2 ^ 32 := by
    have hcount := State.get_bump_self hregs Reg.VLT_CNT_UNCORR 0 1
    rw [State.pageUncorr, hretire]
    exact hcount
  rw [Option.isNone_none, if_pos rfl, hclient] at hexec
  refine ⟨_, hexec, ?_, ?_, hget, hdue, (congrArg VPage.formed hpage).trans rfl⟩
  · rw [State.pageUncorr, hretire]
    rfl
  · rw [State.pageUncorr, hretire]
    rfl

/-- R422, R424, R431: a write of part of a page is merged into a Crucible buffer and forms the page. -/
theorem vaultSubpageWrite_merges {off : Nat} {d : Bytes} (hpages : SMap.wf s.vlt.pages) (hdata : SMap.wf (s.page n).data) (hup : s.mainUp = true)
    (hn : n < logicalPages) (hlost : s.pageLost n = false) (hclean : (s.page n).errBits + bits + s.injectedBits n = 0)
    (hend : off + d.length ≤ 2048) (hpart : d.length < 2048) :
    ∃ t, exec (.vaultSubpageWrite n off d bits) s = .next t ∧ t = { s with vlt := t.vlt } ∧ (t.page n).formed = true ∧ t.inCrucible n = true ∧
      (∀ i < d.length, (t.page n).bytes.getD (off + i) 0 = d.getD i 0) ∧
      (∀ j < 2048, j < off ∨ off + d.length ≤ j → (t.page n).bytes.getD j 0 = (s.page n).bytes.getD j 0) ∧
      (∀ m, m ≠ n → (t.page m).bytes = (s.page m).bytes) := by
  have hexec : exec (.vaultSubpageWrite n off d bits) s = .next ((s.modPage n (·.merged off d)).toCrucible n) := by
    change execVaultSubpageWrite n off d bits s = _
    simp only [execVaultSubpageWrite, hup, hn, hend, hpart, and_self, decide_true, Bool.and_true, if_true, State.loadPage_clean hlost hclean]
    rfl
  have hwf := State.wf_modPage hpages n (·.merged off d)
  have hself := State.page_modPage_self hpages n (·.merged off d)
  have hformed := (State.toCrucible_keeps hwf n n).1
  have hbytes := State.bytes_toCrucible hwf n n
  obtain ⟨pages, crucible, hframe⟩ := (s.modPage n (·.merged off d)).toCrucible_frame n
  rw [hself] at hformed hbytes
  refine ⟨_, hexec, ?_, hformed, State.inCrucible_toCrucible _ n, fun i hi => ?_, fun j hj hout => ?_, fun m hm => ?_⟩
  · rw [hframe]
    rfl
  · rw [hbytes]
    exact VPage.getD_merged_mem hdata hend hi
  · rw [hbytes]
    exact VPage.getD_merged_ne hj hout
  · rw [State.bytes_toCrucible hwf n m, State.page_modPage_ne hm]

/-- R437: on a lost page a write of a part merges nothing. -/
theorem vaultSubpageWrite_lost {off : Nat} {d : Bytes} (hup : s.mainUp = true) (hn : n < logicalPages) (hlost : s.pageLost n = true)
    (hcru : s.inCrucible n = false) (hend : off + d.length ≤ 2048) (hpart : d.length < 2048) :
    ∃ t, exec (.vaultSubpageWrite n off d bits) s = .next t ∧ t.vlt = s.vlt ∧ t.out = .vaultData n none :: s.out := by
  obtain ⟨hvlt, hout, hnone⟩ := State.loadPage_lost hlost hcru bits
  obtain ⟨flt, pol, hclient⟩ := (s.loadPage n bits).1.clientError_frame n
  have hexec : exec (.vaultSubpageWrite n off d bits) s = .next (((s.loadPage n bits).1.clientError n).emit (.vaultData n none)) := by
    change execVaultSubpageWrite n off d bits s = _
    simp only [execVaultSubpageWrite, hup, hn, hend, hpart, and_self, decide_true, Bool.and_true, if_true, hnone]
  rw [hclient] at hexec
  exact ⟨_, hexec, hvlt, congrArg _ hout⟩

/-- R425, R437: a write of a full page replaces it and clears LOST. -/
theorem vaultFullPageWrite_replaces {d : Bytes} (hpages : SMap.wf s.vlt.pages) (hup : s.mainUp = true) (hn : n < logicalPages)
    (hchannel : s.onFailed n = false) (hcru : s.inCrucible n = false) (hd : d.length = 2048) :
    ∃ t, exec (.vaultFullPageWrite n d) s = .next t ∧ t = { s with vlt := t.vlt } ∧ (t.page n).bytes = d ∧ (t.page n).formed = true ∧
      (t.page n).wseq = ((s.page n).wseq + 1) % 2 ^ 40 ∧ t.pageLost n = false ∧ (∀ m, m ≠ n → t.page m = s.page m) := by
  have hexec : exec (.vaultFullPageWrite n d) s = .next (((s.unlost n).modPage n (·.replaced d)).writeBack n) := by
    have hsound : (s.unlost n).onFailed n = false := (s.onFailed_unlost n n).trans hchannel
    have hbuffer : ((s.unlost n).modPage n (·.replaced d)).inCrucible n = false := hcru
    rw [State.unlost] at hsound hbuffer
    change execVaultFullPageWrite n d s = _
    simp only [execVaultFullPageWrite, hup, hn, decide_true, Bool.and_true, if_true, hsound, Bool.false_eq_true, if_false]
    exact congrArg Host.Outcome.next (if_neg (ne_true_of_eq_false hbuffer))
  have hwf := State.wf_modPage (s := s.unlost n) hpages n (·.replaced d)
  have hpage := State.page_writeBack_self hwf n
  rw [State.page_modPage_self (s := s.unlost n) hpages, State.page_unlost] at hpage
  obtain ⟨pages, crucible, hframe⟩ := ((s.unlost n).modPage n (·.replaced d)).writeBack_frame n
  refine ⟨_, hexec, ?_, ?_, ?_, ?_, ?_, fun m hm => ?_⟩
  · rw [hframe]
    rfl
  · rw [hpage]
    exact (VPage.bytes_congr rfl rfl).trans (VPage.bytes_replaced (s.page n) hd)
  · rw [hpage]
    rfl
  · rw [hpage]
    rfl
  · rw [State.pageLost_congr (s := s.unlost n) (t := ((s.unlost n).modPage n (·.replaced d)).writeBack n) rfl rfl rfl]
    exact s.pageLost_unlost n hchannel
  · rw [State.page_writeBack_ne hm, State.page_modPage_ne hm, State.page_unlost]

/-- R420, R426: a write-back empties the buffer. -/
theorem crucibleWriteback_empties (hpages : SMap.wf s.vlt.pages) (hcru : s.inCrucible n = true) :
    ∃ t, exec (.crucibleWriteback n) s = .next t ∧ t = { s with vlt := t.vlt } ∧ t.inCrucible n = false ∧
      (t.page n).wseq = ((s.page n).wseq + 1) % 2 ^ 40 ∧ (t.page n).bytes = (s.page n).bytes ∧ (t.page n).errBits = 0 := by
  have hexec : exec (.crucibleWriteback n) s = .next (s.writeBack n) := congrArg Host.Outcome.next (if_pos hcru)
  have hpage := State.page_writeBack_self hpages n
  have hkept := State.writeBack_keeps hpages n n
  exact ⟨_, hexec, rfl, s.inCrucible_writeBack n, congrArg VPage.wseq hpage, VPage.bytes_congr hkept.1 hkept.2, congrArg VPage.errBits hpage⟩

/-- PAGE_RETIREMENT of a page that is due retires it. -/
theorem pageRetirement_due {lost : Bool} (hdue : s.vlt.due.find? (fun d => d.1 == n) = some (n, lost)) :
    exec (.pageRetirement n) s = .next (s.retirePage n lost) := by
  change execPageRetirement n s = _
  simp only [execPageRetirement, hdue]

/-- R436, R437: a page that is due moves to its target. -/
theorem pageRetirement_retires {p : Nat} {lost : Bool} (hregs : SMap.wf s.regs) (hpages : SMap.wf s.vlt.pages)
    (hdue : s.vlt.due.find? (fun d => d.1 == n) = some (n, lost)) (htarget : s.retireTarget n = some p) :
    ∃ t, exec (.pageRetirement n) s = .next t ∧ t = { s with regs := t.regs, vlt := t.vlt, jnl := t.jnl, flt := t.flt } ∧ t.physOf n = p ∧
      t.vlt.due.any (fun d => d.1 == n) = false ∧ t.get Reg.VLT_CNT_RETIRED = (s.get Reg.VLT_CNT_RETIRED + 1) % 2 ^ 32 ∧
      (lost = true → t.pageLost n = true ∧ (t.page n).formed = false) ∧ (lost = false → (t.page n).bytes = (s.page n).bytes) ∧
      (∃ e ∈ t.flt.waiting, e.src = (if lost then 0x0C42 else 0x0C41) ∧ e.cls = (if lost then 2 else 1)) := by
  have hretired := State.retirePage_retires hregs htarget lost
  have hpage := State.page_congr hretired.pages n
  refine ⟨_, pageRetirement_due hdue, hretired.frame, hretired.physOf, hretired.undue, hretired.count, ?_, ?_, hretired.event.event⟩
  · rintro rfl
    rw [hpage, State.page_relocated_lost hpages]
    exact ⟨hretired.pageLost, rfl⟩
  · rintro rfl
    rw [hpage, State.bytes_relocated_kept hpages]

/-- R438: with no target left the page stays, and RESERVE_OUT is set. -/
theorem pageRetirement_reserveOut {lost : Bool} (hregs : SMap.wf s.regs) (hdue : s.vlt.due.find? (fun d => d.1 == n) = some (n, lost))
    (htarget : s.retireTarget n = none) (hout : s.flag Reg.VLT_STATUS_RESERVE_OUT = false) :
    ∃ t, exec (.pageRetirement n) s = .next t ∧ t = { s with regs := t.regs, vlt := t.vlt, flt := t.flt } ∧
      t.flag Reg.VLT_STATUS_RESERVE_OUT = true ∧ t.physOf n = s.physOf n ∧ (∃ e ∈ t.flt.waiting, e.src = 0x0C43 ∧ e.cls = 2) := by
  obtain ⟨due, hretire⟩ := State.retirePage_noTarget htarget hout lost
  refine ⟨_, pageRetirement_due hdue, ?_, ?_, ?_, ?_⟩
  · rw [hretire]
    rfl
  · rw [hretire]
    exact State.flag_setFlag_true (s := { s with vlt := { s.vlt with due := due } }) (f := Reg.VLT_STATUS_RESERVE_OUT) hregs rfl 0
  · rw [hretire]
    rfl
  · rw [hretire]
    exact (State.waits_report ..).event

end

/-- Settles O45: the lemmas above, one for each clause. -/
theorem vaultPages : Obligations.VaultPages :=
  ⟨fun _ _ _ hup hn hlost hformed _ => vaultRead_unformed hup hn hlost hformed, fun _ _ _ => vaultRead_buffered,
    fun _ _ _ _ => vaultRead_corrects, fun _ _ _ => vaultRead_uncorrectable,
    fun _ _ _ _ _ hpages hdata hup hn hlost _ => vaultSubpageWrite_merges hpages hdata hup hn hlost,
    fun _ _ _ _ _ => vaultSubpageWrite_lost, fun _ _ _ => vaultFullPageWrite_replaces, fun _ _ => crucibleWriteback_empties,
    fun _ _ _ _ => pageRetirement_retires, fun _ _ _ => pageRetirement_reserveOut⟩

end Sys2Proof.Claims

namespace Sys2Proof.Machine

/-! ## Anneal (R433 to R435) -/

section
variable {s : State} {n : Nat}

/-- The next page of a pass is not lost. -/
theorem State.pageLost_annealNext (h : s.annealNext = some n) : s.pageLost n = false := by
  obtain ⟨p, hfind, rfl⟩ := Option.map_eq_some_iff.1 h
  have hp := List.find?_some hfind
  simp only [Bool.and_eq_true, Bool.not_eq_true'] at hp
  exact hp.2

/-- `s` with the pass past page `n`. -/
def State.annealed (s : State) (n : Nat) : State :=
  (s.modVlt (fun v => { v with annealPos := n + 1, annealRunning := true })).set Reg.VLT_ANNEAL_STATUS_PROGRESS 0
    (256 * (n + 1) / logicalPages)

/-- A page with no bit in error ends its run of corrected passes (R434). -/
theorem execAnnealRead_clean {bits : Nat} (hup : s.mainUp = true) (hen : s.flag Reg.VLT_ANNEAL_EN = true) (hnext : s.annealNext = some n)
    (hcru : s.inCrucible n = false) (hclean : (s.page n).errBits + bits + s.injectedBits n = 0) :
    execAnnealRead bits s = .next ((s.annealed n).modPage n (fun p => { p with anneal := 0 })) := by
  simp only [execAnnealRead, hup, hen, hnext, State.loadPage_clean (State.pageLost_annealNext hnext) hclean, hcru, Bool.not_true,
    Bool.or_self, Bool.not_false, Bool.true_and, Bool.false_eq_true, if_false]
  rfl

/-- `s` with no pass running and the next one from the first page on. -/
def State.passEnded (s : State) : State := s.modVlt (fun v => { v with annealPos := 0, annealRunning := false })

/-- With no page left the pass ends. -/
theorem execAnnealRead_ends (hup : s.mainUp = true) (hen : s.flag Reg.VLT_ANNEAL_EN = true) (hnext : s.annealNext = none) (bits : Nat) :
    execAnnealRead bits s = .next ((s.passEnded.bump Reg.VLT_ANNEAL_STATUS_PASSES 0).set Reg.VLT_ANNEAL_STATUS_PROGRESS 0 0) := by
  simp only [execAnnealRead, hup, hen, hnext, Bool.not_true, Bool.or_self, Bool.false_eq_true, if_false]
  rfl

end

/-! ## Failed pseudo-channels (R440 to R443) -/

section
variable {s : State}

/-- With no failed pseudo-channel no channel is retired. -/
theorem State.channelFailed_zero (h : s.get Reg.VLT_PC_FAILED = 0) (c : Nat) : s.channelFailed c = false := by
  simp [State.channelFailed, bitsOf, h]

/-- One failed pseudo-channel retires its channel alone. -/
theorem State.channelFailed_one {j : Nat} (h : s.get Reg.VLT_PC_FAILED = 2 ^ j) (c : Nat) : s.channelFailed c = decide (j / 2 = c) := by
  have hbits : bitsOf (2 ^ j) (2 * c) 2 ≠ 0 ↔ j / 2 = c := by
    rw [bitsOf]
    rcases Nat.lt_or_ge j (2 * c) with hlow | hge
    · have hzero : 2 ^ j / 2 ^ (2 * c) = 0 := Nat.div_eq_of_lt (Nat.pow_lt_pow_right (by decide) hlow)
      simp only [hzero]
      omega
    · obtain ⟨k, rfl⟩ := Nat.exists_eq_add_of_le hge
      rw [pow_add, Nat.mul_div_cancel_left _ (Nat.two_pow_pos _)]
      match k with
      | 0 => simp
      | 1 => simp; omega
      | k + 2 => simp [pow_add]; omega
  rw [State.channelFailed, h, Bool.eq_iff_iff, decide_eq_true_iff]
  exact bne_iff_ne.trans hbits

/-- Unforming pages changes only the pages. -/
theorem State.unform_frame (s : State) (ns : List Nat) :
    ∃ pages, forEach ns (fun n s => s.modPage n (fun _ => VPage.dflt)) s = { s with vlt := { s.vlt with pages := pages } } := by
  induction ns generalizing s with
  | nil => exact ⟨s.vlt.pages, rfl⟩
  | cons n ns ih => exact ih (s.modPage n (fun _ => VPage.dflt))

/-- `s` with pseudo-channel `i` noted as failed (R440). -/
def State.pcFailed (s : State) (i : Nat) : State :=
  (s.set Reg.VLT_PC_FAILED 0 (s.get Reg.VLT_PC_FAILED ||| 2 ^ i)).journal (.pcFail (s.get Reg.VLT_PC_FAILED ||| 2 ^ i))

/-- The first pseudo-channel that fails, with the Crucible empty: its pages are lost. -/
theorem State.failPc_first (hpc : s.get Reg.VLT_PC_FAILED = 0) (hcru : s.vlt.crucible = []) (i : Nat) : ∃ pages, s.failPc i =
    { (s.pcFailed i).report (0x0C00 + i) (if unmirroredOn (i / 2) then contained else corrected) 0 [byte i] with
      vlt := { s.vlt with pages := pages } } := by
  have hnone : (List.range 16).any s.channelFailed = false := List.any_eq_false.2 fun c _ => by simp [State.channelFailed_zero hpc c]
  obtain ⟨pages, hgone⟩ := ((s.pcFailed i).report (0x0C00 + i) (if unmirroredOn (i / 2) then contained else corrected) 0 [byte i]).unform_frame
    ((s.vlt.pages.map Prod.fst).filter (fun n => (pageChannels (s.physOf n)).contains (i / 2) && !([] : List Nat).contains n))
  have hkept (f : Nat → Bool) : (s.vlt.crucible.map CruBuf.page).filter f = [] := by rw [hcru]; rfl
  refine ⟨pages, ?_⟩
  simp only [State.failPc, State.channelFailed_zero hpc, hnone, hkept, Bool.false_eq_true, if_false]
  exact hgone

/-- A pseudo-channel of a second channel is a failure beyond the remap capacity (R443). -/
theorem State.failPc_second {i j : Nat} (hpc : s.get Reg.VLT_PC_FAILED = 2 ^ j) (hj : j < 32) (hne : j / 2 ≠ i / 2) :
    s.failPc i = (s.pcFailed i).report 0x0C3F fatal 0 [byte i] := by
  have hsound : s.channelFailed (i / 2) = false := by rw [State.channelFailed_one hpc, decide_eq_false hne]
  have hsecond : (List.range 16).any s.channelFailed = true :=
    List.any_eq_true.2 ⟨j / 2, List.mem_range.2 (by omega), by rw [State.channelFailed_one hpc, decide_eq_true rfl]⟩
  simp only [State.failPc, hsound, hsecond, Bool.false_eq_true, if_false, if_true]
  rfl

/-- A page that lies on a failed channel is lost (R441). -/
theorem State.pageLost_of_channel {n c : Nat} (hmem : (pageChannels (s.physOf n)).contains c = true) (hc : s.channelFailed c = true) :
    s.pageLost n = true := by
  have hon : s.onFailed n = true := List.any_eq_true.2 ⟨c, by simpa using hmem, hc⟩
  simp [State.pageLost, hon]

end

/-! ## SRAM banks (R444 to R448) -/

section
variable {s : State} {b row word : Nat}

/-- A bank that was changed. -/
theorem State.bank_modBank_self (hwf : SMap.wf s.vlt.banks) (b : Nat) (f : BankSt → BankSt) : (s.modBank b f).bank b = f (s.bank b) :=
  SMap.get_modify_self _ b _ f hwf

theorem State.bank_congr {t : State} (h : t.vlt.banks = s.vlt.banks) (b : Nat) : t.bank b = s.bank b := by
  simp only [State.bank, h]

/-- The bank that takes over at the end of a copy (R446). -/
def BankSt.renewed (x : BankSt) : BankSt := { sparedRows := [], correctable := [], copying := false, replaced := x.replaced + 1 }

/-- A row takes the next spare row of its bank (R446). -/
def BankSt.spared (x : BankSt) (row : Nat) : BankSt :=
  { x with sparedRows := x.sparedRows ++ [row], correctable := SMap.del x.correctable row }

/-- While its bank has a spare row, a row is replaced, with a journal record, a count and an event. -/
theorem State.spareRow_free (hroom : (s.bank b).sparedRows.length < 16) (row : Nat) : ∃ jnl flt, s.spareRow b row =
    { s with regs := (s.bump Reg.VLT_SRAM_STATUS_ROWS_USED 0).regs, vlt := (s.modBank b (·.spared row)).vlt, jnl := jnl, flt := flt } ∧
      (s.spareRow b row).Waits 0x0C50 corrected 0 := by
  have hrow : s.spareRow b row = (((s.modBank b (·.spared row)).bump Reg.VLT_SRAM_STATUS_ROWS_USED 0).journal (.sramRow b row)).report
      0x0C50 corrected 0 (leBytes 2 b ++ leBytes 2 row) := if_pos hroom
  rw [hrow]
  exact ⟨_, _, rfl, State.waits_report ..⟩

/-- The seventeenth row asks for a spare bank. -/
theorem State.spareRow_bank (hfull : 16 ≤ (s.bank b).sparedRows.length) (hidle : (s.bank b).copying = false)
    (hspare : 0 < s.get Reg.VLT_SRAM_STATUS_SPARE_BANKS_FREE) (row : Nat) : s.spareRow b row =
    (s.set Reg.VLT_SRAM_STATUS_SPARE_BANKS_FREE 0 (s.get Reg.VLT_SRAM_STATUS_SPARE_BANKS_FREE - 1)).modBank b
      (fun x => { x with copying := true }) :=
  (if_neg (Nat.not_lt.2 hfull)).trans ((if_neg (ne_true_of_eq_false hidle)).trans (if_pos hspare))

/-- A word noted among the words of its row with a correctable error. -/
def BankSt.noted (x : BankSt) (row word : Nat) : BankSt :=
  { x with correctable := SMap.modify x.correctable row [] (addNew word) }

theorem BankSt.mem_noted {x : BankSt} (hwf : SMap.wf x.correctable) (row word : Nat) :
    word ∈ SMap.get (x.noted row word).correctable row [] := by
  have hrow : SMap.get (x.noted row word).correctable row [] = addNew word (SMap.get x.correctable row []) :=
    SMap.get_modify_self _ row _ _ hwf
  rw [hrow, addNew]
  split
  next h => exact h
  next => simp

/-- A correctable word counts, is noted, and may be reported (R444, R448). -/
theorem State.wordCorrected_frame (s : State) (b row word : Nat) : ∃ tick flt, s.wordCorrected b row word =
    { s with
      regs := (s.bump Reg.VLT_CNT_SRAM_CORR 0).regs
      vlt := { (s.modBank b (·.noted row word)).vlt with sramTick := tick }
      flt := flt } := by
  unfold State.wordCorrected
  extract_lets s1 s2 due
  split
  · exact ⟨_, _, rfl⟩
  · exact ⟨_, _, rfl⟩

/-! ## The SRAM pass (R448) -/

/-- The SRAM pass over these banks: rows with four words in error are replaced (R446). -/
def State.rowsRepaired (s : State) (banks : SMap BankSt) : State :=
  forEach banks (fun b s => forEach b.2.correctable (fun r s => if 4 ≤ r.2.length then s.spareRow b.1 r.1 else s) s) s

/-- Where every row has fewer words in error, none is replaced. -/
theorem State.rowsRepaired_few {banks : SMap BankSt} (h : ∀ b ∈ banks, ∀ r ∈ b.2.correctable, r.2.length < 4) :
    s.rowsRepaired banks = s :=
  forEach_eq_self fun b hb => forEach_eq_self fun r hr => if_neg (Nat.not_le.2 (h b hb r hr))

/-- A first entry of a sparse array. -/
theorem SMap.modify_nil {α : Type} [DecidableEq α] (k : Nat) {d : α} {f : α → α} (h : f d ≠ d) : SMap.modify [] k d f = [(k, f d)] :=
  if_neg h

/-- `s` with no injected flip left to find. -/
def State.unflipped (s : State) : State := s.modVlt (fun v => { v with flips := [] })

/-- An injected flip of one bit that is found: a correctable word, whose event is marked as injected. -/
theorem State.flipFound_frame (s : State) (b r w : Nat) : ∃ tick flt, s.unflipped.asInjected (fun s => s.wordCorrected b r w) =
    { s with
      regs := (s.bump Reg.VLT_CNT_SRAM_CORR 0).regs
      vlt := { s.vlt with flips := [], banks := SMap.modify s.vlt.banks b BankSt.dflt (·.noted r w), sramTick := tick }
      flt := flt } := by
  obtain ⟨flt, hmarked⟩ := s.unflipped.asInjected_frame (fun s => s.wordCorrected b r w)
  obtain ⟨tick, _, hframe⟩ := ({ s.unflipped with flt := { s.flt with waiting := [] } } : State).wordCorrected_frame b r w
  exact ⟨tick, flt, hmarked.trans (congrArg (fun t : State => { t with flt := flt }) hframe)⟩

/-- A bank without an error in which one word is noted has one row with one word in error. -/
theorem BankSt.noted_dflt (r w : Nat) : BankSt.dflt.noted r w = { BankSt.dflt with correctable := [(r, [w])] } := by
  have hword : SMap.modify ([] : SMap (List Nat)) r [] (addNew w) = [(r, [w])] := SMap.modify_nil r (List.cons_ne_nil w [])
  rw [BankSt.noted, ← hword]
  rfl

/-- The SRAM pass finds the only injected flip, of one bit, where no bank has an error. -/
theorem execSramAnnealPass_one {b r w : Nat} (hup : s.mainUp = true) (hen : s.flag Reg.VLT_ANNEAL_EN = true)
    (hflips : s.vlt.flips = [(b, r, w, 1)]) (hbanks : s.vlt.banks = []) :
    execSramAnnealPass s = .next (s.unflipped.asInjected (fun s => s.wordCorrected b r w)) := by
  have hne : BankSt.dflt.noted r w ≠ BankSt.dflt := fun h =>
    List.cons_ne_nil _ _ (congrArg BankSt.correctable ((BankSt.noted_dflt r w).symm.trans h))
  obtain ⟨tick, flt, hframe⟩ := s.flipFound_frame b r w
  have hfew : ∀ x ∈ (s.unflipped.asInjected (fun s => s.wordCorrected b r w)).vlt.banks, ∀ y ∈ x.2.correctable, y.2.length < 4 := by
    rw [hframe, hbanks, SMap.modify_nil b hne, BankSt.noted_dflt]
    simp
  have hrun : execSramAnnealPass s = .next ((s.unflipped.asInjected (fun s => s.wordCorrected b r w)).rowsRepaired
      (s.unflipped.asInjected (fun s => s.wordCorrected b r w)).vlt.banks) := by
    simp only [execSramAnnealPass, hup, hen, hflips, Bool.not_true, Bool.or_self, Bool.false_eq_true, if_false]
    rfl
  rw [hrun, State.rowsRepaired_few hfew]

end

/-! ## The words of VAULT_STATS (Table 10-8) -/

/-- The index at control address `a` of a field of the register map. -/
def fieldAtAddr (a : Nat) (x : Field × Nat) : Option (Field × Nat) :=
  let base := x.1.ss * 0x1000000 + x.1.off
  if a < base then none
  else if x.1.stride = 0 then (if a = base then some (x.1, 0) else none)
  else if (a - base) % x.1.stride = 0 ∧ (a - base) / x.1.stride < x.2 then some (x.1, (a - base) / x.1.stride)
  else none

theorem fieldsAt_eq (a : Nat) : fieldsAt a = regMap.filterMap (fieldAtAddr a) := rfl

/-- A list of which one element alone has an image. -/
theorem filterMap_of_only {α β : Type} {f : α → Option β} {l : List α} {k : Nat} {x : α} {y : β} (hx : l[k]? = some x) (hy : f x = some y)
    (hbefore : (l.take k).all (fun z => (f z).isNone) = true) (hafter : (l.drop (k + 1)).all (fun z => (f z).isNone) = true) :
    l.filterMap f = [y] := by
  have hnone {m : List α} (h : m.all (fun z => (f z).isNone) = true) : m.filterMap f = [] :=
    List.filterMap_eq_nil_iff.2 fun z hz => Option.isNone_iff_eq_none.1 (List.all_eq_true.1 h z hz)
  obtain ⟨hk, rfl⟩ := List.getElem?_eq_some_iff.1 hx
  rw [← List.take_append_drop k l, List.filterMap_append, hnone hbefore, List.drop_eq_getElem_cons hk, List.filterMap_cons, hy, hnone hafter]
  rfl

set_option maxRecDepth 20000 in
/-- The word of VLT_CNT_UNCORR holds that field alone. -/
theorem fieldsAt_cntUncorr : fieldsAt 0x0C000128 = [(Reg.VLT_CNT_UNCORR, 0)] := by
  have hx : regMap[164]? = some (Reg.VLT_CNT_UNCORR, 1) := rfl
  have hy : fieldAtAddr 0x0C000128 (Reg.VLT_CNT_UNCORR, 1) = some (Reg.VLT_CNT_UNCORR, 0) := by simp [fieldAtAddr, Reg.VLT_CNT_UNCORR]
  rw [fieldsAt_eq]
  exact filterMap_of_only hx hy (by decide) (by decide)

theorem State.word_cntUncorr (s : State) : s.word 0x0C000128 = s.get Reg.VLT_CNT_UNCORR % 2 ^ 32 := by
  have hword : s.word 0x0C000128 = (fieldsAt 0x0C000128).foldl (fun w x => w + s.val x.1 x.2 * 2 ^ x.1.lsb) 0 := rfl
  have hval : s.val Reg.VLT_CNT_UNCORR = s.get Reg.VLT_CNT_UNCORR % 2 ^ 32 := rfl
  rw [hword, fieldsAt_cntUncorr, ← hval]
  simp [Reg.VLT_CNT_UNCORR]

/-- A page's 2,176 bytes (Table 10-2). -/
theorem State.length_rawPage (s : State) (n : Nat) : (s.rawPage n).length = 2176 := by
  unfold State.rawPage
  extract_lets p c b
  split
  · exact List.length_replicate
  · simp [b]

/-! ## The vault's commands (R454) -/

/-- Rows of one length, side by side. -/
theorem length_flatten_map {α : Type} {f : α → Bytes} {n : Nat} (hlen : ∀ a, (f a).length = n) (l : List α) :
    (l.map f).flatten.length = n * l.length := by
  simp [List.length_flatten, Function.comp_def, hlen, Nat.mul_comm]

theorem CmdSpec.recorded_wf (c : CmdSpec) (h : Hdr) (p : Bytes) {s : State} (hwf : SMap.wf s.regs) : SMap.wf (c.recorded h p s).regs :=
  State.record_wf _ _ _ _ hwf

/-- VAULT_INFO's reply. -/
theorem specVaultInfo_run (h : Hdr) (p : Bytes) (s : State) : specVaultInfo.run h p s =
    .done (leBytes 4 (s.get Reg.VLT_STATUS_RESERVE_FREE) ++ (leBytes 4 (s.get Reg.VLT_UNALLOC_FREE) ++ (leBytes 4 (s.get Reg.VLT_PC_FAILED) ++
      (List.range 11).map (fun i => byte (s.vlt.strengths.getD (i + 1) 0))))) s := by
  simp only [specVaultInfo, List.append_assoc]

/-- VAULT_PAGE_READ of a page in the Crucible reads nothing from the stack: no bit is found in error. -/
theorem specVaultPageRead_run_buffered {p : Bytes} {s : State} (hcru : s.inCrucible (p32 p 0) = true) (h : Hdr) :
    ∃ fl, specVaultPageRead.run h p s =
      .done (leBytes 4 (s.physOf (p32 p 0)) ++ (leBytes 2 0 ++ ([byte fl, 0] ++ s.rawPage (p32 p 0)))) s := by
  have hload := State.loadPage_served (s := s) (n := p32 p 0) (by simp [hcru]) (.inr hcru) 0
  simp only [specVaultPageRead, hload, Nat.sub_self, List.append_assoc]
  exact ⟨_, rfl⟩

/-- VAULT_RETIRE of a page that has a target and is not lost retires it. -/
theorem specVaultRetire_run_target {p : Bytes} {s : State} {k : Nat} (htarget : s.retireTarget (p32 p 0) = some k)
    (hlost : s.pageLost (p32 p 0) = false) (h : Hdr) : specVaultRetire.run h p s = .done [] (s.retirePage (p32 p 0) false) := by
  simp only [specVaultRetire, htarget, hlost, Option.isNone_some, Bool.false_eq_true, if_false, Bool.false_and]

end Sys2Proof.Machine

namespace Sys2Proof.Claims

open Sys2Proof.Machine

/-! ## O46, clause by clause -/

section
variable {s : State} {n bits : Nat}

/-- R434: Anneal reads the next formed page and moves on. -/
theorem annealRead_moves (hregs : SMap.wf s.regs) (hpages : SMap.wf s.vlt.pages) (hup : s.mainUp = true)
    (hen : s.flag Reg.VLT_ANNEAL_EN = true) (hnext : s.annealNext = some n) (hcru : s.inCrucible n = false)
    (hclean : (s.page n).errBits + bits + s.injectedBits n = 0) :
    ∃ t, exec (.annealRead bits) s = .next t ∧ t = { s with regs := t.regs, vlt := t.vlt } ∧ t.vlt.annealPos = n + 1 ∧
      t.get Reg.VLT_ANNEAL_STATUS_PROGRESS = 256 * (n + 1) / logicalPages % 256 ∧ (t.page n).anneal = 0 ∧
      (t.page n).bytes = (s.page n).bytes := by
  have hpage : ((s.annealed n).modPage n (fun p => { p with anneal := 0 })).page n = { s.page n with anneal := 0 } :=
    State.page_modPage_self (s := s.annealed n) hpages n _
  have hprogress : (s.annealed n).get Reg.VLT_ANNEAL_STATUS_PROGRESS = 256 * (n + 1) / logicalPages % 2 ^ 8 :=
    State.get_set_self _ Reg.VLT_ANNEAL_STATUS_PROGRESS 0 _ hregs
  refine ⟨_, execAnnealRead_clean hup hen hnext hcru hclean, rfl, rfl, hprogress, ?_, ?_⟩
  · rw [hpage]
  · rw [hpage]
    exact VPage.bytes_congr rfl rfl

/-- R433, R434: with no formed page left the pass counts and starts over. -/
theorem annealRead_starts_over (hregs : SMap.wf s.regs) (hup : s.mainUp = true) (hen : s.flag Reg.VLT_ANNEAL_EN = true)
    (hnext : s.annealNext = none) :
    ∃ t, exec (.annealRead bits) s = .next t ∧ t = { s with regs := t.regs, vlt := t.vlt } ∧ t.vlt.annealPos = 0 ∧
      t.get Reg.VLT_ANNEAL_STATUS_PASSES = (s.get Reg.VLT_ANNEAL_STATUS_PASSES + 1) % 65536 ∧
      t.get Reg.VLT_ANNEAL_STATUS_PROGRESS = 0 := by
  refine ⟨_, execAnnealRead_ends hup hen hnext bits, rfl, rfl, ?_, ?_⟩
  · rw [State.get_set_ne _ _ _ _ _ _ (by decide), State.get_bump_self (s := s.passEnded) hregs]
    rfl
  · exact State.get_set_self _ Reg.VLT_ANNEAL_STATUS_PROGRESS 0 0 (State.wf_bump (s := s.passEnded) hregs ..)

/-- R440, R441: the first failed pseudo-channel is recorded; the pages of its channel are lost. -/
theorem pseudoChannelFailure_first {i : Fin 32} (hregs : SMap.wf s.regs) (hup : s.mainUp = true) (hpc : s.get Reg.VLT_PC_FAILED = 0)
    (hcru : s.vlt.crucible = []) :
    ∃ t, exec (.pseudoChannelFailure i) s = .next t ∧ t = { s with regs := t.regs, vlt := t.vlt, jnl := t.jnl, flt := t.flt } ∧
      t.get Reg.VLT_PC_FAILED = 2 ^ i.val ∧ (∃ e ∈ t.flt.waiting, e.src = 0x0C00 + i.val) ∧
      (∀ n, n ∈ s.vlt.pages.map Prod.fst → (pageChannels (s.physOf n)).contains (i.val / 2) = true → t.pageLost n = true) := by
  have hexec : exec (.pseudoChannelFailure i) s = .next (s.failPc i.val) := congrArg Host.Outcome.next (if_pos hup)
  have hfailed : (s.pcFailed i.val).get Reg.VLT_PC_FAILED = 2 ^ i.val := by
    have hstored := s.get_set_self Reg.VLT_PC_FAILED 0 (s.get Reg.VLT_PC_FAILED ||| 2 ^ i.val) hregs
    rw [hpc, Nat.zero_or] at hstored
    rw [State.pcFailed, hpc, Nat.zero_or, State.get_congr (State.journal_regs ..), hstored]
    exact Nat.mod_eq_of_lt (Nat.pow_lt_pow_right (by decide) i.isLt)
  have hevent := ((s.pcFailed i.val).waits_report (0x0C00 + i.val) (if unmirroredOn (i.val / 2) then contained else corrected) 0
    [byte i.val] []).event
  obtain ⟨pages, hfail⟩ := State.failPc_first hpc hcru i.val
  have hget : (s.failPc i.val).get Reg.VLT_PC_FAILED = 2 ^ i.val := by
    rw [State.get_congr (s := s.pcFailed i.val) (by rw [hfail]; rfl), hfailed]
  have hphys (n : Nat) : (s.failPc i.val).physOf n = s.physOf n := State.physOf_congr (by rw [hfail]) n
  refine ⟨_, hexec, ?_, hget, ?_, fun n _ hmem => ?_⟩
  · rw [hfail]
    rfl
  · obtain ⟨e, he, hsrc, -⟩ := hevent
    rw [hfail]
    exact ⟨e, he, hsrc⟩
  · exact State.pageLost_of_channel ((hphys n).symm ▸ hmem) (by rw [State.channelFailed_one hget, decide_eq_true rfl])

/-- R443: a pseudo-channel of a second channel. -/
theorem pseudoChannelFailure_second {i j : Fin 32} (hup : s.mainUp = true) (hpc : s.get Reg.VLT_PC_FAILED = 2 ^ j.val)
    (hne : j.val / 2 ≠ i.val / 2) :
    ∃ t, exec (.pseudoChannelFailure i) s = .next t ∧ t = { s with regs := t.regs, jnl := t.jnl, flt := t.flt } ∧
      (∃ e ∈ t.flt.waiting, e.src = 0x0C3F ∧ e.cls = 3) := by
  have hexec : exec (.pseudoChannelFailure i) s = .next (s.failPc i.val) := congrArg Host.Outcome.next (if_pos hup)
  rw [State.failPc_second hpc j.isLt hne] at hexec
  exact ⟨_, hexec, rfl, (State.waits_report ..).event⟩

/-- R444: a word with a correctable error counts and is noted in its row. -/
theorem sramWordError_correctable {b : Fin 512} {r : Fin 1024} {w : Fin 32} {o : SramOwner} (hregs : SMap.wf s.regs)
    (hbanks : SMap.wf s.vlt.banks) (hrows : SMap.wf (s.bank b.val).correctable) (hup : s.mainUp = true) :
    ∃ t, exec (.sramWordError b r w .correctable o) s = .next t ∧ t = { s with regs := t.regs, vlt := t.vlt, flt := t.flt } ∧
      t.get Reg.VLT_CNT_SRAM_CORR = (s.get Reg.VLT_CNT_SRAM_CORR + 1) % 2 ^ 32 ∧
      w.val ∈ SMap.get (t.bank b.val).correctable r.val [] := by
  have hexec : exec (.sramWordError b r w .correctable o) s = .next (s.wordCorrected b.val r.val w.val) :=
    congrArg Host.Outcome.next (if_neg (by simp [hup]))
  obtain ⟨tick, flt, hframe⟩ := s.wordCorrected_frame b.val r.val w.val
  refine ⟨_, hexec, ?_, ?_, ?_⟩
  · rw [hframe]
  · rw [State.get_congr (s := s.bump Reg.VLT_CNT_SRAM_CORR 0) (by rw [hframe]), State.get_bump_self hregs]
    rfl
  · rw [State.bank_congr (s := s.modBank b.val (·.noted r.val w.val)) (by rw [hframe]), State.bank_modBank_self hbanks]
    exact BankSt.mem_noted hrows r.val w.val

/-- R445: a word with an uncorrectable error counts, and its row is replaced at once. -/
theorem sramWordError_uncorrectable {b : Fin 512} {r : Fin 1024} {w : Fin 32} (hregs : SMap.wf s.regs) (hbanks : SMap.wf s.vlt.banks)
    (hup : s.mainUp = true) (hroom : (s.bank b.val).sparedRows.length < 16) :
    ∃ t, exec (.sramWordError b r w .uncorrectable .other) s = .next t ∧
      t = { s with regs := t.regs, vlt := t.vlt, jnl := t.jnl, flt := t.flt } ∧
      t.get Reg.VLT_CNT_SRAM_UNCORR = (s.get Reg.VLT_CNT_SRAM_UNCORR + 1) % 2 ^ 32 ∧
      (t.bank b.val).sparedRows = (s.bank b.val).sparedRows ++ [r.val] := by
  have hexec : exec (.sramWordError b r w .uncorrectable .other) s = .next ((s.bump Reg.VLT_CNT_SRAM_UNCORR 0).spareRow b.val r.val) :=
    congrArg Host.Outcome.next (if_neg (by simp [hup]))
  obtain ⟨jnl, flt, hframe, -⟩ := State.spareRow_free (s := s.bump Reg.VLT_CNT_SRAM_UNCORR 0) hroom r.val
  rw [hframe] at hexec
  have hbank := State.bank_modBank_self (s := s.bump Reg.VLT_CNT_SRAM_UNCORR 0) hbanks b.val (·.spared r.val)
  have hother := State.get_bump_ne (s.bump Reg.VLT_CNT_SRAM_UNCORR 0) (f := Reg.VLT_SRAM_STATUS_ROWS_USED) (g := Reg.VLT_CNT_SRAM_UNCORR)
    (i := 0) (j := 0) (by decide) 1
  have hcount := State.get_bump_self hregs Reg.VLT_CNT_SRAM_UNCORR 0 1
  exact ⟨_, hexec, rfl, hother.trans hcount, congrArg BankSt.sparedRows hbank⟩

/-- R446: a row with four words in error is replaced. -/
theorem sramRowRepair_spares {b : Fin 512} {r : Fin 1024} (hregs : SMap.wf s.regs) (hbanks : SMap.wf s.vlt.banks)
    (hfour : 4 ≤ (SMap.get (s.bank b.val).correctable r.val []).length) (hroom : (s.bank b.val).sparedRows.length < 16) :
    ∃ t, exec (.sramRowRepair b r) s = .next t ∧ t = { s with regs := t.regs, vlt := t.vlt, jnl := t.jnl, flt := t.flt } ∧
      (t.bank b.val).sparedRows = (s.bank b.val).sparedRows ++ [r.val] ∧
      t.get Reg.VLT_SRAM_STATUS_ROWS_USED = (s.get Reg.VLT_SRAM_STATUS_ROWS_USED + 1) % 2 ^ 14 ∧
      (∃ e ∈ t.flt.waiting, e.src = 0x0C50 ∧ e.cls = 1) := by
  have hexec : exec (.sramRowRepair b r) s = .next (s.spareRow b.val r.val) := congrArg Host.Outcome.next (if_pos hfour)
  obtain ⟨jnl, flt, hframe, hwaits⟩ := State.spareRow_free hroom r.val
  rw [hframe] at hexec hwaits
  have hbank := State.bank_modBank_self hbanks b.val (·.spared r.val)
  exact ⟨_, hexec, rfl, congrArg BankSt.sparedRows hbank, State.get_bump_self hregs Reg.VLT_SRAM_STATUS_ROWS_USED 0 1, hwaits.event⟩

/-- R446: the seventeenth row of a bank asks for a spare bank. -/
theorem sramRowRepair_copies {b : Fin 512} {r : Fin 1024} (hregs : SMap.wf s.regs) (hbanks : SMap.wf s.vlt.banks)
    (hfour : 4 ≤ (SMap.get (s.bank b.val).correctable r.val []).length) (hfull : 16 ≤ (s.bank b.val).sparedRows.length)
    (hidle : (s.bank b.val).copying = false) (hspare : 0 < s.get Reg.VLT_SRAM_STATUS_SPARE_BANKS_FREE) :
    ∃ t, exec (.sramRowRepair b r) s = .next t ∧ t = { s with regs := t.regs, vlt := t.vlt } ∧ (t.bank b.val).copying = true ∧
      t.get Reg.VLT_SRAM_STATUS_SPARE_BANKS_FREE = (s.get Reg.VLT_SRAM_STATUS_SPARE_BANKS_FREE - 1) % 16 := by
  have hexec : exec (.sramRowRepair b r) s = .next (s.spareRow b.val r.val) := congrArg Host.Outcome.next (if_pos hfour)
  rw [State.spareRow_bank hfull hidle hspare] at hexec
  have hbank := State.bank_modBank_self (s := s.set Reg.VLT_SRAM_STATUS_SPARE_BANKS_FREE 0 (s.get Reg.VLT_SRAM_STATUS_SPARE_BANKS_FREE - 1))
    hbanks b.val (fun x => { x with copying := true })
  have hstored := s.get_set_self Reg.VLT_SRAM_STATUS_SPARE_BANKS_FREE 0 (s.get Reg.VLT_SRAM_STATUS_SPARE_BANKS_FREE - 1) hregs
  exact ⟨_, hexec, rfl, congrArg BankSt.copying hbank, hstored⟩

/-- R446: at the end of its copy the spare bank takes over, with no repaired row. -/
theorem sramBankCopyEnd_takesOver {b : Fin 512} (hbanks : SMap.wf s.vlt.banks) (hcopy : (s.bank b.val).copying = true) :
    ∃ t, exec (.sramBankCopyEnd b) s = .next t ∧ t = { s with vlt := t.vlt, jnl := t.jnl, flt := t.flt } ∧
      t.bank b.val = { sparedRows := [], correctable := [], copying := false, replaced := (s.bank b.val).replaced + 1 } ∧
      (∃ e ∈ t.flt.waiting, e.src = 0x0C51 ∧ e.cls = 1) := by
  have hexec : exec (.sramBankCopyEnd b) s = .next (((s.modBank b.val BankSt.renewed).journal
      (.sramBank b.val ((s.bank b.val).replaced + 1))).report 0x0C51 corrected 0 (leBytes 2 b.val)) :=
    congrArg Host.Outcome.next (if_pos hcopy)
  exact ⟨_, hexec, rfl, State.bank_modBank_self hbanks b.val BankSt.renewed, (State.waits_report ..).event⟩

/-- R448: the SRAM pass finds the only injected flip, of one bit. -/
theorem sramAnnealPass_finds {b r w : Nat} (hregs : SMap.wf s.regs) (hup : s.mainUp = true) (hen : s.flag Reg.VLT_ANNEAL_EN = true)
    (hflips : s.vlt.flips = [(b, r, w, 1)]) (hbanks : s.vlt.banks = []) :
    ∃ t, exec .sramAnnealPass s = .next t ∧ t = { s with regs := t.regs, vlt := t.vlt, flt := t.flt } ∧ t.vlt.flips = [] ∧
      t.get Reg.VLT_CNT_SRAM_CORR = (s.get Reg.VLT_CNT_SRAM_CORR + 1) % 2 ^ 32 := by
  have hexec := execSramAnnealPass_one hup hen hflips hbanks
  obtain ⟨tick, flt, hframe⟩ := s.flipFound_frame b r w
  rw [hframe] at hexec
  exact ⟨_, hexec, rfl, rfl, State.get_bump_self hregs Reg.VLT_CNT_SRAM_CORR 0 1⟩

/-- R454: VAULT_INFO answers the free reserve pages, the failed pseudo-channels and the strengths. -/
theorem vaultInfo_reads : Reads .vaultInfo 0xC700 .observe 0 always (fun _ _ s b => b.length = 23 ∧
    fieldAt b 0 4 = s.get Reg.VLT_STATUS_RESERVE_FREE % 2 ^ 32 ∧ fieldAt b 8 4 = s.get Reg.VLT_PC_FAILED % 2 ^ 32) := by
  intro h p s hop hpriv hlen _
  have hr : Reached specVaultInfo h p s := reached hop hpriv hlen rfl rfl
  have hreserve := specVaultInfo.recorded_get h p s Reg.VLT_STATUS_RESERVE_FREE 0 (by decide)
  have hfailed := specVaultInfo.recorded_get h p s Reg.VLT_PC_FAILED 0 (by decide)
  refine ⟨_, ⟨?_, ?_, ?_⟩, hr.done (specVaultInfo_run h p _)⟩
  · simp
  · rw [fieldAt_leBytes_zero, hreserve]
    rfl
  · rw [fieldAt_append_right 4 (by simp), fieldAt_append_right 0 (by simp), fieldAt_leBytes_zero, hfailed]
    rfl

/-- VAULT_PAGE_READ of a page in the Crucible finds no bit in error (Table 10-2). -/
theorem vaultPageRead_reads {h : Hdr} {p : Bytes} (hop : Operating s) (hpriv : Privileged .admin h s) (hlen : p.length = 4)
    (hpage : p32 p 0 < logicalPages) (hcru : s.inCrucible (p32 p 0) = true) :
    ∃ b, exec (.vaultPageRead h p) s = .next (answered 0xC701 stSuccess h s b (request 0xC701 .admin h p s)) ∧ b.length = 2184 ∧
      fieldAt b 0 4 = s.physOf (p32 p 0) % 2 ^ 32 ∧ fieldAt b 4 2 = 0 := by
  have hr : Reached specVaultPageRead h p s := reached hop hpriv hlen rfl (by simp [specVaultPageRead, firstBad, need, hpage])
  have hbuffer : (specVaultPageRead.recorded h p s).inCrucible (p32 p 0) = true :=
    (State.inCrucible_congr (by rw [CmdSpec.recorded_vlt]) _).trans hcru
  obtain ⟨fl, hrun⟩ := specVaultPageRead_run_buffered hbuffer h
  have hphys : (specVaultPageRead.recorded h p s).physOf (p32 p 0) = s.physOf (p32 p 0) :=
    State.physOf_congr (by rw [CmdSpec.recorded_vlt]) _
  rw [hphys] at hrun
  refine ⟨_, hr.done hrun, ?_, ?_, ?_⟩
  · simp [State.length_rawPage]
  · exact fieldAt_leBytes_zero 4 _ _
  · rw [fieldAt_append_right 0 (by simp), fieldAt_leBytes_zero, Nat.zero_mod]

/-- VAULT_STRENGTH_SET writes and journals the region's strength. -/
theorem vaultStrengthSet_does : Does .vaultStrengthSet 0xC702 .admin 2 (fun _ p _ => 1 ≤ p8 p 0 ∧ p8 p 0 ≤ 11 ∧ p8 p 1 < 6)
    (fun _ p s => s.setJ Reg.VLT_REGION_CFG_STRENGTH (p8 p 0) (p8 p 1)) := by
  intro h p s hop hpriv hlen hgood
  obtain ⟨hmin, hmax, hcode⟩ := hgood
  have hr : Reached specVaultStrengthSet h p s := reached hop hpriv hlen rfl (by
    simp [specVaultStrengthSet, firstBad, need, hmin, hmax, hcode])
  exact hr.done rfl

/-- VAULT_ANNEAL_CTL writes its settings; without the start bit no pass begins. -/
theorem vaultAnnealCtl_does : Does .vaultAnnealCtl 0xC703 .operate 5
    (fun _ p _ => 60 ≤ p16 p 0 ∧ p16 p 0 ≤ 10080 ∧ 1 ≤ p16 p 2 ∧ p16 p 2 ≤ 3600 ∧ (p8 p 4 = 0 ∨ p8 p 4 = 1))
    (fun _ p s => ((s.setJ Reg.VLT_ANNEAL_PERIOD_MIN 0 (p16 p 0)).setJ Reg.VLT_ANNEAL_SRAM_S 0 (p16 p 2)).setJ Reg.VLT_ANNEAL_EN 0 (p8 p 4)) := by
  intro h p s hop hpriv hlen hgood
  obtain ⟨hmin, hmax, hsmin, hsmax, hen⟩ := hgood
  have hbound : p8 p 4 < 4 := by omega
  have hr : Reached specVaultAnnealCtl h p s := reached hop hpriv hlen rfl (by
    simp [specVaultAnnealCtl, firstBad, need, hmin, hmax, hsmin, hsmax, hbound])
  have hbit : p8 p 4 % 2 = p8 p 4 := by omega
  have hstart : bitOf (p8 p 4) 1 = false := by rcases hen with he | he <;> rw [he] <;> rfl
  exact hr.done (by simp only [specVaultAnnealCtl, hbit, hstart, Bool.false_eq_true, if_false]; rfl)

/-- R439: VAULT_RETIRE retires its page. -/
theorem vaultRetire_retires {h : Hdr} {p : Bytes} {k : Nat} (hregs : SMap.wf s.regs) (hop : Operating s) (hpriv : Privileged .admin h s)
    (hlen : p.length = 4) (hpage : p32 p 0 < logicalPages) (htarget : s.retireTarget (p32 p 0) = some k)
    (hlost : s.pageLost (p32 p 0) = false) :
    ∃ t, exec (.vaultRetire h p) s = .next (answered 0xC704 stSuccess h s [] t) ∧ t.physOf (p32 p 0) = k ∧
      t.get Reg.VLT_CNT_RETIRED = (s.get Reg.VLT_CNT_RETIRED + 1) % 2 ^ 32 := by
  have hr : Reached specVaultRetire h p s := reached hop hpriv hlen rfl (by simp [specVaultRetire, firstBad, need, hpage])
  have htarget' : (specVaultRetire.recorded h p s).retireTarget (p32 p 0) = some k := by
    rw [State.retireTarget_congr (specVaultRetire.recorded_vlt h p s ▸ rfl) (specVaultRetire.recorded_get h p s _ _ (by decide)), htarget]
  have hretired := State.retirePage_retires (specVaultRetire.recorded_wf h p hregs) htarget' false
  refine ⟨_, hr.done (specVaultRetire_run_target htarget' (by simpa using hlost) h), hretired.physOf, ?_⟩
  rw [hretired.count, specVaultRetire.recorded_get h p s _ _ (by decide)]

/-- VAULT_RETIRED_READ answers eight bytes for each retirement record from the index on. -/
theorem vaultRetiredRead_reads : Reads .vaultRetiredRead 0xC705 .observe 6 (fun _ p _ => 1 ≤ p16 p 4 ∧ p16 p 4 ≤ 512)
    (fun _ p s b => b.length = 8 * min (p16 p 4) (s.vlt.remaps.length - p32 p 0)) := by
  intro h p s hop hpriv hlen hgood
  have hr : Reached specVaultRetiredRead h p s := reached hop hpriv hlen rfl (by
    simp [specVaultRetiredRead, firstBad, need, hgood])
  refine ⟨_, ?_, hr.done rfl⟩
  refine (length_flatten_map (n := 8) (fun _ => by simp) _).trans ?_
  simp

/-- VAULT_STATS answers seven words, the third the uncorrectable pages. -/
theorem vaultStats_reads : Reads .vaultStats 0xC706 .observe 0 always (fun _ _ s b => b.length = 28 ∧
    fieldAt b 8 4 = s.get Reg.VLT_CNT_UNCORR % 2 ^ 32) := by
  intro h p s hop hpriv hlen _
  have hr : Reached specVaultStats h p s := reached hop hpriv hlen rfl rfl
  refine ⟨_, ⟨?_, ?_⟩, hr.done rfl⟩
  · simp
  · have hword := fieldAt_fieldRow 4 (fun k => (specVaultStats.recorded h p s).word (0x0C000120 + 4 * k)) (m := 6) (i := 2) (by decide)
    rw [fieldAt_append_left (by simp)]
    refine hword.trans ?_
    rw [State.word_cntUncorr, specVaultStats.recorded_get h p s _ _ (by decide)]
    exact Nat.mod_mod _ _

end

/-- Settles O46: the lemmas above, one for each clause. -/
theorem vaultUpkeep : Obligations.VaultUpkeep :=
  ⟨fun _ _ _ hregs hpages hup hen hnext _ => annealRead_moves hregs hpages hup hen hnext, fun _ _ => annealRead_starts_over,
    fun _ hen hrun => congrArg Host.Outcome.next (if_pos (by rw [hen, hrun]; rfl)),
    fun _ _ => pseudoChannelFailure_first, fun _ _ _ _ => pseudoChannelFailure_second,
    fun _ _ _ _ _ => sramWordError_correctable, fun _ _ _ _ => sramWordError_uncorrectable, fun _ _ _ => sramRowRepair_spares,
    fun _ _ _ => sramRowRepair_copies, fun _ _ => sramBankCopyEnd_takesOver, fun _ _ _ _ => sramAnnealPass_finds,
    vaultInfo_reads, fun _ _ _ _ => vaultPageRead_reads, vaultStrengthSet_does, vaultAnnealCtl_does, fun _ _ _ _ => vaultRetire_retires,
    vaultRetiredRead_reads, vaultStats_reads⟩

end Sys2Proof.Claims

section
/-! The proofs below are elaborated one after the other: a thread for each of them, beside those of the text above, asks for more memory
than the compile of the whole text has. -/

set_option Elab.async false

namespace Sys2Proof.Machine

/-! ## Packets that are not accepted (R459) -/

/-- A packet on any transport but the mailbox's own is received by a powered module. -/
theorem exec_commandPacketReceive {s : State} {r : Requester} (hon : s.clk.phase ≠ .off) (hmbx : r.transport ≠ .mailbox)
    (ses : Option Nat) (k : Bytes) : exec (.commandPacketReceive r ses k) s = .next (s.receive r ses k) :=
  congrArg Host.Outcome.next (if_neg (by simp [hon, hmbx]))

/-- I3C and SMBus are not the mailbox. -/
theorem ne_mailbox_of_wired {x : Transport} (h : transportWired x = true) : x ≠ .mailbox := by
  rintro rfl
  exact absurd h (by decide)

/-- The answer to a packet that is not accepted leaves by the wire it came on. -/
theorem State.reject_wired {r : Requester} (hwired : transportWired r.transport = true) (s : State) (ses : Option Nat) (k : Bytes)
    (status : Nat) (reply : Bytes) :
    s.reject r ses k status reply = s.emit (.packet r ses (mkPacket 1 (pktOpcode k) (pktTag k) (pktContext k) status reply)) := by
  unfold State.reject State.sendPacket
  split
  next h => exact absurd h (ne_mailbox_of_wired hwired)
  next h => rw [h] at hwired; exact absurd hwired (by simp [transportWired])
  next => rfl

/-- A packet whose framing fails answers the status of the first failure. -/
theorem State.receive_unframed {k : Bytes} {st : Nat} (hframe : framing k = some st) (s : State) (r : Requester) (ses : Option Nat) :
    s.receive r ses k = s.reject r ses k st (if st = stBadCheck then [] else offsetReply headerOffset) := by
  simp only [State.receive, hframe]

/-- A packet with an opcode that is not assigned answers BAD_OPCODE. -/
theorem State.receive_unassigned {k : Bytes} (hframe : framing k = none) (hop : opPriv (pktOpcode k) = none) (s : State) (r : Requester)
    (ses : Option Nat) : s.receive r ses k = s.reject r ses k stBadOpcode [] := by
  simp only [State.receive, hframe, hop]

theorem framing_badLength {k : Bytes} (h : k.length ≠ 20 + roundUp (pktPlen k) 4 ∨ 4096 < pktPlen k) : framing k = some stBadLength :=
  if_pos h

section
variable {k : Bytes} (hlen : k.length = 20 + roundUp (pktPlen k) 4) (hmax : pktPlen k ≤ 4096)
include hlen hmax

/-- A packet of the right length is checked further. -/
theorem framing_of_length : framing k =
    if leNat (k.drop (k.length - 4)) ≠ (crc32c (k.take (k.length - 4))).toNat then some stBadCheck
    else if fieldAt k 0 1 ≠ 1 ∨ bitsOf (pktFlags k) 0 2 ≠ 0 ∨ bitsOf (pktFlags k) 4 4 ≠ 0 ∨ fieldAt k 12 4 ≠ 0 then some stBadParam
    else none :=
  if_neg (by omega)

theorem framing_badCheck (hcrc : leNat (k.drop (k.length - 4)) ≠ (crc32c (k.take (k.length - 4))).toNat) : framing k = some stBadCheck :=
  (framing_of_length hlen hmax).trans (if_pos hcrc)

/-- A header with another version, or with a RESPONSE or EVENT flag, is bad. -/
theorem framing_badHeader (hcrc : leNat (k.drop (k.length - 4)) = (crc32c (k.take (k.length - 4))).toNat)
    (hhead : fieldAt k 0 1 ≠ 1 ∨ bitOf (pktFlags k) 0 = true ∨ bitOf (pktFlags k) 1 = true) : framing k = some stBadParam := by
  have hflags : fieldAt k 0 1 ≠ 1 ∨ bitsOf (pktFlags k) 0 2 ≠ 0 := by
    simp only [bitOf, beq_iff_eq] at hhead
    simp only [bitsOf]
    omega
  rw [framing_of_length hlen hmax, if_neg (not_not.2 hcrc), if_pos (by tauto)]

end

/-! ## Commands that fail a check (R459) -/

section
variable (c : CmdSpec) {h : Hdr} {p : Bytes} {s : State}

/-- Step 5 of R459. -/
theorem CmdSpec.outcome_denied (hmay : s.mayIssue c h p = false) : c.outcome h p s = .fail stDenied :=
  if_pos (by simp [hmay])

/-- Step 6 of R459. -/
theorem CmdSpec.outcome_locked (hmay : s.mayIssue c h p = true) (hdeny : c.deny h p s = false)
    (hlocks : c.locks p s = true) (hlocked : s.flag Reg.HLM_STATUS_LOCKED = true) : c.outcome h p s = .fail stLocked := by
  refine (if_neg ?_).trans (if_pos ?_)
  · simp [hmay, hdeny]
  · simp [hlocks, hlocked]

/-- Step 8 of R459. -/
theorem CmdSpec.outcome_unserved (hmay : s.mayIssue c h p = true) (hdeny : c.deny h p s = false)
    (hopen : s.flag Reg.HLM_STATUS_LOCKED = false) (hcheck : c.check h p s = none) (hserve : s.serves c h = false) :
    c.outcome h p s = .fail stConflict := by
  refine (if_neg ?_).trans ((if_neg ?_).trans ?_)
  · simp [hmay, hdeny]
  · simp [hopen]
  · simp [hcheck, hserve]

end

end Sys2Proof.Machine

namespace Sys2Proof.Claims

open Sys2Proof.Machine

/-! ## O5, clause by clause -/

section
variable {r : Requester} {k : Bytes} {s : State} (hon : s.clk.phase ≠ .off) (hwired : transportWired r.transport = true)
include hon hwired

/-- Steps 1 to 3 of R459: a packet that is not framed is answered, and that is all. -/
theorem commandPacketReceive_unframed {st : Nat} (hframe : framing k = some st) (ses : Option Nat) :
    exec (.commandPacketReceive r ses k) s = .next (s.emit (.packet r ses (mkPacket 1 (pktOpcode k) (pktTag k) (pktContext k) st
      (if st = stBadCheck then [] else offsetReply headerOffset)))) := by
  rw [exec_commandPacketReceive hon (ne_mailbox_of_wired hwired), State.receive_unframed hframe, State.reject_wired hwired]

/-- Step 4 of R459. -/
theorem commandPacketReceive_unassigned (hframe : framing k = none) (hop : opPriv (pktOpcode k) = none) (ses : Option Nat) :
    exec (.commandPacketReceive r ses k) s =
      .next (s.emit (.packet r ses (mkPacket 1 (pktOpcode k) (pktTag k) (pktContext k) stBadOpcode []))) := by
  rw [exec_commandPacketReceive hon (ne_mailbox_of_wired hwired), State.receive_unassigned hframe hop, State.reject_wired hwired]

end

section
variable {i : Instr} {c : CmdSpec} {h : Hdr} {p : Bytes} {s : State} (hi : commandOf i = some (c, h, p)) (hon : s.clk.phase ≠ .off)
include hi hon

theorem exec_badLength {off : Nat} (hlen : c.len p = some off) :
    exec i s = .next (answered c.opcode stBadLength h s (offsetReply off) (request c.opcode c.priv h p s)) :=
  (exec_of_commandOf hi s).trans (c.direct_badLength hon hlen)

/-- A command whose checks or whose work fail leaves its two records and its answer. -/
theorem exec_fail {st : Nat} (hlen : c.len p = none) (hout : c.outcome h p (request c.opcode c.priv h p s) = .fail st) :
    exec i s = .next (answered c.opcode st h s [] (request c.opcode c.priv h p s)) :=
  (exec_of_commandOf hi s).trans (c.direct_fail hon hlen hout)

theorem exec_bad {off : Nat} (hlen : c.len p = none) (hout : c.outcome h p (request c.opcode c.priv h p s) = .bad off) :
    exec i s = .next (answered c.opcode stBadParam h s (offsetReply off) (request c.opcode c.priv h p s)) :=
  (exec_of_commandOf hi s).trans (c.direct_bad hon hlen hout)

end

/-- Settles O5: the framing checks in their order, then the branches of `CmdSpec.outcome`, one lemma each. -/
theorem checksInOrder : Obligations.ChecksInOrder :=
  ⟨fun _ ses _ _ hon hwired hlen => commandPacketReceive_unframed hon hwired (framing_badLength hlen) ses,
    fun _ ses _ _ hon hwired hlen hmax hcrc => commandPacketReceive_unframed hon hwired (framing_badCheck hlen hmax hcrc) ses,
    fun _ ses _ _ hon hwired hlen hmax hcrc hhead =>
      commandPacketReceive_unframed hon hwired (framing_badHeader hlen hmax hcrc hhead) ses,
    fun _ ses _ _ hon hwired hframe hop => commandPacketReceive_unassigned hon hwired hframe hop ses,
    fun _ _ _ _ _ _ hi hon hlen => exec_badLength hi hon hlen,
    fun _ c _ _ _ hi hon hlen hmay => exec_fail hi hon hlen (c.outcome_denied hmay),
    fun _ c _ _ _ hi hon hlen hmay hdeny hlocks hlocked => exec_fail hi hon hlen (c.outcome_locked hmay hdeny hlocks hlocked),
    fun _ c _ _ _ _ hi hon hlen hmay hdeny hopen hcheck => exec_bad hi hon hlen (c.outcome_bad hmay hdeny (by simp [hopen]) hcheck),
    fun _ c _ _ _ hi hon hlen hmay hdeny hopen hcheck hserve =>
      exec_fail hi hon hlen (c.outcome_unserved hmay hdeny hopen hcheck hserve),
    fun _ c _ _ _ _ hi hon hlen hmay hdeny hopen hcheck hserve hrun =>
      exec_fail hi hon hlen ((c.outcome_run hmay hdeny (by simp [hopen]) hcheck hserve).trans (by rw [hrun]))⟩

end Sys2Proof.Claims

namespace Sys2Proof.Machine

open Sys2Proof.Claims

/-! ## CRC-32C, bit by bit (R458) -/

/-- The lowest bit of a word. -/
def lowBit (b : Bool) : BitVec 32 := if b then 1 else 0

/-- One bit of the message enters the reflected remainder. -/
def crcFeed (c : BitVec 32) (b : Bool) : BitVec 32 := crcBit (c ^^^ lowBit b)

/-- Reflection by the bits it exchanges. -/
theorem reverse_eq_of_bits {x y : BitVec 32} (h : ∀ i < 32, x.getLsbD (31 - i) = y.getLsbD i) : x.reverse = y := by
  refine BitVec.eq_of_getLsbD_eq fun i hi => ?_
  rw [BitVec.getLsbD_reverse, BitVec.getMsbD_eq_getLsbD, ← h i hi]
  simp [hi]

theorem reverse_shiftLeft_one (c : BitVec 32) : (c <<< 1).reverse = c.reverse >>> 1 := by
  refine reverse_eq_of_bits fun i hi => ?_
  have hsub : 31 - i - 1 = 31 - (1 + i) := by omega
  simp only [BitVec.getLsbD_ushiftRight, BitVec.getLsbD_reverse, BitVec.getMsbD_eq_getLsbD, BitVec.getLsbD_shiftLeft, Nat.reduceSub, hsub]
  by_cases h : i = 31
  · simp [h]
  · simp [show 1 + i < 32 by omega, show 31 - i < 32 by omega, show ¬ 31 - i = 0 by omega]

theorem reverse_xor (c d : BitVec 32) : (c ^^^ d).reverse = c.reverse ^^^ d.reverse := by
  refine reverse_eq_of_bits fun i hi => ?_
  simp only [BitVec.getLsbD_xor, BitVec.getLsbD_reverse, BitVec.getMsbD_eq_getLsbD, hi, decide_true, Bool.true_and]

/-- The two forms of the polynomial. -/
theorem reverse_polynomial : (0x1EDC6F41#32).reverse = 0x82F63B78#32 := reverse_eq_of_bits (by decide)

theorem reverse_ones : (0xFFFFFFFF#32).reverse = 0xFFFFFFFF#32 := reverse_eq_of_bits (by decide)

/-- Reflection turns a step of the division into one of `crcFeed`. -/
theorem reverse_polyBit (c : BitVec 32) (b : Bool) : (polyBit c b).reverse = crcFeed c.reverse b := by
  have hbit : (c.reverse ^^^ lowBit b).getLsbD 0 = (c.getLsbD 31 != b) := by
    have hlow : (lowBit b).getLsbD 0 = b := by cases b <;> rfl
    simp only [BitVec.getLsbD_xor, BitVec.getLsbD_reverse, BitVec.getMsbD_eq_getLsbD, hlow]
    rfl
  have hshift : (c.reverse ^^^ lowBit b) >>> 1 = (c <<< 1).reverse := by
    cases b <;> simp [lowBit, reverse_shiftLeft_one, BitVec.ushiftRight_xor_distrib]
  simp only [polyBit, crcFeed, crcBit, hbit, hshift]
  split
  · rw [reverse_xor, reverse_polynomial]
  · rfl

theorem crcBit_xor (x y : BitVec 32) : crcBit (x ^^^ y) = crcBit x ^^^ crcBit y := by
  simp only [crcBit, BitVec.getLsbD_xor, BitVec.ushiftRight_xor_distrib]
  cases x.getLsbD 0 <;> cases y.getLsbD 0
  · rfl
  · exact BitVec.xor_assoc ..
  · simp only [Bool.bne_false, Bool.false_eq_true, if_true, if_false]
    rw [BitVec.xor_assoc, BitVec.xor_comm (y >>> 1), BitVec.xor_assoc]
  · simp only [bne_self_eq_false, Bool.false_eq_true, if_true, if_false]
    rw [BitVec.xor_assoc, BitVec.xor_comm (0x82F63B78#32), BitVec.xor_assoc, BitVec.xor_self, BitVec.xor_zero]

/-- The bits of `v` above its lowest one stay in the remainder for the steps to come. -/
theorem crcBit_xor_word (c v : BitVec 32) : crcBit (c ^^^ v) = crcFeed c (v.getLsbD 0) ^^^ v >>> 1 := by
  have hv : crcBit v = crcBit (lowBit (v.getLsbD 0)) ^^^ v >>> 1 := by
    cases h : v.getLsbD 0
    · exact (if_neg (by simp only [h, Bool.false_eq_true, not_false_eq_true])).trans (BitVec.zero_xor).symm
    · exact (if_pos h).trans (BitVec.xor_comm ..)
  rw [crcFeed, crcBit_xor, crcBit_xor, hv, BitVec.xor_assoc]

/-- A word of `n` bits laid over the remainder enters it in `n` steps, its lowest bit first. -/
theorem iterate_crcBit_xor (n : Nat) (c v : BitVec 32) (hv : v.toNat < 2 ^ n) :
    crcBit^[n] (c ^^^ v) = ((List.range n).map v.getLsbD).foldl crcFeed c := by
  induction n generalizing c v with
  | zero =>
    have hzero : v = 0 := BitVec.eq_of_toNat_eq (by simpa using hv)
    simp [hzero]
  | succ n ih =>
    have hbits : (List.range (n + 1)).map v.getLsbD = v.getLsbD 0 :: (List.range n).map (v >>> 1).getLsbD := by
      simp [List.range_succ_eq_map, Function.comp_def, Nat.add_comm 1]
    have hshift : (v >>> 1).toNat < 2 ^ n := by
      rw [BitVec.toNat_ushiftRight, Nat.shiftRight_eq_div_pow]
      omega
    rw [Function.iterate_succ_apply, crcBit_xor_word, ih _ _ hshift, hbits, List.foldl_cons]

/-- A byte enters the remainder bit by bit, the lowest one first. -/
theorem crcByte_eq_foldl (c : BitVec 32) (b : Byte) : crcByte c b = ((List.range 8).map b.getLsbD).foldl crcFeed c := by
  have hsmall : (b.setWidth 32).toNat < 2 ^ 8 := by
    rw [BitVec.toNat_setWidth]
    omega
  have hbits : (List.range 8).map (b.setWidth 32).getLsbD = (List.range 8).map b.getLsbD :=
    List.map_congr_left fun i hi => by
      have hi : i < 32 := by have := List.mem_range.1 hi; omega
      simp [hi]
  exact (iterate_crcBit_xor 8 c (b.setWidth 32) hsmall).trans (by rw [hbits])

/-- The byte-wise CRC is the division of R458. -/
theorem crc32c_eq_polyCrc (b : Bytes) : crc32c b = polyCrc b := by
  have hreflect (l : List Bool) (c : BitVec 32) : l.foldl crcFeed c.reverse = (l.foldl polyBit c).reverse :=
    List.foldl_hom _ fun c b => (reverse_polyBit c b).symm
  have hbytes : b.foldl crcByte 0xFFFFFFFF#32 = ((b.map (fun b => (List.range 8).map b.getLsbD)).flatten).foldl crcFeed 0xFFFFFFFF#32 := by
    rw [List.foldl_flatten, List.foldl_map]
    exact congrArg (fun f => b.foldl f _) (funext₂ crcByte_eq_foldl)
  rw [crc32c, polyCrc, hbytes, ← hreflect, reverse_ones]

/-! ## Packets that the module builds (R457) -/

/-- The header of a packet (Table 11-1). -/
def pktHeader (flags opcode tag context status : Nat) (body : Bytes) : Bytes :=
  leBytes 1 1 ++ (leBytes 1 flags ++ (leBytes 2 opcode ++ (leBytes 4 tag ++ (leBytes 2 body.length ++ (leBytes 2 context
    ++ (leBytes 2 status ++ [0, 0]))))))

section
variable (flags opcode tag context status : Nat) (body : Bytes)

theorem length_pktHeader : (pktHeader flags opcode tag context status body).length = 16 := by simp [pktHeader]

theorem fieldAt_pktHeader_version : fieldAt (pktHeader flags opcode tag context status body) 0 1 = 1 := fieldAt_leBytes_zero 1 1 _

theorem fieldAt_pktHeader_opcode : fieldAt (pktHeader flags opcode tag context status body) 2 2 = opcode % 65536 :=
  fieldAt_leBytes (leBytes 1 1 ++ leBytes 1 flags) _ 2 opcode

theorem fieldAt_pktHeader_tag : fieldAt (pktHeader flags opcode tag context status body) 4 4 = tag % 2 ^ 32 :=
  fieldAt_leBytes (leBytes 1 1 ++ leBytes 1 flags ++ leBytes 2 opcode) _ 4 tag

theorem length_pad4 : (pad4 body).length = roundUp body.length 4 := by
  simp only [pad4, roundUp, List.length_append, List.length_replicate]
  omega

/-- A packet is its header, its padded parameters and their check. -/
theorem mkPacket_eq : mkPacket flags opcode tag context status body =
    pktHeader flags opcode tag context status body ++ pad4 body ++
      leBytes 4 (crc32c (pktHeader flags opcode tag context status body ++ pad4 body)).toNat := by
  simp only [mkPacket, pktHeader, List.append_assoc]

end

/-- A packet of the right length answers BAD_CHECK exactly where its trailer is not the check of the rest. -/
theorem framing_eq_badCheck_iff {k : Bytes} (hlen : k.length = 20 + roundUp (pktPlen k) 4) (hmax : pktPlen k ≤ 4096) :
    framing k = some stBadCheck ↔ leNat (k.drop (k.length - 4)) ≠ (crc32c (k.take (k.length - 4))).toNat := by
  refine ⟨fun h hcrc => ?_, framing_badCheck hlen hmax⟩
  rw [framing_of_length hlen hmax, if_neg (not_not.2 hcrc)] at h
  split at h
  · exact absurd h (by decide)
  · exact absurd h (by decide)

end Sys2Proof.Machine

namespace Sys2Proof.Claims

open Sys2Proof.Machine

/-- Settles O9: the byte-wise CRC is the division of R458, and every packet carries it. -/
theorem packetTrailer : Obligations.PacketTrailer := by
  refine ⟨crc32c_eq_polyCrc, fun flags op tag ctx st body => ?_, fun k hlen hmax => ?_⟩
  · refine ⟨pktHeader flags op tag ctx st body, length_pktHeader .., fieldAt_pktHeader_version .., fieldAt_pktHeader_opcode ..,
      fieldAt_pktHeader_tag .., List.take_left' rfl, ?_, ?_, ?_⟩
    · rw [length_pad4, roundUp]
      omega
    · rw [length_pad4, roundUp]
      omega
    · rw [mkPacket_eq, crc32c_eq_polyCrc]
  · rw [framing_eq_badCheck_iff hlen hmax, crc32c_eq_polyCrc]

end Sys2Proof.Claims

namespace Sys2Proof.Machine

/-! ## What a packet that is sent leaves of the command processor -/

/-- A packet that is sent changes no more of the command processor than the mailbox. -/
theorem State.sendPacket_cmd (s : State) (req : Requester) (session : Option Nat) (k : Bytes) :
    ∃ mbx, (s.sendPacket req session k).cmd = { s.cmd with mbx := mbx } := by
  unfold State.sendPacket
  split
  · obtain ⟨out, mov, h⟩ := State.mbxIrq_frame
      (s.modCmd (fun c => { c with mbx := { c.mbx with busy := false, done := true, rsp := some k } })) 0
    exact ⟨_, by rw [h]; rfl⟩
  · obtain ⟨out, sem, h⟩ := s.ctlSend_frame (.response req.source k)
    exact ⟨s.cmd.mbx, by rw [h]⟩
  · exact ⟨s.cmd.mbx, rfl⟩

/-- Nor does an answer. -/
theorem State.answer_cmd (s : State) (req : Requester) (session : Option Nat) (opcode tag context seq status : Nat) (reply : Bytes) :
    ∃ mbx, (s.answer req session opcode tag context seq status reply).cmd = { s.cmd with mbx := mbx } := by
  unfold State.answer State.recordResponse
  rw [State.record_cmd]
  exact s.sendPacket_cmd req session _

/-- Answers to several queued requests. -/
theorem State.answerQueued_each_cmd (qs : List Queued) (status : Nat) (s : State) :
    ∃ mbx, (forEach qs (fun q s => s.answerQueued q status) s).cmd = { s.cmd with mbx := mbx } := by
  induction qs generalizing s with
  | nil => exact ⟨s.cmd.mbx, rfl⟩
  | cons q qs ih =>
    obtain ⟨mbx, hfirst⟩ := s.answer_cmd q.req q.session (pktOpcode q.pkt) (pktTag q.pkt) (pktContext q.pkt) q.seq status []
    obtain ⟨mbx', hrest⟩ := ih (s.answerQueued q status)
    exact ⟨mbx', hrest.trans (by rw [State.answerQueued, hfirst])⟩

/-! ## Counting the queue of a transport (R467, R471) -/

/-- A transport's requests are those of the queued units and those of the open chains. -/
theorem Cmd.queuedOn_eq (c : Cmd) (x : Transport) : c.queuedOn x =
    (c.jobs.map Job.cmds).flatten.countP (fun q => sameTransport x q.req.transport) +
      (c.chains.map Chain.cmds).flatten.countP (fun q => sameTransport x q.req.transport) := by
  rw [Cmd.queuedOn, ← List.countP_eq_length_filter, List.countP_append]

/-- Transports that are used alike have one queue. -/
theorem Cmd.queuedOn_congr (c : Cmd) {x y : Transport} (h : sameTransport x y = true) : c.queuedOn x = c.queuedOn y := by
  have hsame (z : Transport) : sameTransport x z = sameTransport y z := by
    unfold sameTransport at h
    split at h
    · cases z <;> rfl
    · rw [eq_of_beq h]
  simp only [Cmd.queuedOn, hsame]

/-- The first chain that is selected and all those that are not are among the chains. -/
theorem countP_find_add_filter (p : Queued → Bool) (sel : Chain → Bool) (cs : List Chain) :
    (((cs.find? sel).map Chain.cmds).getD []).countP p + ((cs.filter (fun x => !sel x)).map Chain.cmds).flatten.countP p ≤
      (cs.map Chain.cmds).flatten.countP p := by
  have hfilter (cs : List Chain) :
      ((cs.filter (fun x => !sel x)).map Chain.cmds).flatten.countP p ≤ (cs.map Chain.cmds).flatten.countP p :=
    ((List.filter_sublist.map Chain.cmds).flatten).countP_le
  induction cs with
  | nil => simp
  | cons x cs ih =>
    cases hx : sel x
    · simp only [List.find?_cons, hx, List.filter_cons, Bool.not_false, if_true, List.map_cons, List.flatten_cons, List.countP_append]
      omega
    · simpa [List.find?_cons, hx, List.filter_cons] using hfilter cs

/-- What leaves an open chain, with what stays queued, was queued. -/
theorem Cmd.queuedOn_dropChain (c : Cmd) (r : Requester) (context : Nat) (x : Transport) :
    (((c.chainOf r context).map Chain.cmds).getD []).countP (fun q => sameTransport x q.req.transport) +
      (c.dropChain r context).queuedOn x ≤ c.queuedOn x := by
  have h := countP_find_add_filter (fun q => sameTransport x q.req.transport) (fun y => y.req == r && y.context == context) c.chains
  rw [Cmd.queuedOn_eq, Cmd.queuedOn_eq]
  simp only [Cmd.dropChain, Cmd.chainOf]
  omega

/-- A request that joins a queue or a chain adds one. -/
theorem State.queuedOn_enqueue (s : State) (q : Queued) (x : Transport) :
    (s.enqueue q).cmd.queuedOn x ≤ s.cmd.queuedOn x + if sameTransport x q.req.transport then 1 else 0 := by
  have hdrop := s.cmd.queuedOn_dropChain q.req (pktContext q.pkt) x
  rw [Cmd.queuedOn_eq] at hdrop
  have hheld (t : State) (r : Requester) : (t.mbxHeld r).cmd.queuedOn x = t.cmd.queuedOn x := by
    unfold State.mbxHeld
    split <;> rfl
  unfold State.enqueue
  dsimp only
  split
  · rw [hheld, Cmd.queuedOn_eq]
    simp only [State.modCmd, Cmd.dropChain, List.map_append, List.map_cons, List.map_nil, List.flatten_append, List.flatten_cons,
      List.flatten_nil, List.countP_append, List.countP_cons, List.countP_nil] at hdrop ⊢
    omega
  · rw [Cmd.queuedOn_eq]
    simp only [State.modCmd, Cmd.dropChain, List.map_append, List.map_cons, List.map_nil, List.flatten_append, List.flatten_cons,
      List.flatten_nil, List.countP_append, List.countP_cons, List.countP_nil] at hdrop ⊢
    omega

/-- A rejected packet leaves the queues. -/
theorem State.queuedOn_reject (s : State) (r : Requester) (ses : Option Nat) (k : Bytes) (status : Nat) (reply : Bytes) (x : Transport) :
    (s.reject r ses k status reply).cmd.queuedOn x = s.cmd.queuedOn x := by
  obtain ⟨mbx, h⟩ := s.sendPacket_cmd r ses (mkPacket 1 (pktOpcode k) (pktTag k) (pktContext k) status reply)
  rw [State.reject, h]
  rfl

/-- A discarded chain is queued no more. -/
theorem State.queuedOn_discardChain (s : State) (r : Requester) (context : Nat) (x : Transport) :
    (s.discardChain r context).cmd.queuedOn x ≤ s.cmd.queuedOn x := by
  unfold State.discardChain
  split
  next => exact Nat.le_refl _
  next y _ =>
    obtain ⟨mbx, h⟩ := State.answerQueued_each_cmd y.cmds stConflict (s.modCmd (fun c => c.dropChain r context))
    rw [h]
    exact Nat.le_trans (Nat.le_add_left _ _) (s.cmd.queuedOn_dropChain r context x)

/-- A packet that is received leaves at most 16 requests queued on every transport. -/
theorem State.queuedOn_receive {s : State} (hbound : ∀ x, s.cmd.queuedOn x ≤ 16) (r : Requester) (ses : Option Nat) (k : Bytes)
    (x : Transport) : (s.receive r ses k).cmd.queuedOn x ≤ 16 := by
  unfold State.receive
  split
  next => rw [State.queuedOn_reject]; exact hbound x
  next =>
    split
    next => rw [State.queuedOn_reject]; exact hbound x
    next p _ =>
      extract_lets full q
      split
      · rw [State.queuedOn_reject]
        exact Nat.le_trans (s.queuedOn_discardChain ..) (hbound x)
      · split
        · rw [State.queuedOn_reject]; exact hbound x
        next hroom =>
          have hadd := (s.recordCommand (hdrOf r ses k) (p == .observe) k).queuedOn_enqueue q x
          have hcmd : (s.recordCommand (hdrOf r ses k) (p == .observe) k).cmd = s.cmd := State.record_cmd ..
          rw [hcmd] at hadd
          have hx := hbound x
          by_cases hsame : sameTransport x r.transport = true
          · have hsum := s.cmd.queuedOn_congr hsame
            rw [if_pos hsame] at hadd
            omega
          · rw [if_neg hsame] at hadd
            omega

/-- A well-formed packet of an assigned opcode outside a chain finds its transport's queue full (R467). -/
theorem State.receive_full {s : State} {r : Requester} {k : Bytes} (hframe : framing k = none)
    (hop : (opPriv (pktOpcode k)).isSome = true) (hchain : s.cmd.chainOf r (pktContext k) = none)
    (hfull : 16 ≤ s.cmd.queuedOn r.transport) (ses : Option Nat) : s.receive r ses k = s.reject r ses k stNoResource [] := by
  obtain ⟨p, hp⟩ := Option.isSome_iff_exists.1 hop
  simp [State.receive, hframe, hp, hchain, hfull]

end Sys2Proof.Machine

namespace Sys2Proof.Claims

open Sys2Proof.Machine

/-! ## O10, clause by clause -/

section
variable {s t : State} (hbound : ∀ x, s.cmd.queuedOn x ≤ 16)
include hbound

theorem commandPacketReceive_bounded {r : Requester} {ses : Option Nat} {k : Bytes} (hexec : exec (.commandPacketReceive r ses k) s = .next t)
    (x : Transport) : t.cmd.queuedOn x ≤ 16 := by
  obtain rfl := Host.Outcome.next.inj hexec
  exact iteInduction (motive := fun t : State => t.cmd.queuedOn x ≤ 16) (fun _ => hbound x) (fun _ => s.queuedOn_receive hbound r ses k x)

theorem mbxGo_bounded (hexec : exec .mbxGo s = .next t) (x : Transport) : t.cmd.queuedOn x ≤ 16 := by
  have hgo : s.mbxGo.cmd.queuedOn x ≤ 16 :=
    iteInduction (motive := fun t : State => t.cmd.queuedOn x ≤ 16) (fun _ => hbound x)
      (fun _ => State.queuedOn_receive (s := s.modCmd (fun c => { c with mbx := { s.cmd.mbx with busy := true } })) hbound ..)
  obtain rfl := Host.Outcome.next.inj hexec
  exact iteInduction (motive := fun t : State => t.cmd.queuedOn x ≤ 16) (fun _ => hgo) (fun _ => hbound x)

end

section
variable {r : Requester} {k : Bytes} {s : State} (hon : s.clk.phase ≠ .off) (hframe : framing k = none)
  (hop : (opPriv (pktOpcode k)).isSome = true) (hchain : s.cmd.chainOf r (pktContext k) = none) (hfull : 16 ≤ s.cmd.queuedOn r.transport)
include hon hframe hop hchain hfull

theorem commandPacketReceive_full_wired (hwired : transportWired r.transport = true) (ses : Option Nat) :
    exec (.commandPacketReceive r ses k) s =
      .next (s.emit (.packet r ses (mkPacket 1 (pktOpcode k) (pktTag k) (pktContext k) stNoResource []))) := by
  rw [exec_commandPacketReceive hon (ne_mailbox_of_wired hwired), State.receive_full hframe hop hchain hfull, State.reject_wired hwired]

theorem commandPacketReceive_full (hmbx : r.transport ≠ .mailbox) (ses : Option Nat) :
    ∃ t, exec (.commandPacketReceive r ses k) s = .next t ∧ t.cmd.jobs = s.cmd.jobs ∧ t.cmd.chains = s.cmd.chains := by
  obtain ⟨mbx, hcmd⟩ := s.sendPacket_cmd r ses (mkPacket 1 (pktOpcode k) (pktTag k) (pktContext k) stNoResource [])
  refine ⟨_, (exec_commandPacketReceive hon hmbx ses k).trans (congrArg _ (State.receive_full hframe hop hchain hfull ses)), ?_⟩
  rw [State.reject, hcmd]
  exact ⟨rfl, rfl⟩

end

/-- Settles O10: a packet joins a queue only where fewer than 16 are on its transport. -/
theorem queueLimit : Obligations.QueueLimit :=
  ⟨fun _ _ _ _ _ hbound => commandPacketReceive_bounded hbound, fun _ _ hbound => mbxGo_bounded hbound,
    fun _ ses _ _ hon hwired hframe hop hchain hfull => commandPacketReceive_full_wired hon hframe hop hchain hfull hwired ses,
    fun _ ses _ _ hon hmbx hframe hop hchain hfull => commandPacketReceive_full hon hframe hop hchain hfull hmbx ses⟩

end Sys2Proof.Claims

namespace Sys2Proof.Machine

/-! ## Packets that are queued (R467, R468, R470) -/

/-- Where no chain is open, none is dropped. -/
theorem Cmd.dropChain_none {c : Cmd} {r : Requester} {context : Nat} (h : c.chainOf r context = none) : c.dropChain r context = c := by
  have hkept : c.chains.filter (fun x => !(x.req == r && x.context == context)) = c.chains :=
    List.filter_eq_self.2 fun x hx => by simpa [Decidable.imp_iff_not_or] using List.find?_eq_none.1 h x hx
  rw [Cmd.dropChain, hkept]

/-- A packet outside a chain is queued alone, last. -/
theorem State.enqueue_alone {s : State} {q : Queued} (hends : bitOf (pktFlags q.pkt) 2 = false)
    (hchain : s.cmd.chainOf q.req (pktContext q.pkt) = none) :
    s.enqueue q = { s with cmd := { s.cmd with
      jobs := s.cmd.jobs ++ [{ cmds := [q], urgent := s.urgentOf q.req q.session q.pkt }] } } := by
  simp [State.enqueue, hends, hchain, State.modCmd, Cmd.dropChain_none hchain]

/-- A COMMAND record leaves what counts as urgent. -/
theorem State.urgentOf_recordCommand (s : State) (h : Hdr) (skip : Bool) (packet : Bytes) (r : Requester) (ses : Option Nat) (k : Bytes) :
    (s.recordCommand h skip packet).urgentOf r ses k = s.urgentOf r ses k := by
  have hpriv : (s.recordCommand h skip packet).privOf (hdrOf r ses k) = s.privOf (hdrOf r ses k) := State.record_privOf ..
  rw [State.urgentOf, State.urgentOf, hpriv]

/-- A record changes TRANSCRIPT's registers and the transcript alone. -/
theorem State.record_frame (s : State) (kind flags : Nat) (body : Bytes) :
    ∃ regs trec, s.record kind flags body = { s with regs := regs, trec := trec } := by
  obtain ⟨t, h | h⟩ := s.record_cases kind flags body
  · exact ⟨_, _, h⟩
  · exact ⟨_, _, h⟩

/-- So does a COMMAND record. -/
theorem State.recordCommand_frame (s : State) (h : Hdr) (skip : Bool) (packet : Bytes) :
    ∃ regs trec, s.recordCommand h skip packet = { s with regs := regs, trec := trec } :=
  s.record_frame _ _ _

/-- A well-formed packet of an assigned opcode, outside a chain, with room in its transport's queue, is recorded and queued. -/
theorem State.receive_queued {s : State} {q : Priv} {r : Requester} {k : Bytes} (hframe : framing k = none)
    (hop : opPriv (pktOpcode k) = some q) (hends : bitOf (pktFlags k) 2 = false) (hchain : s.cmd.chainOf r (pktContext k) = none)
    (hroom : s.cmd.queuedOn r.transport < 16) (ses : Option Nat) :
    s.receive r ses k = { s.recordCommand (hdrOf r ses k) (q == .observe) k with cmd := { s.cmd with
      jobs := s.cmd.jobs ++ [{ cmds := [{ req := r, session := ses, pkt := k, seq := s.trec.next }], urgent := s.urgentOf r ses k }] } } := by
  have hcmd : (s.recordCommand (hdrOf r ses k) (q == .observe) k).cmd = s.cmd := State.record_cmd ..
  have hqueued : s.receive r ses k =
      (s.recordCommand (hdrOf r ses k) (q == .observe) k).enqueue { req := r, session := ses, pkt := k, seq := s.trec.next } := by
    simp [State.receive, hframe, hop, hchain, Nat.not_le.2 hroom]
  rw [hqueued, State.enqueue_alone hends (by rw [hcmd]; exact hchain), hcmd, State.urgentOf_recordCommand]

/-- A chain of one command that is discarded answers CONFLICT. -/
theorem State.discardChain_one {s : State} {r : Requester} {context : Nat} {x : Chain} {q : Queued}
    (hchain : s.cmd.chainOf r context = some x) (hone : x.cmds = [q]) :
    s.discardChain r context = (s.modCmd (fun c => c.dropChain r context)).answerQueued q stConflict := by
  simp [State.discardChain, hchain, hone, forEach]

/-- The state in which a packet that GO submits is received: the mailbox is busy. -/
def State.mbxBusy (s : State) : State := s.modCmd (fun c => { c with mbx := { s.cmd.mbx with busy := true } })

/-- GO submits the packet in the request buffer (R465). -/
theorem execMbxGo_submits {s : State} {u : Nat} (hup : s.mainUp = true) (husp : s.mgmtUsp = some u) (hidle : s.cmd.mbx.busy = false) :
    execMbxGo s = .next (s.mbxBusy.receive { transport := .mailbox, source := u } none (slice s.cmd.mbx.reqBuf 0 s.cmd.mbx.reqLen)) := by
  simp [execMbxGo, State.mbxGo, hup, husp, hidle, State.mbxBusy]

end Sys2Proof.Machine

namespace Sys2Proof.Claims

open Sys2Proof.Machine

/-! ## O30, clause by clause -/

section
variable {s : State} {k : Bytes}

/-- R467: an accepted packet is recorded and queued last. -/
theorem commandPacketReceive_queues {q : Priv} {r : Requester} (hon : s.clk.phase ≠ .off) (hmbx : r.transport ≠ .mailbox)
    (hframe : framing k = none) (hop : opPriv (pktOpcode k) = some q) (hends : bitOf (pktFlags k) 2 = false)
    (hchain : s.cmd.chainOf r (pktContext k) = none) (hroom : s.cmd.queuedOn r.transport < 16) (ses : Option Nat) :
    exec (.commandPacketReceive r ses k) s = .next { s.recordCommand (hdrOf r ses k) (q == .observe) k with
      cmd := { s.cmd with jobs := s.cmd.jobs ++ [{ cmds := [{ req := r, session := ses, pkt := k, seq := s.trec.next }],
                                                   urgent := s.urgentOf r ses k }] } } :=
  (exec_commandPacketReceive hon hmbx ses k).trans (congrArg _ (State.receive_queued hframe hop hends hchain hroom ses))

/-- R471: a chain whose timer ends is discarded. -/
theorem chainAssemblyTimeout_discards {x : Chain} {q : Queued} {r : Requester} {c : BitVec 16}
    (hchain : s.cmd.chainOf r c.toNat = some x) (hone : x.cmds = [q]) :
    exec (.chainAssemblyTimeout r c) s = .next (((s.timerInput 2).modCmd (fun m => { m with
      chains := m.chains.filter (fun y => !(y.req == r && y.context == c.toNat)) })).answerQueued q stConflict) := by
  have hcmd : (s.timerInput 2).cmd = s.cmd := State.record_cmd ..
  exact congrArg Host.Outcome.next ((if_pos (by rw [hchain]; rfl)).trans (State.discardChain_one (by rw [hcmd]; exact hchain) hone))

/-- R465: GO queues the packet of the request buffer and sets BUSY. -/
theorem mbxGo_queues {q : Priv} {u : Nat} (hup : s.mainUp = true) (husp : s.mgmtUsp = some u) (hidle : s.cmd.mbx.busy = false)
    (hbuf : slice s.cmd.mbx.reqBuf 0 s.cmd.mbx.reqLen = k) (hframe : framing k = none) (hop : opPriv (pktOpcode k) = some q)
    (hends : bitOf (pktFlags k) 2 = false) (hchain : s.cmd.chainOf { transport := .mailbox, source := u } (pktContext k) = none)
    (hroom : s.cmd.queuedOn .mailbox < 16) :
    ∃ t, exec .mbxGo s = .next t ∧ t = { s with cmd := t.cmd, regs := t.regs, trec := t.trec } ∧ t.cmd.mbx = { s.cmd.mbx with busy := true } ∧
      (t.cmd.jobs.map Job.cmds) = s.cmd.jobs.map Job.cmds ++
        [[{ req := { transport := .mailbox, source := u }, session := none, pkt := k, seq := s.trec.next }]] := by
  have hqueued := State.receive_queued (s := s.mbxBusy) (r := { transport := .mailbox, source := u }) hframe hop hends hchain hroom none
  refine ⟨_, execMbxGo_submits hup husp hidle, ?_⟩
  rw [hbuf, hqueued]
  refine ⟨?_, rfl, ?_⟩
  · obtain ⟨regs, trec, hrec⟩ := s.mbxBusy.recordCommand_frame (hdrOf { transport := .mailbox, source := u } none k) (q == .observe) k
    rw [hrec]
    rfl
  · simp [State.mbxBusy, State.modCmd]

/-- R465: GO is ignored while BUSY. -/
theorem mbxGo_busy (hbusy : s.cmd.mbx.busy = true) : exec .mbxGo s = .next s := by
  have hgo : s.mbxGo = s := if_pos hbusy
  show execMbxGo s = _
  rw [execMbxGo, hgo, ite_self]

/-- R466: an acknowledgement frees the event buffer. -/
theorem mbxEvtAck_frees {e : Bytes} (hup : s.mainUp = true) (hevt : s.cmd.mbx.evt = some e) (hheld : s.cmd.mbx.held = []) :
    exec .mbxEvtAck s = .next { s with cmd := { s.cmd with mbx := { s.cmd.mbx with evt := none } } } := by
  refine congrArg Host.Outcome.next ((if_pos (by simp [hup, hevt])).trans ?_)
  rw [State.mbxEvtAck, hheld]
  rfl

/-- R485: the loss of a transport. -/
theorem transportLost_discards (x : Transport) (s : State) :
    ∃ t, exec (.transportLost x) s = .next t ∧ t = { s with cmd := t.cmd, tbl := t.tbl } ∧
      (t.cmd.jobs.all (fun j => j.cmds.all (fun q => !sameTransport x q.req.transport))) = true ∧
      (t.cmd.chains.all (fun c => !sameTransport x c.req.transport)) = true ∧
      (t.cmd.bg.all (fun b => b.dropped || !sameTransport x b.req.transport)) = true ∧
      t.cmd.bg.map Background.id = s.cmd.bg.map Background.id ∧ t.cmd.mbx = s.cmd.mbx ∧ t.tbl.tables = s.tbl.tables := by
  refine ⟨_, rfl, rfl, ?_, ?_, ?_, ?_, rfl, rfl⟩
  · refine List.all_eq_true.2 fun j hj => List.all_eq_true.2 fun q hq => ?_
    have hnone : j.cmds.any (fun q => sameTransport x q.req.transport) = false := by simpa using (List.mem_filter.1 hj).2
    simpa using List.any_eq_false.1 hnone q hq
  · exact List.all_eq_true.2 fun c hc => (List.mem_filter.1 hc).2
  · refine List.all_eq_true.2 fun b hb => ?_
    obtain ⟨a, -, rfl⟩ := List.mem_map.1 hb
    by_cases ha : sameTransport x a.req.transport = true <;> simp [ha]
  · simp only [State.loseTransport, State.modCmd, List.map_map]
    refine List.map_congr_left fun b _ => ?_
    simp only [Function.comp_apply]
    split <;> rfl

end

/-- Settles O30: the lemmas above, one for each clause. -/
theorem commandReception : Obligations.CommandReception :=
  ⟨fun _ _ ses _ _ hon hmbx hframe hop hends hchain hroom => commandPacketReceive_queues hon hmbx hframe hop hends hchain hroom ses,
    fun _ ses _ _ hon hwired hframe => commandPacketReceive_unframed hon hwired hframe ses,
    fun _ _ _ _ _ => chainAssemblyTimeout_discards, fun _ _ _ _ => mbxGo_queues, fun _ => mbxGo_busy, fun _ _ => mbxEvtAck_frees,
    transportLost_discards⟩

end Sys2Proof.Claims

namespace Sys2Proof.Machine

/-! ## What CMD_STATUS and CMD_CANCEL look for (R474, R485) -/

@[simp] theorem CmdSpec.recorded_outcomeOf (c : CmdSpec) (h : Hdr) (p : Bytes) (s : State) (r : Requester) (tag context : Nat) :
    (c.recorded h p s).outcomeOf r tag context = s.outcomeOf r tag context := by
  rw [State.outcomeOf, State.outcomeOf, CmdSpec.recorded_cmd]

/-- A COMMAND record leaves the requester's privilege. -/
@[simp] theorem CmdSpec.recorded_privOf (c : CmdSpec) (h : Hdr) (p : Bytes) (s : State) (k : Hdr) :
    (c.recorded h p s).privOf k = s.privOf k := State.record_privOf ..

/-- CMD_STATUS answers the outcome it finds. -/
theorem specCmdStatus_run {s : State} {h : Hdr} {p : Bytes} {x : Nat × Nat} (hout : s.outcomeOf h.req (p32 p 0) (p16 p 4) = some x) :
    specCmdStatus.run h p s = .done (leBytes 2 x.1 ++ leBytes 2 x.2) s := by
  simp [specCmdStatus, hout]

/-- Bit 0 of a byte that has a flag in bit 0. -/
theorem bitOf_zero_b2n (r : Bool) (n : Nat) : bitOf ((b2n r + 2 * n) % 256) 0 = r := by
  have hparity : (b2n r + 2 * n) % 256 / 2 ^ 0 % 2 = b2n r := by cases r <;> simp [b2n]
  rw [bitOf, hparity]
  cases r <;> rfl

/-- The fields of MODULE_STATUS's reply: MOD_READY, the requester's privilege, the epoch. -/
theorem State.statusReply_fields (s : State) (h : Hdr) (words : Bytes) :
    let b := [byte (b2n s.clk.modReady + 2 * s.get Reg.HLM_STATUS_LOCKED + 4 * s.get Reg.FLT_STATUS_TOUCHSTONE), byte (privCode (s.privOf h))]
      ++ leBytes 2 s.tbl.epoch ++ words
    fieldAt b 1 1 = privCode (s.privOf h) ∧ fieldAt b 2 2 = s.tbl.epoch % 65536 ∧ bitOf (fieldAt b 0 1) 0 = s.clk.modReady := by
  generalize hx : 2 * s.get Reg.HLM_STATUS_LOCKED = x
  generalize hy : 4 * s.get Reg.FLT_STATUS_TOUCHSTONE = y
  have hcode : fieldAt ([byte (b2n s.clk.modReady + x + y)] ++ (leBytes 1 (privCode (s.privOf h)) ++ (leBytes 2 s.tbl.epoch ++ words))) 1 1 =
      privCode (s.privOf h) % 256 ^ 1 := fieldAt_leBytes [_] _ 1 _
  have hready : fieldAt (leBytes 1 (b2n s.clk.modReady + x + y) ++ (leBytes 1 (privCode (s.privOf h)) ++ (leBytes 2 s.tbl.epoch ++ words))) 0 1 =
      (b2n s.clk.modReady + x + y) % 256 ^ 1 := fieldAt_leBytes_zero ..
  have heven : b2n s.clk.modReady + x + y = b2n s.clk.modReady + 2 * (s.get Reg.HLM_STATUS_LOCKED + 2 * s.get Reg.FLT_STATUS_TOUCHSTONE) := by
    omega
  refine ⟨hcode.trans ?_, fieldAt_leBytes [_, _] words 2 s.tbl.epoch, ?_⟩
  · cases s.privOf h <;> rfl
  · exact (congrArg (bitOf · 0) (hready.trans (congrArg (· % 256) heven))).trans (bitOf_zero_b2n _ _)

/-- Cancelling the only queued command takes it from the queue and answers CONFLICT. -/
theorem specCmdCancel_run_only {s : State} {h : Hdr} {p : Bytes} {j : Job} {q : Queued} (hjobs : s.cmd.jobs = [j]) (hone : j.cmds = [q])
    (hnamed : q.named h.req (p32 p 0) (p16 p 4) = true) :
    specCmdCancel.run h p s = .done [] ((s.modCmd (fun m => { m with jobs := [] })).answerQueued q stConflict) := by
  simp [specCmdCancel, hjobs, hone, hnamed, forEach, delFirst, State.modCmd]

/-- The work of a background command that has its result has ended. -/
theorem State.endWork_of_result {s : State} {b : Background} {x : Nat × Bytes} (hres : b.result = some x) : s.endWork b = s :=
  if_pos (by rw [hres]; rfl)

/-- A background command that has its result completes. -/
theorem State.bgEnd_completes {s : State} {id st : Nat} {r : Bytes} {b : Background}
    (hfind : s.cmd.bg.find? (fun x => x.id == id) = some b) (hres : b.result = some (st, r)) : s.bgEnd id = s.complete b st r := by
  simp [State.bgEnd, hfind, State.endWork_of_result hres, hres]

/-- The completion of a command that came over I3C and whose transport was not lost. -/
theorem State.complete_i3c {s : State} {b : Background} (hkept : b.dropped = false) (hop : 0x8000 ≤ b.opcode)
    (hreq : b.req.transport = .i3c) (st : Nat) (r : Bytes) :
    s.complete b st r = (((s.modCmd (fun m => { m with
      bg := delFirst (fun x => x.id == b.id) m.bg,
      kept := ({ req := b.req, tag := b.tag, context := b.context, opcode := b.opcode, status := st } :: m.kept).take 256 })).emit
        (.packet b.req b.session (mkPacket 3 b.opcode b.tag b.context st r))).recordResponse b.seq st r) := by
  simp [State.complete, hkept, Nat.not_lt.2 hop, State.sendEvent, hreq]

end Sys2Proof.Machine

namespace Sys2Proof.Claims

open Sys2Proof.Machine

/-! ## O31, clause by clause -/

section
variable {h : Hdr} {p : Bytes} {s : State}

/-- MODULE_IDENTIFY answers 48 bytes that begin with the vendor and the device ID (R480). -/
theorem moduleIdentify_reads : Reads .moduleIdentify 0xC000 .observe 0 always
    (fun _ _ _ b => b.length = 48 ∧ fieldAt b 0 2 = vendorId ∧ fieldAt b 2 2 = 0xC960) := by
  intro h p s hop hpriv hlen _
  exact ⟨_, ⟨rfl, fieldAt_leBytes [] _ 2 vendorId, fieldAt_leBytes (leBytes 2 vendorId) _ 2 0xC960⟩,
    (reached (c := specModuleIdentify) hop hpriv hlen rfl rfl).done rfl⟩

/-- MODULE_STATUS answers MOD_READY, the requester's privilege and the epoch (R480). -/
theorem moduleStatus_reads : Reads .moduleStatus 0xC001 .observe 0 always
    (fun h _ s b => fieldAt b 1 1 = privCode (s.privOf h) ∧ fieldAt b 2 2 = s.tbl.epoch % 65536 ∧ bitOf (fieldAt b 0 1) 0 = s.clk.modReady) := by
  intro h p s hop hpriv hlen _
  refine ⟨_, ?_, (reached (c := specModuleStatus) hop hpriv hlen rfl rfl).done rfl⟩
  simpa only [CmdSpec.recorded_clk, CmdSpec.recorded_tbl, CmdSpec.recorded_privOf] using
    (specModuleStatus.recorded h p s).statusReply_fields h (specModuleStatus.recorded h p s).statusWords

/-- CMD_STATUS answers OPCODE and status of the requester's background command (R474). -/
theorem cmdStatus_answers {x : Nat × Nat} (hop : Operating s) (hpriv : Privileged .observe h s) (hlen : p.length = 6)
    (hout : s.outcomeOf h.req (p32 p 0) (p16 p 4) = some x) :
    exec (.cmdStatus h p) s = .next (answered 0xC002 stSuccess h s (leBytes 2 x.1 ++ leBytes 2 x.2) (request 0xC002 .observe h p s)) := by
  have hr : Reached specCmdStatus h p s := reached hop hpriv hlen rfl (by simp [specCmdStatus, firstBad, need, hout])
  exact hr.done (specCmdStatus_run (by rw [CmdSpec.recorded_outcomeOf, hout]))

/-- CMD_CANCEL takes the command it names from the queue (R485). -/
theorem cmdCancel_cancels {q : Queued} {j : Job} (hop : Operating s) (hpriv : Privileged .observe h s) (hlen : p.length = 6)
    (hjobs : s.cmd.jobs = [j]) (hone : j.cmds = [q]) (hnamed : q.named h.req (p32 p 0) (p16 p 4) = true) :
    exec (.cmdCancel h p) s = .next (answered 0xC003 stSuccess h s []
      (((request 0xC003 .observe h p s).modCmd (fun m => { m with jobs := [] })).answerQueued q stConflict)) :=
  (reached (c := specCmdCancel) hop hpriv hlen rfl rfl).done
    (specCmdCancel_run_only (by rw [CmdSpec.recorded_cmd]; exact hjobs) hone hnamed)

/-- The end of a background command (R472, R474). -/
theorem backgroundCommandEnd_completes {id st : Nat} {r : Bytes} {b : Background}
    (hfind : s.cmd.bg.find? (fun x => x.id == id) = some b) (hres : b.result = some (st, r)) (hkept : b.dropped = false)
    (hop : 0x8000 ≤ b.opcode) (hreq : b.req.transport = .i3c) :
    exec (.backgroundCommandEnd id) s = .next (((s.modCmd (fun m => { m with
      bg := delFirst (fun x => x.id == id) m.bg,
      kept := ({ req := b.req, tag := b.tag, context := b.context, opcode := b.opcode, status := st } :: m.kept).take 256 })).emit
        (.packet b.req b.session (mkPacket 3 b.opcode b.tag b.context st r))).recordResponse b.seq st r) := by
  have hid : b.id = id := by simpa using List.find?_some hfind
  have hends := (State.bgEnd_completes hfind hres).trans (State.complete_i3c hkept hop hreq st r)
  rw [hid] at hends
  exact congrArg Host.Outcome.next hends

end

/-- Settles O31: the lemmas above, one for each clause. -/
theorem commandStatusAndEnd : Obligations.CommandStatusAndEnd :=
  ⟨moduleIdentify_reads, moduleStatus_reads, fun _ _ _ _ => cmdStatus_answers, fun _ _ _ _ _ => cmdCancel_cancels,
    fun _ _ _ _ _ => backgroundCommandEnd_completes⟩

/-! ## O1 -/

/-- Settles O1: `step` takes the front of the queue, by definition. -/
theorem stepRunsTheCommand : Obligations.StepRunsTheCommand := fun _ _ _ => rfl

end Sys2Proof.Claims

namespace Sys2Proof.Machine

/-! ## What the fault commands read and change (R494 to R519) -/

@[simp] theorem CmdSpec.recorded_flt (c : CmdSpec) (h : Hdr) (p : Bytes) (s : State) : (c.recorded h p s).flt = s.flt := State.record_flt ..

@[simp] theorem CmdSpec.recorded_histBytes (c : CmdSpec) (h : Hdr) (p : Bytes) (s : State) (j : Nat) :
    (c.recorded h p s).histBytes j = s.histBytes j := by
  simp only [State.histBytes, CmdSpec.recorded_flt]

@[simp] theorem CmdSpec.recorded_dumpByte (c : CmdSpec) (h : Hdr) (p : Bytes) (s : State) (o : Nat) :
    (c.recorded h p s).dumpByte o = s.dumpByte o := by
  simp only [State.dumpByte, CmdSpec.recorded_flt]

/-- What precedes the slots in FAULT_INFO's reply. -/
def State.faultPointers (s : State) : Bytes :=
  leBytes 1 (s.get Reg.FLT_HIST_HEAD_INDEX) ++ leBytes 1 (s.get Reg.FLT_HIST_TAIL_INDEX) ++ leBytes 2 (s.get Reg.FLT_HIST_TAIL_UNREAD)
    ++ s.words 0x0F00010C 1 ++ leBytes 4 (s.get Reg.FLT_HIST_HEAD_TOTAL) ++ leBytes 4 (s.get Reg.FLT_LOST)

theorem State.length_faultPointers (s : State) : s.faultPointers.length = 16 := by simp [State.faultPointers, length_leBytes]

theorem specFaultInfo_run (h : Hdr) (p : Bytes) (s : State) :
    specFaultInfo.run h p s = .done (s.faultPointers ++ leBytes 2 s.flt.slots.length) s := rfl

/-- The slots in use, at the end of FAULT_INFO's reply. -/
theorem State.faultReply_slots (s : State) : fieldAt (s.faultPointers ++ leBytes 2 s.flt.slots.length) 16 2 = s.flt.slots.length % 65536 := by
  have hfield := fieldAt_leBytes s.faultPointers [] 2 s.flt.slots.length
  rwa [List.append_nil, s.length_faultPointers] at hfield

/-- An acknowledgement up to the head covers every unread record. -/
theorem State.ackSpan_head {s : State} {i : Nat} (hhead : i = s.get Reg.FLT_HIST_HEAD_INDEX) : s.ackSpan i = s.get Reg.FLT_HIST_TAIL_UNREAD :=
  if_pos hhead

/-- FAULT_ACK up to the head is good, and leaves nothing unread (R494). -/
theorem specFaultAck_check_head {s : State} {p : Bytes} (hindex : p8 p 0 < 64) (hhead : p8 p 0 = s.get Reg.FLT_HIST_HEAD_INDEX) (h : Hdr) :
    specFaultAck.check h p s = none := by
  simp [specFaultAck, firstBad, need, hindex, State.ackSpan_head hhead]

theorem specFaultAck_run_head {s : State} {p : Bytes} (hhead : p8 p 0 = s.get Reg.FLT_HIST_HEAD_INDEX) (h : Hdr) :
    specFaultAck.run h p s = .done [] ((s.set Reg.FLT_HIST_TAIL_UNREAD 0 0).set Reg.FLT_HIST_TAIL_INDEX 0 (p8 p 0)) := by
  simp only [specFaultAck, State.ackSpan_head hhead, Nat.sub_self]

/-- Changing a slot that is held puts the changed one in its place. -/
theorem State.modQ_of_find {s : State} {i : Nat} {q : QSlot} (hslot : SMap.find s.flt.slots i = some q) (f : QSlot → QSlot) :
    s.modQ i f = { s with flt := { s.flt with slots := SMap.put s.flt.slots i (f q) } } := by
  simp only [State.modQ, State.modFlt, hslot]

/-- A slot that holds actions is kept. -/
theorem State.tidyQ_held {s : State} {i : Nat} {q : QSlot} (hslot : SMap.find s.flt.slots i = some q) (hholds : q.holds ≠ []) :
    s.tidyQ i = s := by
  simp [State.tidyQ, hslot, hholds]

/-- A slot in OBSERVE that holds nothing is freed. -/
theorem State.tidyQ_empty {s : State} {i : Nat} {q : QSlot} (hslot : SMap.find s.flt.slots i = some q) (hobs : q.state = .observe)
    (hholds : q.holds = []) (hpromo : q.promo = 0) : s.tidyQ i = { s with flt := { s.flt with slots := SMap.del s.flt.slots i } } := by
  simp [State.tidyQ, hslot, hobs, hholds, hpromo, State.modFlt]

/-- FAULT_N ends without an effect of its own. -/
theorem State.endHold_faultN (s : State) : s.endHold .faultN = s := ite_self s

/-- QUENCH_ACK of a source whose actions are in force settles it (R501). -/
theorem specQuenchAck_run_held {s : State} {p : Bytes} {i : Nat} {q : QSlot} (hsrc : s.slotOfSrc (p16 p 0) = some (i, q))
    (hslot : SMap.find s.flt.slots i = some q) (hstate : q.state = .quenched) (hholds : q.holds ≠ []) (h : Hdr) :
    specQuenchAck.run h p s = .done [] { s with flt := { s.flt with slots := SMap.put s.flt.slots i { q with state := .settled } } } := by
  have htidy := State.tidyQ_held (s := { s with flt := { s.flt with slots := SMap.put s.flt.slots i { q with state := .settled } } })
    (i := i) (q := { q with state := .settled }) (by rw [SMap.find_put, if_pos rfl]) hholds
  simp only [specQuenchAck, hsrc, hstate, State.modQ_of_find hslot]
  rw [if_neg (by simpa using hholds), htidy]

/-- Releasing a slot that holds FAULT_N alone frees it. -/
theorem State.releaseQ_faultN {s : State} {i : Nat} {q : QSlot} (hslot : SMap.find s.flt.slots i = some q) (hholds : q.holds = [.faultN])
    (hpromo : q.promo = 0) : s.releaseQ i q = { s with flt := { s.flt with
      slots := SMap.del (SMap.put s.flt.slots i { q with state := .observe, holds := [] }) i } } := by
  have htidy := State.tidyQ_empty (s := { s with flt := { s.flt with slots := SMap.put s.flt.slots i { q with state := .observe, holds := [] } } })
    (i := i) (q := { q with state := .observe, holds := [] }) (by rw [SMap.find_put, if_pos rfl]) rfl rfl hpromo
  rw [State.releaseQ, State.modQ_of_find hslot, htidy, hholds]
  exact State.endHold_faultN _

/-- QUENCH_RELEASE of a settled source that holds FAULT_N alone frees its slot (R501). -/
theorem specQuenchRelease_run_faultN {s : State} {p : Bytes} {i : Nat} {q : QSlot} (hsrc : s.slotOfSrc (p16 p 0) = some (i, q))
    (hslot : SMap.find s.flt.slots i = some q) (hstate : q.state = .settled) (hholds : q.holds = [.faultN]) (hpromo : q.promo = 0) (h : Hdr) :
    specQuenchRelease.run h p s = .done [] { s with flt := { s.flt with
      slots := SMap.del (SMap.put s.flt.slots i { q with state := .observe, holds := [] }) i } } := by
  simp [specQuenchRelease, hsrc, hstate, State.releaseQ_faultN hslot hholds hpromo]

/-- SAFE_RESET with no flush asks for the start at once (R508). -/
theorem specSafeReset_run_unflushed {s : State} (hsafe : s.flag Reg.FLT_STATUS_SAFE_MODULE = true) (hflush : s.flt.flush = none) (h : Hdr) (p : Bytes) :
    specSafeReset.run h p s = .done [] { s with clk := { s.clk with startPend := some { kind := 2, trigger := 2, source := 0 } } } := by
  simp [specSafeReset, hsafe, State.resetAfterFlush, hflush, State.askStart]

/-- TOUCHSTONE_ENTER names this module and its present boot (R515). -/
theorem specTouchstoneEnter_check {s : State} {p : Bytes} (hserial : p64 p 0 = Config.deviceSerial.toNat)
    (hboot : p32 p 8 = s.get Reg.HLM_BOOT_COUNTER) (h : Hdr) : specTouchstoneEnter.check h p s = none := by
  simp [specTouchstoneEnter, firstBad, need, hserial, hboot]

/-- TOUCHSTONE_ENTER of a module under test, unlocked and not in Touchstone, turns on the token's signature (R515). -/
theorem specTouchstoneEnter_run {s : State} (htest : s.flag Reg.FLT_STATUS_TEST_EN = true) (hopen : s.flag Reg.HLM_STATUS_LOCKED = false)
    (hout : s.flag Reg.FLT_STATUS_TOUCHSTONE = false) (h : Hdr) (p : Bytes) : specTouchstoneEnter.run h p s =
      if Config.tokenSigned p = true then .done [] ((s.setFlag Reg.FLT_STATUS_TOUCHSTONE 0 true).ledge 6 0 (leBytes 4 0) (p.take 16 ++ sha p))
      else .fail stDenied := by
  by_cases hsigned : Config.tokenSigned p = true <;> simp [specTouchstoneEnter, htest, hopen, hout, hsigned]

/-- SAFE_RESET is served in the module safe state, on I3C and SMBus (R507, R508). -/
theorem State.serves_safeReset {s : State} {h : Hdr} (hon : s.clk.phase ≠ .off) (hsafe : s.flag Reg.FLT_STATUS_SAFE_MODULE = true)
    (hwired : transportWired h.req.transport = true) : s.serves specSafeReset h = true := by
  simp [State.serves, hon, hsafe, hwired, specSafeReset]

end Sys2Proof.Machine

namespace Sys2Proof.Claims

open Sys2Proof.Machine

/-! ## O29, clause by clause -/

section
variable {h : Hdr} {p : Bytes} {s : State}

/-- FAULT_INFO answers 18 bytes, the last two the slots in use (R519). -/
theorem faultInfo_reads : Reads .faultInfo 0xC800 .observe 0 always (fun _ _ s b => b.length = 18 ∧ fieldAt b 16 2 = s.flt.slots.length % 65536) := by
  intro h p s hop hpriv hlen _
  refine ⟨_, ⟨?_, ?_⟩, (reached (c := specFaultInfo) hop hpriv hlen rfl rfl).done (specFaultInfo_run h p _)⟩
  · simp [State.length_faultPointers, length_leBytes]
  · exact (State.faultReply_slots _).trans (by rw [CmdSpec.recorded_flt])

/-- FAULT_HIST_READ answers records of the ring (R519). -/
theorem faultHistRead_reads : Reads .faultHistRead 0xC801 .observe 2 (fun _ p _ => p8 p 0 < 64 ∧ 1 ≤ p8 p 1 ∧ p8 p 1 ≤ 64)
    (fun _ p s b => b = ((List.range (p8 p 1)).map (fun k => s.histBytes ((p8 p 0 + k) % 64))).flatten) := by
  rintro h p s hop hpriv hlen ⟨hfirst, hmin, hmax⟩
  have hr : Reached specFaultHistRead h p s := reached hop hpriv hlen rfl (by simp [specFaultHistRead, firstBad, need, hfirst, hmin, hmax])
  exact ⟨_, by simp, hr.done rfl⟩

/-- FAULT_ACK up to the head leaves nothing unread (R494). -/
theorem faultAck_acknowledges : Does .faultAck 0xC802 .operate 1 (fun _ p s => p8 p 0 < 64 ∧ p8 p 0 = s.get Reg.FLT_HIST_HEAD_INDEX)
    (fun _ p s => (s.set Reg.FLT_HIST_TAIL_UNREAD 0 0).set Reg.FLT_HIST_TAIL_INDEX 0 (p8 p 0)) := by
  rintro h p s hop hpriv hlen ⟨hindex, hhead⟩
  have hhead' := hhead.trans (specFaultAck.recorded_get h p s Reg.FLT_HIST_HEAD_INDEX 0 (by decide)).symm
  exact (reached (c := specFaultAck) hop hpriv hlen rfl (specFaultAck_check_head hindex hhead' h)).done (specFaultAck_run_head hhead' h)

/-- FAULT_COUNT_READ answers 4 bytes a source (R495). -/
theorem faultCountRead_reads : Reads .faultCountRead 0xC803 .observe 4
    (fun _ p _ => 0x0100 ≤ p16 p 0 ∧ p16 p 0 ≤ 0x12FF ∧ 1 ≤ p16 p 2 ∧ p16 p 2 ≤ 1016 ∧ p16 p 0 + p16 p 2 ≤ 0x1300)
    (fun _ p s b => b = ((List.range (p16 p 2)).map (fun k => leBytes 4 (SMap.get s.flt.counts (p16 p 0 + k) 0))).flatten) := by
  rintro h p s hop hpriv hlen ⟨hlow, hhigh, hmin, hmax, hend⟩
  have hr : Reached specFaultCountRead h p s :=
    reached hop hpriv hlen rfl (by simp [specFaultCountRead, firstBad, need, hlow, hhigh, hmin, hmax, hend])
  exact ⟨_, by simp, hr.done rfl⟩

/-- FAULT_SUBSCRIBE enrols the requester (R506). -/
theorem faultSubscribe_enrols : Does .faultSubscribe 0xC804 .operate 2
    (fun h p s => bitOf (p8 p 0) 0 = true ∧ 1 ≤ p8 p 1 ∧ p8 p 1 ≤ 3 ∧ (s.cmd.subs.filter (fun x => x.1 != h.req)).length < 8)
    (fun h p s => { s with cmd := { s.cmd with subs := s.cmd.subs.filter (fun x => x.1 != h.req) ++ [(h.req, p8 p 1)] } }) := by
  rintro h p s hop hpriv hlen ⟨hadd, hmin, hmax, hroom⟩
  have hr : Reached specFaultSubscribe h p s := reached hop hpriv hlen rfl (by simp [specFaultSubscribe, firstBad, need, hmin, hmax])
  refine hr.done ((if_neg (by simp [hadd])).trans (if_neg ?_))
  rw [CmdSpec.recorded_cmd]
  omega

/-- QUENCH_READ answers 12 bytes a slot (R519). -/
theorem quenchRead_reads : Reads .quenchRead 0xC810 .observe 2 (fun _ p _ => 1 ≤ p8 p 1 ∧ p8 p 0 + p8 p 1 ≤ 256)
    (fun _ p _ b => b.length = 12 * p8 p 1) := by
  rintro h p s hop hpriv hlen ⟨hmin, hend⟩
  have hr : Reached specQuenchRead h p s := reached hop hpriv hlen rfl (by simp [specQuenchRead, firstBad, need, hmin, hend])
  refine ⟨_, ?_, hr.done rfl⟩
  exact (length_flatten_map (n := 12) (fun k => by simp [State.quenchBytes, length_leBytes]) _).trans (by rw [List.length_range])

/-- QUENCH_ACK settles a source with actions in force (R501). -/
theorem quenchAck_settles {i : Nat} {q : QSlot} (hop : Operating s) (hpriv : Privileged .operate h s) (hlen : p.length = 2)
    (hsrc : s.slotOfSrc (p16 p 0) = some (i, q)) (hslot : SMap.find s.flt.slots i = some q) (hstate : q.state = .quenched) (hholds : q.holds ≠ []) :
    exec (.quenchAck h p) s = .next (answered 0xC811 stSuccess h s []
      { request 0xC811 .operate h p s with flt := { s.flt with slots := SMap.put s.flt.slots i { q with state := .settled } } }) := by
  have hdone := (reached (c := specQuenchAck) hop hpriv hlen rfl rfl).done
    (specQuenchAck_run_held (by simpa [State.slotOfSrc] using hsrc) (by simpa using hslot) hstate hholds h)
  rw [CmdSpec.recorded_flt] at hdone
  exact hdone

/-- QUENCH_RELEASE ends the actions of a settled source (R501). -/
theorem quenchRelease_frees {i : Nat} {q : QSlot} (hwf : SMap.wf s.flt.slots) (hop : Operating s) (hpriv : Privileged .operate h s)
    (hlen : p.length = 2) (hsrc : s.slotOfSrc (p16 p 0) = some (i, q)) (hslot : SMap.find s.flt.slots i = some q)
    (hstate : q.state = .settled) (hholds : q.holds = [.faultN]) (hpromo : q.promo = 0) :
    ∃ t, exec (.quenchRelease h p) s = .next (answered 0xC812 stSuccess h s [] t) ∧
      t = { request 0xC812 .operate h p s with flt := { s.flt with slots := t.flt.slots } } ∧ SMap.find t.flt.slots i = none ∧
      (∀ j, j ≠ i → SMap.find t.flt.slots j = SMap.find s.flt.slots j) := by
  have hdone := (reached (c := specQuenchRelease) hop hpriv hlen rfl rfl).done
    (specQuenchRelease_run_faultN (by simpa [State.slotOfSrc] using hsrc) (by simpa using hslot) hstate hholds hpromo h)
  rw [CmdSpec.recorded_flt] at hdone
  refine ⟨_, hdone, rfl, SMap.find_del_self _ _ (SMap.wf_put _ _ _ hwf), fun j hj => ?_⟩
  exact (SMap.find_del_ne _ hj.symm).trans ((SMap.find_put ..).trans (if_neg hj.symm))

/-- FAULT_DUMP_READ answers the bytes asked for (R511). -/
theorem faultDumpRead_reads : Reads .faultDumpRead 0xC820 .observe 8
    (fun _ p s => 4 ≤ p32 p 4 ∧ p32 p 4 ≤ 4064 ∧ p32 p 4 % 4 = 0 ∧ p32 p 0 + p32 p 4 ≤ 0x800000 ∧ s.flt.erase = none)
    (fun _ p s b => b = (List.range (p32 p 4)).map (fun k => s.dumpByte (p32 p 0 + k))) := by
  rintro h p s hop hpriv hlen ⟨hmin, hmax, hwords, hend, herase⟩
  have hinside : p32 p 0 < 0x800000 := by omega
  have hr : Reached specFaultDumpRead h p s :=
    reached hop hpriv hlen rfl (by simp [specFaultDumpRead, firstBad, need, hmin, hmax, hwords, hend, hinside])
  exact ⟨_, by simp, hr.done (if_neg (by simp [herase]))⟩

/-- FAULT_DUMP_RELEASE starts the erase (R511). -/
theorem faultDumpRelease_starts : Starts .faultDumpRelease 0xC821 .admin 0 false (fun _ _ s => s.flt.flush = none ∧ s.flt.erase = none)
    (fun _ _ s => { s with flt := { s.flt with dump := none, lossBuf := none, erase := some s.cmd.nextBg } }) := by
  rintro h p s hop hpriv hlen hroom ⟨hflush, herase⟩
  exact (reached (c := specFaultDumpRelease) hop hpriv hlen rfl rfl).started hroom (if_neg (by simp [hflush, herase]))

/-- SAFE_RESET in the module safe state asks for a MODULE start (R508). -/
theorem safeReset_asks (hon : s.clk.phase ≠ .off) (hsafe : s.flag Reg.FLT_STATUS_SAFE_MODULE = true)
    (hwired : transportWired h.req.transport = true) (hpriv : Privileged .admin h s) (hlen : p.length = 0) (hflush : s.flt.flush = none) :
    exec (.safeReset h p) s = .next (answered 0xC822 stSuccess h s []
      { request 0xC822 .admin h p s with clk := { s.clk with startPend := some { kind := 2, trigger := 2, source := 0 } } }) := by
  have hsafe' : (specSafeReset.recorded h p s).flag Reg.FLT_STATUS_SAFE_MODULE = true :=
    (specSafeReset.recorded_flag h p s _ _ (by decide)).trans hsafe
  have hmay : (specSafeReset.recorded h p s).mayIssue specSafeReset h p = true :=
    State.mayIssue_of _ _ _ _ (by rw [CmdSpec.recorded_privOf]; exact hpriv.1) (by rw [CmdSpec.recorded_privOf]; exact hpriv.2)
  have hserves := State.serves_safeReset (s := specSafeReset.recorded h p s) (by simpa using hon) hsafe' hwired
  have hrun := specSafeReset_run_unflushed hsafe' (by rw [CmdSpec.recorded_flt]; exact hflush) h p
  have hdone := specSafeReset.direct_done hon (if_pos hlen) ((specSafeReset.outcome_run hmay rfl rfl rfl hserves).trans (by rw [hrun]))
  rw [CmdSpec.recorded_clk] at hdone
  exact hdone

/-- TOUCHSTONE_ENTER sets TOUCHSTONE with a ledger entry, for a token that is signed (R515, R516). -/
theorem touchstoneEnter_enters (hop : Operating s) (hpriv : Privileged .operate h s) (hlen : p.length = 112)
    (hwired : transportWired h.req.transport = true) (htest : s.flag Reg.FLT_STATUS_TEST_EN = true) (hopen : s.flag Reg.HLM_STATUS_LOCKED = false)
    (hout : s.flag Reg.FLT_STATUS_TOUCHSTONE = false) (hserial : p64 p 0 = Config.deviceSerial.toNat)
    (hboot : p32 p 8 = s.get Reg.HLM_BOOT_COUNTER) :
    exec (.touchstoneEnter h p) s = .next (if Config.tokenSigned p = true then answered 0xCF00 stSuccess h s []
        (((request 0xCF00 .operate h p s).setFlag Reg.FLT_STATUS_TOUCHSTONE 0 true).ledge 6 0 (leBytes 4 0) (p.take 16 ++ sha p))
      else answered 0xCF00 stDenied h s [] (request 0xCF00 .operate h p s)) := by
  have hboot' := hboot.trans (specTouchstoneEnter.recorded_get h p s Reg.HLM_BOOT_COUNTER 0 (by decide)).symm
  have htest' := (specTouchstoneEnter.recorded_flag h p s Reg.FLT_STATUS_TEST_EN 0 (by decide)).trans htest
  have hopen' := (specTouchstoneEnter.recorded_flag h p s Reg.HLM_STATUS_LOCKED 0 (by decide)).trans hopen
  have hout' := (specTouchstoneEnter.recorded_flag h p s Reg.FLT_STATUS_TOUCHSTONE 0 (by decide)).trans hout
  have hr : Reached specTouchstoneEnter h p s :=
    reached hop hpriv hlen rfl (specTouchstoneEnter_check hserial hboot' h) (hdeny := by simp [specTouchstoneEnter, hwired])
  have hrun := specTouchstoneEnter_run htest' hopen' hout' h p
  by_cases hsigned : Config.tokenSigned p = true
  · rw [if_pos hsigned] at hrun ⊢
    exact hr.done hrun
  · rw [if_neg hsigned] at hrun ⊢
    exact hr.fails hrun

/-- FAULT_INJECT of one header check arms it (R517). -/
theorem faultInject_arms : Does .faultInject 0xCF10 .factory 16
    (fun _ p s => s.flag Reg.FLT_STATUS_TOUCHSTONE = true ∧ p8 p 0 = 5 ∧ p8 p 1 = 1 ∧ p8 (p.drop 8) 0 < 5)
    (fun _ p s => { s with flt := { s.flt with hchkInject := s.flt.hchkInject ++ [p8 (p.drop 8) 0] } }) := by
  rintro h p s hop hpriv hlen ⟨htouch, hkind, hone, harg⟩
  have htouch' := specFaultInject.recorded_flag h p s Reg.FLT_STATUS_TOUCHSTONE 0 (by decide)
  have hr : Reached specFaultInject h p s := reached hop hpriv hlen rfl
    (by simp [specFaultInject, firstBad, need, hkind, hone, injectArgOk, harg]) (hdeny := congrArg (!·) (htouch'.trans htouch))
  exact hr.done (by simp only [specFaultInject, hkind, hone]; rfl)

/-- The next injection of a command that has more to come (R517). -/
theorem injectionDelayExpiry_arms {x : Injection} {xs : List Injection} (hinject : s.flt.inject = x :: xs) (hkind : x.kind = 5) (hleft : 2 ≤ x.left) :
    exec .injectionDelayExpiry s = .next { s with
      flt := { s.flt with inject := xs ++ [{ x with left := x.left - 1 }], hchkInject := s.flt.hchkInject ++ [p8 x.arg 0] } } := by
  have hmore : ¬ x.left ≤ 1 := by omega
  refine congrArg Host.Outcome.next ?_
  simp only [hinject, hkind, if_neg hmore]
  rfl

end

/-- Settles O29: the lemmas above, one for each clause. -/
theorem faultCommands : Obligations.FaultCommands :=
  ⟨faultInfo_reads, faultHistRead_reads, faultAck_acknowledges, faultCountRead_reads, faultSubscribe_enrols, quenchRead_reads,
    fun _ _ _ _ _ => quenchAck_settles, fun _ _ _ _ _ => quenchRelease_frees, faultDumpRead_reads, faultDumpRelease_starts,
    fun _ _ _ => safeReset_asks, fun _ _ _ => touchstoneEnter_enters, faultInject_arms, fun _ _ _ => injectionDelayExpiry_arms⟩

end Sys2Proof.Claims

namespace Sys2Proof.Machine

/-! ## A gap that a freeze keeps open (R577, R578) -/

/-- An input that would overwrite a protected record is counted, and a gap is open. -/
theorem State.record_blocked {s : State} {typ flags : Nat} {payload : Bytes} (hup : s.mainUp = true)
    (hblocked : s.trec.blocked (roundUp (32 + payload.length) 16) = true) :
    (s.record typ flags payload).trec.gapFrom = some (s.trec.gapFrom.getD s.trec.next) := by
  simp [State.record, hup, TRec.len, hblocked]

/-- Closing a gap whose GAP record would overwrite a protected record opens the next one. -/
theorem State.closeGap_blocked {s : State} {f cause : Nat} (hup : s.mainUp = true) (hgap : s.trec.gapFrom = some f)
    (hblocked : Rec.blocked { s.trec with gapFrom := none, gapCount := 0, gapCause := 0 } 64 = true) :
    (s.closeGap cause).trec.gapFrom = some s.trec.next := by
  simp only [State.closeGap, hgap]
  exact State.record_blocked (s := s.modRec (fun t => { t with gapFrom := none, gapCount := 0, gapCause := 0 })) hup
    (by simpa [length_leBytes, roundUp, State.modRec] using hblocked)

end Sys2Proof.Machine

namespace Sys2Proof.Claims

open Sys2Proof.Machine

/-- The oldest record of a full Transcript. -/
def frozenRecord : TRec := { typ := 0x01, flags := 0, seq := 0, time := 0, quality := 0, epoch := 0, boot := 0, payload := [], bad := false }

/-- The Transcript region is full, a freeze protects it from its oldest record on, and the input buffer that was full has room again. -/
def frozenGap : State :=
  { State.reset with
    clk := { Clk.reset with phase := .ready }
    trec := { Rec.reset with next := 2, gapFrom := some 1, gapCount := 1, gapCause := 2, frozen := some 0, records := [frozenRecord],
                             bytes := transcriptBytes } }

/-- Refutes O26: a freeze that protects the whole of a full ring keeps the GAP record out too, so with room in the input buffer again the
gap stays open (R578). -/
theorem not_transcriptRecording : ¬ Obligations.TranscriptRecording := by
  rintro ⟨-, -, -, -, -, hroom, -⟩
  obtain ⟨t, hexec, hclosed, -⟩ := hroom 1 frozenGap rfl rfl rfl
  have hopen : ((frozenGap.modRec (fun t => { t with bufBytes := 0 })).closeGap 2).trec.gapFrom = some 2 :=
    State.closeGap_blocked (f := 1) rfl rfl (by decide)
  have hnext : t = (frozenGap.modRec (fun t => { t with bufBytes := 0 })).closeGap 2 := (Host.Outcome.next.inj hexec).symm
  rw [hnext, hopen] at hclosed
  exact absurd hclosed (by simp)

end Sys2Proof.Claims

namespace Sys2Proof.Machine

/-! ## Fields read after a write to a one-bit field or a record -/

/-- Writing a one-bit field leaves every field with another key. -/
theorem State.get_setFlag_ne (s : State) {f g : Field} {i j : Nat} (hkey : f.key i ≠ g.key j) (b : Bool) :
    (s.setFlag f i b).get g j = s.get g j :=
  s.get_set_ne f g i j _ hkey

/-- So it does for a one-bit field with another key. -/
theorem State.flag_setFlag_ne (s : State) {f g : Field} {i j : Nat} (hkey : f.key i ≠ g.key j) (b : Bool) :
    (s.setFlag f i b).flag g j = s.flag g j :=
  congrArg (fun v => v % 2 == 1) (s.get_setFlag_ne hkey b)

/-- Writing a field leaves every one-bit field with another key. -/
theorem State.flag_set_ne (s : State) {f g : Field} {i j : Nat} (hkey : f.key i ≠ g.key j) (v : Nat) :
    (s.set f i v).flag g j = s.flag g j :=
  congrArg (fun v => v % 2 == 1) (s.get_set_ne f g i j v hkey)

/-- A one-bit field reads as it was written. -/
theorem State.flag_setFlag_self {s : State} (hwf : SMap.wf s.regs) {f : Field} (hwidth : f.width = 1) (i : Nat) (b : Bool) :
    (s.setFlag f i b).flag f i = b := by
  have hget : (s.setFlag f i b).get f i = b2n b % 2 ^ f.width := s.get_set_self f i _ hwf
  rw [State.flag, hget, hwidth]
  cases b <;> rfl

theorem State.wf_setFlag {s : State} (hwf : SMap.wf s.regs) (f : Field) (i : Nat) (b : Bool) : SMap.wf (s.setFlag f i b).regs :=
  s.wf_set f i _ hwf

/-- A loop keeps what its body keeps. -/
theorem forEach_keeps {α β : Type} {P : β → Prop} {l : List α} {f : α → β → β} (hf : ∀ a ∈ l, ∀ b, P b → P (f a b)) {b : β} (hb : P b) :
    P (forEach l f b) := by
  induction l generalizing b with
  | nil => exact hb
  | cons a l ih => exact ih (fun x hx => hf x (List.mem_cons_of_mem a hx)) (hf a List.mem_cons_self b hb)

end Sys2Proof.Machine

namespace Sys2Proof.Machine

/-! ## What a record leaves of the recorder (R569) -/

/-- A record leaves the running replay. -/
@[simp] theorem State.record_replay (s : State) (typ flags : Nat) (payload : Bytes) : (s.record typ flags payload).trec.replay = s.trec.replay := by
  simp only [State.record]
  split
  · rfl
  · split <;> rfl

/-- So it does the outcome of the last one. -/
@[simp] theorem State.record_lastReplay (s : State) (typ flags : Nat) (payload : Bytes) :
    (s.record typ flags payload).trec.lastReplay = s.trec.lastReplay := by
  simp only [State.record]
  split
  · rfl
  · split <;> rfl

@[simp] theorem CmdSpec.recorded_replay (c : CmdSpec) (h : Hdr) (p : Bytes) (s : State) : (c.recorded h p s).trec.replay = s.trec.replay :=
  State.record_replay ..

@[simp] theorem CmdSpec.recorded_sameImage (c : CmdSpec) (h : Hdr) (p : Bytes) (s : State) (r : TRec) :
    (c.recorded h p s).sameImage r = s.sameImage r := by
  simp only [State.sameImage, CmdSpec.recorded_hlm]

/-! ## Checkpoints (R575) -/

/-- `t` is `s` but for TRANSCRIPT's registers and the transcript. -/
def RecordsOnly (s t : State) : Prop := ∃ regs trec, t = { s with regs := regs, trec := trec }

theorem RecordsOnly.record {s t : State} (h : RecordsOnly s t) (typ flags : Nat) (payload : Bytes) :
    RecordsOnly s (t.record typ flags payload) := by
  obtain ⟨regs, trec, rfl⟩ := h
  obtain ⟨regs', trec', hrec⟩ := State.record_frame { s with regs := regs, trec := trec } typ flags payload
  exact ⟨regs', trec', hrec⟩

/-- A checkpoint is its records, with the journal flushed and its replay state drawn. -/
theorem State.checkpoint_frame (s : State) :
    RecordsOnly { s with fresh := s.fresh + 1, jnl := s.jnl.flushed } s.checkpoint := by
  unfold State.checkpoint
  extract_lets s₁ d s₂ n first s₃ ps s₄ whole
  have hhead : RecordsOnly { s with fresh := s.fresh + 1, jnl := s.jnl.flushed } s₃ :=
    RecordsOnly.record ⟨s.regs, s.trec, rfl⟩ _ _ _
  have hparts : RecordsOnly { s with fresh := s.fresh + 1, jnl := s.jnl.flushed } s₄ :=
    forEach_keeps (fun x _ t ht => by
      obtain ⟨regs, trec, rfl⟩ := ht
      exact RecordsOnly.record ⟨regs, { trec with bufBytes := 0 }, rfl⟩ _ _ _) hhead
  obtain ⟨regs, trec, hs₄⟩ := hparts
  split
  · exact ⟨regs, { trec with checkpoint := some first }, by rw [hs₄]; rfl⟩
  · exact ⟨regs, trec, hs₄⟩

/-! ## The transcript commands (R578, R582, R583, R586) -/

/-- TRANSCRIPT_READ of bytes within a record that is not in a lost page. -/
theorem specTranscriptRead_check_held {s : State} {p : Bytes} {r : TRec} (hrec : s.trec.at (p64 p 0) = some r) (hmin : 4 ≤ p32 p 12)
    (hmax : p32 p 12 ≤ 4064) (hend : p32 p 8 + p32 p 12 ≤ r.len) (h : Hdr) : specTranscriptRead.check h p s = none := by
  simp [specTranscriptRead, firstBad, need, hrec, hmin, hmax, hend]

theorem specTranscriptRead_run_held {s : State} {p : Bytes} {r : TRec} (hrec : s.trec.at (p64 p 0) = some r) (hgood : r.bad = false) (h : Hdr) :
    specTranscriptRead.run h p s = .done (slice r.toBytes (p32 p 8) (p32 p 12)) s := by
  simp [specTranscriptRead, hrec, hgood]

/-- TRANSCRIPT_EXPORT of a range that the ring holds. -/
theorem specTranscriptExport_check_held {s : State} {p : Bytes} (hold : s.trec.oldest ≤ p64 p 0) (hrange : p64 p 0 ≤ p64 p 8)
    (hnext : p64 p 8 < s.trec.next) (haddr : p64 p 16 % 4096 = 0) (h : Hdr) : specTranscriptExport.check h p s = none := by
  simp [specTranscriptExport, firstBad, need, hold, hrange, hnext, haddr, Nat.lt_of_le_of_lt hrange hnext]

/-- With no record in a lost page it writes all of them. -/
theorem specTranscriptExport_run_good {s : State} {p : Bytes} {u : Nat} (husp : s.mgmtUsp = some u)
    (hgood : s.trec.records.all (fun r => !r.bad) = true) (h : Hdr) :
    ∃ bs, specTranscriptExport.run h p s = .finished (s.emit (.hostWrite u 0x8000 (p64 p 16) bs)) stSuccess (leBytes 8 bs.length) := by
  have htake : (s.trec.records.filter (fun r => p64 p 0 ≤ r.seq && r.seq ≤ p64 p 8)).reverse.takeWhile (fun r => !r.bad) =
      (s.trec.records.filter (fun r => p64 p 0 ≤ r.seq && r.seq ≤ p64 p 8)).reverse :=
    List.takeWhile_eq_self_iff.2 fun r hr => List.all_eq_true.1 hgood r (List.mem_filter.1 (List.mem_reverse.1 hr)).1
  simp only [specTranscriptExport, husp, htake, State.exportBytes, Option.isNone_some, Option.getD_some, Bool.false_eq_true, if_false, if_true]
  exact ⟨_, rfl⟩

/-- TRANSCRIPT_CHECKPOINT ends at once, its reply the SEQ of the checkpoint's first record. -/
theorem specTranscriptCheckpoint_run (h : Hdr) (p : Bytes) (s : State) :
    specTranscriptCheckpoint.run h p s = .finished s.checkpoint stSuccess (leBytes 8 s.trec.next) := rfl

/-- REPLAY_START from the first part of a checkpoint. -/
theorem specReplayStart_check_held {s : State} {p : Bytes} {c : TRec} (hrec : s.trec.at (p64 p 0) = some c) (htyp : c.typ = 0x02)
    (hpart : fieldAt c.payload 0 2 = 0) (hrange : p64 p 0 ≤ p64 p 8) (hnext : p64 p 8 < s.trec.next) (h : Hdr) :
    specReplayStart.check h p s = none := by
  simp [specReplayStart, firstBad, need, hrec, htyp, hpart, hrange, hnext]

/-- With three healthy cores, the image of the record and free pages it begins. -/
theorem specReplayStart_run_begins {s : State} {p : Bytes} {z : TRec} (hstart : s.trec.startOf (p64 p 0) = some z)
    (himage : s.sameImage z = true) (hcores : s.cmd.cores.all id = true) (hidle : s.trec.replay = none)
    (hpages : 131072 ≤ s.get Reg.VLT_UNALLOC_FREE) (h : Hdr) :
    specReplayStart.run h p s = .started ((((s.modRec (fun x =>
      { x with replay := some { bgId := s.cmd.nextBg, first := p64 p 0, last := p64 p 8, done := 0, commits := 0 } })).setFlag
        Reg.REC_STATUS_REPLAY 0 true).set Reg.VLT_UNALLOC_FREE 0 (s.get Reg.VLT_UNALLOC_FREE - 131072)).recordMark 3 (p64 p 0)) false := by
  refine (if_neg ?_).trans ((if_neg (Nat.not_lt.2 hpages)).trans ?_)
  · simp [hstart, himage, hcores, hidle]
  · have hkept := (s.modRec (fun x =>
      { x with replay := some { bgId := s.cmd.nextBg, first := p64 p 0, last := p64 p 8, done := 0, commits := 0 } })).get_setFlag_ne
        (f := Reg.REC_STATUS_REPLAY) (g := Reg.VLT_UNALLOC_FREE) (i := 0) (j := 0) (by decide) true
    dsimp only
    rw [hkept]
    rfl

/-- REPLAY_ABORT of a running replay ends it with CONFLICT. -/
theorem specReplayAbort_run {s : State} {r : Replay} (hrun : s.trec.replay = some r) (h : Hdr) (p : Bytes) :
    specReplayAbort.run h p s = .done [] (s.endReplay r 0 r.done r.commits 0 stConflict) := by
  simp only [specReplayAbort, hrun]

/-- The state of a replay's end before its MARK record, when it did not diverge. -/
def State.replayReleased (s : State) (r : Replay) : State :=
  ((s.modRec (fun t => { t with replay := none, lastReplay := some (0, r.done, r.commits, 0) })).setFlag Reg.REC_STATUS_REPLAY 0 false).set
    Reg.VLT_UNALLOC_FREE 0 (s.get Reg.VLT_UNALLOC_FREE + 131072)

theorem State.replayReleased_frame (s : State) (r : Replay) : ∃ regs, s.replayReleased r =
    { s with regs := regs, trec := { s.trec with replay := none, lastReplay := some (0, r.done, r.commits, 0) } } := ⟨_, rfl⟩

/-- A replay that did not diverge ends without a report. -/
theorem State.endReplay_undiverged (s : State) (r : Replay) (status : Nat) :
    s.endReplay r 0 r.done r.commits 0 status = ((s.replayReleased r).recordMark 4 r.last).endBg r.bgId status [] := by
  have hget := (s.modRec (fun t => { t with replay := none, lastReplay := some (0, r.done, r.commits, 0) })).get_setFlag_ne
    (f := Reg.REC_STATUS_REPLAY) (g := Reg.VLT_UNALLOC_FREE) (i := 0) (j := 0) (by decide) false
  simp only [State.endReplay, hget]
  rfl

end Sys2Proof.Machine

namespace Sys2Proof.Claims

open Sys2Proof.Machine

/-- The entry of a background command is the one its row gives it. -/
theorem background_eq_beginBg (c : CmdSpec) {op : Nat} (hop : op = c.opcode) (h : Hdr) (p : Bytes) (s t : State) (j : Bool) :
    background op h p s j t = t.beginBg c h p s.trec.next j := by
  rw [hop]
  rfl

/-! ## O27, clause by clause -/

section
variable {h : Hdr} {p : Bytes} {s : State}

theorem transcriptInfo_reads : Reads .transcriptInfo 0xCB00 .observe 0 always (fun _ _ _ b => b.length = 32) := by
  intro h p s hop hpriv hlen _
  exact ⟨_, by simp [length_leBytes], (reached (c := specTranscriptInfo) hop hpriv hlen rfl rfl).done rfl⟩

/-- TRANSCRIPT_READ answers bytes of a held record (R586). -/
theorem transcriptRead_reads {r : TRec} (hop : Operating s) (hpriv : Privileged .observe h s) (hlen : p.length = 16)
    (hrec : (request 0xCB01 .observe h p s).trec.at (p64 p 0) = some r) (hgood : r.bad = false) (hmin : 4 ≤ p32 p 12) (hmax : p32 p 12 ≤ 4064)
    (hend : p32 p 8 + p32 p 12 ≤ r.len) :
    exec (.transcriptRead h p) s = .next (answered 0xCB01 stSuccess h s (slice r.toBytes (p32 p 8) (p32 p 12)) (request 0xCB01 .observe h p s)) :=
  (reached (c := specTranscriptRead) hop hpriv hlen rfl (specTranscriptRead_check_held hrec hmin hmax hend h)).done
    (specTranscriptRead_run_held hrec hgood h)

/-- TRANSCRIPT_EXPORT writes a range to the host (R586). -/
theorem transcriptExport_exports {u : Nat} (hop : Operating s) (hpriv : Privileged .operate h s) (hlen : p.length = 24)
    (hroom : s.cmd.bg.length < 16) (husp : s.mgmtUsp = some u) (hold : (request 0xCB02 .operate h p s).trec.oldest ≤ p64 p 0)
    (hrange : p64 p 0 ≤ p64 p 8) (hnext : p64 p 8 < (request 0xCB02 .operate h p s).trec.next) (haddr : p64 p 16 % 4096 = 0)
    (hgood : (request 0xCB02 .operate h p s).trec.records.all (fun r => !r.bad) = true) :
    ∃ bs : Bytes, exec (.transcriptExport h p) s = .next (answered 0xCB02 stStarted h s [] ((background 0xCB02 h p s false
      ((request 0xCB02 .operate h p s).emit (.hostWrite u 0x8000 (p64 p 16) bs))).endBg s.cmd.nextBg stSuccess (leBytes 8 bs.length))) := by
  have hr : Reached specTranscriptExport h p s :=
    reached hop hpriv hlen rfl (specTranscriptExport_check_held hold hrange hnext haddr h)
  obtain ⟨bs, hrun⟩ := specTranscriptExport_run_good (s := specTranscriptExport.recorded h p s) (p := p)
    (by rw [CmdSpec.recorded_mgmtUsp]; exact husp) hgood h
  exact ⟨bs, hr.finished hroom hrun (specTranscriptExport.recorded_cmd h p s)⟩

/-- TRANSCRIPT_FREEZE protects records from a SEQ on (R578). -/
theorem transcriptFreeze_freezes : Does .transcriptFreeze 0xCB03 .operate 16 (fun _ p _ => bitOf (p8 p 0) 0 = true)
    (fun _ p s => ({ s with trec := { s.trec with frozen := some (p64 p 8) } }.setFlag Reg.REC_STATUS_FROZEN 0 true).recordMark 1 (p64 p 8)) :=
  fun _ _ _ hop hpriv hlen hfreeze => (reached (c := specTranscriptFreeze) hop hpriv hlen rfl rfl).done (if_pos hfreeze)

/-- TRANSCRIPT_FREEZE thaws the records (R578). -/
theorem transcriptFreeze_thaws : Does .transcriptFreeze 0xCB03 .operate 16 (fun _ p _ => bitOf (p8 p 0) 0 = false)
    (fun _ p s => (({ s with trec := { s.trec with frozen := none } }.setFlag Reg.REC_STATUS_FROZEN 0 false).closeGap 3).recordMark 2 (p64 p 8)) :=
  fun _ _ _ hop hpriv hlen hthaw => (reached (c := specTranscriptFreeze) hop hpriv hlen rfl rfl).done (if_neg (by simp [hthaw]))

/-- TRANSCRIPT_CHECKPOINT makes a checkpoint and answers its SEQ (R575). -/
theorem transcriptCheckpoint_makes (hop : Operating s) (hpriv : Privileged .operate h s) (hlen : p.length = 0) (hroom : s.cmd.bg.length < 16) :
    exec (.transcriptCheckpoint h p) s = .next (answered 0xCB04 stStarted h s [] ((background 0xCB04 h p s false
      (request 0xCB04 .operate h p s).checkpoint).endBg s.cmd.nextBg stSuccess (leBytes 8 (request 0xCB04 .operate h p s).trec.next))) := by
  have hcmd : (specTranscriptCheckpoint.recorded h p s).checkpoint.cmd = s.cmd := by
    obtain ⟨_, _, hframe⟩ := (specTranscriptCheckpoint.recorded h p s).checkpoint_frame
    rw [hframe]
    exact specTranscriptCheckpoint.recorded_cmd h p s
  rw [background_eq_beginBg specTranscriptCheckpoint (op := 0xCB04) rfl]
  exact (reached (c := specTranscriptCheckpoint) hop hpriv hlen rfl rfl).finished hroom (specTranscriptCheckpoint_run h p _) hcmd

/-- REPLAY_START begins a replay (R582). -/
theorem replayStart_begins {c z : TRec} (hop : Operating s) (hpriv : Privileged .operate h s) (hlen : p.length = 16)
    (hroom : s.cmd.bg.length < 16) (hrec : (request 0xCB10 .operate h p s).trec.at (p64 p 0) = some c) (htyp : c.typ = 0x02)
    (hpart : fieldAt c.payload 0 2 = 0) (hrange : p64 p 0 ≤ p64 p 8) (hnext : p64 p 8 < (request 0xCB10 .operate h p s).trec.next)
    (hstart : (request 0xCB10 .operate h p s).trec.startOf (p64 p 0) = some z) (himage : s.sameImage z = true)
    (hcores : s.cmd.cores.all id = true) (hidle : s.trec.replay = none) (hpages : 131072 ≤ s.get Reg.VLT_UNALLOC_FREE) :
    exec (.replayStart h p) s = .next (answered 0xCB10 stStarted h s [] (background 0xCB10 h p s false
      (((((request 0xCB10 .operate h p s).modRec (fun x =>
        { x with replay := some { bgId := s.cmd.nextBg, first := p64 p 0, last := p64 p 8, done := 0, commits := 0 } })).setFlag
          Reg.REC_STATUS_REPLAY 0 true).set Reg.VLT_UNALLOC_FREE 0 (s.get Reg.VLT_UNALLOC_FREE - 131072)).recordMark 3 (p64 p 0)))) := by
  have hfree := specReplayStart.recorded_get h p s Reg.VLT_UNALLOC_FREE 0 (by decide)
  have hrun := specReplayStart_run_begins (s := specReplayStart.recorded h p s) hstart (by rwa [CmdSpec.recorded_sameImage])
    (by rwa [CmdSpec.recorded_cmd]) (by rwa [CmdSpec.recorded_replay]) (by rwa [hfree]) h
  rw [hfree, CmdSpec.recorded_cmd] at hrun
  exact (reached (c := specReplayStart) hop hpriv hlen rfl (specReplayStart_check_held hrec htyp hpart hrange hnext h)).started hroom hrun

/-- REPLAY_STATUS answers 32 bytes, the first whether a replay runs (R586). -/
theorem replayStatus_reads : Reads .replayStatus 0xCB11 .observe 0 always (fun _ _ s b => b.length = 32 ∧ fieldAt b 0 1 = b2n s.trec.replay.isSome) := by
  intro h p s hop hpriv hlen _
  refine ⟨_, ⟨?_, ?_⟩, (reached (c := specReplayStatus) hop hpriv hlen rfl rfl).done rfl⟩
  · simp [length_leBytes]
  · simp only [List.append_assoc]
    rw [fieldAt_leBytes_zero, CmdSpec.recorded_replay]
    cases s.trec.replay <;> rfl

/-- REPLAY_ABORT ends the replay (R583). -/
theorem replayAbort_ends {r : Replay} (hop : Operating s) (hpriv : Privileged .operate h s) (hlen : p.length = 0) (hreplay : s.trec.replay = some r) :
    exec (.replayAbort h p) s = .next (answered 0xCB12 stSuccess h s []
      ((request 0xCB12 .operate h p s).endReplay r 0 r.done r.commits 0 stConflict)) :=
  (reached (c := specReplayAbort) hop hpriv hlen rfl rfl).done (specReplayAbort_run ((CmdSpec.recorded_replay ..).trans hreplay) h p)

/-- REPLAY_END for a failover ends the replay and releases its pages (R583). -/
theorem replayEnd_failover {r : Replay} (hwf : SMap.wf s.regs) (hreplay : s.trec.replay = some r) :
    ∃ t, exec (.replayEnd .failover) s = .next t ∧ t.trec.replay = none ∧ t.trec.lastReplay = some (0, r.done, r.commits, 0) ∧
      t.flag Reg.REC_STATUS_REPLAY = false ∧ t.get Reg.VLT_UNALLOC_FREE = (s.get Reg.VLT_UNALLOC_FREE + 131072) % 2 ^ 21 ∧
      t.cmd.bg = updFirst (fun b : Background => b.id == r.bgId && b.result.isNone) (fun b => { b with result := some (stHwFault, []) }) s.cmd.bg ∧
      t.pol = s.pol ∧ t.jnl = s.jnl := by
  have hexec : exec (.replayEnd .failover) s = .next (s.endReplay r 0 r.done r.commits 0 stHwFault) := by
    change execReplayEnd .failover s = _
    simp only [execReplayEnd, hreplay]
  rw [State.endReplay_undiverged] at hexec
  have hflag : (s.replayReleased r).flag Reg.REC_STATUS_REPLAY = false :=
    (State.flag_set_ne _ (by decide) _).trans
      (State.flag_setFlag_self (s := s.modRec (fun t => { t with replay := none, lastReplay := some (0, r.done, r.commits, 0) })) hwf rfl 0 false)
  have hpages : (s.replayReleased r).get Reg.VLT_UNALLOC_FREE = (s.get Reg.VLT_UNALLOC_FREE + 131072) % 2 ^ 21 :=
    State.get_set_self _ Reg.VLT_UNALLOC_FREE 0 _ (State.wf_setFlag (s := s.modRec _) hwf ..)
  obtain ⟨regs, hframe⟩ := s.replayReleased_frame r
  generalize s.replayReleased r = x at hexec hflag hpages hframe
  have hflag' : (x.recordMark 4 r.last).flag Reg.REC_STATUS_REPLAY = false :=
    (State.record_flag x 0x0D 0 _ Reg.REC_STATUS_REPLAY 0 (by decide)).trans hflag
  have hpages' : (x.recordMark 4 r.last).get Reg.VLT_UNALLOC_FREE = (s.get Reg.VLT_UNALLOC_FREE + 131072) % 2 ^ 21 :=
    (State.record_get x 0x0D 0 _ Reg.VLT_UNALLOC_FREE 0 (by decide)).trans hpages
  have hbg : (x.recordMark 4 r.last).cmd = s.cmd := (State.record_cmd ..).trans (by rw [hframe])
  refine ⟨_, hexec, (State.record_replay x 0x0D 0 _).trans (by rw [hframe]), (State.record_lastReplay x 0x0D 0 _).trans (by rw [hframe]),
    hflag', hpages', ?_, (State.record_pol x 0x0D 0 _).trans (by rw [hframe]), (State.record_jnl x 0x0D 0 _).trans (by rw [hframe])⟩
  rw [← hbg]
  rfl

end

/-- Settles O27: the lemmas above, one for each clause. -/
theorem transcriptCommandsAndReplay : Obligations.TranscriptCommandsAndReplay :=
  ⟨transcriptInfo_reads, fun _ _ _ _ => transcriptRead_reads, fun _ _ _ _ => transcriptExport_exports, transcriptFreeze_freezes,
    transcriptFreeze_thaws, fun _ _ _ => transcriptCheckpoint_makes, fun _ _ _ _ _ => replayStart_begins, replayStatus_reads,
    fun _ _ _ _ => replayAbort_ends, fun _ _ => replayEnd_failover⟩

end Sys2Proof.Claims

namespace Sys2Proof.Machine

/-! ## Measurements of the time servo (R563) -/

/-- `s` with the offset of a measurement shown and the frequency adjusted. -/
def State.measured (s : State) (off : Int) : State :=
  let t := s.set Reg.TIM_OFFSET 0 (unsignedOf 32 (off / nsUnit))
  if s.tim.oscillator then t.drawn else t.drawn.set Reg.TIM_FREQ_ADJ 0 (unsignedOf 32 (servoF t.free))

theorem State.measured_frame (s : State) (off : Int) : ∃ regs, s.measured off = { s with regs := regs, fresh := s.fresh + 1 } := by
  unfold State.measured
  dsimp only
  split
  · exact ⟨_, rfl⟩
  · exact ⟨_, rfl⟩

/-- A measurement writes the offset and the frequency adjustment alone. -/
theorem State.find_measured {s : State} {off : Int} {k : Nat} (hoff : Reg.TIM_OFFSET.key 0 ≠ k) (hadj : Reg.TIM_FREQ_ADJ.key 0 ≠ k) :
    SMap.find (s.measured off).regs k = SMap.find s.regs k := by
  unfold State.measured
  dsimp only
  split
  · exact SMap.find_store_ne _ _ _ hoff
  · exact (SMap.find_store_ne _ _ _ hadj).trans (SMap.find_store_ne _ _ _ hoff)

/-- It leaves the fields with other keys. -/
theorem State.get_measured (s : State) (off : Int) {f : Field} {i : Nat} (hoff : Reg.TIM_OFFSET.key 0 ≠ f.key i)
    (hadj : Reg.TIM_FREQ_ADJ.key 0 ≠ f.key i) : (s.measured off).get f i = s.get f i := by
  rw [State.get, State.get, SMap.get, SMap.get, State.find_measured hoff hadj]

/-- An offset in the register's 32 bits. -/
theorem unsignedOf_mod (x : Int) : unsignedOf 32 x % 2 ^ 32 = unsignedOf 32 x := by
  simp only [unsignedOf]
  omega

/-- The offset shown is read back. -/
theorem State.get_measured_offset {s : State} (hwf : SMap.wf s.regs) (off : Int) :
    (s.measured off).get Reg.TIM_OFFSET = unsignedOf 32 (off / nsUnit) := by
  have hshown : (s.set Reg.TIM_OFFSET 0 (unsignedOf 32 (off / nsUnit))).get Reg.TIM_OFFSET = unsignedOf 32 (off / nsUnit) :=
    (s.get_set_self Reg.TIM_OFFSET 0 _ hwf).trans (unsignedOf_mod _)
  unfold State.measured
  dsimp only
  split
  · exact hshown
  · exact (State.get_set_ne _ _ _ _ _ _ (by decide)).trans hshown

/-- A measurement within 4 LOCK_NS keeps a locked servo. -/
theorem State.measure_locked {s : State} {off : Int} (hlocked : s.servo = servoLocked)
    (hmax : off ≤ 4 * ((s.get Reg.TIM_SERVO_LOCK_NS : Int) * nsUnit)) (hmin : -(4 * ((s.get Reg.TIM_SERVO_LOCK_NS : Int) * nsUnit)) ≤ off) :
    s.measure off = (s.measured off).modTim (fun t => { t with bad := 0 }) := by
  have hservo : (s.measured off).servo = servoLocked := (s.get_measured off (by decide) (by decide)).trans hlocked
  have hbound : ¬ (4 * ((s.get Reg.TIM_SERVO_LOCK_NS : Int) * nsUnit) < off ∨ off < -(4 * ((s.get Reg.TIM_SERVO_LOCK_NS : Int) * nsUnit))) := by
    omega
  have hacquire : ¬ (s.measured off).servo = servoAcquire := by rw [hservo]; decide
  exact (if_neg hacquire).trans ((if_pos hservo).trans (if_neg hbound))

/-- A source that comes up changes registers and the time unit's counts alone. -/
theorem State.sourceUp_frame (s : State) (src : Nat) :
    ∃ regs good bad set, s.sourceUp src = { s with regs := regs, tim := { s.tim with good := good, bad := bad, shadowSet := set } } := by
  unfold State.sourceUp
  split
  · exact ⟨_, _, _, _, rfl⟩
  · exact ⟨s.regs, s.tim.good, s.tim.bad, s.tim.shadowSet, rfl⟩

/-- A locked servo has its source. -/
theorem State.sourceUp_locked {s : State} (hlocked : s.servo = servoLocked) (src : Nat) : s.sourceUp src = s :=
  if_neg (by rw [hlocked]; simp [servoLocked, servoFree, servoHoldover])

/-- The state once the servo has locked for the first time in a boot: the counter took the shadow's value. -/
def State.firstLocked (s : State) : State :=
  let x := (s.modTim (fun t => t.step t.shadow)).modTim (fun t =>
    { t with lockedOnce := true, secondsKnown := true, shadow := 0, bad := 0, slewing := false })
  ((x.setServo servoLocked).set Reg.TIM_STATUS_QUALITY 0 (if s.get Reg.TIM_STATUS_SRC = 1 then 3 else 2)).modTim
    (fun t => { t with anchor := some (1, s.tim.counter, t.counter) })

theorem State.firstLocked_frame (s : State) : ∃ regs, s.firstLocked = { s with
    regs := regs
    tim := { s.tim with counter := ((s.tim.counter : Int) + s.tim.shadow).toNat, lockedOnce := true, secondsKnown := true, shadow := 0,
                        bad := 0, slewing := false, anchor := some (1, s.tim.counter, ((s.tim.counter : Int) + s.tim.shadow).toNat) } } :=
  ⟨_, rfl⟩

/-! ## The time commands (R586) -/

theorem length_timeBytes (t : Nat) : (timeBytes t).length = 12 := by simp [timeBytes, length_leBytes]

@[simp] theorem CmdSpec.recorded_tim (c : CmdSpec) (h : Hdr) (p : Bytes) (s : State) : (c.recorded h p s).tim = s.tim := State.record_tim ..

@[simp] theorem CmdSpec.recorded_servo (c : CmdSpec) (h : Hdr) (p : Bytes) (s : State) : (c.recorded h p s).servo = s.servo :=
  c.recorded_get h p s _ _ (by decide)

/-- What follows the time, the quality and the servo's state in TIME_INFO's reply. -/
def State.timeTail (s : State) : Bytes :=
  [0, 0] ++ (leBytes 4 (s.get Reg.TIM_OFFSET) ++ (leBytes 4 (s.get Reg.TIM_FREQ_ADJ) ++ (match s.tim.master with
    | some m => leBytes 8 m.ident ++ leBytes 2 m.steps
    | none => List.replicate 10 0)))

theorem State.length_timeTail (s : State) : s.timeTail.length = 20 := by
  unfold State.timeTail
  cases s.tim.master <;> simp [length_leBytes]

/-- TIME_INFO's reply: the time, the quality code and the servo's state come first. -/
def State.timeReply (s : State) : Bytes := s.now ++ (leBytes 1 s.quality ++ (leBytes 1 s.servo ++ s.timeTail))

theorem State.length_timeReply (s : State) : s.timeReply.length = 34 := by
  simp [State.timeReply, State.now, length_timeBytes, length_leBytes, State.length_timeTail]

theorem State.timeReply_now (s : State) : slice s.timeReply 0 12 = s.now := by
  have hslice := slice_append [] s.now (leBytes 1 s.quality ++ (leBytes 1 s.servo ++ s.timeTail))
  rwa [State.now, length_timeBytes] at hslice

theorem State.timeReply_servo (s : State) : fieldAt s.timeReply 13 1 = s.servo % 256 := by
  have hfield := fieldAt_leBytes (s.now ++ leBytes 1 s.quality) s.timeTail 1 s.servo
  rwa [List.append_assoc, List.length_append, State.now, length_timeBytes, length_leBytes] at hfield

theorem specTimeInfo_run (h : Hdr) (p : Bytes) (s : State) :
    specTimeInfo.run h p s = .done s.timeReply s := by
  simp only [specTimeInfo, State.timeReply, State.timeTail, List.append_assoc] <;> rfl

/-- TIME_CFG of the default profile. -/
theorem specTimeCfg_run_default {p : Bytes} (hprofile : p8 p 0 = 0) (h : Hdr) (s : State) :
    specTimeCfg.run h p s = .done [] (((s.set Reg.TIM_CTL_PROFILE 0 0).journal (.field (Reg.TIM_CTL_PROFILE.key 0) 0)).modTim
      (fun t => { t with domain := p8 p 1, ipv4 := p32 p 4, mask := p32 p 8, gateway := p32 p 12 })) := by
  simp only [specTimeCfg, hprofile, State.setJ, Nat.zero_mod]

theorem State.quality_modTim (s : State) (f : Tim → Tim) : (s.modTim f).quality = s.quality := rfl

/-- The counter `c` set, with its TIME record. -/
def State.timeSet (s : State) (c : Nat) : State :=
  (s.modTim (fun t => { t with counter := c, secondsKnown := true })).recordTime 4 s.quality s.quality s.tim.counter c

theorem State.recordTime_modTim (s : State) (c : Nat) :
    (let t := s.modTim (fun t => { t with counter := c, secondsKnown := true })
     t.recordTime 4 t.quality t.quality s.tim.counter t.tim.counter) = s.timeSet c := by
  dsimp only
  rw [State.quality_modTim]
  rfl

/-- TIME_SET in FREE. -/
theorem specTimeSet_run_free {s : State} (hfree : s.servo = servoFree) (h : Hdr) (p : Bytes) :
    specTimeSet.run h p s = .done [] (s.timeSet (timeOf p)) :=
  (if_neg (not_not.2 hfree)).trans (congrArg (CmdResult.done []) (s.recordTime_modTim (timeOf p)))

end Sys2Proof.Machine

namespace Sys2Proof.Claims

open Sys2Proof.Machine

/-! ## O25, clause by clause -/

section
variable {s : State}

/-- A PTP message is taken by a powered module that uses PTP. -/
theorem exec_ptpMessage_announce {m prio steps d : Nat} (hon : s.clk.phase ≠ .off) (hen : s.flag Reg.TIM_CTL_PTP_EN = true)
    (hdom : d = s.tim.domain) :
    ∃ t, exec (.ptpMessage (.announce m prio steps d)) s = .next t ∧ t = { s with regs := t.regs, tim := t.tim } ∧
      t.tim.masters = { ident := m, priority := prio, steps := steps,
                        count := ((s.tim.masters.find? (fun x => x.ident == m)).map Master.count).getD 0 + 1 } ::
        s.tim.masters.filter (fun y => y.ident != m) ∧ t.tim.counter = s.tim.counter := by
  have hexec : exec (.ptpMessage (.announce m prio steps d)) s = _ :=
    congrArg Host.Outcome.next ((if_neg (by simp [hon, hen])).trans (if_neg (not_not.2 hdom)))
  refine ⟨_, hexec, ?_⟩
  dsimp only
  split
  · obtain ⟨regs, good, bad, shown, hup⟩ := State.sourceUp_frame (State.modTim (State.modTim s _) _) 0
    rw [hup]
    exact ⟨rfl, rfl, rfl⟩
  · exact ⟨rfl, rfl, rfl⟩

/-- Delay_Resp of the selected master (R562). -/
theorem ptpMessage_delayResp {m : Nat} {y : Int} {x : Master} (hon : s.clk.phase ≠ .off) (hen : s.flag Reg.TIM_CTL_PTP_EN = true)
    (hmaster : s.tim.master = some x) (hident : x.ident = m) :
    exec (.ptpMessage (.delayResp m s.tim.domain y)) s = .next { s with tim := { s.tim with pathDelay := y } } :=
  congrArg Host.Outcome.next ((if_neg (by simp [hon, hen])).trans (if_pos (by simp [hmaster, hident])))

/-- Sync of the selected master keeps a locked servo (R563). -/
theorem ptpMessage_sync_locked {y : Int} {x : Master} (hwf : SMap.wf s.regs) (hon : s.clk.phase ≠ .off)
    (hen : s.flag Reg.TIM_CTL_PTP_EN = true) (hmaster : s.tim.master = some x) (huses : s.usesPtp = true) (hlocked : s.servo = servoLocked)
    (hmax : y ≤ 4 * ((s.get Reg.TIM_SERVO_LOCK_NS : Int) * nsUnit)) (hmin : -(4 * ((s.get Reg.TIM_SERVO_LOCK_NS : Int) * nsUnit)) ≤ y) :
    ∃ t, exec (.ptpMessage (.sync x.ident s.tim.domain y)) s = .next t ∧
      t = { s with regs := t.regs, fresh := s.fresh + 1, tim := { s.tim with secondsKnown := true, bad := 0 } } ∧
      t.servo = servoLocked ∧ t.get Reg.TIM_OFFSET = unsignedOf 32 (y / nsUnit) ∧
      OnlyRegs [(Reg.TIM_OFFSET, 0), (Reg.TIM_FREQ_ADJ, 0)] s t := by
  have hexec : exec (.ptpMessage (.sync x.ident s.tim.domain y)) s =
      .next ((s.modTim (fun t => { t with secondsKnown := true })).measure y) :=
    congrArg Host.Outcome.next ((if_neg (by simp [hon, hen])).trans ((if_pos (by simp [hmaster])).trans (if_pos huses)))
  rw [State.measure_locked (s := s.modTim (fun t => { t with secondsKnown := true })) hlocked hmax hmin] at hexec
  obtain ⟨regs, hframe⟩ := (s.modTim (fun t => { t with secondsKnown := true })).measured_frame y
  refine ⟨_, hexec, by rw [hframe]; rfl, (State.get_measured _ y (by decide) (by decide)).trans hlocked,
    State.get_measured_offset (s := s.modTim (fun t => { t with secondsKnown := true })) hwf y, fun k hk => ?_⟩
  exact State.find_measured (s := s.modTim (fun t => { t with secondsKnown := true })) (hk (Reg.TIM_OFFSET, 0) (by simp))
    (hk (Reg.TIM_FREQ_ADJ, 0) (by simp))

/-- The edge of the second in which PTP stepped the shadow is discarded (Table 14-9). -/
theorem ppsInEdge_discards (hon : s.clk.phase ≠ .off) (hen : s.flag Reg.TIM_CTL_PPS_IN_EN = true) (hknown : s.tim.secondsKnown = true)
    (hdiscard : s.tim.ppsDiscard = true) : exec .ppsInEdge s = .next { s with tim := { s.tim with ppsDiscard := false } } :=
  congrArg Host.Outcome.next ((if_neg (by simp [hon, hen, hknown])).trans (if_pos hdiscard))

/-- An edge of PPS_IN keeps a servo that is locked to it (R563, R564). -/
theorem ppsInEdge_locked (hon : s.clk.phase ≠ .off) (hen : s.flag Reg.TIM_CTL_PPS_IN_EN = true) (hknown : s.tim.secondsKnown = true)
    (hkeep : s.tim.ppsDiscard = false) (hmaster : s.tim.master = none) (hsrc : s.get Reg.TIM_STATUS_SRC = 1) (hlocked : s.servo = servoLocked)
    (hmax : s.ppsOffset ≤ 4 * ((s.get Reg.TIM_SERVO_LOCK_NS : Int) * nsUnit))
    (hmin : -(4 * ((s.get Reg.TIM_SERVO_LOCK_NS : Int) * nsUnit)) ≤ s.ppsOffset) :
    ∃ t, exec .ppsInEdge s = .next t ∧ t = { s with regs := t.regs, fresh := s.fresh + 1, tim := { s.tim with shadowSet := true, bad := 0 } } ∧
      t.servo = servoLocked := by
  have hexec : exec .ppsInEdge s = .next ((s.modTim (fun t => { t with shadowSet := true })).measure s.ppsOffset) := by
    refine congrArg Host.Outcome.next ((if_neg (by simp [hon, hen, hknown])).trans ((if_neg (by simp [hkeep])).trans
      ((if_neg (by simp [hmaster])).trans ?_)))
    dsimp only
    rw [if_pos (Or.inl hsrc), State.sourceUp_locked hlocked]
    exact if_pos hsrc
  rw [State.measure_locked (s := s.modTim (fun t => { t with shadowSet := true })) hlocked hmax hmin] at hexec
  obtain ⟨regs, hframe⟩ := (s.modTim (fun t => { t with shadowSet := true })).measured_frame s.ppsOffset
  exact ⟨_, hexec, by rw [hframe]; rfl, (State.get_measured _ _ (by decide) (by decide)).trans hlocked⟩

/-- The first lock moves the counter by the shadow and signals the anchor (R563, R567). -/
theorem servoLock_first (hwf : SMap.wf s.regs) (hacquire : s.servo = servoAcquire) (hgood : 16 ≤ s.tim.good) (hfirst : s.tim.lockedOnce = false) :
    ∃ t, exec .servoLock s = .next t ∧ t = { s with regs := t.regs, tim := t.tim } ∧ t.servo = servoLocked ∧
      t.tim.counter = ((s.tim.counter : Int) + s.tim.shadow).toNat ∧ t.tim.anchor = some (1, s.tim.counter, t.tim.counter) ∧
      t.quality = (if s.get Reg.TIM_STATUS_SRC = 1 then 3 else 2) ∧ t.tim.lockedOnce = true := by
  have hexec : exec .servoLock s = .next s.firstLocked :=
    congrArg Host.Outcome.next ((if_pos ⟨hacquire, hgood⟩).trans (if_neg (by simp [hfirst])))
  obtain ⟨regs, hframe⟩ := s.firstLocked_frame
  refine ⟨_, hexec, by rw [hframe], ?_, by rw [hframe], by rw [hframe], ?_, by rw [hframe]⟩
  · exact (State.get_set_ne _ _ Reg.TIM_STATUS_STATE 0 0 _ (by decide)).trans (State.get_set_self _ Reg.TIM_STATUS_STATE 0 servoLocked hwf)
  · refine (State.get_set_self _ Reg.TIM_STATUS_QUALITY 0 _ (State.wf_set _ _ _ _ hwf)).trans ?_
    split <;> rfl

/-- The loss of the source in use gives HOLDOVER (R563). -/
theorem sourceLoss_pps (hwf : SMap.wf s.regs) (hlocked : s.servo = servoLocked) (hsrc : s.get Reg.TIM_STATUS_SRC = 1) :
    ∃ t, exec (.sourceLoss .ppsMissing) s = .next t ∧ t.servo = servoHoldover ∧ t.quality = 1 ∧
      t.tim = { s.tim with good := 0, bad := 0 } ∧ (∃ e ∈ t.flt.waiting, e.src = 0x1000 ∧ e.cls = corrected) ∧ t.pol = s.pol := by
  have hexec : exec (.sourceLoss .ppsMissing) s = .next s.sourceLost :=
    congrArg Host.Outcome.next (if_pos ⟨hlocked, by simp [lossFits, hsrc]⟩)
  have hservo : (s.setServo servoHoldover).servo = servoHoldover := s.get_set_self Reg.TIM_STATUS_STATE 0 servoHoldover hwf
  have hservo' := ((s.setServo servoHoldover).setQuality_servo 1).trans hservo
  have hquality := (s.setServo servoHoldover).setQuality_quality 1 (s.wf_set _ _ _ hwf) (by decide)
  have hevent := ((((s.setServo servoHoldover).setQuality 1).modTim (fun t => { t with good := 0, bad := 0 })).waits_report 0x1000 corrected 0 [] []).event
  obtain ⟨regs, trec, hframe⟩ := (s.setServo servoHoldover).setQuality_frame 1
  refine ⟨_, hexec, hservo', hquality, ?_, hevent, ?_⟩
  · rw [State.sourceLost, hframe]
    rfl
  · rw [State.sourceLost, hframe]
    rfl

/-- HOLDOVER that expires is FREE and UNSYNC (R563). -/
theorem holdoverExpiry_frees (hwf : SMap.wf s.regs) (hhold : s.servo = servoHoldover) :
    ∃ t, exec .holdoverExpiry s = .next t ∧ t.servo = servoFree ∧ t.quality = 0 ∧ t.tim = s.tim ∧
      (∃ e ∈ t.flt.waiting, e.src = 0x1001 ∧ e.cls = corrected) ∧ t.pol = s.pol := by
  have hexec : exec .holdoverExpiry s = .next (((s.setServo servoFree).setQuality 0).report 0x1001 corrected 0 []) :=
    congrArg Host.Outcome.next (if_pos hhold)
  have hservo : (s.setServo servoFree).servo = servoFree := s.get_set_self Reg.TIM_STATUS_STATE 0 servoFree hwf
  have hservo' := ((s.setServo servoFree).setQuality_servo 0).trans hservo
  have hquality := (s.setServo servoFree).setQuality_quality 0 (s.wf_set _ _ _ hwf) (by decide)
  have hevent := (((s.setServo servoFree).setQuality 0).waits_report 0x1001 corrected 0 [] []).event
  obtain ⟨regs, trec, hframe⟩ := (s.setServo servoFree).setQuality_frame 0
  refine ⟨_, hexec, hservo', hquality, ?_, hevent, ?_⟩
  · rw [hframe]
    rfl
  · rw [hframe]
    rfl

/-- R565: a second of traceable time. -/
theorem ppsOutSecond_pulses (hen : s.flag Reg.TIM_CTL_PPS_OUT_EN = true) (htraceable : s.quality ≠ 0) :
    exec .ppsOutSecond s = .next (s.emit .pps) :=
  congrArg Host.Outcome.next (if_pos (by simp [hen, htraceable]))

/-- TIME_INFO answers 34 bytes: the time, the quality code, the servo's state (R586). -/
theorem timeInfo_reads : Reads .timeInfo 0xCA00 .observe 0 always (fun _ _ s b => b.length = 34 ∧ slice b 0 12 = s.now ∧ fieldAt b 13 1 = s.servo % 256) := by
  intro h p s hop hpriv hlen _
  refine ⟨_, ⟨State.length_timeReply _, (State.timeReply_now _).trans ?_, (State.timeReply_servo _).trans ?_⟩,
    (reached (c := specTimeInfo) hop hpriv hlen rfl rfl).done (specTimeInfo_run h p _)⟩
  · simp only [State.now, CmdSpec.recorded_tim]
  · rw [CmdSpec.recorded_servo]

/-- TIME_CFG sets and journals the profile (R586). -/
theorem timeCfg_sets : Does .timeCfg 0xCA01 .operate 16 (fun _ p _ => p8 p 0 = 0 ∧ p8 p 1 ≤ 127)
    (fun _ p s => let t := (s.set Reg.TIM_CTL_PROFILE 0 0).journal (.field (Reg.TIM_CTL_PROFILE.key 0) 0);
      { t with tim := { t.tim with domain := p8 p 1, ipv4 := p32 p 4, mask := p32 p 8, gateway := p32 p 12 } }) := by
  rintro h p s hop hpriv hlen ⟨hprofile, hdomain⟩
  exact (reached (c := specTimeCfg) hop hpriv hlen rfl (by simp [specTimeCfg, firstBad, need, hprofile, hdomain])).done
    (specTimeCfg_run_default hprofile h _)

/-- TIME_SET sets the counter in FREE (R586). -/
theorem timeSet_sets : Does .timeSet 0xCA02 .admin 12 (fun _ p s => fieldAt p 2 4 < 1000000000 ∧ s.servo = servoFree)
    (fun _ p s => { s with tim := { s.tim with counter := timeOf p, secondsKnown := true } }.recordTime 4 s.quality s.quality s.tim.counter (timeOf p)) := by
  rintro h p s hop hpriv hlen ⟨hns, hfree⟩
  exact (reached (c := specTimeSet) hop hpriv hlen rfl (by simp [specTimeSet, firstBad, need, hns])).done
    (specTimeSet_run_free (by rw [CmdSpec.recorded_servo, hfree]) h p)

end

/-- Settles O25: the lemmas above, one for each clause. -/
theorem timeDiscipline : Obligations.TimeDiscipline :=
  ⟨fun _ _ _ _ _ => exec_ptpMessage_announce, fun _ _ _ _ => ptpMessage_delayResp, fun _ _ _ => ptpMessage_sync_locked, fun _ => ppsInEdge_discards,
    fun _ => ppsInEdge_locked, fun _ => servoLock_first, fun _ => sourceLoss_pps, fun _ => holdoverExpiry_frees, fun _ => ppsOutSecond_pulses,
    timeInfo_reads, timeCfg_sets, timeSet_sets⟩

end Sys2Proof.Claims

namespace Sys2Proof.Machine

/-! ## What a COMMAND record leaves of feeds and slot channels -/

section
variable (c : CmdSpec) (h : Hdr) (p : Bytes) (s : State)

@[simp] theorem CmdSpec.recorded_pfe : (c.recorded h p s).pfe = s.pfe := State.record_pfe ..

@[simp] theorem CmdSpec.recorded_feedOk (f : Nat) : (c.recorded h p s).feedOk f = s.feedOk f := by
  rw [State.feedOk, State.feedOk, c.recorded_flag h p s Reg.PFE_STATUS_FEED_A_OK 0 (by decide),
    c.recorded_flag h p s Reg.PFE_STATUS_FEED_B_OK 0 (by decide)]

@[simp] theorem CmdSpec.recorded_feedUnusable (f : Nat) : (c.recorded h p s).feedUnusable f = s.feedUnusable f := by
  rw [State.feedUnusable, State.feedUnusable, c.recorded_get h p s Reg.PFE_STATUS_UNUSABLE 0 (by decide)]

/-- It leaves the ports that the channels are bound to. -/
theorem CmdSpec.recorded_chanPort {n : Nat} (hn : n < 16) :
    (c.recorded h p s).get Reg.SPC_CH_CFG_PORT n = s.get Reg.SPC_CH_CFG_PORT n :=
  c.recorded_get h p s _ _ (by simp only [Field.key, Reg.REC_MISSED, Reg.SPC_CH_CFG_PORT]; omega)

@[simp] theorem CmdSpec.recorded_isPool (q : Nat) : (c.recorded h p s).isPool q = s.isPool q := by
  by_cases hq : s.isDsp q = true
  · have hlt : q < 64 := by
      simp only [State.isDsp, Bool.and_eq_true] at hq
      exact State.lt_of_present hq.1
    have hpersonality : (c.recorded h p s).get Reg.POL_DSP_CFG_PERSONALITY q = s.get Reg.POL_DSP_CFG_PERSONALITY q :=
      c.recorded_get h p s _ _ (by simp only [Field.key, Reg.REC_MISSED, Reg.POL_DSP_CFG_PERSONALITY]; omega)
    rw [State.isPool, State.isPool, CmdSpec.recorded_isDsp, hpersonality]
  · simp [State.isPool, hq]

/-- It leaves which channels a host controls. -/
theorem CmdSpec.recorded_hostChan {n : Nat} (hn : n < 16) : (c.recorded h p s).hostChan n = s.hostChan n := by
  simp only [State.hostChan, c.recorded_chanPort h p s hn, CmdSpec.recorded_isDsp, CmdSpec.recorded_isPool, CmdSpec.recorded_prt]

/-- It leaves what forbids binding a channel. -/
theorem CmdSpec.recorded_chanBindRefused {n : Nat} (hn : n < 16) (q : Nat) :
    (c.recorded h p s).chanBindRefused n q = s.chanBindRefused n q := by
  have hon : (c.recorded h p s).flag Reg.SPC_CH_STATUS_ON n = s.flag Reg.SPC_CH_STATUS_ON n :=
    c.recorded_flag h p s _ _ (by simp only [Field.key, Reg.REC_MISSED, Reg.SPC_CH_STATUS_ON]; omega)
  have hothers : (List.range 16).any (fun m => m != n && (c.recorded h p s).get Reg.SPC_CH_CFG_PORT m == q) =
      (List.range 16).any (fun m => m != n && s.get Reg.SPC_CH_CFG_PORT m == q) := by
    rw [Bool.eq_iff_iff, List.any_eq_true, List.any_eq_true]
    exact exists_congr fun m => and_congr_right fun hm => by rw [c.recorded_chanPort h p s (List.mem_range.1 hm)]
  simp only [State.chanBindRefused, hon, CmdSpec.recorded_isDsp, hothers]

end

/-! ## The power and slot commands (R647, R674) -/

/-- PFE_SWITCH to a feed that is qualified and usable, while no switchover is asked for or runs. -/
theorem specPfeSwitch_run_other {s : State} {f : Feed} (hclosed : s.pfe.closed = some f) (hok : s.feedOk (otherFeed f).val = true)
    (husable : s.feedUnusable (otherFeed f).val = false) (hwant : s.pfe.want = none) (hsettled : s.pfe.settling = false) (h : Hdr) (p : Bytes) :
    specPfeSwitch.run h p s = .done [] (s.modPfe (fun x => { x with want := some (otherFeed f) })) := by
  simp [specPfeSwitch, hclosed, hok, husable, hwant, hsettled]

/-- PFE_HOLDUP_TEST while nothing draws on the capacitor and no test runs. -/
theorem specPfeHoldupTest_run_idle {s : State} (hoff : s.flag Reg.PFE_STATUS_ON_HOLDUP = false) (htest : s.pfe.holdupTest = none) (h : Hdr)
    (p : Bytes) : specPfeHoldupTest.run h p s = .started (((s.setFlag Reg.PFE_STATUS_HU_READY 0 false).set Reg.PFE_HU_VOLTS 0 2250).modPfe
      (fun x => { x with charging := true, holdupTest := some s.cmd.nextBg })) false :=
  if_neg (by simp [hoff, htest])

/-- SLOT_INFO's reply: the bus, and three words for each channel. -/
def State.slotReply (s : State) : Bytes :=
  leBytes 4 (s.word 0x02000104) ++ ((List.range 16).map (fun n =>
    leBytes 4 (s.word (0x02000400 + 4 * n)) ++ leBytes 4 (s.word (0x02000500 + 4 * n)) ++ leBytes 4 (s.word (0x02000600 + 4 * n)))).flatten

theorem State.length_slotReply (s : State) : s.slotReply.length = 196 := by
  rw [State.slotReply, List.length_append, length_leBytes, length_flatten_range (n := 12) (fun _ => by simp [length_leBytes])]

/-- SLOT_POWER that clears a latch. -/
theorem specSlotPower_run_unlatch {p : Bytes} (hact : p8 p 1 = 2) (h : Hdr) (s : State) :
    specSlotPower.run h p s = .done [] (s.setFlag Reg.SPC_CH_STATUS_LATCHED (p8 p 0) false) :=
  if_pos hact

/-- SLOT_POWER that powers a module-controlled channel. -/
theorem specSlotPower_run_on {s : State} {p : Bytes} (hact : p8 p 1 = 1) (hmod : s.hostChan (p8 p 0) = false) (h : Hdr) :
    specSlotPower.run h p s = .done [] (s.setRequest (p8 p 0)) := by
  simp [specSlotPower, hact, hmod]

/-- SLOT_POWER that turns off a module-controlled channel of no port. -/
theorem specSlotPower_run_off {s : State} {p : Bytes} (hact : p8 p 1 = 0) (hmod : s.hostChan (p8 p 0) = false)
    (hport : 64 ≤ s.get Reg.SPC_CH_CFG_PORT (p8 p 0)) (h : Hdr) : specSlotPower.run h p s = .done [] (s.clearRequest (p8 p 0)) := by
  simp [specSlotPower, hact, hmod, Nat.not_lt.2 hport]

/-- SLOT_BIND of a channel to another port that R652 allows. -/
theorem specSlotBind_run_new {s : State} {p : Bytes} (hport : p8 p 1 < 64) (hnew : p8 p 1 ≠ s.get Reg.SPC_CH_CFG_PORT (p8 p 0))
    (hallowed : s.chanBindRefused (p8 p 0) (p8 p 1) = false) (h : Hdr) : specSlotBind.run h p s =
      .done [] ((s.set Reg.SPC_CH_CFG_PORT (p8 p 0) (p8 p 1)).journal (.field (Reg.SPC_CH_CFG_PORT.key (p8 p 0)) (p8 p 1))) := by
  have hfits : p8 p 1 % 2 ^ Reg.SPC_CH_CFG_PORT.width = p8 p 1 := Nat.mod_eq_of_lt (Nat.lt_trans hport (by decide))
  simp [specSlotBind, hnew, hallowed, State.setJ, hfits]

/-- SLOT_INDICATOR that drives both indicators of a module-controlled channel. -/
theorem specSlotIndicator_run_both {s : State} {p : Bytes} (hmod : s.hostChan (p8 p 0) = false) (hpwr : 1 ≤ p8 p 1) (hatn : 1 ≤ p8 p 2) (h : Hdr) :
    specSlotIndicator.run h p s = .done [] (((s.modChan (p8 p 0) (fun x => { x with lastPwr := p8 p 1, lastAtn := p8 p 2 })).set
      Reg.SPC_CH_IND_PWR (p8 p 0) (p8 p 1)).set Reg.SPC_CH_IND_ATN (p8 p 0) (p8 p 2)) := by
  have hp : p8 p 1 ≠ 0 := by omega
  have ha : p8 p 2 ≠ 0 := by omega
  simp [specSlotIndicator, hmod, State.indicate, hp, ha]

end Sys2Proof.Machine

namespace Sys2Proof.Claims

open Sys2Proof.Machine

/-! ## O19, clause by clause -/

section
variable {h : Hdr} {p : Bytes} {s : State}

/-- PFE_INFO answers 17 words (R647). -/
theorem pfeInfo_reads : Reads .pfeInfo 0xC100 .observe 0 always (fun _ _ _ b => b.length = 68) := by
  intro h p s hop hpriv hlen _
  exact ⟨_, by simp, (reached (c := specPfeInfo) hop hpriv hlen rfl rfl).done rfl⟩

/-- PFE_SWITCH asks for a switchover (R622, R647). -/
theorem pfeSwitch_asks {f : Feed} (hop : Operating s) (hpriv : Privileged .operate h s) (hlen : p.length = 0) (hclosed : s.pfe.closed = some f)
    (hok : s.feedOk (otherFeed f).val = true) (husable : s.feedUnusable (otherFeed f).val = false) (hwant : s.pfe.want = none)
    (hsettled : s.pfe.settling = false) :
    exec (.pfeSwitch h p) s = .next (answered 0xC101 stSuccess h s [] ((request 0xC101 .operate h p s).modPfe
      (fun x => { x with want := some (otherFeed f) }))) :=
  (reached (c := specPfeSwitch) hop hpriv hlen rfl rfl).done
    (specPfeSwitch_run_other (by simpa using hclosed) (by simpa using hok) (by simpa using husable) (by simpa using hwant) (by simpa using hsettled)
      h p)

/-- PFE_HOLDUP_TEST starts in the background (R647). -/
theorem pfeHoldupTest_starts : Starts .pfeHoldupTest 0xC102 .admin 0 false
    (fun _ _ s => s.flag Reg.PFE_STATUS_ON_HOLDUP = false ∧ s.pfe.holdupTest = none)
    (fun _ _ s => ((s.setFlag Reg.PFE_STATUS_HU_READY 0 false).set Reg.PFE_HU_VOLTS 0 2250).modPfe
      (fun x => { x with charging := true, holdupTest := some s.cmd.nextBg })) := by
  rintro h p s hop hpriv hlen hroom ⟨hoff, htest⟩
  have hoff' := (specPfeHoldupTest.recorded_flag h p s Reg.PFE_STATUS_ON_HOLDUP 0 (by decide)).trans hoff
  exact (reached (c := specPfeHoldupTest) hop hpriv hlen rfl rfl).started hroom (specPfeHoldupTest_run_idle hoff' (by simpa using htest) h p)

/-- SLOT_INFO answers 196 bytes (R674). -/
theorem slotInfo_reads (hop : Operating s) (hpriv : Privileged .observe h s) (hlen : p.length = 0) :
    ∃ b, b.length = 196 ∧ exec (.slotInfo h p) s = .next (answered 0xC110 stSuccess h s b
      { request 0xC110 .observe h p s with fresh := s.fresh + 16 }) := by
  have hdone := (reached (c := specSlotInfo) hop hpriv hlen rfl rfl).done (reply := (specSlotInfo.recorded h p s).slotReply) rfl
  rw [CmdSpec.recorded_fresh] at hdone
  exact ⟨_, State.length_slotReply _, hdone⟩

/-- A SLOT_POWER with good parameters comes to its work. -/
theorem reached_slotPower (hop : Operating s) (hpriv : Privileged .operate h s) (hlen : p.length = 3) (hchan : p8 p 0 < 16) (hact : p8 p 1 < 3) :
    Reached specSlotPower h p s :=
  reached hop hpriv hlen rfl (by simp [specSlotPower, firstBad, need, hchan, hact])

/-- SLOT_POWER requests power (R656). -/
theorem slotPower_requests : Does .slotPower 0xC111 .operate 3 (fun _ p s => p8 p 0 < 16 ∧ p8 p 1 = 1 ∧ s.hostChan (p8 p 0) = false)
    (fun _ p s => s.setRequest (p8 p 0)) := by
  rintro h p s hop hpriv hlen ⟨hchan, hact, hmod⟩
  exact (reached_slotPower hop hpriv hlen hchan (by omega)).done
    (specSlotPower_run_on hact ((specSlotPower.recorded_hostChan h p s hchan).trans hmod) h)

/-- SLOT_POWER clears the request (R656, R663). -/
theorem slotPower_clears : Does .slotPower 0xC111 .operate 3 (fun _ p s => p8 p 0 < 16 ∧ p8 p 1 = 0 ∧ s.hostChan (p8 p 0) = false ∧
      64 ≤ s.get Reg.SPC_CH_CFG_PORT (p8 p 0)) (fun _ p s => s.clearRequest (p8 p 0)) := by
  rintro h p s hop hpriv hlen ⟨hchan, hact, hmod, hport⟩
  exact (reached_slotPower hop hpriv hlen hchan (by omega)).done
    (specSlotPower_run_off hact ((specSlotPower.recorded_hostChan h p s hchan).trans hmod)
      (hport.trans_eq (specSlotPower.recorded_chanPort h p s hchan).symm) h)

/-- SLOT_POWER clears a latch (R668). -/
theorem slotPower_unlatches : Does .slotPower 0xC111 .operate 3 (fun _ p _ => p8 p 0 < 16 ∧ p8 p 1 = 2)
    (fun _ p s => s.setFlag Reg.SPC_CH_STATUS_LATCHED (p8 p 0) false) := by
  rintro h p s hop hpriv hlen ⟨hchan, hact⟩
  exact (reached_slotPower hop hpriv hlen hchan (by omega)).done (specSlotPower_run_unlatch hact h _)

/-- SLOT_BIND binds and journals (R652). -/
theorem slotBind_binds : Does .slotBind 0xC112 .admin 2 (fun _ p s => p8 p 0 < 16 ∧ p8 p 1 < 64 ∧ p8 p 1 ≠ s.get Reg.SPC_CH_CFG_PORT (p8 p 0) ∧
      s.chanBindRefused (p8 p 0) (p8 p 1) = false)
    (fun _ p s => (s.set Reg.SPC_CH_CFG_PORT (p8 p 0) (p8 p 1)).journal (.field (Reg.SPC_CH_CFG_PORT.key (p8 p 0)) (p8 p 1))) := by
  rintro h p s hop hpriv hlen ⟨hchan, hport, hnew, hallowed⟩
  exact (reached (c := specSlotBind) hop hpriv hlen rfl (by simp [specSlotBind, firstBad, need, hchan, hport])).done
    (specSlotBind_run_new hport (by rwa [specSlotBind.recorded_chanPort h p s hchan])
      ((specSlotBind.recorded_chanBindRefused h p s hchan _).trans hallowed) h)

/-- SLOT_INDICATOR drives the indicators (R662). -/
theorem slotIndicator_drives : Does .slotIndicator 0xC113 .operate 3 (fun _ p s => p8 p 0 < 16 ∧ 1 ≤ p8 p 1 ∧ p8 p 1 < 4 ∧ 1 ≤ p8 p 2 ∧ p8 p 2 < 4 ∧
      s.hostChan (p8 p 0) = false)
    (fun _ p s => (((s.modChan (p8 p 0) (fun x => { x with lastPwr := p8 p 1, lastAtn := p8 p 2 })).set
      Reg.SPC_CH_IND_PWR (p8 p 0) (p8 p 1)).set Reg.SPC_CH_IND_ATN (p8 p 0) (p8 p 2))) := by
  rintro h p s hop hpriv hlen ⟨hchan, hpwr, hpwr', hatn, hatn', hmod⟩
  exact (reached (c := specSlotIndicator) hop hpriv hlen rfl (by simp [specSlotIndicator, firstBad, need, hchan, hpwr', hatn'])).done
    (specSlotIndicator_run_both ((specSlotIndicator.recorded_hostChan h p s hchan).trans hmod) hpwr hatn h)

end

/-- Settles O19: the lemmas above, one for each clause. -/
theorem powerAndSlotCommands : Obligations.PowerAndSlotCommands :=
  ⟨pfeInfo_reads, fun _ _ _ _ => pfeSwitch_asks, pfeHoldupTest_starts, fun _ _ _ => slotInfo_reads, slotPower_requests, slotPower_clears,
    slotPower_unlatches, slotBind_binds, slotIndicator_drives⟩

end Sys2Proof.Claims

namespace Sys2Proof.Machine

/-- Fields at different bits of their words have different keys. -/
theorem Field.key_ne_of_lsb {f g : Field} {i j : Nat} (hlsb : f.lsb % 32 ≠ g.lsb % 32) : f.key i ≠ g.key j := by
  simp only [Field.key]
  omega

/-! ## The slot channels' registers while presence changes (R657) -/

/-- Key `k` lies in the registers of SPC (subsystem 2). -/
abbrev SpcKey (k : Nat) : Prop := k / (32 * 0x1000000) = 2

/-- `t` is `s` but for registers outside SPC, records, ports and messages. -/
structure SlotsKept (s t : State) : Prop where
  frame : t = { s with regs := t.regs, trec := t.trec, prt := t.prt, out := t.out }
  find : ∀ k, SpcKey k → SMap.find t.regs k = SMap.find s.regs k
  wf : SMap.wf s.regs → SMap.wf t.regs

namespace SlotsKept

variable {s t u : State}

theorem refl (s : State) : SlotsKept s s := ⟨rfl, fun _ _ => rfl, id⟩

theorem trans (hst : SlotsKept s t) (htu : SlotsKept t u) : SlotsKept s u := by
  refine ⟨?_, fun k hk => (htu.find k hk).trans (hst.find k hk), fun h => htu.wf (hst.wf h)⟩
  rw [htu.frame, hst.frame]

/-- A write outside SPC. -/
theorem set (s : State) {f : Field} {i : Nat} (hkey : ¬ SpcKey (f.key i)) (v : Nat) : SlotsKept s (s.set f i v) :=
  ⟨rfl, fun _ hk => SMap.find_store_ne _ _ _ fun h => hkey (h ▸ hk), fun h => s.wf_set f i v h⟩

theorem record (s : State) (typ flags : Nat) (payload : Bytes) : SlotsKept s (s.record typ flags payload) := by
  obtain ⟨t, h | h⟩ := s.record_cases typ flags payload
  · rw [h]
    exact ⟨rfl, fun _ _ => rfl, id⟩
  · rw [h]
    have hset := set s (f := Reg.REC_MISSED) (i := 0) (by decide) (s.get Reg.REC_MISSED + 1)
    exact ⟨rfl, hset.find, hset.wf⟩

theorem slotEvent (s : State) (k bit : Nat) : SlotsKept s (s.slotEvent k bit) := ⟨rfl, fun _ _ => rfl, id⟩

theorem chanEvent (s : State) (n bit : Nat) : SlotsKept s (s.chanEvent n bit) := by
  unfold State.chanEvent
  split
  · exact slotEvent s _ bit
  · exact refl s

theorem train (s : State) {p : Nat} (hp : p < 64) : SlotsKept s (s.train p) := by
  unfold State.train
  split
  · have hset := set s (f := Reg.LNC_PORT_STATUS_LTSSM) (i := p) (by simp only [SpcKey, Field.key, Reg.LNC_PORT_STATUS_LTSSM]; omega) ltDetect
    exact hset.trans ⟨rfl, fun _ _ => rfl, id⟩
  · exact refl s

theorem unpark (s : State) {p : Nat} (hp : p < 64) : SlotsKept s (s.unpark p) :=
  ((set s (by simp only [SpcKey, Field.key, Reg.LNC_PORT_STATUS_PARKED]; omega) _).trans
    (set _ (by simp only [SpcKey, Field.key, Reg.LNC_PORT_STATUS_FAIL_COUNT]; omega) _)).trans (train _ hp)

/-- A change of presence writes PRSNT, and nothing else of SPC. -/
theorem setPresence (s : State) (n : Nat) (b : Bool) : SlotsKept (s.setFlag Reg.SPC_CH_STATUS_PRSNT n b) (s.setPresence n b) := by
  unfold State.setPresence State.recordEvent
  extract_lets s₁ p s₂
  have hevent : SlotsKept (s.setFlag Reg.SPC_CH_STATUS_PRSNT n b) s₂ := (record _ _ _ _).trans (chanEvent s₁ n 3)
  split
  next h =>
    have hp : p < 64 := by simpa using (Bool.and_eq_true_iff.1 h).1
    exact hevent.trans (unpark s₂ hp)
  next => exact hevent

/-- A one-bit field of SPC. -/
theorem flag (h : SlotsKept s t) {f : Field} {i : Nat} (hkey : SpcKey (f.key i)) : t.flag f i = s.flag f i := by
  rw [State.flag, State.flag, State.get, State.get, SMap.get, SMap.get, h.find _ hkey]

end SlotsKept

/-! ## Fields of a channel's status word -/

/-- Writing a one-bit field leaves what stands at other bits. -/
theorem State.get_setFlag_of_lsb (s : State) {f g : Field} {i j : Nat} (hlsb : f.lsb % 32 ≠ g.lsb % 32) (b : Bool) :
    (s.setFlag f i b).get g j = s.get g j :=
  s.get_setFlag_ne (Field.key_ne_of_lsb hlsb) b

theorem State.flag_setFlag_of_lsb (s : State) {f g : Field} {i j : Nat} (hlsb : f.lsb % 32 ≠ g.lsb % 32) (b : Bool) :
    (s.setFlag f i b).flag g j = s.flag g j :=
  s.flag_setFlag_ne (Field.key_ne_of_lsb hlsb) b

@[simp] theorem State.get_modChan (s : State) (n : Nat) (f : ChanState → ChanState) (g : Field) (i : Nat) : (s.modChan n f).get g i = s.get g i := rfl

@[simp] theorem State.flag_modChan (s : State) (n : Nat) (f : ChanState → ChanState) (g : Field) (i : Nat) :
    (s.modChan n f).flag g i = s.flag g i := rfl

theorem State.wf_modChan {s : State} (hwf : SMap.wf s.regs) (n : Nat) (f : ChanState → ChanState) : SMap.wf (s.modChan n f).regs := hwf

@[simp] theorem State.modChan_pol (s : State) (n : Nat) (f : ChanState → ChanState) : (s.modChan n f).pol = s.pol := rfl

@[simp] theorem State.modChan_jnl (s : State) (n : Nat) (f : ChanState → ChanState) : (s.modChan n f).jnl = s.jnl := rfl

/-! ## Channels that no host controls -/

/-- A channel that is bound to no port has no vPPB (R652, R654). -/
theorem State.chanVppb_unbound {s : State} {n : Nat} (hport : 64 ≤ s.get Reg.SPC_CH_CFG_PORT n) : s.chanVppb n = none := by
  have hpresent : s.present (s.get Reg.SPC_CH_CFG_PORT n) = false := by simp [State.present, Nat.not_lt.2 hport]
  have hmod : s.hostChan n = false := by simp [State.hostChan, State.isDsp, hpresent]
  exact if_neg (by simp [hmod])

/-- So turning it off does nothing for a host. -/
theorem State.chanOff_unbound {s : State} {n : Nat} (hport : 64 ≤ s.get Reg.SPC_CH_CFG_PORT n) : s.chanOff n = s := by
  rw [State.chanOff, State.chanVppb_unbound hport]

/-- Nor has the loss of its card an effect at a port. -/
theorem State.slotGone_unbound {s : State} {n : Nat} (hport : 64 ≤ s.get Reg.SPC_CH_CFG_PORT n) : s.slotGone n = s := by
  simp only [State.slotGone, State.chanVppb_unbound hport]
  exact if_neg (Nat.not_lt.2 hport)

/-- `s` with the switch of channel `n` opened. -/
def State.chanOpened (s : State) (n : Nat) (sink : Bool) : State :=
  (((s.setFlag Reg.SPC_CH_STATUS_ON n false).setFlag Reg.SPC_CH_STATUS_PGOOD n false).setFlag Reg.SPC_CH_STATUS_LIMITING n false).modChan n
    (fun x => { x with openPend := false, discharge := sink })

theorem State.wf_chanOpened {s : State} (hwf : SMap.wf s.regs) (n : Nat) (sink : Bool) : SMap.wf (s.chanOpened n sink).regs :=
  State.wf_modChan (State.wf_setFlag (State.wf_setFlag (State.wf_setFlag hwf _ _ _) _ _ _) _ _ _) _ _

/-- A channel bound to no port opens without a power-off to complete. -/
theorem State.chanOpen_unbound {s : State} {n : Nat} (hport : 64 ≤ s.get Reg.SPC_CH_CFG_PORT n) (sink : Bool) :
    s.chanOpen n sink = s.chanOpened n sink := by
  have hport' : 64 ≤ (s.chanOpened n sink).get Reg.SPC_CH_CFG_PORT n := by
    simpa (disch := decide) only [State.chanOpened, State.get_modChan, State.get_setFlag_of_lsb] using hport
  unfold State.chanOpen
  dsimp only
  split
  · exact State.chanOff_unbound hport'
  · rfl

/-! ## The bus and presence (R651, R657) -/

/-- The loss of a bus that feeds no channel. -/
theorem State.busLost_idle {s : State} (hoff : ∀ n < 16, s.flag Reg.SPC_CH_STATUS_ON n = false) {high : Bool} :
    s.busLost high = (s.setFlag Reg.SPC_BUS_STATUS_OK 0 false).report 0x0200 corrected (if high then 2 else 1) [] := by
  have hnone : (List.range 16).filter (fun n => s.flag Reg.SPC_CH_STATUS_ON n) = [] :=
    List.filter_eq_nil_iff.2 fun n hn => by simp [hoff n (List.mem_range.1 hn)]
  simp only [State.busLost, hnone]
  rfl

/-- The debounce of a card ends while AUTO_POWER asks for power. -/
theorem execPresenceDebounceEnd_powers {s : State} {n : Chan} (hdeb : (s.chan n.val).debounce = true)
    (hraw : s.flag Reg.SPC_CH_STATUS_PRSNT_RAW n.val = true) (hnew : s.flag Reg.SPC_CH_STATUS_PRSNT n.val = false)
    (hauto : ((s.modChan n.val (fun x => { x with debounce := false })).setPresence n.val true).flag Reg.SPC_CH_CFG_AUTO_POWER n.val = true)
    (hcool : ((s.modChan n.val (fun x => { x with debounce := false })).setPresence n.val true).flag Reg.SPC_CH_STATUS_COOLING n.val = false)
    (hlatch : ((s.modChan n.val (fun x => { x with debounce := false })).setPresence n.val true).flag Reg.SPC_CH_STATUS_LATCHED n.val = false) :
    execPresenceDebounceEnd n s =
      .next (((s.modChan n.val (fun x => { x with debounce := false })).setPresence n.val true).setFlag Reg.SPC_CH_STATUS_REQ_ON n.val true) := by
  simp only [execPresenceDebounceEnd, hdeb, hraw, Bool.and_self, if_true, State.flag_modChan, hnew, Bool.false_eq_true, if_false, hauto, hcool,
    Bool.not_false, State.setRequest, hlatch]

/-- `s` with the raw presence input of channel `n` high, and no debounce. -/
def State.cardOut (s : State) (n : Nat) : State :=
  (s.setFlag Reg.SPC_CH_STATUS_PRSNT_RAW n false).modChan n (fun x => { x with debounce := false })

/-- The state in which SLOT_REMOVAL looks at PRSNT: a channel that was on has opened. -/
def State.cardPulled (s : State) (n : Nat) : State :=
  if (s.cardOut n).flag Reg.SPC_CH_STATUS_ON n then
    (((((s.cardOut n).chanReset n).chanOpen n true).setFlag Reg.SPC_CH_STATUS_REQ_ON n false).report (0x0220 + n) contained 0 [byte n]).slotGone n
  else s.cardOut n

theorem execSlotRemoval_powered {s : State} (hon : s.clk.phase ≠ .off) (n : Chan) : execSlotRemoval n s =
    .next (if (s.cardPulled n.val).flag Reg.SPC_CH_STATUS_PRSNT n.val then (s.cardPulled n.val).setPresence n.val false else s.cardPulled n.val) :=
  congrArg Host.Outcome.next (if_neg hon)

theorem State.cardPulled_off {s : State} {n : Nat} (hoff : s.flag Reg.SPC_CH_STATUS_ON n = false) : s.cardPulled n = s.cardOut n :=
  if_neg (by simp (disch := decide) only [State.cardOut, State.flag_modChan, State.flag_setFlag_of_lsb, hoff, Bool.false_eq_true, not_false_eq_true])

/-- `s` with channel `n`, bound to no port, opened for the card that was drawn from it. -/
def State.cardDrawn (s : State) (n : Nat) : State :=
  (((s.cardOut n).chanReset n).chanOpened n true).setFlag Reg.SPC_CH_STATUS_REQ_ON n false

theorem State.cardPulled_unbound {s : State} {n : Nat} (hon : s.flag Reg.SPC_CH_STATUS_ON n = true)
    (hport : 64 ≤ s.get Reg.SPC_CH_CFG_PORT n) : s.cardPulled n = (s.cardDrawn n).report (0x0220 + n) contained 0 [byte n] := by
  have hon' : (s.cardOut n).flag Reg.SPC_CH_STATUS_ON n = true := by
    simpa (disch := decide) only [State.cardOut, State.flag_modChan, State.flag_setFlag_of_lsb] using hon
  have hreset : 64 ≤ ((s.cardOut n).chanReset n).get Reg.SPC_CH_CFG_PORT n := by
    simpa (disch := decide) only [State.chanReset, State.cardOut, State.get_modChan, State.get_setFlag_of_lsb] using hport
  have hdrawn : 64 ≤ (s.cardDrawn n).get Reg.SPC_CH_CFG_PORT n := by
    simpa (disch := decide) only [State.cardDrawn, State.chanOpened, State.get_modChan, State.get_setFlag_of_lsb] using hreset
  rw [State.cardPulled, if_pos hon', State.chanOpen_unbound hreset]
  exact State.slotGone_unbound hdrawn

theorem State.wf_cardReset {s : State} (hwf : SMap.wf s.regs) (n : Nat) : SMap.wf ((s.cardOut n).chanReset n).regs :=
  State.wf_modChan (State.wf_setFlag (State.wf_modChan (State.wf_setFlag hwf _ _ _) _ _) _ _ _) _ _

/-- The card that was drawn: the channel is off and in reset, its request cleared. -/
theorem State.flags_cardDrawn {s : State} (hwf : SMap.wf s.regs) (n : Nat) : (s.cardDrawn n).flag Reg.SPC_CH_STATUS_ON n = false ∧
    (s.cardDrawn n).flag Reg.SPC_CH_STATUS_PERST n = true ∧ (s.cardDrawn n).flag Reg.SPC_CH_STATUS_REQ_ON n = false ∧
    (s.cardDrawn n).flag Reg.SPC_CH_STATUS_PRSNT n = s.flag Reg.SPC_CH_STATUS_PRSNT n := by
  refine ⟨?_, ?_, State.flag_setFlag_self (State.wf_chanOpened (State.wf_cardReset hwf n) n true) rfl n false, ?_⟩
  · simp (disch := decide) only [State.cardDrawn, State.chanOpened, State.flag_modChan, State.flag_setFlag_of_lsb]
    exact State.flag_setFlag_self (State.wf_cardReset hwf n) rfl n false
  · simp (disch := decide) only [State.cardDrawn, State.chanOpened, State.chanReset, State.flag_modChan, State.flag_setFlag_of_lsb]
    exact State.flag_setFlag_self (State.wf_modChan (State.wf_setFlag hwf _ _ _) _ _) rfl n true
  · simp (disch := decide) only [State.cardDrawn, State.chanOpened, State.chanReset, State.cardOut, State.flag_modChan, State.flag_setFlag_of_lsb]

theorem State.wf_cardDrawn {s : State} (hwf : SMap.wf s.regs) (n : Nat) : SMap.wf (s.cardDrawn n).regs :=
  State.wf_setFlag (State.wf_chanOpened (State.wf_cardReset hwf n) n true) _ _ _

theorem State.cardDrawn_pol (s : State) (n : Nat) : (s.cardDrawn n).pol = s.pol := by
  simp [State.cardDrawn, State.chanOpened, State.chanReset, State.cardOut]

theorem State.cardDrawn_jnl (s : State) (n : Nat) : (s.cardDrawn n).jnl = s.jnl := by
  simp [State.cardDrawn, State.chanOpened, State.chanReset, State.cardOut]

end Sys2Proof.Machine

namespace Sys2Proof.Claims

open Sys2Proof.Machine

/-! ## O17, clause by clause -/

section
variable {s : State}

/-- A bus that stays in range for QUAL_MS is qualified (R651). -/
theorem slotBusRangeChange_qualifies {v : Nat} (hon : s.clk.phase ≠ .off) (huv : s.spc.uvOk = true) (hov : s.spc.ovOk = true)
    (hlow : s.get Reg.SPC_BUS_CTL_UV_FALL < v) (hhigh : v < s.get Reg.SPC_BUS_CTL_OV_RISE) :
    exec (.slotBusRangeChange v true) s = .next (({ s with spc := { s.spc with busTenthV := v } }.set
      Reg.SPC_BUS_STATUS_VOLTS 0 (min 4095 (5 * v))).setFlag Reg.SPC_BUS_STATUS_OK 0 true) := by
  change execSlotBusRangeChange v true s = _
  simp only [execSlotBusRangeChange, hon, huv, hov, if_false, if_true, Nat.add_zero, Nat.sub_zero, hlow, hhigh, decide_true, Bool.and_self]

/-- A bus that falls out of range while no channel is on (R651). -/
theorem slotBusRangeChange_loses {v : Nat} (hon : s.clk.phase ≠ .off) (huv : s.spc.uvOk = true) (hov : s.spc.ovOk = true)
    (hlow : v ≤ s.get Reg.SPC_BUS_CTL_UV_FALL) (hhigh : v < s.get Reg.SPC_BUS_CTL_OV_RISE)
    (hoff : ∀ n < 16, s.flag Reg.SPC_CH_STATUS_ON n = false) :
    exec (.slotBusRangeChange v false) s = .next ((({ s with spc := { s.spc with busTenthV := v, uvOk := false } }.set
      Reg.SPC_BUS_STATUS_VOLTS 0 (min 4095 (5 * v))).setFlag Reg.SPC_BUS_STATUS_OK 0 false).report 0x0200 corrected 1 []) := by
  change execSlotBusRangeChange v false s = _
  simp only [execSlotBusRangeChange, hon, huv, hov, if_false, if_true, Nat.add_zero, Nat.sub_zero, Nat.not_lt.2 hlow, hhigh, decide_true, decide_false,
    Bool.and_self, Bool.false_and, Bool.false_eq_true]
  refine congrArg Host.Outcome.next (State.busLost_idle fun n hn => ?_)
  exact (State.flag_set_ne _ (f := Reg.SPC_BUS_STATUS_VOLTS) (Field.key_ne_of_lsb (by decide)) _).trans (hoff n hn)

/-- An insertion begins the debounce (R657). -/
theorem slPrsntNFall_debounces (n : Chan) (hon : s.clk.phase ≠ .off) (hready : s.clk.modReady = true) :
    exec (.slPrsntNFall n) s = .next ((s.setFlag Reg.SPC_CH_STATUS_PRSNT_RAW n.val true).modChan n.val (fun x => { x with debounce := true })) :=
  congrArg Host.Outcome.next ((if_neg hon).trans (if_pos hready))

/-- The end of the debounce shows the card and sets the request (R656, R657). -/
theorem presenceDebounceEnd_shows {n : Chan} (hwf : SMap.wf s.regs) (hdeb : (s.chan n.val).debounce = true)
    (hraw : s.flag Reg.SPC_CH_STATUS_PRSNT_RAW n.val = true) (hnew : s.flag Reg.SPC_CH_STATUS_PRSNT n.val = false)
    (hauto : s.flag Reg.SPC_CH_CFG_AUTO_POWER n.val = true) (hcool : s.flag Reg.SPC_CH_STATUS_COOLING n.val = false)
    (hlatch : s.flag Reg.SPC_CH_STATUS_LATCHED n.val = false) :
    ∃ t, exec (.presenceDebounceEnd n) s = .next t ∧ t.flag Reg.SPC_CH_STATUS_PRSNT n.val = true ∧
      t.flag Reg.SPC_CH_STATUS_REQ_ON n.val = true ∧ t.pol = s.pol ∧ t.jnl = s.jnl ∧ t.mov = s.mov ∧ t.clk = s.clk := by
  have hn := n.isLt
  have hkept := SlotsKept.setPresence (s.modChan n.val (fun x => { x with debounce := false })) n.val true
  have hauto' := (hkept.flag (f := Reg.SPC_CH_CFG_AUTO_POWER) (i := n.val) (by simp only [SpcKey, Field.key, Reg.SPC_CH_CFG_AUTO_POWER]; omega)).trans
    ((State.flag_setFlag_of_lsb _ (by decide) true).trans hauto)
  have hcool' := (hkept.flag (f := Reg.SPC_CH_STATUS_COOLING) (i := n.val) (by simp only [SpcKey, Field.key, Reg.SPC_CH_STATUS_COOLING]; omega)).trans
    ((State.flag_setFlag_of_lsb _ (by decide) true).trans hcool)
  have hlatch' := (hkept.flag (f := Reg.SPC_CH_STATUS_LATCHED) (i := n.val) (by simp only [SpcKey, Field.key, Reg.SPC_CH_STATUS_LATCHED]; omega)).trans
    ((State.flag_setFlag_of_lsb _ (by decide) true).trans hlatch)
  have hshown := (hkept.flag (f := Reg.SPC_CH_STATUS_PRSNT) (i := n.val) (by simp only [SpcKey, Field.key, Reg.SPC_CH_STATUS_PRSNT]; omega)).trans
    (State.flag_setFlag_self hwf rfl n.val true)
  have hframe := hkept.frame
  refine ⟨_, execPresenceDebounceEnd_powers hdeb hraw hnew hauto' hcool' hlatch', (State.flag_setFlag_of_lsb _ (by decide) true).trans hshown,
    State.flag_setFlag_self (hkept.wf (State.wf_setFlag hwf ..)) rfl n.val true, ?_, ?_, ?_, ?_⟩
  all_goals rw [hframe]; rfl

/-- A card drawn from a channel that is off and shows none (R657). -/
theorem slotRemoval_off {n : Chan} (hon : s.clk.phase ≠ .off) (hoff : s.flag Reg.SPC_CH_STATUS_ON n.val = false)
    (hout : s.flag Reg.SPC_CH_STATUS_PRSNT n.val = false) :
    exec (.slotRemoval n) s = .next ((s.setFlag Reg.SPC_CH_STATUS_PRSNT_RAW n.val false).modChan n.val (fun x => { x with debounce := false })) := by
  have hout' : (s.cardOut n.val).flag Reg.SPC_CH_STATUS_PRSNT n.val = false := by
    simpa (disch := decide) only [State.cardOut, State.flag_modChan, State.flag_setFlag_of_lsb] using hout
  change execSlotRemoval n s = _
  rw [execSlotRemoval_powered hon, State.cardPulled_off hoff, if_neg (by simp [hout'])]
  rfl

/-- A card drawn from a channel that is on and bound to no port opens it (R657, R665). -/
theorem slotRemoval_on {n : Chan} (hwf : SMap.wf s.regs) (hon : s.clk.phase ≠ .off) (hpower : s.flag Reg.SPC_CH_STATUS_ON n.val = true)
    (hport : 64 ≤ s.get Reg.SPC_CH_CFG_PORT n.val) (hin : s.flag Reg.SPC_CH_STATUS_PRSNT n.val = true) :
    ∃ t, exec (.slotRemoval n) s = .next t ∧ t.flag Reg.SPC_CH_STATUS_ON n.val = false ∧ t.flag Reg.SPC_CH_STATUS_PERST n.val = true ∧
      t.flag Reg.SPC_CH_STATUS_REQ_ON n.val = false ∧ t.flag Reg.SPC_CH_STATUS_PRSNT n.val = false ∧
      (∃ e ∈ t.flt.waiting, e.src = 0x0220 + n.val ∧ e.cls = contained) ∧ t.pol = s.pol ∧ t.jnl = s.jnl := by
  have hn := n.isLt
  obtain ⟨hoff, hperst, hreq, hshown⟩ := State.flags_cardDrawn hwf n.val
  have hevent := ((s.cardDrawn n.val).waits_report (0x0220 + n.val) contained 0 [byte n.val] []).event
  have hin' : ((s.cardDrawn n.val).report (0x0220 + n.val) contained 0 [byte n.val]).flag Reg.SPC_CH_STATUS_PRSNT n.val = true := hshown.trans hin
  have hexec : exec (.slotRemoval n) s = .next (((s.cardDrawn n.val).report (0x0220 + n.val) contained 0 [byte n.val]).setPresence n.val false) := by
    change execSlotRemoval n s = _
    rw [execSlotRemoval_powered hon, State.cardPulled_unbound hpower hport, if_pos hin']
  have hkept := SlotsKept.setPresence ((s.cardDrawn n.val).report (0x0220 + n.val) contained 0 [byte n.val]) n.val false
  have hframe := hkept.frame
  have hoff' := (hkept.flag (f := Reg.SPC_CH_STATUS_ON) (i := n.val) (by simp only [SpcKey, Field.key, Reg.SPC_CH_STATUS_ON]; omega)).trans
    ((State.flag_setFlag_of_lsb _ (by decide) false).trans hoff)
  have hperst' := (hkept.flag (f := Reg.SPC_CH_STATUS_PERST) (i := n.val) (by simp only [SpcKey, Field.key, Reg.SPC_CH_STATUS_PERST]; omega)).trans
    ((State.flag_setFlag_of_lsb _ (by decide) false).trans hperst)
  have hreq' := (hkept.flag (f := Reg.SPC_CH_STATUS_REQ_ON) (i := n.val) (by simp only [SpcKey, Field.key, Reg.SPC_CH_STATUS_REQ_ON]; omega)).trans
    ((State.flag_setFlag_of_lsb _ (by decide) false).trans hreq)
  have hgone := (hkept.flag (f := Reg.SPC_CH_STATUS_PRSNT) (i := n.val) (by simp only [SpcKey, Field.key, Reg.SPC_CH_STATUS_PRSNT]; omega)).trans
    (State.flag_setFlag_self (State.wf_cardDrawn hwf n.val) rfl n.val false)
  refine ⟨_, hexec, hoff', hperst', hreq', hgone, ?_, ?_, ?_⟩
  · rw [hframe]
    exact hevent
  · rw [hframe]
    exact State.cardDrawn_pol s n.val
  · rw [hframe]
    exact State.cardDrawn_jnl s n.val

/-- The attention button of a module-controlled channel (R661). -/
theorem attentionButtonPress_reports {n : Chan} (hon : s.clk.phase ≠ .off) (hmod : s.chanVppb n.val = none) :
    exec (.attentionButtonPress n) s =
      .next ((s.setFlag Reg.SPC_CH_STATUS_BTN n.val true).report (0x0240 + n.val) corrected 0 [byte n.val]) :=
  congrArg Host.Outcome.next ((if_neg hon).trans (if_neg (by simp [hmod])))

end

/-- Settles O17: the lemmas above, one for each clause. -/
theorem slotBusAndPresence : Obligations.SlotBusAndPresence :=
  ⟨fun _ _ => slotBusRangeChange_qualifies, fun _ _ => slotBusRangeChange_loses, fun n _ => slPrsntNFall_debounces n,
    fun _ _ => presenceDebounceEnd_shows, fun _ _ => slotRemoval_off,
    fun _ _ hwf hon hpower hport hin _ => slotRemoval_on hwf hon hpower hport hin, fun _ _ => attentionButtonPress_reports⟩

end Sys2Proof.Claims

namespace Sys2Proof.Machine

/-! ## Steps that change registers alone -/

/-- `t` is `s` but for registers, of which those with keys in `P` stand. -/
structure RegsKept (P : Nat → Prop) (s t : State) : Prop where
  frame : t = { s with regs := t.regs }
  find : ∀ k, P k → SMap.find t.regs k = SMap.find s.regs k
  wf : SMap.wf s.regs → SMap.wf t.regs

namespace RegsKept

variable {P : Nat → Prop} {s t u : State}

theorem refl (P : Nat → Prop) (s : State) : RegsKept P s s := ⟨rfl, fun _ _ => rfl, id⟩

theorem trans (hst : RegsKept P s t) (htu : RegsKept P t u) : RegsKept P s u := by
  refine ⟨?_, fun k hk => (htu.find k hk).trans (hst.find k hk), fun h => htu.wf (hst.wf h)⟩
  rw [htu.frame, hst.frame]

theorem set (s : State) {f : Field} {i : Nat} (hkey : ¬ P (f.key i)) (v : Nat) : RegsKept P s (s.set f i v) :=
  ⟨rfl, fun _ hk => SMap.find_store_ne _ _ _ fun h => hkey (h ▸ hk), fun h => s.wf_set f i v h⟩

theorem setFlag (s : State) {f : Field} {i : Nat} (hkey : ¬ P (f.key i)) (b : Bool) : RegsKept P s (s.setFlag f i b) := set s hkey _

/-- A loop keeps what its body keeps. -/
theorem loop {α : Type} {l : List α} {f : α → State → State} (hf : ∀ a ∈ l, ∀ s, RegsKept P s (f a s)) (s : State) :
    RegsKept P s (forEach l f s) :=
  forEach_keeps (P := RegsKept P s) (fun a ha t ht => ht.trans (hf a ha t)) (refl P s)

theorem get (h : RegsKept P s t) {f : Field} {i : Nat} (hkey : P (f.key i)) : t.get f i = s.get f i := by
  rw [State.get, State.get, SMap.get, SMap.get, h.find _ hkey]

theorem flag (h : RegsKept P s t) {f : Field} {i : Nat} (hkey : P (f.key i)) : t.flag f i = s.flag f i := by
  rw [State.flag, State.flag, h.get hkey]

end RegsKept

/-! ## Registers that are lost (R591, R617) -/

/-- What is kept of an array by its keys. -/
theorem SMap.find_filter_key {α : Type} (m : SMap α) (p : Nat → Bool) (k : Nat) :
    SMap.find (m.filter (fun r => p r.1)) k = if p k then SMap.find m k else none := by
  induction m with
  | nil => simp [SMap.find]
  | cons a m ih =>
    obtain ⟨i, v⟩ := a
    by_cases hi : i = k
    · subst hi
      by_cases hp : p i = true <;> simp_all [SMap.find]
    · by_cases hp : p i = true <;> simp_all [SMap.find]

/-- A field that outlives the loss of the main domain. -/
theorem State.get_mainReset {s : State} {warm : Bool} {f : Field} {i : Nat} (hkeep : keepsMain warm (f.key i) = true) :
    (s.mainReset warm).get f i = s.get f i := by
  have hfind : SMap.find (s.mainReset warm).regs (f.key i) = SMap.find s.regs (f.key i) :=
    (SMap.find_filter_key s.regs (keepsMain warm) (f.key i)).trans (if_pos hkeep)
  rw [State.get, State.get, SMap.get, SMap.get, hfind]

/-! ## The main rails off (R641) -/

@[simp] theorem State.get_modPfe (s : State) (g : Pfe → Pfe) (f : Field) (i : Nat) : (s.modPfe g).get f i = s.get f i := rfl

@[simp] theorem State.flag_modPfe (s : State) (g : Pfe → Pfe) (f : Field) (i : Nat) : (s.modPfe g).flag f i = s.flag f i := rfl

/-- Key `k` is of no main rail. -/
def NoMainRail (k : Nat) : Prop := ∀ r < 8, Reg.PFE_RAIL_IN_WINDOW.key r ≠ k ∧ Reg.PFE_RAIL_MV.key r ≠ k

/-- `s` with the main rails off. -/
def State.railsOff (s : State) : State :=
  forEach (List.range 8).reverse (fun r s => (s.setFlag Reg.PFE_RAIL_IN_WINDOW r false).set Reg.PFE_RAIL_MV r 0) s

theorem State.railsOff_kept (s : State) : RegsKept NoMainRail s s.railsOff :=
  .loop (fun r hr s => by
    have hlt : r < 8 := by simpa using hr
    exact (RegsKept.setFlag s (fun h => (h r hlt).1 rfl) false).trans (.set _ (fun h => (h r hlt).2 rfl) 0)) s

/-- `s` with the main rails off and PWRGD_OUT low, before the main domain loses its state. -/
def State.powerDropped (s : State) : State :=
  ((s.railsOff.setFlag Reg.PFE_STATUS_PWRGD 0 false).setFlag Reg.PFE_STATUS_MAIN_ON 0 false).modPfe (fun p => { p with pwrgdQual := false })

/-- `s` with the main domain's state lost. -/
def State.mainLost (s : State) : State := s.powerDropped.mainReset false

/-- `s` in Standby, or still off, with MOD_READY low and a flush that runs without the main domain. -/
def State.standingBy (s : State) : State :=
  let ph := if s.clk.phase = .off then Phase.off else Phase.standby
  let s := { s with flt := { s.flt with flush := s.flt.flush.map (fun (x : Flush) => { x with noMain := true }) } }
  { s with clk := { s.clk with modReady := false, phase := ph } }

theorem State.mainOff_eq (s : State) : s.mainOff = s.mainLost.standingBy := by
  unfold State.mainOff
  extract_lets s₁ s₂ s₃
  have hlost : s₃ = s.mainLost := by rw [State.mainLost, State.powerDropped, State.railsOff]
  rw [← hlost]
  clear_value s₃
  rfl

theorem State.powerDropped_frame (s : State) :
    ∃ regs, s.powerDropped = { s with regs := regs, pfe := { s.pfe with pwrgdQual := false } } := by
  refine ⟨s.powerDropped.regs, ?_⟩
  have hframe := s.railsOff_kept.frame
  rw [State.powerDropped]
  generalize s.railsOff = x at hframe
  rw [hframe]
  rfl

theorem State.mainReset_tbl (s : State) : (s.mainReset false).tbl = Tbl.reset := by
  have hcold : s.tablesAfterReset false = Tbl.reset := by simp [State.tablesAfterReset]
  rw [← hcold]
  rfl

theorem State.mainReset_frame (s : State) (warm : Bool) : (s.mainReset warm).pfe = s.pfe ∧ (s.mainReset warm).clk = s.clk ∧
    (s.mainReset warm).jnl = s.jnl ∧ (s.mainReset warm).pol = Pol.reset ∧ (s.mainReset warm).flt.waiting = s.flt.waiting :=
  ⟨rfl, rfl, rfl, rfl, rfl⟩

theorem State.standingBy_frame (s : State) : s.standingBy.pfe = s.pfe ∧ s.standingBy.tbl = s.tbl ∧ s.standingBy.jnl = s.jnl ∧
    s.standingBy.pol = s.pol ∧ s.standingBy.regs = s.regs ∧
    s.standingBy.clk = { s.clk with modReady := false, phase := if s.clk.phase = .off then .off else .standby } :=
  ⟨rfl, rfl, rfl, rfl, rfl, rfl⟩

/-- What stands of the module once the main rails are off, and what does not. -/
theorem State.mainOff_frame (s : State) : s.mainOff.pfe = { s.pfe with pwrgdQual := false } ∧ s.mainOff.tbl = Tbl.reset ∧
    s.mainOff.jnl = s.jnl ∧ s.mainOff.pol = Pol.reset ∧
    s.mainOff.clk = { s.clk with modReady := false, phase := if s.clk.phase = .off then .off else .standby } := by
  obtain ⟨hpfe, htbl, hjnl, hpol, -, hclk⟩ := s.mainLost.standingBy_frame
  obtain ⟨hpfe', hclk', hjnl', hpol', -⟩ := s.powerDropped.mainReset_frame false
  obtain ⟨_, hdrop⟩ := s.powerDropped_frame
  rw [s.mainOff_eq, hpfe, htbl, hjnl, hpol, hclk, State.mainLost, hpfe', hclk', hjnl', hpol', s.powerDropped.mainReset_tbl, hdrop]
  exact ⟨rfl, rfl, rfl, rfl, rfl⟩

theorem State.mainLost_get_mainOff (s : State) (f : Field) (i : Nat) : s.mainOff.get f i = s.mainLost.get f i := by
  rw [s.mainOff_eq]
  exact State.get_congr s.mainLost.standingBy_frame.2.2.2.2.1 f i

/-- A field of the standby domain but those of the main rails stands. -/
theorem State.get_mainOff (s : State) {f : Field} {i : Nat} (hkeep : keepsMain false (f.key i) = true) (hrail : NoMainRail (f.key i))
    (hpwrgd : Reg.PFE_STATUS_PWRGD.key 0 ≠ f.key i) (hon : Reg.PFE_STATUS_MAIN_ON.key 0 ≠ f.key i) : s.mainOff.get f i = s.get f i := by
  rw [s.mainLost_get_mainOff, State.mainLost, State.get_mainReset hkeep, State.powerDropped, State.get_modPfe, State.get_setFlag_ne _ hon,
    State.get_setFlag_ne _ hpwrgd, s.railsOff_kept.get hrail]

/-- PWRGD_OUT and MAIN_ON are low once the main rails are off. -/
theorem State.flags_mainOff {s : State} (hwf : SMap.wf s.regs) :
    s.mainOff.flag Reg.PFE_STATUS_PWRGD = false ∧ s.mainOff.flag Reg.PFE_STATUS_MAIN_ON = false := by
  have hrails := s.railsOff_kept.wf hwf
  constructor
  · rw [State.flag, s.mainLost_get_mainOff, State.mainLost, State.get_mainReset (by decide), State.powerDropped, State.get_modPfe,
      State.get_setFlag_ne _ (by decide)]
    exact State.flag_setFlag_self hrails rfl 0 false
  · rw [State.flag, s.mainLost_get_mainOff, State.mainLost, State.get_mainReset (by decide), State.powerDropped, State.get_modPfe]
    exact State.flag_setFlag_self (State.wf_setFlag hrails _ 0 _) rfl 0 false

/-! ## A latched trip (R634, Table 16-10) -/

theorem State.latchTrip_frame (s : State) (cause rail : Nat) :
    ∃ regs p, s.latchTrip cause rail = { s with regs := regs, pfe := { s.pfe with pendReport := p } } := by
  unfold State.latchTrip
  extract_lets s₁ s₂ s₃
  have hframe : s₃ = { s with regs := s₃.regs } := rfl
  generalize some (BitVec.ofNat 32 (s₃.word 0x01000194)) = report
  clear_value s₃
  rw [hframe]
  exact ⟨_, report, rfl⟩

theorem State.wf_modPfe {s : State} (hwf : SMap.wf s.regs) (g : Pfe → Pfe) : SMap.wf (s.modPfe g).regs := hwf

theorem State.wf_latchTrip {s : State} (hwf : SMap.wf s.regs) (cause rail : Nat) : SMap.wf (s.latchTrip cause rail).regs := by
  unfold State.latchTrip
  extract_lets s₁ s₂ s₃
  have h₁ : SMap.wf s₁.regs := State.wf_set _ _ _ _ (State.wf_set _ _ _ _ hwf)
  have h₂ : SMap.wf s₂.regs := State.wf_set _ _ _ _ h₁
  have h₃ : SMap.wf s₃.regs := State.wf_setFlag (State.wf_set _ _ _ _ h₂) _ _ _
  clear_value s₃
  exact State.wf_modPfe h₃ _

theorem State.get_latchTrip_cause {s : State} (hwf : SMap.wf s.regs) (cause rail : Nat) :
    (s.latchTrip cause rail).get Reg.PFE_LAST_TRIP_CAUSE = cause % 16 := by
  simp (disch := decide) only [State.latchTrip, State.get_modPfe, State.get_setFlag_ne, State.get_set_ne]
  exact State.get_set_self _ _ _ _ hwf

/-! ## VBUS up (R620, R625, R629) -/

/-- `s` with the inrush over and feed `f` active. -/
def State.vbusSupplied (s : State) (f : Feed) : State :=
  ((s.setFlag Reg.PFE_STATUS_LIMITING 0 false).set Reg.PFE_STATUS_ACTIVE 0 f.val).setFlag Reg.PFE_STATUS_ON_HOLDUP 0 false

/-- `s` with rail `r` in window at `mv` millivolts. -/
def State.railUp (s : State) (r mv : Nat) : State := (s.set Reg.PFE_RAIL_MV r mv).setFlag Reg.PFE_RAIL_IN_WINDOW r true

/-- Key `k` is not of rail `r`. -/
def NotOfRail (r k : Nat) : Prop := Reg.PFE_RAIL_MV.key r ≠ k ∧ Reg.PFE_RAIL_IN_WINDOW.key r ≠ k

theorem State.railUp_kept (s : State) (r mv : Nat) : RegsKept (NotOfRail r) s (s.railUp r mv) :=
  (RegsKept.set s (fun h => h.1 rfl) mv).trans (.setFlag _ (fun h => h.2 rfl) true)

theorem State.railUp_shows {s : State} (hwf : SMap.wf s.regs) {r : Nat} (hkey : Reg.PFE_RAIL_IN_WINDOW.key r ≠ Reg.PFE_RAIL_MV.key r) (mv : Nat) :
    (s.railUp r mv).get Reg.PFE_RAIL_MV r = mv % 2 ^ Reg.PFE_RAIL_MV.width ∧ (s.railUp r mv).flag Reg.PFE_RAIL_IN_WINDOW r = true :=
  ⟨(State.get_setFlag_ne _ hkey _).trans (State.get_set_self _ _ _ _ hwf), State.flag_setFlag_self (State.wf_set _ _ _ _ hwf) rfl r true⟩

/-- `s` with the three standby rails in window. -/
def State.standbyRailsUp (s : State) : State := ((s.railUp 8 800).railUp 9 1800).railUp 10 3300

/-- Key `k` is of no standby rail. -/
def NoStandbyRail (k : Nat) : Prop := NotOfRail 8 k ∧ NotOfRail 9 k ∧ NotOfRail 10 k

theorem RegsKept.mono {P Q : Nat → Prop} {s t : State} (h : RegsKept P s t) (himp : ∀ k, Q k → P k) : RegsKept Q s t :=
  ⟨h.frame, fun k hk => h.find k (himp k hk), h.wf⟩

theorem State.standbyRailsUp_kept (s : State) : RegsKept NoStandbyRail s s.standbyRailsUp :=
  (((s.railUp_kept 8 800).mono fun _ h => h.1).trans (((s.railUp 8 800).railUp_kept 9 1800).mono fun _ h => h.2.1)).trans
    ((((s.railUp 8 800).railUp 9 1800).railUp_kept 10 3300).mono fun _ h => h.2.2)

/-- What the three standby rails read. -/
theorem State.standbyRailsUp_shows {s : State} (hwf : SMap.wf s.regs) :
    (s.standbyRailsUp.get Reg.PFE_RAIL_MV 8 = 800 ∧ s.standbyRailsUp.flag Reg.PFE_RAIL_IN_WINDOW 8 = true) ∧
    (s.standbyRailsUp.get Reg.PFE_RAIL_MV 9 = 1800 ∧ s.standbyRailsUp.flag Reg.PFE_RAIL_IN_WINDOW 9 = true) ∧
    s.standbyRailsUp.get Reg.PFE_RAIL_MV 10 = 3300 ∧ s.standbyRailsUp.flag Reg.PFE_RAIL_IN_WINDOW 10 = true := by
  have hwf₁ := (s.railUp_kept 8 800).wf hwf
  have hwf₂ := ((s.railUp 8 800).railUp_kept 9 1800).wf hwf₁
  have hkept := ((s.railUp 8 800).railUp 9 1800).railUp_kept 10 3300
  have hkept' := (s.railUp 8 800).railUp_kept 9 1800
  obtain ⟨hmv, hin⟩ := State.railUp_shows hwf (r := 8) (by decide) 800
  obtain ⟨hmv', hin'⟩ := State.railUp_shows hwf₁ (r := 9) (by decide) 1800
  rw [State.standbyRailsUp]
  refine ⟨⟨?_, ?_⟩, ⟨?_, ?_⟩, State.railUp_shows hwf₂ (r := 10) (by decide) 3300⟩
  · rw [hkept.get ⟨by decide, by decide⟩, hkept'.get ⟨by decide, by decide⟩]
    exact hmv
  · rw [hkept.flag ⟨by decide, by decide⟩, hkept'.flag ⟨by decide, by decide⟩]
    exact hin
  · rw [hkept.get ⟨by decide, by decide⟩]
    exact hmv'
  · rw [hkept.flag ⟨by decide, by decide⟩]
    exact hin'

/-! ## The standby domain off (R624, R627) -/

/-- `s` with the standby rails off. -/
def State.standbyRailsOff (s : State) : State :=
  forEach [8, 9, 10] (fun r s => (s.set Reg.PFE_RAIL_MV r 0).setFlag Reg.PFE_RAIL_IN_WINDOW r false) s

theorem State.standbyRailsOff_kept (s : State) : RegsKept (fun _ => False) s s.standbyRailsOff :=
  .loop (fun _ _ s => (RegsKept.set s id 0).trans (.setFlag _ id false)) s

/-- `s` off, with what was neither in flash nor accepted lost. -/
def State.standbyDark (s : State) : State :=
  let s := (s.setFlag Reg.PFE_STATUS_ON_HOLDUP 0 false).setFlag Reg.PFE_STATUS_HU_READY 0 false
  let s := s.modPfe (fun p => { p with vbusUp := false, standbyOn := false, imminent := false, charging := false, holdupTest := none })
  let s := s.set Reg.PFE_STATUS_UNUSABLE 0 0
  { s with clk := { s.clk with phase := .off, modReady := false, startPend := none }, jnl := { s.jnl with buf := [] },
           flt := { s.flt with waiting := [] } }

theorem State.standbyDark_frame (s : State) : ∃ regs, s.standbyDark = { s with
    regs := regs
    pfe := { s.pfe with vbusUp := false, standbyOn := false, imminent := false, charging := false, holdupTest := none }
    clk := { s.clk with phase := .off, modReady := false, startPend := none }
    jnl := { s.jnl with buf := [] }
    flt := { s.flt with waiting := [] } } := ⟨_, rfl⟩

/-- A register field outlives the supervisor's loss of power (R617). -/
def supervisorKeeps (k : Nat) : Bool :=
  !(0x01000100 ≤ k / 32 && k / 32 < 0x01000180) && !(k / 32 == 0x01000194)

/-- Closing a qualified feed changes the front end alone, and not VBUS nor imminent loss. -/
theorem State.closeQualified_frame (s : State) : ∃ c st w,
    s.closeQualified = { s with pfe := { s.pfe with closed := c, settling := st, want := w } } := by
  unfold State.closeQualified
  extract_lets can g
  split
  · exact ⟨_, _, _, rfl⟩
  · split
    · exact ⟨_, _, _, rfl⟩
    · exact ⟨_, _, _, rfl⟩

end Sys2Proof.Machine

namespace Sys2Proof.Claims
open Sys2Proof.Machine

section
variable {s : State}

/-- The inrush of the closed feed is over (R620, R629): VBUS and the standby domain are up. -/
theorem inrushComplete_supplies {f : Feed} (hwf : SMap.wf s.regs) (hclosed : s.pfe.closed = some f) (hset : s.pfe.settling = true) :
    ∃ t, exec .inrushComplete s = .next t ∧ t = { s with regs := t.regs, pfe := t.pfe } ∧
      t.pfe.vbusUp = true ∧ t.pfe.standbyOn = true ∧ t.pfe.settling = false ∧ t.pfe.closed = some f ∧
      t.flag Reg.PFE_STATUS_LIMITING = false ∧ t.get Reg.PFE_STATUS_ACTIVE = f.val ∧ t.flag Reg.PFE_STATUS_ON_HOLDUP = false ∧
      t.get Reg.PFE_RAIL_MV 8 = 800 ∧ t.get Reg.PFE_RAIL_MV 9 = 1800 ∧ t.get Reg.PFE_RAIL_MV 10 = 3300 ∧
      t.flag Reg.PFE_RAIL_IN_WINDOW 8 = true ∧ t.flag Reg.PFE_RAIL_IN_WINDOW 9 = true ∧ t.flag Reg.PFE_RAIL_IN_WINDOW 10 = true := by
  have hexec : exec .inrushComplete s = .next ((s.vbusSupplied f).standbyRailsUp.modPfe (fun p => { p with
      settling := false, vbusUp := true, standbyOn := true,
      charging := !(s.vbusSupplied f).standbyRailsUp.flag Reg.PFE_STATUS_HU_READY })) := by
    change execInrushComplete s = _
    rw [execInrushComplete, hclosed]
    exact congrArg Host.Outcome.next (if_pos hset)
  have hwf₁ : SMap.wf (s.setFlag Reg.PFE_STATUS_LIMITING 0 false).regs := State.wf_setFlag hwf _ _ _
  have hwf₂ := State.wf_set _ Reg.PFE_STATUS_ACTIVE 0 f.val hwf₁
  have hlimiting : (s.vbusSupplied f).flag Reg.PFE_STATUS_LIMITING = false := by
    rw [State.vbusSupplied, State.flag_setFlag_ne _ (by decide), State.flag_set_ne _ (by decide), State.flag_setFlag_self hwf rfl]
  have hactive : (s.vbusSupplied f).get Reg.PFE_STATUS_ACTIVE = f.val := by
    rw [State.vbusSupplied, State.get_setFlag_ne _ (by decide), State.get_set_self _ _ _ _ hwf₁]
    exact Nat.mod_eq_of_lt f.isLt
  have hholdup : (s.vbusSupplied f).flag Reg.PFE_STATUS_ON_HOLDUP = false := State.flag_setFlag_self hwf₂ rfl 0 false
  have hframe : (s.vbusSupplied f).standbyRailsUp = { s with regs := (s.vbusSupplied f).standbyRailsUp.regs } :=
    (s.vbusSupplied f).standbyRailsUp_kept.frame
  have hkept := (s.vbusSupplied f).standbyRailsUp_kept
  obtain ⟨⟨hmv8, hin8⟩, ⟨hmv9, hin9⟩, hmv10, hin10⟩ := (s.vbusSupplied f).standbyRailsUp_shows (State.wf_setFlag hwf₂ _ 0 _)
  refine ⟨_, hexec, ?_, rfl, rfl, rfl, ?_, ?_, ?_, ?_, hmv8, hmv9, hmv10, hin8, hin9, hin10⟩
  · generalize (s.vbusSupplied f).standbyRailsUp = x at hframe
    rw [hframe]
    rfl
  · generalize (s.vbusSupplied f).standbyRailsUp = x at hframe
    rw [hframe]
    exact hclosed
  · rw [State.flag_modPfe, hkept.flag (by unfold NoStandbyRail NotOfRail; decide), hlimiting]
  · rw [State.get_modPfe, hkept.get (by unfold NoStandbyRail NotOfRail; decide), hactive]
  · rw [State.flag_modPfe, hkept.flag (by unfold NoStandbyRail NotOfRail; decide), hholdup]

/-- The end of the first charge sets HU_READY and the estimate of C_HU (R625). -/
theorem holdupCharged_estimates {us : Nat} (hcharging : s.pfe.charging = true) (htest : s.pfe.holdupTest = none) :
    exec (.holdupCharged us) s = .next ((((s.setFlag Reg.PFE_STATUS_HU_READY 0 true).set Reg.PFE_HU_C_EST 0
      (min 4095 (us / 2880))).set Reg.PFE_HU_VOLTS 0 2400).modPfe (fun p => { p with charging := false, holdupTest := none })) := by
  have hnone (x : State) (v : Nat) (hx : x.pfe.holdupTest = none) :
      (x.modPfe (fun p => { p with charging := false, holdupTest := none })).endBg? x.pfe.holdupTest stSuccess (leBytes 2 v) =
        x.modPfe (fun p => { p with charging := false, holdupTest := none }) := by
    rw [hx]
    rfl
  refine congrArg Host.Outcome.next ((if_pos hcharging).trans ?_)
  rw [htest]
  exact hnone _ _ htest

/-- HU_READY still 0 after 5 s of charging is reported (R625). -/
theorem holdupChargeCheck_reports (hready : s.flag Reg.PFE_STATUS_HU_READY = false) (hcharging : s.pfe.charging = true) :
    exec (.holdupChargeCheck true) s = .next (s.report 0x010A corrected 0 []) :=
  congrArg Host.Outcome.next (if_pos (by simp [hready, hcharging]))

/-- With no feed and no pair closed the capacitor supplies VBUS (R626). -/
theorem rideThrough_reports (hup : s.pfe.vbusUp = true) (hclosed : s.pfe.closed = none) (ha : s.feedOk 0 = false) (hb : s.feedOk 1 = false)
    (hholdup : s.flag Reg.PFE_STATUS_ON_HOLDUP = false) :
    exec .rideThrough s = .next ((s.setFlag Reg.PFE_STATUS_ON_HOLDUP 0 true).report 0x0108 corrected 0 []) :=
  congrArg Host.Outcome.next (if_pos (by simp [hup, hclosed, ha, hb, hholdup]))

/-- Imminent loss latches cause 5 and takes the main rails down (R627). -/
theorem imminentLoss_latches (hwf : SMap.wf s.regs) (hup : s.pfe.vbusUp = true) (hclosed : s.pfe.closed = none)
    (himm : s.pfe.imminent = false) (hon : s.clk.phase ≠ .off) :
    ∃ t, exec .imminentLoss s = .next t ∧ t.pfe.imminent = true ∧ t.clk.phase = .standby ∧ t.clk.modReady = false ∧
      t.flag Reg.PFE_STATUS_PWRGD = false ∧ t.flag Reg.PFE_STATUS_MAIN_ON = false ∧ t.get Reg.PFE_LAST_TRIP_CAUSE = 5 ∧
      t.pol = Pol.reset ∧ t.tbl = Tbl.reset ∧ t.jnl = s.jnl ∧
      (∃ e ∈ t.flt.waiting, e.src = 0x0109 ∧ e.cls = fatal) := by
  have hexec : exec .imminentLoss s = .next (s.latchTrip 5 0).imminentLoss :=
    congrArg Host.Outcome.next (if_pos (by simp [hup, hclosed, himm]))
  have hcause := State.get_latchTrip_cause hwf 5 0
  have hwf' := State.wf_latchTrip hwf 5 0
  obtain ⟨_, _, hlatch⟩ := s.latchTrip_frame 5 0
  have hjnl : (s.latchTrip 5 0).jnl = s.jnl := by rw [hlatch]
  have hphase : (s.latchTrip 5 0).clk = s.clk := by rw [hlatch]
  generalize s.latchTrip 5 0 = x at hexec hcause hwf' hjnl hphase
  obtain ⟨hpfe, htbl, hjnl', hpol, hclk⟩ := (x.modPfe (fun p => { p with imminent := true })).mainOff_frame
  obtain ⟨hpwrgd, hmain⟩ := State.flags_mainOff (s := x.modPfe (fun p => { p with imminent := true })) hwf'
  have hcause' : (x.modPfe (fun p => { p with imminent := true })).mainOff.get Reg.PFE_LAST_TRIP_CAUSE = 5 := by
    rw [State.get_mainOff _ (by decide) (by unfold NoMainRail; decide) (by decide) (by decide), State.get_modPfe, hcause]
  rw [hexec, State.imminentLoss]
  generalize (x.modPfe (fun p => { p with imminent := true })).mainOff = y at *
  obtain ⟨e, he, hsrc, hcls, -⟩ := y.waits_report 0x0109 fatal 0 [] []
  exact ⟨_, rfl, (congrArg Pfe.imminent hpfe).trans rfl, (congrArg Clk.phase hclk).trans (if_neg (hphase ▸ hon)),
    (congrArg Clk.modReady hclk).trans rfl, hpwrgd, hmain, hcause', hpol, htbl, hjnl'.trans hjnl, e, he, hsrc, hcls⟩

/-- At 20.0 V the standby domain is off; no start is asked for, and what was not in flash or accepted is lost (R627). -/
theorem standbyDomainOff_loses (hup : s.pfe.vbusUp = true) (himm : s.pfe.imminent = true) :
    ∃ t, exec .standbyDomainOff s = .next t ∧ t.pfe.vbusUp = false ∧ t.pfe.imminent = false ∧ t.clk.phase = .off ∧
      t.clk.startPend = none ∧ t.jnl = { s.jnl with buf := [] } ∧ t.flt = { s.flt with waiting := [] } ∧
      t.hlm = s.hlm ∧ t.out = s.out := by
  have hexec : exec .standbyDomainOff s = .next s.standbyRailsOff.standbyDark.closeQualified :=
    congrArg Host.Outcome.next (if_pos (by rw [hup, himm]; rfl))
  have hframe := s.standbyRailsOff_kept.frame
  generalize s.standbyRailsOff = x at hexec hframe
  obtain ⟨_, hdark⟩ := x.standbyDark_frame
  obtain ⟨_, _, _, hclose⟩ := x.standbyDark.closeQualified_frame
  rw [hexec, hclose, hdark, hframe]
  exact ⟨_, rfl, rfl, rfl, rfl, rfl, rfl, rfl, rfl, rfl⟩

/-- With both feeds below 7 V the supervisor loses its settings and its latch; what the front end shows of the rails stays (R617, R635). -/
theorem supervisorPowerLoss_forgets (ha : (s.pfe.feed 0).tenthV < 70) (hb : (s.pfe.feed 1).tenthV < 70) :
    ∃ t, exec .supervisorPowerLoss s = .next t ∧ t = { s with regs := t.regs, pfe := t.pfe } ∧ t.pfe.latched = false ∧
      t.pfe.coolDown = false ∧ t.pfe.tripTicks = [] ∧ SMap.find t.regs (Reg.PFE_LAST_TRIP_VALID.key 0) = none ∧
      SMap.find t.regs (Reg.PFE_STATUS_MAIN_ON.key 0) = SMap.find s.regs (Reg.PFE_STATUS_MAIN_ON.key 0) := by
  refine ⟨_, congrArg Host.Outcome.next (if_pos ⟨ha, hb⟩), rfl, rfl, rfl, rfl, ?_, ?_⟩
  · exact (SMap.find_filter_key s.regs supervisorKeeps (Reg.PFE_LAST_TRIP_VALID.key 0)).trans (if_neg (by decide))
  · exact (SMap.find_filter_key s.regs supervisorKeeps (Reg.PFE_STATUS_MAIN_ON.key 0)).trans (if_pos (by decide))

end

/-- Settles O15: the lemmas above, one for each clause. -/
theorem holdupRun : Obligations.HoldupRun :=
  ⟨fun _ _ => inrushComplete_supplies, fun _ _ => holdupCharged_estimates, fun _ => holdupChargeCheck_reports, fun _ => rideThrough_reports,
    fun _ => imminentLoss_latches, fun _ => standbyDomainOff_loses, fun _ => supervisorPowerLoss_forgets⟩

end Sys2Proof.Claims

namespace Sys2Proof.Machine

/-! ## Leaving operation (R593) -/

/-- Leaving changes messages and the Seam alone, and drops MOD_READY. -/
theorem State.leave_frame (s : State) : ∃ out sem, s.leave = { s with out := out, sem := sem, clk := { s.clk with modReady := false } } := by
  unfold State.leave State.sendLeaving
  split
  · obtain ⟨out, sem, h⟩ := s.ctlSend_frame .leaving
    rw [h]
    exact ⟨out, sem, rfl⟩
  · exact ⟨s.out, s.sem, rfl⟩

theorem State.mainReset_cold (s : State) : (s.mainReset false).vlt = Vlt.reset ∧ (s.mainReset false).trec = Rec.reset ∧
    (s.mainReset false).hlm.ledger = s.hlm.ledger ∧ (s.mainReset false).flt.hist = s.flt.hist ∧
    (s.mainReset false).cmd.nextBg = s.cmd.nextBg := ⟨rfl, rfl, rfl, rfl, rfl⟩

theorem State.standingBy_kept (s : State) : s.standingBy.vlt = s.vlt ∧ s.standingBy.hlm = s.hlm ∧ s.standingBy.flt.hist = s.flt.hist ∧
    s.standingBy.cmd = s.cmd := ⟨rfl, rfl, rfl, rfl⟩

/-- The vault is lost with the main rails; ledger and fault history stand. -/
theorem State.mainOff_kept (s : State) : s.mainOff.vlt = Vlt.reset ∧ s.mainOff.hlm.ledger = s.hlm.ledger ∧
    s.mainOff.flt.hist = s.flt.hist ∧ s.mainOff.cmd.nextBg = s.cmd.nextBg := by
  obtain ⟨hvlt, hhlm, hhist, hcmd⟩ := s.mainLost.standingBy_kept
  obtain ⟨hvlt', -, hledger, hhist', hnext⟩ := s.powerDropped.mainReset_cold
  obtain ⟨_, hdrop⟩ := s.powerDropped_frame
  rw [s.mainOff_eq, hvlt, hhlm, hhist, hcmd, State.mainLost, hvlt', hledger, hhist', hnext, hdrop]
  exact ⟨rfl, rfl, rfl, rfl⟩

theorem State.wf_mainReset {s : State} (hwf : SMap.wf s.regs) (warm : Bool) : SMap.wf (s.mainReset warm).regs := SMap.wf_filter _ _ hwf

theorem State.standingBy_regs (s : State) : s.standingBy.regs = s.regs := rfl

theorem State.wf_mainOff {s : State} (hwf : SMap.wf s.regs) : SMap.wf s.mainOff.regs := by
  rw [s.mainOff_eq, State.standingBy_regs]
  exact State.wf_mainReset (State.wf_modPfe (State.wf_setFlag (State.wf_setFlag (s.railsOff_kept.wf hwf) _ _ _) _ _ _) _) _

/-! ## What every start resets (R591, Table 15-5) -/

/-- `s` with the reset cause shown. -/
def State.causeShown (s : State) (kind trigger source : Nat) : State :=
  ((s.set Reg.CLK_RST_CAUSE_KIND 0 kind).set Reg.CLK_RST_CAUSE_TRIGGER 0 trigger).set Reg.CLK_RST_CAUSE_SOURCE 0 source

/-- `s` with the start's own marks begun anew. -/
def State.marksBegun (s : State) : State :=
  let s := (s.set Reg.CLK_START_TIME_RELEASE_MS 0 0xFFFF).set Reg.CLK_START_TIME_READY_MS 0 0xFFFF
  let s := (s.setFlag Reg.CLK_JOURNAL_CLEAR_PEND 0 false).setFlag Reg.TIM_STATUS_ANCHORED 0 false
  forEach (List.range 64) (fun p s => s.set Reg.HLM_IDE_CFG_STATE p 0) s

/-- `s` with commands and sessions lost and the start chain begun anew. -/
def State.begun (s : State) (warm : Bool) : State :=
  { s with
    cmd := { Cmd.reset with nextBg := s.cmd.nextBg }
    hlm := { s.hlm with sessions := [], verifying := none }
    jnl := s.jnl.cleared
    clk := { s.clk with startPend := none, warm := warm, startTick := s.tick, commanded := false, bootWritten := false,
                        lockApplied := false, startRecord := false, checkpointed := false, modReady := false, gated := false } }

theorem State.startReset_eq (s : State) (kind trigger source : Nat) (warm : Bool) :
    s.startReset kind trigger source warm = (s.causeShown kind trigger source).marksBegun.begun warm := by
  unfold State.startReset
  extract_lets s₁ s₂ s₃ s₄
  have hmarks : s₄ = (s.causeShown kind trigger source).marksBegun := by rw [State.marksBegun, State.causeShown]
  rw [← hmarks]
  clear_value s₄
  rfl

/-- Key `k` is of no mark that a start begins anew. -/
def NoMark (k : Nat) : Prop :=
  (Reg.CLK_START_TIME_RELEASE_MS.key 0 ≠ k ∧ Reg.CLK_START_TIME_READY_MS.key 0 ≠ k) ∧
  (Reg.CLK_JOURNAL_CLEAR_PEND.key 0 ≠ k ∧ Reg.TIM_STATUS_ANCHORED.key 0 ≠ k) ∧ keySub k ≠ 0x0E

theorem keySub_ide {p : Nat} (hp : p < 64) : keySub (Reg.HLM_IDE_CFG_STATE.key p) = 0x0E := by
  simp only [keySub, Field.key, Reg.HLM_IDE_CFG_STATE]
  omega

theorem State.marksBegun_kept (s : State) : RegsKept NoMark s s.marksBegun := by
  unfold State.marksBegun
  extract_lets s₁ s₂
  have h₁ : RegsKept NoMark s s₁ := (RegsKept.set s (fun h => h.1.1 rfl) _).trans (.set _ (fun h => h.1.2 rfl) _)
  have h₂ : RegsKept NoMark s₁ s₂ := (RegsKept.setFlag s₁ (fun h => h.2.1.1 rfl) _).trans (.setFlag _ (fun h => h.2.1.2 rfl) _)
  exact (h₁.trans h₂).trans (.loop (fun p hp s => .set s (fun h => h.2.2 (keySub_ide (List.mem_range.1 hp))) 0) s₂)

/-- Key `k` does not show the reset cause. -/
def NoCause (k : Nat) : Prop :=
  Reg.CLK_RST_CAUSE_KIND.key 0 ≠ k ∧ Reg.CLK_RST_CAUSE_TRIGGER.key 0 ≠ k ∧ Reg.CLK_RST_CAUSE_SOURCE.key 0 ≠ k

theorem State.causeShown_kept (s : State) (kind trigger source : Nat) : RegsKept NoCause s (s.causeShown kind trigger source) :=
  ((RegsKept.set s (fun h => h.1 rfl) _).trans (.set _ (fun h => h.2.1 rfl) _)).trans (.set _ (fun h => h.2.2 rfl) _)

/-- The cause that is shown (Table 15-1). -/
theorem State.causeShown_reads {s : State} (hwf : SMap.wf s.regs) {kind trigger source : Nat} (hkind : kind < 4) (htrigger : trigger < 256)
    (hsource : source < 65536) : (s.causeShown kind trigger source).get Reg.CLK_RST_CAUSE_KIND = kind ∧
    (s.causeShown kind trigger source).get Reg.CLK_RST_CAUSE_TRIGGER = trigger ∧
    (s.causeShown kind trigger source).get Reg.CLK_RST_CAUSE_SOURCE = source := by
  have hwf₁ := State.wf_set s Reg.CLK_RST_CAUSE_KIND 0 kind hwf
  have hwf₂ := State.wf_set _ Reg.CLK_RST_CAUSE_TRIGGER 0 trigger hwf₁
  simp (disch := decide) only [State.causeShown, State.get_set_ne]
  rw [State.get_set_self _ _ _ _ hwf, State.get_set_self _ _ _ _ hwf₁, State.get_set_self _ _ _ _ hwf₂]
  exact ⟨Nat.mod_eq_of_lt (lt_trans hkind (by decide)), Nat.mod_eq_of_lt htrigger, Nat.mod_eq_of_lt hsource⟩

/-- A start writes registers and what `begun` names. -/
theorem State.startReset_frame (s : State) (kind trigger source : Nat) (warm : Bool) :
    ∃ regs, s.startReset kind trigger source warm = ({ s with regs := regs } : State).begun warm := by
  have hcause := (s.causeShown_kept kind trigger source).frame
  have hmarks := (s.causeShown kind trigger source).marksBegun_kept.frame
  refine ⟨(s.causeShown kind trigger source).marksBegun.regs, ?_⟩
  rw [s.startReset_eq]
  exact congrArg (fun x : State => x.begun warm) (by rw [hmarks, hcause])

theorem State.regs_begun (s : State) (warm : Bool) : (s.begun warm).regs = s.regs := rfl

theorem State.get_begun (s : State) (warm : Bool) (f : Field) (i : Nat) : (s.begun warm).get f i = s.get f i := rfl

/-- The cause of a start. -/
theorem State.startReset_reads {s : State} (hwf : SMap.wf s.regs) {kind trigger source : Nat} (hkind : kind < 4) (htrigger : trigger < 256)
    (hsource : source < 65536) (warm : Bool) : (s.startReset kind trigger source warm).get Reg.CLK_RST_CAUSE_KIND = kind ∧
    (s.startReset kind trigger source warm).get Reg.CLK_RST_CAUSE_TRIGGER = trigger ∧
    (s.startReset kind trigger source warm).get Reg.CLK_RST_CAUSE_SOURCE = source := by
  have hkept := (s.causeShown kind trigger source).marksBegun_kept
  rw [s.startReset_eq, State.get_begun, State.get_begun, State.get_begun, hkept.get (by unfold NoMark; decide), hkept.get (by unfold NoMark; decide), hkept.get (by unfold NoMark; decide)]
  exact State.causeShown_reads hwf hkind htrigger hsource

/-- Every other field stands. -/
theorem State.flag_startReset (s : State) {f : Field} {i : Nat} (hcause : NoCause (f.key i)) (hmark : NoMark (f.key i))
    (kind trigger source : Nat) (warm : Bool) : (s.startReset kind trigger source warm).flag f i = s.flag f i := by
  rw [State.flag, State.flag, s.startReset_eq, State.get_begun, (State.marksBegun_kept _).get hmark,
    (s.causeShown_kept kind trigger source).get hcause]

theorem State.wf_startReset {s : State} (hwf : SMap.wf s.regs) (kind trigger source : Nat) (warm : Bool) :
    SMap.wf (s.startReset kind trigger source warm).regs := by
  rw [s.startReset_eq, State.regs_begun]
  exact (State.causeShown s kind trigger source).marksBegun_kept.wf ((s.causeShown_kept kind trigger source).wf hwf)

@[simp] theorem State.regs_modClk (s : State) (g : Clk → Clk) : (s.modClk g).regs = s.regs := rfl

@[simp] theorem State.flag_modClk (s : State) (g : Clk → Clk) (f : Field) (i : Nat) : (s.modClk g).flag f i = s.flag f i := rfl

/-- A MODULE start ends the module safe state (R508). -/
theorem State.flag_moduleFlt {s : State} (hwf : SMap.wf s.regs) : s.moduleFlt.flag Reg.FLT_STATUS_SAFE_MODULE = false := by
  have hflag := State.flag_setFlag_self hwf (f := Reg.FLT_STATUS_SAFE_MODULE) rfl 0 false
  generalize hx : s.setFlag Reg.FLT_STATUS_SAFE_MODULE 0 false = x at hflag
  rw [State.moduleFlt, hx]
  exact hflag

theorem State.moduleFlt_frame (s : State) : ∃ regs, s.moduleFlt = { s with regs := regs, flt := s.flt.afterModule } := ⟨_, rfl⟩

theorem State.wf_moduleFlt {s : State} (hwf : SMap.wf s.regs) : SMap.wf s.moduleFlt.regs := by
  have hflag := State.wf_setFlag hwf Reg.FLT_STATUS_SAFE_MODULE 0 false
  generalize hx : s.setFlag Reg.FLT_STATUS_SAFE_MODULE 0 false = x at hflag
  rw [State.moduleFlt, hx]
  exact hflag

/-- What a start leaves beside the registers. -/
theorem State.begun_frame (s : State) (warm : Bool) : (s.begun warm).pol = s.pol ∧ (s.begun warm).vlt = s.vlt ∧ (s.begun warm).flt = s.flt ∧
    (s.begun warm).hlm = { s.hlm with sessions := [], verifying := none } ∧ (s.begun warm).cmd = { Cmd.reset with nextBg := s.cmd.nextBg } ∧
    (s.begun warm).clk.mrstLow = s.clk.mrstLow ∧ (s.begun warm).clk.startPend = none ∧ (s.begun warm).clk.modReady = false ∧
    (s.begun warm).clk.warm = warm ∧ (s.begun warm).trec = s.trec ∧ (s.begun warm).tbl = s.tbl ∧ (s.begun warm).tim = s.tim ∧
    (s.begun warm).dir = s.dir ∧ (s.begun warm).pfe = s.pfe :=
  ⟨rfl, rfl, rfl, rfl, rfl, rfl, rfl, rfl, rfl, rfl, rfl, rfl, rfl, rfl⟩

/-- What a start leaves beside the registers. -/
theorem State.startReset_keeps (s : State) (kind trigger source : Nat) (warm : Bool) {t : State} (ht : s.startReset kind trigger source warm = t) :
    t.pol = s.pol ∧ t.vlt = s.vlt ∧ t.flt = s.flt ∧
    t.hlm = { s.hlm with sessions := [], verifying := none } ∧ t.cmd = { Cmd.reset with nextBg := s.cmd.nextBg } ∧
    t.clk.mrstLow = s.clk.mrstLow ∧ t.clk.startPend = none ∧ t.clk.modReady = false ∧ t.clk.warm = warm ∧
    t.trec = s.trec ∧ t.tbl = s.tbl ∧ t.tim = s.tim ∧ t.dir = s.dir ∧ t.pfe = s.pfe := by
  obtain ⟨_, hframe⟩ := s.startReset_frame kind trigger source warm
  rw [← ht, hframe]
  exact State.begun_frame _ warm

theorem State.flag_congr {s t : State} (h : t.regs = s.regs) (f : Field) (i : Nat) : t.flag f i = s.flag f i := by
  rw [State.flag, State.flag, State.get_congr h]

/-- A start with MRST_N high begins at the boot ROM (R588). -/
theorem State.beginBoot_high {s : State} (hmrst : s.clk.mrstLow = false) : s.beginBoot = s.modClk (fun c => { c with phase := .boot }) := by
  simp [State.beginBoot, State.modClk, hmrst]

theorem State.beginBoot_frame {s : State} (hmrst : s.clk.mrstLow = false) : s.beginBoot.regs = s.regs ∧
    s.beginBoot.clk = { s.clk with phase := .boot } ∧ s.beginBoot.pol = s.pol ∧ s.beginBoot.vlt = s.vlt ∧ s.beginBoot.dir = s.dir ∧
    s.beginBoot.trec = s.trec ∧ s.beginBoot.tbl = s.tbl ∧ s.beginBoot.tim = s.tim ∧ s.beginBoot.flt = s.flt := by
  rw [State.beginBoot_high hmrst]
  exact ⟨rfl, rfl, rfl, rfl, rfl, rfl, rfl, rfl, rfl⟩

/-- `s` at the boot ROM with the root PLL locked (R596). -/
def State.pllLocked (s : State) : State :=
  ((s.modClk (fun c => { c with phase := .boot })).modClk (fun c => { c with rootPll := true })).modTim (fun t => { t with oscillator := false })

theorem State.pllLocked_frame (s : State) : s.pllLocked.regs = s.regs ∧ s.pllLocked.clk = { s.clk with phase := .boot, rootPll := true } ∧
    s.pllLocked.pol = s.pol ∧ s.pllLocked.vlt = s.vlt ∧ s.pllLocked.flt = s.flt ∧ s.pllLocked.hlm = s.hlm ∧ s.pllLocked.cmd = s.cmd :=
  ⟨rfl, rfl, rfl, rfl, rfl, rfl, rfl⟩

/-- A MODULE start with MRST_N high. -/
theorem State.moduleStart_eq {s : State} {trigger source : Nat}
    (hhigh : (s.leave.mainOff.moduleFlt.startReset 2 trigger source false).clk.mrstLow = false) :
    s.moduleStart trigger source = (s.leave.mainOff.moduleFlt.startReset 2 trigger source false).pllLocked := by
  unfold State.moduleStart
  generalize s.leave.mainOff.moduleFlt.startReset 2 trigger source false = x at *
  rw [State.beginBoot_high hhigh]
  rfl

/-! ## COLD starts (R588, R691) -/

/-- The subsystems that are ready with the standby domain. -/
def standbyReady : List Nat := [0x01, 0x03, 0x0E, 0x0F, 0x10, 0x12]

/-- `s` with the straps shown and the standby domain ready. -/
def State.strapsShown (s : State) (test twin : Bool) : State :=
  forEach standbyReady (fun i s => s.setFlag Reg.COMMON_READY i true)
    ((s.setFlag Reg.FLT_STATUS_TEST_EN 0 test).setFlag Reg.SEM_TWIN_STATUS_TWIN_B 0 twin)

/-- Key `k` is not READY of a subsystem that starts with the standby domain. -/
def NoStandbyReady (k : Nat) : Prop := ∀ i ∈ standbyReady, Reg.COMMON_READY.key i ≠ k

/-- Key `k` is neither that nor a strap. -/
def NoStrap (k : Nat) : Prop := NoStandbyReady k ∧ Reg.FLT_STATUS_TEST_EN.key 0 ≠ k ∧ Reg.SEM_TWIN_STATUS_TWIN_B.key 0 ≠ k

theorem State.readyLoop_kept (s : State) :
    RegsKept NoStandbyReady s (forEach standbyReady (fun i s => s.setFlag Reg.COMMON_READY i true) s) :=
  .loop (fun i hi s => .setFlag s (fun h => h i hi rfl) true) s

theorem State.strapsShown_kept (s : State) (test twin : Bool) : RegsKept NoStrap s (s.strapsShown test twin) :=
  ((RegsKept.setFlag s (fun h => h.2.1 rfl) test).trans (.setFlag _ (fun h => h.2.2 rfl) twin)).trans
    ((State.readyLoop_kept _).mono fun _ h => h.1)

/-- What the straps read (R691). -/
theorem State.strapsShown_reads {s : State} (hwf : SMap.wf s.regs) (test twin : Bool) :
    (s.strapsShown test twin).flag Reg.FLT_STATUS_TEST_EN = test ∧ (s.strapsShown test twin).flag Reg.SEM_TWIN_STATUS_TWIN_B = twin := by
  have hkept := ((s.setFlag Reg.FLT_STATUS_TEST_EN 0 test).setFlag Reg.SEM_TWIN_STATUS_TWIN_B 0 twin).readyLoop_kept
  rw [State.strapsShown, hkept.flag (by unfold NoStandbyReady; decide), hkept.flag (by unfold NoStandbyReady; decide),
    State.flag_setFlag_ne _ (by decide), State.flag_setFlag_self hwf rfl, State.flag_setFlag_self (State.wf_setFlag hwf _ _ _) rfl]
  exact ⟨rfl, rfl⟩

/-- `t` is `s` but for events that wait and the front end. -/
def Reported (s t : State) : Prop := ∃ ws p, t = { s with flt := { s.flt with waiting := ws }, pfe := p }

theorem Reported.trans {s t u : State} (hst : Reported s t) (htu : Reported t u) : Reported s u := by
  obtain ⟨_, _, rfl⟩ := hst
  obtain ⟨ws, p, rfl⟩ := htu
  exact ⟨ws, p, rfl⟩

/-- What `Reported` keeps. -/
theorem Reported.keeps {s t : State} (h : Reported s t) : t.regs = s.regs ∧ t.clk = s.clk ∧ t.pol = s.pol ∧ t.vlt = s.vlt ∧ t.trec = s.trec ∧
    t.tbl = s.tbl ∧ t.tim = s.tim ∧ t.flt.hist = s.flt.hist := by
  obtain ⟨_, _, rfl⟩ := h
  exact ⟨rfl, rfl, rfl, rfl, rfl, rfl, rfl, rfl⟩

/-- `s` with a trip reported that was latched before the start (R636). -/
def State.tripReported (s : State) : State :=
  match s.pfe.pendReport with
  | some w => (s.report 0x0128 corrected 0 (leBytes 4 w.toNat)).modPfe (fun p => { p with pendReport := none })
  | none => s

/-- `s` with the straps reported whose samples differ (R692). -/
def State.strapsReported (s : State) (b : ColdInputs) : State :=
  forEach ((strapRows b).zipIdx.filter (fun (x : Bool × Nat) => !x.1)) (fun (x : Bool × Nat) s => s.report 0x1200 corrected 0 [byte x.2]) s

theorem State.strapsReported_frame (s : State) (b : ColdInputs) : Reported s (s.strapsReported b) :=
  forEach_keeps (f := fun (x : Bool × Nat) (s : State) => s.report 0x1200 corrected 0 [byte x.2]) (fun x _ t ht => by
    obtain ⟨ws, p, rfl⟩ := ht
    exact ⟨_, p, rfl⟩) ⟨s.flt.waiting, s.pfe, rfl⟩

theorem State.tripReported_frame (s : State) : Reported s s.tripReported := by
  unfold State.tripReported
  split
  · exact ⟨_, _, rfl⟩
  · exact ⟨s.flt.waiting, s.pfe, rfl⟩

/-- `s`, its main domain lost, with the standby domain's state lost as well (R711). -/
def State.standbyLost (s : State) (b : ColdInputs) (touch : Bool) : State :=
  let addr := b2n (strapLast b.mgtAddr0) + 2 * b2n (strapLast b.mgtAddr1) + 4 * b2n (strapLast b.mgtAddr2)
  { s with regs := s.regs.filter (fun (r : Nat × Nat) => keepsCold r.1), spc := Spc.reset, flt := s.flt.afterCold
           jtag := Jtag.reset, tim := { Tim.reset with ethMode := strapLast b.ethMode, mgtAddr := addr }
           hlm := { s.hlm with due := [], pend := [], dropped := s.hlm.dropped, touchExit := s.hlm.touchExit || touch } }

theorem State.standbyLost_frame (s : State) (b : ColdInputs) (touch : Bool) : (s.standbyLost b touch).pol = s.pol ∧
    (s.standbyLost b touch).vlt = s.vlt ∧ (s.standbyLost b touch).trec = s.trec ∧ (s.standbyLost b touch).tbl = s.tbl ∧
    (s.standbyLost b touch).flt.hist = [] ∧ (s.standbyLost b touch).clk = s.clk ∧ (s.standbyLost b touch).tim.counter = 0 ∧
    (s.standbyLost b touch).tim.ethMode = strapLast b.ethMode :=
  ⟨rfl, rfl, rfl, rfl, rfl, rfl, rfl, rfl⟩

theorem State.wf_standbyLost {s : State} (hwf : SMap.wf s.regs) (b : ColdInputs) (touch : Bool) : SMap.wf (s.standbyLost b touch).regs :=
  SMap.wf_filter _ _ hwf

/-- `s` as a COLD start shows it. -/
def State.coldStarted (s : State) (b : ColdInputs) : State :=
  ((((((s.mainReset false).standbyLost b (s.flag Reg.FLT_STATUS_TOUCHSTONE)).startReset 1 0 0 false).strapsShown (!strapLast b.testEnN)
    (strapLast b.twinId)).strapsReported b).tripReported.modClk (fun c => { c with rootPll := true, thermN := false })).beginBoot

theorem execColdStart_eq {s : State} (b : ColdInputs) (hoff : s.clk.phase = .off) (hon : s.pfe.standbyOn = true) :
    execColdStart b s = .next (s.coldStarted b) := by
  unfold execColdStart
  rw [if_neg (by simp [hoff, hon])]
  rfl

/-! ## WARM starts (R597) -/

/-- `t` is `s` but for registers, kept sorted, and ports. -/
def PortsAndRegs (s t : State) : Prop := ∃ regs prt, t = { s with regs := regs, prt := prt } ∧ (SMap.wf s.regs → SMap.wf regs)

theorem PortsAndRegs.trans {s t u : State} (hst : PortsAndRegs s t) (htu : PortsAndRegs t u) : PortsAndRegs s u := by
  obtain ⟨regs, prt, rfl, hwf⟩ := hst
  obtain ⟨regs', prt', rfl, hwf'⟩ := htu
  exact ⟨regs', prt', rfl, fun h => hwf' (hwf h)⟩

theorem PortsAndRegs.refl (s : State) : PortsAndRegs s s := ⟨s.regs, s.prt, rfl, id⟩

theorem PortsAndRegs.modPort (s : State) (p : Nat) (f : PortSt → PortSt) : PortsAndRegs s (s.modPort p f) := ⟨_, _, rfl, id⟩

theorem PortsAndRegs.setFlag (s : State) (f : Field) (i : Nat) (b : Bool) : PortsAndRegs s (s.setFlag f i b) :=
  ⟨_, _, rfl, fun h => s.wf_set f i _ h⟩

theorem PortsAndRegs.loop {α : Type} {l : List α} {f : α → State → State} (hf : ∀ a s, PortsAndRegs s (f a s)) (s : State) :
    PortsAndRegs s (forEach l f s) :=
  forEach_keeps (P := PortsAndRegs s) (fun a _ _ ht => ht.trans (hf a _)) (.refl s)

/-- Holds that act again change ports and the failed slices. -/
theorem State.reapplyHolds_frame (s : State) : PortsAndRegs s s.reapplyHolds := by
  unfold State.reapplyHolds
  extract_lets s₁ s₂
  have h₁ : PortsAndRegs s s₁ := .loop (fun h t => by
    cases h with
    | isolate p => exact .modPort t p _
    | holdTraffic p => exact .modPort t p _
    | fenceLd => exact .refl t
    | faultN => exact .refl t) s
  have h₂ : PortsAndRegs s₁ s₂ := .loop (fun p t => .modPort t p _) s₁
  exact (h₁.trans h₂).trans (.loop (fun i t => .setFlag t _ i true) s₂)

theorem State.mainReset_warm (s : State) : (s.mainReset true).vlt.pages = s.vlt.pages ∧ (s.mainReset true).vlt.remaps = s.vlt.remaps ∧
    (s.mainReset true).dir.entries = s.dir.entries ∧ (s.mainReset true).trec.records = s.trec.records ∧ (s.mainReset true).clk = s.clk ∧
    (s.mainReset true).pol = Pol.reset := ⟨rfl, rfl, rfl, rfl, rfl, rfl⟩

/-- A WARM start of a running module with an empty Crucible. -/
theorem State.warmStart_eq {s : State} {trigger : Nat} (hup : s.mainUp = true) (hcrucible : s.vlt.crucible = []) :
    s.warmStart trigger = ((({ s.leave with jnl := s.leave.jnl.flushed } : State).mainReset true).reapplyHolds.startReset 3 trigger 0 true).beginBoot := by
  obtain ⟨_, _, hleave⟩ := s.leave_frame
  have hempty : s.leave.vlt.crucible = [] := by
    rw [hleave]
    exact hcrucible
  unfold State.warmStart
  extract_lets kept s₁ s₂ s₃
  have hkept : kept = true := if_pos hup
  have hs₃ : s₃ = s₂ := by
    change forEach (s.leave.vlt.crucible.map CruBuf.page) _ s₂ = s₂
    rw [hempty]
    rfl
  rw [hkept, hs₃]

/-! ## The end of the restore (R575, R592) -/

/-- A one-bit field that resets to 0 is held once it is set. -/
theorem State.find_setFlag_true (s : State) {f : Field} {i : Nat} (hwidth : f.width = 1) (hreset : f.reset i = 0) (k : Nat) :
    SMap.find (s.setFlag f i true).regs k = if f.key i = k then some 1 else SMap.find s.regs k := by
  have hstore : (s.setFlag f i true).regs = SMap.put s.regs (f.key i) 1 := by
    simp [State.setFlag, State.set, SMap.store, hwidth, hreset, b2n]
  rw [hstore, SMap.find_put]

theorem State.find_setFlag_ne (s : State) {f : Field} {i k : Nat} (hkey : f.key i ≠ k) (b : Bool) :
    SMap.find (s.setFlag f i b).regs k = SMap.find s.regs k := SMap.find_store_ne _ _ _ hkey

theorem State.flag_of_find {s : State} {f : Field} {i : Nat} (h : SMap.find s.regs (f.key i) = some 1) : s.flag f i = true := by
  simp [State.flag, State.get, SMap.get, h]

/-- Every field that a loop sets is held. -/
theorem State.find_setFlags {f : Field} (hwidth : f.width = 1) (hreset : ∀ i, f.reset i = 0) {i : Nat} {l : List Nat} {s : State}
    (h : i ∈ l ∨ SMap.find s.regs (f.key i) = some 1) :
    SMap.find (forEach l (fun i s => s.setFlag f i true) s).regs (f.key i) = some 1 := by
  induction l generalizing s with
  | nil => exact h.resolve_left List.not_mem_nil
  | cons a l ih =>
    refine ih (s := s.setFlag f a true) ?_
    rw [s.find_setFlag_true hwidth (hreset a)]
    rcases h with h | h
    · rcases List.mem_cons.1 h with rfl | h
      · exact .inr (if_pos rfl)
      · exact .inl h
    · right
      split
      · rfl
      · exact h

/-- A record writes REC_MISSED at most. -/
theorem State.find_record (s : State) (typ flags : Nat) (payload : Bytes) {k : Nat} (hk : Reg.REC_MISSED.key 0 ≠ k) :
    SMap.find (s.record typ flags payload).regs k = SMap.find s.regs k := by
  obtain ⟨t, h | h⟩ := s.record_cases typ flags payload
  · rw [h]
  · rw [h]
    exact SMap.find_store_ne _ _ _ hk

/-- So does a checkpoint. -/
theorem State.find_checkpoint (s : State) {k : Nat} (hk : Reg.REC_MISSED.key 0 ≠ k) :
    SMap.find s.checkpoint.regs k = SMap.find s.regs k := by
  unfold State.checkpoint
  extract_lets s₁ d s₂ n first s₃ ps s₄ whole
  have hdrawn : s₂.regs = s.regs := rfl
  have hhead : SMap.find s₃.regs k = SMap.find s.regs k := by rw [s₂.find_record _ _ _ hk, hdrawn]
  clear_value s₃
  have hparts : SMap.find s₄.regs k = SMap.find s.regs k :=
    forEach_keeps (P := fun t : State => SMap.find t.regs k = SMap.find s.regs k)
      (fun x _ t ht => (State.find_record { t with trec := { t.trec with bufBytes := 0 } } _ _ _ hk).trans ht) hhead
  clear_value s₄
  split
  · exact hparts
  · exact hparts

theorem State.startRecord_marks (s : State) : s.startRecord.clk.startRecord = true ∧ s.startRecord.clk.checkpointed = true := ⟨rfl, rfl⟩

/-- So does the START record. -/
theorem State.find_startRecord (s : State) {k : Nat} (hk : Reg.REC_MISSED.key 0 ≠ k) :
    SMap.find s.startRecord.regs k = SMap.find s.regs k := by
  unfold State.startRecord
  extract_lets r s₁ s₂
  have hzero : s₁.regs = s.regs := rfl
  have hrecord : SMap.find s₂.regs k = SMap.find s.regs k := by rw [s₁.find_record _ _ _ hk, hzero]
  clear_value s₂
  rw [State.regs_modClk, s₂.find_checkpoint hk, hrecord]

/-- `s` with the subsystems that have started ready. -/
def State.readied (s : State) : State :=
  forEach ((List.range' 1 18).filter (fun i => i != 7 || s.healthyPlanes != 0)) (fun i s => s.setFlag Reg.COMMON_READY i true) s

/-- The vault and TRANSCRIPT read ready, and the start's record and checkpoint are made. -/
theorem State.readied_shows (s : State) (hvlt : SMap.find s.regs (Reg.VLT_STATUS_READY.key 0) = some 1) :
    s.readied.clk = s.clk ∧ s.readied.flag Reg.VLT_STATUS_READY = true ∧ s.readied.flag Reg.COMMON_READY 0x0D = true := by
  have hkept : s.readied.clk = s.clk ∧ SMap.find s.readied.regs (Reg.VLT_STATUS_READY.key 0) = some 1 := by
    unfold State.readied
    refine forEach_keeps (f := fun i t => t.setFlag Reg.COMMON_READY i true)
      (P := fun t : State => t.clk = s.clk ∧ SMap.find t.regs (Reg.VLT_STATUS_READY.key 0) = some 1)
      (fun i _ t ht => ⟨ht.1, ?_⟩) ⟨rfl, hvlt⟩
    have hkey : Reg.COMMON_READY.key i ≠ Reg.VLT_STATUS_READY.key 0 := Field.key_ne_of_lsb (by decide)
    exact (t.find_setFlag_ne hkey true).trans ht.2
  have hmem : 0x0D ∈ (List.range' 1 18).filter (fun i => i != 7 || s.healthyPlanes != 0) := by simp
  exact ⟨hkept.1, State.flag_of_find hkept.2, State.flag_of_find (State.find_setFlags rfl (fun _ => rfl) (.inl hmem))⟩

/-- `s` with the vault ready, the start recorded and the subsystems ready. -/
def State.restoreEnded (s : State) : State :=
  ((s.setFlag Reg.VLT_STATUS_READY 0 true).startRecord.readied).modClk (fun c => { c with phase := .restored })

theorem State.modClk_restored (s : State) : (s.modClk (fun c => { c with phase := .restored })).clk = { s.clk with phase := .restored } := rfl

theorem State.restoreEnded_shows (s : State) : s.restoreEnded.clk.phase = .restored ∧ s.restoreEnded.clk.startRecord = true ∧
    s.restoreEnded.clk.checkpointed = true ∧ s.restoreEnded.flag Reg.VLT_STATUS_READY = true ∧
    s.restoreEnded.flag Reg.COMMON_READY 0x0D = true := by
  have hset := s.find_setFlag_true (f := Reg.VLT_STATUS_READY) (i := 0) rfl rfl (Reg.VLT_STATUS_READY.key 0)
  rw [if_pos rfl] at hset
  rw [State.restoreEnded, State.modClk_restored, State.flag_modClk, State.flag_modClk]
  generalize s.setFlag Reg.VLT_STATUS_READY 0 true = a at *
  obtain ⟨hstart, hcheckpoint⟩ := a.startRecord_marks
  have hvlt := (a.find_startRecord (k := Reg.VLT_STATUS_READY.key 0) (by decide)).trans hset
  generalize a.startRecord = b at *
  obtain ⟨hclk, hready, hcommon⟩ := b.readied_shows hvlt
  rw [hclk]
  exact ⟨rfl, hstart, hcheckpoint, hready, hcommon⟩

theorem execJournalRestore_ends (x : StartTests) {s : State} (hphase : s.clk.phase = .released) :
    ∃ t : State, execJournalRestore x s = .next t.restoreEnded := by
  unfold execJournalRestore
  rw [if_neg (not_not.2 hphase)]
  extract_lets s₁ s₂ s₃ s₄ s₅
  exact ⟨s₃, rfl⟩

/-! ## MOD_READY (R592) -/

/-- `t` is `s` but for slot channels, registers, ports and messages. -/
def Trained (s t : State) : Prop := ∃ spc regs prt out, t = { s with spc := spc, regs := regs, prt := prt, out := out }

theorem State.trained (s : State) : Trained s (forEach s.presentPorts (fun p s => s.train p) s.slotsReady) := by
  have hslots : Trained s s.slotsReady :=
    forEach_keeps (fun n _ t ht => by
      obtain ⟨spc, regs, prt, out, rfl⟩ := ht
      exact ⟨_, regs, prt, out, rfl⟩) ⟨s.spc, s.regs, s.prt, s.out, rfl⟩
  refine forEach_keeps (fun p _ t ht => ?_) hslots
  obtain ⟨spc, regs, prt, out, rfl⟩ := ht
  unfold State.train
  split
  · exact ⟨spc, _, _, _, rfl⟩
  · exact ⟨spc, regs, prt, out, rfl⟩

end Sys2Proof.Machine

namespace Sys2Proof.Claims
open Sys2Proof.Machine

section
variable {s : State}

/-- A COLD start with MRST_N high (R588, R691). -/
theorem coldStart_boots {b : ColdInputs} (hwf : SMap.wf s.regs) (hoff : s.clk.phase = .off) (hon : s.pfe.standbyOn = true)
    (hlow : s.clk.mrstLow = false) :
    ∃ t, exec (.coldStart b) s = .next t ∧ t.clk.phase = .boot ∧ t.tim.counter = 0 ∧ t.get Reg.CLK_RST_CAUSE_KIND = 1 ∧
      t.get Reg.CLK_RST_CAUSE_TRIGGER = 0 ∧ t.flag Reg.SEM_TWIN_STATUS_TWIN_B = strapLast b.twinId ∧
      t.flag Reg.FLT_STATUS_TEST_EN = !strapLast b.testEnN ∧ t.tim.ethMode = strapLast b.ethMode ∧ t.pol = Pol.reset ∧
      t.vlt = Vlt.reset ∧ t.trec = Rec.reset ∧ t.tbl = Tbl.reset ∧ t.flt.hist = [] ∧ t.clk.startPend = none ∧ t.clk.modReady = false := by
  refine ⟨_, execColdStart_eq b hoff hon, ?_⟩
  unfold State.coldStarted
  -- the main domain and the standby domain lose their state
  obtain ⟨-, hclk, -, hpol, -⟩ := s.mainReset_frame false
  obtain ⟨hvlt, htrec, -⟩ := s.mainReset_cold
  have htbl := s.mainReset_tbl
  have hwf₁ := State.wf_mainReset hwf false
  generalize s.mainReset false = x₁ at *
  obtain ⟨hpol₂, hvlt₂, htrec₂, htbl₂, hhist₂, hclk₂, hcounter₂, heth₂⟩ := x₁.standbyLost_frame b (s.flag Reg.FLT_STATUS_TOUCHSTONE)
  have hwf₂ := State.wf_standbyLost hwf₁ b (s.flag Reg.FLT_STATUS_TOUCHSTONE)
  generalize x₁.standbyLost b (s.flag Reg.FLT_STATUS_TOUCHSTONE) = x₂ at *
  -- the start shows its cause
  obtain ⟨hkind, htrigger, -⟩ := State.startReset_reads hwf₂ (kind := 1) (trigger := 0) (source := 0) (by decide) (by decide) (by decide) false
  have hwf₃ := State.wf_startReset hwf₂ 1 0 0 false
  generalize hstart : x₂.startReset 1 0 0 false = x₃ at *
  obtain ⟨hpol₃, hvlt₃, hflt₃, -, -, hmrst₃, hpend₃, hready₃, -, htrec₃, htbl₃, htim₃, -, -⟩ := State.startReset_keeps _ _ _ _ _ hstart
  -- the straps are sampled
  have hkept := x₃.strapsShown_kept (!strapLast b.testEnN) (strapLast b.twinId)
  obtain ⟨htest, htwin⟩ := State.strapsShown_reads hwf₃ (!strapLast b.testEnN) (strapLast b.twinId)
  have hkind₄ := (hkept.get (f := Reg.CLK_RST_CAUSE_KIND) (i := 0) (by unfold NoStrap NoStandbyReady; decide)).trans hkind
  have htrigger₄ := (hkept.get (f := Reg.CLK_RST_CAUSE_TRIGGER) (i := 0) (by unfold NoStrap NoStandbyReady; decide)).trans htrigger
  have hframe := hkept.frame
  generalize x₃.strapsShown (!strapLast b.testEnN) (strapLast b.twinId) = x₄ at *
  -- events are reported
  have hreported : Reported x₄ (x₄.strapsReported b).tripReported := (x₄.strapsReported_frame b).trans (State.tripReported_frame _)
  generalize (x₄.strapsReported b).tripReported = x₅ at *
  obtain ⟨hregs₅, hclk₅, hpol₅, hvlt₅, htrec₅, htbl₅, htim₅, hhist₅⟩ := hreported.keeps
  obtain ⟨hregs₆, hclk₆, hpol₆, hvlt₆, -, htrec₆, htbl₆, htim₆, hflt₆⟩ :=
    State.beginBoot_frame (s := x₅.modClk (fun c => { c with rootPll := true, thermN := false }))
      (show x₅.clk.mrstLow = false by rw [hclk₅, hframe, hmrst₃, hclk₂, hclk, hlow])
  generalize (x₅.modClk (fun c => { c with rootPll := true, thermN := false })).beginBoot = t at *
  have hregs : t.regs = x₄.regs := hregs₆.trans hregs₅
  have hclk' : t.clk.startPend = x₃.clk.startPend ∧ t.clk.modReady = x₃.clk.modReady := by
    rw [hclk₆, State.modClk, hclk₅, hframe]
    exact ⟨rfl, rfl⟩
  have htim' : t.tim = x₃.tim := by rw [htim₆, State.modClk, htim₅, hframe]
  refine ⟨congrArg Clk.phase hclk₆, ?_, (State.get_congr hregs _ _).trans hkind₄, (State.get_congr hregs _ _).trans htrigger₄,
    (State.flag_congr hregs _ _).trans htwin, (State.flag_congr hregs _ _).trans htest, ?_, ?_, ?_, ?_, ?_, ?_,
    hclk'.1.trans hpend₃, hclk'.2.trans hready₃⟩
  · rw [htim', htim₃, hcounter₂]
  · rw [htim', htim₃, heth₂]
  · rw [hpol₆, State.modClk, hpol₅, hframe, hpol₃, hpol₂, hpol]
  · rw [hvlt₆, State.modClk, hvlt₅, hframe, hvlt₃, hvlt₂, hvlt]
  · rw [htrec₆, State.modClk, htrec₅, hframe, htrec₃, htrec₂, htrec]
  · rw [htbl₆, State.modClk, htbl₅, hframe, htbl₃, htbl₂, htbl]
  · rw [hflt₆, State.modClk, hhist₅, hframe, hflt₃, hhist₂]

/-- MRST_N low: the journal is flushed and the module stands by (R589, R599). -/
theorem mrstNFall_standsBy (hon : s.clk.phase ≠ .off) :
    ∃ t, exec .mrstNFall s = .next t ∧ t.clk.phase = .standby ∧ t.clk.mrstLow = true ∧ t.clk.modReady = false ∧
      t.clk.startPend = none ∧ t.jnl = { s.jnl with flash := s.jnl.flash ++ s.jnl.buf, buf := [] } ∧ t.pol = Pol.reset := by
  have hexec : exec .mrstNFall s = .next (s.modClk (fun c => { c with mrstLow := true })).enterStandby := congrArg Host.Outcome.next (if_neg hon)
  obtain ⟨_, _, hleave⟩ := (s.modClk (fun c => { c with mrstLow := true })).leave_frame
  rw [hexec, State.enterStandby, hleave]
  generalize hx : ({ ({ s.modClk (fun c => { c with mrstLow := true }) with out := _, sem := _, clk := _ } : State) with jnl := _ } : State) = x
  obtain ⟨-, -, hjnl, hpol, hclk⟩ := x.mainOff_frame
  have hphase : x.clk.phase ≠ .off := by
    rw [← hx]
    exact hon
  generalize x.mainOff = y at hjnl hpol hclk
  refine ⟨_, rfl, (congrArg Clk.phase hclk).trans (if_neg hphase), (congrArg Clk.mrstLow hclk).trans ?_, congrArg Clk.modReady hclk, rfl, hjnl.trans ?_, hpol⟩
  · rw [← hx]
    rfl
  · rw [← hx]
    rfl

/-- The rise of MRST_N asks for a MODULE start with trigger 1 (R589). -/
theorem mrstNRise_asks {ns : Nat} (hon : s.clk.phase ≠ .off) (hlow : s.clk.mrstLow = true) :
    exec (.mrstNRise ns) s = .next { s with clk := { s.clk with mrstLow := false, startPend := some { kind := 2, trigger := 1, source := 0 } } } := by
  change execMrstNRise ns s = _
  simp [execMrstNRise, hlow, hon, State.modClk, State.askStart]

/-- The MODULE start that has been asked for begins (R596). -/
theorem moduleStart_boots {x : BitVec 8} {y : BitVec 16} (hwf : SMap.wf s.regs) (hon : s.clk.phase ≠ .off) (hlow : s.clk.mrstLow = false)
    (hpend : s.clk.startPend = some { kind := 2, trigger := x.toNat, source := y.toNat }) (hcommanded : s.clk.commanded = false) :
    ∃ t, exec (.moduleStart x y) s = .next t ∧ t.clk.phase = .boot ∧ t.get Reg.CLK_RST_CAUSE_KIND = 2 ∧
      t.get Reg.CLK_RST_CAUSE_TRIGGER = x.toNat ∧ t.get Reg.CLK_RST_CAUSE_SOURCE = y.toNat ∧
      t.flag Reg.FLT_STATUS_SAFE_MODULE = false ∧ t.hlm.sessions = [] ∧ t.cmd = { Cmd.reset with nextBg := s.cmd.nextBg } ∧
      t.pol = Pol.reset ∧ t.vlt = Vlt.reset ∧ t.flt.hist = s.flt.hist ∧ t.hlm.ledger = s.hlm.ledger ∧ t.clk.startPend = none := by
  have hexec : exec (.moduleStart x y) s = .next (s.moduleStart x.toNat y.toNat) :=
    congrArg Host.Outcome.next (if_pos ⟨hon, hpend, .inr (by simp [hcommanded, hlow])⟩)
  obtain ⟨_, _, hleave⟩ := s.leave_frame
  have hleft : s.leave.regs = s.regs ∧ s.leave.cmd = s.cmd ∧ s.leave.flt = s.flt ∧ s.leave.hlm = s.hlm ∧ s.leave.clk.mrstLow = s.clk.mrstLow := by
    rw [hleave]
    exact ⟨rfl, rfl, rfl, rfl, rfl⟩
  obtain ⟨hregs, hcmd, hflt, hhlm, hmrst⟩ := hleft
  obtain ⟨-, -, -, hpol, hclk⟩ := s.leave.mainOff_frame
  obtain ⟨hvlt, hledger, hhist, hnext⟩ := s.leave.mainOff_kept
  have hwf₁ : SMap.wf s.leave.mainOff.regs := State.wf_mainOff (hregs ▸ hwf)
  have heq := State.moduleStart_eq (s := s) (trigger := x.toNat) (source := y.toNat)
  rw [hexec]
  generalize s.leave.mainOff = a at *
  have hsafe : a.moduleFlt.flag Reg.FLT_STATUS_SAFE_MODULE = false := State.flag_moduleFlt hwf₁
  have hwf₂ : SMap.wf a.moduleFlt.regs := State.wf_moduleFlt hwf₁
  obtain ⟨_, hmodule⟩ := a.moduleFlt_frame
  have hflt' : a.moduleFlt.pol = a.pol ∧ a.moduleFlt.vlt = a.vlt ∧ a.moduleFlt.flt = a.flt.afterModule ∧ a.moduleFlt.hlm = a.hlm ∧
      a.moduleFlt.cmd = a.cmd ∧ a.moduleFlt.clk = a.clk := by
    rw [hmodule]
    exact ⟨rfl, rfl, rfl, rfl, rfl, rfl⟩
  obtain ⟨hpol', hvlt', hhist', hhlm', hcmd', hclk'⟩ := hflt'
  generalize a.moduleFlt = b at *
  obtain ⟨hkind, htrigger, hsource⟩ := State.startReset_reads hwf₂ (kind := 2) (by decide) x.isLt y.isLt false
  have hsafe' := b.flag_startReset (f := Reg.FLT_STATUS_SAFE_MODULE) (i := 0) (by unfold NoCause; decide) (by unfold NoMark; decide)
    2 x.toNat y.toNat false
  generalize hstart : b.startReset 2 x.toNat y.toNat false = c at *
  obtain ⟨hpol₁, hvlt₁, hflt₁, hhlm₁, hcmd₁, hmrst₁, hpend₁, -⟩ := b.startReset_keeps _ _ _ _ hstart
  obtain ⟨hregs₂, hclk₂, hpol₂, hvlt₂, hflt₂, hhlm₂, hcmd₂⟩ := c.pllLocked_frame
  rw [heq (by rw [hmrst₁, hclk', hclk, ← hlow, ← hmrst])]
  refine ⟨_, rfl, congrArg Clk.phase hclk₂, (State.get_congr hregs₂ _ _).trans hkind, (State.get_congr hregs₂ _ _).trans htrigger,
    (State.get_congr hregs₂ _ _).trans hsource, (State.flag_congr hregs₂ _ _).trans (hsafe'.trans hsafe),
    congrArg Hlm.sessions (hhlm₂.trans hhlm₁), ?_, ?_, ?_, ?_, ?_, (congrArg Clk.startPend hclk₂).trans hpend₁⟩
  · exact (hcmd₂.trans hcmd₁).trans (congrArg (fun n => { Cmd.reset with nextBg := n }) (by rw [hcmd', hnext, hcmd]))
  · exact (hpol₂.trans hpol₁).trans (hpol'.trans hpol)
  · exact (hvlt₂.trans hvlt₁).trans (hvlt'.trans hvlt)
  · exact (congrArg Flt.hist ((hflt₂.trans hflt₁).trans hhist')).trans (hhist.trans (congrArg Flt.hist hflt))
  · exact (congrArg Hlm.ledger (hhlm₂.trans hhlm₁)).trans ((congrArg Hlm.ledger hhlm').trans (hledger.trans (congrArg Hlm.ledger hhlm)))

/-- The WARM start that has been asked for keeps vault contents, directory and Transcript (R597). -/
theorem warmStart_boots {x : BitVec 8} (hwf : SMap.wf s.regs) (hup : s.mainUp = true) (hsafe : s.flag Reg.FLT_STATUS_SAFE_MODULE = false)
    (hlow : s.clk.mrstLow = false) (hpend : s.clk.startPend = some { kind := 3, trigger := x.toNat, source := 0 })
    (hcrucible : s.vlt.crucible = []) :
    ∃ t, exec (.warmStart x) s = .next t ∧ t.clk.phase = .boot ∧ t.get Reg.CLK_RST_CAUSE_KIND = 3 ∧
      t.get Reg.CLK_RST_CAUSE_TRIGGER = x.toNat ∧ t.vlt.pages = s.vlt.pages ∧ t.vlt.remaps = s.vlt.remaps ∧
      t.dir.entries = s.dir.entries ∧ t.trec.records = s.trec.records ∧ t.pol = Pol.reset ∧ t.clk.warm = true ∧ t.clk.startPend = none := by
  have hexec : exec (.warmStart x) s = .next (s.warmStart x.toNat) :=
    congrArg Host.Outcome.next ((if_pos hpend).trans (if_pos (by simp [hsafe, hup])))
  obtain ⟨_, _, hleave⟩ := s.leave_frame
  have hleft : s.leave.regs = s.regs ∧ s.leave.vlt = s.vlt ∧ s.leave.dir = s.dir ∧ s.leave.trec = s.trec ∧ s.leave.clk.mrstLow = s.clk.mrstLow := by
    rw [hleave]
    exact ⟨rfl, rfl, rfl, rfl, rfl⟩
  rw [hexec, State.warmStart_eq hup hcrucible]
  obtain ⟨hregs, hvlt, hdir, htrec, hmrst⟩ := hleft
  generalize s.leave = a at *
  obtain ⟨hpages, hremaps, hentries, hrecords, hclk, hpol⟩ := ({ a with jnl := a.jnl.flushed } : State).mainReset_warm
  have hwf₁ : SMap.wf (({ a with jnl := a.jnl.flushed } : State).mainReset true).regs := State.wf_mainReset (hregs ▸ hwf) true
  generalize ({ a with jnl := a.jnl.flushed } : State).mainReset true = b at *
  obtain ⟨regs, prt, hholds, hwf₂⟩ := b.reapplyHolds_frame
  rw [hholds]
  obtain ⟨hkind, htrigger, -⟩ := State.startReset_reads (s := { b with regs := regs, prt := prt }) (hwf₂ hwf₁) (kind := 3) (source := 0)
    (by decide) x.isLt (by decide) true
  generalize hstart : ({ b with regs := regs, prt := prt } : State).startReset 3 x.toNat 0 true = c at *
  obtain ⟨hpol₁, hvlt₁, -, -, -, hmrst₁, hpend₁, -, hwarm₁, htrec₁, -, -, hdir₁, -⟩ := State.startReset_keeps _ _ _ _ _ hstart
  obtain ⟨hregs₂, hclk₂, hpol₂, hvlt₂, hdir₂, htrec₂, -⟩ :=
    State.beginBoot_frame (hmrst₁.trans ((congrArg Clk.mrstLow hclk).trans (hmrst.trans hlow)))
  refine ⟨_, rfl, congrArg Clk.phase hclk₂, (State.get_congr hregs₂ _ _).trans hkind, (State.get_congr hregs₂ _ _).trans htrigger,
    ?_, ?_, ?_, ?_, (hpol₂.trans hpol₁).trans hpol, (congrArg Clk.warm hclk₂).trans hwarm₁, (congrArg Clk.startPend hclk₂).trans hpend₁⟩
  · exact (congrArg Vlt.pages (hvlt₂.trans hvlt₁)).trans (hpages.trans (congrArg Vlt.pages hvlt))
  · exact (congrArg Vlt.remaps (hvlt₂.trans hvlt₁)).trans (hremaps.trans (congrArg Vlt.remaps hvlt))
  · exact (congrArg Dir.entries (hdir₂.trans hdir₁)).trans (hentries.trans (congrArg Dir.entries hdir))
  · exact (congrArg Rec.records (htrec₂.trans htrec₁)).trans (hrecords.trans (congrArg Rec.records htrec))

/-- The restore makes the START record and the first checkpoint and shows the vault ready (R575, R592). -/
theorem journalRestore_ends {x : StartTests} (hphase : s.clk.phase = .released) :
    ∃ t, exec (.journalRestore x) s = .next t ∧ t.clk.phase = .restored ∧ t.clk.startRecord = true ∧ t.clk.checkpointed = true ∧
      t.flag Reg.VLT_STATUS_READY = true ∧ t.flag Reg.COMMON_READY 0x0D = true := by
  obtain ⟨a, hexec⟩ := execJournalRestore_ends x hphase
  exact ⟨a.restoreEnded, hexec, a.restoreEnded_shows⟩

/-- MOD_READY asserts when everything R592 names holds. -/
theorem modReadyAssert_readies (hphase : s.clk.phase = .restored) (hready : s.canBeReady = true) :
    ∃ t, exec .modReadyAssert s = .next t ∧ t.clk.phase = .ready ∧ t.clk.modReady = true ∧ t.pol = s.pol ∧ t.jnl = s.jnl ∧
      t.tbl = s.tbl ∧ t.flt = s.flt ∧ t.trec = s.trec := by
  obtain ⟨_, _, _, _, h⟩ := ((s.modClk (fun c => { c with phase := .ready, modReady := true })).set Reg.CLK_START_TIME_READY_MS 0
    (min 65534 ((s.tick - s.clk.startTick) / 800000))).trained
  exact ⟨_, congrArg Host.Outcome.next ((if_neg (by simp [hphase, hready])).trans h), rfl, rfl, rfl, rfl, rfl, rfl, rfl⟩

end

/-- Settles O20: the lemmas above, one for each clause. -/
theorem startKinds : Obligations.StartKinds :=
  ⟨fun _ _ => coldStart_boots, fun _ => mrstNFall_standsBy, fun _ _ => mrstNRise_asks, fun _ _ _ => moduleStart_boots,
    fun _ _ => warmStart_boots, fun _ _ => journalRestore_ends, fun _ => modReadyAssert_readies⟩

end Sys2Proof.Claims

namespace Sys2Proof.Machine

/-! ## Entries written to the ledger (R530 to R538) -/

/-- `t` is `s` but for the ledger: its entries, its head and marks, and events. -/
structure Written (s t : State) : Prop where
  frame : t = { s with regs := t.regs, flt := t.flt, hlm := t.hlm }
  hlm : t.hlm = { s.hlm with ledger := t.hlm.ledger, lowCrossed := t.hlm.lowCrossed, gapLost := t.hlm.gapLost, dropped := t.hlm.dropped }
  find : ∀ k, Reg.HLM_LEDGER_HEAD.key 0 ≠ k → Reg.HLM_STATUS_LEDGER_LOW.key 0 ≠ k → SMap.find t.regs k = SMap.find s.regs k
  wf : SMap.wf s.regs → SMap.wf t.regs

namespace Written

variable {s t u : State}

theorem refl (s : State) : Written s s := ⟨rfl, rfl, fun _ _ _ => rfl, id⟩

theorem trans (hst : Written s t) (htu : Written t u) : Written s u := by
  refine ⟨?_, ?_, fun k hh hl => (htu.find k hh hl).trans (hst.find k hh hl), fun h => htu.wf (hst.wf h)⟩
  · rw [htu.frame, hst.frame]
  · rw [htu.hlm, hst.hlm]

theorem report (s : State) (src cls evt : Nat) (ctx : Bytes) : Written s (s.report src cls evt ctx) := ⟨rfl, rfl, fun _ _ _ => rfl, id⟩

theorem setHead (s : State) (v : Nat) : Written s (s.set Reg.HLM_LEDGER_HEAD 0 v) :=
  ⟨rfl, rfl, fun _ hh _ => SMap.find_store_ne _ _ _ hh, fun h => s.wf_set _ 0 v h⟩

theorem setLow (s : State) (b : Bool) : Written s (s.setFlag Reg.HLM_STATUS_LEDGER_LOW 0 b) :=
  ⟨rfl, rfl, fun _ _ hl => SMap.find_store_ne _ _ _ hl, fun h => s.wf_set _ 0 _ h⟩

theorem ledger (s : State) (f : SMap Bytes → SMap Bytes) : Written s (s.modHlm (fun h => { h with ledger := f h.ledger })) :=
  ⟨rfl, rfl, fun _ _ _ => rfl, id⟩

theorem low (s : State) (b : Bool) : Written s (s.modHlm (fun h => { h with lowCrossed := b })) := ⟨rfl, rfl, fun _ _ _ => rfl, id⟩

theorem gap (s : State) (g : Option (Nat × Nat × Bytes)) (n : Nat) : Written s (s.modHlm (fun h => { h with gapLost := g, dropped := n })) :=
  ⟨rfl, rfl, fun _ _ _ => rfl, id⟩

theorem ledgerLow (s : State) : Written s s.ledgerLow := by
  unfold State.ledgerLow
  extract_lets b s₁ s₂
  have h₂ : Written s₁ s₂ := by
    change Written s₁ (if b && !s₁.hlm.lowCrossed then s₁.report 0x0E00 corrected 0 [] else s₁)
    split
    · exact report _ _ _ _ _
    · exact refl _
  exact ((setLow s b).trans h₂).trans (low s₂ b)

theorem eraseNext (s : State) : Written s s.eraseNext := ledger s _

theorem makeRoom (s : State) : Written s s.makeRoom := by
  unfold State.makeRoom
  extract_lets lost g
  split
  · exact ((eraseNext s).trans (gap s.eraseNext g s.eraseNext.hlm.dropped)).trans (report _ _ _ _ _)
  · exact eraseNext s

theorem program (s : State) (r : LedgerReq) : Written s (s.program r) := by
  unfold State.program
  extract_lets i b
  exact ((ledger s (fun m => SMap.put m i b)).trans (setHead _ _)).trans (ledgerLow _)

theorem writeEntry (s : State) (r : LedgerReq) : Written s (s.writeEntry r) := by
  unfold State.writeEntry
  extract_lets s₁ s₂
  have h₂ : Written s₁ s₂ := by
    change Written s₁ (match s₁.gapDue with
      | none => s₁
      | some o => ((s₁.program (s₁.formEntry o (if s₁.hlmRuns then s₁.digest else r.config))).modHlm
          (fun h => { h with gapLost := none, dropped := 0 })).makeRoom)
    split
    · exact refl _
    · exact ((program s₁ _).trans (gap _ none 0)).trans (makeRoom _)
  exact ((makeRoom s).trans h₂).trans (program s₂ r)

theorem get (h : Written s t) {f : Field} {i : Nat} (hhead : Reg.HLM_LEDGER_HEAD.key 0 ≠ f.key i)
    (hlow : Reg.HLM_STATUS_LEDGER_LOW.key 0 ≠ f.key i) : t.get f i = s.get f i := by
  rw [State.get, State.get, SMap.get, SMap.get, h.find _ hhead hlow]

theorem flag (h : Written s t) {f : Field} {i : Nat} (hhead : Reg.HLM_LEDGER_HEAD.key 0 ≠ f.key i)
    (hlow : Reg.HLM_STATUS_LEDGER_LOW.key 0 ≠ f.key i) : t.flag f i = s.flag f i := by
  rw [State.flag, State.flag, h.get hhead hlow]

/-- What an entry leaves. -/
theorem keeps (h : Written s t) : t.clk = s.clk ∧ t.tim = s.tim ∧ t.jnl = s.jnl ∧ t.out = s.out ∧ t.hlm.due = s.hlm.due ∧
    t.hlm.assays = s.hlm.assays ∧ t.hlm.aliasPub = s.hlm.aliasPub := by
  refine ⟨?_, ?_, ?_, ?_, ?_, ?_, ?_⟩
  · rw [h.frame]
  · rw [h.frame]
  · rw [h.frame]
  · rw [h.frame]
  · rw [h.hlm]
  · rw [h.hlm]
  · rw [h.hlm]

end Written

/-- The mark LEDGER_LOW leaves the entries and the head. -/
theorem State.ledgerLow_keeps (s : State) : (∃ b, s.ledgerLow.hlm = { s.hlm with lowCrossed := b }) ∧
    s.ledgerLow.ledgerHead = s.ledgerHead := by
  unfold State.ledgerLow
  extract_lets b s₁ s₂
  have hreport : s₂.regs = s₁.regs ∧ s₂.hlm = s.hlm := by
    change (if b && !s₁.hlm.lowCrossed then s₁.report 0x0E00 corrected 0 [] else s₁).regs = s₁.regs ∧
      (if b && !s₁.hlm.lowCrossed then s₁.report 0x0E00 corrected 0 [] else s₁).hlm = s.hlm
    split
    · exact ⟨rfl, rfl⟩
    · exact ⟨rfl, rfl⟩
  obtain ⟨hregs, hhlm⟩ := hreport
  clear_value s₂
  refine ⟨⟨b, ?_⟩, (State.get_congr hregs Reg.HLM_LEDGER_HEAD 0).trans (s.get_setFlag_ne (by decide) b)⟩
  rw [State.modHlm, hhlm]

/-- An entry is programmed at the head (R533). -/
theorem State.ledger_program (s : State) (r : LedgerReq) :
    (s.program r).hlm.ledger = SMap.put s.hlm.ledger s.ledgerHead (s.entryBytes s.ledgerHead r) := by
  unfold State.program
  extract_lets i b
  obtain ⟨_, hlow⟩ := (((s.modHlm (fun h => { h with ledger := SMap.put h.ledger i b })).set Reg.HLM_LEDGER_HEAD 0 (i + 1)).ledgerLow_keeps).1
  rw [hlow]
  rfl

theorem State.head_program {s : State} (hwf : SMap.wf s.regs) (r : LedgerReq) : (s.program r).ledgerHead = (s.ledgerHead + 1) % 2 ^ 32 := by
  unfold State.program
  extract_lets i b
  rw [(State.ledgerLow_keeps _).2]
  exact State.get_set_self _ _ _ _ hwf

theorem State.ledger_eraseNext (s : State) :
    s.eraseNext.hlm.ledger = s.hlm.ledger.filter (fun e => s.nextBlock + 128 ≤ e.1 + 32768) := rfl

/-- Room is made by erasing the next block alone. -/
theorem State.ledger_makeRoom (s : State) : s.makeRoom.hlm.ledger = s.eraseNext.hlm.ledger ∧ s.makeRoom.ledgerHead = s.ledgerHead := by
  unfold State.makeRoom
  extract_lets lost g
  split
  · exact ⟨rfl, rfl⟩
  · exact ⟨rfl, rfl⟩

/-- With room in the ledger, and no GAP entry due, an entry is programmed once the next block is erased. -/
theorem State.writeEntry_eq {s : State} (hroom : s.ledgerFull = false) (hlost : s.hlm.gapLost = none) (hdropped : s.hlm.dropped = 0)
    (r : LedgerReq) : s.writeEntry r = s.eraseNext.program r := by
  have herase : s.makeRoom = s.eraseNext := by simp [State.makeRoom, hroom]
  have hgap : s.eraseNext.gapDue = none := by
    have hnone : s.eraseNext.hlm.gapLost = none ∧ s.eraseNext.hlm.dropped = 0 := ⟨hlost, hdropped⟩
    simp [State.gapDue, hnone.1, hnone.2]
  rw [State.writeEntry, herase]
  simp only [hgap]

/-- KIND and BOOT of an entry (Table 13-4). -/
theorem State.entryBytes_fields (s : State) (i : Nat) (r : LedgerReq) : (∃ skip, fieldAt (s.entryBytes i r) 6 2 =
    (r.kind + r.flags + 128 * skip) % 65536) ∧ fieldAt (s.entryBytes i r) 12 4 = r.boot % 2 ^ 32 := by
  unfold State.entryBytes
  extract_lets skip prev body sig
  have hkind := fieldAt_leBytes (leBytes 4 0x4C485A43 ++ leBytes 2 1) 
  have hboot := fieldAt_leBytes (leBytes 4 0x4C485A43 ++ leBytes 2 1 ++ leBytes 2 (r.kind + r.flags + 128 * b2n skip) ++ leBytes 4 i)
  simp only [List.length_append, length_leBytes] at hkind hboot
  refine ⟨⟨b2n skip, ?_⟩, ?_⟩
  · simp only [body, List.append_assoc] at hkind ⊢
    exact hkind _ 2 _
  · simp only [body, List.append_assoc] at hboot ⊢
    exact hboot _ 4 _

/-- An entry programmed at the head stands there, one that stood elsewhere still does. -/
theorem State.isSome_program (s : State) (r : LedgerReq) {n : Nat}
    (h : s.ledgerHead = n ∨ (SMap.find s.hlm.ledger n).isSome = true) : (SMap.find (s.program r).hlm.ledger n).isSome = true := by
  rw [s.ledger_program, SMap.find_put]
  split
  · rfl
  · exact h.resolve_left ‹_›

/-- Room made after a GAP entry leaves that entry. -/
theorem State.isSome_afterGap {s : State} (hwf : SMap.wf s.regs) (r : LedgerReq) :
    (SMap.find ((s.program r).modHlm (fun h => { h with gapLost := none, dropped := 0 })).makeRoom.hlm.ledger s.ledgerHead).isSome = true := by
  have hsome := s.isSome_program r (.inl rfl)
  have hhead := State.head_program hwf r
  generalize s.program r = x at *
  obtain ⟨hledger, -⟩ := (x.modHlm (fun h => { h with gapLost := none, dropped := 0 })).ledger_makeRoom
  have hnext : x.nextBlock + 128 ≤ s.ledgerHead + 32768 := by
    rw [State.nextBlock, hhead]
    have hle := Nat.mod_le (s.ledgerHead + 1) (2 ^ 32)
    omega
  rw [hledger, State.ledger_eraseNext]
  have hfind := SMap.find_filter_key x.hlm.ledger (fun k => decide (x.nextBlock + 128 ≤ k + 32768)) s.ledgerHead
  rw [if_pos (by simpa using hnext)] at hfind
  exact (congrArg Option.isSome hfind).trans hsome

/-- The entry that is written stands at what was the head, after a GAP entry that was due as well. -/
theorem State.isSome_writeEntry {s : State} (hwf : SMap.wf s.regs) (r : LedgerReq) :
    (SMap.find (s.writeEntry r).hlm.ledger s.ledgerHead).isSome = true := by
  have hhead := s.ledger_makeRoom.2
  have hwf₁ := (Written.makeRoom s).wf hwf
  unfold State.writeEntry
  extract_lets s₁ s₂
  refine s₂.isSome_program r ?_
  change (match s₁.gapDue with
    | none => s₁
    | some o => ((s₁.program (s₁.formEntry o (if s₁.hlmRuns then s₁.digest else r.config))).modHlm
        (fun h => { h with gapLost := none, dropped := 0 })).makeRoom).ledgerHead = s.ledgerHead ∨ (SMap.find (match s₁.gapDue with
    | none => s₁
    | some o => ((s₁.program (s₁.formEntry o (if s₁.hlmRuns then s₁.digest else r.config))).modHlm
        (fun h => { h with gapLost := none, dropped := 0 })).makeRoom).hlm.ledger s.ledgerHead).isSome = true
  have hwf₁ : SMap.wf s₁.regs := (Written.makeRoom s).wf hwf
  have hhead : s₁.ledgerHead = s.ledgerHead := s.ledger_makeRoom.2
  clear_value s₁
  split
  · exact .inl hhead
  · exact .inr (hhead ▸ State.isSome_afterGap hwf₁ _)

/-! ## The end of the BOOT entry (R525, R641) -/

/-- `s` with the main rails in window. -/
def State.mainRailsUp (s : State) : State :=
  forEach ((List.range 8).zip [6000, 1800, 1100, 400, 750, 850, 900, 1200]) (fun r s => s.railUp r.1 r.2) s

theorem State.find_set_ne (s : State) {f : Field} {i k : Nat} (hkey : f.key i ≠ k) (v : Nat) :
    SMap.find (s.set f i v).regs k = SMap.find s.regs k := SMap.find_store_ne _ _ _ hkey

/-- Every rail that a loop brings up is in window. -/
theorem State.find_railsUp {i : Nat} {l : List (Nat × Nat)} {s : State}
    (h : i ∈ l.map Prod.fst ∨ SMap.find s.regs (Reg.PFE_RAIL_IN_WINDOW.key i) = some 1) :
    SMap.find (forEach l (fun r s => s.railUp r.1 r.2) s).regs (Reg.PFE_RAIL_IN_WINDOW.key i) = some 1 := by
  induction l generalizing s with
  | nil => exact h.resolve_left List.not_mem_nil
  | cons a l ih =>
    refine ih (s := s.railUp a.1 a.2) ?_
    rw [State.railUp, State.find_setFlag_true _ rfl rfl]
    rcases h with h | h
    · rcases List.mem_cons.1 h with rfl | h
      · exact .inr (if_pos rfl)
      · exact .inl h
    · right
      split
      · rfl
      · have hkey : Reg.PFE_RAIL_MV.key a.1 ≠ Reg.PFE_RAIL_IN_WINDOW.key i := Field.key_ne_of_lsb (by decide)
        exact (s.find_set_ne hkey a.2).trans h

theorem State.mainRailsUp_frame (s : State) : RegsKept (fun _ => False) s s.mainRailsUp :=
  .loop (fun r _ s => (s.railUp_kept r.1 r.2).mono fun _ => False.elim) s

theorem State.quietFault_frame (s : State) : s.quietFault.regs = s.regs ∧ s.quietFault.clk = s.clk ∧ s.quietFault.hlm = s.hlm ∧
    s.quietFault.tim = s.tim ∧ s.quietFault.jnl = s.jnl := ⟨rfl, rfl, rfl, rfl, rfl⟩

/-- `s` with the main domain released. -/
def State.mainReleased (s : State) : State :=
  let s := s.mainRailsUp.setFlag Reg.PFE_STATUS_MAIN_ON 0 true
  let idle := s.flag Reg.PFE_STATUS_ACC_IDLE && !s.flag Reg.PFE_STATUS_PWRGD
  let s := { s with pfe := { s.pfe with pwrgdQual := idle } }
  let s := s.set Reg.CLK_START_TIME_RELEASE_MS 0 (min 65534 ((s.tick - s.clk.startTick) / 800000))
  let locked : Bool := s.get Reg.TIM_STATUS_STATE == 2 && s.get Reg.CLK_RST_CAUSE_KIND != 1
  let c := s.tim.counter
  let s := { s with tim := { s.tim with anchor := if locked then some (5, c, c) else s.tim.anchor, lockedOnce := locked } }
  { s with clk := { s.clk with phase := .released, bootWritten := true, lockApplied := true } }.quietFault

/-- What the release of the main domain shows and leaves. -/
theorem State.mainReleased_shows (s : State) : s.mainReleased.clk.phase = .released ∧ s.mainReleased.clk.bootWritten = true ∧
    s.mainReleased.clk.lockApplied = true ∧ s.mainReleased.flag Reg.PFE_STATUS_MAIN_ON = true ∧
    s.mainReleased.flag Reg.PFE_RAIL_IN_WINDOW 0 = true ∧ s.mainReleased.flag Reg.PFE_RAIL_IN_WINDOW 7 = true ∧
    s.mainReleased.hlm = s.hlm ∧ s.mainReleased.tim.counter = s.tim.counter ∧ s.mainReleased.jnl = s.jnl := by
  have hframe := s.mainRailsUp_frame.frame
  have hfirst : SMap.find s.mainRailsUp.regs (Reg.PFE_RAIL_IN_WINDOW.key 0) = some 1 := State.find_railsUp (.inl (by decide))
  have hlast : SMap.find s.mainRailsUp.regs (Reg.PFE_RAIL_IN_WINDOW.key 7) = some 1 := State.find_railsUp (.inl (by decide))
  unfold State.mainReleased
  generalize s.mainRailsUp = x at *
  extract_lets s₁ idle p s₂ s₃ locked c tm s₄
  have hregs₂ : s₂.regs = s₁.regs := rfl
  have hfind {k : Nat} (hon : Reg.PFE_STATUS_MAIN_ON.key 0 ≠ k) (hms : Reg.CLK_START_TIME_RELEASE_MS.key 0 ≠ k) :
      SMap.find s₃.regs k = SMap.find x.regs k := by
    rw [s₂.find_set_ne hms, hregs₂, x.find_setFlag_ne hon]
  have hmain : SMap.find s₃.regs (Reg.PFE_STATUS_MAIN_ON.key 0) = some 1 := by
    rw [s₂.find_set_ne (by decide), hregs₂, x.find_setFlag_true rfl rfl, if_pos rfl]
  have hfirst₃ := (hfind (by decide) (by decide)).trans hfirst
  have hlast₃ := (hfind (by decide) (by decide)).trans hlast
  have hkept : s₃.hlm = s.hlm ∧ s₃.tim = s.tim ∧ s₃.jnl = s.jnl := by
    change x.hlm = s.hlm ∧ x.tim = s.tim ∧ x.jnl = s.jnl
    rw [hframe]
    exact ⟨rfl, rfl, rfl⟩
  obtain ⟨hhlm, htim, hjnl⟩ := hkept
  clear_value s₃
  have hregs₄ : s₄.regs = s₃.regs := rfl
  obtain ⟨hregs, hclk, hhlm', htim', hjnl'⟩ :=
    State.quietFault_frame { s₄ with clk := { s₄.clk with phase := .released, bootWritten := true, lockApplied := true } }
  generalize ({ s₄ with clk := { s₄.clk with phase := .released, bootWritten := true, lockApplied := true } } : State).quietFault = t at *
  rw [hclk, hhlm', htim', hjnl']
  refine ⟨rfl, rfl, rfl, State.flag_of_find (hregs ▸ hmain), State.flag_of_find (hregs ▸ hfirst₃), State.flag_of_find (hregs ▸ hlast₃),
    hhlm, ?_, hjnl⟩
  change s₃.tim.counter = s.tim.counter
  rw [htim]

/-! ## The boot ROM (R524, R608) -/

/-- `t` is `s` but for the lock, the roots and the archive mark. -/
structure Locked (s t : State) : Prop where
  frame : t = { s with regs := t.regs, hlm := t.hlm }
  hlm : t.hlm = { s.hlm with mgmtRoots := t.hlm.mgmtRoots, devRoots := t.hlm.devRoots }
  find : ∀ k, Reg.HLM_STATUS_LOCKED.key 0 ≠ k → Reg.HLM_LEDGER_ARCHIVED.key 0 ≠ k → SMap.find t.regs k = SMap.find s.regs k
  wf : SMap.wf s.regs → SMap.wf t.regs

namespace Locked

variable {s t u : State}

theorem refl (s : State) : Locked s s := ⟨rfl, rfl, fun _ _ _ => rfl, id⟩

theorem trans (hst : Locked s t) (htu : Locked t u) : Locked s u := by
  refine ⟨?_, ?_, fun k hl ha => (htu.find k hl ha).trans (hst.find k hl ha), fun h => htu.wf (hst.wf h)⟩
  · rw [htu.frame, hst.frame]
  · rw [htu.hlm, hst.hlm]

theorem roots (s : State) (m d : List Bytes) : Locked s (s.modHlm (fun h => { h with mgmtRoots := m, devRoots := d })) :=
  ⟨rfl, rfl, fun _ _ _ => rfl, id⟩

theorem lock (s : State) (b : Bool) : Locked s (s.setFlag Reg.HLM_STATUS_LOCKED 0 b) :=
  ⟨rfl, rfl, fun _ hl _ => s.find_setFlag_ne hl b, fun h => s.wf_set _ 0 _ h⟩

theorem archived (s : State) (n : Nat) : Locked s (s.set Reg.HLM_LEDGER_ARCHIVED 0 n) :=
  ⟨rfl, rfl, fun _ _ ha => s.find_set_ne ha n, fun h => s.wf_set _ 0 n h⟩

/-- The journal says what the lock, the roots and the archive mark are (R608). -/
theorem journalLock (s : State) : Locked s s.journalLock := by
  unfold State.journalLock
  extract_lets r h s₁
  have h₁ : Locked s s₁ := ((roots s (List.replicate 2 zeroHash) (List.replicate 4 zeroHash)).trans (lock _ false)).trans (archived _ 0)
  refine forEach_keeps (P := Locked s) (fun r hr t ht => ht.trans ?_) h₁
  clear hr
  cases r
  case lock on => exact lock t on
  case mgmtRoot i x => exact roots t (t.hlm.mgmtRoots.set i x) t.hlm.devRoots
  case devRoot i x => exact roots t t.hlm.mgmtRoots (t.hlm.devRoots.set i x)
  case archived n => exact archived t n
  all_goals exact refl t

end Locked

/-- `s` with the lock and the ledger's policy as the journal has them, no record of it failing its check. -/
def State.romReady (s : State) : State :=
  let s := ({ s with jnl := { s.jnl with bad := none } } : State).journalLock
  (s.set Reg.HLM_LEDGER_CTL_POLICY 0 (SMap.get (s.jnl.fields []) (Reg.HLM_LEDGER_CTL_POLICY.key 0) 0)).modHlm
    (fun h => { h with reverted := false })

theorem State.get_modHlm (s : State) (g : Hlm → Hlm) (f : Field) (i : Nat) : (s.modHlm g).get f i = s.get f i := rfl

/-- What the boot ROM finds as it was. -/
theorem State.romReady_keeps (s : State) : (∃ m d, s.romReady.hlm = { s.hlm with mgmtRoots := m, devRoots := d, reverted := false }) ∧
    (∀ f : Field, Reg.HLM_STATUS_LOCKED.key 0 ≠ f.key 0 → Reg.HLM_LEDGER_ARCHIVED.key 0 ≠ f.key 0 →
      Reg.HLM_LEDGER_CTL_POLICY.key 0 ≠ f.key 0 → s.romReady.get f = s.get f) ∧ (SMap.wf s.regs → SMap.wf s.romReady.regs) := by
  have hlocked := Locked.journalLock { s with jnl := { s.jnl with bad := none } }
  unfold State.romReady
  extract_lets j x
  change Locked { s with jnl := { s.jnl with bad := none } } x at hlocked
  clear_value x
  generalize SMap.get (x.jnl.fields []) (Reg.HLM_LEDGER_CTL_POLICY.key 0) 0 = v
  refine ⟨⟨x.hlm.mgmtRoots, x.hlm.devRoots, ?_⟩, fun f hl ha hp => ?_, fun h => x.wf_set _ 0 v (hlocked.wf h)⟩
  · change { x.hlm with reverted := false } = _
    rw [hlocked.hlm]
  · rw [State.get_modHlm, State.get_set_ne _ _ _ _ _ _ hp, State.get, State.get, SMap.get, SMap.get, hlocked.find _ hl ha]

theorem State.slotBoots_romReady (s : State) (i : Nat) : s.romReady.slotBoots i = s.slotBoots i := by
  obtain ⟨⟨m, d, hhlm⟩, hget, -⟩ := s.romReady_keeps
  have hslot : s.romReady.slotAt? i = s.slotAt? i := by rw [State.slotAt?, State.slotAt?, hhlm]
  have hmin := hget Reg.HLM_STATUS_SVN_MIN (by decide) (by decide) (by decide)
  have hrevoked := hget Reg.HLM_STATUS_REVOKED (by decide) (by decide) (by decide)
  rw [State.slotBoots, State.slotBoots, hslot, hmin, hrevoked]

/-- `s` in recovery: neither slot boots. -/
def State.romFailed (s : State) : State :=
  let sel := s.hlm.trialSlot.getD s.hlm.committed
  let s' := (s.modSlot sel (fun x => { x with valid := false })).report 0x0E03 contained 1 []
  let s' := ((s'.modSlot (1 - sel) (fun x => { x with valid := false })).report 0x0E03 contained 1 []).report 0x0E05 contained 0 []
  let s' := s'.modHlm (fun h => { h with trialBegun := h.trialSlot.isSome })
  { s' with clk := { s'.clk with phase := .recovery } }.setFlag Reg.HLM_STATUS_TRIAL 0 false

/-- The slot that the boot ROM selects is booted, or else the other one, or the module goes to recovery (R524). -/
def State.romSelected (s : State) (a b : Bool) : State :=
  let sel := s.hlm.trialSlot.getD s.hlm.committed
  let ok := fun (i : Nat) => (if i = 0 then a else b) && s.slotBoots i
  if ok sel then s.bootSlot sel
  else if ok (1 - sel) then ((s.modSlot sel (fun x => { x with valid := false })).report 0x0E03 contained 1 []).bootSlot (1 - sel)
  else s.romFailed

theorem execBootRomStart_selects {s : State} (hphase : s.clk.phase = .boot) (htrial : s.hlm.trialSlot = none) (a b : Bool) :
    execBootRomStart a b none s = .next (s.romReady.romSelected a b) := by
  have hlocked := (Locked.journalLock { s with jnl := { s.jnl with bad := none } }).hlm
  unfold execBootRomStart
  rw [if_neg (not_not.2 hphase)]
  extract_lets j s₂ s₃ s₄ revert t s₅ s₆
  have hnone : s₄.hlm.trialSlot = none := (congrArg Hlm.trialSlot hlocked).trans htrial
  have hkept : revert = false := by simp only [revert, hnone, Option.isSome_none, Bool.false_and]
  have hready : s₆ = s.romReady := by
    change (if revert = true then _ else s₄.modHlm (fun h => { h with reverted := false })) = s.romReady
    rw [if_neg (by rw [hkept]; exact Bool.false_ne_true)]
    rfl
  rw [← hready]
  clear_value s₆
  rfl

/-- With neither image good the module goes to recovery. -/
theorem State.romSelected_bad (s : State) : s.romSelected false false = s.romFailed := by
  have hbad (i : Nat) : ((if i = 0 then false else false) && s.slotBoots i) = false := by split <;> rfl
  unfold State.romSelected
  simp only [hbad, Bool.false_eq_true, if_false]

theorem State.romFailed_shows (s : State) : s.romFailed.clk.phase = .recovery ∧ s.romFailed.hlm.ledger = s.hlm.ledger ∧
    s.romFailed.Waits 0x0E05 contained 0 := by
  refine ⟨rfl, rfl, ?_⟩
  unfold State.romFailed
  extract_lets sel s₁ s₂ s₃
  have hwaits : s₂.Waits 0x0E05 contained 0 := State.waits_report _ _ _ _ _ _
  clear_value s₂
  exact hwaits

/-- The header's values are no part of what is measured (R526). -/
theorem FwSlot.assays_parsed (x : FwSlot) : x.parsed.assays = x.assays := by
  unfold FwSlot.parsed
  split
  · rfl
  · rfl

theorem State.assays_modSlot (s : State) (i : Nat) : ((s.modSlot i FwSlot.parsed).slotAt? i).assays = (s.slotAt? i).assays := by
  change ((s.hlm.slots.modify i FwSlot.parsed).getD i FwSlot.empty).assays = (s.hlm.slots.getD i FwSlot.empty).assays
  simp only [List.getD_eq_getElem?_getD, List.getElem?_modify_eq]
  cases s.hlm.slots[i]? with
  | none => rfl
  | some x => exact x.assays_parsed

/-- `s` with slot `i` measured: the boot counter, the Assays and the key derived from them (R526, R528). -/
def State.bootMeasured (s : State) (i : Nat) : State :=
  let s := s.modSlot i FwSlot.parsed
  let x := s.slotAt? i
  let trial := s.hlm.trialSlot == some i
  let s := ((s.set Reg.HLM_STATUS_SLOT 0 i).setFlag Reg.HLM_STATUS_TRIAL 0 trial)
  let newest := (s.hlm.ledger.reverse.find? (fun e => fieldAt e.2 6 2 % 16 == 1)).map (fun e => fieldAt e.2 12 4)
  let s := s.set Reg.HLM_BOOT_COUNTER 0 (match newest with | some b => b + 1 | none => 1)
  let as := x.assays
  let pub := Config.aliasPublic (aliasSeed as)
  s.modHlm (fun h => { h with assays := as, aliasPub := pub, keyId := (sha pub).take 16, trialBegun := h.trialSlot.isSome })

/-- What measuring shows on an empty ledger. -/
theorem State.bootMeasured_shows {s : State} {i : Nat} (hwf : SMap.wf s.regs) (hi : i ≤ 1) (hempty : s.hlm.ledger = []) :
    (s.bootMeasured i).get Reg.HLM_STATUS_SLOT = i ∧ (s.bootMeasured i).get Reg.HLM_BOOT_COUNTER = 1 ∧
    (s.bootMeasured i).ledgerHead = s.ledgerHead ∧ (∃ slots key begun, (s.bootMeasured i).hlm = { s.hlm with
      slots := slots, keyId := key, trialBegun := begun, assays := (s.slotAt? i).parsed.assays,
      aliasPub := Config.aliasPublic (aliasSeed (s.slotAt? i).parsed.assays) }) ∧ SMap.wf (s.bootMeasured i).regs := by
  have hassays : ((s.modSlot i FwSlot.parsed).slotAt? i).assays = (s.slotAt? i).parsed.assays := by
    rw [State.assays_modSlot, FwSlot.assays_parsed]
  unfold State.bootMeasured
  extract_lets s₁ x trial s₂ newest s₃ as pub
  have hnewest : newest = none := by
    change (s.hlm.ledger.reverse.find? _).map _ = none
    rw [hempty]
    rfl
  have hwf₁ : SMap.wf s₁.regs := hwf
  have hwf₂ : SMap.wf s₂.regs := State.wf_setFlag (State.wf_set s₁ Reg.HLM_STATUS_SLOT 0 i hwf₁) _ _ _
  have hs₃ : s₃ = s₂.set Reg.HLM_BOOT_COUNTER 0 1 := by simp only [s₃, hnewest]
  have hcounter : s₃.get Reg.HLM_BOOT_COUNTER = 1 := by
    rw [hs₃, State.get_set_self _ _ _ _ hwf₂]
    rfl
  have hslot : s₃.get Reg.HLM_STATUS_SLOT = i := by
    have htrial : s₂.get Reg.HLM_STATUS_SLOT = (s₁.set Reg.HLM_STATUS_SLOT 0 i).get Reg.HLM_STATUS_SLOT :=
      State.get_setFlag_ne _ (by decide) trial
    rw [hs₃, State.get_set_ne _ _ _ _ _ _ (by decide), htrial, State.get_set_self _ _ _ _ hwf₁]
    exact Nat.mod_eq_of_lt (Nat.lt_succ_of_le hi)
  have hhead : s₃.ledgerHead = s.ledgerHead := by
    have htrial : s₂.get Reg.HLM_LEDGER_HEAD = (s₁.set Reg.HLM_STATUS_SLOT 0 i).get Reg.HLM_LEDGER_HEAD :=
      State.get_setFlag_ne _ (by decide) trial
    rw [State.ledgerHead, hs₃, State.get_set_ne _ _ _ _ _ _ (by decide), htrial, State.get_set_ne _ _ _ _ _ _ (by decide)]
    rfl
  have hwf₃ : SMap.wf s₃.regs := State.wf_set s₂ _ 0 _ hwf₂
  have hhlm : s₃.hlm = { s.hlm with slots := s.hlm.slots.modify i FwSlot.parsed } := rfl
  have hmeasured : as = (s.slotAt? i).parsed.assays := hassays
  have hpub : pub = Config.aliasPublic (aliasSeed as) := rfl
  clear_value s₃ pub as
  subst hpub hmeasured
  refine ⟨(State.get_modHlm ..).trans hslot, (State.get_modHlm ..).trans hcounter, (State.get_modHlm ..).trans hhead,
    ⟨s.hlm.slots.modify i FwSlot.parsed, (sha (Config.aliasPublic (aliasSeed (s.slotAt? i).parsed.assays))).take 16,
      s.hlm.trialSlot.isSome, ?_⟩, hwf₃⟩
  rw [State.modHlm, hhlm]

/-- With nothing torn and room in the ledger, a boot ends with the KEY entry (R524). -/
theorem State.bootSlot_eq {s : State} {i : Nat} (htorn : (s.bootMeasured i).hlm.torn = [])
    (hroom : (s.bootMeasured i).ledgerLow.ledgerFull = false) : s.bootSlot i = (s.bootMeasured i).ledgerLow.writeKey := by
  unfold State.bootSlot
  extract_lets s₁ x trial s₂ newest s₃ as pub s₄ h s₅ s₆ s₇
  have hmeasured : s₄ = s.bootMeasured i := rfl
  have h₅ : s₅ = s₄ := by
    refine if_neg ?_
    rw [hmeasured, htorn]
    exact Bool.false_ne_true
  have h₆ : s₆ = (s.bootMeasured i).ledgerLow := congrArg State.ledgerLow (h₅.trans hmeasured)
  have hfull : s₆.ledgerFull = false := (congrArg State.ledgerFull h₆).trans hroom
  exact (if_neg (by simp [hfull])).trans (congrArg State.writeKey h₆)

/-- A ledger whose head is at 0 is not full. -/
theorem State.ledgerFull_atStart {s : State} (hhead : s.ledgerHead = 0) : s.ledgerFull = false := by
  simp [State.ledgerFull, State.ledgerLimit, hhead]

/-- What the KEY entry is (R528). -/
theorem State.writeKey_eq (s : State) : ∃ o : Occasion, o.kind = 2 ∧ o.flags = 0 ∧
    s.writeKey = (((s.setFlag Reg.HLM_STATUS_LEDGER_HOLD 0 false).writeEntry (s.formEntry o s.restoredDigest)).modClk
      (fun c => { c with phase := .keyed })) := ⟨_, rfl, rfl, rfl⟩

/-- An entry that is written with room in the ledger stands at what was the head. -/
theorem State.writeEntry_shows {s : State} (hwf : SMap.wf s.regs) (hroom : s.ledgerFull = false) (hlost : s.hlm.gapLost = none)
    (hdropped : s.hlm.dropped = 0) (r : LedgerReq) : (s.writeEntry r).ledgerHead = (s.ledgerHead + 1) % 2 ^ 32 ∧
    SMap.find (s.writeEntry r).hlm.ledger s.ledgerHead = some (s.eraseNext.entryBytes s.ledgerHead r) := by
  have hhead : s.eraseNext.ledgerHead = s.ledgerHead := State.get_modHlm ..
  rw [State.writeEntry_eq hroom hlost hdropped, State.head_program (s := s.eraseNext) hwf, State.ledger_program, SMap.find_put, hhead,
    if_pos rfl]
  exact ⟨rfl, rfl⟩

/-- KIND of an entry whose own flags lie above it. -/
theorem State.formEntry_kind (s t : State) (i : Nat) {o : Occasion} (hkind : o.kind < 16) (hflags : o.flags % 16 = 0) (config : Bytes) :
    fieldAt (t.entryBytes i (s.formEntry o config)) 6 2 % 16 = o.kind := by
  obtain ⟨⟨skip, hfield⟩, -⟩ := t.entryBytes_fields i (s.formEntry o config)
  rw [hfield]
  simp only [State.formEntry, State.entryFlags]
  omega

/-- A boot that resumes, or goes on, with the KEY entry. -/
theorem State.writeKey_keeps (s : State) : s.writeKey.clk = { s.clk with phase := .keyed } ∧ s.writeKey.jnl = s.jnl := by
  obtain ⟨o, -, -, hkey⟩ := s.writeKey_eq
  obtain ⟨hclk, -, hjnl, -⟩ := (Written.writeEntry (s.setFlag Reg.HLM_STATUS_LEDGER_HOLD 0 false) (s.formEntry o s.restoredDigest)).keeps
  rw [hkey]
  generalize (s.setFlag Reg.HLM_STATUS_LEDGER_HOLD 0 false).writeEntry (s.formEntry o s.restoredDigest) = x at *
  refine ⟨?_, hjnl⟩
  rw [State.modClk, hclk]
  rfl

/-- BOOT of an entry. -/
theorem State.formEntry_boot (s t : State) (i : Nat) (o : Occasion) (config : Bytes) :
    fieldAt (t.entryBytes i (s.formEntry o config)) 12 4 = s.get Reg.HLM_BOOT_COUNTER % 2 ^ 32 :=
  (t.entryBytes_fields i (s.formEntry o config)).2

/-- The first boot counts 1 and writes the KEY entry at index 0 (R526, R528). -/
theorem State.bootSlot_shows {s : State} {i : Nat} (hwf : SMap.wf s.regs) (hi : i ≤ 1) (hledger : s.hlm.ledger = []) (htorn : s.hlm.torn = [])
    (hlost : s.hlm.gapLost = none) (hdropped : s.hlm.dropped = 0) (hhead : s.ledgerHead = 0) :
    (s.bootSlot i).clk.phase = .keyed ∧ (s.bootSlot i).get Reg.HLM_STATUS_SLOT = i ∧ (s.bootSlot i).get Reg.HLM_BOOT_COUNTER = 1 ∧
    (s.bootSlot i).hlm.assays = (s.slotAt? i).parsed.assays ∧
    (s.bootSlot i).hlm.aliasPub = Config.aliasPublic (aliasSeed (s.bootSlot i).hlm.assays) ∧ (s.bootSlot i).get Reg.HLM_LEDGER_HEAD = 1 ∧
    (∃ e, SMap.find (s.bootSlot i).hlm.ledger 0 = some e ∧ fieldAt e 6 2 % 16 = 2 ∧ fieldAt e 12 4 = 1) := by
  -- the slot is measured
  obtain ⟨hslot, hcounter, hhead₁, ⟨slots, key, begun, hmeasured⟩, hwf₁⟩ := State.bootMeasured_shows hwf hi hledger
  have hslots : (s.bootMeasured i).hlm.torn = [] ∧ (s.bootMeasured i).hlm.gapLost = none ∧ (s.bootMeasured i).hlm.dropped = 0 ∧
      (s.bootMeasured i).hlm.assays = (s.slotAt? i).parsed.assays ∧
      (s.bootMeasured i).hlm.aliasPub = Config.aliasPublic (aliasSeed (s.slotAt? i).parsed.assays) := by
    rw [hmeasured]
    exact ⟨htorn, hlost, hdropped, rfl, rfl⟩
  obtain ⟨htorn₁, hlost₁, hdropped₁, hassays₁, hpub₁⟩ := hslots
  -- the ledger has room
  have hboot := State.bootSlot_eq htorn₁
  obtain ⟨⟨low, hlow⟩, hhead₂⟩ := (s.bootMeasured i).ledgerLow_keeps
  have hwritten := Written.ledgerLow (s.bootMeasured i)
  generalize s.bootMeasured i = x at *
  generalize x.ledgerLow = y at *
  have hhead₃ : y.ledgerHead = 0 := hhead₂.trans (hhead₁.trans hhead)
  obtain ⟨o, hkind, hflags, hkey⟩ := y.writeKey_eq
  rw [hboot (State.ledgerFull_atStart hhead₃), hkey]
  -- the KEY entry is written
  have hget {f : Field} (hhold : Reg.HLM_STATUS_LEDGER_HOLD.key 0 ≠ f.key 0) :
      (y.setFlag Reg.HLM_STATUS_LEDGER_HOLD 0 false).get f = y.get f := State.get_setFlag_ne _ hhold _
  have hwf₂ : SMap.wf (y.setFlag Reg.HLM_STATUS_LEDGER_HOLD 0 false).regs := State.wf_setFlag (hwritten.wf hwf₁) _ _ _
  have hhead₄ : (y.setFlag Reg.HLM_STATUS_LEDGER_HOLD 0 false).ledgerHead = 0 := (hget (by decide)).trans hhead₃
  have hhlm : (y.setFlag Reg.HLM_STATUS_LEDGER_HOLD 0 false).hlm = { x.hlm with lowCrossed := low } := hlow
  have hslot₂ : (y.setFlag Reg.HLM_STATUS_LEDGER_HOLD 0 false).get Reg.HLM_STATUS_SLOT = i := by
    rw [hget (by decide), hwritten.get (by decide) (by decide), hslot]
  have hcounter₁ : y.get Reg.HLM_BOOT_COUNTER = 1 := by rw [hwritten.get (by decide) (by decide), hcounter]
  have hcounter₂ := (hget (f := Reg.HLM_BOOT_COUNTER) (by decide)).trans hcounter₁
  generalize y.setFlag Reg.HLM_STATUS_LEDGER_HOLD 0 false = z at *
  obtain ⟨hnext, hentry⟩ := State.writeEntry_shows hwf₂ (State.ledgerFull_atStart hhead₄) (by rw [hhlm, ← hlost₁]) (by rw [hhlm, ← hdropped₁])
    (y.formEntry o y.restoredDigest)
  have hentryWritten := Written.writeEntry z (y.formEntry o y.restoredDigest)
  rw [hhead₄] at hnext hentry
  generalize z.writeEntry (y.formEntry o y.restoredDigest) = w at *
  obtain ⟨-, -, -, -, -, hassays, hpub⟩ := hentryWritten.keeps
  have hassays' : w.hlm.assays = (s.slotAt? i).parsed.assays := by rw [hassays, hhlm, ← hassays₁]
  have hpub' : w.hlm.aliasPub = Config.aliasPublic (aliasSeed w.hlm.assays) := by rw [hpub, hassays', hhlm, ← hpub₁]
  refine ⟨rfl, ?_, ?_, hassays', hpub', (State.get_congr (State.regs_modClk ..) _ _).trans hnext, _, hentry, ?_, ?_⟩
  · rw [State.get_congr (State.regs_modClk ..), hentryWritten.get (by decide) (by decide), hslot₂]
  · rw [State.get_congr (State.regs_modClk ..), hentryWritten.get (by decide) (by decide), hcounter₂]
  · rw [State.formEntry_kind _ _ _ (by rw [hkind]; decide) (by rw [hflags]), hkind]
  · rw [State.formEntry_boot, hcounter₁]
    rfl

end Sys2Proof.Machine

namespace Sys2Proof.Claims
open Sys2Proof.Machine

section
variable {s : State}

/-- On an empty ledger and journal a boot counts 1, measures the committed slot and writes the KEY entry at index 0 (R524, R526, R528). -/
theorem bootRomStart_boots {a b : Bool} {i : Nat} (hwf : SMap.wf s.regs) (hphase : s.clk.phase = .boot) (htrial : s.hlm.trialSlot = none)
    (hcommitted : s.hlm.committed = i) (hi : i ≤ 1) (hgood : (if i = 0 then a else b) = true) (hboots : s.slotBoots i = true)
    (hledger : s.hlm.ledger = []) (htorn : s.hlm.torn = []) (hlost : s.hlm.gapLost = none) (hdropped : s.hlm.dropped = 0)
    (hhead : s.get Reg.HLM_LEDGER_HEAD = 0) :
    ∃ t, exec (.bootRomStart a b none) s = .next t ∧ t.clk.phase = .keyed ∧ t.get Reg.HLM_STATUS_SLOT = i ∧
      t.get Reg.HLM_BOOT_COUNTER = 1 ∧ t.hlm.assays = (s.slotAt? i).parsed.assays ∧
      t.hlm.aliasPub = Config.aliasPublic (aliasSeed t.hlm.assays) ∧ t.get Reg.HLM_LEDGER_HEAD = 1 ∧
      (∃ e, SMap.find t.hlm.ledger 0 = some e ∧ fieldAt e 6 2 % 16 = 2 ∧ fieldAt e 12 4 = 1) := by
  obtain ⟨⟨m, d, hhlm⟩, hget, hwf'⟩ := s.romReady_keeps
  have hwf₁ := hwf' hwf
  have hboots₁ := (s.slotBoots_romReady i).trans hboots
  have hhead₁ : s.romReady.ledgerHead = 0 := (hget Reg.HLM_LEDGER_HEAD (by decide) (by decide) (by decide)).trans hhead
  have hexec := execBootRomStart_selects hphase htrial a b
  generalize s.romReady = y at *
  have hselected : y.romSelected a b = y.bootSlot i := by
    have hsel : y.hlm.trialSlot.getD y.hlm.committed = i := by simp [hhlm, htrial, hcommitted]
    rw [State.romSelected, hsel]
    exact if_pos (by simp only [hgood, hboots₁, Bool.and_self])
  have hslot : y.slotAt? i = s.slotAt? i := by rw [State.slotAt?, State.slotAt?, hhlm]
  have hkept : y.hlm.ledger = [] ∧ y.hlm.torn = [] ∧ y.hlm.gapLost = none ∧ y.hlm.dropped = 0 := by
    rw [hhlm]
    exact ⟨hledger, htorn, hlost, hdropped⟩
  obtain ⟨hledger₁, htorn₁, hlost₁, hdropped₁⟩ := hkept
  rw [hselected] at hexec
  rw [← hslot]
  exact ⟨_, hexec, State.bootSlot_shows hwf₁ hi hledger₁ htorn₁ hlost₁ hdropped₁ hhead₁⟩

/-- With neither slot bootable the module goes to recovery (R524). -/
theorem bootRomStart_recovers (hphase : s.clk.phase = .boot) (htrial : s.hlm.trialSlot = none) :
    ∃ t, exec (.bootRomStart false false none) s = .next t ∧ t.clk.phase = .recovery ∧ t.hlm.ledger = s.hlm.ledger ∧
      (∃ e ∈ t.flt.waiting, e.src = 0x0E05 ∧ e.cls = contained) := by
  obtain ⟨⟨m, d, hhlm⟩, -⟩ := s.romReady_keeps
  have hexec : exec (.bootRomStart false false none) s = .next s.romReady.romFailed :=
    (execBootRomStart_selects hphase htrial false false).trans (congrArg Host.Outcome.next s.romReady.romSelected_bad)
  obtain ⟨hrecovery, hledger, e, he, hsrc, hcls, -⟩ := s.romReady.romFailed_shows
  exact ⟨_, hexec, hrecovery, hledger.trans (by rw [hhlm]), e, he, hsrc, hcls⟩

/-- The BOOT entry is written and the main domain released with its rails in window (R525, R641). -/
theorem bootEntryWrite_releases (hwf : SMap.wf s.regs) (hphase : s.clk.phase = .keyed) (hpll : s.clk.rootPll = true)
    (hsafe : s.flag Reg.FLT_STATUS_SAFE_MODULE = false) :
    ∃ t, exec .bootEntryWrite s = .next t ∧ t.clk.phase = .released ∧ t.clk.bootWritten = true ∧ t.clk.lockApplied = true ∧
      t.flag Reg.PFE_STATUS_MAIN_ON = true ∧ t.flag Reg.PFE_RAIL_IN_WINDOW 0 = true ∧ t.flag Reg.PFE_RAIL_IN_WINDOW 7 = true ∧
      (SMap.find t.hlm.ledger s.ledgerHead).isSome = true ∧ t.tim.counter = s.tim.counter ∧ t.jnl = s.jnl := by
  have hexec : ∃ r : LedgerReq, exec .bootEntryWrite s = .next ((if s.ledgerFull && !s.ledgerContinues then s.program r
      else s.writeEntry r).modHlm (fun h => { h with touchExit := false })).mainReleased :=
    ⟨_, congrArg Host.Outcome.next (if_neg (by simp [hphase, hpll, hsafe]))⟩
  obtain ⟨r, hexec⟩ := hexec
  have hentry : ∃ x : State, (if s.ledgerFull && !s.ledgerContinues then s.program r else s.writeEntry r) = x ∧ Written s x ∧
      (SMap.find x.hlm.ledger s.ledgerHead).isSome = true := by
    split
    · exact ⟨_, rfl, Written.program s r, s.isSome_program r (.inl rfl)⟩
    · exact ⟨_, rfl, Written.writeEntry s r, State.isSome_writeEntry hwf r⟩
  obtain ⟨x, hx, hwritten, hsome⟩ := hentry
  rw [hx] at hexec
  obtain ⟨-, htim, hjnl, -⟩ := hwritten.keeps
  obtain ⟨hreleased, hboot, hlock, hmain, hfirst, hlast, hhlm, hcounter, hjnl'⟩ :=
    (x.modHlm (fun h => { h with touchExit := false })).mainReleased_shows
  refine ⟨_, hexec, hreleased, hboot, hlock, hmain, hfirst, hlast, ?_, hcounter.trans (congrArg Tim.counter htim), hjnl'.trans hjnl⟩
  rw [hhlm]
  exact hsome

/-- An anchor is an ANCHOR occasion (R567). -/
theorem anchor_ledges {x y : Nat} (hanchor : s.tim.anchor = some (1, x, y)) (hruns : s.hlmRuns = true) :
    ∃ t, exec .anchor s = .next t ∧ t.tim = { s.tim with anchor := none } ∧ t.flag Reg.TIM_STATUS_ANCHORED = true ∧
      t.hlm = { s.hlm with due := s.hlm.due ++ [{ kind := 3, flags := 0, cause := leBytes 4 0, area := timeBytes x, time := some y }] } := by
  have hexec : exec .anchor s = .next ({ ((s.ledgeAt 3 (timeBytes x) y).recordTime 1 0 s.quality x y).setFlag Reg.TIM_STATUS_ANCHORED 0 true with
      tim := { (((s.ledgeAt 3 (timeBytes x) y).recordTime 1 0 s.quality x y).setFlag Reg.TIM_STATUS_ANCHORED 0 true).tim with anchor := none } } : State) := by
    change execAnchor s = _
    rw [execAnchor, hanchor]
    exact congrArg Host.Outcome.next (if_neg (by simp [hruns]))
  obtain ⟨regs, trec, hrecord⟩ := (s.ledgeAt 3 (timeBytes x) y).record_frame 0x0B 0
    (leBytes 1 1 ++ leBytes 1 0 ++ leBytes 1 s.quality ++ [0, 0, 0, 0, 0] ++ timeBytes x ++ timeBytes y)
  rw [State.recordTime, hrecord] at hexec
  refine ⟨_, hexec, rfl, ?_, rfl⟩
  generalize ({ s.ledgeAt 3 (timeBytes x) y with regs := regs, trec := trec } : State) = z
  have hset := z.find_setFlag_true (f := Reg.TIM_STATUS_ANCHORED) (i := 0) rfl rfl (Reg.TIM_STATUS_ANCHORED.key 0)
  rw [if_pos rfl] at hset
  exact (State.flag_congr rfl _ _).trans (State.flag_of_find hset)

/-- The oldest occasion is written at the head while the ledger has room (R531). -/
theorem ledgerEntryWrite_writes {o : Occasion} {r : List Occasion} (hwf : SMap.wf s.regs) (hdue : s.hlm.due = o :: r) (hruns : s.hlmRuns = true)
    (htorn : s.hlm.torn = []) (hroom : s.ledgerFull = false) (hpend : s.hlm.pend = []) (himm : s.pfe.imminent = false)
    (hlost : s.hlm.gapLost = none) (hdropped : s.hlm.dropped = 0) (hkind : o.kind < 16) (hflags : o.flags % 16 = 0) :
    ∃ t, exec .ledgerEntryWrite s = .next t ∧ t.hlm.due = r ∧ t.get Reg.HLM_LEDGER_HEAD = (s.ledgerHead + 1) % 2 ^ 32 ∧
      (∃ e, SMap.find t.hlm.ledger s.ledgerHead = some e ∧ fieldAt e 6 2 % 16 = o.kind) ∧ t.jnl = s.jnl ∧ t.tim = s.tim ∧ t.out = s.out := by
  have hexec : exec .ledgerEntryWrite s = .next ((s.modHlm (fun h => { h with due := r })).writeEntry (s.formEntry o s.digest)) := by
    change execLedgerEntryWrite s = _
    rw [execLedgerEntryWrite, hdue]
    refine congrArg Host.Outcome.next ((if_neg (by simp [hruns, htorn])).trans ?_)
    have hkept : (s.modHlm (fun h => { h with due := r })).ledgerFull = false ∧ (s.modHlm (fun h => { h with due := r })).hlm.pend = [] ∧
        (s.modHlm (fun h => { h with due := r })).pfe.imminent = false := ⟨hroom, hpend, himm⟩
    obtain ⟨hroom', hpend', himm'⟩ := hkept
    exact (if_neg (by simp [hroom', hpend'])).trans ((if_neg (by simp [himm'])).trans (if_neg (by simp [himm'])))
  obtain ⟨hhead, hentry⟩ := State.writeEntry_shows (s := s.modHlm (fun h => { h with due := r })) hwf hroom hlost hdropped (s.formEntry o s.digest)
  obtain ⟨-, htim, hjnl, hout, hdue', -⟩ := (Written.writeEntry (s.modHlm (fun h => { h with due := r })) (s.formEntry o s.digest)).keeps
  exact ⟨_, hexec, hdue', hhead, ⟨_, hentry, State.formEntry_kind _ _ _ hkind hflags _⟩, hjnl, htim, hout⟩

/-- A reclaimed block resumes a held boot (R538, R601). -/
theorem ledgerBlockReclaim_resumes (hroom : s.ledgerFull = false) (hphase : s.clk.phase = .ledgerHold) :
    ∃ t, exec .ledgerBlockReclaim s = .next t ∧ t.clk.phase = .keyed ∧ t.clk.startTick = s.tick ∧ t.jnl = s.jnl := by
  have hexec : exec .ledgerBlockReclaim s = .next ({ s with clk := { s.clk with startTick := s.tick } } : State).writeKey :=
    congrArg Host.Outcome.next ((if_neg (by simp [hroom])).trans (if_pos hphase))
  obtain ⟨hclk, hjnl⟩ := ({ s with clk := { s.clk with startTick := s.tick } } : State).writeKey_keeps
  exact ⟨_, hexec, congrArg Clk.phase hclk, congrArg Clk.startTick hclk, hjnl⟩

/-- A trial past its deadline asks for a MODULE start with trigger 7 (R544). -/
theorem trialBootDeadline_reverts (htrial : s.flag Reg.HLM_STATUS_TRIAL = true) (hphase : s.clk.phase = .released) :
    exec .trialBootDeadline s = .next { s with clk := { s.clk with startPend := some { kind := 2, trigger := 7, source := 0 } } } :=
  congrArg Host.Outcome.next (if_pos (by simp [htrial, hphase]))

end

/-- Settles O22: the lemmas above, one for each clause. -/
theorem measuredBootAndLedger : Obligations.MeasuredBootAndLedger :=
  ⟨fun _ _ _ _ hwf hphase htrial hcommitted hi hgood hboots _ => bootRomStart_boots hwf hphase htrial hcommitted hi hgood hboots,
    fun _ => bootRomStart_recovers, fun _ => bootEntryWrite_releases, fun _ _ _ => anchor_ledges, fun _ _ _ => ledgerEntryWrite_writes,
    fun _ => ledgerBlockReclaim_resumes, fun _ => trialBootDeadline_reverts⟩

end Sys2Proof.Claims

end
